-- ==== Sys2Proof/Word.lean ====
section
/-! DEFINITION. The word types of the S9: 32-bit registers, bytes, 14-bit lanes and 56-bit words of four lanes. -/

namespace Sys2Proof

/-- A register or a Yoke word (R24, R114). -/
abbrev Word := BitVec 32

/-- A byte of byte space (R18). -/
abbrev Byte := BitVec 8

/-- A lane, the step of lane space (R19). -/
abbrev Lane := BitVec 14

/-- A word of lane space: four lanes, lane k in bits 14k+13..14k (R19). -/
abbrev Quadlane := BitVec 56

/-- The time base of a die, in tq (R54). -/
abbrev Time := BitVec 64

end Sys2Proof
end

