-- ==== Sys2Proof/Syntax.lean ====
section
/-! DEFINITION. The commands of the block: one constructor for each row of the spec's table of operations and events,
with the operands the row's rule names. `d` is a die, `t` the tenant that makes an access; values the block measures or
receives from outside (samples, received frames, bytes of host memory, widths of pin lows) are operands. -/

namespace Sys2Proof

/-- A tick mark (R66): tick number, absolute start time, the setting (P, A, S) of that tick, and the skip indication. -/
structure Mark where
  num : BitVec 48
  start : BitVec 64
  p : Nat
  a : Nat
  s : Nat
  skip : Bool
  deriving DecidableEq, Repr

/-- What sensing finds at one fuse row (R813): the row failed its integrity check, or was corrected. -/
structure HemFinding where
  die : Fin 4
  row : Fin 512
  failed : Bool
  deriving DecidableEq, Repr

/-- A membership message that a flit on a group link carries (R705 to R707): package 0 accepts a join with its time, or
refuses it with a RESULT code; a member leaves; package 0 drops this package at a skew. -/
inductive GroupMsg
  | accept (time : BitVec 64)
  | refuse (result : Fin 16)
  | leave (p : Fin 8)
  | drop (skew : Int)
  deriving DecidableEq, Repr

/-- Where a register access goes: a device address, with the tenant that makes the access (R18, R25), or an offset in the
host's BAR0, which decides the tenant (R158). -/
inductive RegAddr
  | dev (t : Fin 256) (addr : BitVec 40)
  | bar0 (off : BitVec 28)
  deriving DecidableEq, Repr

/-- The commands. -/
inductive Instr where
  /-- SYNC (R737). -/
  | cSync
  /-- DIE (R737). -/
  | cDie (d : Fin 4)
  /-- FRAMEADDR (R737). -/
  | cFrameaddr (frame : BitVec 18)
  /-- FRAMEWRITE (R738). -/
  | cFramewrite (N : Nat) (cmp : Bool) (data : List Word)
  /-- REGWRITE (R741). -/
  | cRegwrite (unit : Fin 32) (off4 : BitVec 18) (v : Word)
  /-- REGIONBEGIN (R747). -/
  | cRegionbegin (r : Fin 64) (first : BitVec 7) (last : BitVec 7)
  /-- REGIONEND (R748). -/
  | cRegionend (r : Fin 64)
  /-- CHECK (R743). -/
  | cCheck (crc : Word)
  /-- WAIT (R742). -/
  | cWait (us : BitVec 20)
  /-- WAIT_POLL (R742). -/
  | cWaitPoll (us : BitVec 20) (unit : Fin 32) (off4 : BitVec 18) (mask : Word) (v : Word)
  /-- WAIT_REQUIRE (R742). -/
  | cWaitRequire (us : BitVec 20) (unit : Fin 32) (off4 : BitVec 18) (mask : Word) (v : Word)
  /-- IMAGEID (R744). -/
  | cImageid (lo : Word) (hi : Word)
  /-- LOADMEM (R739). -/
  | cLoadmem (region : Fin 4) (N : Nat) (cmp : Bool) (lane : Word) (data : List Word)
  /-- LOADCODE_RENTIK (R740). -/
  | cLoadcodeRentik (set : BitVec 16) (image : List Word)
  /-- LOADCODE_YOKE (R740). -/
  | cLoadcodeYoke (addr : BitVec 14) (words : List Word)
  /-- CFG_END (R746). -/
  | cEnd
  /-- PORN_FALL (R904). -/
  | pornFall (ns : Nat)
  /-- PORN_RELEASE (R903). -/
  | pornRelease (g2 : Bool) (bootsel : Fin 4) (found : List HemFinding)
  /-- SRST_N_FALL (R905). -/
  | srstNFall (ns : Nat)
  /-- SRST_END (R905). -/
  | srstEnd
  /-- PERST_N_ASSERT (R906). -/
  | perstNAssert
  /-- DBG_PORN (R852). -/
  | dbgPorn
  /-- VAON_POWER_UP (R474). -/
  | vaonPowerUp (aSafe : Bool) (bSafe : Bool)
  /-- REGISTER_WRITE (R45). -/
  | registerWrite (a : RegAddr) (bytes : Nat) (v : Word)
  /-- SYS_COMPAT_WRITE (R33). -/
  | sysCompatWrite (t : Fin 256) (d : Fin 4) (v : Word)
  /-- SYS_GRANT_WRITE (R14). -/
  | sysGrantWrite (t : Fin 256) (d : Fin 4) (i : Fin 256) (v : Word)
  /-- TIME_EXCHANGE (R59). -/
  | timeExchange (d : Fin 4) (grp : Option (Fin 8)) (t0 : BitVec 64)
  /-- TBREF_HOLDOVER (R58). -/
  | tbrefHoldover
  /-- TBREF_LOCK (R56). -/
  | tbrefLock
  /-- TICK_START (R67). -/
  | tickStart (d : Fin 4) (fec : List Nat)
  /-- ACQUIRE_END (R457). -/
  | acquireEnd (d : Fin 4)
  /-- STITCH_START (R71). -/
  | stitchStart (d : Fin 4)
  /-- EXTENDED_STITCH_START (R75). -/
  | extendedStitchStart
  /-- EXTENSION_DEADLINE (R76). -/
  | extensionDeadline (d : Fin 4)
  /-- SLACK_START (R62). -/
  | slackStart (d : Fin 4)
  /-- TICK_MARK (R67). -/
  | tickMark (d : Fin 4) (m : Mark)
  /-- TICK_PREDICTED_START (R68). -/
  | tickPredictedStart (d : Fin 4)
  /-- TICK_MARK_TIMEOUT (R68). -/
  | tickMarkTimeout (d : Fin 4)
  /-- TICK_APPLY (R89). -/
  | tickApply (t : Fin 256) (v : Word)
  /-- TICK_RUN_SET (R87). -/
  | tickRunSet (t : Fin 256)
  /-- TICK_RUN_CLEAR (R88). -/
  | tickRunClear (t : Fin 256)
  /-- TIME_SET (R91). -/
  | timeSet (t : Fin 256) (v : Word)
  /-- TIME_NOW_READ (R93). -/
  | timeNowRead (t : Fin 256) (d : Fin 4) (tick : Bool)
  /-- RING_ENABLE (R95). -/
  | ringEnable (t : Fin 256) (i : Fin 256) (v : Word)
  /-- EVENT_RECORD (R81). -/
  | eventRecord (d : Fin 4)
  /-- RECORD_MERGE_RELEASE (R81). -/
  | recordMergeRelease
  /-- NOP (R123). -/
  | yNop (d : Fin 4)
  /-- END (R116). -/
  | yEnd (d : Fin 4)
  /-- J (R123). -/
  | yJ (d : Fin 4) (T : BitVec 14)
  /-- BEQ (R123). -/
  | yBeq (d : Fin 4) (A : Fin 16) (B : Fin 16) (T : BitVec 14)
  /-- BNE (R123). -/
  | yBne (d : Fin 4) (A : Fin 16) (B : Fin 16) (T : BitVec 14)
  /-- BLT (R123). -/
  | yBlt (d : Fin 4) (A : Fin 16) (B : Fin 16) (T : BitVec 14)
  /-- BGE (R123). -/
  | yBge (d : Fin 4) (A : Fin 16) (B : Fin 16) (T : BitVec 14)
  /-- JL (R123). -/
  | yJl (d : Fin 4) (D : Fin 16) (T : BitVec 14)
  /-- JR (R123). -/
  | yJr (d : Fin 4) (A : Fin 16)
  /-- YOKE_ADD (R123). -/
  | yAdd (d : Fin 4) (D : Fin 16) (A : Fin 16) (B : Fin 16)
  /-- YOKE_SUB (R123). -/
  | ySub (d : Fin 4) (D : Fin 16) (A : Fin 16) (B : Fin 16)
  /-- YOKE_AND (R123). -/
  | yAnd (d : Fin 4) (D : Fin 16) (A : Fin 16) (B : Fin 16)
  /-- YOKE_OR (R123). -/
  | yOr (d : Fin 4) (D : Fin 16) (A : Fin 16) (B : Fin 16)
  /-- YOKE_XOR (R123). -/
  | yXor (d : Fin 4) (D : Fin 16) (A : Fin 16) (B : Fin 16)
  /-- YOKE_SHL (R123). -/
  | yShl (d : Fin 4) (D : Fin 16) (A : Fin 16) (B : Fin 16)
  /-- YOKE_SHR (R123). -/
  | yShr (d : Fin 4) (D : Fin 16) (A : Fin 16) (B : Fin 16)
  /-- SRA (R123). -/
  | ySra (d : Fin 4) (D : Fin 16) (A : Fin 16) (B : Fin 16)
  /-- YOKE_ADDI (R121). -/
  | yAddi (d : Fin 4) (D : Fin 16) (A : Fin 16) (K : BitVec 18)
  /-- ORI (R123). -/
  | yOri (d : Fin 4) (D : Fin 16) (A : Fin 16) (K : BitVec 18)
  /-- LUI (R123). -/
  | yLui (d : Fin 4) (D : Fin 16) (K : BitVec 16)
  /-- ANDI (R123). -/
  | yAndi (d : Fin 4) (D : Fin 16) (A : Fin 16) (K : BitVec 18)
  /-- WAITT (R123). -/
  | yWaitt (d : Fin 4) (A : Fin 16) (K : BitVec 18)
  /-- WAITT_RESUME (R175). -/
  | waittResume (d : Fin 4)
  /-- YOKE_RDT (R123). -/
  | yRdt (d : Fin 4) (D : Fin 16) (F : BitVec 14)
  /-- ARM (R451). -/
  | yArm (d : Fin 4) (A : Fin 16) (B : Fin 16) (F : BitVec 14)
  /-- FIRE (R132). -/
  | yFire (d : Fin 4) (D : Fin 16) (A : Fin 16) (B : Fin 16)
  /-- ACQST (R129). -/
  | yAcqst (d : Fin 4) (D : Fin 16) (A : Fin 16)
  /-- DISP (R133). -/
  | yDisp (d : Fin 4) (D : Fin 16) (A : Fin 16) (B : Fin 16)
  /-- STITCH (R137). -/
  | yStitch (d : Fin 4) (A : Fin 16)
  /-- UNPICK (R137). -/
  | yUnpick (d : Fin 4) (A : Fin 16)
  /-- DRAW (R207). -/
  | yDraw (d : Fin 4) (A : Fin 16) (B : Fin 16)
  /-- LEDGER (R230). -/
  | yLedger (d : Fin 4) (D : Fin 16) (A : Fin 16) (F : BitVec 14)
  /-- LDR (R128). -/
  | yLdr (d : Fin 4) (D : Fin 16) (A : Fin 16) (K : BitVec 18)
  /-- STR (R128). -/
  | yStr (d : Fin 4) (D : Fin 16) (A : Fin 16) (K : BitVec 18)
  /-- LDL (R123). -/
  | yLdl (d : Fin 4) (D : Fin 16) (A : Fin 16) (K : BitVec 18)
  /-- STL (R123). -/
  | yStl (d : Fin 4) (D : Fin 16) (A : Fin 16) (K : BitVec 18)
  /-- SEND (R138). -/
  | ySend (d : Fin 4) (A : Fin 16) (B : Fin 16)
  /-- RECV (R138). -/
  | yRecv (d : Fin 4) (D : Fin 16)
  /-- SVC_WDOG (R831). -/
  | svcWdog (d : Fin 4) (A : Fin 16)
  /-- SVC_EVENT (R139). -/
  | svcEvent (d : Fin 4) (A : Fin 16)
  /-- SVC_NOTIFY (R139). -/
  | svcNotify (d : Fin 4) (A : Fin 16)
  /-- SVC_ILKCLR (R473). -/
  | svcIlkclr (d : Fin 4) (A : Fin 16)
  /-- RELOAD (R140). -/
  | yReload (d : Fin 4) (A : Fin 16) (B : Fin 16)
  /-- YOKE_ILLEGAL_OPCODE (R184). -/
  | yokeIllegalOpcode (d : Fin 4)
  /-- MAILBOX_MESSAGE (R138). -/
  | mailboxMessage (d : Fin 4)
  /-- REMOTE_READ_REQUEST (R698). -/
  | remoteReadRequest (id : Nat)
  /-- REMOTE_WRITE (R653). -/
  | remoteWrite (id : Nat)
  /-- READ_RESPONSE (R148). -/
  | readResponse (id : Nat)
  /-- REMOTE_ACCESS_TIMEOUT (R148). -/
  | remoteAccessTimeout (id : Nat)
  /-- YOKE_IMEM_WRITE (R117). -/
  | yokeImemWrite (t : Fin 256) (d : Fin 4) (i : BitVec 14) (v : Word)
  /-- YOKE_RTO_WRITE (R147). -/
  | yokeRtoWrite (t : Fin 256) (v : Word)
  /-- RD_VALID_WRITE (R143). -/
  | rdValidWrite (t : Fin 256) (d : Fin 4) (n : Fin 1024) (v : Word)
  /-- SQ_TAIL_WRITE (R164). -/
  | sqTailWrite (t : Fin 256) (v : Word)
  /-- CQ_HEAD_WRITE (R170). -/
  | cqHeadWrite (t : Fin 256) (v : Word)
  /-- QUEUE_ENABLE (R171). -/
  | queueEnable (t : Fin 256) (cq : Bool) (v : Word)
  /-- COMMAND_FETCH (R169). -/
  | commandFetch (t : Fin 256) (desc : List Word)
  /-- CMD_NOP (R167). -/
  | cmdNop (t : Fin 256)
  /-- RUN (R165). -/
  | cmdRun (t : Fin 256)
  /-- RECIPE (R150). -/
  | cmdRecipe (t : Fin 256) (block : List Word)
  /-- RECIPE_STOP (R151). -/
  | cmdRecipeStop (t : Fin 256)
  /-- RECIPE_UPDATE (R167). -/
  | cmdRecipeUpdate (t : Fin 256) (block : List Word)
  /-- MOVE (R373). -/
  | cmdMove (t : Fin 256)
  /-- COMPLETION_WRITE (R168). -/
  | completionWrite (t : Fin 256)
  /-- HOST_WDOG_SERVICE (R831). -/
  | hostWdogService (t : Fin 256) (v : Word)
  /-- HOST_LANE_READ (R160). -/
  | hostLaneRead (off : BitVec 28) (bytes : Nat)
  /-- HOST_LANE_WRITE (R159). -/
  | hostLaneWrite (off : BitVec 28) (data : List Byte)
  /-- HSPI_WRITE (R173). -/
  | hspiWrite (off : Word) (v : Word)
  /-- HSPI_READ (R173). -/
  | hspiRead (off : Word)
  /-- HSPI_STATUS (R173). -/
  | hspiStatus
  /-- SMB_SEND_BYTE (R174). -/
  | smbSendByte (t : Fin 256) (v : Word)
  /-- SMB_RECEIVE_BYTE (R174). -/
  | smbReceiveByte (t : Fin 256) (v : Word)
  /-- SMB_WRITE_BYTE (R174). -/
  | smbWriteByte (t : Fin 256) (v : Word)
  /-- SMB_READ_BYTE (R174). -/
  | smbReadByte (t : Fin 256) (v : Word)
  /-- SMB_WRITE_WORD (R174). -/
  | smbWriteWord (t : Fin 256) (v : Word)
  /-- SMB_READ_WORD (R174). -/
  | smbReadWord (t : Fin 256) (v : Word)
  /-- SMB_BLOCK_WRITE (R174). -/
  | smbBlockWrite (t : Fin 256) (v : Word)
  /-- SMB_BLOCK_READ (R174). -/
  | smbBlockRead (t : Fin 256) (v : Word)
  /-- SMB_TRANSACTION_END (R174). -/
  | smbTransactionEnd (nack : Bool) (pecerr : Bool) (data : List Byte)
  /-- SMB_TIMEOUT (R174). -/
  | smbTimeout
  /-- ENERGY_SAMPLE (R192). -/
  | energySample (d : Fin 4) (ch : List Nat)
  /-- ENERGY_TOTAL (R197). -/
  | energyTotal (d : Fin 4)
  /-- ENERGY_REPORT_TIMER (R197). -/
  | energyReportTimer (d : Fin 4)
  /-- RESV_HI_WRITE (R199). -/
  | resvHiWrite (t : Fin 256) (v : Word)
  /-- RESV_ADJ_WRITE (R199). -/
  | resvAdjWrite (t : Fin 256) (v : Word)
  /-- DIE_CAP (R221). -/
  | dieCap (d : Fin 4)
  /-- CAP_WINDOW_END (R222). -/
  | capWindowEnd (d : Fin 4)
  /-- SENSOR_UPDATE (R224). -/
  | sensorUpdate (d : Fin 4) (temps : List (BitVec 12))
  /-- THERMAL_STEP (R225). -/
  | thermalStep (d : Fin 4)
  /-- THERMAL_TRIP (R248). -/
  | thermalTrip (d : Fin 4) (junction : Int)
  /-- BASTE_REPORT (R268). -/
  | basteReport (d : Fin 4)
  /-- BASTE_REPORT_MSG (R268). -/
  | basteReportMsg (d : Fin 4)
  /-- BASTE_OUTCOME_SEND (R269). -/
  | basteOutcomeSend
  /-- BASTE_REPORT_TIMEOUT (R269). -/
  | basteReportTimeout
  /-- BASTE_OUTCOME (R269). -/
  | basteOutcome (d : Fin 4)
  /-- BASTE_APPLY (R271). -/
  | basteApply (d : Fin 4)
  /-- BASTE_DRAIN_ENTRY (R271). -/
  | basteDrainEntry (d : Fin 4)
  /-- SHADOW_WRITEBACK (R272). -/
  | shadowWriteback (d : Fin 4) (bad : Bool)
  /-- PLL_ENABLE (R327). -/
  | pllEnable (t : Fin 256) (d : Fin 4) (k : Fin 6) (v : Word)
  /-- PLL_FRAC_WRITE (R327). -/
  | pllFracWrite (t : Fin 256) (d : Fin 4) (k : Fin 6) (v : Word)
  /-- PLL_LOCK (R304). -/
  | pllLock (d : Fin 4) (k : Fin 6)
  /-- PLL_UNLOCK (R339). -/
  | pllUnlock (d : Fin 4) (k : Fin 6)
  /-- JC_SOURCE_LOSS (R306). -/
  | jcSourceLoss (d : Fin 4) (j : Fin 2)
  /-- CKIN_MEASURE (R303). -/
  | ckinMeasure (d : Fin 4) (k : Fin 8) (khz : BitVec 20)
  /-- CKIN_LOST (R303). -/
  | ckinLost (d : Fin 4) (k : Fin 8) (quiet : Nat)
  /-- GSEL_WRITE (R328). -/
  | gselWrite (t : Fin 256) (d : Fin 4) (g : Fin 16) (v : Word)
  /-- CLOCK_SWITCH_COMPLETE (R329). -/
  | clockSwitchComplete (d : Fin 4) (g : Fin 16)
  /-- FABRIC_RESET_RELEASE (R315). -/
  | fabricResetRelease (d : Fin 4) (g : Fin 16)
  /-- REGION_RESET_WRITE (R326). -/
  | regionResetWrite (t : Fin 256) (d : Fin 4) (r : Fin 64) (v : Word)
  /-- REGION_DRAINED (R320). -/
  | regionDrained (d : Fin 4)
  /-- RELOAD_FRAMES_DONE (R320). -/
  | reloadFramesDone (d : Fin 4)
  /-- REGION_ISOLATE_CLEAR (R320). -/
  | regionIsolateClear (d : Fin 4)
  /-- SPORT_REQUEST (R322). -/
  | sportRequest (d : Fin 4) (p : Fin 16) (wr : Bool) (lane : BitVec 38) (en : BitVec 4) (data : BitVec 56)
  /-- SPORT_RESPONSE (R322). -/
  | sportResponse (d : Fin 4) (p : Fin 16)
  /-- DPORT_REQUEST (R323). -/
  | dportRequest (d : Fin 4) (q : Fin 8) (wr : Bool) (addr : BitVec 40) (en : BitVec 64) (data : List Byte)
  /-- DPORT_RESPONSE (R323). -/
  | dportResponse (d : Fin 4) (q : Fin 8)
  /-- BMEM_PORT_ACCESS (R350). -/
  | bmemPortAccess (d : Fin 4) (b : Fin 1536) (portB : Bool) (wr : Bool) (word : Fin 1024) (en : BitVec 4) (data : BitVec 56)
  /-- BMEM_FIFO_WRITE (R353). -/
  | bmemFifoWrite (d : Fin 4) (b : Fin 1536) (data : BitVec 56)
  /-- BMEM_FIFO_READ (R353). -/
  | bmemFifoRead (d : Fin 4) (b : Fin 1536)
  /-- BANK_REQ_WRITE (R360). -/
  | bankReqWrite (t : Fin 256) (d : Fin 4) (k : Fin 32) (v : Word)
  /-- BANK_STATE_DONE (R360). -/
  | bankStateDone (d : Fin 4) (k : Fin 32)
  /-- BANK_WAKE_DONE (R361). -/
  | bankWakeDone (d : Fin 4) (k : Fin 32)
  /-- INGEST_WRITE (R453). -/
  | ingestWrite (d : Fin 4) (c : Fin 10) (sample : BitVec 14) (severe : Bool) (sumRead : Nat)
  /-- LINING_WIPE (R368). -/
  | liningWipe (t : Fin 256) (d : Fin 4)
  /-- LINING_WIPE_DONE (R369). -/
  | liningWipeDone (d : Fin 4)
  /-- MOVER_GO (R377). -/
  | moverGo (t : Fin 256) (d : Fin 4) (m : Fin 4) (v : Word)
  /-- MOVER_COMPLETE (R373). -/
  | moverComplete (d : Fin 4) (m : Fin 4) (data : List Byte)
  /-- SPAD_INJECT_WRITE (R378). -/
  | spadInjectWrite (t : Fin 256) (d : Fin 4) (v : Word)
  /-- BMEM_INJECT_WRITE (R378). -/
  | bmemInjectWrite (t : Fin 256) (d : Fin 4) (v : Word)
  /-- RENTIK_NOP (R414). -/
  | rNop (d : Fin 4) (c : Fin 192)
  /-- LDV (R416). -/
  | rLdv (d : Fin 4) (c : Fin 192) (g : Fin 8) (R : BitVec 7) (A : Fin 32) (K : BitVec 12)
  /-- LDVP (R416). -/
  | rLdvp (d : Fin 4) (c : Fin 192) (g : Fin 8) (R : BitVec 7) (A : Fin 32) (K : BitVec 12)
  /-- STV (R416). -/
  | rStv (d : Fin 4) (c : Fin 192) (g : Fin 8) (R : BitVec 7) (A : Fin 32) (K : BitVec 12)
  /-- STVP (R416). -/
  | rStvp (d : Fin 4) (c : Fin 192) (g : Fin 8) (R : BitVec 7) (A : Fin 32) (K : BitVec 12)
  /-- LDS (R416). -/
  | rLds (d : Fin 4) (c : Fin 192) (g : Fin 8) (R : Fin 32) (A : Fin 32) (K : BitVec 12)
  /-- STS (R416). -/
  | rSts (d : Fin 4) (c : Fin 192) (g : Fin 8) (R : Fin 32) (A : Fin 32) (K : BitVec 12)
  /-- GETL (R416). -/
  | rGetl (d : Fin 4) (c : Fin 192) (g : Fin 8) (R : Fin 32) (X : BitVec 7) (L : Fin 16)
  /-- PUTL (R416). -/
  | rPutl (d : Fin 4) (c : Fin 192) (g : Fin 8) (R : BitVec 7) (A : Fin 32) (L : Fin 16)
  /-- XLD (R417). -/
  | rXld (d : Fin 4) (c : Fin 192) (g : Fin 8) (R : BitVec 7) (A : Fin 32) (F : Fin 4)
  /-- XST (R417). -/
  | rXst (d : Fin 4) (c : Fin 192) (g : Fin 8) (R : BitVec 7) (A : Fin 32) (F : Fin 4)
  /-- FENCE (R416). -/
  | rFence (d : Fin 4) (c : Fin 192) (g : Fin 8) (K : Fin 8)
  /-- MAC (R419). -/
  | rMac (d : Fin 4) (c : Fin 192) (g : Fin 8) (A : Fin 8) (X : BitVec 7) (Y : BitVec 7)
  /-- MACZ (R419). -/
  | rMacz (d : Fin 4) (c : Fin 192) (g : Fin 8) (A : Fin 8) (X : BitVec 7) (Y : BitVec 7)
  /-- MSU (R419). -/
  | rMsu (d : Fin 4) (c : Fin 192) (g : Fin 8) (A : Fin 8) (X : BitVec 7) (Y : BitVec 7)
  /-- MACB (R419). -/
  | rMacb (d : Fin 4) (c : Fin 192) (g : Fin 8) (A : Fin 8) (X : BitVec 7) (Y : BitVec 7) (L : Fin 16)
  /-- MACBZ (R419). -/
  | rMacbz (d : Fin 4) (c : Fin 192) (g : Fin 8) (A : Fin 8) (X : BitVec 7) (Y : BitVec 7) (L : Fin 16)
  /-- TAPM (R423). -/
  | rTapm (d : Fin 4) (c : Fin 192) (g : Fin 8) (A : Fin 8) (X : BitVec 7) (Y : BitVec 7) (L : Fin 16)
  /-- TAPMZ (R423). -/
  | rTapmz (d : Fin 4) (c : Fin 192) (g : Fin 8) (A : Fin 8) (X : BitVec 7) (Y : BitVec 7) (L : Fin 16)
  /-- AADD (R419). -/
  | rAadd (d : Fin 4) (c : Fin 192) (g : Fin 8) (A : Fin 8) (X : BitVec 7)
  /-- ACLR (R419). -/
  | rAclr (d : Fin 4) (c : Fin 192) (g : Fin 8) (A : Fin 8)
  /-- V_ADD (R420). -/
  | rVadd (d : Fin 4) (c : Fin 192) (g : Fin 8) (D : BitVec 7) (X : BitVec 7) (Y : BitVec 7)
  /-- V_SUB (R420). -/
  | rVsub (d : Fin 4) (c : Fin 192) (g : Fin 8) (D : BitVec 7) (X : BitVec 7) (Y : BitVec 7)
  /-- MIN (R420). -/
  | rMin (d : Fin 4) (c : Fin 192) (g : Fin 8) (D : BitVec 7) (X : BitVec 7) (Y : BitVec 7)
  /-- MAX (R420). -/
  | rMax (d : Fin 4) (c : Fin 192) (g : Fin 8) (D : BitVec 7) (X : BitVec 7) (Y : BitVec 7)
  /-- ABS (R420). -/
  | rAbs (d : Fin 4) (c : Fin 192) (g : Fin 8) (D : BitVec 7) (X : BitVec 7)
  /-- V_AND (R420). -/
  | rVand (d : Fin 4) (c : Fin 192) (g : Fin 8) (D : BitVec 7) (X : BitVec 7) (Y : BitVec 7)
  /-- V_OR (R420). -/
  | rVor (d : Fin 4) (c : Fin 192) (g : Fin 8) (D : BitVec 7) (X : BitVec 7) (Y : BitVec 7)
  /-- V_XOR (R420). -/
  | rVxor (d : Fin 4) (c : Fin 192) (g : Fin 8) (D : BitVec 7) (X : BitVec 7) (Y : BitVec 7)
  /-- SHLI (R420). -/
  | rShli (d : Fin 4) (c : Fin 192) (g : Fin 8) (D : BitVec 7) (X : BitVec 7) (n : Fin 16)
  /-- SRAI (R420). -/
  | rSrai (d : Fin 4) (c : Fin 192) (g : Fin 8) (D : BitVec 7) (X : BitVec 7) (n : Fin 16)
  /-- SRAR (R420). -/
  | rSrar (d : Fin 4) (c : Fin 192) (g : Fin 8) (D : BitVec 7) (X : BitVec 7) (n : Fin 16)
  /-- MOV (R420). -/
  | rMov (d : Fin 4) (c : Fin 192) (g : Fin 8) (D : BitVec 7) (X : BitVec 7)
  /-- BCST (R420). -/
  | rBcst (d : Fin 4) (c : Fin 192) (g : Fin 8) (D : BitVec 7) (X : BitVec 7) (L : Fin 16)
  /-- SPLAT (R420). -/
  | rSplat (d : Fin 4) (c : Fin 192) (g : Fin 8) (D : BitVec 7) (S : Fin 32)
  /-- CLT (R420). -/
  | rClt (d : Fin 4) (c : Fin 192) (g : Fin 8) (E : Fin 8) (X : BitVec 7) (Y : BitVec 7)
  /-- CEQ (R420). -/
  | rCeq (d : Fin 4) (c : Fin 192) (g : Fin 8) (E : Fin 8) (X : BitVec 7) (Y : BitVec 7)
  /-- CMK (R420). -/
  | rCmk (d : Fin 4) (c : Fin 192) (g : Fin 8) (E : Fin 8) (X : BitVec 7)
  /-- ACCN (R421). -/
  | rAccn (d : Fin 4) (c : Fin 192) (g : Fin 8) (D : BitVec 7) (E : Fin 8) (SH : Fin 64)
  /-- ACCC (R420). -/
  | rAccc (d : Fin 4) (c : Fin 192) (g : Fin 8) (D : BitVec 7) (E : Fin 8)
  /-- DIVS (R424). -/
  | rDivs (d : Fin 4) (c : Fin 192) (g : Fin 8) (E : Fin 8) (X : BitVec 7) (Y : BitVec 7) (first : Bool)
  /-- DIVF (R424). -/
  | rDivf (d : Fin 4) (c : Fin 192) (g : Fin 8) (D : BitVec 7) (E : Fin 8) (X : BitVec 7) (Y : BitVec 7)
  /-- S_ADD (R422). -/
  | rSadd (d : Fin 4) (c : Fin 192) (g : Fin 8) (D : Fin 32) (A : Fin 32) (B : Fin 32)
  /-- S_SUB (R422). -/
  | rSsub (d : Fin 4) (c : Fin 192) (g : Fin 8) (D : Fin 32) (A : Fin 32) (B : Fin 32)
  /-- S_AND (R422). -/
  | rSand (d : Fin 4) (c : Fin 192) (g : Fin 8) (D : Fin 32) (A : Fin 32) (B : Fin 32)
  /-- S_OR (R422). -/
  | rSor (d : Fin 4) (c : Fin 192) (g : Fin 8) (D : Fin 32) (A : Fin 32) (B : Fin 32)
  /-- S_XOR (R422). -/
  | rSxor (d : Fin 4) (c : Fin 192) (g : Fin 8) (D : Fin 32) (A : Fin 32) (B : Fin 32)
  /-- S_SHL (R422). -/
  | rSshl (d : Fin 4) (c : Fin 192) (g : Fin 8) (D : Fin 32) (A : Fin 32) (B : Fin 32)
  /-- S_SHR (R422). -/
  | rSshr (d : Fin 4) (c : Fin 192) (g : Fin 8) (D : Fin 32) (A : Fin 32) (B : Fin 32)
  /-- S_ADDI (R422). -/
  | rSaddi (d : Fin 4) (c : Fin 192) (g : Fin 8) (D : Fin 32) (A : Fin 32) (K : BitVec 14)
  /-- LI (R422). -/
  | rLi (d : Fin 4) (c : Fin 192) (g : Fin 8) (D : Fin 32) (K : BitVec 19)
  /-- LIH (R422). -/
  | rLih (d : Fin 4) (c : Fin 192) (g : Fin 8) (D : Fin 32) (K : BitVec 14)
  /-- SLT (R422). -/
  | rSlt (d : Fin 4) (c : Fin 192) (g : Fin 8) (D : Fin 8) (A : Fin 32) (B : Fin 32)
  /-- SEQ (R422). -/
  | rSeq (d : Fin 4) (c : Fin 192) (g : Fin 8) (D : Fin 8) (A : Fin 32) (B : Fin 32)
  /-- SPRED (R422). -/
  | rSpred (d : Fin 4) (c : Fin 192) (g : Fin 8) (D : Fin 8) (K : BitVec 16)
  /-- BR (R422). -/
  | rBr (d : Fin 4) (c : Fin 192) (g : Fin 8) (T : BitVec 12)
  /-- BZ (R422). -/
  | rBz (d : Fin 4) (c : Fin 192) (g : Fin 8) (A : Fin 32) (T : BitVec 12)
  /-- BNZ (R422). -/
  | rBnz (d : Fin 4) (c : Fin 192) (g : Fin 8) (A : Fin 32) (T : BitVec 12)
  /-- LOOP (R422). -/
  | rLoop (d : Fin 4) (c : Fin 192) (g : Fin 8) (A : Fin 32) (T : BitVec 12)
  /-- LOOPW (R425). -/
  | rLoopw (d : Fin 4) (c : Fin 192) (g : Fin 8) (A : Fin 32) (T : BitVec 12)
  /-- SETWB (R422). -/
  | rSetwb (d : Fin 4) (c : Fin 192) (g : Fin 8) (K : BitVec 6)
  /-- MODE (R402). -/
  | rMode (d : Fin 4) (c : Fin 192) (g : Fin 8) (K : Bool)
  /-- S_RDT (R422). -/
  | rSrdt (d : Fin 4) (c : Fin 192) (g : Fin 8) (D : Fin 32) (K : Fin 4)
  /-- S_STIM (R865). -/
  | rSstim (d : Fin 4) (c : Fin 192) (g : Fin 8) (A : Fin 32) (K : Fin 32)
  /-- DONE (R411). -/
  | rDone (d : Fin 4) (c : Fin 192) (g : Fin 8)
  /-- ILOAD_CTL_WRITE (R429). -/
  | iloadCtlWrite (t : Fin 256) (d : Fin 4) (v : Word)
  /-- ILOAD_DATA_WRITE (R429). -/
  | iloadDataWrite (t : Fin 256) (d : Fin 4) (v : Word)
  /-- ACQ_CTL_WRITE (R449). -/
  | acqCtlWrite (t : Fin 256) (d : Fin 4) (v : Word)
  /-- CONVERTER_READY (R449). -/
  | converterReady (d : Fin 4) (i : Fin 3)
  /-- CAPTURE_DONE (R454). -/
  | captureDone (d : Fin 4) (c : Fin 10)
  /-- PULSE_EDGE (R463). -/
  | pulseEdge (k : Fin 4)
  /-- PULSE_END (R463). -/
  | pulseEnd (k : Fin 4)
  /-- PMON_EDGE (R464). -/
  | pmonEdge (k : Fin 4) (at50 : Nat)
  /-- PMON_WINDOW_EXPIRE (R464). -/
  | pmonWindowExpire (k : Fin 4)
  /-- ILK_SAMPLE (R468). -/
  | ilkSample (a : Bool) (b : Bool)
  /-- ILK_UNSAFE (R470). -/
  | ilkUnsafe (chB : Bool) (ns : Nat)
  /-- ILK_DISCREPANCY_TIMEOUT (R471). -/
  | ilkDiscrepancyTimeout
  /-- ILK_CLEAR_WRITE (R473). -/
  | ilkClearWrite (t : Fin 256)
  /-- ILK_TD_WRITE (R472). -/
  | ilkTdWrite (t : Fin 256) (v : Word)
  /-- PSENSE_EN_WRITE (R477). -/
  | psenseEnWrite (t : Fin 256) (v : Word)
  /-- PSENSE_RECAPTURE (R477). -/
  | psenseRecapture (t : Fin 256) (v : Word)
  /-- PSENSE_SCAN (R475). -/
  | psenseScan (raws : List Int)
  /-- PSENSE_FRAME (R482). -/
  | psenseFrame
  /-- PLEAT_OUTPUT_END (R511). -/
  | pleatOutputEnd (d : Fin 4) (bad : Option Nat)
  /-- PLEAT_SET_ENABLE (R506). -/
  | pleatSetEnable (t : Fin 256) (d : Fin 4) (k : Fin 16) (v : Word)
  /-- PLEAT_SET_RESTART (R543). -/
  | pleatSetRestart (t : Fin 256) (d : Fin 4) (k : Fin 16)
  /-- PLEAT_JOB_GO (R536). -/
  | pleatJobGo (t : Fin 256) (d : Fin 4) (j : Fin 4) (v : Word)
  /-- PLEAT_JOB_START (R518). -/
  | pleatJobStart (d : Fin 4) (bad : Option Nat)
  /-- PLEAT_JOB_END (R536). -/
  | pleatJobEnd (d : Fin 4)
  /-- LANE_REQ_WRITE (R567). -/
  | laneReqWrite (t : Fin 256) (d : Fin 4) (k : Fin 8) (v : Word)
  /-- LANE_APPLY (R578). -/
  | laneApply (t : Fin 256) (d : Fin 4) (k : Fin 8) (v : Word) (lref0 : BitVec 20) (lref1 : BitVec 20)
  /-- LANE_STATE_DONE (R564). -/
  | laneStateDone (d : Fin 4) (k : Fin 8)
  /-- LANE_DEMAND (R568). -/
  | laneDemand (d : Fin 4) (k : Fin 8) (sd : Bool)
  /-- LANE_LOCK_LOSS (R586). -/
  | laneLockLoss (d : Fin 4) (k : Fin 8) (sdFell : Bool)
  /-- LANE_PLL_UNLOCK (R587). -/
  | lanePllUnlock (d : Fin 4) (k : Fin 8)
  /-- DFE_ADAPT (R561). -/
  | dfeAdapt (d : Fin 4) (k : Fin 8) (accs : List Int)
  /-- DFE_TAP_WRITE (R562). -/
  | dfeTapWrite (t : Fin 256) (d : Fin 4) (k : Fin 8) (tap : Fin 12) (v : Word)
  /-- DFE_RESET (R562). -/
  | dfeReset (t : Fin 256) (d : Fin 4) (k : Fin 8)
  /-- DFE_SNAPSHOT_READ (R562). -/
  | dfeSnapshotRead (t : Fin 256) (d : Fin 4) (k : Fin 8)
  /-- TXFIR_WRITE (R558). -/
  | txfirWrite (t : Fin 256) (d : Fin 4) (k : Fin 8) (v : Word)
  /-- CTLE_WRITE (R559). -/
  | ctleWrite (t : Fin 256) (d : Fin 4) (k : Fin 8) (v : Word)
  /-- PRBS_BITS_READ (R590). -/
  | prbsBitsRead (t : Fin 256) (d : Fin 4) (k : Fin 8) (bits : BitVec 64) (errs : Nat)
  /-- EYE_SCAN_GO (R573). -/
  | eyeScanGo (t : Fin 256) (d : Fin 4) (k : Fin 8) (v : Word)
  /-- EYE_SCAN_DONE (R573). -/
  | eyeScanDone (d : Fin 4) (k : Fin 8) (errs : Nat)
  /-- PCS_HIBER (R589). -/
  | pcsHiber (d : Fin 4) (k : Fin 8)
  /-- FLOW_TXREQ_WRITE (R600). -/
  | flowTxreqWrite (t : Fin 256) (d : Fin 4) (f : Fin 1024) (v : Word)
  /-- FLOW_TX_FRAME (R601). -/
  | flowTxFrame (d : Fin 4) (k : Fin 8)
  /-- FLOW_RX_FRAME (R602). -/
  | flowRxFrame (d : Fin 4) (k : Fin 8) (f : Fin 1024) (start : BitVec 64) (stop : BitVec 64) (data : List Byte)
  /-- FLOW_ENABLE (R612). -/
  | flowEnable (t : Fin 256) (d : Fin 4) (f : Fin 1024) (v : Word)
  /-- FLOW_RV_WRITE (R613). -/
  | flowRvWrite (t : Fin 256) (d : Fin 4) (f : Fin 1024) (v : Word)
  /-- FLOW_ALIVE_WRITE (R613). -/
  | flowAliveWrite (t : Fin 256) (d : Fin 4) (f : Fin 1024) (v : Word)
  /-- CHK_DATA_WRITE (R614). -/
  | chkDataWrite (t : Fin 256) (d : Fin 4) (c : Fin 256) (v : Word)
  /-- CHK_RESTART (R614). -/
  | chkRestart (t : Fin 256) (d : Fin 4) (c : Fin 256)
  /-- CHK_ALG_WRITE (R614). -/
  | chkAlgWrite (t : Fin 256) (d : Fin 4) (c : Fin 256) (v : Word)
  /-- DRAM_READ (R650). -/
  | dramRead (d : Fin 4) (port : Fin 16) (off : BitVec 38) (bytes : Nat) (errs : List Nat)
  /-- DRAM_WRITE (R645). -/
  | dramWrite (d : Fin 4) (port : Fin 16) (off : BitVec 38) (data : List Byte)
  /-- MERGE_FLUSH (R648). -/
  | mergeFlush (d : Fin 4) (g : Nat) (errs : List Nat)
  /-- REGULATOR_REFILL (R655). -/
  | regulatorRefill (d : Fin 4)
  /-- REFRESH_DUE (R657). -/
  | refreshDue (d : Fin 4) (rank : Fin 2) (bank : Fin 8) (rtQueued : Bool)
  /-- MR4_POLL (R657). -/
  | mr4Poll (d : Fin 4) (c0 : BitVec 3) (c1 : BitVec 3)
  /-- RETRAIN_DUE (R660). -/
  | retrainDue (d : Fin 4) (ok : Bool) (rank : Fin 2)
  /-- PATROL_READ (R661). -/
  | patrolRead (d : Fin 4) (errs : List Nat)
  /-- DRAM_INIT (R659). -/
  | dramInit (t : Fin 256) (d : Fin 4)
  /-- DRAM_INIT_DONE (R659). -/
  | dramInitDone (d : Fin 4) (ok : Bool) (rank : Fin 2)
  /-- DRAM_CLEAR (R644). -/
  | dramClear (t : Fin 256) (d : Fin 4)
  /-- DRAM_CLEAR_DONE (R644). -/
  | dramClearDone (d : Fin 4)
  /-- DRAM_FENCE (R647). -/
  | dramFence (t : Fin 256) (d : Fin 4)
  /-- DRAM_SELF_REFRESH (R662). -/
  | dramSelfRefresh (t : Fin 256) (d : Fin 4)
  /-- DRAM_SR_EXIT (R662). -/
  | dramSrExit (d : Fin 4)
  /-- DRAM_ENABLE (R668). -/
  | dramEnable (t : Fin 256) (d : Fin 4)
  /-- DRAM_MARK_WRITE (R669). -/
  | dramMarkWrite (t : Fin 256) (d : Fin 4) (v : Word)
  /-- LINK_TRAINING_DONE (R691). -/
  | linkTrainingDone (d : Fin 4) (n : Fin 4) (ok : Bool) (lat : BitVec 16)
  /-- FLIT_RECEIVE (R693). -/
  | flitReceive (d : Fin 4) (n : Fin 4) (m : Option GroupMsg)
  /-- FLIT_CRC_FAIL (R693). -/
  | flitCrcFail (d : Fin 4) (n : Fin 4)
  /-- FLIT_ACK (R693). -/
  | flitAck (d : Fin 4) (n : Fin 4) (lack : BitVec 8) (nak : Bool)
  /-- LINK_RETRY_TIMEOUT (R694). -/
  | linkRetryTimeout (d : Fin 4) (n : Fin 4)
  /-- LINK_RETRAIN (R696). -/
  | linkRetrain (t : Fin 256) (d : Fin 4) (n : Fin 4)
  /-- LINK_INJECT (R710). -/
  | linkInject (t : Fin 256) (d : Fin 4) (n : Fin 4)
  /-- GROUP_ENABLE (R704). -/
  | groupEnable (t : Fin 256) (v : Word)
  /-- GROUP_JOIN (R706). -/
  | groupJoin (t : Fin 256)
  /-- JOIN_REQUEST (R706). -/
  | joinRequest (p : Fin 8) (started : Bool) (image : BitVec 64) (size : Fin 8)
  /-- GROUP_LEAVE (R710). -/
  | groupLeave (t : Fin 256)
  /-- CFG_LOAD_START (R787). -/
  | cfgLoadStart (rec0 : List Byte) (rec1 : List Byte) (xspi8 : Bool) (wrOk : Bool)
  /-- CFG_LOAD (R756). -/
  | cfgLoad (t : Fin 256) (v : Word)
  /-- CFG_DATA_WRITE (R728). -/
  | cfgDataWrite (t : Fin 256) (v : Word)
  /-- CFG_HEADER (R731). -/
  | cfgHeader (hdr : List Byte)
  /-- CFG_CHUNK (R734). -/
  | cfgChunk (bytes : List Byte)
  /-- CFG_SOURCE_LOST (R728). -/
  | cfgSourceLost (quietMs : Nat)
  /-- WAIT_ELAPSED (R742). -/
  | waitElapsed (d : Fin 4)
  /-- WAIT_POLL_READ (R742). -/
  | waitPollRead (d : Fin 4)
  /-- CONFIG_FORWARD (R745). -/
  | configForward (d : Fin 4)
  /-- CFG_RELEASE (R746). -/
  | cfgRelease
  /-- CFG_FALLBACK (R751). -/
  | cfgFallback
  /-- DARNER_FRAME_CHECK (R775). -/
  | darnerFrameCheck (d : Fin 4) (flips : List Nat)
  /-- DARNER_MEM_READ (R775). -/
  | darnerMemRead (d : Fin 4) (e : Fin 3)
  /-- DARNER_PASS_END (R774). -/
  | darnerPassEnd (d : Fin 4)
  /-- FLASH_READ (R792). -/
  | flashRead (t : Fin 256) (v : Word)
  /-- FLASH_PROGRAM (R792). -/
  | flashProgram (t : Fin 256) (v : Word)
  /-- FLASH_ERASE_4K (R792). -/
  | flashErase4k (t : Fin 256) (v : Word)
  /-- FLASH_ERASE_64K (R792). -/
  | flashErase64k (t : Fin 256) (v : Word)
  /-- FLASH_OP_DONE (R792). -/
  | flashOpDone (ok : Bool) (data : List Word)
  /-- LIFECYCLE_TRANSITION (R818). -/
  | lifecycleTransition (t : Fin 256) (v : Word)
  /-- LC_ROW_PROGRAMMED (R818). -/
  | lcRowProgrammed (ok : Bool)
  /-- HEM_PROGRAM (R820). -/
  | hemProgram (t : Fin 256) (d : Fin 4)
  /-- HEM_PROGRAM_DONE (R820). -/
  | hemProgramDone (d : Fin 4) (ok : Bool)
  /-- TAMPER_TRIP (R823). -/
  | tamperTrip (d : Fin 4) (src : Fin 4) (ns : Nat)
  /-- TAMPER_EN_WRITE (R822). -/
  | tamperEnWrite (t : Fin 256) (d : Fin 4) (v : Word)
  /-- BBKEY_COMMIT (R826). -/
  | bbkeyCommit (t : Fin 256)
  /-- BBKEY_ERASE (R826). -/
  | bbkeyErase (t : Fin 256)
  /-- TAMPER_LOG_CLEAR (R836). -/
  | tamperLogClear (t : Fin 256)
  /-- WDOG_ENABLE (R829). -/
  | wdogEnable (t : Fin 256) (d : Fin 4) (v : Word)
  /-- WDOG_WINDOW_OPEN (R830). -/
  | wdogWindowOpen (d : Fin 4)
  /-- WDOG_EXPIRE (R832). -/
  | wdogExpire (d : Fin 4)
  /-- WDOUT_PULSE_END (R833). -/
  | wdoutPulseEnd (found : List HemFinding) (g2 : Bool) (bootsel : Fin 4)
  /-- DEBUG_READ (R858). -/
  | debugRead (t : Fin 256) (d : Fin 4) (v : Word)
  /-- DEBUG_WRITE (R858). -/
  | debugWrite (t : Fin 256) (d : Fin 4) (v : Word)
  /-- DEBUG_ACCESS_DONE (R860). -/
  | debugAccessDone (d : Fin 4)
  /-- YOKE_HALT (R861). -/
  | yokeHalt (t : Fin 256) (d : Fin 4)
  /-- YOKE_RESUME (R862). -/
  | yokeResume (t : Fin 256) (d : Fin 4)
  /-- YOKE_STEP (R862). -/
  | yokeStep (t : Fin 256) (d : Fin 4)
  /-- CLUSTER_HALT (R861). -/
  | clusterHalt (t : Fin 256) (d : Fin 4) (v : Word)
  /-- CLUSTER_RESUME (R862). -/
  | clusterResume (t : Fin 256) (d : Fin 4) (v : Word)
  /-- CLUSTER_STEP (R862). -/
  | clusterStep (t : Fin 256) (d : Fin 4) (v : Word)
  /-- YREG_WRITE (R862). -/
  | yregWrite (t : Fin 256) (d : Fin 4) (i : Fin 16) (v : Word)
  /-- CLSEL_READ (R862). -/
  | clselRead (t : Fin 256) (d : Fin 4) (v : Word)
  /-- CLSEL_WRITE (R862). -/
  | clselWrite (t : Fin 256) (d : Fin 4) (v : Word)
  /-- AUTH_NEWCHAL (R856). -/
  | authNewchal (t : Fin 256)
  /-- AUTH_GO (R856). -/
  | authGo (t : Fin 256)
  /-- AUTH_DONE (R856). -/
  | authDone
  /-- TRACE_CTL_WRITE (R876). -/
  | traceCtlWrite (t : Fin 256) (v : Word)
  /-- TAP_RESET (R871). -/
  | tapReset
  /-- TAP_EXTEST (R871). -/
  | tapExtest (d : Fin 4)
  /-- TAP_SAMPLE (R871). -/
  | tapSample (d : Fin 4) (pins : List Bool)
  /-- TAP_IDCODE (R872). -/
  | tapIdcode (d : Fin 4)
  /-- TAP_DBGACC_READ (R873). -/
  | tapDbgaccRead (d : Fin 4) (addr : BitVec 40) (lane : Bool)
  /-- TAP_DBGACC_WRITE (R873). -/
  | tapDbgaccWrite (d : Fin 4) (addr : BitVec 40) (lane : Bool) (data : BitVec 56)
  /-- TAP_CFGDATA (R871). -/
  | tapCfgdata (d : Fin 4) (v : Word)
  /-- TAP_HIGHZ (R871). -/
  | tapHighz (d : Fin 4)
  /-- TAP_CLAMP (R871). -/
  | tapClamp (d : Fin 4)
  /-- TAP_BYPASS (R871). -/
  | tapBypass (d : Fin 4)
  /-- RAIL_CHANGE (R907). -/
  | railChange (d : Fin 4) (bit : Fin 16) (ok : Bool)
  /-- RAIL_LOW_TIMEOUT (R928). -/
  | railLowTimeout (d : Fin 4) (bit : Fin 16)
  /-- RAIL_OK_TIMEOUT (R928). -/
  | railOkTimeout (d : Fin 4) (bit : Fin 16)
  /-- BROWNOUT_DIP (R908). -/
  | brownoutDip (d : Fin 4) (aux : Bool) (ns : Nat) (mv : Nat)
  /-- BROWNOUT_RESTART (R910). -/
  | brownoutRestart (found : List HemFinding) (g2 : Bool) (bootsel : Fin 4)
  /-- ALARM_CLEAR (R937). -/
  | alarmClear (t : Fin 256) (i : Fin 8) (v : Word)
  /-- AOL_CLEAR (R939). -/
  | aolClear (t : Fin 256)
  /-- TAMPER_CONDITION_END (R823). -/
  | tamperConditionEnd (d : Fin 4) (src : Fin 4)
  /-- VAON_LOSS (R903). -/
  | vaonLoss (vbat : Bool)
  /-- PERST_N_RELEASE (R906). -/
  | perstNRelease
  /-- PCIE_LINK_UP (R906). -/
  | pcieLinkUp (width : BitVec 3) (speed : BitVec 2)
  /-- MSIX_VECTOR_UNMASK (R172). -/
  | msixVectorUnmask (v : Fin 257)
  /-- REGISTER_READ (R46). -/
  | registerRead (a : RegAddr) (bytes : Nat)
  /-- LANE_CDR_LOCK (R563). -/
  | laneCdrLock (d : Fin 4) (k : Fin 8)
  /-- LANE_PLL_RELOCK (R587). -/
  | lanePllRelock (d : Fin 4) (k : Fin 8)
  /-- PRBS_CHECKER_LOCK (R572). -/
  | prbsCheckerLock (d : Fin 4) (k : Fin 8) (lock : Bool) (bits : BitVec 64) (errs : Nat)
  /-- PCS_BLOCK_LOCK (R570). -/
  | pcsBlockLock (d : Fin 4) (k : Fin 8) (lock : Bool)
  /-- TRACE_PORT_SEND (R869). -/
  | tracePortSend
  /-- SKIPPED_TICK_MARK (R864). -/
  | skippedTickMark
  /-- CLUSTER_QUIET (R411). -/
  | clusterQuiet (d : Fin 4) (c : Fin 192)
  /-- X_ACCESS_COMPLETE (R418). -/
  | xAccessComplete (d : Fin 4) (c : Fin 192) (i : Nat)
  deriving DecidableEq, Repr

end Sys2Proof
end

