-- ==== Sys2Proof/Decode.lean ====
section
/-! DEFINITION. The commands that a word spells by the bits of the opcode table. The table gives no row any bits: a
command reaches the block as an access, a message or an event, not as an encoded word. The words of a configuration
stream are decoded by `Machine.cfgDecode`. -/

namespace Sys2Proof

/-- The command whose bits are `w` in a row of `nbits` bits: no row has any. DESIGN CHOICE, log 14. -/
def decodeTableWord (_nbits _w : Nat) : Option Instr := none

end Sys2Proof
end

