-- ==== Sys2Proof/Config.lean ====
section
/-! DEFINITION. The values the spec leaves open: constants without a body, applied to a counter of the state or to the
operands they depend on. No proof can see a value of one. -/

namespace Sys2Proof.Config

/-- A fresh open choice of the hardware: "may or may not" (R904, R905, R908, R821 and the like). The argument is the
counter `Chip.free`. -/
opaque freeBool : Nat → Bool

/-- A fresh open 32-bit value. The argument is the counter `Chip.free`. -/
opaque freeWord : Nat → BitVec 32

/-- The byte that a DRAM byte never written since its contents were lost holds: die, then offset. -/
opaque dramPowerOn : Nat → Nat → BitVec 8

/-- What a die's Hem trim adds to 715 mV, before the range of R900. -/
opaque vreqStep : Nat → Nat

/-- The trim value of VREQ of a die in mV: 715 to 825 (R900); the spec does not say where the TRIM rows hold it. -/
def vreqTrim (d : Nat) : Nat := 715 + vreqStep d % 111

/-- Whether the configuration frames of a grain (word key and word) mark a block memory as a FIFO (R353); the spec does not
say where the marks lie. -/
opaque imageFifo : List (Nat × BitVec 32) → Nat → Bool

/-- Whether they put its output register into use (R351). -/
opaque imageLat2 : List (Nat × BitVec 32) → Nat → Bool

/-- SHA-256 of a byte string. -/
opaque sha256 : List (BitVec 8) → BitVec 256

/-- Whether an ECDSA P-384 signature (third) over a message (second) verifies under a public key (first). -/
opaque ecdsaOk : List (BitVec 8) → List (BitVec 8) → List (BitVec 8) → Bool

/-- AES-256-GCM: key, nonce, associated data, ciphertext, tag; the plaintext when the tag agrees. -/
opaque aesGcm : BitVec 256 → List (BitVec 8) → List (BitVec 8) → List (BitVec 8) → List (BitVec 8) →
  Option (List (BitVec 8))

end Sys2Proof.Config
end

