-- ==== Sys2Proof/Machine/Data.lean ====
section
/-! DEFINITION. Plain containers: sparse maps in one canonical form, the four dies, and sixteen lanes of a vector. -/

namespace Sys2Proof.Machine

/-- A sparse map: pairs of a key and a value, keys strictly rising, no value equal to what an unlisted key reads as. -/
abbrev SMap (α : Type) := List (Nat × α)

/-- The value at key `k`; an unlisted key reads as `dflt k`. -/
def mapGet {α : Type} (dflt : Nat → α) : SMap α → Nat → α
  | [], k => dflt k
  | (k', v) :: m, k => if k' = k then v else mapGet dflt m k

/-- The map without key `k`. -/
def mapErase {α : Type} : SMap α → Nat → SMap α
  | [], _ => []
  | (k', v) :: m, k => if k' = k then mapErase m k else (k', v) :: mapErase m k

/-- The pair placed before the first greater key. -/
def mapInsert {α : Type} : SMap α → Nat → α → SMap α
  | [], k, v => [(k, v)]
  | (k', v') :: m, k, v => if k < k' then (k, v) :: (k', v') :: m else (k', v') :: mapInsert m k v

/-- The map with `v` at key `k`; the value an unlisted key reads as removes the entry. -/
def mapPut {α : Type} [DecidableEq α] (dflt : Nat → α) (m : SMap α) (k : Nat) (v : α) : SMap α :=
  if v = dflt k then mapErase m k else mapInsert (mapErase m k) k v

/-- Apply `f` to every listed entry, keeping the canonical form. -/
def mapEach {α : Type} [DecidableEq α] (dflt : Nat → α) (f : Nat → α → α) : SMap α → SMap α
  | [] => []
  | (k, v) :: m => if f k v = dflt k then mapEach dflt f m else (k, f k v) :: mapEach dflt f m

/-- Every key of the map lies above `b`, keys rise strictly, and no entry holds its default. -/
def mapFrom {α : Type} [DecidableEq α] (dflt : Nat → α) : Nat → SMap α → Bool
  | _, [] => true
  | b, (k, v) :: m => decide (b ≤ k) && decide (v ≠ dflt k) && mapFrom dflt (k + 1) m

/-- The canonical form. -/
def mapWf {α : Type} [DecidableEq α] (dflt : Nat → α) (m : SMap α) : Bool := mapFrom dflt 0 m

/-- One value for each of the four dies. -/
structure Quad (α : Type) where
  q0 : α
  q1 : α
  q2 : α
  q3 : α
  deriving DecidableEq, Repr

/-- The value of die `d`. -/
def Quad.get {α : Type} (q : Quad α) (d : Fin 4) : α :=
  match d with
  | 0 => q.q0
  | 1 => q.q1
  | 2 => q.q2
  | 3 => q.q3

/-- The values with die `d`'s replaced. -/
def Quad.set {α : Type} (q : Quad α) (d : Fin 4) (v : α) : Quad α :=
  match d with
  | 0 => { q with q0 := v }
  | 1 => { q with q1 := v }
  | 2 => { q with q2 := v }
  | 3 => { q with q3 := v }

/-- The same value on every die. -/
def Quad.all {α : Type} (v : α) : Quad α := ⟨v, v, v, v⟩

/-- Apply `f` to every die's value. -/
def Quad.map {α β : Type} (f : α → β) (q : Quad α) : Quad β := ⟨f q.q0, f q.q1, f q.q2, f q.q3⟩

/-- Sixteen lanes of a Rentik vector or accumulator (R395). -/
structure Lanes (α : Type) where
  l0 : α
  l1 : α
  l2 : α
  l3 : α
  l4 : α
  l5 : α
  l6 : α
  l7 : α
  l8 : α
  l9 : α
  l10 : α
  l11 : α
  l12 : α
  l13 : α
  l14 : α
  l15 : α
  deriving DecidableEq, Repr

/-- The sixteen values a function gives. -/
def Lanes.ofFn {α : Type} (f : Nat → α) : Lanes α :=
  ⟨f 0, f 1, f 2, f 3, f 4, f 5, f 6, f 7, f 8, f 9, f 10, f 11, f 12, f 13, f 14, f 15⟩

/-- Lane `i`; an index above 15 reads lane 15. -/
def Lanes.get {α : Type} (v : Lanes α) (i : Nat) : α :=
  match i with
  | 0 => v.l0
  | 1 => v.l1
  | 2 => v.l2
  | 3 => v.l3
  | 4 => v.l4
  | 5 => v.l5
  | 6 => v.l6
  | 7 => v.l7
  | 8 => v.l8
  | 9 => v.l9
  | 10 => v.l10
  | 11 => v.l11
  | 12 => v.l12
  | 13 => v.l13
  | 14 => v.l14
  | _ => v.l15

/-- The lanes with lane `i` replaced. -/
def Lanes.set {α : Type} (v : Lanes α) (i : Nat) (a : α) : Lanes α :=
  Lanes.ofFn fun j => if j = i then a else v.get j

/-- The lanes under `f`. -/
def Lanes.map {α β : Type} (f : α → β) (v : Lanes α) : Lanes β := Lanes.ofFn fun i => f (v.get i)

/-- Two vectors combined lane by lane. -/
def Lanes.zip {α β γ : Type} (f : α → β → γ) (v : Lanes α) (w : Lanes β) : Lanes γ :=
  Lanes.ofFn fun i => f (v.get i) (w.get i)

/-- The lanes as a list, lane 0 first. -/
def Lanes.toList {α : Type} (v : Lanes α) : List α :=
  [v.l0, v.l1, v.l2, v.l3, v.l4, v.l5, v.l6, v.l7, v.l8, v.l9, v.l10, v.l11, v.l12, v.l13, v.l14, v.l15]

end Sys2Proof.Machine
end

