-- ==== Sys2Proof/Machine/Kinds.lean ====
section
/-! DEFINITION. The event catalogue (R933): the code, class and rings of every kind. -/

namespace Sys2Proof.Machine

/-- The fault classes of R29; `none` is the class of STIM, which has none. -/
inductive Cls | c | p | t | d | f | none
  deriving DecidableEq, Repr

/-- The rings a kind is delivered to (R931): the tenant's, the supervisor's, both, or none. -/
inductive Rings | ten | sup | both | none
  deriving DecidableEq, Repr

namespace K

/-- Kind ABSENT. -/
abbrev ABSENT : Nat := 0x01
/-- Kind ACCFLT. -/
abbrev ACCFLT : Nat := 0x02
/-- Kind NOGRANT. -/
abbrev NOGRANT : Nat := 0x03
/-- Kind REFLOSS. -/
abbrev REFLOSS : Nat := 0x04
/-- Kind TIMESKEW. -/
abbrev TIMESKEW : Nat := 0x05
/-- Kind TICKMISS. -/
abbrev TICKMISS : Nat := 0x06
/-- Kind TICKLOST. -/
abbrev TICKLOST : Nat := 0x07
/-- Kind TICKSKIP. -/
abbrev TICKSKIP : Nat := 0x08
/-- Kind USER. -/
abbrev USER : Nat := 0x09
/-- Kind OVERRUN. -/
abbrev OVERRUN : Nat := 0x10
/-- Kind YOKEOVR. -/
abbrev YOKEOVR : Nat := 0x11
/-- Kind YOKEFLT. -/
abbrev YOKEFLT : Nat := 0x12
/-- Kind DEFER. -/
abbrev DEFER : Nat := 0x13
/-- Kind RTIMEOUT. -/
abbrev RTIMEOUT : Nat := 0x14
/-- Kind LATE. -/
abbrev LATE : Nat := 0x15
/-- Kind BADDB. -/
abbrev BADDB : Nat := 0x16
/-- Kind COSTMISS. -/
abbrev COSTMISS : Nat := 0x20
/-- Kind EXHAUST. -/
abbrev EXHAUST : Nat := 0x21
/-- Kind RESERVE. -/
abbrev RESERVE : Nat := 0x22
/-- Kind RESVEXIT. -/
abbrev RESVEXIT : Nat := 0x23
/-- Kind RESVLOW. -/
abbrev RESVLOW : Nat := 0x24
/-- Kind CAPLEVEL. -/
abbrev CAPLEVEL : Nat := 0x25
/-- Kind CAPMISS. -/
abbrev CAPMISS : Nat := 0x26
/-- Kind THERMTHR. -/
abbrev THERMTHR : Nat := 0x27
/-- Kind THERMSTOP. -/
abbrev THERMSTOP : Nat := 0x28
/-- Kind RESOLVE. -/
abbrev RESOLVE : Nat := 0x30
/-- Kind BSTALL. -/
abbrev BSTALL : Nat := 0x31
/-- Kind BSTLATE. -/
abbrev BSTLATE : Nat := 0x32
/-- Kind BSTSPLIT. -/
abbrev BSTSPLIT : Nat := 0x33
/-- Kind BOVWR. -/
abbrev BOVWR : Nat := 0x34
/-- Kind UNPKOVR. -/
abbrev UNPKOVR : Nat := 0x35
/-- Kind PLLUNLK. -/
abbrev PLLUNLK : Nat := 0x38
/-- Kind CKSTOP. -/
abbrev CKSTOP : Nat := 0x39
/-- Kind CKSWITCH. -/
abbrev CKSWITCH : Nat := 0x3A
/-- Kind MEMCE. -/
abbrev MEMCE : Nat := 0x40
/-- Kind MEMUE. -/
abbrev MEMUE : Nat := 0x41
/-- Kind LINWIPE. -/
abbrev LINWIPE : Nat := 0x42
/-- Kind PSNREAD. -/
abbrev PSNREAD : Nat := 0x43
/-- Kind RILLEGAL. -/
abbrev RILLEGAL : Nat := 0x48
/-- Kind RCV. -/
abbrev RCV : Nat := 0x50
/-- Kind CAPLATE. -/
abbrev CAPLATE : Nat := 0x51
/-- Kind PMISS. -/
abbrev PMISS : Nat := 0x52
/-- Kind ILKUNSAFE. -/
abbrev ILKUNSAFE : Nat := 0x53
/-- Kind ILKFAULT. -/
abbrev ILKFAULT : Nat := 0x54
/-- Kind ILKCLEAR. -/
abbrev ILKCLEAR : Nat := 0x55
/-- Kind ILKCLRREF. -/
abbrev ILKCLRREF : Nat := 0x56
/-- Kind PSRECAP. -/
abbrev PSRECAP : Nat := 0x57
/-- Kind PSHELD. -/
abbrev PSHELD : Nat := 0x58
/-- Kind PLSKIP. -/
abbrev PLSKIP : Nat := 0x60
/-- Kind PLUE. -/
abbrev PLUE : Nat := 0x61
/-- Kind PLCE. -/
abbrev PLCE : Nat := 0x62
/-- Kind PLBADCODE. -/
abbrev PLBADCODE : Nat := 0x63
/-- Kind PLOUT. -/
abbrev PLOUT : Nat := 0x64
/-- Kind PLNOSPACE. -/
abbrev PLNOSPACE : Nat := 0x65
/-- Kind LNLOS. -/
abbrev LNLOS : Nat := 0x68
/-- Kind LNPLL. -/
abbrev LNPLL : Nat := 0x69
/-- Kind LNWAKE. -/
abbrev LNWAKE : Nat := 0x6A
/-- Kind PCSHIBER. -/
abbrev PCSHIBER : Nat := 0x6B
/-- Kind FECUNC. -/
abbrev FECUNC : Nat := 0x6C
/-- Kind FLGAP. -/
abbrev FLGAP : Nat := 0x70
/-- Kind FLCHK. -/
abbrev FLCHK : Nat := 0x71
/-- Kind FLDROP. -/
abbrev FLDROP : Nat := 0x72
/-- Kind FLTXDISC. -/
abbrev FLTXDISC : Nat := 0x73
/-- Kind DRCE. -/
abbrev DRCE : Nat := 0x78
/-- Kind DRUE. -/
abbrev DRUE : Nat := 0x79
/-- Kind DRMARK. -/
abbrev DRMARK : Nat := 0x7A
/-- Kind DRCHIP2. -/
abbrev DRCHIP2 : Nat := 0x7B
/-- Kind DRTRAIN. -/
abbrev DRTRAIN : Nat := 0x7C
/-- Kind DRHOT. -/
abbrev DRHOT : Nat := 0x7D
/-- Kind SEAMRETRY. -/
abbrev SEAMRETRY : Nat := 0x80
/-- Kind SEAMFAIL. -/
abbrev SEAMFAIL : Nat := 0x81
/-- Kind SEAMUP. -/
abbrev SEAMUP : Nat := 0x82
/-- Kind SEAMPART. -/
abbrev SEAMPART : Nat := 0x83
/-- Kind DIEMISM. -/
abbrev DIEMISM : Nat := 0x84
/-- Kind GRPREF. -/
abbrev GRPREF : Nat := 0x85
/-- Kind GRPDROP. -/
abbrev GRPDROP : Nat := 0x86
/-- Kind GRPJOIN. -/
abbrev GRPJOIN : Nat := 0x87
/-- Kind CFGFAIL. -/
abbrev CFGFAIL : Nat := 0x90
/-- Kind CFGDONE. -/
abbrev CFGDONE : Nat := 0x91
/-- Kind RLDFAIL. -/
abbrev RLDFAIL : Nat := 0x92
/-- Kind FRCE. -/
abbrev FRCE : Nat := 0x93
/-- Kind FRRELOAD. -/
abbrev FRRELOAD : Nat := 0x94
/-- Kind FRALARM. -/
abbrev FRALARM : Nat := 0x95
/-- Kind RLDNOFIT. -/
abbrev RLDNOFIT : Nat := 0x96
/-- Kind RLDLATE. -/
abbrev RLDLATE : Nat := 0x97
/-- Kind RLDDONE. -/
abbrev RLDDONE : Nat := 0x98
/-- Kind TRIALFALL. -/
abbrev TRIALFALL : Nat := 0x99
/-- Kind HEMALARM. -/
abbrev HEMALARM : Nat := 0xA0
/-- Kind HEMCE. -/
abbrev HEMCE : Nat := 0xA1
/-- Kind HEMPROG. -/
abbrev HEMPROG : Nat := 0xA2
/-- Kind LCCHANGE. -/
abbrev LCCHANGE : Nat := 0xA3
/-- Kind TAMPER. -/
abbrev TAMPER : Nat := 0xA4
/-- Kind WDEXPIRE. -/
abbrev WDEXPIRE : Nat := 0xA5
/-- Kind WDBADSVC. -/
abbrev WDBADSVC : Nat := 0xA6
/-- Kind DBGHALT. -/
abbrev DBGHALT : Nat := 0xB0
/-- Kind DBGAUTH. -/
abbrev DBGAUTH : Nat := 0xB1
/-- Kind DBGAUTHF. -/
abbrev DBGAUTHF : Nat := 0xB2
/-- Kind TRLOST. -/
abbrev TRLOST : Nat := 0xB3
/-- Kind STIM. -/
abbrev STIM : Nat := 0xB4
/-- Kind BROWNOUT. -/
abbrev BROWNOUT : Nat := 0xC0
/-- Kind RAILLOW. -/
abbrev RAILLOW : Nat := 0xC1
/-- Kind RAILOK. -/
abbrev RAILOK : Nat := 0xC2
/-- Kind VREQCHG. -/
abbrev VREQCHG : Nat := 0xC3

end K

/-- The class of a kind (R933). WDEXPIRE is class D here; its class F form is recorded by `raiseFatal` (R847). -/
def kindClass : Nat → Cls
  | 0x01 => .t
  | 0x02 => .t
  | 0x03 => .c
  | 0x04 => .d
  | 0x05 => .d
  | 0x06 => .c
  | 0x07 => .d
  | 0x08 => .c
  | 0x09 => .c
  | 0x10 => .t
  | 0x11 => .d
  | 0x12 => .d
  | 0x13 => .c
  | 0x14 => .d
  | 0x15 => .c
  | 0x16 => .c
  | 0x20 => .c
  | 0x21 => .c
  | 0x22 => .d
  | 0x23 => .c
  | 0x24 => .c
  | 0x25 => .c
  | 0x26 => .c
  | 0x27 => .c
  | 0x28 => .f
  | 0x30 => .c
  | 0x31 => .c
  | 0x32 => .d
  | 0x33 => .d
  | 0x34 => .c
  | 0x35 => .c
  | 0x38 => .d
  | 0x39 => .d
  | 0x3A => .c
  | 0x40 => .c
  | 0x41 => .p
  | 0x42 => .c
  | 0x43 => .t
  | 0x48 => .t
  | 0x50 => .c
  | 0x51 => .c
  | 0x52 => .c
  | 0x53 => .c
  | 0x54 => .d
  | 0x55 => .c
  | 0x56 => .c
  | 0x57 => .c
  | 0x58 => .c
  | 0x60 => .c
  | 0x61 => .t
  | 0x62 => .c
  | 0x63 => .c
  | 0x64 => .c
  | 0x65 => .t
  | 0x68 => .c
  | 0x69 => .d
  | 0x6A => .c
  | 0x6B => .c
  | 0x6C => .c
  | 0x70 => .c
  | 0x71 => .c
  | 0x72 => .c
  | 0x73 => .c
  | 0x78 => .c
  | 0x79 => .p
  | 0x7A => .d
  | 0x7B => .d
  | 0x7C => .d
  | 0x7D => .d
  | 0x80 => .c
  | 0x81 => .d
  | 0x82 => .c
  | 0x83 => .d
  | 0x84 => .d
  | 0x85 => .d
  | 0x86 => .d
  | 0x87 => .c
  | 0x90 => .d
  | 0x91 => .c
  | 0x92 => .t
  | 0x93 => .c
  | 0x94 => .c
  | 0x95 => .d
  | 0x96 => .c
  | 0x97 => .d
  | 0x98 => .c
  | 0x99 => .d
  | 0xA0 => .d
  | 0xA1 => .c
  | 0xA2 => .c
  | 0xA3 => .c
  | 0xA4 => .d
  | 0xA5 => .d
  | 0xA6 => .c
  | 0xB0 => .c
  | 0xB1 => .c
  | 0xB2 => .d
  | 0xB3 => .c
  | 0xB4 => .none
  | 0xC0 => .f
  | 0xC1 => .d
  | 0xC2 => .c
  | 0xC3 => .c
  | _ => .none

/-- The rings of a kind (R933). -/
def kindRings : Nat → Rings
  | 0x01 => .both
  | 0x02 => .both
  | 0x03 => .sup
  | 0x04 => .sup
  | 0x05 => .sup
  | 0x06 => .sup
  | 0x07 => .sup
  | 0x08 => .sup
  | 0x09 => .sup
  | 0x10 => .both
  | 0x11 => .sup
  | 0x12 => .sup
  | 0x13 => .both
  | 0x14 => .sup
  | 0x15 => .sup
  | 0x16 => .sup
  | 0x20 => .ten
  | 0x21 => .ten
  | 0x22 => .sup
  | 0x23 => .sup
  | 0x24 => .sup
  | 0x25 => .sup
  | 0x26 => .sup
  | 0x27 => .sup
  | 0x28 => .none
  | 0x30 => .ten
  | 0x31 => .ten
  | 0x32 => .sup
  | 0x33 => .sup
  | 0x34 => .sup
  | 0x35 => .ten
  | 0x38 => .sup
  | 0x39 => .sup
  | 0x3A => .sup
  | 0x40 => .sup
  | 0x41 => .sup
  | 0x42 => .sup
  | 0x43 => .both
  | 0x48 => .both
  | 0x50 => .ten
  | 0x51 => .ten
  | 0x52 => .sup
  | 0x53 => .sup
  | 0x54 => .sup
  | 0x55 => .sup
  | 0x56 => .sup
  | 0x57 => .sup
  | 0x58 => .sup
  | 0x60 => .ten
  | 0x61 => .both
  | 0x62 => .sup
  | 0x63 => .ten
  | 0x64 => .ten
  | 0x65 => .both
  | 0x68 => .sup
  | 0x69 => .sup
  | 0x6A => .sup
  | 0x6B => .sup
  | 0x6C => .sup
  | 0x70 => .ten
  | 0x71 => .ten
  | 0x72 => .ten
  | 0x73 => .ten
  | 0x78 => .sup
  | 0x79 => .sup
  | 0x7A => .sup
  | 0x7B => .sup
  | 0x7C => .sup
  | 0x7D => .sup
  | 0x80 => .sup
  | 0x81 => .sup
  | 0x82 => .sup
  | 0x83 => .sup
  | 0x84 => .sup
  | 0x85 => .sup
  | 0x86 => .sup
  | 0x87 => .sup
  | 0x90 => .sup
  | 0x91 => .sup
  | 0x92 => .both
  | 0x93 => .sup
  | 0x94 => .ten
  | 0x95 => .sup
  | 0x96 => .sup
  | 0x97 => .sup
  | 0x98 => .ten
  | 0x99 => .sup
  | 0xA0 => .sup
  | 0xA1 => .sup
  | 0xA2 => .sup
  | 0xA3 => .sup
  | 0xA4 => .sup
  | 0xA5 => .sup
  | 0xA6 => .sup
  | 0xB0 => .sup
  | 0xB1 => .sup
  | 0xB2 => .sup
  | 0xB3 => .sup
  | 0xB4 => .none
  | 0xC0 => .none
  | 0xC1 => .sup
  | 0xC2 => .sup
  | 0xC3 => .sup
  | _ => .none

/-- The kinds besides class F that also go to the always-on log (Rings column L). -/
def kindLogged (k : Nat) : Bool := k == 0x84 || k == 0x90 || k == 0x99 || k == 0xA0

end Sys2Proof.Machine
end

