-- ==== Sys2Proof/Machine/Regs.lean ====
section
/-! DEFINITION. The register map: every register of every unit window with its fields, access codes, reset kinds and
reset values, written from the field tables of spec/ (R48 to R51, R113, R190, R191, R249, R294, R344, R392 to R394,
R443, R501 to R503, R549, R590, R627, R628, R688, R725, R767, R805, R806, R848 to R850, R885, R930, R947).
A field with no reset value in its table has reset value 0 (assumption log 3). -/

namespace Sys2Proof.Machine

/-- Access codes of R27. -/
inductive Acc | ro | rw | wo | w1c | w1s | rc
  deriving DecidableEq, Repr

/-- The reset that restores a field (R26, the Reset column). -/
inductive Rst | porn | srst | none
  deriving DecidableEq, Repr

/-- One field of a register: lowest bit, width, access code, the reset that restores it, and the value restored.
DESIGN CHOICE, log 3. -/
structure FieldSpec where
  lo : Nat
  w : Nat
  acc : Acc
  rst : Rst
  val : Nat
  deriving DecidableEq, Repr

/-- One register, or a family of `count` registers `stride` bytes apart; bit d of `dies` is set when die d has it. -/
structure RegSpec where
  off : Nat
  stride : Nat
  count : Nat
  dies : Nat
  fields : List FieldSpec
  deriving DecidableEq, Repr

/-- The name of one field: unit window index (R25), offset, stride of its register family, lowest bit and width. -/
structure Fld where
  unit : Nat
  off : Nat
  stride : Nat
  lo : Nat
  w : Nat
  deriving DecidableEq, Repr

/-- The field of register number `i` of its family. -/
def Fld.at (f : Fld) (i : Nat) : Fld := { f with off := f.off + f.stride * i }

/-- The key of the register that holds a field: the windows lie 2^20 bytes apart in the map (R25, R158). -/
def Fld.key (f : Fld) : Nat := f.unit * 1048576 + f.off

/-- The registers of SYS (window index 0). -/
def regsSYS : List RegSpec :=
  [
    ⟨0x4, 0, 1, 15, [⟨0, 28, .ro, .porn, 0⟩]⟩ /- CAP_0 -/,
    ⟨0x8, 0, 1, 15, [⟨0, 1, .ro, .porn, 0⟩, ⟨1, 1, .ro, .porn, 0⟩, ⟨2, 1, .ro, .porn, 0⟩, ⟨3, 1, .ro, .porn, 0⟩, ⟨4, 1, .ro, .porn, 0⟩, ⟨5, 1, .ro, .porn, 0⟩, ⟨6, 1, .ro, .porn, 0⟩, ⟨7, 1, .ro, .porn, 0⟩, ⟨16, 2, .ro, .porn, 0⟩, ⟨20, 2, .ro, .porn, 0⟩, ⟨22, 1, .ro, .porn, 0⟩]⟩ /- CAP_1 -/,
    ⟨0xC, 0, 1, 15, [⟨0, 1, .rw, .srst, 0⟩, ⟨1, 1, .rw, .srst, 0⟩, ⟨2, 1, .rw, .srst, 0⟩, ⟨3, 1, .rw, .srst, 0⟩, ⟨4, 1, .rw, .srst, 0⟩, ⟨5, 1, .rw, .srst, 0⟩, ⟨31, 1, .ro, .porn, 0⟩]⟩ /- COMPAT -/,
    ⟨0x10, 0, 1, 1, [⟨0, 4, .ro, .porn, 15⟩]⟩ /- DIEMAP -/,
    ⟨0x400, 4, 256, 15, [⟨0, 28, .rw, .srst, 0⟩]⟩ /- GRANT_t -/ ]

/-- The registers of YOKE (window index 1). -/
def regsYOKE : List RegSpec :=
  [
    ⟨0x4, 0, 1, 15, [⟨0, 14, .rw, .srst, 0⟩, ⟨16, 1, .rw, .srst, 0⟩]⟩ /- CTL -/,
    ⟨0x8, 0, 1, 15, [⟨0, 14, .ro, .srst, 0⟩, ⟨16, 1, .ro, .srst, 0⟩, ⟨17, 1, .ro, .srst, 0⟩, ⟨18, 1, .ro, .srst, 0⟩]⟩ /- STAT -/,
    ⟨0xC, 0, 1, 1, [⟨0, 16, .rw, .srst, 10⟩]⟩ /- RTO -/,
    ⟨0x400, 4, 256, 1, [⟨0, 1, .rw, .srst, 0⟩, ⟨1, 1, .rw, .srst, 0⟩, ⟨2, 6, .rw, .srst, 63⟩, ⟨8, 1, .ro, .srst, 0⟩]⟩ /- TEN_CTL_t -/,
    ⟨0x800, 4, 64, 15, [⟨0, 8, .rw, .srst, 0⟩]⟩ /- PRR_OWNER_r -/,
    ⟨0x10000, 16, 1024, 15, [⟨0, 32, .rw, .srst, 0⟩]⟩ /- RD0_n -/,
    ⟨0x10004, 16, 1024, 15, [⟨0, 6, .rw, .srst, 0⟩, ⟨8, 8, .rw, .srst, 0⟩, ⟨16, 1, .rw, .srst, 0⟩, ⟨17, 1, .rw, .srst, 0⟩, ⟨18, 1, .rw, .srst, 0⟩]⟩ /- RD1_n -/,
    ⟨0x10008, 16, 1024, 15, [⟨0, 32, .rw, .srst, 0⟩]⟩ /- RD2_n -/,
    ⟨0x1000C, 16, 1024, 15, [⟨0, 6, .rw, .srst, 0⟩]⟩ /- RD3_n -/,
    ⟨0x40000, 4, 16384, 15, [⟨0, 32, .rw, .porn, 67108864⟩]⟩ /- IMEM_i -/ ]

/-- The registers of LEDGER (window index 2). -/
def regsLEDGER : List RegSpec :=
  [
    ⟨0x4, 0, 1, 15, [⟨0, 1, .rw, .srst, 0⟩, ⟨1, 1, .rw, .porn, 0⟩]⟩ /- CTL -/,
    ⟨0x8, 0, 1, 15, [⟨0, 1, .ro, .srst, 0⟩, ⟨1, 3, .ro, .srst, 0⟩, ⟨4, 2, .ro, .srst, 0⟩]⟩ /- STAT -/,
    ⟨0xC, 0, 1, 1, [⟨0, 12, .rw, .srst, 64⟩]⟩ /- EPOCH -/,
    ⟨0x10, 0, 1, 1, [⟨0, 32, .ro, .srst, 0⟩]⟩ /- EPOCH_NUM -/,
    ⟨0x14, 0, 1, 15, [⟨0, 32, .rw, .srst, 4294967295⟩]⟩ /- TICK_BUDGET -/,
    ⟨0x18, 0, 1, 15, [⟨0, 16, .rw, .porn, 1000⟩]⟩ /- BASE -/,
    ⟨0x20, 0, 1, 1, [⟨0, 32, .rw, .porn, 0⟩]⟩ /- RESV_LO -/,
    ⟨0x24, 0, 1, 1, [⟨0, 8, .rw, .porn, 0⟩]⟩ /- RESV_HI -/,
    ⟨0x28, 0, 1, 1, [⟨0, 32, .wo, .porn, 0⟩]⟩ /- RESV_ADJ -/,
    ⟨0x2C, 0, 1, 1, [⟨0, 32, .rw, .porn, 0⟩]⟩ /- RESV_LOW -/,
    ⟨0x30, 0, 1, 1, [⟨0, 16, .rw, .srst, 0⟩]⟩ /- DEVCAP -/,
    ⟨0x38, 0, 1, 15, [⟨0, 16, .ro, .srst, 65535⟩]⟩ /- CAP -/ ] ++
  [
    ⟨0x40, 4, 4, 1, [⟨0, 16, .rw, .srst, 1000⟩]⟩ /- FLOOR_d -/,
    ⟨0x50, 0, 1, 15, [⟨0, 8, .rw, .srst, 145⟩, ⟨8, 4, .rw, .srst, 5⟩]⟩ /- THERM_CTL -/,
    ⟨0x60, 4, 8, 15, [⟨0, 12, .ro, .porn, 0⟩]⟩ /- TEMP_k -/,
    ⟨0x80, 4, 8, 15, [⟨0, 16, .rw, .porn, 16384⟩]⟩ /- CAL_k -/,
    ⟨0x100, 4, 11, 15, [⟨0, 16, .ro, .porn, 0⟩]⟩ /- RAIL_P_c -/,
    ⟨0x140, 0, 1, 15, [⟨0, 32, .ro, .porn, 0⟩]⟩ /- ENERGY_LO -/,
    ⟨0x144, 0, 1, 15, [⟨0, 32, .ro, .porn, 0⟩]⟩ /- ENERGY_HI -/,
    ⟨0x148, 0, 1, 15, [⟨0, 32, .rc, .srst, 0⟩]⟩ /- OVERHEAD -/,
    ⟨0x1000, 16, 256, 15, [⟨0, 32, .rw, .srst, 0⟩]⟩ /- ALLOT_t -/,
    ⟨0x1004, 16, 256, 15, [⟨0, 32, .ro, .srst, 0⟩]⟩ /- BAL_t -/,
    ⟨0x1008, 16, 256, 15, [⟨0, 1, .ro, .srst, 0⟩]⟩ /- TSTAT_t -/,
    ⟨0x100C, 16, 256, 15, [⟨0, 32, .ro, .srst, 0⟩]⟩ /- LAST_E_t -/ ]

/-- The registers of BASTE (window index 3). -/
def regsBASTE : List RegSpec :=
  [
    ⟨0x4, 0, 1, 1, [⟨0, 16, .rw, .srst, 4096⟩]⟩ /- CTL -/,
    ⟨0x8, 0, 1, 15, [⟨0, 13, .ro, .srst, 0⟩, ⟨16, 9, .ro, .srst, 0⟩, ⟨25, 1, .ro, .srst, 0⟩]⟩ /- STAT -/,
    ⟨0xC, 0, 1, 15, [⟨0, 13, .rc, .srst, 0⟩, ⟨16, 9, .rc, .srst, 0⟩]⟩ /- HWM -/,
    ⟨0x10, 0, 1, 15, [⟨0, 32, .rc, .srst, 0⟩]⟩ /- STALLS -/,
    ⟨0x14, 0, 1, 15, [⟨0, 32, .rc, .srst, 0⟩]⟩ /- OVWR -/,
    ⟨0x400, 4, 256, 1, [⟨0, 1, .rw, .srst, 0⟩]⟩ /- TEN_CTL_t -/,
    ⟨0x800, 4, 256, 15, [⟨0, 13, .rw, .srst, 4096⟩]⟩ /- QUOTA_t -/,
    ⟨0xC00, 4, 256, 15, [⟨0, 1, .ro, .srst, 0⟩, ⟨1, 7, .ro, .srst, 0⟩, ⟨8, 1, .ro, .srst, 0⟩, ⟨16, 13, .ro, .srst, 0⟩]⟩ /- TEN_STAT_t -/ ]

/-- The registers of CLK (window index 4). -/
def regsCLK : List RegSpec :=
  [
    ⟨0x4, 0, 1, 15, [⟨0, 1, .rw, .porn, 0⟩]⟩ /- FRST -/,
    ⟨0x8, 0, 1, 15, [⟨0, 16, .rw, .porn, 0⟩]⟩ /- DRST -/,
    ⟨0xC, 0, 1, 15, [⟨0, 16, .rw, .porn, 0⟩]⟩ /- TTAP -/,
    ⟨0x10, 0, 1, 15, [⟨0, 8, .ro, .porn, 0⟩, ⟨8, 8, .w1c, .porn, 0⟩]⟩ /- CKIN_STAT -/,
    ⟨0x20, 4, 8, 15, [⟨0, 20, .ro, .porn, 0⟩]⟩ /- CKIN_FREQ_k -/,
    ⟨0x100, 32, 6, 15, [⟨0, 6, .rw, .porn, 0⟩, ⟨31, 1, .rw, .porn, 0⟩]⟩ /- PLL_SRC_k -/,
    ⟨0x104, 32, 6, 15, [⟨0, 6, .rw, .porn, 0⟩, ⟨8, 9, .rw, .porn, 0⟩]⟩ /- PLL_DIV_k -/,
    ⟨0x108, 32, 6, 15, [⟨0, 24, .rw, .porn, 0⟩]⟩ /- PLL_FRAC_k -/,
    ⟨0x10C, 32, 6, 15, [⟨0, 8, .rw, .porn, 0⟩, ⟨8, 8, .rw, .porn, 0⟩, ⟨16, 8, .rw, .porn, 0⟩, ⟨24, 8, .rw, .porn, 0⟩]⟩ /- PLL_OUT_k -/,
    ⟨0x110, 32, 6, 15, [⟨0, 6, .rw, .porn, 0⟩, ⟨8, 6, .rw, .porn, 0⟩, ⟨16, 6, .rw, .porn, 0⟩, ⟨24, 6, .rw, .porn, 0⟩]⟩ /- PLL_PHASE_k -/,
    ⟨0x114, 32, 6, 15, [⟨0, 1, .ro, .porn, 0⟩, ⟨1, 1, .ro, .porn, 0⟩, ⟨2, 1, .w1c, .porn, 0⟩]⟩ /- PLL_STAT_k -/,
    ⟨0x200, 32, 2, 15, [⟨0, 6, .rw, .porn, 0⟩, ⟨8, 6, .rw, .porn, 0⟩, ⟨16, 1, .rw, .porn, 0⟩, ⟨17, 1, .rw, .porn, 0⟩, ⟨20, 3, .rw, .porn, 0⟩, ⟨31, 1, .rw, .porn, 0⟩]⟩ /- JC_SRC_j -/ ] ++
  [
    ⟨0x204, 32, 2, 15, [⟨0, 6, .rw, .porn, 0⟩, ⟨8, 9, .rw, .porn, 0⟩]⟩ /- JC_DIV_j -/,
    ⟨0x208, 32, 2, 15, [⟨0, 24, .rw, .porn, 0⟩]⟩ /- JC_FRAC_j -/,
    ⟨0x20C, 32, 2, 15, [⟨0, 8, .rw, .porn, 0⟩, ⟨8, 8, .rw, .porn, 0⟩]⟩ /- JC_OUT_j -/,
    ⟨0x214, 32, 2, 15, [⟨0, 1, .ro, .porn, 0⟩, ⟨1, 1, .ro, .porn, 0⟩, ⟨2, 1, .w1c, .porn, 0⟩, ⟨3, 1, .ro, .porn, 0⟩, ⟨4, 1, .ro, .porn, 0⟩]⟩ /- JC_STAT_j -/,
    ⟨0x300, 4, 16, 15, [⟨0, 6, .rw, .porn, 63⟩, ⟨8, 6, .rw, .porn, 63⟩, ⟨14, 1, .rw, .porn, 0⟩, ⟨15, 1, .rw, .porn, 0⟩, ⟨16, 1, .w1s, .porn, 0⟩, ⟨24, 1, .ro, .porn, 0⟩, ⟨25, 1, .ro, .porn, 0⟩]⟩ /- GSEL_g -/,
    ⟨0x400, 4, 64, 15, [⟨0, 7, .ro, .porn, 0⟩, ⟨8, 7, .ro, .porn, 0⟩, ⟨15, 1, .ro, .porn, 0⟩]⟩ /- REGION_r -/,
    ⟨0x500, 4, 64, 15, [⟨0, 1, .rw, .porn, 0⟩, ⟨1, 1, .rw, .porn, 0⟩, ⟨2, 1, .rw, .porn, 0⟩, ⟨8, 1, .ro, .porn, 0⟩]⟩ /- REGION_CTL_r -/,
    ⟨0x600, 4, 16, 15, [⟨0, 8, .rw, .porn, 0⟩, ⟨8, 1, .rw, .porn, 0⟩, ⟨16, 6, .ro, .porn, 0⟩]⟩ /- SPORT_p -/,
    ⟨0x680, 4, 8, 15, [⟨0, 8, .rw, .porn, 0⟩, ⟨8, 1, .rw, .porn, 0⟩, ⟨16, 6, .ro, .porn, 0⟩]⟩ /- DPORT_q -/ ]

/-- The registers of SPAD (window index 5). -/
def regsSPAD : List RegSpec :=
  [
    ⟨0x4, 0, 1, 15, [⟨0, 32, .rc, .srst, 0⟩]⟩ /- CE_COUNT -/,
    ⟨0x8, 0, 1, 15, [⟨0, 32, .rc, .srst, 0⟩]⟩ /- UE_COUNT -/,
    ⟨0xC, 0, 1, 15, [⟨0, 21, .ro, .srst, 0⟩, ⟨31, 1, .ro, .srst, 0⟩]⟩ /- ERR_ADDR -/,
    ⟨0x10, 0, 1, 15, [⟨0, 20, .rw, .srst, 0⟩, ⟨20, 2, .rw, .srst, 0⟩, ⟨31, 1, .rw, .srst, 0⟩]⟩ /- INJECT -/,
    ⟨0x14, 0, 1, 15, [⟨0, 11, .rc, .srst, 0⟩]⟩ /- INGEST_HWM -/,
    ⟨0x100, 4, 32, 15, [⟨0, 2, .rw, .porn, 0⟩, ⟨2, 1, .rw, .porn, 0⟩, ⟨4, 2, .ro, .porn, 0⟩, ⟨6, 1, .ro, .porn, 0⟩, ⟨7, 1, .w1c, .porn, 0⟩]⟩ /- BANK_k -/,
    ⟨0x200, 4, 32, 15, [⟨0, 32, .rc, .srst, 0⟩]⟩ /- STALL_k -/,
    ⟨0x1000, 32, 4, 15, [⟨0, 32, .rw, .srst, 0⟩]⟩ /- MOV_LANE_LO_m -/,
    ⟨0x1004, 32, 4, 15, [⟨0, 6, .rw, .srst, 0⟩]⟩ /- MOV_LANE_HI_m -/,
    ⟨0x1008, 32, 4, 15, [⟨0, 32, .rw, .srst, 0⟩]⟩ /- MOV_BYTE_LO_m -/,
    ⟨0x100C, 32, 4, 15, [⟨0, 8, .rw, .srst, 0⟩]⟩ /- MOV_BYTE_HI_m -/,
    ⟨0x1010, 32, 4, 15, [⟨0, 21, .rw, .srst, 0⟩]⟩ /- MOV_LEN_m -/ ] ++
  [
    ⟨0x1014, 32, 4, 15, [⟨0, 1, .rw, .srst, 0⟩, ⟨1, 1, .rw, .srst, 0⟩, ⟨8, 8, .rw, .srst, 0⟩, ⟨31, 1, .w1s, .srst, 0⟩]⟩ /- MOV_CTL_m -/,
    ⟨0x1018, 32, 4, 15, [⟨0, 1, .ro, .srst, 0⟩, ⟨1, 3, .ro, .srst, 0⟩, ⟨8, 21, .ro, .srst, 0⟩]⟩ /- MOV_STAT_m -/ ]

/-- The registers of BMEM (window index 6). -/
def regsBMEM : List RegSpec :=
  [
    ⟨0x4, 0, 1, 15, [⟨0, 32, .rc, .srst, 0⟩]⟩ /- CE_COUNT -/,
    ⟨0x8, 0, 1, 15, [⟨0, 32, .rc, .srst, 0⟩]⟩ /- UE_COUNT -/,
    ⟨0xC, 0, 1, 15, [⟨0, 23, .ro, .srst, 0⟩, ⟨31, 1, .ro, .srst, 0⟩]⟩ /- ERR_ADDR -/,
    ⟨0x10, 0, 1, 15, [⟨0, 20, .rw, .srst, 0⟩, ⟨20, 2, .rw, .srst, 0⟩, ⟨31, 1, .rw, .srst, 0⟩]⟩ /- INJECT -/,
    ⟨0x1000, 4, 1536, 15, [⟨0, 1, .ro, .porn, 0⟩, ⟨1, 1, .ro, .porn, 0⟩, ⟨2, 1, .w1c, .porn, 0⟩, ⟨3, 1, .w1c, .porn, 0⟩, ⟨8, 11, .ro, .porn, 0⟩]⟩ /- MODE_b -/ ]

/-- The registers of RENTIK (window index 7). -/
def regsRENTIK : List RegSpec :=
  [
    ⟨0x4, 0, 1, 15, [⟨0, 8, .rw, .srst, 0⟩, ⟨8, 8, .rw, .srst, 0⟩, ⟨16, 12, .rw, .srst, 0⟩]⟩ /- ILOAD_CTL -/,
    ⟨0x8, 0, 1, 15, [⟨0, 32, .wo, .srst, 0⟩]⟩ /- ILOAD_DATA -/,
    ⟨0xC, 0, 1, 15, [⟨0, 12, .ro, .srst, 0⟩, ⟨16, 1, .w1c, .srst, 0⟩, ⟨17, 1, .w1c, .srst, 0⟩]⟩ /- ILOAD_STAT -/,
    ⟨0x1000, 4, 192, 15, [⟨0, 2, .ro, .srst, 0⟩, ⟨8, 8, .ro, .srst, 0⟩, ⟨16, 1, .ro, .srst, 0⟩, ⟨17, 1, .ro, .srst, 0⟩, ⟨18, 1, .ro, .srst, 0⟩, ⟨19, 1, .ro, .srst, 0⟩, ⟨20, 4, .ro, .srst, 0⟩]⟩ /- CL_STAT_c -/,
    ⟨0x1400, 4, 192, 15, [⟨0, 12, .ro, .srst, 0⟩, ⟨16, 12, .ro, .srst, 0⟩]⟩ /- CL_PC_c -/ ]

/-- The registers of ACQ (window index 8). -/
def regsACQ : List RegSpec :=
  [
    ⟨0x4, 0, 1, 3, [⟨0, 1, .rw, .porn, 1⟩, ⟨1, 1, .rw, .porn, 1⟩, ⟨2, 1, .rw, .porn, 1⟩, ⟨3, 1, .rw, .porn, 1⟩]⟩ /- CTL -/,
    ⟨0x8, 0, 1, 3, [⟨0, 3, .ro, .porn, 0⟩, ⟨4, 10, .ro, .srst, 0⟩]⟩ /- STAT -/,
    ⟨0x40, 4, 10, 3, [⟨0, 32, .ro, .srst, 0⟩]⟩ /- CAP_STAT_c -/,
    ⟨0x100, 4, 4, 1, [⟨0, 1, .rw, .porn, 0⟩, ⟨8, 16, .rw, .porn, 400⟩]⟩ /- PULSE_CTL_k -/,
    ⟨0x140, 4, 4, 1, [⟨0, 5, .ro, .srst, 0⟩, ⟨8, 1, .w1c, .srst, 0⟩]⟩ /- PULSE_STAT_k -/ ]

/-- The registers of ILK (window index 9). -/
def regsILK : List RegSpec :=
  [
    ⟨0x4, 0, 1, 1, [⟨0, 1, .w1s, .srst, 0⟩]⟩ /- CTL -/,
    ⟨0x8, 0, 1, 1, [⟨0, 9, .rw, .porn, 10⟩]⟩ /- TD -/,
    ⟨0xC, 0, 1, 1, [⟨0, 9, .ro, .porn, 0⟩]⟩ /- CEIL -/,
    ⟨0x10, 0, 1, 1, [⟨0, 2, .ro, .none, 0⟩, ⟨2, 1, .ro, .none, 0⟩, ⟨3, 1, .ro, .none, 0⟩, ⟨4, 1, .ro, .srst, 0⟩, ⟨5, 1, .ro, .none, 0⟩, ⟨6, 1, .w1c, .srst, 0⟩, ⟨7, 1, .w1c, .srst, 0⟩]⟩ /- STAT -/,
    ⟨0x14, 0, 1, 1, [⟨0, 19, .ro, .none, 0⟩]⟩ /- DISC -/,
    ⟨0x18, 0, 1, 1, [⟨0, 16, .ro, .none, 0⟩]⟩ /- FAULTS -/ ]

/-- The registers of PSENSE (window index 10). -/
def regsPSENSE : List RegSpec :=
  [
    ⟨0x4, 0, 1, 1, [⟨0, 1, .rw, .srst, 0⟩, ⟨1, 1, .w1s, .srst, 0⟩, ⟨8, 8, .rw, .porn, 60⟩]⟩ /- CTL -/,
    ⟨0x8, 0, 1, 1, [⟨0, 14, .rw, .porn, 200⟩, ⟨16, 14, .rw, .porn, 100⟩]⟩ /- THR -/,
    ⟨0xC, 0, 1, 1, [⟨0, 12, .rw, .porn, 120⟩]⟩ /- HELD -/,
    ⟨0x10, 0, 1, 1, [⟨0, 19, .rw, .porn, 0⟩]⟩ /- OUT -/,
    ⟨0x14, 0, 1, 1, [⟨0, 1, .ro, .srst, 0⟩, ⟨1, 1, .ro, .srst, 0⟩, ⟨8, 24, .ro, .srst, 0⟩]⟩ /- STAT -/,
    ⟨0x18, 0, 1, 1, [⟨0, 10, .ro, .srst, 0⟩, ⟨16, 10, .ro, .srst, 0⟩]⟩ /- COUNTS -/ ]

/-- The registers of PLEAT (window index 11). -/
def regsPLEAT : List RegSpec :=
  [
    ⟨0x100, 32, 16, 3, [⟨0, 4, .rw, .srst, 0⟩, ⟨4, 1, .rw, .srst, 0⟩, ⟨5, 1, .rw, .srst, 0⟩, ⟨6, 1, .rw, .srst, 0⟩, ⟨8, 2, .rw, .srst, 0⟩, ⟨10, 2, .rw, .srst, 0⟩, ⟨12, 5, .rw, .srst, 0⟩, ⟨24, 8, .rw, .srst, 0⟩]⟩ /- SET_CFG_s -/,
    ⟨0x104, 32, 16, 3, [⟨0, 19, .rw, .srst, 0⟩]⟩ /- SET_LEN_s -/,
    ⟨0x108, 32, 16, 3, [⟨0, 20, .rw, .srst, 0⟩]⟩ /- SET_BASE_s -/,
    ⟨0x10C, 32, 16, 3, [⟨0, 32, .rw, .srst, 0⟩]⟩ /- SET_DST_LO_s -/,
    ⟨0x110, 32, 16, 3, [⟨0, 8, .rw, .srst, 0⟩]⟩ /- SET_DST_HI_s -/,
    ⟨0x114, 32, 16, 3, [⟨0, 1, .rw, .srst, 0⟩, ⟨1, 1, .w1s, .srst, 0⟩]⟩ /- SET_CTL_s -/,
    ⟨0x118, 32, 16, 3, [⟨0, 29, .ro, .srst, 0⟩, ⟨29, 1, .ro, .srst, 0⟩, ⟨30, 1, .ro, .srst, 0⟩, ⟨31, 1, .ro, .srst, 0⟩]⟩ /- SET_STAT_s -/,
    ⟨0x11C, 32, 16, 3, [⟨0, 32, .rc, .srst, 0⟩]⟩ /- SET_SKIP_s -/,
    ⟨0x400, 32, 4, 15, [⟨0, 32, .rw, .srst, 0⟩]⟩ /- JOB_SRC_LO_j -/,
    ⟨0x404, 32, 4, 15, [⟨0, 8, .rw, .srst, 0⟩]⟩ /- JOB_SRC_HI_j -/,
    ⟨0x408, 32, 4, 15, [⟨0, 32, .rw, .srst, 0⟩]⟩ /- JOB_DST_LO_j -/,
    ⟨0x40C, 32, 4, 15, [⟨0, 8, .rw, .srst, 0⟩]⟩ /- JOB_DST_HI_j -/ ] ++
  [
    ⟨0x410, 32, 4, 15, [⟨0, 19, .rw, .srst, 0⟩]⟩ /- JOB_CNT_j -/,
    ⟨0x414, 32, 4, 15, [⟨0, 1, .rw, .srst, 0⟩, ⟨1, 2, .rw, .srst, 0⟩, ⟨3, 2, .rw, .srst, 0⟩, ⟨5, 2, .rw, .srst, 0⟩, ⟨7, 1, .rw, .srst, 0⟩, ⟨8, 4, .rw, .srst, 0⟩, ⟨16, 8, .rw, .srst, 0⟩, ⟨31, 1, .w1s, .srst, 0⟩]⟩ /- JOB_CTL_j -/,
    ⟨0x418, 32, 4, 15, [⟨0, 1, .ro, .srst, 0⟩, ⟨1, 3, .ro, .srst, 0⟩]⟩ /- JOB_STAT_j -/,
    ⟨0x41C, 32, 4, 15, [⟨0, 24, .ro, .srst, 0⟩]⟩ /- JOB_BITS_j -/ ]

/-- The registers of LANE (window index 12). -/
def regsLANE : List RegSpec :=
  [
    ⟨0x4, 4, 2, 15, [⟨0, 20, .ro, .porn, 0⟩]⟩ /- LREF_FREQ_i -/,
    ⟨0x1000, 256, 8, 15, [⟨0, 2, .rw, .porn, 3⟩, ⟨2, 1, .rw, .porn, 0⟩, ⟨3, 1, .rw, .porn, 0⟩, ⟨4, 1, .rw, .porn, 0⟩, ⟨31, 1, .w1s, .porn, 0⟩]⟩ /- CTL_k -/,
    ⟨0x1004, 256, 8, 15, [⟨0, 3, .ro, .porn, 3⟩, ⟨3, 1, .ro, .porn, 0⟩, ⟨4, 1, .ro, .porn, 0⟩, ⟨5, 1, .ro, .porn, 0⟩, ⟨6, 1, .ro, .porn, 0⟩, ⟨7, 1, .w1c, .porn, 0⟩, ⟨8, 4, .ro, .porn, 0⟩, ⟨12, 1, .ro, .porn, 0⟩, ⟨13, 1, .ro, .porn, 0⟩, ⟨14, 1, .ro, .porn, 0⟩]⟩ /- STAT_k -/,
    ⟨0x1008, 256, 8, 15, [⟨0, 4, .rw, .porn, 0⟩]⟩ /- PROFILE_k -/,
    ⟨0x100C, 256, 8, 15, [⟨0, 3, .rw, .porn, 0⟩, ⟨4, 1, .rw, .porn, 0⟩, ⟨8, 3, .rw, .porn, 0⟩, ⟨16, 8, .rw, .porn, 0⟩]⟩ /- RATE_k -/,
    ⟨0x1010, 256, 8, 15, [⟨0, 24, .rw, .porn, 0⟩]⟩ /- FRAC_k -/,
    ⟨0x1014, 256, 8, 15, [⟨0, 3, .rw, .porn, 0⟩, ⟨4, 1, .rw, .porn, 0⟩, ⟨5, 1, .rw, .porn, 0⟩, ⟨6, 1, .rw, .porn, 0⟩, ⟨7, 1, .rw, .porn, 0⟩, ⟨8, 1, .rw, .porn, 0⟩, ⟨9, 1, .rw, .porn, 0⟩, ⟨10, 1, .rw, .porn, 0⟩, ⟨16, 4, .rw, .porn, 0⟩]⟩ /- MODE_k -/,
    ⟨0x1018, 256, 8, 15, [⟨0, 4, .rw, .porn, 0⟩, ⟨8, 5, .rw, .porn, 0⟩, ⟨16, 4, .rw, .porn, 12⟩]⟩ /- TXFIR_k -/,
    ⟨0x101C, 256, 8, 15, [⟨0, 6, .rw, .porn, 0⟩]⟩ /- CTLE_k -/,
    ⟨0x1020, 256, 8, 15, [⟨0, 1, .rw, .porn, 0⟩, ⟨1, 3, .rw, .porn, 4⟩, ⟨4, 1, .w1s, .porn, 0⟩]⟩ /- DFE_CTL_k -/,
    ⟨0x1040, 256, 8, 15, [⟨0, 7, .rw, .porn, 0⟩]⟩ /- DFE1_k -/,
    ⟨0x1044, 256, 8, 15, [⟨0, 7, .rw, .porn, 0⟩]⟩ /- DFE2_k -/ ] ++
  [
    ⟨0x1048, 256, 8, 15, [⟨0, 7, .rw, .porn, 0⟩]⟩ /- DFE3_k -/,
    ⟨0x104C, 256, 8, 15, [⟨0, 7, .rw, .porn, 0⟩]⟩ /- DFE4_k -/,
    ⟨0x1050, 256, 8, 15, [⟨0, 7, .rw, .porn, 0⟩]⟩ /- DFE5_k -/,
    ⟨0x1054, 256, 8, 15, [⟨0, 7, .rw, .porn, 0⟩]⟩ /- DFE6_k -/,
    ⟨0x1058, 256, 8, 15, [⟨0, 7, .rw, .porn, 0⟩]⟩ /- DFE7_k -/,
    ⟨0x105C, 256, 8, 15, [⟨0, 7, .rw, .porn, 0⟩]⟩ /- DFE8_k -/,
    ⟨0x1060, 256, 8, 15, [⟨0, 7, .rw, .porn, 0⟩]⟩ /- DFE9_k -/,
    ⟨0x1064, 256, 8, 15, [⟨0, 7, .rw, .porn, 0⟩]⟩ /- DFE10_k -/,
    ⟨0x1068, 256, 8, 15, [⟨0, 7, .rw, .porn, 0⟩]⟩ /- DFE11_k -/,
    ⟨0x106C, 256, 8, 15, [⟨0, 7, .rw, .porn, 0⟩]⟩ /- DFE12_k -/,
    ⟨0x1080, 256, 8, 15, [⟨0, 3, .rw, .porn, 0⟩, ⟨4, 3, .rw, .porn, 0⟩, ⟨7, 1, .rw, .porn, 0⟩, ⟨8, 1, .ro, .porn, 0⟩]⟩ /- PRBS_k -/,
    ⟨0x1084, 256, 8, 15, [⟨0, 32, .rc, .srst, 0⟩]⟩ /- PRBS_ERR_k -/ ] ++
  [
    ⟨0x1088, 256, 8, 15, [⟨0, 32, .rc, .srst, 0⟩]⟩ /- PRBS_BITS_LO_k -/,
    ⟨0x108C, 256, 8, 15, [⟨0, 32, .rc, .srst, 0⟩]⟩ /- PRBS_BITS_HI_k -/,
    ⟨0x1090, 256, 8, 15, [⟨0, 6, .rw, .porn, 0⟩, ⟨8, 7, .rw, .porn, 0⟩, ⟨16, 2, .rw, .porn, 0⟩, ⟨24, 6, .rw, .porn, 0⟩, ⟨31, 1, .w1s, .porn, 0⟩]⟩ /- EYE_k -/,
    ⟨0x1094, 256, 8, 15, [⟨0, 1, .ro, .porn, 0⟩, ⟨1, 1, .w1c, .porn, 0⟩]⟩ /- EYE_STAT_k -/,
    ⟨0x1098, 256, 8, 15, [⟨0, 32, .ro, .porn, 0⟩]⟩ /- EYE_ERR_k -/,
    ⟨0x10A0, 256, 8, 15, [⟨0, 32, .rc, .srst, 0⟩]⟩ /- FEC_CORR_k -/,
    ⟨0x10A4, 256, 8, 15, [⟨0, 32, .rc, .srst, 0⟩]⟩ /- FEC_UNC_k -/ ]

/-- The registers of FLOW (window index 13). -/
def regsFLOW : List RegSpec :=
  [
    ⟨0x40, 4, 8, 15, [⟨0, 4, .rw, .srst, 0⟩]⟩ /- PORT_k -/,
    ⟨0x80, 4, 8, 15, [⟨0, 32, .rc, .srst, 0⟩]⟩ /- UNK_k -/,
    ⟨0xC0, 0, 1, 15, [⟨0, 18, .ro, .srst, 0⟩]⟩ /- SFFREE -/,
    ⟨0x10000, 64, 1024, 15, [⟨0, 1, .rw, .srst, 0⟩, ⟨1, 1, .rw, .srst, 0⟩, ⟨2, 3, .rw, .srst, 0⟩, ⟨5, 1, .rw, .srst, 0⟩, ⟨6, 2, .rw, .srst, 0⟩, ⟨8, 3, .rw, .srst, 0⟩, ⟨11, 1, .rw, .srst, 0⟩, ⟨12, 1, .rw, .srst, 0⟩, ⟨16, 8, .rw, .srst, 0⟩]⟩ /- CTL_f -/,
    ⟨0x10004, 64, 1024, 15, [⟨0, 14, .rw, .srst, 0⟩, ⟨16, 8, .rw, .srst, 0⟩, ⟨24, 1, .rw, .srst, 0⟩]⟩ /- ALIVE_f -/,
    ⟨0x10008, 64, 1024, 15, [⟨0, 19, .rw, .srst, 0⟩]⟩ /- BUF_f -/,
    ⟨0x1000C, 64, 1024, 15, [⟨0, 14, .rw, .srst, 0⟩, ⟨0, 12, .rw, .srst, 0⟩, ⟨16, 13, .rw, .srst, 0⟩]⟩ /- SIZE_f -/,
    ⟨0x10010, 64, 1024, 15, [⟨0, 16, .ro, .srst, 0⟩, ⟨16, 16, .rw, .srst, 0⟩]⟩ /- PTR_f -/,
    ⟨0x10014, 64, 1024, 15, [⟨0, 16, .rw, .srst, 0⟩]⟩ /- TXREQ_f -/,
    ⟨0x10018, 64, 1024, 15, [⟨0, 32, .rw, .srst, 0⟩]⟩ /- RV_f -/,
    ⟨0x1001C, 64, 1024, 15, [⟨0, 14, .rw, .srst, 0⟩]⟩ /- CVSTART_f -/,
    ⟨0x10020, 64, 1024, 15, [⟨0, 32, .rc, .srst, 0⟩]⟩ /- FRAMES_f -/ ] ++
  [
    ⟨0x10024, 64, 1024, 15, [⟨0, 32, .rc, .srst, 0⟩]⟩ /- REPEATS_f -/,
    ⟨0x10028, 64, 1024, 15, [⟨0, 32, .rc, .srst, 0⟩]⟩ /- LOST_f -/,
    ⟨0x1002C, 64, 1024, 15, [⟨0, 32, .rc, .srst, 0⟩]⟩ /- CHKBAD_f -/,
    ⟨0x10030, 64, 1024, 15, [⟨0, 32, .rc, .srst, 0⟩]⟩ /- DROPS_f -/,
    ⟨0x10034, 64, 1024, 15, [⟨0, 32, .rc, .srst, 0⟩]⟩ /- DISCARDS_f -/ ]

/-- The registers of CHK (window index 14). -/
def regsCHK : List RegSpec :=
  [
    ⟨0x4, 0, 1, 15, [⟨0, 7, .ro, .srst, 0⟩]⟩ /- ENG_BUSY -/,
    ⟨0x1000, 16, 256, 15, [⟨0, 3, .rw, .srst, 0⟩, ⟨4, 2, .rw, .srst, 0⟩, ⟨8, 1, .w1s, .srst, 0⟩]⟩ /- CFG_c -/,
    ⟨0x1004, 16, 256, 15, [⟨0, 32, .rw, .srst, 4294967295⟩]⟩ /- RV_c -/,
    ⟨0x1008, 16, 256, 15, [⟨0, 32, .wo, .srst, 0⟩]⟩ /- DATA_c -/,
    ⟨0x100C, 16, 256, 15, [⟨0, 32, .ro, .srst, 0⟩]⟩ /- RESULT_c -/ ]

/-- The registers of DRAM (window index 15). -/
def regsDRAM : List RegSpec :=
  [
    ⟨0x4, 0, 1, 15, [⟨0, 1, .rw, .porn, 0⟩, ⟨1, 1, .w1s, .porn, 0⟩, ⟨2, 1, .w1s, .porn, 0⟩, ⟨3, 1, .w1s, .porn, 0⟩, ⟨4, 1, .rw, .porn, 0⟩]⟩ /- CTL -/,
    ⟨0x8, 0, 1, 15, [⟨0, 1, .ro, .porn, 0⟩, ⟨1, 1, .ro, .porn, 0⟩, ⟨2, 1, .ro, .porn, 0⟩, ⟨3, 1, .ro, .porn, 0⟩, ⟨4, 3, .ro, .porn, 1⟩, ⟨8, 7, .ro, .srst, 0⟩, ⟨16, 3, .ro, .porn, 0⟩]⟩ /- STAT -/,
    ⟨0xC, 0, 1, 15, [⟨0, 1, .rw, .porn, 0⟩, ⟨1, 1, .rw, .porn, 0⟩, ⟨4, 2, .rw, .porn, 3⟩, ⟨8, 3, .rw, .porn, 6⟩]⟩ /- GEOM -/,
    ⟨0x10, 0, 1, 15, [⟨0, 5, .ro, .porn, 0⟩]⟩ /- CAPACITY -/,
    ⟨0x14, 0, 1, 15, [⟨0, 4, .rw, .porn, 0⟩, ⟨4, 1, .rw, .porn, 0⟩]⟩ /- MARK -/,
    ⟨0x18, 0, 1, 15, [⟨0, 8, .rw, .porn, 24⟩]⟩ /- PATROL -/,
    ⟨0x1C, 0, 1, 15, [⟨0, 10, .rw, .porn, 100⟩, ⟨16, 8, .rw, .porn, 10⟩]⟩ /- RETRAIN -/,
    ⟨0x20, 0, 1, 15, [⟨0, 27, .rw, .porn, 64⟩]⟩ /- BMASK_0 -/,
    ⟨0x24, 0, 1, 15, [⟨0, 27, .rw, .porn, 128⟩]⟩ /- BMASK_1 -/,
    ⟨0x28, 0, 1, 15, [⟨0, 27, .rw, .porn, 256⟩]⟩ /- BMASK_2 -/,
    ⟨0x2C, 0, 1, 15, [⟨0, 27, .rw, .porn, 67108864⟩]⟩ /- RMASK -/,
    ⟨0x30, 0, 1, 15, [⟨0, 32, .rc, .srst, 0⟩]⟩ /- CE_COUNT -/,
    ⟨0x34, 0, 1, 15, [⟨0, 32, .rc, .srst, 0⟩]⟩ /- UE_COUNT -/,
    ⟨0x38, 0, 1, 15, [⟨4, 28, .ro, .srst, 0⟩]⟩ /- ERR_LO -/ ] ++
  [
    ⟨0x3C, 0, 1, 15, [⟨0, 2, .ro, .srst, 0⟩, ⟨4, 4, .ro, .srst, 0⟩, ⟨31, 1, .ro, .srst, 0⟩]⟩ /- ERR_HI -/,
    ⟨0x40, 4, 10, 15, [⟨0, 32, .rc, .srst, 0⟩]⟩ /- CHIPCE_c -/,
    ⟨0x80, 0, 1, 15, [⟨0, 8, .rw, .porn, 36⟩, ⟨8, 8, .rw, .porn, 18⟩, ⟨16, 8, .rw, .porn, 40⟩, ⟨24, 8, .rw, .porn, 16⟩]⟩ /- TIM_0 -/,
    ⟨0x84, 0, 1, 15, [⟨0, 8, .rw, .porn, 39⟩, ⟨8, 8, .rw, .porn, 39⟩, ⟨16, 8, .rw, .porn, 45⟩, ⟨24, 8, .rw, .porn, 16⟩]⟩ /- TIM_1 -/,
    ⟨0x88, 0, 1, 15, [⟨0, 8, .rw, .porn, 90⟩, ⟨8, 8, .rw, .porn, 64⟩, ⟨16, 8, .rw, .porn, 22⟩]⟩ /- TIM_2 -/,
    ⟨0x8C, 0, 1, 15, [⟨0, 11, .rw, .porn, 598⟩, ⟨16, 11, .rw, .porn, 299⟩]⟩ /- TIM_3 -/,
    ⟨0x90, 0, 1, 15, [⟨0, 16, .rw, .porn, 1040⟩]⟩ /- TIM_4 -/,
    ⟨0x100, 16, 16, 15, [⟨0, 16, .rw, .porn, 0⟩, ⟨16, 13, .rw, .porn, 64⟩, ⟨30, 1, .rw, .porn, 0⟩, ⟨31, 1, .rw, .porn, 0⟩]⟩ /- REG_CTL_p -/,
    ⟨0x104, 16, 16, 15, [⟨0, 25, .ro, .porn, 0⟩]⟩ /- REG_TOK_p -/,
    ⟨0x108, 16, 16, 15, [⟨0, 32, .rc, .srst, 0⟩]⟩ /- REG_HELD_p -/ ]

/-- The registers of SEAM (window index 16). -/
def regsSEAM : List RegSpec :=
  [
    ⟨0x4, 0, 1, 15, [⟨0, 8, .ro, .porn, 0⟩]⟩ /- ROUTE -/,
    ⟨0x100, 64, 4, 15, [⟨0, 1, .w1s, .porn, 0⟩, ⟨1, 1, .w1s, .porn, 0⟩]⟩ /- LINK_CTL_n -/,
    ⟨0x104, 64, 4, 15, [⟨0, 2, .ro, .porn, 0⟩, ⟨2, 2, .ro, .porn, 0⟩, ⟨4, 1, .ro, .porn, 0⟩, ⟨8, 7, .ro, .porn, 0⟩]⟩ /- LINK_STAT_n -/,
    ⟨0x108, 64, 4, 15, [⟨0, 16, .ro, .porn, 0⟩]⟩ /- LAT_n -/,
    ⟨0x10C, 64, 4, 15, [⟨0, 32, .rc, .srst, 0⟩]⟩ /- RETRY_n -/,
    ⟨0x110, 64, 4, 15, [⟨0, 5, .ro, .porn, 0⟩]⟩ /- RWIN_n -/,
    ⟨0x114, 64, 4, 15, [⟨0, 32, .rc, .srst, 0⟩]⟩ /- FLITS_n -/,
    ⟨0x200, 0, 1, 1, [⟨0, 3, .rw, .porn, 0⟩, ⟨4, 3, .rw, .porn, 0⟩, ⟨8, 1, .rw, .porn, 0⟩, ⟨9, 1, .w1s, .porn, 0⟩, ⟨10, 1, .w1s, .porn, 0⟩]⟩ /- GRP_CTL -/,
    ⟨0x204, 0, 1, 1, [⟨0, 2, .ro, .porn, 0⟩, ⟨4, 4, .ro, .porn, 0⟩, ⟨8, 8, .ro, .porn, 0⟩, ⟨16, 8, .ro, .porn, 0⟩, ⟨24, 1, .ro, .porn, 0⟩]⟩ /- GRP_STAT -/ ]

/-- The registers of CFG (window index 17). -/
def regsCFG : List RegSpec :=
  [
    ⟨0x4, 0, 1, 1, [⟨0, 1, .w1s, .porn, 0⟩, ⟨1, 1, .rw, .porn, 0⟩]⟩ /- CTL -/,
    ⟨0x8, 0, 1, 15, [⟨0, 3, .ro, .porn, 0⟩, ⟨4, 4, .ro, .porn, 0⟩, ⟨8, 1, .ro, .porn, 0⟩, ⟨9, 1, .ro, .porn, 0⟩, ⟨10, 2, .ro, .porn, 0⟩, ⟨12, 1, .ro, .porn, 0⟩, ⟨13, 1, .ro, .porn, 0⟩, ⟨14, 2, .ro, .porn, 0⟩, ⟨16, 2, .ro, .porn, 0⟩]⟩ /- STAT -/,
    ⟨0xC, 0, 1, 1, [⟨0, 32, .rw, .porn, 0⟩]⟩ /- SRC_LO -/,
    ⟨0x10, 0, 1, 1, [⟨0, 32, .rw, .porn, 0⟩]⟩ /- SRC_HI -/,
    ⟨0x14, 0, 1, 1, [⟨0, 32, .rw, .porn, 0⟩]⟩ /- SRC_LEN -/,
    ⟨0x18, 0, 1, 1, [⟨0, 32, .wo, .porn, 0⟩]⟩ /- DATA -/,
    ⟨0x1C, 0, 1, 1, [⟨0, 32, .ro, .porn, 0⟩]⟩ /- POS -/,
    ⟨0x20, 0, 1, 1, [⟨0, 32, .ro, .porn, 0⟩]⟩ /- FAILPOS -/,
    ⟨0x24, 0, 1, 1, [⟨0, 32, .ro, .porn, 0⟩]⟩ /- LOADTIME -/,
    ⟨0x28, 0, 1, 15, [⟨0, 32, .ro, .porn, 0⟩]⟩ /- IMAGEID_LO -/,
    ⟨0x2C, 0, 1, 15, [⟨0, 32, .ro, .porn, 0⟩]⟩ /- IMAGEID_HI -/,
    ⟨0x40, 4, 8, 1, [⟨0, 32, .ro, .porn, 0⟩]⟩ /- DIGEST_i -/ ] ++
  [
    ⟨0x60, 0, 1, 1, [⟨0, 1, .ro, .porn, 0⟩, ⟨1, 2, .ro, .porn, 0⟩, ⟨3, 2, .ro, .porn, 0⟩, ⟨5, 1, .ro, .porn, 0⟩, ⟨6, 1, .ro, .porn, 0⟩, ⟨7, 1, .ro, .porn, 0⟩]⟩ /- BOOTREC -/,
    ⟨0x64, 0, 1, 1, [⟨0, 32, .ro, .porn, 0⟩]⟩ /- BOOTSEQ -/,
    ⟨0x68, 0, 1, 1, [⟨0, 32, .rw, .porn, 0⟩]⟩ /- FL_ADDR -/,
    ⟨0x6C, 0, 1, 1, [⟨0, 3, .rw, .porn, 0⟩, ⟨16, 1, .w1s, .porn, 0⟩, ⟨17, 1, .ro, .porn, 0⟩, ⟨18, 1, .w1c, .porn, 0⟩]⟩ /- FL_CTL -/,
    ⟨0x80, 4, 16, 1, [⟨0, 32, .rw, .porn, 0⟩]⟩ /- FL_DATA_n -/ ]

/-- The registers of DARNER (window index 18). -/
def regsDARNER : List RegSpec :=
  [
    ⟨0x4, 0, 1, 15, [⟨0, 1, .rw, .porn, 1⟩]⟩ /- CTL -/,
    ⟨0x8, 0, 1, 15, [⟨0, 18, .ro, .srst, 0⟩, ⟨31, 1, .ro, .srst, 0⟩]⟩ /- POS -/,
    ⟨0xC, 0, 1, 15, [⟨0, 32, .ro, .srst, 0⟩]⟩ /- PASSES -/,
    ⟨0x10, 0, 1, 15, [⟨0, 32, .ro, .srst, 0⟩]⟩ /- LASTPASS -/,
    ⟨0x14, 0, 1, 15, [⟨0, 32, .rc, .srst, 0⟩]⟩ /- FR_CE -/,
    ⟨0x18, 0, 1, 15, [⟨0, 32, .rc, .srst, 0⟩]⟩ /- FR_MULTI -/,
    ⟨0x1C, 0, 1, 15, [⟨0, 32, .rc, .srst, 0⟩]⟩ /- MEM_CE -/,
    ⟨0x20, 0, 1, 15, [⟨0, 32, .rc, .srst, 0⟩]⟩ /- MEM_UE -/,
    ⟨0x24, 0, 1, 15, [⟨0, 32, .rc, .srst, 0⟩]⟩ /- SKIPPED -/,
    ⟨0x100, 16, 64, 15, [⟨0, 1, .rw, .porn, 0⟩, ⟨1, 1, .ro, .srst, 0⟩]⟩ /- RLD_CTL_r -/,
    ⟨0x104, 16, 64, 15, [⟨6, 26, .rw, .porn, 0⟩]⟩ /- RLD_ADDR_LO_r -/,
    ⟨0x108, 16, 64, 15, [⟨0, 8, .rw, .porn, 0⟩]⟩ /- RLD_ADDR_HI_r -/ ]

/-- The registers of HEM (window index 19). -/
def regsHEM : List RegSpec :=
  [
    ⟨0x4, 0, 1, 15, [⟨0, 1, .ro, .porn, 0⟩, ⟨8, 8, .ro, .porn, 0⟩, ⟨16, 3, .ro, .porn, 0⟩, ⟨19, 1, .ro, .porn, 0⟩, ⟨20, 1, .ro, .porn, 0⟩, ⟨21, 3, .ro, .porn, 0⟩]⟩ /- STAT -/,
    ⟨0x8, 0, 1, 15, [⟨0, 7, .ro, .porn, 0⟩]⟩ /- FAIL_KINDS -/,
    ⟨0xC, 0, 1, 15, [⟨0, 9, .ro, .porn, 0⟩]⟩ /- CORR -/,
    ⟨0x10, 0, 1, 15, [⟨0, 18, .ro, .porn, 0⟩]⟩ /- CONTROL -/,
    ⟨0x14, 0, 1, 15, [⟨0, 28, .ro, .porn, 0⟩]⟩ /- UNITEN -/,
    ⟨0x18, 0, 1, 15, [⟨0, 8, .ro, .porn, 0⟩, ⟨8, 2, .ro, .porn, 0⟩, ⟨10, 1, .ro, .porn, 0⟩]⟩ /- FEATEN -/,
    ⟨0x20, 0, 1, 15, [⟨0, 9, .rw, .srst, 0⟩]⟩ /- RD_ROW -/,
    ⟨0x24, 0, 1, 15, [⟨0, 32, .ro, .srst, 0⟩]⟩ /- RD_LO -/,
    ⟨0x28, 0, 1, 15, [⟨0, 32, .ro, .srst, 0⟩]⟩ /- RD_HI -/,
    ⟨0x2C, 0, 1, 15, [⟨0, 1, .ro, .srst, 0⟩]⟩ /- RD_STAT -/,
    ⟨0x30, 0, 1, 15, [⟨0, 9, .rw, .srst, 0⟩]⟩ /- PROG_ROW -/,
    ⟨0x34, 0, 1, 15, [⟨0, 32, .rw, .srst, 0⟩]⟩ /- PROG_LO -/ ] ++
  [
    ⟨0x38, 0, 1, 15, [⟨0, 32, .rw, .srst, 0⟩]⟩ /- PROG_HI -/,
    ⟨0x3C, 0, 1, 15, [⟨0, 1, .w1s, .srst, 0⟩]⟩ /- PROG_CTL -/,
    ⟨0x40, 0, 1, 15, [⟨0, 3, .rw, .srst, 0⟩, ⟨31, 1, .w1s, .srst, 0⟩]⟩ /- LC_REQ -/ ]

/-- The registers of LINING (window index 20). -/
def regsLINING : List RegSpec :=
  [
    ⟨0x4, 0, 1, 15, [⟨0, 1, .w1s, .srst, 0⟩]⟩ /- CTL -/,
    ⟨0x8, 0, 1, 15, [⟨0, 1, .ro, .porn, 0⟩, ⟨1, 3, .ro, .porn, 0⟩, ⟨4, 1, .w1c, .porn, 0⟩]⟩ /- STAT -/,
    ⟨0xC, 0, 1, 15, [⟨0, 16, .ro, .porn, 0⟩]⟩ /- WIPES -/,
    ⟨0x10, 0, 1, 15, [⟨0, 32, .rc, .srst, 0⟩]⟩ /- CE_COUNT -/,
    ⟨0x14, 0, 1, 15, [⟨0, 32, .rc, .srst, 0⟩]⟩ /- UE_COUNT -/,
    ⟨0x18, 0, 1, 15, [⟨0, 15, .ro, .srst, 0⟩, ⟨31, 1, .ro, .srst, 0⟩]⟩ /- ERR_ADDR -/ ]

/-- The registers of WDOG (window index 21). -/
def regsWDOG : List RegSpec :=
  [
    ⟨0x4, 0, 1, 15, [⟨0, 1, .w1s, .porn, 0⟩]⟩ /- CTL -/,
    ⟨0x8, 0, 1, 15, [⟨0, 16, .rw, .porn, 1000⟩]⟩ /- PERIOD -/,
    ⟨0xC, 0, 1, 15, [⟨0, 8, .rw, .porn, 20⟩]⟩ /- PULSE -/,
    ⟨0x10, 0, 1, 15, [⟨0, 1, .ro, .porn, 0⟩, ⟨1, 1, .ro, .porn, 0⟩, ⟨2, 1, .ro, .porn, 0⟩, ⟨3, 1, .ro, .porn, 0⟩]⟩ /- STAT -/,
    ⟨0x14, 0, 1, 15, [⟨0, 26, .ro, .porn, 0⟩]⟩ /- COUNT -/,
    ⟨0x18, 0, 1, 15, [⟨0, 26, .ro, .porn, 0⟩]⟩ /- OPENAT -/,
    ⟨0x1C, 0, 1, 15, [⟨0, 32, .rc, .srst, 0⟩]⟩ /- BADSVC -/,
    ⟨0x20, 0, 1, 15, [⟨0, 32, .rc, .srst, 0⟩]⟩ /- SVCS -/ ]

/-- The registers of PLACKET (window index 22). -/
def regsPLACKET : List RegSpec :=
  [
    ⟨0x4, 0, 1, 15, [⟨0, 32, .rw, .none, 0⟩]⟩ /- DBG_ADDR_LO -/,
    ⟨0x8, 0, 1, 15, [⟨0, 8, .rw, .none, 0⟩]⟩ /- DBG_ADDR_HI -/,
    ⟨0xC, 0, 1, 15, [⟨0, 32, .rw, .none, 0⟩]⟩ /- DBG_DATA_LO -/,
    ⟨0x10, 0, 1, 15, [⟨0, 24, .rw, .none, 0⟩]⟩ /- DBG_DATA_HI -/,
    ⟨0x14, 0, 1, 15, [⟨0, 2, .rw, .none, 0⟩, ⟨2, 1, .rw, .none, 0⟩, ⟨31, 1, .w1s, .none, 0⟩]⟩ /- DBG_CMD -/,
    ⟨0x18, 0, 1, 15, [⟨0, 1, .ro, .none, 0⟩, ⟨1, 1, .ro, .none, 0⟩, ⟨2, 3, .ro, .none, 0⟩]⟩ /- DBG_STAT -/,
    ⟨0x20, 0, 1, 15, [⟨0, 1, .w1s, .none, 0⟩, ⟨1, 1, .w1s, .none, 0⟩, ⟨2, 1, .w1s, .none, 0⟩, ⟨3, 1, .rw, .none, 0⟩, ⟨4, 1, .rw, .none, 0⟩, ⟨5, 1, .rw, .none, 0⟩]⟩ /- HALT_CTL -/,
    ⟨0x24, 0, 1, 15, [⟨0, 8, .rw, .none, 0⟩, ⟨8, 8, .rw, .none, 0⟩, ⟨16, 1, .w1s, .none, 0⟩, ⟨17, 1, .w1s, .none, 0⟩, ⟨18, 1, .w1s, .none, 0⟩]⟩ /- CLH_SET -/,
    ⟨0x28, 0, 1, 15, [⟨0, 1, .ro, .none, 0⟩, ⟨1, 3, .ro, .none, 0⟩, ⟨16, 14, .ro, .none, 0⟩]⟩ /- HALT_STAT -/,
    ⟨0x40, 4, 4, 15, [⟨0, 14, .rw, .none, 0⟩, ⟨31, 1, .rw, .none, 0⟩]⟩ /- YBP_n -/,
    ⟨0x50, 8, 4, 15, [⟨0, 12, .rw, .none, 0⟩, ⟨31, 1, .rw, .none, 0⟩]⟩ /- RBP_n -/,
    ⟨0x54, 8, 4, 15, [⟨0, 8, .rw, .none, 0⟩, ⟨8, 8, .rw, .none, 0⟩]⟩ /- RBP_SET_n -/ ] ++
  [
    ⟨0x80, 4, 16, 15, [⟨0, 32, .rw, .none, 0⟩]⟩ /- YREG_i -/,
    ⟨0xC0, 0, 1, 15, [⟨0, 8, .rw, .none, 0⟩, ⟨8, 3, .rw, .none, 0⟩, ⟨11, 12, .rw, .none, 0⟩, ⟨23, 4, .rw, .none, 0⟩, ⟨28, 2, .rw, .none, 0⟩, ⟨31, 1, .w1s, .none, 0⟩]⟩ /- CLSEL -/,
    ⟨0xD0, 4, 4, 15, [⟨0, 32, .rw, .none, 0⟩]⟩ /- CLDATA_n -/,
    ⟨0x100, 4, 256, 15, [⟨0, 32, .rw, .none, 0⟩]⟩ /- STIM_EN_t -/,
    ⟨0x500, 0, 1, 1, [⟨0, 2, .rw, .none, 0⟩, ⟨2, 4, .rw, .none, 0⟩, ⟨6, 1, .rw, .none, 0⟩, ⟨8, 5, .rw, .none, 0⟩]⟩ /- TR_CTL -/,
    ⟨0x504, 0, 1, 1, [⟨0, 12, .ro, .none, 0⟩, ⟨12, 1, .w1c, .none, 0⟩]⟩ /- TR_STAT -/,
    ⟨0x508, 0, 1, 1, [⟨0, 32, .rc, .none, 0⟩]⟩ /- TR_LOST -/,
    ⟨0x50C, 0, 1, 1, [⟨0, 32, .rw, .none, 0⟩]⟩ /- TR_RING_BASE_LO -/,
    ⟨0x510, 0, 1, 1, [⟨0, 8, .rw, .none, 0⟩]⟩ /- TR_RING_BASE_HI -/,
    ⟨0x514, 0, 1, 1, [⟨0, 32, .ro, .none, 0⟩]⟩ /- TR_RING_WP -/,
    ⟨0x520, 4, 8, 1, [⟨0, 32, .rw, .none, 0⟩]⟩ /- TR_KIND_i -/,
    ⟨0x540, 4, 8, 1, [⟨0, 32, .rw, .none, 0⟩]⟩ /- TR_TEN_i -/ ] ++
  [
    ⟨0x600, 4, 8, 1, [⟨0, 32, .ro, .porn, 0⟩]⟩ /- AUTH_CHAL_i -/,
    ⟨0x640, 4, 24, 1, [⟨0, 32, .wo, .porn, 0⟩]⟩ /- AUTH_KEY_i -/,
    ⟨0x6A0, 4, 24, 1, [⟨0, 32, .wo, .porn, 0⟩]⟩ /- AUTH_SIG_i -/,
    ⟨0x700, 0, 1, 1, [⟨0, 1, .w1s, .porn, 0⟩, ⟨1, 1, .w1s, .porn, 0⟩]⟩ /- AUTH_CTL -/,
    ⟨0x704, 0, 1, 1, [⟨0, 1, .ro, .porn, 0⟩, ⟨1, 1, .ro, .porn, 0⟩, ⟨2, 1, .ro, .porn, 0⟩, ⟨3, 1, .ro, .porn, 0⟩, ⟨4, 4, .ro, .porn, 0⟩, ⟨8, 3, .ro, .porn, 0⟩]⟩ /- AUTH_STAT -/ ]

/-- The registers of HOST (window index 23). -/
def regsHOST : List RegSpec :=
  [
    ⟨0x4, 0, 1, 1, [⟨0, 16, .ro, .porn, 0⟩, ⟨16, 16, .ro, .porn, 0⟩]⟩ /- PCI_ID -/,
    ⟨0x8, 0, 1, 1, [⟨0, 3, .ro, .porn, 0⟩, ⟨4, 2, .ro, .porn, 0⟩, ⟨6, 1, .ro, .porn, 0⟩]⟩ /- LINK -/,
    ⟨0x100, 0, 1, 1, [⟨0, 7, .rw, .srst, 0⟩, ⟨7, 1, .rw, .srst, 0⟩, ⟨8, 4, .rw, .srst, 0⟩, ⟨12, 1, .rw, .srst, 0⟩, ⟨13, 1, .w1s, .srst, 0⟩, ⟨16, 8, .rw, .srst, 0⟩]⟩ /- SMB_CTL -/,
    ⟨0x104, 0, 1, 1, [⟨0, 1, .ro, .srst, 0⟩, ⟨1, 1, .w1c, .srst, 0⟩, ⟨2, 1, .w1c, .srst, 0⟩, ⟨3, 1, .w1c, .srst, 0⟩, ⟨4, 1, .w1c, .srst, 0⟩, ⟨8, 6, .ro, .srst, 0⟩]⟩ /- SMB_STAT -/,
    ⟨0x120, 4, 8, 1, [⟨0, 32, .rw, .srst, 0⟩]⟩ /- SMB_DATA_n -/ ]

/-- The registers of EVT (window index 24). -/
def regsEVT : List RegSpec :=
  [
    ⟨0x4, 0, 1, 1, [⟨0, 16, .rw, .srst, 4096⟩]⟩ /- MERGE -/,
    ⟨0x8, 0, 1, 1, [⟨0, 32, .rc, .srst, 0⟩]⟩ /- LATE -/,
    ⟨0x1000, 32, 256, 1, [⟨0, 32, .rw, .srst, 0⟩]⟩ /- RING_BASE_LO_t -/,
    ⟨0x1004, 32, 256, 1, [⟨0, 32, .rw, .srst, 0⟩]⟩ /- RING_BASE_HI_t -/,
    ⟨0x1008, 32, 256, 1, [⟨0, 5, .rw, .srst, 0⟩, ⟨5, 1, .rw, .srst, 0⟩, ⟨6, 1, .rw, .srst, 0⟩]⟩ /- RING_CTL_t -/,
    ⟨0x100C, 32, 256, 1, [⟨0, 32, .ro, .srst, 0⟩]⟩ /- RING_PROD_t -/,
    ⟨0x1010, 32, 256, 1, [⟨0, 32, .rw, .srst, 0⟩]⟩ /- RING_CONS_t -/,
    ⟨0x1014, 32, 256, 1, [⟨0, 32, .rc, .srst, 0⟩]⟩ /- RING_LOST_t -/,
    ⟨0x3000, 4, 8, 1, [⟨0, 32, .w1c, .porn, 0⟩]⟩ /- ALARM_i -/,
    ⟨0x3100, 0, 1, 1, [⟨0, 6, .ro, .none, 0⟩, ⟨8, 8, .ro, .none, 0⟩]⟩ /- AOL_STAT -/,
    ⟨0x3104, 0, 1, 1, [⟨0, 5, .rw, .srst, 0⟩]⟩ /- AOL_SEL -/,
    ⟨0x3108, 0, 1, 1, [⟨0, 1, .w1s, .none, 0⟩]⟩ /- AOL_CLR -/ ] ++
  [
    ⟨0x3110, 4, 4, 1, [⟨0, 32, .ro, .none, 0⟩]⟩ /- AOL_w -/,
    ⟨0x3400, 4, 256, 1, [⟨0, 32, .rc, .porn, 0⟩]⟩ /- KCOUNT_k -/ ]

/-- The registers of TIME (window index 25). -/
def regsTIME : List RegSpec :=
  [
    ⟨0x4, 0, 1, 15, [⟨0, 32, .ro, .porn, 0⟩]⟩ /- NOW_LO -/,
    ⟨0x8, 0, 1, 15, [⟨0, 32, .ro, .porn, 0⟩]⟩ /- NOW_HI -/,
    ⟨0xC, 0, 1, 1, [⟨0, 32, .rw, .srst, 0⟩]⟩ /- SET_LO -/,
    ⟨0x10, 0, 1, 1, [⟨0, 32, .rw, .srst, 0⟩]⟩ /- SET_HI -/,
    ⟨0x14, 0, 1, 1, [⟨0, 1, .w1s, .srst, 0⟩, ⟨1, 2, .rw, .srst, 0⟩]⟩ /- CTL -/,
    ⟨0x18, 0, 1, 15, [⟨0, 1, .ro, .porn, 0⟩, ⟨1, 1, .ro, .porn, 0⟩, ⟨2, 2, .ro, .porn, 0⟩, ⟨8, 8, .ro, .porn, 0⟩]⟩ /- STAT -/,
    ⟨0x20, 0, 1, 1, [⟨0, 27, .rw, .srst, 100000⟩]⟩ /- TICK_P -/,
    ⟨0x24, 0, 1, 1, [⟨0, 27, .rw, .srst, 20000⟩]⟩ /- TICK_A -/,
    ⟨0x28, 0, 1, 1, [⟨0, 27, .rw, .srst, 90000⟩]⟩ /- TICK_S -/,
    ⟨0x2C, 0, 1, 1, [⟨0, 1, .rw, .srst, 0⟩, ⟨1, 1, .w1s, .srst, 0⟩]⟩ /- TICK_CTL -/,
    ⟨0x30, 0, 1, 1, [⟨0, 1, .ro, .srst, 0⟩, ⟨1, 1, .ro, .srst, 0⟩, ⟨2, 3, .ro, .srst, 0⟩, ⟨5, 1, .ro, .srst, 0⟩]⟩ /- TICK_STATUS -/,
    ⟨0x34, 0, 1, 15, [⟨0, 32, .ro, .srst, 0⟩]⟩ /- TICK_NUM_LO -/ ] ++
  [
    ⟨0x38, 0, 1, 15, [⟨0, 16, .ro, .srst, 0⟩]⟩ /- TICK_NUM_HI -/,
    ⟨0x3C, 0, 1, 1, [⟨0, 32, .rw, .srst, 0⟩]⟩ /- TICK_START_LO -/,
    ⟨0x40, 0, 1, 1, [⟨0, 32, .rw, .srst, 0⟩]⟩ /- TICK_START_HI -/,
    ⟨0x44, 0, 1, 15, [⟨0, 32, .ro, .srst, 0⟩]⟩ /- TICK_CUR_LO -/,
    ⟨0x48, 0, 1, 15, [⟨0, 32, .ro, .srst, 0⟩]⟩ /- TICK_CUR_HI -/,
    ⟨0x4C, 0, 1, 15, [⟨0, 16, .rc, .srst, 0⟩, ⟨16, 2, .ro, .srst, 0⟩]⟩ /- TICK_MISS -/ ]

/-- The registers of TAMPER (window index 26). -/
def regsTAMPER : List RegSpec :=
  [
    ⟨0x4, 0, 1, 15, [⟨0, 4, .w1s, .none, 0⟩]⟩ /- EN -/,
    ⟨0x8, 0, 1, 15, [⟨0, 4, .ro, .none, 0⟩, ⟨4, 4, .w1c, .none, 0⟩, ⟨8, 1, .ro, .none, 0⟩, ⟨9, 1, .w1c, .none, 0⟩]⟩ /- STAT -/,
    ⟨0xC, 0, 1, 1, [⟨0, 1, .w1s, .none, 0⟩, ⟨1, 1, .w1s, .none, 0⟩, ⟨8, 1, .ro, .none, 0⟩]⟩ /- KEYCTL -/,
    ⟨0x10, 4, 8, 1, [⟨0, 32, .wo, .none, 0⟩]⟩ /- BBKEY_n -/,
    ⟨0x40, 0, 1, 1, [⟨0, 32, .ro, .none, 0⟩]⟩ /- VBTIME -/,
    ⟨0x44, 0, 1, 1, [⟨0, 5, .ro, .none, 0⟩, ⟨8, 8, .ro, .none, 0⟩]⟩ /- LOG_STAT -/,
    ⟨0x48, 0, 1, 1, [⟨0, 4, .rw, .srst, 0⟩]⟩ /- LOG_SEL -/,
    ⟨0x4C, 0, 1, 1, [⟨0, 1, .w1s, .none, 0⟩]⟩ /- LOG_CLR -/,
    ⟨0x50, 4, 4, 1, [⟨0, 32, .ro, .none, 0⟩]⟩ /- LOG_w -/ ]

/-- The registers of PWR (window index 27). -/
def regsPWR : List RegSpec :=
  [
    ⟨0x4, 0, 1, 15, [⟨0, 1, .ro, .none, 0⟩, ⟨1, 1, .ro, .none, 0⟩, ⟨2, 1, .ro, .none, 0⟩, ⟨3, 1, .ro, .none, 0⟩, ⟨4, 1, .ro, .none, 0⟩, ⟨5, 1, .ro, .none, 0⟩, ⟨6, 1, .ro, .none, 0⟩, ⟨7, 1, .ro, .none, 0⟩, ⟨8, 1, .ro, .none, 0⟩, ⟨9, 1, .ro, .none, 0⟩, ⟨10, 1, .ro, .none, 0⟩, ⟨11, 1, .ro, .none, 0⟩, ⟨12, 4, .ro, .none, 0⟩]⟩ /- RAIL -/,
    ⟨0x8, 0, 1, 15, [⟨4, 12, .w1c, .porn, 0⟩]⟩ /- RAILLOW -/,
    ⟨0xC, 0, 1, 15, [⟨0, 10, .ro, .porn, 0⟩, ⟨16, 1, .ro, .porn, 0⟩]⟩ /- VREQ -/,
    ⟨0x10, 0, 1, 1, [⟨0, 16, .ro, .none, 0⟩, ⟨16, 2, .ro, .none, 0⟩, ⟨18, 1, .ro, .none, 0⟩]⟩ /- BOSTAT -/ ]

/-- The registers of the window with index `u` (R25). -/
def regTable : Nat → List RegSpec
  | 0 => regsSYS
  | 1 => regsYOKE
  | 2 => regsLEDGER
  | 3 => regsBASTE
  | 4 => regsCLK
  | 5 => regsSPAD
  | 6 => regsBMEM
  | 7 => regsRENTIK
  | 8 => regsACQ
  | 9 => regsILK
  | 10 => regsPSENSE
  | 11 => regsPLEAT
  | 12 => regsLANE
  | 13 => regsFLOW
  | 14 => regsCHK
  | 15 => regsDRAM
  | 16 => regsSEAM
  | 17 => regsCFG
  | 18 => regsDARNER
  | 19 => regsHEM
  | 20 => regsLINING
  | 21 => regsWDOG
  | 22 => regsPLACKET
  | 23 => regsHOST
  | 24 => regsEVT
  | 25 => regsTIME
  | 26 => regsTAMPER
  | 27 => regsPWR
  | _ => []

namespace Rf

/-- R48. -/
def SYS_CAP_0_PRESENT : Fld := ⟨0, 0x4, 0, 0, 28⟩
/-- R49. -/
def SYS_CAP_1_FASTADC : Fld := ⟨0, 0x8, 0, 0, 1⟩
/-- R49. -/
def SYS_CAP_1_SLOWADC : Fld := ⟨0, 0x8, 0, 1, 1⟩
/-- R49. -/
def SYS_CAP_1_PULSE : Fld := ⟨0, 0x8, 0, 2, 1⟩
/-- R49. -/
def SYS_CAP_1_PAM4 : Fld := ⟨0, 0x8, 0, 3, 1⟩
/-- R49. -/
def SYS_CAP_1_CHIPKILL : Fld := ⟨0, 0x8, 0, 4, 1⟩
/-- R49. -/
def SYS_CAP_1_BOOTFLASH : Fld := ⟨0, 0x8, 0, 5, 1⟩
/-- R49. -/
def SYS_CAP_1_DEVPINS : Fld := ⟨0, 0x8, 0, 6, 1⟩
/-- R49. -/
def SYS_CAP_1_BASTE_ACQ : Fld := ⟨0, 0x8, 0, 7, 1⟩
/-- R49. -/
def SYS_CAP_1_DIE : Fld := ⟨0, 0x8, 0, 16, 2⟩
/-- R49. -/
def SYS_CAP_1_VARIANT : Fld := ⟨0, 0x8, 0, 20, 2⟩
/-- R49. -/
def SYS_CAP_1_GRADE : Fld := ⟨0, 0x8, 0, 22, 1⟩
/-- R50. -/
def SYS_COMPAT_OVERRUN : Fld := ⟨0, 0xC, 0, 0, 1⟩
/-- R50. -/
def SYS_COMPAT_EVT96 : Fld := ⟨0, 0xC, 0, 1, 1⟩
/-- R50. -/
def SYS_COMPAT_ALIVE4 : Fld := ⟨0, 0xC, 0, 2, 1⟩
/-- R50. -/
def SYS_COMPAT_P1TRUNC : Fld := ⟨0, 0xC, 0, 3, 1⟩
/-- R50. -/
def SYS_COMPAT_SPADPRI : Fld := ⟨0, 0xC, 0, 4, 1⟩
/-- R50. -/
def SYS_COMPAT_DRAMMAP : Fld := ⟨0, 0xC, 0, 5, 1⟩
/-- R50. -/
def SYS_COMPAT_PIN : Fld := ⟨0, 0xC, 0, 31, 1⟩
/-- R51. -/
def SYS_DIEMAP_DIES : Fld := ⟨0, 0x10, 0, 0, 4⟩
/-- R51. -/
def SYS_GRANT_UNITS : Fld := ⟨0, 0x400, 4, 0, 28⟩
/-- R113. -/
def TIME_NOW_LO_NOW : Fld := ⟨25, 0x4, 0, 0, 32⟩
/-- R113. -/
def TIME_NOW_HI_NOW : Fld := ⟨25, 0x8, 0, 0, 32⟩
/-- R113. -/
def TIME_SET_LO_SET : Fld := ⟨25, 0xC, 0, 0, 32⟩
/-- R113. -/
def TIME_SET_HI_SET : Fld := ⟨25, 0x10, 0, 0, 32⟩
/-- R113. -/
def TIME_CTL_SET : Fld := ⟨25, 0x14, 0, 0, 1⟩
/-- R113. -/
def TIME_CTL_SRC : Fld := ⟨25, 0x14, 0, 1, 2⟩
/-- R113. -/
def TIME_STAT_REFLOCK : Fld := ⟨25, 0x18, 0, 0, 1⟩
/-- R113. -/
def TIME_STAT_HOLDOVER : Fld := ⟨25, 0x18, 0, 1, 1⟩
/-- R113. -/
def TIME_STAT_STATE : Fld := ⟨25, 0x18, 0, 2, 2⟩
/-- R113. -/
def TIME_STAT_SKEW : Fld := ⟨25, 0x18, 0, 8, 8⟩
/-- R113. -/
def TIME_TICK_P_P : Fld := ⟨25, 0x20, 0, 0, 27⟩
/-- R113. -/
def TIME_TICK_A_A : Fld := ⟨25, 0x24, 0, 0, 27⟩
/-- R113. -/
def TIME_TICK_S_S : Fld := ⟨25, 0x28, 0, 0, 27⟩
/-- R113. -/
def TIME_TICK_CTL_RUN : Fld := ⟨25, 0x2C, 0, 0, 1⟩
/-- R113. -/
def TIME_TICK_CTL_APPLY : Fld := ⟨25, 0x2C, 0, 1, 1⟩
/-- R113. -/
def TIME_TICK_STATUS_RUNNING : Fld := ⟨25, 0x30, 0, 0, 1⟩
/-- R113. -/
def TIME_TICK_STATUS_PENDING : Fld := ⟨25, 0x30, 0, 1, 1⟩
/-- R113. -/
def TIME_TICK_STATUS_RESULT : Fld := ⟨25, 0x30, 0, 2, 3⟩
/-- R113. -/
def TIME_TICK_STATUS_EXTENDED : Fld := ⟨25, 0x30, 0, 5, 1⟩
/-- R113. -/
def TIME_TICK_NUM_LO_NUM : Fld := ⟨25, 0x34, 0, 0, 32⟩
/-- R113. -/
def TIME_TICK_NUM_HI_NUM : Fld := ⟨25, 0x38, 0, 0, 16⟩
/-- R113. -/
def TIME_TICK_START_LO_START : Fld := ⟨25, 0x3C, 0, 0, 32⟩
/-- R113. -/
def TIME_TICK_START_HI_START : Fld := ⟨25, 0x40, 0, 0, 32⟩
/-- R113. -/
def TIME_TICK_CUR_LO_CUR : Fld := ⟨25, 0x44, 0, 0, 32⟩
/-- R113. -/
def TIME_TICK_CUR_HI_CUR : Fld := ⟨25, 0x48, 0, 0, 32⟩
/-- R113. -/
def TIME_TICK_MISS_MISSES : Fld := ⟨25, 0x4C, 0, 0, 16⟩
/-- R113. -/
def TIME_TICK_MISS_RUNLEN : Fld := ⟨25, 0x4C, 0, 16, 2⟩
/-- R113. -/
def EVT_MERGE_W : Fld := ⟨24, 0x4, 0, 0, 16⟩
/-- R113. -/
def EVT_LATE_LATE : Fld := ⟨24, 0x8, 0, 0, 32⟩
/-- R113. -/
def EVT_RING_BASE_LO_BASE : Fld := ⟨24, 0x1000, 32, 0, 32⟩
/-- R113. -/
def EVT_RING_BASE_HI_BASE : Fld := ⟨24, 0x1004, 32, 0, 32⟩
/-- R113. -/
def EVT_RING_CTL_LOG2SIZE : Fld := ⟨24, 0x1008, 32, 0, 5⟩
/-- R113. -/
def EVT_RING_CTL_TARGET : Fld := ⟨24, 0x1008, 32, 5, 1⟩
/-- R113. -/
def EVT_RING_CTL_ENABLE : Fld := ⟨24, 0x1008, 32, 6, 1⟩
/-- R113. -/
def EVT_RING_PROD_PROD : Fld := ⟨24, 0x100C, 32, 0, 32⟩
/-- R113. -/
def EVT_RING_CONS_CONS : Fld := ⟨24, 0x1010, 32, 0, 32⟩
/-- R113. -/
def EVT_RING_LOST_LOST : Fld := ⟨24, 0x1014, 32, 0, 32⟩
/-- R190. -/
def YOKE_CTL_ENTRY : Fld := ⟨1, 0x4, 0, 0, 14⟩
/-- R190. -/
def YOKE_CTL_MODE : Fld := ⟨1, 0x4, 0, 16, 1⟩
/-- R190. -/
def YOKE_STAT_PC : Fld := ⟨1, 0x8, 0, 0, 14⟩
/-- R190. -/
def YOKE_STAT_RUNNING : Fld := ⟨1, 0x8, 0, 16, 1⟩
/-- R190. -/
def YOKE_STAT_WAITING : Fld := ⟨1, 0x8, 0, 17, 1⟩
/-- R190. -/
def YOKE_STAT_RESTARTED : Fld := ⟨1, 0x8, 0, 18, 1⟩
/-- R190. -/
def YOKE_RTO_TIMEOUT : Fld := ⟨1, 0xC, 0, 0, 16⟩
/-- R190. -/
def YOKE_TEN_CTL_ENABLE : Fld := ⟨1, 0x400, 4, 0, 1⟩
/-- R190. -/
def YOKE_TEN_CTL_ATOMIC : Fld := ⟨1, 0x400, 4, 1, 1⟩
/-- R190. -/
def YOKE_TEN_CTL_G2MASK : Fld := ⟨1, 0x400, 4, 2, 6⟩
/-- R190. -/
def YOKE_TEN_CTL_FAULTED : Fld := ⟨1, 0x400, 4, 8, 1⟩
/-- R190. -/
def YOKE_PRR_OWNER_TENANT : Fld := ⟨1, 0x800, 4, 0, 8⟩
/-- R190. -/
def YOKE_RD0_BASE_LO : Fld := ⟨1, 0x10000, 16, 0, 32⟩
/-- R190. -/
def YOKE_RD1_BASE_HI : Fld := ⟨1, 0x10004, 16, 0, 6⟩
/-- R190. -/
def YOKE_RD1_TENANT : Fld := ⟨1, 0x10004, 16, 8, 8⟩
/-- R190. -/
def YOKE_RD1_RD : Fld := ⟨1, 0x10004, 16, 16, 1⟩
/-- R190. -/
def YOKE_RD1_WR : Fld := ⟨1, 0x10004, 16, 17, 1⟩
/-- R190. -/
def YOKE_RD1_VALID : Fld := ⟨1, 0x10004, 16, 18, 1⟩
/-- R190. -/
def YOKE_RD2_LIMIT_LO : Fld := ⟨1, 0x10008, 16, 0, 32⟩
/-- R190. -/
def YOKE_RD3_LIMIT_HI : Fld := ⟨1, 0x1000C, 16, 0, 6⟩
/-- R190. -/
def YOKE_IMEM_INSN : Fld := ⟨1, 0x40000, 4, 0, 32⟩
/-- R191. -/
def HOST_PCI_ID_VENDOR : Fld := ⟨23, 0x4, 0, 0, 16⟩
/-- R191. -/
def HOST_PCI_ID_DEVICE : Fld := ⟨23, 0x4, 0, 16, 16⟩
/-- R191. -/
def HOST_LINK_WIDTH : Fld := ⟨23, 0x8, 0, 0, 3⟩
/-- R191. -/
def HOST_LINK_SPEED : Fld := ⟨23, 0x8, 0, 4, 2⟩
/-- R191. -/
def HOST_LINK_UP : Fld := ⟨23, 0x8, 0, 6, 1⟩
/-- R191. -/
def HOST_SMB_CTL_ADDR : Fld := ⟨23, 0x100, 0, 0, 7⟩
/-- R191. -/
def HOST_SMB_CTL_PEC : Fld := ⟨23, 0x100, 0, 7, 1⟩
/-- R191. -/
def HOST_SMB_CTL_PROT : Fld := ⟨23, 0x100, 0, 8, 4⟩
/-- R191. -/
def HOST_SMB_CTL_FAST : Fld := ⟨23, 0x100, 0, 12, 1⟩
/-- R191. -/
def HOST_SMB_CTL_GO : Fld := ⟨23, 0x100, 0, 13, 1⟩
/-- R191. -/
def HOST_SMB_CTL_CMD : Fld := ⟨23, 0x100, 0, 16, 8⟩
/-- R191. -/
def HOST_SMB_STAT_BUSY : Fld := ⟨23, 0x104, 0, 0, 1⟩
/-- R191. -/
def HOST_SMB_STAT_DONE : Fld := ⟨23, 0x104, 0, 1, 1⟩
/-- R191. -/
def HOST_SMB_STAT_NACK : Fld := ⟨23, 0x104, 0, 2, 1⟩
/-- R191. -/
def HOST_SMB_STAT_PECERR : Fld := ⟨23, 0x104, 0, 3, 1⟩
/-- R191. -/
def HOST_SMB_STAT_TIMEOUT : Fld := ⟨23, 0x104, 0, 4, 1⟩
/-- R191. -/
def HOST_SMB_STAT_COUNT : Fld := ⟨23, 0x104, 0, 8, 6⟩
/-- R191. -/
def HOST_SMB_DATA_DATA : Fld := ⟨23, 0x120, 4, 0, 32⟩
/-- R249. -/
def LEDGER_CTL_ENFORCE : Fld := ⟨2, 0x4, 0, 0, 1⟩
/-- R249. -/
def LEDGER_CTL_RESV_EN : Fld := ⟨2, 0x4, 0, 1, 1⟩
/-- R249. -/
def LEDGER_STAT_RESERVE : Fld := ⟨2, 0x8, 0, 0, 1⟩
/-- R249. -/
def LEDGER_STAT_CAPLEVEL : Fld := ⟨2, 0x8, 0, 1, 3⟩
/-- R249. -/
def LEDGER_STAT_THERMDIV : Fld := ⟨2, 0x8, 0, 4, 2⟩
/-- R249. -/
def LEDGER_EPOCH_E : Fld := ⟨2, 0xC, 0, 0, 12⟩
/-- R249. -/
def LEDGER_EPOCH_NUM_NUM : Fld := ⟨2, 0x10, 0, 0, 32⟩
/-- R249. -/
def LEDGER_TICK_BUDGET_BUDGET : Fld := ⟨2, 0x14, 0, 0, 32⟩
/-- R249. -/
def LEDGER_BASE_BASE : Fld := ⟨2, 0x18, 0, 0, 16⟩
/-- R249. -/
def LEDGER_RESV_LO_RESV : Fld := ⟨2, 0x20, 0, 0, 32⟩
/-- R249. -/
def LEDGER_RESV_HI_RESV : Fld := ⟨2, 0x24, 0, 0, 8⟩
/-- R249. -/
def LEDGER_RESV_ADJ_ADJ : Fld := ⟨2, 0x28, 0, 0, 32⟩
/-- R249. -/
def LEDGER_RESV_LOW_LOW : Fld := ⟨2, 0x2C, 0, 0, 32⟩
/-- R249. -/
def LEDGER_DEVCAP_DEVCAP : Fld := ⟨2, 0x30, 0, 0, 16⟩
/-- R249. -/
def LEDGER_CAP_CAP : Fld := ⟨2, 0x38, 0, 0, 16⟩
/-- R249. -/
def LEDGER_FLOOR_FLOOR : Fld := ⟨2, 0x40, 4, 0, 16⟩
/-- R249. -/
def LEDGER_THERM_CTL_THR : Fld := ⟨2, 0x50, 0, 0, 8⟩
/-- R249. -/
def LEDGER_THERM_CTL_HYST : Fld := ⟨2, 0x50, 0, 8, 4⟩
/-- R249. -/
def LEDGER_TEMP_TEMP : Fld := ⟨2, 0x60, 4, 0, 12⟩
/-- R249. -/
def LEDGER_CAL_FACTOR : Fld := ⟨2, 0x80, 4, 0, 16⟩
/-- R249. -/
def LEDGER_RAIL_P_POWER : Fld := ⟨2, 0x100, 4, 0, 16⟩
/-- R249. -/
def LEDGER_ENERGY_LO_ENERGY : Fld := ⟨2, 0x140, 0, 0, 32⟩
/-- R249. -/
def LEDGER_ENERGY_HI_ENERGY : Fld := ⟨2, 0x144, 0, 0, 32⟩
/-- R249. -/
def LEDGER_OVERHEAD_OVH : Fld := ⟨2, 0x148, 0, 0, 32⟩
/-- R249. -/
def LEDGER_ALLOT_ALLOT : Fld := ⟨2, 0x1000, 16, 0, 32⟩
/-- R249. -/
def LEDGER_BAL_BAL : Fld := ⟨2, 0x1004, 16, 0, 32⟩
/-- R249. -/
def LEDGER_TSTAT_EXHAUSTED : Fld := ⟨2, 0x1008, 16, 0, 1⟩
/-- R249. -/
def LEDGER_LAST_E_LAST_E : Fld := ⟨2, 0x100C, 16, 0, 32⟩
/-- R294. -/
def BASTE_CTL_CT_GUARD : Fld := ⟨3, 0x4, 0, 0, 16⟩
/-- R294. -/
def BASTE_STAT_SHADOW_USED : Fld := ⟨3, 0x8, 0, 0, 13⟩
/-- R294. -/
def BASTE_STAT_BUF_USED : Fld := ⟨3, 0x8, 0, 16, 9⟩
/-- R294. -/
def BASTE_STAT_RESOLVING : Fld := ⟨3, 0x8, 0, 25, 1⟩
/-- R294. -/
def BASTE_HWM_SHADOW_HWM : Fld := ⟨3, 0xC, 0, 0, 13⟩
/-- R294. -/
def BASTE_HWM_BUF_HWM : Fld := ⟨3, 0xC, 0, 16, 9⟩
/-- R294. -/
def BASTE_STALLS_STALLS : Fld := ⟨3, 0x10, 0, 0, 32⟩
/-- R294. -/
def BASTE_OVWR_OVWR : Fld := ⟨3, 0x14, 0, 0, 32⟩
/-- R294. -/
def BASTE_TEN_CTL_AUTO : Fld := ⟨3, 0x400, 4, 0, 1⟩
/-- R294. -/
def BASTE_QUOTA_QUOTA : Fld := ⟨3, 0x800, 4, 0, 13⟩
/-- R294. -/
def BASTE_TEN_STAT_OUTCOME : Fld := ⟨3, 0xC00, 4, 0, 1⟩
/-- R294. -/
def BASTE_TEN_STAT_REASONS : Fld := ⟨3, 0xC00, 4, 1, 7⟩
/-- R294. -/
def BASTE_TEN_STAT_ACTIVE : Fld := ⟨3, 0xC00, 4, 8, 1⟩
/-- R294. -/
def BASTE_TEN_STAT_HELD : Fld := ⟨3, 0xC00, 4, 16, 13⟩
/-- R344. -/
def CLK_FRST_HOLD : Fld := ⟨4, 0x4, 0, 0, 1⟩
/-- R344. -/
def CLK_DRST_DOMAIN : Fld := ⟨4, 0x8, 0, 0, 16⟩
/-- R344. -/
def CLK_TTAP_ENABLE : Fld := ⟨4, 0xC, 0, 0, 16⟩
/-- R344. -/
def CLK_CKIN_STAT_PRESENT : Fld := ⟨4, 0x10, 0, 0, 8⟩
/-- R344. -/
def CLK_CKIN_STAT_LOST : Fld := ⟨4, 0x10, 0, 8, 8⟩
/-- R344. -/
def CLK_CKIN_FREQ_FREQ : Fld := ⟨4, 0x20, 4, 0, 20⟩
/-- R344. -/
def CLK_PLL_SRC_SRC : Fld := ⟨4, 0x100, 32, 0, 6⟩
/-- R344. -/
def CLK_PLL_SRC_EN : Fld := ⟨4, 0x100, 32, 31, 1⟩
/-- R344. -/
def CLK_PLL_DIV_M : Fld := ⟨4, 0x104, 32, 0, 6⟩
/-- R344. -/
def CLK_PLL_DIV_N : Fld := ⟨4, 0x104, 32, 8, 9⟩
/-- R344. -/
def CLK_PLL_FRAC_FRAC : Fld := ⟨4, 0x108, 32, 0, 24⟩
/-- R344. -/
def CLK_PLL_OUT_ODIV_0 : Fld := ⟨4, 0x10C, 32, 0, 8⟩
/-- R344. -/
def CLK_PLL_OUT_ODIV_1 : Fld := ⟨4, 0x10C, 32, 8, 8⟩
/-- R344. -/
def CLK_PLL_OUT_ODIV_2 : Fld := ⟨4, 0x10C, 32, 16, 8⟩
/-- R344. -/
def CLK_PLL_OUT_ODIV_3 : Fld := ⟨4, 0x10C, 32, 24, 8⟩
/-- R344. -/
def CLK_PLL_PHASE_PHASE_0 : Fld := ⟨4, 0x110, 32, 0, 6⟩
/-- R344. -/
def CLK_PLL_PHASE_PHASE_1 : Fld := ⟨4, 0x110, 32, 8, 6⟩
/-- R344. -/
def CLK_PLL_PHASE_PHASE_2 : Fld := ⟨4, 0x110, 32, 16, 6⟩
/-- R344. -/
def CLK_PLL_PHASE_PHASE_3 : Fld := ⟨4, 0x110, 32, 24, 6⟩
/-- R344. -/
def CLK_PLL_STAT_LOCK : Fld := ⟨4, 0x114, 32, 0, 1⟩
/-- R344. -/
def CLK_PLL_STAT_BADCFG : Fld := ⟨4, 0x114, 32, 1, 1⟩
/-- R344. -/
def CLK_PLL_STAT_UNLOCKED : Fld := ⟨4, 0x114, 32, 2, 1⟩
/-- R344. -/
def CLK_JC_SRC_SRC_A : Fld := ⟨4, 0x200, 32, 0, 6⟩
/-- R344. -/
def CLK_JC_SRC_SRC_B : Fld := ⟨4, 0x200, 32, 8, 6⟩
/-- R344. -/
def CLK_JC_SRC_SEL : Fld := ⟨4, 0x200, 32, 16, 1⟩
/-- R344. -/
def CLK_JC_SRC_AUTO : Fld := ⟨4, 0x200, 32, 17, 1⟩
/-- R344. -/
def CLK_JC_SRC_BW : Fld := ⟨4, 0x200, 32, 20, 3⟩
/-- R344. -/
def CLK_JC_SRC_EN : Fld := ⟨4, 0x200, 32, 31, 1⟩
/-- R344. -/
def CLK_JC_DIV_M : Fld := ⟨4, 0x204, 32, 0, 6⟩
/-- R344. -/
def CLK_JC_DIV_N : Fld := ⟨4, 0x204, 32, 8, 9⟩
/-- R344. -/
def CLK_JC_FRAC_FRAC : Fld := ⟨4, 0x208, 32, 0, 24⟩
/-- R344. -/
def CLK_JC_OUT_ODIV_0 : Fld := ⟨4, 0x20C, 32, 0, 8⟩
/-- R344. -/
def CLK_JC_OUT_ODIV_1 : Fld := ⟨4, 0x20C, 32, 8, 8⟩
/-- R344. -/
def CLK_JC_STAT_LOCK : Fld := ⟨4, 0x214, 32, 0, 1⟩
/-- R344. -/
def CLK_JC_STAT_BADCFG : Fld := ⟨4, 0x214, 32, 1, 1⟩
/-- R344. -/
def CLK_JC_STAT_UNLOCKED : Fld := ⟨4, 0x214, 32, 2, 1⟩
/-- R344. -/
def CLK_JC_STAT_HOLDOVER : Fld := ⟨4, 0x214, 32, 3, 1⟩
/-- R344. -/
def CLK_JC_STAT_ACTIVE_B : Fld := ⟨4, 0x214, 32, 4, 1⟩
/-- R344. -/
def CLK_GSEL_SRC : Fld := ⟨4, 0x300, 4, 0, 6⟩
/-- R344. -/
def CLK_GSEL_BACKUP : Fld := ⟨4, 0x300, 4, 8, 6⟩
/-- R344. -/
def CLK_GSEL_AUTO : Fld := ⟨4, 0x300, 4, 14, 1⟩
/-- R344. -/
def CLK_GSEL_EN : Fld := ⟨4, 0x300, 4, 15, 1⟩
/-- R344. -/
def CLK_GSEL_FORCE : Fld := ⟨4, 0x300, 4, 16, 1⟩
/-- R344. -/
def CLK_GSEL_ON_BACKUP : Fld := ⟨4, 0x300, 4, 24, 1⟩
/-- R344. -/
def CLK_GSEL_STOPPED : Fld := ⟨4, 0x300, 4, 25, 1⟩
/-- R344. -/
def CLK_REGION_FIRST : Fld := ⟨4, 0x400, 4, 0, 7⟩
/-- R344. -/
def CLK_REGION_LAST : Fld := ⟨4, 0x400, 4, 8, 7⟩
/-- R344. -/
def CLK_REGION_VALID : Fld := ⟨4, 0x400, 4, 15, 1⟩
/-- R344. -/
def CLK_REGION_CTL_ISOLATE : Fld := ⟨4, 0x500, 4, 0, 1⟩
/-- R344. -/
def CLK_REGION_CTL_RESET : Fld := ⟨4, 0x500, 4, 1, 1⟩
/-- R344. -/
def CLK_REGION_CTL_ISOVAL : Fld := ⟨4, 0x500, 4, 2, 1⟩
/-- R344. -/
def CLK_REGION_CTL_RELOADING : Fld := ⟨4, 0x500, 4, 8, 1⟩
/-- R344. -/
def CLK_SPORT_TENANT : Fld := ⟨4, 0x600, 4, 0, 8⟩
/-- R344. -/
def CLK_SPORT_EN : Fld := ⟨4, 0x600, 4, 8, 1⟩
/-- R344. -/
def CLK_SPORT_HELD : Fld := ⟨4, 0x600, 4, 16, 6⟩
/-- R344. -/
def CLK_DPORT_TENANT : Fld := ⟨4, 0x680, 4, 0, 8⟩
/-- R344. -/
def CLK_DPORT_EN : Fld := ⟨4, 0x680, 4, 8, 1⟩
/-- R344. -/
def CLK_DPORT_OUTSTANDING : Fld := ⟨4, 0x680, 4, 16, 6⟩
/-- R392. -/
def SPAD_CE_COUNT_CE : Fld := ⟨5, 0x4, 0, 0, 32⟩
/-- R392. -/
def SPAD_UE_COUNT_UE : Fld := ⟨5, 0x8, 0, 0, 32⟩
/-- R392. -/
def SPAD_ERR_ADDR_LANE : Fld := ⟨5, 0xC, 0, 0, 21⟩
/-- R392. -/
def SPAD_ERR_ADDR_VALID : Fld := ⟨5, 0xC, 0, 31, 1⟩
/-- R392. -/
def SPAD_INJECT_MASK : Fld := ⟨5, 0x10, 0, 0, 20⟩
/-- R392. -/
def SPAD_INJECT_LANE : Fld := ⟨5, 0x10, 0, 20, 2⟩
/-- R392. -/
def SPAD_INJECT_ARM : Fld := ⟨5, 0x10, 0, 31, 1⟩
/-- R392. -/
def SPAD_INGEST_HWM_HWM : Fld := ⟨5, 0x14, 0, 0, 11⟩
/-- R392. -/
def SPAD_BANK_REQ : Fld := ⟨5, 0x100, 4, 0, 2⟩
/-- R392. -/
def SPAD_BANK_CAPRET : Fld := ⟨5, 0x100, 4, 2, 1⟩
/-- R392. -/
def SPAD_BANK_STATE : Fld := ⟨5, 0x100, 4, 4, 2⟩
/-- R392. -/
def SPAD_BANK_HELD : Fld := ⟨5, 0x100, 4, 6, 1⟩
/-- R392. -/
def SPAD_BANK_AUTOWOKE : Fld := ⟨5, 0x100, 4, 7, 1⟩
/-- R392. -/
def SPAD_STALL_STALLS : Fld := ⟨5, 0x200, 4, 0, 32⟩
/-- R392. -/
def SPAD_MOV_LANE_LO_LANE : Fld := ⟨5, 0x1000, 32, 0, 32⟩
/-- R392. -/
def SPAD_MOV_LANE_HI_LANE : Fld := ⟨5, 0x1004, 32, 0, 6⟩
/-- R392. -/
def SPAD_MOV_BYTE_LO_ADDR : Fld := ⟨5, 0x1008, 32, 0, 32⟩
/-- R392. -/
def SPAD_MOV_BYTE_HI_ADDR : Fld := ⟨5, 0x100C, 32, 0, 8⟩
/-- R392. -/
def SPAD_MOV_LEN_WORDS : Fld := ⟨5, 0x1010, 32, 0, 21⟩
/-- R392. -/
def SPAD_MOV_CTL_DIR : Fld := ⟨5, 0x1014, 32, 0, 1⟩
/-- R392. -/
def SPAD_MOV_CTL_LAYOUT : Fld := ⟨5, 0x1014, 32, 1, 1⟩
/-- R392. -/
def SPAD_MOV_CTL_TENANT : Fld := ⟨5, 0x1014, 32, 8, 8⟩
/-- R392. -/
def SPAD_MOV_CTL_GO : Fld := ⟨5, 0x1014, 32, 31, 1⟩
/-- R392. -/
def SPAD_MOV_STAT_BUSY : Fld := ⟨5, 0x1018, 32, 0, 1⟩
/-- R392. -/
def SPAD_MOV_STAT_RESULT : Fld := ⟨5, 0x1018, 32, 1, 3⟩
/-- R392. -/
def SPAD_MOV_STAT_DONE : Fld := ⟨5, 0x1018, 32, 8, 21⟩
/-- R393. -/
def BMEM_CE_COUNT_CE : Fld := ⟨6, 0x4, 0, 0, 32⟩
/-- R393. -/
def BMEM_UE_COUNT_UE : Fld := ⟨6, 0x8, 0, 0, 32⟩
/-- R393. -/
def BMEM_ERR_ADDR_LANE : Fld := ⟨6, 0xC, 0, 0, 23⟩
/-- R393. -/
def BMEM_ERR_ADDR_VALID : Fld := ⟨6, 0xC, 0, 31, 1⟩
/-- R393. -/
def BMEM_INJECT_MASK : Fld := ⟨6, 0x10, 0, 0, 20⟩
/-- R393. -/
def BMEM_INJECT_LANE : Fld := ⟨6, 0x10, 0, 20, 2⟩
/-- R393. -/
def BMEM_INJECT_ARM : Fld := ⟨6, 0x10, 0, 31, 1⟩
/-- R393. -/
def BMEM_MODE_FIFO : Fld := ⟨6, 0x1000, 4, 0, 1⟩
/-- R393. -/
def BMEM_MODE_LAT2 : Fld := ⟨6, 0x1000, 4, 1, 1⟩
/-- R393. -/
def BMEM_MODE_OVERFLOW : Fld := ⟨6, 0x1000, 4, 2, 1⟩
/-- R393. -/
def BMEM_MODE_UNDERFLOW : Fld := ⟨6, 0x1000, 4, 3, 1⟩
/-- R393. -/
def BMEM_MODE_COUNT : Fld := ⟨6, 0x1000, 4, 8, 11⟩
/-- R394. -/
def LINING_CTL_WIPE : Fld := ⟨20, 0x4, 0, 0, 1⟩
/-- R394. -/
def LINING_STAT_WIPING : Fld := ⟨20, 0x8, 0, 0, 1⟩
/-- R394. -/
def LINING_STAT_CAUSE : Fld := ⟨20, 0x8, 0, 1, 3⟩
/-- R394. -/
def LINING_STAT_WIPED : Fld := ⟨20, 0x8, 0, 4, 1⟩
/-- R394. -/
def LINING_WIPES_COUNT : Fld := ⟨20, 0xC, 0, 0, 16⟩
/-- R394. -/
def LINING_CE_COUNT_CE : Fld := ⟨20, 0x10, 0, 0, 32⟩
/-- R394. -/
def LINING_UE_COUNT_UE : Fld := ⟨20, 0x14, 0, 0, 32⟩
/-- R394. -/
def LINING_ERR_ADDR_LANE : Fld := ⟨20, 0x18, 0, 0, 15⟩
/-- R394. -/
def LINING_ERR_ADDR_VALID : Fld := ⟨20, 0x18, 0, 31, 1⟩
/-- R443. -/
def RENTIK_ILOAD_CTL_FIRST : Fld := ⟨7, 0x4, 0, 0, 8⟩
/-- R443. -/
def RENTIK_ILOAD_CTL_COUNT : Fld := ⟨7, 0x4, 0, 8, 8⟩
/-- R443. -/
def RENTIK_ILOAD_CTL_ADDR : Fld := ⟨7, 0x4, 0, 16, 12⟩
/-- R443. -/
def RENTIK_ILOAD_DATA_DATA : Fld := ⟨7, 0x8, 0, 0, 32⟩
/-- R443. -/
def RENTIK_ILOAD_STAT_NEXT : Fld := ⟨7, 0xC, 0, 0, 12⟩
/-- R443. -/
def RENTIK_ILOAD_STAT_SKIPPED : Fld := ⟨7, 0xC, 0, 16, 1⟩
/-- R443. -/
def RENTIK_ILOAD_STAT_RANGE : Fld := ⟨7, 0xC, 0, 17, 1⟩
/-- R443. -/
def RENTIK_CL_STAT_STATE : Fld := ⟨7, 0x1000, 4, 0, 2⟩
/-- R443. -/
def RENTIK_CL_STAT_TENANT : Fld := ⟨7, 0x1000, 4, 8, 8⟩
/-- R443. -/
def RENTIK_CL_STAT_MARK : Fld := ⟨7, 0x1000, 4, 16, 1⟩
/-- R443. -/
def RENTIK_CL_STAT_BASTED : Fld := ⟨7, 0x1000, 4, 17, 1⟩
/-- R443. -/
def RENTIK_CL_STAT_ASAT : Fld := ⟨7, 0x1000, 4, 18, 1⟩
/-- R443. -/
def RENTIK_CL_STAT_XERR : Fld := ⟨7, 0x1000, 4, 19, 1⟩
/-- R443. -/
def RENTIK_CL_STAT_XOUT : Fld := ⟨7, 0x1000, 4, 20, 4⟩
/-- R443. -/
def RENTIK_CL_PC_PC : Fld := ⟨7, 0x1400, 4, 0, 12⟩
/-- R443. -/
def RENTIK_CL_PC_ENTRY : Fld := ⟨7, 0x1400, 4, 16, 12⟩
/-- R501. -/
def ACQ_CTL_FAST_EN_0 : Fld := ⟨8, 0x4, 0, 0, 1⟩
/-- R501. -/
def ACQ_CTL_FAST_EN_1 : Fld := ⟨8, 0x4, 0, 1, 1⟩
/-- R501. -/
def ACQ_CTL_SLOW_EN : Fld := ⟨8, 0x4, 0, 2, 1⟩
/-- R501. -/
def ACQ_CTL_RCVMARK : Fld := ⟨8, 0x4, 0, 3, 1⟩
/-- R501. -/
def ACQ_STAT_READY : Fld := ⟨8, 0x8, 0, 0, 3⟩
/-- R501. -/
def ACQ_STAT_ARMED : Fld := ⟨8, 0x8, 0, 4, 10⟩
/-- R501. -/
def ACQ_CAP_STAT_STATUS : Fld := ⟨8, 0x40, 4, 0, 32⟩
/-- R501. -/
def ACQ_PULSE_CTL_EN : Fld := ⟨8, 0x100, 4, 0, 1⟩
/-- R501. -/
def ACQ_PULSE_CTL_WIN : Fld := ⟨8, 0x100, 4, 8, 16⟩
/-- R501. -/
def ACQ_PULSE_STAT_QUEUED : Fld := ⟨8, 0x140, 4, 0, 5⟩
/-- R501. -/
def ACQ_PULSE_STAT_MISSED : Fld := ⟨8, 0x140, 4, 8, 1⟩
/-- R502. -/
def ILK_CTL_CLEAR : Fld := ⟨9, 0x4, 0, 0, 1⟩
/-- R502. -/
def ILK_TD_TD : Fld := ⟨9, 0x8, 0, 0, 9⟩
/-- R502. -/
def ILK_CEIL_CEIL : Fld := ⟨9, 0xC, 0, 0, 9⟩
/-- R502. -/
def ILK_STAT_STATE : Fld := ⟨9, 0x10, 0, 0, 2⟩
/-- R502. -/
def ILK_STAT_A_SAFE : Fld := ⟨9, 0x10, 0, 2, 1⟩
/-- R502. -/
def ILK_STAT_B_SAFE : Fld := ⟨9, 0x10, 0, 3, 1⟩
/-- R502. -/
def ILK_STAT_ARMED : Fld := ⟨9, 0x10, 0, 4, 1⟩
/-- R502. -/
def ILK_STAT_LASEN : Fld := ⟨9, 0x10, 0, 5, 1⟩
/-- R502. -/
def ILK_STAT_CLEARED : Fld := ⟨9, 0x10, 0, 6, 1⟩
/-- R502. -/
def ILK_STAT_REFUSED : Fld := ⟨9, 0x10, 0, 7, 1⟩
/-- R502. -/
def ILK_DISC_TIMER : Fld := ⟨9, 0x14, 0, 0, 19⟩
/-- R502. -/
def ILK_FAULTS_COUNT : Fld := ⟨9, 0x18, 0, 0, 16⟩
/-- R503. -/
def PSENSE_CTL_EN : Fld := ⟨10, 0x4, 0, 0, 1⟩
/-- R503. -/
def PSENSE_CTL_RECAPTURE : Fld := ⟨10, 0x4, 0, 1, 1⟩
/-- R503. -/
def PSENSE_CTL_RATE : Fld := ⟨10, 0x4, 0, 8, 8⟩
/-- R503. -/
def PSENSE_THR_TOUCH : Fld := ⟨10, 0x8, 0, 0, 14⟩
/-- R503. -/
def PSENSE_THR_NEG : Fld := ⟨10, 0x8, 0, 16, 14⟩
/-- R503. -/
def PSENSE_HELD_HELD : Fld := ⟨10, 0xC, 0, 0, 12⟩
/-- R503. -/
def PSENSE_OUT_OUT : Fld := ⟨10, 0x10, 0, 0, 19⟩
/-- R503. -/
def PSENSE_STAT_CAPTURING : Fld := ⟨10, 0x14, 0, 0, 1⟩
/-- R503. -/
def PSENSE_STAT_BUF : Fld := ⟨10, 0x14, 0, 1, 1⟩
/-- R503. -/
def PSENSE_STAT_SCAN : Fld := ⟨10, 0x14, 0, 8, 24⟩
/-- R503. -/
def PSENSE_COUNTS_TOUCHED : Fld := ⟨10, 0x18, 0, 0, 10⟩
/-- R503. -/
def PSENSE_COUNTS_HELDN : Fld := ⟨10, 0x18, 0, 16, 10⟩
/-- R549. -/
def PLEAT_SET_CFG_CHAN : Fld := ⟨11, 0x100, 32, 0, 4⟩
/-- R549. -/
def PLEAT_SET_CFG_MARK : Fld := ⟨11, 0x100, 32, 4, 1⟩
/-- R549. -/
def PLEAT_SET_CFG_VALIDONLY : Fld := ⟨11, 0x100, 32, 5, 1⟩
/-- R549. -/
def PLEAT_SET_CFG_AUTOOUT : Fld := ⟨11, 0x100, 32, 6, 1⟩
/-- R549. -/
def PLEAT_SET_CFG_FORMAT : Fld := ⟨11, 0x100, 32, 8, 2⟩
/-- R549. -/
def PLEAT_SET_CFG_M : Fld := ⟨11, 0x100, 32, 10, 2⟩
/-- R549. -/
def PLEAT_SET_CFG_LOG2AVG : Fld := ⟨11, 0x100, 32, 12, 5⟩
/-- R549. -/
def PLEAT_SET_CFG_TENANT : Fld := ⟨11, 0x100, 32, 24, 8⟩
/-- R549. -/
def PLEAT_SET_LEN_LENGTH : Fld := ⟨11, 0x104, 32, 0, 19⟩
/-- R549. -/
def PLEAT_SET_BASE_BASE : Fld := ⟨11, 0x108, 32, 0, 20⟩
/-- R549. -/
def PLEAT_SET_DST_LO_DST : Fld := ⟨11, 0x10C, 32, 0, 32⟩
/-- R549. -/
def PLEAT_SET_DST_HI_DST : Fld := ⟨11, 0x110, 32, 0, 8⟩
/-- R549. -/
def PLEAT_SET_CTL_ENABLE : Fld := ⟨11, 0x114, 32, 0, 1⟩
/-- R549. -/
def PLEAT_SET_CTL_RESTART : Fld := ⟨11, 0x114, 32, 1, 1⟩
/-- R549. -/
def PLEAT_SET_STAT_RECORDS : Fld := ⟨11, 0x118, 32, 0, 29⟩
/-- R549. -/
def PLEAT_SET_STAT_COMPLETE : Fld := ⟨11, 0x118, 32, 29, 1⟩
/-- R549. -/
def PLEAT_SET_STAT_PENDING : Fld := ⟨11, 0x118, 32, 30, 1⟩
/-- R549. -/
def PLEAT_SET_STAT_ERROR : Fld := ⟨11, 0x118, 32, 31, 1⟩
/-- R549. -/
def PLEAT_SET_SKIP_SKIPPED : Fld := ⟨11, 0x11C, 32, 0, 32⟩
/-- R549. -/
def PLEAT_JOB_SRC_LO_SRC : Fld := ⟨11, 0x400, 32, 0, 32⟩
/-- R549. -/
def PLEAT_JOB_SRC_HI_SRC : Fld := ⟨11, 0x404, 32, 0, 8⟩
/-- R549. -/
def PLEAT_JOB_DST_LO_DST : Fld := ⟨11, 0x408, 32, 0, 32⟩
/-- R549. -/
def PLEAT_JOB_DST_HI_DST : Fld := ⟨11, 0x40C, 32, 0, 8⟩
/-- R549. -/
def PLEAT_JOB_CNT_COUNT : Fld := ⟨11, 0x410, 32, 0, 19⟩
/-- R549. -/
def PLEAT_JOB_CTL_DIR : Fld := ⟨11, 0x414, 32, 0, 1⟩
/-- R549. -/
def PLEAT_JOB_CTL_KIND : Fld := ⟨11, 0x414, 32, 1, 2⟩
/-- R549. -/
def PLEAT_JOB_CTL_FORMAT : Fld := ⟨11, 0x414, 32, 3, 2⟩
/-- R549. -/
def PLEAT_JOB_CTL_M : Fld := ⟨11, 0x414, 32, 5, 2⟩
/-- R549. -/
def PLEAT_JOB_CTL_MARK : Fld := ⟨11, 0x414, 32, 7, 1⟩
/-- R549. -/
def PLEAT_JOB_CTL_SET : Fld := ⟨11, 0x414, 32, 8, 4⟩
/-- R549. -/
def PLEAT_JOB_CTL_TENANT : Fld := ⟨11, 0x414, 32, 16, 8⟩
/-- R549. -/
def PLEAT_JOB_CTL_GO : Fld := ⟨11, 0x414, 32, 31, 1⟩
/-- R549. -/
def PLEAT_JOB_STAT_BUSY : Fld := ⟨11, 0x418, 32, 0, 1⟩
/-- R549. -/
def PLEAT_JOB_STAT_RESULT : Fld := ⟨11, 0x418, 32, 1, 3⟩
/-- R549. -/
def PLEAT_JOB_BITS_BITS : Fld := ⟨11, 0x41C, 32, 0, 24⟩
/-- R590. -/
def LANE_LREF_FREQ_FREQ : Fld := ⟨12, 0x4, 4, 0, 20⟩
/-- R590. -/
def LANE_CTL_REQ : Fld := ⟨12, 0x1000, 256, 0, 2⟩
/-- R590. -/
def LANE_CTL_AUTOWAKE : Fld := ⟨12, 0x1000, 256, 2, 1⟩
/-- R590. -/
def LANE_CTL_SDWAKE : Fld := ⟨12, 0x1000, 256, 3, 1⟩
/-- R590. -/
def LANE_CTL_CAPDEEP : Fld := ⟨12, 0x1000, 256, 4, 1⟩
/-- R590. -/
def LANE_CTL_APPLY : Fld := ⟨12, 0x1000, 256, 31, 1⟩
/-- R590. -/
def LANE_STAT_STATE : Fld := ⟨12, 0x1004, 256, 0, 3⟩
/-- R590. -/
def LANE_STAT_LOCK : Fld := ⟨12, 0x1004, 256, 3, 1⟩
/-- R590. -/
def LANE_STAT_PLLLOCK : Fld := ⟨12, 0x1004, 256, 4, 1⟩
/-- R590. -/
def LANE_STAT_SAVEVALID : Fld := ⟨12, 0x1004, 256, 5, 1⟩
/-- R590. -/
def LANE_STAT_SD : Fld := ⟨12, 0x1004, 256, 6, 1⟩
/-- R590. -/
def LANE_STAT_FIRBAD : Fld := ⟨12, 0x1004, 256, 7, 1⟩
/-- R590. -/
def LANE_STAT_RESULT : Fld := ⟨12, 0x1004, 256, 8, 4⟩
/-- R590. -/
def LANE_STAT_SEAM : Fld := ⟨12, 0x1004, 256, 12, 1⟩
/-- R590. -/
def LANE_STAT_PCSLOCK : Fld := ⟨12, 0x1004, 256, 13, 1⟩
/-- R590. -/
def LANE_STAT_HIBER : Fld := ⟨12, 0x1004, 256, 14, 1⟩
/-- R590. -/
def LANE_PROFILE_PROFILE : Fld := ⟨12, 0x1008, 256, 0, 4⟩
/-- R590. -/
def LANE_RATE_D : Fld := ⟨12, 0x100C, 256, 0, 3⟩
/-- R590. -/
def LANE_RATE_MOD : Fld := ⟨12, 0x100C, 256, 4, 1⟩
/-- R590. -/
def LANE_RATE_REFSEL : Fld := ⟨12, 0x100C, 256, 8, 3⟩
/-- R590. -/
def LANE_RATE_N : Fld := ⟨12, 0x100C, 256, 16, 8⟩
/-- R590. -/
def LANE_FRAC_FRAC : Fld := ⟨12, 0x1010, 256, 0, 24⟩
/-- R590. -/
def LANE_MODE_PCS : Fld := ⟨12, 0x1014, 256, 0, 3⟩
/-- R590. -/
def LANE_MODE_FEC : Fld := ⟨12, 0x1014, 256, 4, 1⟩
/-- R590. -/
def LANE_MODE_BYP_CORR : Fld := ⟨12, 0x1014, 256, 5, 1⟩
/-- R590. -/
def LANE_MODE_BYP_IND : Fld := ⟨12, 0x1014, 256, 6, 1⟩
/-- R590. -/
def LANE_MODE_PRECODE_TX : Fld := ⟨12, 0x1014, 256, 7, 1⟩
/-- R590. -/
def LANE_MODE_PRECODE_RX : Fld := ⟨12, 0x1014, 256, 8, 1⟩
/-- R590. -/
def LANE_MODE_POL_TX : Fld := ⟨12, 0x1014, 256, 9, 1⟩
/-- R590. -/
def LANE_MODE_POL_RX : Fld := ⟨12, 0x1014, 256, 10, 1⟩
/-- R590. -/
def LANE_MODE_TXCLK : Fld := ⟨12, 0x1014, 256, 16, 4⟩
/-- R590. -/
def LANE_TXFIR_PRE : Fld := ⟨12, 0x1018, 256, 0, 4⟩
/-- R590. -/
def LANE_TXFIR_POST : Fld := ⟨12, 0x1018, 256, 8, 5⟩
/-- R590. -/
def LANE_TXFIR_SWING : Fld := ⟨12, 0x1018, 256, 16, 4⟩
/-- R590. -/
def LANE_CTLE_PEAK : Fld := ⟨12, 0x101C, 256, 0, 6⟩
/-- R590. -/
def LANE_DFE_CTL_FREEZE : Fld := ⟨12, 0x1020, 256, 0, 1⟩
/-- R590. -/
def LANE_DFE_CTL_RATE : Fld := ⟨12, 0x1020, 256, 1, 3⟩
/-- R590. -/
def LANE_DFE_CTL_RESET : Fld := ⟨12, 0x1020, 256, 4, 1⟩
/-- R590. -/
def LANE_DFE1_TAP : Fld := ⟨12, 0x1040, 256, 0, 7⟩
/-- R590. -/
def LANE_DFE2_TAP : Fld := ⟨12, 0x1044, 256, 0, 7⟩
/-- R590. -/
def LANE_DFE3_TAP : Fld := ⟨12, 0x1048, 256, 0, 7⟩
/-- R590. -/
def LANE_DFE4_TAP : Fld := ⟨12, 0x104C, 256, 0, 7⟩
/-- R590. -/
def LANE_DFE5_TAP : Fld := ⟨12, 0x1050, 256, 0, 7⟩
/-- R590. -/
def LANE_DFE6_TAP : Fld := ⟨12, 0x1054, 256, 0, 7⟩
/-- R590. -/
def LANE_DFE7_TAP : Fld := ⟨12, 0x1058, 256, 0, 7⟩
/-- R590. -/
def LANE_DFE8_TAP : Fld := ⟨12, 0x105C, 256, 0, 7⟩
/-- R590. -/
def LANE_DFE9_TAP : Fld := ⟨12, 0x1060, 256, 0, 7⟩
/-- R590. -/
def LANE_DFE10_TAP : Fld := ⟨12, 0x1064, 256, 0, 7⟩
/-- R590. -/
def LANE_DFE11_TAP : Fld := ⟨12, 0x1068, 256, 0, 7⟩
/-- R590. -/
def LANE_DFE12_TAP : Fld := ⟨12, 0x106C, 256, 0, 7⟩
/-- R590. -/
def LANE_PRBS_TXPAT : Fld := ⟨12, 0x1080, 256, 0, 3⟩
/-- R590. -/
def LANE_PRBS_RXPAT : Fld := ⟨12, 0x1080, 256, 4, 3⟩
/-- R590. -/
def LANE_PRBS_INV : Fld := ⟨12, 0x1080, 256, 7, 1⟩
/-- R590. -/
def LANE_PRBS_RXLOCK : Fld := ⟨12, 0x1080, 256, 8, 1⟩
/-- R590. -/
def LANE_PRBS_ERR_ERR : Fld := ⟨12, 0x1084, 256, 0, 32⟩
/-- R590. -/
def LANE_PRBS_BITS_LO_BITS : Fld := ⟨12, 0x1088, 256, 0, 32⟩
/-- R590. -/
def LANE_PRBS_BITS_HI_BITS : Fld := ⟨12, 0x108C, 256, 0, 32⟩
/-- R590. -/
def LANE_EYE_H : Fld := ⟨12, 0x1090, 256, 0, 6⟩
/-- R590. -/
def LANE_EYE_V : Fld := ⟨12, 0x1090, 256, 8, 7⟩
/-- R590. -/
def LANE_EYE_EYE : Fld := ⟨12, 0x1090, 256, 16, 2⟩
/-- R590. -/
def LANE_EYE_DWELL : Fld := ⟨12, 0x1090, 256, 24, 6⟩
/-- R590. -/
def LANE_EYE_GO : Fld := ⟨12, 0x1090, 256, 31, 1⟩
/-- R590. -/
def LANE_EYE_STAT_BUSY : Fld := ⟨12, 0x1094, 256, 0, 1⟩
/-- R590. -/
def LANE_EYE_STAT_ABORT : Fld := ⟨12, 0x1094, 256, 1, 1⟩
/-- R590. -/
def LANE_EYE_ERR_ERR : Fld := ⟨12, 0x1098, 256, 0, 32⟩
/-- R590. -/
def LANE_FEC_CORR_CORR : Fld := ⟨12, 0x10A0, 256, 0, 32⟩
/-- R590. -/
def LANE_FEC_UNC_UNC : Fld := ⟨12, 0x10A4, 256, 0, 32⟩
/-- R627. -/
def FLOW_PORT_CLK : Fld := ⟨13, 0x40, 4, 0, 4⟩
/-- R627. -/
def FLOW_UNK_UNK : Fld := ⟨13, 0x80, 4, 0, 32⟩
/-- R627. -/
def FLOW_SFFREE_FREE : Fld := ⟨13, 0xC0, 0, 0, 18⟩
/-- R627. -/
def FLOW_CTL_EN : Fld := ⟨13, 0x10000, 64, 0, 1⟩
/-- R627. -/
def FLOW_CTL_DIR : Fld := ⟨13, 0x10000, 64, 1, 1⟩
/-- R627. -/
def FLOW_CTL_LANE : Fld := ⟨13, 0x10000, 64, 2, 3⟩
/-- R627. -/
def FLOW_CTL_CUT : Fld := ⟨13, 0x10000, 64, 5, 1⟩
/-- R627. -/
def FLOW_CTL_CMODE : Fld := ⟨13, 0x10000, 64, 6, 2⟩
/-- R627. -/
def FLOW_CTL_ALG : Fld := ⟨13, 0x10000, 64, 8, 3⟩
/-- R627. -/
def FLOW_CTL_ALIVE_EN : Fld := ⟨13, 0x10000, 64, 11, 1⟩
/-- R627. -/
def FLOW_CTL_PERFRAME : Fld := ⟨13, 0x10000, 64, 12, 1⟩
/-- R627. -/
def FLOW_CTL_TENANT : Fld := ⟨13, 0x10000, 64, 16, 8⟩
/-- R627. -/
def FLOW_ALIVE_AOFF : Fld := ⟨13, 0x10004, 64, 0, 14⟩
/-- R627. -/
def FLOW_ALIVE_COUNT : Fld := ⟨13, 0x10004, 64, 16, 8⟩
/-- R627. -/
def FLOW_ALIVE_SEEN : Fld := ⟨13, 0x10004, 64, 24, 1⟩
/-- R627. -/
def FLOW_BUF_BUF : Fld := ⟨13, 0x10008, 64, 0, 19⟩
/-- R627. -/
def FLOW_SIZE_TLEN : Fld := ⟨13, 0x1000C, 64, 0, 14⟩
/-- R627. -/
def FLOW_SIZE_SLOTW : Fld := ⟨13, 0x1000C, 64, 0, 12⟩
/-- R627. -/
def FLOW_SIZE_SLOTS : Fld := ⟨13, 0x1000C, 64, 16, 13⟩
/-- R627. -/
def FLOW_PTR_PROD : Fld := ⟨13, 0x10010, 64, 0, 16⟩
/-- R627. -/
def FLOW_PTR_CONS : Fld := ⟨13, 0x10010, 64, 16, 16⟩
/-- R627. -/
def FLOW_TXREQ_PENDING : Fld := ⟨13, 0x10014, 64, 0, 16⟩
/-- R627. -/
def FLOW_RV_RV : Fld := ⟨13, 0x10018, 64, 0, 32⟩
/-- R627. -/
def FLOW_CVSTART_CVSTART : Fld := ⟨13, 0x1001C, 64, 0, 14⟩
/-- R627. -/
def FLOW_FRAMES_FRAMES : Fld := ⟨13, 0x10020, 64, 0, 32⟩
/-- R627. -/
def FLOW_REPEATS_REPEATS : Fld := ⟨13, 0x10024, 64, 0, 32⟩
/-- R627. -/
def FLOW_LOST_LOST : Fld := ⟨13, 0x10028, 64, 0, 32⟩
/-- R627. -/
def FLOW_CHKBAD_CHKBAD : Fld := ⟨13, 0x1002C, 64, 0, 32⟩
/-- R627. -/
def FLOW_DROPS_DROPS : Fld := ⟨13, 0x10030, 64, 0, 32⟩
/-- R627. -/
def FLOW_DISCARDS_DISCARDS : Fld := ⟨13, 0x10034, 64, 0, 32⟩
/-- R628. -/
def CHK_ENG_BUSY_BUSY : Fld := ⟨14, 0x4, 0, 0, 7⟩
/-- R628. -/
def CHK_CFG_ALG : Fld := ⟨14, 0x1000, 16, 0, 3⟩
/-- R628. -/
def CHK_CFG_NBYTES : Fld := ⟨14, 0x1000, 16, 4, 2⟩
/-- R628. -/
def CHK_CFG_RESTART : Fld := ⟨14, 0x1000, 16, 8, 1⟩
/-- R628. -/
def CHK_RV_RV : Fld := ⟨14, 0x1004, 16, 0, 32⟩
/-- R628. -/
def CHK_DATA_DATA : Fld := ⟨14, 0x1008, 16, 0, 32⟩
/-- R628. -/
def CHK_RESULT_RESULT : Fld := ⟨14, 0x100C, 16, 0, 32⟩
/-- R688. -/
def DRAM_CTL_EN : Fld := ⟨15, 0x4, 0, 0, 1⟩
/-- R688. -/
def DRAM_CTL_INIT : Fld := ⟨15, 0x4, 0, 1, 1⟩
/-- R688. -/
def DRAM_CTL_CLEAR : Fld := ⟨15, 0x4, 0, 2, 1⟩
/-- R688. -/
def DRAM_CTL_FENCE : Fld := ⟨15, 0x4, 0, 3, 1⟩
/-- R688. -/
def DRAM_CTL_SR : Fld := ⟨15, 0x4, 0, 4, 1⟩
/-- R688. -/
def DRAM_STAT_READY : Fld := ⟨15, 0x8, 0, 0, 1⟩
/-- R688. -/
def DRAM_STAT_BUSY : Fld := ⟨15, 0x8, 0, 1, 1⟩
/-- R688. -/
def DRAM_STAT_CLEARED : Fld := ⟨15, 0x8, 0, 2, 1⟩
/-- R688. -/
def DRAM_STAT_IN_SR : Fld := ⟨15, 0x8, 0, 3, 1⟩
/-- R688. -/
def DRAM_STAT_MULT : Fld := ⟨15, 0x8, 0, 4, 3⟩
/-- R688. -/
def DRAM_STAT_MERGE_USED : Fld := ⟨15, 0x8, 0, 8, 7⟩
/-- R688. -/
def DRAM_STAT_RESULT : Fld := ⟨15, 0x8, 0, 16, 3⟩
/-- R688. -/
def DRAM_GEOM_CHIPKILL : Fld := ⟨15, 0xC, 0, 0, 1⟩
/-- R688. -/
def DRAM_GEOM_RANKS2 : Fld := ⟨15, 0xC, 0, 1, 1⟩
/-- R688. -/
def DRAM_GEOM_ROWBITS : Fld := ⟨15, 0xC, 0, 4, 2⟩
/-- R688. -/
def DRAM_GEOM_RATE : Fld := ⟨15, 0xC, 0, 8, 3⟩
/-- R688. -/
def DRAM_CAPACITY_GIB : Fld := ⟨15, 0x10, 0, 0, 5⟩
/-- R688. -/
def DRAM_MARK_CHIP : Fld := ⟨15, 0x14, 0, 0, 4⟩
/-- R688. -/
def DRAM_MARK_VALID : Fld := ⟨15, 0x14, 0, 4, 1⟩
/-- R688. -/
def DRAM_PATROL_HOURS : Fld := ⟨15, 0x18, 0, 0, 8⟩
/-- R688. -/
def DRAM_RETRAIN_MS : Fld := ⟨15, 0x1C, 0, 0, 10⟩
/-- R688. -/
def DRAM_RETRAIN_DEG : Fld := ⟨15, 0x1C, 0, 16, 8⟩
/-- R688. -/
def DRAM_BMASK_MASK : Fld := ⟨15, 0x20, 4, 0, 27⟩
/-- R688. -/
def DRAM_RMASK_MASK : Fld := ⟨15, 0x2C, 0, 0, 27⟩
/-- R688. -/
def DRAM_CE_COUNT_CE : Fld := ⟨15, 0x30, 0, 0, 32⟩
/-- R688. -/
def DRAM_UE_COUNT_UE : Fld := ⟨15, 0x34, 0, 0, 32⟩
/-- R688. -/
def DRAM_ERR_LO_ADDR : Fld := ⟨15, 0x38, 0, 4, 28⟩
/-- R688. -/
def DRAM_ERR_HI_ADDR : Fld := ⟨15, 0x3C, 0, 0, 2⟩
/-- R688. -/
def DRAM_ERR_HI_CHIP : Fld := ⟨15, 0x3C, 0, 4, 4⟩
/-- R688. -/
def DRAM_ERR_HI_VALID : Fld := ⟨15, 0x3C, 0, 31, 1⟩
/-- R688. -/
def DRAM_CHIPCE_CE : Fld := ⟨15, 0x40, 4, 0, 32⟩
/-- R688. -/
def DRAM_TIM_0_RL : Fld := ⟨15, 0x80, 0, 0, 8⟩
/-- R688. -/
def DRAM_TIM_0_WL : Fld := ⟨15, 0x80, 0, 8, 8⟩
/-- R688. -/
def DRAM_TIM_0_NWR : Fld := ⟨15, 0x80, 0, 16, 8⟩
/-- R688. -/
def DRAM_TIM_0_TRTP : Fld := ⟨15, 0x80, 0, 24, 8⟩
/-- R688. -/
def DRAM_TIM_1_TRCD : Fld := ⟨15, 0x84, 0, 0, 8⟩
/-- R688. -/
def DRAM_TIM_1_TRPPB : Fld := ⟨15, 0x84, 0, 8, 8⟩
/-- R688. -/
def DRAM_TIM_1_TRPAB : Fld := ⟨15, 0x84, 0, 16, 8⟩
/-- R688. -/
def DRAM_TIM_1_TRRD : Fld := ⟨15, 0x84, 0, 24, 8⟩
/-- R688. -/
def DRAM_TIM_2_TRAS : Fld := ⟨15, 0x88, 0, 0, 8⟩
/-- R688. -/
def DRAM_TIM_2_TFAW : Fld := ⟨15, 0x88, 0, 8, 8⟩
/-- R688. -/
def DRAM_TIM_2_TWTR : Fld := ⟨15, 0x88, 0, 16, 8⟩
/-- R688. -/
def DRAM_TIM_3_TRFCAB : Fld := ⟨15, 0x8C, 0, 0, 11⟩
/-- R688. -/
def DRAM_TIM_3_TRFCPB : Fld := ⟨15, 0x8C, 0, 16, 11⟩
/-- R688. -/
def DRAM_TIM_4_TREFIPB : Fld := ⟨15, 0x90, 0, 0, 16⟩
/-- R688. -/
def DRAM_REG_CTL_RATE : Fld := ⟨15, 0x100, 16, 0, 16⟩
/-- R688. -/
def DRAM_REG_CTL_BURST : Fld := ⟨15, 0x100, 16, 16, 13⟩
/-- R688. -/
def DRAM_REG_CTL_RT : Fld := ⟨15, 0x100, 16, 30, 1⟩
/-- R688. -/
def DRAM_REG_CTL_EN : Fld := ⟨15, 0x100, 16, 31, 1⟩
/-- R688. -/
def DRAM_REG_TOK_TOKENS : Fld := ⟨15, 0x104, 16, 0, 25⟩
/-- R688. -/
def DRAM_REG_HELD_HELD : Fld := ⟨15, 0x108, 16, 0, 32⟩
/-- R725. -/
def SEAM_ROUTE_DIR : Fld := ⟨16, 0x4, 0, 0, 8⟩
/-- R725. -/
def SEAM_LINK_CTL_RETRAIN : Fld := ⟨16, 0x100, 64, 0, 1⟩
/-- R725. -/
def SEAM_LINK_CTL_INJECT : Fld := ⟨16, 0x100, 64, 1, 1⟩
/-- R725. -/
def SEAM_LINK_STAT_STATE : Fld := ⟨16, 0x104, 64, 0, 2⟩
/-- R725. -/
def SEAM_LINK_STAT_PEER : Fld := ⟨16, 0x104, 64, 2, 2⟩
/-- R725. -/
def SEAM_LINK_STAT_REPLAY : Fld := ⟨16, 0x104, 64, 4, 1⟩
/-- R725. -/
def SEAM_LINK_STAT_UNACKED : Fld := ⟨16, 0x104, 64, 8, 7⟩
/-- R725. -/
def SEAM_LAT_LAT : Fld := ⟨16, 0x108, 64, 0, 16⟩
/-- R725. -/
def SEAM_RETRY_RETRIES : Fld := ⟨16, 0x10C, 64, 0, 32⟩
/-- R725. -/
def SEAM_RWIN_WINDOW : Fld := ⟨16, 0x110, 64, 0, 5⟩
/-- R725. -/
def SEAM_FLITS_FLITS : Fld := ⟨16, 0x114, 64, 0, 32⟩
/-- R725. -/
def SEAM_GRP_CTL_PKG : Fld := ⟨16, 0x200, 0, 0, 3⟩
/-- R725. -/
def SEAM_GRP_CTL_SIZE_M1 : Fld := ⟨16, 0x200, 0, 4, 3⟩
/-- R725. -/
def SEAM_GRP_CTL_EN : Fld := ⟨16, 0x200, 0, 8, 1⟩
/-- R725. -/
def SEAM_GRP_CTL_JOIN : Fld := ⟨16, 0x200, 0, 9, 1⟩
/-- R725. -/
def SEAM_GRP_CTL_LEAVE : Fld := ⟨16, 0x200, 0, 10, 1⟩
/-- R725. -/
def SEAM_GRP_STAT_STATE : Fld := ⟨16, 0x204, 0, 0, 2⟩
/-- R725. -/
def SEAM_GRP_STAT_RESULT : Fld := ⟨16, 0x204, 0, 4, 4⟩
/-- R725. -/
def SEAM_GRP_STAT_MEMBERS : Fld := ⟨16, 0x204, 0, 8, 8⟩
/-- R725. -/
def SEAM_GRP_STAT_SKEW : Fld := ⟨16, 0x204, 0, 16, 8⟩
/-- R725. -/
def SEAM_GRP_STAT_UNCERTAIN : Fld := ⟨16, 0x204, 0, 24, 1⟩
/-- R767. -/
def CFG_CTL_LOAD : Fld := ⟨17, 0x4, 0, 0, 1⟩
/-- R767. -/
def CFG_CTL_SOURCE : Fld := ⟨17, 0x4, 0, 1, 1⟩
/-- R767. -/
def CFG_STAT_STATE : Fld := ⟨17, 0x8, 0, 0, 3⟩
/-- R767. -/
def CFG_STAT_CAUSE : Fld := ⟨17, 0x8, 0, 4, 4⟩
/-- R767. -/
def CFG_STAT_SLOT : Fld := ⟨17, 0x8, 0, 8, 1⟩
/-- R767. -/
def CFG_STAT_FALLBACK : Fld := ⟨17, 0x8, 0, 9, 1⟩
/-- R767. -/
def CFG_STAT_BOOTSEL : Fld := ⟨17, 0x8, 0, 10, 2⟩
/-- R767. -/
def CFG_STAT_XSPI8D : Fld := ⟨17, 0x8, 0, 12, 1⟩
/-- R767. -/
def CFG_STAT_DATARDY : Fld := ⟨17, 0x8, 0, 13, 1⟩
/-- R767. -/
def CFG_STAT_FAILDIE : Fld := ⟨17, 0x8, 0, 14, 2⟩
/-- R767. -/
def CFG_STAT_KEYSEL : Fld := ⟨17, 0x8, 0, 16, 2⟩
/-- R767. -/
def CFG_SRC_LO_ADDR : Fld := ⟨17, 0xC, 0, 0, 32⟩
/-- R767. -/
def CFG_SRC_HI_ADDR : Fld := ⟨17, 0x10, 0, 0, 32⟩
/-- R767. -/
def CFG_SRC_LEN_LEN : Fld := ⟨17, 0x14, 0, 0, 32⟩
/-- R767. -/
def CFG_DATA_DATA : Fld := ⟨17, 0x18, 0, 0, 32⟩
/-- R767. -/
def CFG_POS_POS : Fld := ⟨17, 0x1C, 0, 0, 32⟩
/-- R767. -/
def CFG_FAILPOS_POS : Fld := ⟨17, 0x20, 0, 0, 32⟩
/-- R767. -/
def CFG_LOADTIME_US : Fld := ⟨17, 0x24, 0, 0, 32⟩
/-- R767. -/
def CFG_IMAGEID_LO_ID : Fld := ⟨17, 0x28, 0, 0, 32⟩
/-- R767. -/
def CFG_IMAGEID_HI_ID : Fld := ⟨17, 0x2C, 0, 0, 32⟩
/-- R767. -/
def CFG_DIGEST_DIGEST : Fld := ⟨17, 0x40, 4, 0, 32⟩
/-- R805. -/
def DARNER_CTL_EN : Fld := ⟨18, 0x4, 0, 0, 1⟩
/-- R805. -/
def DARNER_POS_FRAME : Fld := ⟨18, 0x8, 0, 0, 18⟩
/-- R805. -/
def DARNER_POS_ACTIVE : Fld := ⟨18, 0x8, 0, 31, 1⟩
/-- R805. -/
def DARNER_PASSES_COUNT : Fld := ⟨18, 0xC, 0, 0, 32⟩
/-- R805. -/
def DARNER_LASTPASS_US : Fld := ⟨18, 0x10, 0, 0, 32⟩
/-- R805. -/
def DARNER_FR_CE_CE : Fld := ⟨18, 0x14, 0, 0, 32⟩
/-- R805. -/
def DARNER_FR_MULTI_MULTI : Fld := ⟨18, 0x18, 0, 0, 32⟩
/-- R805. -/
def DARNER_MEM_CE_CE : Fld := ⟨18, 0x1C, 0, 0, 32⟩
/-- R805. -/
def DARNER_MEM_UE_UE : Fld := ⟨18, 0x20, 0, 0, 32⟩
/-- R805. -/
def DARNER_SKIPPED_SKIPPED : Fld := ⟨18, 0x24, 0, 0, 32⟩
/-- R805. -/
def DARNER_RLD_CTL_EN : Fld := ⟨18, 0x100, 16, 0, 1⟩
/-- R805. -/
def DARNER_RLD_CTL_PENDING : Fld := ⟨18, 0x100, 16, 1, 1⟩
/-- R805. -/
def DARNER_RLD_ADDR_LO_ADDR : Fld := ⟨18, 0x104, 16, 6, 26⟩
/-- R805. -/
def DARNER_RLD_ADDR_HI_ADDR : Fld := ⟨18, 0x108, 16, 0, 8⟩
/-- R806. -/
def CFG_BOOTREC_SLOT : Fld := ⟨17, 0x60, 0, 0, 1⟩
/-- R806. -/
def CFG_BOOTREC_STATE : Fld := ⟨17, 0x60, 0, 1, 2⟩
/-- R806. -/
def CFG_BOOTREC_TRIALS : Fld := ⟨17, 0x60, 0, 3, 2⟩
/-- R806. -/
def CFG_BOOTREC_LOC : Fld := ⟨17, 0x60, 0, 5, 1⟩
/-- R806. -/
def CFG_BOOTREC_WRFAIL : Fld := ⟨17, 0x60, 0, 6, 1⟩
/-- R806. -/
def CFG_BOOTREC_FELLBACK : Fld := ⟨17, 0x60, 0, 7, 1⟩
/-- R806. -/
def CFG_BOOTSEQ_SEQ : Fld := ⟨17, 0x64, 0, 0, 32⟩
/-- R806. -/
def CFG_FL_ADDR_ADDR : Fld := ⟨17, 0x68, 0, 0, 32⟩
/-- R806. -/
def CFG_FL_CTL_OP : Fld := ⟨17, 0x6C, 0, 0, 3⟩
/-- R806. -/
def CFG_FL_CTL_GO : Fld := ⟨17, 0x6C, 0, 16, 1⟩
/-- R806. -/
def CFG_FL_CTL_BUSY : Fld := ⟨17, 0x6C, 0, 17, 1⟩
/-- R806. -/
def CFG_FL_CTL_ERR : Fld := ⟨17, 0x6C, 0, 18, 1⟩
/-- R806. -/
def CFG_FL_DATA_DATA : Fld := ⟨17, 0x80, 4, 0, 32⟩
/-- R848. -/
def HEM_STAT_ALARM : Fld := ⟨19, 0x4, 0, 0, 1⟩
/-- R848. -/
def HEM_STAT_FAILROWS : Fld := ⟨19, 0x4, 0, 8, 8⟩
/-- R848. -/
def HEM_STAT_LC : Fld := ⟨19, 0x4, 0, 16, 3⟩
/-- R848. -/
def HEM_STAT_LCBUSY : Fld := ⟨19, 0x4, 0, 19, 1⟩
/-- R848. -/
def HEM_STAT_PROGBUSY : Fld := ⟨19, 0x4, 0, 20, 1⟩
/-- R848. -/
def HEM_STAT_PROGRESULT : Fld := ⟨19, 0x4, 0, 21, 3⟩
/-- R848. -/
def HEM_FAIL_KINDS_KINDS : Fld := ⟨19, 0x8, 0, 0, 7⟩
/-- R848. -/
def HEM_CORR_ROWS : Fld := ⟨19, 0xC, 0, 0, 9⟩
/-- R848. -/
def HEM_CONTROL_CONTROL : Fld := ⟨19, 0x10, 0, 0, 18⟩
/-- R848. -/
def HEM_UNITEN_UNITEN : Fld := ⟨19, 0x14, 0, 0, 28⟩
/-- R848. -/
def HEM_FEATEN_FEATEN : Fld := ⟨19, 0x18, 0, 0, 8⟩
/-- R848. -/
def HEM_FEATEN_VARIANT : Fld := ⟨19, 0x18, 0, 8, 2⟩
/-- R848. -/
def HEM_FEATEN_GRADE : Fld := ⟨19, 0x18, 0, 10, 1⟩
/-- R848. -/
def HEM_RD_ROW_ROW : Fld := ⟨19, 0x20, 0, 0, 9⟩
/-- R848. -/
def HEM_RD_LO_DATA : Fld := ⟨19, 0x24, 0, 0, 32⟩
/-- R848. -/
def HEM_RD_HI_DATA : Fld := ⟨19, 0x28, 0, 0, 32⟩
/-- R848. -/
def HEM_RD_STAT_FAILED : Fld := ⟨19, 0x2C, 0, 0, 1⟩
/-- R848. -/
def HEM_PROG_ROW_ROW : Fld := ⟨19, 0x30, 0, 0, 9⟩
/-- R848. -/
def HEM_PROG_LO_DATA : Fld := ⟨19, 0x34, 0, 0, 32⟩
/-- R848. -/
def HEM_PROG_HI_DATA : Fld := ⟨19, 0x38, 0, 0, 32⟩
/-- R848. -/
def HEM_PROG_CTL_GO : Fld := ⟨19, 0x3C, 0, 0, 1⟩
/-- R848. -/
def HEM_LC_REQ_TARGET : Fld := ⟨19, 0x40, 0, 0, 3⟩
/-- R848. -/
def HEM_LC_REQ_GO : Fld := ⟨19, 0x40, 0, 31, 1⟩
/-- R849. -/
def TAMPER_EN_EN : Fld := ⟨26, 0x4, 0, 0, 4⟩
/-- R849. -/
def TAMPER_STAT_ACTIVE : Fld := ⟨26, 0x8, 0, 0, 4⟩
/-- R849. -/
def TAMPER_STAT_TRIPPED : Fld := ⟨26, 0x8, 0, 4, 4⟩
/-- R849. -/
def TAMPER_STAT_HELD : Fld := ⟨26, 0x8, 0, 8, 1⟩
/-- R849. -/
def TAMPER_STAT_OFFTRIP : Fld := ⟨26, 0x8, 0, 9, 1⟩
/-- R849. -/
def TAMPER_KEYCTL_COMMIT : Fld := ⟨26, 0xC, 0, 0, 1⟩
/-- R849. -/
def TAMPER_KEYCTL_ERASE : Fld := ⟨26, 0xC, 0, 1, 1⟩
/-- R849. -/
def TAMPER_KEYCTL_KEYVALID : Fld := ⟨26, 0xC, 0, 8, 1⟩
/-- R849. -/
def TAMPER_BBKEY_KEY : Fld := ⟨26, 0x10, 4, 0, 32⟩
/-- R849. -/
def TAMPER_VBTIME_SECONDS : Fld := ⟨26, 0x40, 0, 0, 32⟩
/-- R849. -/
def TAMPER_LOG_STAT_ENTRIES : Fld := ⟨26, 0x44, 0, 0, 5⟩
/-- R849. -/
def TAMPER_LOG_STAT_OVF : Fld := ⟨26, 0x44, 0, 8, 8⟩
/-- R849. -/
def TAMPER_LOG_SEL_ENTRY : Fld := ⟨26, 0x48, 0, 0, 4⟩
/-- R849. -/
def TAMPER_LOG_CLR_CLR : Fld := ⟨26, 0x4C, 0, 0, 1⟩
/-- R849. -/
def TAMPER_LOG_WORD : Fld := ⟨26, 0x50, 4, 0, 32⟩
/-- R850. -/
def WDOG_CTL_EN : Fld := ⟨21, 0x4, 0, 0, 1⟩
/-- R850. -/
def WDOG_PERIOD_MS : Fld := ⟨21, 0x8, 0, 0, 16⟩
/-- R850. -/
def WDOG_PULSE_MS : Fld := ⟨21, 0xC, 0, 0, 8⟩
/-- R850. -/
def WDOG_STAT_RUNNING : Fld := ⟨21, 0x10, 0, 0, 1⟩
/-- R850. -/
def WDOG_STAT_OPEN : Fld := ⟨21, 0x10, 0, 1, 1⟩
/-- R850. -/
def WDOG_STAT_PAUSED : Fld := ⟨21, 0x10, 0, 2, 1⟩
/-- R850. -/
def WDOG_STAT_PULSING : Fld := ⟨21, 0x10, 0, 3, 1⟩
/-- R850. -/
def WDOG_COUNT_US : Fld := ⟨21, 0x14, 0, 0, 26⟩
/-- R850. -/
def WDOG_OPENAT_US : Fld := ⟨21, 0x18, 0, 0, 26⟩
/-- R850. -/
def WDOG_BADSVC_BAD : Fld := ⟨21, 0x1C, 0, 0, 32⟩
/-- R850. -/
def WDOG_SVCS_SVCS : Fld := ⟨21, 0x20, 0, 0, 32⟩
/-- R885. -/
def PLACKET_DBG_ADDR_LO_ADDR : Fld := ⟨22, 0x4, 0, 0, 32⟩
/-- R885. -/
def PLACKET_DBG_ADDR_HI_ADDR : Fld := ⟨22, 0x8, 0, 0, 8⟩
/-- R885. -/
def PLACKET_DBG_DATA_LO_DATA : Fld := ⟨22, 0xC, 0, 0, 32⟩
/-- R885. -/
def PLACKET_DBG_DATA_HI_DATA : Fld := ⟨22, 0x10, 0, 0, 24⟩
/-- R885. -/
def PLACKET_DBG_CMD_OP : Fld := ⟨22, 0x14, 0, 0, 2⟩
/-- R885. -/
def PLACKET_DBG_CMD_LANE : Fld := ⟨22, 0x14, 0, 2, 1⟩
/-- R885. -/
def PLACKET_DBG_CMD_GO : Fld := ⟨22, 0x14, 0, 31, 1⟩
/-- R885. -/
def PLACKET_DBG_STAT_BUSY : Fld := ⟨22, 0x18, 0, 0, 1⟩
/-- R885. -/
def PLACKET_DBG_STAT_BASTED : Fld := ⟨22, 0x18, 0, 1, 1⟩
/-- R885. -/
def PLACKET_DBG_STAT_STATUS : Fld := ⟨22, 0x18, 0, 2, 3⟩
/-- R885. -/
def PLACKET_HALT_CTL_YHALT : Fld := ⟨22, 0x20, 0, 0, 1⟩
/-- R885. -/
def PLACKET_HALT_CTL_YRESUME : Fld := ⟨22, 0x20, 0, 1, 1⟩
/-- R885. -/
def PLACKET_HALT_CTL_YSTEP : Fld := ⟨22, 0x20, 0, 2, 1⟩
/-- R885. -/
def PLACKET_HALT_CTL_RSTHALT : Fld := ⟨22, 0x20, 0, 3, 1⟩
/-- R885. -/
def PLACKET_HALT_CTL_XHALT : Fld := ⟨22, 0x20, 0, 4, 1⟩
/-- R885. -/
def PLACKET_HALT_CTL_TICKHOLD : Fld := ⟨22, 0x20, 0, 5, 1⟩
/-- R885. -/
def PLACKET_CLH_SET_FIRST : Fld := ⟨22, 0x24, 0, 0, 8⟩
/-- R885. -/
def PLACKET_CLH_SET_COUNT : Fld := ⟨22, 0x24, 0, 8, 8⟩
/-- R885. -/
def PLACKET_CLH_SET_HALT : Fld := ⟨22, 0x24, 0, 16, 1⟩
/-- R885. -/
def PLACKET_CLH_SET_RESUME : Fld := ⟨22, 0x24, 0, 17, 1⟩
/-- R885. -/
def PLACKET_CLH_SET_STEP : Fld := ⟨22, 0x24, 0, 18, 1⟩
/-- R885. -/
def PLACKET_HALT_STAT_YHALTED : Fld := ⟨22, 0x28, 0, 0, 1⟩
/-- R885. -/
def PLACKET_HALT_STAT_YCAUSE : Fld := ⟨22, 0x28, 0, 1, 3⟩
/-- R885. -/
def PLACKET_HALT_STAT_YPC : Fld := ⟨22, 0x28, 0, 16, 14⟩
/-- R885. -/
def PLACKET_YBP_ADDR : Fld := ⟨22, 0x40, 4, 0, 14⟩
/-- R885. -/
def PLACKET_YBP_EN : Fld := ⟨22, 0x40, 4, 31, 1⟩
/-- R885. -/
def PLACKET_RBP_ADDR : Fld := ⟨22, 0x50, 8, 0, 12⟩
/-- R885. -/
def PLACKET_RBP_EN : Fld := ⟨22, 0x50, 8, 31, 1⟩
/-- R885. -/
def PLACKET_RBP_SET_FIRST : Fld := ⟨22, 0x54, 8, 0, 8⟩
/-- R885. -/
def PLACKET_RBP_SET_COUNT : Fld := ⟨22, 0x54, 8, 8, 8⟩
/-- R885. -/
def PLACKET_YREG_L : Fld := ⟨22, 0x80, 4, 0, 32⟩
/-- R885. -/
def PLACKET_CLSEL_CLUSTER : Fld := ⟨22, 0xC0, 0, 0, 8⟩
/-- R885. -/
def PLACKET_CLSEL_CLASS : Fld := ⟨22, 0xC0, 0, 8, 3⟩
/-- R885. -/
def PLACKET_CLSEL_INDEX : Fld := ⟨22, 0xC0, 0, 11, 12⟩
/-- R885. -/
def PLACKET_CLSEL_LANE : Fld := ⟨22, 0xC0, 0, 23, 4⟩
/-- R885. -/
def PLACKET_CLSEL_OP : Fld := ⟨22, 0xC0, 0, 28, 2⟩
/-- R885. -/
def PLACKET_CLSEL_GO : Fld := ⟨22, 0xC0, 0, 31, 1⟩
/-- R885. -/
def PLACKET_CLDATA_DATA : Fld := ⟨22, 0xD0, 4, 0, 32⟩
/-- R885. -/
def PLACKET_STIM_EN_PORTS : Fld := ⟨22, 0x100, 4, 0, 32⟩
/-- R885. -/
def PLACKET_TR_CTL_DEST : Fld := ⟨22, 0x500, 0, 0, 2⟩
/-- R885. -/
def PLACKET_TR_CTL_CLKNET : Fld := ⟨22, 0x500, 0, 2, 4⟩
/-- R885. -/
def PLACKET_TR_CTL_RINGSTOP : Fld := ⟨22, 0x500, 0, 6, 1⟩
/-- R885. -/
def PLACKET_TR_CTL_LOG2 : Fld := ⟨22, 0x500, 0, 8, 5⟩
/-- R885. -/
def PLACKET_TR_STAT_FILL : Fld := ⟨22, 0x504, 0, 0, 12⟩
/-- R885. -/
def PLACKET_TR_STAT_RINGFULL : Fld := ⟨22, 0x504, 0, 12, 1⟩
/-- R885. -/
def PLACKET_TR_LOST_LOST : Fld := ⟨22, 0x508, 0, 0, 32⟩
/-- R885. -/
def PLACKET_TR_RING_BASE_LO_BASE : Fld := ⟨22, 0x50C, 0, 0, 32⟩
/-- R885. -/
def PLACKET_TR_RING_BASE_HI_BASE : Fld := ⟨22, 0x510, 0, 0, 8⟩
/-- R885. -/
def PLACKET_TR_RING_WP_WP : Fld := ⟨22, 0x514, 0, 0, 32⟩
/-- R885. -/
def PLACKET_TR_KIND_KINDS : Fld := ⟨22, 0x520, 4, 0, 32⟩
/-- R885. -/
def PLACKET_TR_TEN_TENANTS : Fld := ⟨22, 0x540, 4, 0, 32⟩
/-- R885. -/
def PLACKET_AUTH_CHAL_CHAL : Fld := ⟨22, 0x600, 4, 0, 32⟩
/-- R885. -/
def PLACKET_AUTH_KEY_KEY : Fld := ⟨22, 0x640, 4, 0, 32⟩
/-- R885. -/
def PLACKET_AUTH_SIG_SIG : Fld := ⟨22, 0x6A0, 4, 0, 32⟩
/-- R885. -/
def PLACKET_AUTH_CTL_NEWCHAL : Fld := ⟨22, 0x700, 0, 0, 1⟩
/-- R885. -/
def PLACKET_AUTH_CTL_GO : Fld := ⟨22, 0x700, 0, 1, 1⟩
/-- R885. -/
def PLACKET_AUTH_STAT_AUTHED : Fld := ⟨22, 0x704, 0, 0, 1⟩
/-- R885. -/
def PLACKET_AUTH_STAT_BUSY : Fld := ⟨22, 0x704, 0, 1, 1⟩
/-- R885. -/
def PLACKET_AUTH_STAT_LOCKOUT : Fld := ⟨22, 0x704, 0, 2, 1⟩
/-- R885. -/
def PLACKET_AUTH_STAT_CHALVALID : Fld := ⟨22, 0x704, 0, 3, 1⟩
/-- R885. -/
def PLACKET_AUTH_STAT_FAILS : Fld := ⟨22, 0x704, 0, 4, 4⟩
/-- R885. -/
def PLACKET_AUTH_STAT_RESULT : Fld := ⟨22, 0x704, 0, 8, 3⟩
/-- R930. -/
def PWR_RAIL_VCORE : Fld := ⟨27, 0x4, 0, 0, 1⟩
/-- R930. -/
def PWR_RAIL_VAUX : Fld := ⟨27, 0x4, 0, 1, 1⟩
/-- R930. -/
def PWR_RAIL_VAON : Fld := ⟨27, 0x4, 0, 2, 1⟩
/-- R930. -/
def PWR_RAIL_VBAT : Fld := ⟨27, 0x4, 0, 3, 1⟩
/-- R930. -/
def PWR_RAIL_VDDQ : Fld := ⟨27, 0x4, 0, 4, 1⟩
/-- R930. -/
def PWR_RAIL_VDD2 : Fld := ⟨27, 0x4, 0, 5, 1⟩
/-- R930. -/
def PWR_RAIL_VLANE : Fld := ⟨27, 0x4, 0, 6, 1⟩
/-- R930. -/
def PWR_RAIL_VLANEH : Fld := ⟨27, 0x4, 0, 7, 1⟩
/-- R930. -/
def PWR_RAIL_VADC : Fld := ⟨27, 0x4, 0, 8, 1⟩
/-- R930. -/
def PWR_RAIL_VADCL : Fld := ⟨27, 0x4, 0, 9, 1⟩
/-- R930. -/
def PWR_RAIL_VPS : Fld := ⟨27, 0x4, 0, 10, 1⟩
/-- R930. -/
def PWR_RAIL_VHOST : Fld := ⟨27, 0x4, 0, 11, 1⟩
/-- R930. -/
def PWR_RAIL_VIO : Fld := ⟨27, 0x4, 0, 12, 4⟩
/-- R930. -/
def PWR_RAILLOW_LOW : Fld := ⟨27, 0x8, 0, 4, 12⟩
/-- R930. -/
def PWR_VREQ_MV : Fld := ⟨27, 0xC, 0, 0, 10⟩
/-- R930. -/
def PWR_VREQ_COLD : Fld := ⟨27, 0xC, 0, 16, 1⟩
/-- R930. -/
def PWR_BOSTAT_COUNT : Fld := ⟨27, 0x10, 0, 0, 16⟩
/-- R930. -/
def PWR_BOSTAT_DIE : Fld := ⟨27, 0x10, 0, 16, 2⟩
/-- R930. -/
def PWR_BOSTAT_RAIL : Fld := ⟨27, 0x10, 0, 18, 1⟩
/-- R947. -/
def EVT_ALARM_KINDS : Fld := ⟨24, 0x3000, 4, 0, 32⟩
/-- R947. -/
def EVT_AOL_STAT_ENTRIES : Fld := ⟨24, 0x3100, 0, 0, 6⟩
/-- R947. -/
def EVT_AOL_STAT_OVF : Fld := ⟨24, 0x3100, 0, 8, 8⟩
/-- R947. -/
def EVT_AOL_SEL_ENTRY : Fld := ⟨24, 0x3104, 0, 0, 5⟩
/-- R947. -/
def EVT_AOL_CLR_CLR : Fld := ⟨24, 0x3108, 0, 0, 1⟩
/-- R947. -/
def EVT_AOL_WORD : Fld := ⟨24, 0x3110, 4, 0, 32⟩
/-- R947. -/
def EVT_KCOUNT_COUNT : Fld := ⟨24, 0x3400, 4, 0, 32⟩

end Rf

end Sys2Proof.Machine
end

