-- ==== Sys2Proof/Machine/State.lean ====
section
/-! DEFINITION. The state of the S9 as plain data, and the state right after reset. A field's default is its value at
reset. Values that a register alone holds lie in the register file of the die (`DieSt.regs`); the fields here hold what
lies behind the registers. -/

namespace Sys2Proof.Machine

/-! ### Time, ticks and event records (R54 to R113, R931 to R947) -/

/-- A tick setting (R62). -/
structure Setting where
  p : Nat := 100000
  a : Nat := 20000
  s : Nat := 90000
  deriving DecidableEq, Repr

/-- The phases of a tick (R62); `idle` is the time in which no tick runs. -/
inductive Phase | idle | acquire | process | stitch | slack
  deriving DecidableEq, Repr

/-- The time base of a die and its discipline (R54 to R60). -/
structure TimeBase where
  /-- The count (R54). -/
  now : Time := 0
  /-- The correction still to be slewed in, in tq (R57). -/
  owe : Int := 0
  /-- The counts since the last slewed count, up to 256 (R57). -/
  since : Nat := 256
  /-- Exchanges in a row with a skew of at most 4 tq (R60). -/
  good : Nat := 0
  /-- The time base has taken die 0's time once (R55). -/
  taken : Bool := false
  /-- The excursion above 64 tq has been reported (R107). -/
  alarmed : Bool := false
  deriving DecidableEq, Repr

/-- The tick of a die (R62 to R76). -/
structure TickSt where
  /-- The setting of the current tick. -/
  set : Setting := {}
  /-- The start of the current tick. -/
  start : Time := 0
  /-- The number of the current tick (R65); the first tick takes number 0. -/
  num : BitVec 48 := 0
  phase : Phase := .idle
  /-- The mark held for the coming tick (R66, R67). -/
  mark : Option Mark := none
  /-- The tick was started at its predicted time and no mark has agreed yet (R68). -/
  waiting : Bool := false
  /-- The tick runs on local time and its records are uncertain (R68). -/
  missed : Bool := false
  /-- The tick is extended under the G2 rule (R75). -/
  extended : Bool := false
  /-- The die's report at S under the G2 rule: a Rentik program still ran (R75). -/
  report : Option Bool := none
  /-- When STITCH of this tick began. -/
  stitchAt : Option Time := none
  /-- This tick's SLACK start has been passed (R89). -/
  marked : Bool := false
  /-- Ticks skipped since this one started (R75, R864). -/
  skips : Nat := 0
  deriving DecidableEq, Repr

/-- An event record (R77). -/
structure Rec where
  time : Time
  src : Nat
  kind : Nat
  ten : Fin 256
  unc : Bool
  basted : Bool
  g2 : Bool
  pay : Word
  deriving DecidableEq, Repr

/-! ### Fuses, tamper and the watchdog (R807 to R850) -/

/-- A die's Hem: rows and the values delivered at the last sensing (R807 to R817). -/
structure HemSt where
  /-- The data bits of the rows; an unlisted row is blank. -/
  rows : SMap (BitVec 64) := []
  /-- The rows that failed integrity at the last sensing. -/
  failed : List Nat := []
  uniten : Nat := 0x0FFFFFFF
  featen : Nat := 0x18
  variant : Nat := 1
  grade : Nat := 0
  vendor : Nat := 0
  /-- CONTROL fields in force, as R810 lays them out. -/
  control : Nat := 0
  /-- Lifecycle code in force (R817). -/
  lc : Nat := 0
  /-- The row being programmed and its data (R820), and rows whose programming failed or was cut off. -/
  prog : Option (Nat × BitVec 64) := none
  broken : List Nat := []
  deriving DecidableEq, Repr

/-- A tamper log entry (R827). -/
structure TamperEntry where
  w0 : Word
  w1 : Word
  w2 : Word
  w3 : Word
  deriving DecidableEq, Repr

/-- Die 0's VBAT domain (R825). -/
structure VbatSt where
  key : BitVec 256 := 0
  keyValid : Bool := false
  log : List TamperEntry := []
  ovf : Nat := 0
  seq : Word := 0
  /-- VBTIME, and the tq of the second in progress. -/
  seconds : Word := 0
  part : Nat := 0
  /-- A trip of TAMPER_N under VBAT alone awaits its event (R824). -/
  offEvent : Bool := false
  /-- VAON is absent. -/
  vaonAbsent : Bool := false
  deriving DecidableEq, Repr

/-- A lifecycle transition in progress (R818). -/
structure LcMove where
  target : Nat
  old : Nat
  die : Fin 4
  deriving DecidableEq, Repr

/-- A die's watchdog (R828 to R834); counts are held in tq, 1,000 to a nominal µs. -/
structure WdogSt where
  running : Bool := false
  count : Nat := 0
  /-- The period in force, in ms. -/
  period : Nat := 1000
  /-- The host made the last accepted service (true), or the Yoke did (R840). -/
  byHost : Option Bool := none
  deriving DecidableEq, Repr

/-! ### Lane memories and basted data (R252 to R294, R345 to R394) -/

/-- The lane memories of a die (R18, R345). -/
inductive Mem | spad | cst | bmem | lining
  deriving DecidableEq, Repr

/-- The Basting state of a word (R252). -/
inductive Tag | committed | basted | ingest | void
  deriving DecidableEq, Repr

/-- A shadow entry: the committed value of a BASTED word (R252, R256). -/
structure Shadow where
  data : Quadlane
  /-- Poisoned lanes, one bit each. -/
  poison : Nat
  written : Bool
  /-- The word was VOID when it was first written. -/
  void : Bool
  deriving DecidableEq, Repr

/-- A word of lane memory with its tags (R252, R345, R348, R364). -/
structure MWord where
  data : Quadlane := 0
  /-- Inverted physical bits: 20 to a lane, data bits 0 to 13 and check bits 14 to 19 (R345, R378). -/
  flips : Nat := 0
  /-- Lanes that hold the poison encoding, one bit each (R348, R779). -/
  poison : Nat := 0
  /-- The written bit of a scratchpad word (R364). -/
  written : Bool := false
  tag : Tag := .committed
  /-- The tenant of a BASTED or INGEST word. -/
  ten : Fin 256 := 0
  shadow : Option Shadow := none
  /-- A write of R255 reached the shadow entry (R261). -/
  overwritten : Bool := false
  deriving DecidableEq, Repr

/-- What a Basting buffer entry writes (R257). -/
inductive BufWrite
  /-- Bytes of one 64-byte block of DRAM at a device address; none for a byte the write leaves alone. -/
  | dram (addr : Nat) (data : List (Option Byte))
  /-- Lanes of one remote word at a device lane address: lane mask and data. -/
  | lane (addr : Nat) (mask : Nat) (data : Quadlane)
  /-- One register at a device address. -/
  | reg (addr : Nat) (v : Word)
  deriving DecidableEq, Repr

/-- A Basting buffer entry. -/
structure BufEntry where
  ten : Fin 256
  w : BufWrite
  deriving DecidableEq, Repr

/-- A die's report for one tenant (R268): reason bits it found, and whether it holds basted state or a verdict. -/
structure TenReport where
  ten : Fin 256
  stitch : Bool
  unpick : Bool
  reasons : Nat
  holds : Bool
  deriving DecidableEq, Repr

/-- A die's report (R268). -/
structure Report where
  die : Fin 4
  tens : List TenReport
  deriving DecidableEq, Repr

/-- The combined outcome (R268): for each tenant with basted state, stitched or not, and the reason mask. -/
structure Verdict where
  ten : Fin 256
  stitch : Bool
  reasons : Nat
  deriving DecidableEq, Repr

/-- A die's Basting unit (R250 to R294). -/
structure BasteSt where
  /-- Buffer entries in issue order (R257). -/
  buf : List BufEntry := []
  /-- Entries of stitched tenants that drain (R271). -/
  drain : List BufEntry := []
  /-- Shadow entries of unpicked words not yet written back: memory, word, tenant (R272). -/
  back : List (Mem × Nat × Fin 256) := []
  /-- Verdicts of this die's Yoke in this tick (R137). -/
  stitchV : List (Fin 256) := []
  unpickV : List (Fin 256) := []
  /-- Tenants whose capture basis failed, whose frame basis failed, and whose frame basis is unconfirmed. -/
  capBad : List (Fin 256) := []
  frameBad : List (Fin 256) := []
  frameLate : List (Fin 256) := []
  /-- Tenants already reported under R288 in this tick. -/
  stalled : List (Fin 256) := []
  /-- This tick's report has been made. -/
  reported : Bool := false
  /-- The report on its way to die 0. -/
  report : Option Report := none
  /-- The combined outcome on its way to the die, and as held by the die (R268, R269). -/
  sent : Option (List Verdict) := none
  outcome : Option (List Verdict) := none
  /-- The outcome of this tick has been applied. -/
  applied : Bool := false
  /-- When it was applied (R276). -/
  appliedAt : Time := 0
  /-- Buffer entries drained or discarded at the apply, by tenant (R276). -/
  counts : List (Fin 256 × Nat) := []
  /-- QUOTA_t in force (R279). -/
  quota : SMap Nat := []
  deriving DecidableEq, Repr

/-- The resolution at die 0 (R267 to R269, R276). -/
structure ResolveSt where
  /-- Reports received, by die. -/
  got : Quad (Option Report) := Quad.all none
  /-- Dies counted as missing (R269). -/
  late : Quad Bool := Quad.all false
  /-- The outcome sent in this tick. -/
  outcome : Option (List Verdict) := none
  /-- CT_GUARD and the AUTO bits in force (R279). -/
  guard : Nat := 4096
  auto : SMap Bool := []
  deriving DecidableEq, Repr

/-! ### External DRAM (R629 to R688) -/

/-- A merge-buffer entry (R646): a granule, its window offset, its bytes by position, and the time it was created. -/
structure MergeEnt where
  gran : Nat
  off : Nat
  bytes : List (Option Byte)
  born : Time
  deriving DecidableEq, Repr

/-- A request at a regulator port (R654, R655): a read of `n` bytes with the error symbols its codewords carry, or a
write. -/
structure DramReq where
  port : Nat
  wr : Bool
  off : Nat
  n : Nat
  data : List Byte
  errs : List Nat
  deriving DecidableEq, Repr

/-- A die's DRAM controller and devices. -/
structure DramSt where
  /-- Bytes written since the contents were last lost, by physical location. -/
  cells : SMap (Option Byte) := []
  /-- Unlisted locations hold zero: a CLEAR has run (R644). -/
  zeroed : Bool := false
  /-- Times the contents have been lost: the open contents differ each time. -/
  gen : Nat := 0
  /-- Poisoned granules, by physical location (R643). -/
  poison : SMap Bool := []
  merge : List MergeEnt := []
  /-- Times of the last counted corrections of each chip position, newest first (R640). -/
  marks : SMap (List Time) := []
  /-- Refreshes waiting at bank 8 × rank + bank (R658). -/
  waiting : SMap Nat := []
  /-- Refresh-rate codes last read from each rank (R657). -/
  code0 : Nat := 0
  code1 : Nat := 0
  /-- Highest sensor reading and time at the last training (R660). -/
  trainTemp : Int := 0
  trainAt : Time := 0
  /-- The next burst patrol scrub reads (R661). -/
  patrol : Nat := 0
  /-- Token counts of the regulator ports, and the port settings in force (R655). -/
  tokens : SMap Nat := []
  inForce : SMap Word := []
  /-- Requests held, in arrival order (R655, R660, R662). -/
  held : List DramReq := []
  deriving DecidableEq, Repr

/-! ### Work items and Rentik clusters (R133, R165, R395 to R443) -/

/-- A work item of a RUN command or of a recipe's kernel (R133, R154, R167). -/
structure WorkItem where
  ten : Fin 256
  /-- Command identifier and IRQ bit; none for a recipe's kernel, which has no completion. -/
  cmd : Option (BitVec 16 × Bool)
  first : Nat
  count : Nat
  args : List Word
  entry : BitVec 12
  unpick : BitVec 12
  /-- Cost in nJ per cluster. -/
  cost : Nat
  deriving DecidableEq, Repr

/-- A work item that ran on a die in this tick (R71, R273, R275). -/
structure RanItem where
  id : Nat
  item : WorkItem
  /-- Clusters of the set whose program has not ended. -/
  left : Nat
  /-- The status and detail its programs ended with: 0, or the first other status of R168. -/
  status : Nat
  detail : Nat
  /-- Some program of the item ran in basted mode. -/
  basted : Bool
  /-- Its completion has been made, or it has none. -/
  told : Bool
  /-- The item waits for its unpick handler to start (R273). -/
  unpicking : Bool
  deriving DecidableEq, Repr

/-- A vector: 16 lanes (R395). -/
abbrev Vec := Lanes Lane

/-- An accumulator lane (R395). -/
structure AccLane where
  v : BitVec 56 := 0
  u : Bool := false
  o : Bool := false
  n : Nat := 0
  deriving DecidableEq, Repr

/-- The state of a cluster as CL_STAT shows it (R443). -/
inductive CState | idle | running | stopping | halted
  deriving DecidableEq, Repr

/-- An issued XLD or XST that has not completed (R417, R418). -/
structure XAcc where
  id : Nat
  store : Bool
  /-- Destination of an XLD: 0 to 31 for v, 64 + e for physical warp entry e. -/
  reg : Nat
  /-- Lanes the guard enabled at issue. -/
  mask : Nat
  addr : Nat
  /-- The layout F. -/
  f : Nat
  /-- What a local XLD read at issue. -/
  data : Vec
  remote : Bool
  deriving DecidableEq, Repr

/-- A descriptor as a program found it at its start (R409). -/
structure Desc where
  base : Nat
  limit : Nat
  rd : Bool
  wr : Bool
  deriving DecidableEq, Repr

/-- A Rentik cluster (R395). -/
structure Cluster where
  st : CState := .idle
  ten : Fin 256 := 0
  entry : BitVec 12 := 0
  pc : BitVec 12 := 0
  wb : BitVec 6 := 0
  mark : Bool := false
  asat : Bool := false
  xerr : Bool := false
  basted : Bool := false
  /-- v0 to v31 at keys 0 to 31, physical warp entries at keys 64 to 127. -/
  vec : SMap Vec := []
  /-- Accumulator lane j of aA at key 16 × A + j. -/
  acc : SMap AccLane := []
  sreg : SMap (BitVec 28) := []
  /-- p1 to p7. -/
  preg : SMap (BitVec 16) := []
  xq : List XAcc := []
  /-- An X access has failed since the last FENCE or the start (R416). -/
  fenceBad : Bool := false
  descs : List Desc := []
  /-- Start of the program, cycles counted up to `cycAt` in thousandths (R422, R223). -/
  started : Time := 0
  cyc : Nat := 0
  cycAt : Time := 0
  /-- The item the program belongs to. -/
  item : Nat := 0
  /-- Basted from its first write: dispatched in ACQUIRE under a capture basis (R254). -/
  preBaste : Bool := false
  /-- The program was stopped: nothing more issues, and XLD responses are discarded (R412, R863). -/
  killed : Bool := false
  /-- The breakpoint at the PC has been passed by RESUME or STEP (R862). -/
  passBp : Bool := false
  /-- An unpick handler (R273, R274). -/
  handler : Bool := false
  /-- A halt has been asked for, with its cause (R861, R882). -/
  haltReq : Option Nat := none
  deriving DecidableEq, Repr

/-! ### Remote accesses (R146 to R148, R653, R698) -/

/-- The master that waits for a remote access. -/
inductive RInit
  /-- LDR into a register, or STR. -/
  | yoke (dst : Option (Fin 16))
  /-- A host access, over PCI Express or host SPI. -/
  | host (t : Fin 256) (spi : Bool)
  /-- XLD or XST number `x` of a cluster. -/
  | rentik (c : Fin 192) (x : Nat)
  /-- A fabric DRAM port. -/
  | dport (q : Fin 8)
  deriving DecidableEq, Repr

/-- What a remote access does at its target die. -/
inductive ROp
  | regRead (off bytes : Nat)
  | regWrite (off bytes : Nat) (v : Word)
  /-- Sixteen lanes in layout F at an offset. -/
  | vecRead (off f : Nat)
  | vecWrite (off f mask : Nat) (v : Vec)
  /-- Bytes at a DRAM offset; enables one bit a byte. -/
  | bytesRead (off n : Nat)
  | bytesWrite (off : Nat) (en : Nat) (data : List Byte)
  /-- Host lane window accesses: bytes at a lane-window offset of the die (R159). -/
  | laneRead (off n : Nat)
  | laneWrite (off : Nat) (data : List Byte)
  deriving DecidableEq, Repr

/-- What a remote read obtained. -/
inductive RData
  | none
  | word (v : Word)
  | vec (v : Vec)
  | bytes (l : List Byte)
  | poison
  | fault
  deriving DecidableEq, Repr

/-- A remote access that has been issued and is not yet answered (R148). -/
structure RAcc where
  id : Nat
  die : Fin 4
  target : Fin 4
  init : RInit
  ten : Fin 256
  op : ROp
  issued : Time
  basted : Bool
  /-- The target has served it: its answer is on the way. -/
  served : Bool := false
  data : RData := .none
  abandoned : Bool := false
  deriving DecidableEq, Repr

/-! ### The energy ledger (R192 to R249) -/

/-- A die's ledger. Energies are in nJ. -/
structure LedgerSt where
  /-- LEDGER.ENERGY (R195). -/
  energy : BitVec 64 := 0
  /-- Energy of the samples since the last total was sent, and when it was sent (R197). -/
  unsent : Nat := 0
  sentAt : Time := 0
  /-- Totals on their way to die 0, oldest first. -/
  totals : List Nat := []
  /-- Energy and number of the samples of the work window (R211). -/
  workE : Nat := 0
  workN : Nat := 0
  /-- TICK_BUDGET and ENFORCE in force (R229). -/
  budget : Nat := 0xFFFFFFFF
  enforce : Bool := false
  /-- Balances by tenant (R203). -/
  bal : SMap Int := []
  /-- The die's reservations in this tick, R_t, and the unused part of each tenant's DRAW reservation (R135, R209). -/
  resvd : Nat := 0
  rt : SMap Nat := []
  unused : SMap Nat := []
  /-- This tick has been reconciled (R212, R214). -/
  closed : Bool := false
  /-- Energy reserved in this epoch (R220), and tenants whose EXHAUST has been raised in it (R244). -/
  epochRes : Nat := 0
  told : List (Fin 256) := []
  /-- Energy of the samples of this cap window (R222). -/
  win : Nat := 0
  /-- A cap on its way from die 0, and a cap the die holds for the next epoch (R221). -/
  capSent : Option Nat := none
  capNew : Option Nat := none
  /-- Since when the highest reading has been at or above THR, and every reading at or below THR − HYST (R225). -/
  hot : Option Time := none
  cool : Option Time := none
  deriving DecidableEq, Repr

/-! ### Acquisition, interlock and panel sense (R444 to R503) -/

/-- A run of marks in progress (R459): index of its first sample, its last mark, and whether it is severe. -/
structure Run where
  first : Nat
  last : Lane
  severe : Bool
  deriving DecidableEq, Repr

/-- A recovery interval in progress (R459): first sample, samples so far, length, severity and the run's last mark. -/
structure Recovery where
  first : Nat
  count : Nat
  len : Nat
  severe : Bool
  code : Lane
  deriving DecidableEq, Repr

/-- The last capture armed on a channel (R450 to R458). -/
structure Capture where
  ten : Fin 256
  ilkReq : Bool
  pulseChk : Bool
  pulse : Nat
  pleat : Bool
  store : Bool
  len : Nat
  buf : Nat
  /-- The scratchpad word of the descriptor; 524,288 for a capture without one (POWER_METER, R484). -/
  desc : Nat
  /-- Instant of the first sample from tick start, in 50 ps steps. -/
  start : Nat
  tol : Nat
  /-- The offset in tq at which ARM issued, and the tick. -/
  armedAt : Nat
  tick : BitVec 48
  tickStart : Time
  /-- The capture falls under a capture basis (R250). -/
  basis : Bool
  /-- Codes delivered, newest first. -/
  got : List Lane := []
  n : Nat := 0
  under : Nat := 0
  overCnt : Nat := 0
  rcv : Nat := 0
  run : Option Run := none
  recv : Option Recovery := none
  /-- Disturbance intervals of the neighbour that this channel caused, from tick start in steps of 25 ps (R460). -/
  dist : List (Nat × Nat) := []
  /-- LASEN was off at some instant from the first to the last sample (R457). -/
  ilkBad : Bool := false
  isDone : Bool := false
  ilkOk : Bool := false
  pulseSeen : Bool := false
  rangeOk : Bool := false
  valid : Bool := false
  abandoned : Bool := false
  /-- A has passed for this capture. -/
  past : Bool := false
  deriving DecidableEq, Repr

/-- A word waiting in an ingest FIFO for its bank (R363). -/
structure IngestEnt where
  chan : Nat
  word : Nat
  mask : Nat
  data : Quadlane
  ten : Fin 256
  basis : Bool
  deriving DecidableEq, Repr

/-- A placed pulse (R463 to R465). -/
structure Pulse where
  tickStart : Time
  /-- Offset of the tick in which it was placed, and that tick's number. -/
  tick : BitVec 48
  /-- Rising edge from tick start and width, in 50 ps steps. -/
  edge : Nat
  width : Nat
  rose : Bool := false
  fell : Bool := false
  seen : Bool := false
  missed : Bool := false
  deriving DecidableEq, Repr

/-- The interlock behind its registers (R467 to R474); times in tq of its own oscillator. -/
structure IlkSt where
  /-- Discrepancy time, and T_D in ms when the discrepancy began. -/
  disc : Nat := 0
  td : Nat := 10
  /-- How long both channels have read safe. -/
  safe : Nat := 0
  /-- An accepted clear waits for the next laser-armed state (R473). -/
  block : Bool := false
  deriving DecidableEq, Repr

/-- A node of panel sense (R475 to R481). -/
structure PNode where
  base : Int := 0
  /-- Sum of the raw values of the baseline scans so far. -/
  capSum : Int := 0
  /-- Raw values of the latest consecutive scans at or below −NEG, newest first. -/
  low : List Int := []
  /-- Start of the scan in which the node became touched. -/
  since : Option Time := none
  held : Bool := false
  delta : Int := 0
  /-- Sum of the raw values of this drift window, and whether the node was untouched in all its scans (R481). -/
  sum : Int := 0
  quiet : Bool := true
  deriving DecidableEq, Repr

/-- Panel sense behind its registers. -/
structure PsSt where
  nodes : SMap PNode := []
  /-- Baseline scans still to come (R477). -/
  capture : Nat := 0
  /-- RATE in force (R475), scans of the drift window so far, and the start of the last scan. -/
  rate : Nat := 60
  window : Nat := 0
  scanStart : Time := 0
  /-- A node took a baseline under R478 in the last scan. -/
  retook : Bool := false
  /-- A frame waits to be written. -/
  frame : Bool := false
  /-- The next frame goes to OUT + 280. -/
  second : Bool := false
  deriving DecidableEq, Repr

/-- A block memory used as a FIFO (R353): the word to read next and the last word read. -/
structure FifoSt where
  head : Nat := 0
  last : Quadlane := 0
  deriving DecidableEq, Repr

/-- A flow beyond its registers (R597, R601, R623, R624). -/
structure FlowSt where
  /-- A transmit frame of the flow is held (R601). -/
  held : Bool := false
  /-- The template of a released frame, as read at its release (R601, R620). -/
  ready : Option (List Byte) := none
  /-- Failed checks in this tick (R623). -/
  bad : Nat := 0
  /-- FLDROP has been raised in this tick (R624). -/
  told : Bool := false
  /-- The running value, where RV_f shows the final value of a frame (R597, R598). -/
  run : Option Nat := none
  deriving DecidableEq, Repr

/-- A checked frame that waits until its slot holds no INGEST word (R262, R603). -/
structure SfEnt where
  flow : Nat
  /-- First scratchpad word of the slot. -/
  word : Nat
  header : Quadlane
  body : List Byte
  deriving DecidableEq, Repr

/-- An accumulation set beyond its registers (R506 to R511, R519, R534). -/
structure PSet where
  /-- The committed half. -/
  cur : Bool := false
  /-- The channel whose capture fills the unresolved working half. -/
  chan : Option Nat := none
  /-- A commit waits for the end of a job that reads the set (R519). -/
  due : Bool := false
  /-- The calibration table of a POWER_METER instance (R484, R534). -/
  cal : Option Nat := none
  deriving DecidableEq, Repr

/-- A Pleat job that runs: its slot, and the result and stream bits it ends with (R518, R536). -/
structure PJob where
  slot : Nat
  result : Nat
  bits : Nat
  deriving DecidableEq, Repr

/-- A die's Pleat (R504 to R519). -/
structure PleatSt where
  /-- The sum store; an unlisted entry is zero. -/
  sums : SMap Quadlane := []
  sets : SMap PSet := []
  /-- Sets with an output under way, oldest first, and the running job. -/
  outs : List Nat := []
  run : Option PJob := none
  deriving DecidableEq, Repr

/-- A completion that waits to be written (R168, R170). -/
structure Compl where
  cid : BitVec 16
  status : Nat
  die : Fin 4
  detail : Nat
  irq : Bool
  /-- SQ_HEAD when the command completed. -/
  sqHead : Nat := 0
  deriving DecidableEq, Repr

/-- A tenant's host queues (R163 to R171). -/
structure HostTen where
  sqBase : BitVec 64 := 0
  sqLog : Nat := 4
  sqEn : Bool := false
  sqTail : Nat := 0
  sqHead : Nat := 0
  cqBase : BitVec 64 := 0
  cqLog : Nat := 4
  cqEn : Bool := false
  cqIrq : Bool := false
  cqHead : Nat := 0
  cqTail : Nat := 0
  /-- PHASE of the next completion entry (R168). -/
  phase : Bool := true
  /-- Fetched descriptors that have not started, oldest first. -/
  cmds : List (List Word) := []
  /-- Commands that have started and not completed, and a MOVE among them (R165, R167). -/
  open_ : Nat := 0
  moving : Bool := false
  compl : List Compl := []
  deriving DecidableEq, Repr

/-- The settings a PLL took when it was enabled (R327): 0 to 3 are the PLLs, 4 and 5 the jitter-cleaning PLLs. -/
structure PllSt where
  on : Bool := false
  /-- Source A, and source B of a jitter-cleaning PLL. -/
  src : Nat := 0
  srcB : Nat := 0
  m : Nat := 1
  n : Nat := 0
  /-- O_j - 1, eight bits each, and the phases. -/
  odiv : Word := 0
  phase : Word := 0
  deriving DecidableEq, Repr

/-- A global clock network (R307, R329): the source that drives it, and a switch under way, which does not wait for the
old source when forced. -/
structure NetSt where
  src : Nat := 63
  sw : Bool := false
  force : Bool := false
  deriving DecidableEq, Repr

/-- The settings of a lane that APPLY has loaded (R553, R578). -/
structure LaneSet where
  refsel : Nat := 0
  n : Nat := 0
  frac : Nat := 0
  d : Nat := 0
  pam4 : Bool := false
  mode : Word := 0
  deriving DecidableEq, Repr

/-- A lane beyond its registers (R561 to R569). -/
structure LaneSt where
  set : LaneSet := {}
  /-- The state a transition leads to, and the single pending request (R567). -/
  toSt : Nat := 3
  pend : Option Nat := none
  /-- The exit under way uses full adaptation (R565). -/
  full : Bool := false
  /-- CTLE code, DFE taps and highest sensor reading saved at the entry to DEEP (R565). -/
  saved : Option (Nat × List Nat × Int) := none
  /-- Taps latched by a read of tap 1 and not yet read: tap number and code (R562). -/
  snap : List (Nat × Nat) := []
  /-- Transmit work came in this cap window (R569). -/
  work : Bool := false
  deriving DecidableEq, Repr

/-- One end of a Seam link (R689 to R696). -/
structure LinkSt where
  /-- 0 UP, 1 TRAINING, 2 FAILED, as SEAM.LINK_STAT_n.STATE reads. -/
  st : Nat := 1
  /-- RETRAIN started the training, and whether traffic still waits for the next tick start (1) or for the last
  acknowledgement of the long way (2) (R696). -/
  again : Bool := false
  hold : Nat := 0
  /-- Sender: the LSEQ of the next flit, the flits in the replay buffer, NAK received, and INJECT pending. -/
  lseq : BitVec 8 := 0
  unacked : Nat := 0
  replay : Bool := false
  inject : Bool := false
  /-- Receiver: the LSEQ expected next, failures of that flit, and the time of the first. -/
  expect : BitVec 8 := 0
  fails : Nat := 0
  first : Time := 0
  /-- Times of the retries on the link, newest first (R694). -/
  retries : List Time := []
  deriving DecidableEq, Repr

/-- What a die's configuration engine waits for (R742). -/
inductive CfgWait
  | till (t : Time)
  | poll (t : Time) (key : Nat) (mask v : Word)
  deriving DecidableEq, Repr

/-- A die's configuration engine (R737 to R748). -/
structure CfgDie where
  /-- Commands forwarded and not executed, oldest first (R745). -/
  q : List Instr := []
  /-- The frame pointer. -/
  fptr : Nat := 0
  wait : Option CfgWait := none
  /-- The open region section. -/
  sec : Option Nat := none
  /-- Regions declared, and a FRAMEWRITE outside a section has run (R747). -/
  decl : List Nat := []
  framed : Bool := false
  /-- IMAGEIDs received. -/
  ids : Nat := 0
  deriving DecidableEq, Repr

/-- The load that die 0's engine runs (R726 to R752). -/
structure CfgLoad where
  /-- The agreement check of R701 has been made since PORN release. -/
  checked : Bool := false
  /-- A load has begun, and not ended. -/
  started : Bool := false
  /-- 0 boot flash, 1 host memory, 2 CFG.DATA, 3 JTAG. -/
  src : Nat := 0
  /-- The header has passed, with BODY_LEN and DIGEST; the body bytes so far; the next record's index; LAST was seen. -/
  header : Bool := false
  bodyLen : Nat := 0
  digest : BitVec 256 := 0
  body : List Byte := []
  recs : Nat := 0
  last : Bool := false
  /-- Body offset of the record that was decrypted last (R750). -/
  recAt : Nat := 0
  /-- Stream bytes taken from CFG.DATA or JTAG and not yet used. -/
  bytes : List Byte := []
  /-- Command words delivered and not yet executed, and whether SYNC has run. -/
  words : List Word := []
  synced : Bool := false
  /-- The running CRC-32C of R743. -/
  crc : Nat := 0xFFFFFFFF
  /-- The die addressed, and whether a region section stands open in the stream. -/
  die : Fin 4 := 0
  open_ : Bool := false
  /-- Writes that set TIME.TICK_CTL.RUN, which wait for the release, oldest first (R741). -/
  runs : List Word := []
  /-- The release time T (R746). -/
  release : Option Time := none
  deriving DecidableEq, Repr

/-- What stalls a Yoke (R123, R140, R146). -/
inductive YWait
  | none
  /-- WAITT, until the tick offset is reached. -/
  | till (off : Nat)
  /-- RELOAD of a region from a container, until SLACK. -/
  | slack (r : Nat) (addr : Nat)
  /-- LDR or STR on another die, by the number of the remote access. -/
  | remote (id : Nat)
  deriving DecidableEq, Repr

/-- A Yoke (R114 to R140). -/
structure YokeSt where
  /-- l1 to l15. -/
  l : SMap Word := []
  pc : Nat := 0
  /-- The tick program runs: it has not reached END in this tick (R116). -/
  run : Bool := false
  wait : YWait := .none
  /-- MODE in force (R118). -/
  prog : Bool := false
  /-- No tick has started since PORN or SRST (R861). -/
  fresh : Bool := true
  restarted : Bool := false
  halted : Bool := false
  cause : Nat := 0
  passBp : Bool := false
  /-- STEP: the next instruction issues, and the Yoke halts again (R862). -/
  step : Bool := false
  /-- The mailbox, oldest first, and messages on their way to it (R138). -/
  mail : List Word := []
  mailFly : List Word := []
  deriving DecidableEq, Repr

/-- A recipe instance (R149 to R155). -/
structure RInst where
  ten : Fin 256
  cid : BitVec 16
  irq : Bool
  rcp : Nat
  /-- The parameter block in force, and one to be read at the next tick (R149, R167). -/
  block : List Word := []
  next : Option (List Word) := none
  /-- Ticks run, the last action done in this tick, and whether its DRAW succeeded (R151, R153). -/
  ticks : Nat := 0
  stage : Nat := 0
  drawn : Bool := false
  /-- The Pleat set it uses, and the step of TDR_STEP with its wait for the step's output (R155, R533). -/
  set : Option Nat := none
  step : Nat := 0
  wait : Bool := false
  /-- FRAMES, REPEATS, LOST and CHKBAD of each flow at the last report of FLOW_CHECK (R609). -/
  prev : List Nat := []
  deriving DecidableEq, Repr

/-- A region reload under way (R320, R781 to R784). -/
structure Reload where
  region : Nat
  /-- A Darner reload, as R802 says it. -/
  darner : Bool
  /-- Device address of the container. -/
  addr : Nat
  drained : Bool := false
  written : Bool := false
  late : Bool := false
  deriving DecidableEq, Repr

/-- A move of a mover channel (R371 to R374). -/
structure MoveJob where
  ten : Fin 256
  /-- The command identifier and IRQ bit of a MOVE command; none for a register-driven move. -/
  cmd : Option (BitVec 16 × Bool)
  /-- Device to host or byte space: lane to byte. -/
  out : Bool
  expanded : Bool
  /-- Device lane address, byte address, and words. -/
  lane : Nat
  byte : Nat
  len : Nat
  deriving DecidableEq, Repr

/-- A request of a scratchpad port (R322). -/
structure PortReq where
  wr : Bool
  /-- Lane offset within the die. -/
  lane : Nat
  en : Nat
  data : Quadlane
  deriving DecidableEq, Repr

/-- An access of a DRAM port that has no response yet (R323). -/
structure PortRead where
  wr : Bool
  /-- The remote access that carries it. -/
  id : Option Nat
  /-- What it obtained. -/
  data : RData
  ten : Fin 256
  deriving DecidableEq, Repr

/-- A debug access (R858): the path it came by, and its operation. -/
structure DbgAcc where
  tap : Bool
  wr : Bool
  lane : Bool
  addr : Nat
  data : BitVec 56
  deriving DecidableEq, Repr

/-- A die's TAP (R871 to R873). -/
structure TapSt where
  ir : Nat := 4
  /-- Cells of the boundary register, cell 0 first. -/
  cells : List Bool := []
  /-- The address, data, BASTED mark and STATUS of the port's last access, as Capture-DR of DBGACC loads them (R873). -/
  addr : Nat := 0
  data : BitVec 56 := 0
  basted : Bool := false
  status : Nat := 0
  deriving DecidableEq, Repr

/-- Trace at die 0 (R867 to R870, R884). -/
structure TraceSt where
  /-- Records that wait for the port, oldest first (R868). -/
  fifo : List Rec := []
  /-- Records discarded in this tick, since the last LOST packet, and whether the next ring record carries OVERFLOWED. -/
  lostTick : Nat := 0
  lostPort : Nat := 0
  overran : Bool := false
  /-- The port has started, and the packets other than IDLE since SYNC. -/
  started : Bool := false
  packets : Nat := 0
  /-- The bytes of the last packet. -/
  out : List Byte := []
  deriving DecidableEq, Repr

/-- A Darner (R772, R773). -/
structure DarnerSt where
  active : Bool := false
  start : Time := 0
  /-- The next frame, and the next word of the three memory engines. -/
  frame : Nat := 0
  bmem : Nat := 0
  cst : Nat := 0
  spad : Nat := 0
  /-- Regions whose refusal has been reported since they became pending (R781). -/
  told : List Nat := []
  deriving DecidableEq, Repr

/-- What the last read command was answered. -/
inductive Reply
  | none
  | word (v : Word)
  | bytes (l : List Byte)
  | lanes (v : Quadlane)
  | poison
  | fault
  deriving DecidableEq, Repr

/-! ### The state -/

/-- The state of one die. -/
structure DieSt where
  /-- The register file: key = window index × 2^20 + offset (R25, R158); an unlisted key reads its reset value. -/
  regs : SMap Word := []
  tb : TimeBase := {}
  tick : TickSt := {}
  /-- Records raised by the die on their way to die 0, oldest first (R81). -/
  fly : List Rec := []
  /-- Records of basted work held until their tenant's resolution (R82). -/
  heldRecs : List Rec := []
  hem : HemSt := {}
  wdog : WdogSt := {}
  /-- The lane memories by word: scratchpad word; cluster × 8192 + word; block memory × 1024 + word; Lining word. -/
  spad : SMap MWord := []
  cst : SMap MWord := []
  bmem : SMap MWord := []
  lining : SMap MWord := []
  /-- Where a scratchpad bank in transition is going: 0 ON, 1 RETAIN, 2 OFF (R360). -/
  bankTo : SMap Nat := []
  /-- Banks accessed in this cap window (R365). -/
  bankUsed : SMap Bool := []
  baste : BasteSt := {}
  dram : DramSt := {}
  /-- The Rentik clusters (R395), and their instruction stores at key 4,096 × c + bundle (R427). -/
  clusters : SMap Cluster := []
  istore : SMap (BitVec 128) := []
  /-- Bundles not listed hold zero: R751 has cleared the stores. -/
  istZero : Bool := false
  /-- The slots of the bundle that ILOAD_DATA is delivering (R429). -/
  iload : List Word := []
  /-- The bundle address of the load has run past 4,095 (R429). -/
  iloadEnd : Bool := false
  /-- Work items that ran in this tick, and how many items have been dispatched (R133). -/
  ran : List RanItem := []
  items : Nat := 0
  /-- Cluster cycles that each tenant's programs ran in the work window, in thousandths (R212). -/
  runCyc : SMap Nat := []
  /-- A halt of the Yoke has been asked for, with its cause (R861, R882). -/
  yHaltReq : Option Nat := none
  /-- Stimulus records held for their tenant's resolution (R866). -/
  stimHeld : List Rec := []
  ledger : LedgerSt := {}
  /-- The last capture of each local channel (R456), and words waiting in the ingest FIFOs (R363). -/
  caps : SMap (Option Capture) := []
  ingestQ : List IngestEnt := []
  fifos : SMap FifoSt := []
  /-- Flows beyond their registers, the flow each lane serves next, and frames in the store-and-forward buffer (R593,
  R603). -/
  flows : SMap FlowSt := []
  flowNext : SMap Nat := []
  sfq : List SfEnt := []
  pleat : PleatSt := {}
  /-- The work queues by tenant, oldest first (R133, R165). -/
  workq : SMap (List WorkItem) := []
  /-- PLLs, global networks and lanes beyond their registers. -/
  plls : SMap PllSt := []
  nets : SMap NetSt := []
  lanes : SMap LaneSt := []
  /-- The fabric reset of the die is asserted apart from SRST and FRST.HOLD (R314), and the domains whose registers have
  left every reset of R313 but the region's (R315). -/
  fabRst : Bool := true
  domRun : SMap Bool := []
  /-- HI registers that a read of their LO register has latched, by key (R27). -/
  latch : SMap (Option Word) := []
  /-- The ends of the Seam links, and of the group links 2 and 3 on die 0. -/
  links : SMap LinkSt := []
  cfg : CfgDie := {}
  /-- Data words of the configuration frames at key 40 × frame + word (R768), and the stored bits of a frame that are
  wrong: 39 for each word, data bits before check bits, then 16 of the CRC. -/
  frames : SMap Word := []
  upsets : SMap (List Nat) := []
  yoke : YokeSt := {}
  insts : SMap (Option RInst) := []
  darner : DarnerSt := {}
  /-- The reload that runs, accepted reloads that wait, and the end of their reservations (R781). -/
  reload : Option Reload := none
  reloadQ : List Reload := []
  reloadEnd : Time := 0
  /-- MOVE commands that wait for channel 0 or 1, the channel whose turn it is, and the moves that run (R371). -/
  moveQ : List MoveJob := []
  moveTurn : Nat := 0
  moves : SMap (Option MoveJob) := []
  /-- Requests held by the scratchpad ports, and accesses of the DRAM ports without a response (R322, R323). -/
  sports : SMap (List PortReq) := []
  dports : SMap (List PortRead) := []
  dbg : Option DbgAcc := none
  tap : TapSt := {}
  /-- Marks on their way to the die, oldest first (R66). -/
  marks : List Mark := []
  /-- When a rail last changed, and two flags for it: RAILOK is owed (1), and this excursion has raised RAILLOW (2)
  (R928). -/
  railAt : SMap Time := []
  railTold : SMap Nat := []
  /-- The die has stopped (R697). -/
  stopped : Bool := false
  deriving DecidableEq, Repr

/-- What holds the whole device stopped (R895, R903, R908, R248, R833), and the soft reset (R905). -/
structure StopSt where
  /-- PORN is low, or a core rail lies below its minimum (R903). -/
  held : Bool := false
  brownout : Bool := false
  thermal : Bool := false
  wdog : Bool := false
  /-- SRST is in force (R905). -/
  srst : Bool := false
  deriving DecidableEq, Repr

/-- The state of the S9: everything but the queue. -/
structure Chip where
  die : Quad DieSt
  /-- SYS.COMPAT bits 5..0 (R32, R50). -/
  compat : Nat := 0
  /-- G2MODE as latched at PORN release (R31). -/
  g2pin : Bool := false
  /-- A tick has started since the last SRST or PORN (R33, R91). -/
  ticked : Bool := false
  /-- When the first tick is to start (R87). -/
  first : Option Time := none
  /-- Accepted settings and the number of the tick at which each takes effect (R89). -/
  settings : List (BitVec 48 × Setting) := []
  /-- Records held at die 0 in the order of R80 (R81). -/
  merge : List Rec := []
  /-- Tenants whose next record carries OVERFLOWED (R85). -/
  overflowed : SMap Bool := []
  /-- The always-on log, newest first (R939). -/
  aol : List Rec := []
  resolve : ResolveSt := {}
  vbat : VbatSt := {}
  lcMove : Option LcMove := none
  /-- The WDOUT pulse in progress: tq of die 0's watchdog oscillator still to run (R832). -/
  wdout : Option Nat := none
  /-- The first word of the host service sequence has been written (R831). -/
  hostSvc : Bool := false
  stop : StopSt := {}
  /-- Remote accesses under way, oldest first, and the number of the next one. -/
  remotes : List RAcc := []
  nextId : Nat := 0
  /-- The active copies of TEN_CTL bits 7..1, in place: ATOMIC and G2MASK (R142); an unlisted tenant has 0xFC. -/
  tenActive : SMap Nat := []
  /-- The reservoir in µJ and its remainder in nJ (R196). -/
  reservoir : Nat := 0
  reservoirRem : Nat := 0
  /-- The number of the tick that began the epoch, and the E in force (R204, R229). -/
  epochTick : Nat := 0
  epochE : Nat := 64
  /-- An epoch has begun since the last SRST or PORN. -/
  epochRuns : Bool := false
  /-- Placed pulses of PULSE_0 to PULSE_3, oldest first (R465). -/
  pulses : SMap (List Pulse) := []
  ilk : IlkSt := {}
  ps : PsSt := {}
  /-- The tenants' host queues. -/
  hosts : SMap HostTen := []
  cfg : CfgLoad := {}
  trace : TraceSt := {}
  /-- The RESULT that the authentication under way ends with (R856). -/
  auth : Option Nat := none
  /-- PERST_N is low (R906). -/
  perst : Bool := false
  /-- The MSI-X table by word, and its pending bits (R158, R172). -/
  msix : SMap Word := []
  pba : SMap Bool := []
  /-- The answer to the last read command. -/
  reply : Reply := .none
  /-- The bytes the S9 has written to host memory; none at an address it has not written. -/
  hostMem : SMap (Option Byte) := []
  /-- The model's own counter of open choices taken so far (Config). -/
  free : Nat := 0
  deriving DecidableEq, Repr

/-- The state of the block: the S9, and the commands that wait for it, first in, first out. A meaning changes the S9
alone. DESIGN CHOICE, log 5. -/
structure State where
  chip : Chip
  pending : List Instr := []
  deriving DecidableEq, Repr

/-- The reasons the block can stop without a next state. The spec gives every command an effect, and no meaning
answers a fault: the spec's own faults are event records and changes of state. DEDUCED, log 12. -/
inductive Fault
  /-- Raised by no meaning. Safe: a run that ended here would claim nothing. -/
  | unused
  deriving DecidableEq, Repr

/-- The reasons a command is refused. -/
inductive Refusal
  /-- Raised by `exec` alone, for a command that has no meaning yet. Safe. -/
  | notModelled (mnemonic : String)
  deriving DecidableEq, Repr

/-- The FEATURE row of a die of an SVT9-4A of grade F with these features (R809). -/
def featureRow (featen : Nat) : BitVec 64 := BitVec.ofNat 64 (0x0FFFFFFF + featen * 2 ^ 28 + 2 ^ 36)

/-- The factory trims CAL_0 to CAL_3, or CAL_4 to CAL_7, of a die: 1.0 each (R812). -/
def trimRow : BitVec 64 := 0x4000400040004000

/-- A die's fuses with nothing programmed by the user, as sensed (R809, R812, R813). -/
def factoryHem (featen : Nat) : HemSt :=
  { rows := [(0, featureRow featen), (16, trimRow), (17, trimRow), (18, 1000)], featen := featen }

/-- The registers that show the fuses and the rails of a die (R848, R930). -/
def shownRegs (featen rails : Nat) : SMap Word :=
  [(Rf.HEM_UNITEN_UNITEN.key, 0x0FFFFFFF), (Rf.HEM_FEATEN_FEATEN.key, BitVec.ofNat 32 (featen + 2 ^ 8)),
    (Rf.PWR_RAIL_VCORE.key, BitVec.ofNat 32 rails)]

/-- A die right after PORN release. -/
def freshDie (featen rails : Nat) : DieSt := { regs := shownRegs featen rails, hem := factoryHem featen }

/-- The state right after PORN release of an SVT9-4A of grade F with intact factory fuses, nothing programmed by the
user, G2MODE low, boot flash selected and every rail in range (R31, R52, R708, R726, R754, R813, R930).
DESIGN CHOICE, log 4. -/
def Chip.reset : Chip :=
  let d0 := freshDie 0xFF 0xFFFF
  { die :=
      { q0 := { d0 with regs :=
          (Rf.ILK_CEIL_CEIL.key, 500) :: (Rf.CFG_STAT_STATE.key, 1) :: d0.regs }
        q1 := freshDie 0x9B 0xF3F7
        q2 := freshDie 0x18 0xF0F7
        q3 := freshDie 0x18 0xF0F7 } }

/-- The block right after reset: the S9 as above, and no command waits. DESIGN CHOICE, log 2. -/
def State.reset : State := { chip := Chip.reset }

end Sys2Proof.Machine
end

