-- ==== Sys2Proof/Machine/Ops.lean ====
section
/-! DEFINITION. The named operations over the state: register fields, time, presence and grants, event records. -/

namespace Sys2Proof.Machine

/-- What a meaning answers. -/
abbrev Out := Host.Outcome State Fault Refusal

/-- The outcome of a command with effect `f` on the S9: a next state with the same queue. -/
def act (s : State) (f : Chip → Chip) : Out := .next { s with chip := f s.chip }

/-! ### Bits -/

/-- Bits [lo+n-1:lo] of a word. -/
def getBits (w : Word) (lo n : Nat) : Nat := w.toNat / 2 ^ lo % 2 ^ n

/-- The word with bits [lo+n-1:lo] replaced by the low bits of `v`. -/
def putBits (w : Word) (lo n v : Nat) : Word :=
  BitVec.ofNat 32 (w.toNat - getBits w lo n * 2 ^ lo + v % 2 ^ n * 2 ^ lo)

/-- Bit `i` of a number. -/
def bit (n i : Nat) : Bool := n / 2 ^ i % 2 == 1

/-- The number with bit `i` set. -/
def setBit (n i : Nat) : Nat := if bit n i then n else n + 2 ^ i

/-- The number with bit `i` cleared. -/
def clrBit (n i : Nat) : Nat := if bit n i then n - 2 ^ i else n

/-- 1 for true. -/
def b2n (b : Bool) : Nat := if b then 1 else 0

/-- A signed number in `n` bits, two's complement. -/
def toBits (n : Nat) (i : Int) : Nat := (i % (2 ^ n : Int)).toNat

/-- The signed value of an `n`-bit code. -/
def ofBits (n v : Nat) : Int := if v % 2 ^ n < 2 ^ (n - 1) then (v % 2 ^ n : Nat) else (v % 2 ^ n : Nat) - (2 ^ n : Int)

/-- A signed number held within [lo, hi]. -/
def clampI (lo hi i : Int) : Int := if i < lo then lo else if hi < i then hi else i

/-- A number held within [lo, hi]. -/
def clampN (lo hi n : Nat) : Nat := if n < lo then lo else if hi < n then hi else n

/-- The little-endian number that bytes spell. -/
def leNat : List Byte → Nat
  | [] => 0
  | b :: bs => b.toNat + 256 * leNat bs

/-- The `n` little-endian bytes of a number. -/
def leBytes : Nat → Nat → List Byte
  | 0, _ => []
  | n + 1, v => BitVec.ofNat 8 v :: leBytes n (v / 256)

/-! ### Dies and registers -/

/-- The state of die `d`. -/
def Chip.d (s : Chip) (d : Fin 4) : DieSt := s.die.get d

/-- The state with die `d` changed. -/
def Chip.upd (s : Chip) (d : Fin 4) (f : DieSt → DieSt) : Chip := { s with die := s.die.set d (f (s.die.get d)) }

/-- The four dies. -/
def dies : List (Fin 4) := [0, 1, 2, 3]

/-- The register family that holds `off`, among those of a unit. -/
def findReg (off : Nat) : List RegSpec → Option RegSpec
  | [] => none
  | r :: rs =>
    if r.off ≤ off ∧ (if r.stride = 0 then off = r.off else (off - r.off) % r.stride = 0 ∧ (off - r.off) / r.stride < r.count)
    then some r else findReg off rs

/-- The register at key `k` (unit × 2^20 + offset). -/
def regAt (k : Nat) : Option RegSpec := findReg (k % 1048576) (regTable (k / 1048576))

/-- The reset value of the fields of a register. -/
def resetOf : List FieldSpec → Nat
  | [] => 0
  | f :: fs => f.val * 2 ^ f.lo + resetOf fs

/-- What an unlisted key of the register file reads as: the register's reset value. -/
def regReset (k : Nat) : Word :=
  match regAt k with
  | some r => BitVec.ofNat 32 (resetOf r.fields)
  | none => 0

/-- The stored word at key `k` of die `d`. -/
def Chip.reg (s : Chip) (d : Fin 4) (k : Nat) : Word := mapGet regReset (s.d d).regs k

/-- Store a word at key `k` of die `d`. -/
def Chip.setReg (s : Chip) (d : Fin 4) (k : Nat) (v : Word) : Chip :=
  s.upd d fun x => { x with regs := mapPut regReset x.regs k v }

/-- The stored value of a field. -/
def Chip.fld (s : Chip) (d : Fin 4) (f : Fld) : Nat := getBits (s.reg d f.key) f.lo f.w

/-- Store a field. -/
def Chip.setFld (s : Chip) (d : Fin 4) (f : Fld) (v : Nat) : Chip :=
  s.setReg d f.key (putBits (s.reg d f.key) f.lo f.w v)

/-- A one-bit field is 1. -/
def Chip.flag (s : Chip) (d : Fin 4) (f : Fld) : Bool := s.fld d f == 1

/-- Add to a field that counts and saturates. -/
def Chip.addFld (s : Chip) (d : Fin 4) (f : Fld) (n : Nat) : Chip :=
  s.setFld d f (min (s.fld d f + n) (2 ^ f.w - 1))

/-- A 64-bit value held in a LO and a HI register. -/
def Chip.fld64 (s : Chip) (d : Fin 4) (lo hi : Fld) : Nat := s.fld d lo + 2 ^ 32 * s.fld d hi

/-- The fields of a register that the reset `p` names, at their reset values. -/
def resetField (p : Rst → Bool) : List FieldSpec → Word → Word
  | [], w => w
  | f :: fs, w => resetField p fs (if p f.rst then putBits w f.lo f.w f.val else w)

/-- The word at key `k` after the reset `p` (R26). -/
def resetWord (p : Rst → Bool) (k : Nat) (w : Word) : Word :=
  match regAt k with
  | some r => resetField p r.fields w
  | none => w

/-- A register file after the reset `p`, but for the keys that `keep` names. -/
def resetRegs (keep : Nat → Bool) (p : Rst → Bool) (m : SMap Word) : SMap Word :=
  mapEach regReset (fun k w => if keep k then w else resetWord p k w) m

/-! ### Running and stopped -/

/-- The device runs: it is not held in reset and no class F stop is in force (R895, R903). -/
def alive (s : Chip) : Bool := !s.stop.held && !s.stop.brownout && !s.stop.thermal && !s.stop.wdog

/-- Die `d` runs: the device runs, and the die has not stopped (R697). -/
def up (s : Chip) (d : Fin 4) : Bool := alive s && !(s.d d).stopped

/-- Take an open choice: the counter of choices advances. DESIGN CHOICE, log 7. -/
def Chip.took (s : Chip) : Chip := { s with free := s.free + 1 }

/-! ### Time (R54, R62) -/

/-- Die `d`'s time base. -/
def Chip.now (s : Chip) (d : Fin 4) : Time := (s.d d).tb.now

/-- The tq since the start of die `d`'s tick. -/
def elapsed (s : Chip) (d : Fin 4) : Nat := (s.now d - (s.d d).tick.start).toNat

/-- Time `t` has come on die `d`: it lies less than half the range of the time base back. -/
def reached (s : Chip) (d : Fin 4) (t : Time) : Bool := decide ((s.now d - t).toNat < 2 ^ 63)

/-- A tick runs on die `d`. -/
def ticking (s : Chip) (d : Fin 4) : Bool := (s.d d).tick.phase != .idle

/-- The period of die `d`'s current tick: 2P when it is extended (R75). -/
def spanP (s : Chip) (d : Fin 4) : Nat :=
  let k := (s.d d).tick
  if k.extended then 2 * k.set.p else k.set.p

/-! ### Presence and grants (R8 to R16, R809) -/

/-- The units die `d` carries (R3, R4, R25). -/
def carried (d : Fin 4) (u : Nat) : Bool :=
  if u = 8 then d.val ≤ 1 else if u = 9 ∨ u = 10 ∨ u = 0x17 then d.val = 0 else decide (u < 28)

/-- The seven units that fuses can disable: ACQ, ILK, PSENSE, LANE, FLOW, CHK and DRAM (R809). -/
def fusable (u : Nat) : Bool := u == 8 || u == 9 || u == 10 || u == 12 || u == 13 || u == 14 || u == 15

/-- Unit `u` is present on die `d` (R8, R809). -/
def present (s : Chip) (d : Fin 4) (u : Nat) : Bool :=
  carried d u && (!fusable u || bit (s.d d).hem.uniten u)

/-- The unit that a feature of SYS.CAP_1 belongs to (R49). -/
def featureUnit (n : Nat) : Nat :=
  if n = 3 then 0x0C else if n = 4 then 0x0F else if n = 5 then 0x11 else if n = 6 then 0x00 else 0x08

/-- Feature `n` of SYS.CAP_1 is present on die `d` (R9, R809). -/
def feature (s : Chip) (d : Fin 4) (n : Nat) : Bool :=
  present s d (featureUnit n) && bit (s.d d).hem.featen n

/-- Tenant `t` holds the expert grant for unit `u` on die `d` (R13, R14); a grant for an absent unit grants nothing (R35). -/
def granted (s : Chip) (d : Fin 4) (u : Nat) (t : Fin 256) : Bool :=
  present s d u && (t == 0 || bit (s.fld d (Rf.SYS_GRANT_UNITS.at t.val)) u)

/-! ### Event records (R77, R81, R82, R931, R932, R939) -/

/-- Die `d`'s records carry TIME_UNCERTAIN (R59 to R61, R68, R707). -/
def uncertain (s : Chip) (d : Fin 4) : Bool :=
  (d != 0 && s.fld d Rf.TIME_STAT_STATE == 2) || (s.d d).tick.missed || s.flag 0 Rf.SEAM_GRP_STAT_UNCERTAIN

/-- The record of an event that die `d` makes now at local source `src`. -/
def mkRec (s : Chip) (d : Fin 4) (src kind : Nat) (t : Fin 256) (pay : Nat) (basted g2 : Bool) : Rec :=
  { time := s.now d, src := d.val * 1024 + src, kind := kind, ten := t, unc := uncertain s d, basted := basted, g2 := g2,
    pay := BitVec.ofNat 32 pay }

/-- Count a record of kind `k` when it is raised (R932). -/
def countKind (s : Chip) (k : Nat) : Chip := s.addFld 0 (Rf.EVT_KCOUNT_COUNT.at k) 1

/-- Put a record into the always-on log (R939). -/
def logRecord (s : Chip) (r : Rec) : Chip :=
  if s.aol.length < 32 then { s with aol := r :: s.aol }
  else { s.addFld 0 Rf.EVT_AOL_STAT_OVF 1 with aol := r :: s.aol.take 31 }

/-- Send a record towards die 0. DESIGN CHOICE, log 29. -/
def sendRec (s : Chip) (d : Fin 4) (r : Rec) : Chip :=
  (countKind s r.kind).upd d fun x => { x with fly := x.fly ++ [r] }

/-- Raise an event of die `d` at local source `src` for tenant `t`. -/
def raise (s : Chip) (d : Fin 4) (src kind : Nat) (t : Fin 256) (pay : Nat) : Chip :=
  sendRec s d (mkRec s d src kind t pay false false)

/-- Raise an event that arose from a behaviour of SYS.COMPAT: its G2 flag is set (R77). -/
def raiseG2 (s : Chip) (d : Fin 4) (src kind : Nat) (t : Fin 256) (pay : Nat) : Chip :=
  sendRec s d (mkRec s d src kind t pay false true)

/-- Raise an event from basted work: the record waits for its tenant's resolution (R82). -/
def raiseHeld (s : Chip) (d : Fin 4) (src kind : Nat) (t : Fin 256) (pay : Nat) : Chip :=
  let r := mkRec s d src kind t pay true false
  (countKind s kind).upd d fun x => { x with heldRecs := x.heldRecs ++ [r] }

/-- Raise an event of basted or plain work. -/
def raiseB (s : Chip) (d : Fin 4) (src kind : Nat) (t : Fin 256) (pay : Nat) (basted : Bool) : Chip :=
  if basted then raiseHeld s d src kind t pay else raise s d src kind t pay

/-- Raise a class F event: it goes to the always-on log only (R931, R938). -/
def raiseFatal (s : Chip) (d : Fin 4) (src kind : Nat) (pay : Nat) : Chip :=
  logRecord (countKind s kind) (mkRec s d src kind 0 pay false false)

/-- Enter a class F stop (R29, R938): the record goes to the always-on log, and records not yet written to their rings
are lost. A configuration load ends without CFGFAIL (R923), and the laser enables reach laser-off (R248, R909). -/
def fatalStop (s : Chip) (d : Fin 4) (src kind pay : Nat) (f : StopSt → StopSt) : Chip :=
  let s := (raiseFatal s d src kind pay).setFld 0 Rf.ILK_STAT_LASEN 0
  { s with
    merge := []
    stop := f s.stop
    die := s.die.map fun x => { x with fly := [], heldRecs := [] }
    cfg := { s.cfg with started := false, words := [], bytes := [], release := none, runs := [] } }

/-! ### Clusters (R395, R411, R412) -/

/-- What an unlisted cluster is. -/
def cluster0 : Nat → Cluster := fun _ => {}

/-- Cluster `c` of die `d`. -/
def Chip.cluster (s : Chip) (d : Fin 4) (c : Nat) : Cluster := mapGet cluster0 (s.d d).clusters c

/-- Replace cluster `c` of die `d`. -/
def Chip.setCluster (s : Chip) (d : Fin 4) (c : Nat) (x : Cluster) : Chip :=
  s.upd d fun y => { y with clusters := mapPut cluster0 y.clusters c x }

/-- Thousandths of a cluster cycle in a tq (R6, R223, R225). -/
def clusterRate (s : Chip) (d : Fin 4) : Nat :=
  let cap := if 2 ≤ s.fld d Rf.LEDGER_STAT_CAPLEVEL then 2 else 1
  let therm := 2 ^ min 2 (s.fld d Rf.LEDGER_STAT_THERMDIV)
  (if (s.d d).hem.grade = 0 then 1000 else 800) / max cap therm

/-- The cycles of a cluster's program since its start, in thousandths. -/
def cyclesOf (s : Chip) (d : Fin 4) (x : Cluster) : Nat := x.cyc + (s.now d - x.cycAt).toNat * clusterRate s d

/-- Bring every cluster's cycle count up to now, before the rate changes. DEDUCED, log 79. -/
def countCycles (s : Chip) (d : Fin 4) : Chip :=
  s.upd d fun y => { y with clusters := mapEach cluster0 (fun _ x =>
    if x.st = .idle then x else { x with cyc := cyclesOf s d x, cycAt := s.now d }) y.clusters }

/-- A program runs on the cluster: it issues bundles, or is halted and will. -/
def Cluster.live (x : Cluster) : Bool := x.st == .running || (x.st == .halted && !x.killed)

/-! ### Completions (R165, R168, R275) -/

/-- The host queues of tenant `t`. -/
def Chip.host (s : Chip) (t : Fin 256) : HostTen := mapGet (fun _ => {}) s.hosts t.val

/-- Replace them. -/
def Chip.setHost (s : Chip) (t : Fin 256) (x : HostTen) : Chip :=
  { s with hosts := mapPut (fun _ => {}) s.hosts t.val x }

/-- A command of tenant `t` completes: its completion waits for queue room (R168, R170). DEDUCED, log 70. -/
def complete (s : Chip) (t : Fin 256) (c : Compl) : Chip :=
  let x := s.host t
  s.setHost t { x with compl := x.compl ++ [{ c with sqHead := x.sqHead }], open_ := x.open_ - 1 }

/-- The completion of a work item whose programs have all ended is made with status `st` (R165, R168). -/
def tellItem (s : Chip) (d : Fin 4) (r : RanItem) (st : Nat) : Chip :=
  let s := s.upd d fun y => { y with ran := y.ran.map fun q => if q.id == r.id then { q with told := true } else q }
  match r.item.cmd with
  | some (cid, irq) => complete s r.item.ten { cid := cid, status := st, die := d, detail := r.detail, irq := irq }
  | none => s

/-- Items that did not run in basted mode complete when their last program ends (R165). -/
def tellPlain (s : Chip) (d : Fin 4) (id : Nat) : Chip :=
  match (s.d d).ran.find? fun r => r.id == id && r.left == 0 && !r.told && !r.basted with
  | some r => tellItem s d r r.status
  | none => s

/-- The program of cluster `c` ends: by DONE, or stopped when `killed`; `st` and `det` are the status and detail of R168
that its item takes when it has none yet (R70, R71, R411, R412, R863). -/
def endProgram (s : Chip) (d : Fin 4) (c : Nat) (killed : Bool) (st det : Nat) : Chip :=
  let x := s.cluster d c
  if x.live then
    let cyc := cyclesOf s d x
    let s := s.setCluster d c
      { x with st := if x.st = .halted then .halted else .stopping, killed := killed, haltReq := none, cyc := cyc,
               cycAt := s.now d }
    if x.handler then s
    else
      tellPlain (s.upd d fun y =>
        { y with
          ran := y.ran.map fun r =>
            if r.id == x.item then
              { r with left := r.left - 1, status := if r.status = 0 then st else r.status,
                       detail := if r.status = 0 then det else r.detail, basted := r.basted || x.basted }
            else r
          runCyc := mapPut (fun _ => 0) y.runCyc x.ten.val (mapGet (fun _ => 0) y.runCyc x.ten.val + cyc) }) d x.item
  else s

/-- The clusters of die `d` that run programs of tenant `t`. -/
def clustersOf (s : Chip) (d : Fin 4) (t : Fin 256) : List Nat :=
  ((s.d d).clusters.filter fun e => e.2.live && e.2.ten == t).map Prod.fst

/-- Repeat `f` over a list, oldest first. -/
def overAll {α : Type} (f : Chip → α → Chip) : Chip → List α → Chip
  | s, [] => s
  | s, a :: as => overAll f (f s a) as

/-- The numbers from `lo` upward, `n` of them. -/
def range (lo : Nat) : Nat → List Nat
  | 0 => []
  | n + 1 => lo :: range (lo + 1) n

/-! ### Accumulation sets and recipe instances (R151, R506, R509, R533) -/

/-- Change Pleat of a die. -/
def Chip.onPleat (s : Chip) (d : Fin 4) (f : PleatSt → PleatSt) : Chip :=
  s.upd d fun x => { x with pleat := f x.pleat }

/-- What an unlisted set is. -/
def pset0 : Nat → PSet := fun _ => {}

/-- Set `k` of die `d`. -/
def Chip.pset (s : Chip) (d : Fin 4) (k : Nat) : PSet := mapGet pset0 (s.d d).pleat.sets k

/-- Replace set `k`; its STAT.PENDING follows (R549). -/
def Chip.setPset (s : Chip) (d : Fin 4) (k : Nat) (x : PSet) : Chip :=
  (s.onPleat d fun p => { p with sets := mapPut pset0 p.sets k x }).setFld d (Rf.PLEAT_SET_STAT_PENDING.at k)
    (b2n x.chan.isSome)

/-- The working half of set `k` is discarded (R509, R510). -/
def discardSet (s : Chip) (d : Fin 4) (k : Nat) : Chip :=
  s.setPset d k { s.pset d k with chan := none, due := false }

/-- What an instance number holds when no instance runs under it. -/
def inst0 : Nat → Option RInst := fun _ => none

/-- Recipe instance `i` of die `d`. -/
def Chip.inst (s : Chip) (d : Fin 4) (i : Nat) : Option RInst := mapGet inst0 (s.d d).insts i

/-- Replace it. -/
def Chip.setInst (s : Chip) (d : Fin 4) (i : Nat) (r : Option RInst) : Chip :=
  s.upd d fun x => { x with insts := mapPut inst0 x.insts i r }

/-- Instance `i` of die `d` ends with status `st`: its set is disabled, and its completion is made (R151, R533). -/
def endInst (s : Chip) (d : Fin 4) (i st : Nat) : Chip :=
  match s.inst d i with
  | none => s
  | some r =>
    let s := s.setInst d i none
    let s := match r.set with
      | some k => discardSet (s.setFld d (Rf.PLEAT_SET_CTL_ENABLE.at k) 0) d k
      | none => s
    complete s r.ten { cid := r.cid, status := st, die := d, detail := 0, irq := r.irq }

/-- The instance numbers of die `d`, rising. -/
def instsOf (s : Chip) (d : Fin 4) : List Nat := (s.d d).insts.map Prod.fst

/-- End every instance of tenant `t` on die `d` with status `st`. -/
def endInstsOf (s : Chip) (d : Fin 4) (t : Fin 256) (st : Nat) : Chip :=
  overAll (fun s i =>
    match s.inst d i with
    | some r => if r.ten = t then endInst s d i st else s
    | none => s) s (instsOf s d)

/-- Mark tenant `t` as faulted in this tick: class T stops its work in the tick on every die (R29, R119, R190,
R442); its recipe instances end (R151). -/
def markFaulted (s : Chip) (t : Fin 256) : Chip :=
  overAll (fun s d => endInstsOf (overAll (fun s c => endProgram s d c true 4 0) s (clustersOf s d t)) d t 4)
    (s.setFld 0 (Rf.YOKE_TEN_CTL_FAULTED.at t.val) 1) dies

/-- Raise a class T fault against tenant `t`. -/
def raiseT (s : Chip) (d : Fin 4) (src kind : Nat) (t : Fin 256) (pay : Nat) (basted : Bool) : Chip :=
  markFaulted (raiseB s d src kind t pay basted) t

/-- Log a refused access (R45 to R47, R935). -/
def nogrant (s : Chip) (d : Fin 4) (t : Fin 256) (u off : Nat) (rd : Bool) : Chip :=
  raise s d 0x000 K.NOGRANT t (t.val + u % 32 * 2 ^ 8 + off / 4 % 2 ^ 18 * 2 ^ 13 + b2n rd * 2 ^ 31)

/-- Log a refused write to a register named by one of its fields. -/
def refusedWrite (s : Chip) (d : Fin 4) (t : Fin 256) (f : Fld) : Chip := nogrant s d t f.unit f.off false

/-- Raise the access fault of tenant `t` (R44, R934); `addr` is the faulting address. DEDUCED, log 45. -/
def accFault (s : Chip) (d : Fin 4) (src : Nat) (t : Fin 256) (addr : Nat) (basted : Bool := false) : Chip :=
  raiseT s d src K.ACCFLT t addr basted

/-- Raise the ABSENT fault (R43): `feat` is the feature bit number, or 0xFF when the whole unit is absent. -/
def absentFault (s : Chip) (d : Fin 4) (src : Nat) (t : Fin 256) (u feat : Nat) (at_ : Fin 4) (basted : Bool := false) :
    Chip :=
  raiseT s d src K.ABSENT t (u + feat * 2 ^ 8 + at_.val * 2 ^ 16) basted

/-! ### Writes to a register that has a behaviour of its own (R8, R15, R45) -/

/-- Run `k` for a write by tenant `t` to the register of field `f` on die `d`: nothing happens on a die that does not
run, a write to an absent unit is ignored (R8), and a write without the grant is ignored and logged (R45). -/
def whenGranted (s : Chip) (d : Fin 4) (t : Fin 256) (f : Fld) (k : Chip → Chip) : Chip :=
  if !up s d || !present s d f.unit then s
  else if granted s d f.unit t then k s else refusedWrite s d t f

/-- Run `k` for a write that only the supervisor may make; a grant does not permit it. -/
def whenSuper (s : Chip) (d : Fin 4) (t : Fin 256) (f : Fld) (k : Chip → Chip) : Chip :=
  if !up s d || !present s d f.unit then s
  else if t = 0 then k s else refusedWrite s d t f

/-- Run `k` on a die that runs. DESIGN CHOICE, log 11. -/
def whenUp (s : Chip) (d : Fin 4) (k : Chip → Chip) : Chip := if up s d then k s else s

/-! ### Tenants and the G2 behaviours (R32, R142) -/

/-- Tenant `t` is enabled (R190); the supervisor always is. -/
def tenEnabled (s : Chip) (t : Fin 256) : Bool := t == 0 || s.flag 0 (Rf.YOKE_TEN_CTL_ENABLE.at t.val)

/-- The active copy of TEN_CTL bits 7..1 of tenant `t` (R142). -/
def activeCtl (s : Chip) (t : Fin 256) : Nat := mapGet (fun _ => 0xFC) s.tenActive t.val

/-- Tenant `t` is tick-atomic in this tick (R142). -/
def tenAtomic (s : Chip) (t : Fin 256) : Bool := bit (activeCtl s t) 1

/-- Bit `k` of SYS.COMPAT as it acts for tenant `t`: masked by G2MASK (R32, R190). -/
def compatFor (s : Chip) (t : Fin 256) (k : Nat) : Bool := bit s.compat k && bit (activeCtl s t) (2 + k)

/-- A class T fault of tenant `t` has occurred in this tick (R190). -/
def tenFaulted (s : Chip) (t : Fin 256) : Bool := s.flag 0 (Rf.YOKE_TEN_CTL_FAULTED.at t.val)

end Sys2Proof.Machine
end

