-- ==== Sys2Proof/Machine/CfgFail.lean ====
section
/-! DEFINITION. The end of a configuration load that fails (R735, R750, R752, R764), for the units that can end one. -/

namespace Sys2Proof.Machine

/-- A configuration load runs: it has begun and has neither ended nor been released (R746, R750). -/
def cfgLoading (s : Chip) : Bool := s.fld 0 Rf.CFG_STAT_STATE == 1 && s.cfg.started

/-- The first word of die 0's Lining that holds the key of a load (R735). -/
abbrev keyWord0 : Nat := 8187

/-- A load with KEYSEL 1 or 2 holds the key in words 8,187 to 8,191 of die 0's Lining, and some of the `n` words from `w`
of die `d`'s Lining is one of them (R735). -/
def keyWords (s : Chip) (d : Fin 4) (w n : Nat) : Bool :=
  d == 0 && cfgLoading s && s.cfg.header && s.fld 0 Rf.CFG_STAT_KEYSEL != 0 && decide (keyWord0 < w + n)

/-- Zero the key words (R735). -/
def zeroKey (s : Chip) : Chip :=
  s.upd 0 fun x => { x with lining := x.lining.filter fun e => e.1 < keyWord0 }

/-- Every die's engine stops. -/
def stopEngines (s : Chip) : Chip :=
  { s with die := s.die.map fun x => { x with cfg := { x.cfg with q := [], wait := none, sec := none } } }

/-- The load fails with a cause that die `d` found (R750, R764). -/
def cfgFail (s : Chip) (d : Fin 4) (cause : Nat) : Chip :=
  let s := stopEngines (if s.fld 0 Rf.CFG_STAT_KEYSEL = 0 then s else zeroKey s)
  let s := (s.setFld 0 Rf.CFG_STAT_STATE 3).setFld 0 Rf.CFG_STAT_CAUSE cause
  let s := (s.setFld 0 Rf.CFG_STAT_FAILDIE d.val).setFld 0 Rf.CFG_FAILPOS_POS s.cfg.recAt
  let pay := cause + s.fld 0 Rf.CFG_STAT_SLOT * 2 ^ 4 + s.fld 0 Rf.CFG_STAT_FALLBACK * 2 ^ 5 + d.val * 2 ^ 6 +
    s.cfg.recAt / 16 % 2 ^ 24 * 2 ^ 8
  let s := { s with cfg := { s.cfg with started := false, words := [], bytes := [], release := none, runs := [] } }
  raise s 0 0x230 K.CFGFAIL 0 pay

/-- The load ends with a cause, when one runs. -/
def cfgEndIf (s : Chip) (d : Fin 4) (cause : Nat) : Chip := if cfgLoading s then cfgFail s d cause else s

/-- A Lining wipe that begins during a load fails it (R752, R760). -/
def cfgWiped (s : Chip) : Chip := cfgEndIf s 0 14

end Sys2Proof.Machine
end

