-- ==== Sys2Proof/Machine/Dram.lean ====
section
/-! DEFINITION. The DRAM controller of a die: address mapping, the chipkill code, the merge buffer, reads, regulators,
refresh and training (R629 to R688), and the meanings of the DRAM commands. -/

namespace Sys2Proof.Machine

/-! ### Capacity and mapping (R631 to R636) -/

/-- Row bits of the channel (R631). -/
def rowBits (s : Chip) (d : Fin 4) : Nat := 14 + s.fld d Rf.DRAM_GEOM_ROWBITS

/-- The channel is in chipkill organisation (R630). -/
def chipkill (s : Chip) (d : Fin 4) : Bool := s.flag d Rf.DRAM_GEOM_CHIPKILL

/-- Installed capacity in bytes; 0 while EN is 0 (R631). -/
def dramCap (s : Chip) (d : Fin 4) : Nat :=
  if s.flag d Rf.DRAM_CTL_EN && present s d 0x0F then
    (1 + s.fld d Rf.DRAM_GEOM_RANKS2) * 2 ^ rowBits s d * 65536
  else 0

/-- Exclusive-or of the low `n` bits of a number. -/
def parity : Nat → Nat → Bool
  | 0, _ => false
  | n + 1, v => (v % 2 == 1) != parity n (v / 2)

/-- The bit a mask selects from an offset (R634). -/
def maskBit (mask off : Nat) : Bool := parity 27 (Nat.land mask (off / 128))

/-- Bank bit `i` of an offset (R634, R636). -/
def bankBit (s : Chip) (d : Fin 4) (i off : Nat) : Bool :=
  if bit s.compat 5 then bit off (13 + i) != bit off (16 + i) else maskBit (s.fld d (Rf.DRAM_BMASK_MASK.at i)) off

/-- The physical location of a DRAM-window offset: rank, row, bank and byte within the row (R633).
DEDUCED, log 142. -/
def physOf (s : Chip) (d : Fin 4) (off : Nat) : Nat :=
  let rb := rowBits s d
  let bank := b2n (bankBit s d 0 off) + 2 * b2n (bankBit s d 1 off) + 4 * b2n (bankBit s d 2 off)
  let rank := if s.flag d Rf.DRAM_GEOM_RANKS2 then
      (if bit s.compat 5 then b2n (bit off (16 + rb)) else b2n (maskBit (s.fld d Rf.DRAM_RMASK_MASK) off))
    else 0
  (((rank * 2 ^ rb + off / 65536 % 2 ^ rb) * 8) + bank) * 8192 + off % 8192

/-- Every bit of `mask` in a list of offset-bit numbers is 0. -/
def maskClear (mask : Nat) : List Nat → Bool
  | [] => true
  | n :: ns => !bit mask (n - 7) && maskClear mask ns

/-- The masks make the mapping one-to-one (R635). -/
def masksOk (s : Chip) (d : Fin 4) : Bool :=
  let rb := rowBits s d
  let two := s.flag d Rf.DRAM_GEOM_RANKS2
  let m := fun i => s.fld d (Rf.DRAM_BMASK_MASK.at i)
  let r := s.fld d Rf.DRAM_RMASK_MASK
  let top := 16 + rb + b2n two
  let high := fun (v : Nat) => decide (v < 2 ^ (top - 7))
  let rankBase := if two then [16 + rb] else []
  bit (m 0) 6 && bit (m 1) 7 && bit (m 2) 8 &&
  maskClear (m 0) ([14, 15] ++ rankBase) && maskClear (m 1) ([13, 15] ++ rankBase) &&
  maskClear (m 2) ([13, 14] ++ rankBase) && high (m 0) && high (m 1) && high (m 2) &&
  (!two || (bit r (9 + rb) && maskClear r [13, 14, 15] && high r))

/-! ### The chipkill code (R637 to R643) -/

/-- Multiplication by α = 0x02 in GF(2^8) with polynomial 0x11D (R637). -/
def gfDouble (a : Nat) : Nat := if a < 128 then 2 * a else Nat.xor (2 * a) 0x11D

/-- Multiplication in GF(2^8); `n` bits of `b` are taken. -/
def gfMul : Nat → Nat → Nat → Nat
  | 0, _, _ => 0
  | n + 1, a, b => Nat.xor (if b % 2 = 1 then a else 0) (gfMul n (gfDouble a) (b / 2))

/-- One step of the division by g(x): the four-symbol remainder (r_3, r_2, r_1, r_0) after one more data byte (R637). -/
def rsStep (r : Nat × Nat × Nat × Nat) (b : Nat) : Nat × Nat × Nat × Nat :=
  let f := Nat.xor r.1 b
  (Nat.xor r.2.1 (gfMul 8 f 0x0F), Nat.xor r.2.2.1 (gfMul 8 f 0x36), Nat.xor r.2.2.2 (gfMul 8 f 0x78), gfMul 8 f 0x40)

/-- The check symbols (r_3, r_2, r_1, r_0) of a granule's data bytes (R638). -/
def rsCheck (data : List Byte) : Nat × Nat × Nat × Nat := data.foldl (fun r b => rsStep r b.toNat) (0, 0, 0, 0)

/-- The chip that carries the symbol at coefficient `p` of the codeword (R632, R638). -/
def chipOf (p : Nat) : Nat :=
  if p = 3 then 8 else if p = 2 then 9 else if p = 1 then 8 else if p = 0 then 9 else (19 - p) % 8

/-- The wrong symbols of granule number `i` of a request: each is granule × 5,120 + coefficient × 256 + error value. -/
def errsOf (errs : List Nat) (i : Nat) : List (Nat × Nat) :=
  (errs.filter fun e => e / 5120 == i && e % 256 != 0).map fun e => (e / 256 % 20, e % 256)

/-- The list without repeats. -/
def dedup : List Nat → List Nat
  | [] => []
  | a :: as => if as.contains a then dedup as else a :: dedup as

/-- What a decoder makes of a codeword (R639, R641, R643). -/
inductive Decoded | clean | corrected | bad | mis
  deriving DecidableEq, Repr

/-- The decoder's result for error symbols `e`; the open choice of R639 and R641 is Config's. -/
def decodeErrs (s : Chip) (d : Fin 4) (e : List (Nat × Nat)) : Decoded :=
  let marked := s.flag d Rf.DRAM_MARK_VALID
  let chip := s.fld d Rf.DRAM_MARK_CHIP
  let others := e.filter fun x => !(marked && chipOf x.1 == chip)
  if e.isEmpty then .clean
  else if others.length ≤ (if marked then 1 else 2) then .corrected
  else if Config.freeBool s.free then .bad else .mis

/-! ### Contents -/

/-- The byte at a physical location. -/
def cellAt (x : DramSt) (d : Fin 4) (k : Nat) : Byte :=
  match mapGet (fun _ => none) x.cells k with
  | some b => b
  | none => if x.zeroed then 0 else Config.dramPowerOn (4 * x.gen + d.val) k

/-- The sixteen bytes of physical granule `g`. -/
def granBytes (s : Chip) (d : Fin 4) (g : Nat) : List Byte :=
  (range (16 * g) 16).map fun k => cellAt (s.d d).dram d k

/-- A byte of granule `g` has not been written since INIT. DESIGN CHOICE, log 141. -/
def granOpen (s : Chip) (d : Fin 4) (g : Nat) : Bool :=
  !(s.d d).dram.zeroed && (range (16 * g) 16).any fun k => (mapGet (fun _ => none) (s.d d).dram.cells k).isNone

/-- Change the DRAM controller of die `d`. -/
def Chip.onDram (s : Chip) (d : Fin 4) (f : DramSt → DramSt) : Chip :=
  s.upd d fun x => { x with dram := f x.dram }

/-- Store bytes from physical location `k` on. -/
def putCells (x : DramSt) : Nat → List Byte → DramSt
  | _, [] => x
  | k, b :: bs => putCells { x with cells := mapPut (fun _ => none) x.cells k (some b) } (k + 1) bs

/-- Granule `g` holds the poison pattern. -/
def granPoisoned (s : Chip) (d : Fin 4) (g : Nat) : Bool := mapGet (fun _ => false) (s.d d).dram.poison g

/-- Write all sixteen bytes of granule `g`: its poison clears and its merge entry is discarded (R645, R646, R779). -/
def writeGran (s : Chip) (d : Fin 4) (g : Nat) (bs : List Byte) : Chip :=
  s.onDram d fun x =>
    let y := putCells x (16 * g) bs
    { y with poison := mapPut (fun _ => false) y.poison g false, merge := y.merge.filter fun e => e.gran != g }

/-- Write the poison pattern into granule `g` (R643). -/
def poisonGran (s : Chip) (d : Fin 4) (g : Nat) : Chip :=
  s.onDram d fun x => { x with poison := mapPut (fun _ => false) x.poison g true }

/-! ### Events (R640, R642, R681 to R685) -/

/-- The payload of R681, and the last address registers. -/
def dramEvent (s : Chip) (d : Fin 4) (kind chip syms src off : Nat) : Chip :=
  let s := ((((s.setFld d Rf.DRAM_ERR_LO_ADDR (off / 16)).setFld d Rf.DRAM_ERR_HI_ADDR (off / 2 ^ 32)).setFld d
    Rf.DRAM_ERR_HI_CHIP chip).setFld d Rf.DRAM_ERR_HI_VALID 1)
  raise s d 0x040 kind 0 (chip + syms * 16 + src * 64 + off / 1024 % 2 ^ 24 * 256)

/-- Count a correction against chip `c` and mark the chip at its 16th within 1,000,000,000 tq (R640, R642, R671). -/
def countChip (s : Chip) (d : Fin 4) (c : Nat) : Chip :=
  let times := (s.now d :: mapGet (fun _ => []) (s.d d).dram.marks c).take 16
  let s := (s.onDram d fun x => { x with marks := mapPut (fun _ => []) x.marks c times }).addFld d
    (Rf.DRAM_CHIPCE_CE.at c) 1
  let full := decide (times.length = 16) && decide ((s.now d - times.getLastD 0).toNat ≤ 1000000000)
  if full then
    if s.flag d Rf.DRAM_MARK_VALID then
      (if s.fld d Rf.DRAM_MARK_CHIP == c then s
       else (raise s d 0x040 K.DRCHIP2 0 c).onDram d fun x => { x with marks := mapPut (fun _ => []) x.marks c [] })
    else
      let s := (s.setFld d Rf.DRAM_MARK_CHIP c).setFld d Rf.DRAM_MARK_VALID 1
      raise (s.onDram d fun x => { x with marks := mapPut (fun _ => []) x.marks c [] }) d 0x040 K.DRMARK 0 c
  else s

/-- A codeword was corrected (R640, R682). -/
def corrected (s : Chip) (d : Fin 4) (e : List (Nat × Nat)) (src off : Nat) : Chip :=
  let chips := dedup (e.map fun x => chipOf x.1)
  let chip := if chips.length = 1 then chips.headD 0 else 15
  let s := dramEvent (s.addFld d Rf.DRAM_CE_COUNT_CE 1) d K.DRCE chip (min 2 e.length) src off
  overAll (fun s c => countChip s d c) s chips

/-- A codeword was miscorrected (R639, R641): its data and the chips counted are open values. -/
def miscorrected (s : Chip) (d : Fin 4) (g src off : Nat) : Chip :=
  let w := (Config.freeWord s.free).toNat
  let s := s.took
  let bs := (range 0 16).map fun i => BitVec.ofNat 8 (Config.freeWord (s.free + i)).toNat
  let s := writeGran { s with free := s.free + 16 } d g bs
  countChip (dramEvent (s.addFld d Rf.DRAM_CE_COUNT_CE 1) d K.DRCE (w % 10) (1 + w / 16 % 2) src off) d (w % 10)

/-- A granule was found uncorrectable: the poison pattern is written and DRUE logged (R683, R684). -/
def uncorrectable (s : Chip) (d : Fin 4) (g src off : Nat) : Chip :=
  dramEvent ((poisonGran s d g).addFld d Rf.DRAM_UE_COUNT_UE 1) d K.DRUE 15 3 src off

/-- Decode granule `g` of a read: the state after its events, and whether its data is good. `src` is 0 for a demand
read, 1 for a merge flush, 2 for patrol scrub (R681). DESIGN CHOICE, log 140. -/
def decodeGran (s : Chip) (d : Fin 4) (g src off : Nat) (e : List (Nat × Nat)) : Chip × Bool :=
  if !chipkill s d then (s, true)
  else if granPoisoned s d g then
    (if src = 0 then s else dramEvent (s.addFld d Rf.DRAM_UE_COUNT_UE 1) d K.DRUE 15 3 src off, false)
  else if granOpen s d g && Config.freeBool s.free then (uncorrectable s.took d g src off, false)
  else
    let s := if granOpen s d g then s.took else s
    match decodeErrs s d e with
    | .clean => (s, true)
    | .corrected => (corrected s d e src off, true)
    | .bad => (uncorrectable s.took d g src off, false)
    | .mis => (miscorrected s.took d g src off, true)

/-! ### The merge buffer (R645 to R649, R670, R676) -/

/-- The bytes of an entry placed over old bytes. -/
def mergeBytes : List (Option Byte) → List Byte → List Byte
  | some b :: es, _ :: os => b :: mergeBytes es os
  | none :: es, o :: os => o :: mergeBytes es os
  | _, os => os

/-- Flush one entry (R648, R649). -/
def flushEntry (s : Chip) (d : Fin 4) (errs : List Nat) (e : MergeEnt) : Chip :=
  let s := s.onDram d fun x => { x with merge := x.merge.filter fun m => m.gran != e.gran }
  if chipkill s d then
    let r := decodeGran s d e.gran 1 e.off (errsOf errs (e.gran % 8))
    if r.2 then writeGran r.1 d e.gran (mergeBytes e.bytes (granBytes r.1 d e.gran)) else r.1
  else s.onDram d fun x => putCells x (16 * e.gran) (mergeBytes e.bytes (granBytes s d e.gran))

/-- Flush every entry of one burst (R648). -/
def flushBurst (s : Chip) (d : Fin 4) (b : Nat) (errs : List Nat) : Chip :=
  overAll (fun s e => flushEntry s d errs e) s ((s.d d).dram.merge.filter fun e => e.gran / 8 == b)

/-- Flush every entry held (R647, R675). -/
def fenceFlush (s : Chip) (d : Fin 4) : Chip :=
  overAll (fun s e => if (s.d d).dram.merge.contains e then flushBurst s d (e.gran / 8) [] else s) s (s.d d).dram.merge

/-- The bytes at position `i` onward of sixteen positions. -/
def placeBytes (i : Nat) (bs : List Byte) : List (Option Byte) :=
  (List.replicate i none ++ bs.map some ++ List.replicate 16 none).take 16

/-- New positions over old ones. -/
def overlay : List (Option Byte) → List (Option Byte) → List (Option Byte)
  | some b :: ns, _ :: os => some b :: overlay ns os
  | none :: ns, o :: os => o :: overlay ns os
  | _, os => os

/-- A partial write of one granule goes to the merge buffer (R645, R646, R670). -/
def mergeWrite (s : Chip) (d : Fin 4) (g off i : Nat) (bs : List Byte) : Chip :=
  let new := placeBytes i bs
  match (s.d d).dram.merge.find? fun e => e.gran == g with
  | some e =>
    let both := overlay new e.bytes
    if both.all Option.isSome then writeGran s d g (both.map fun b => b.getD 0)
    else s.onDram d fun x => { x with merge := x.merge.map fun m => if m.gran == g then { m with bytes := both } else m }
  | none =>
    let s := match (s.d d).dram.merge with
      | e :: _ => if (s.d d).dram.merge.length < 64 then s else flushBurst s d (e.gran / 8) []
      | [] => s
    s.onDram d fun x => { x with merge := x.merge ++ [{ gran := g, off := off, bytes := new, born := s.now d }] }

/-- Write bytes at a DRAM-window offset; the first argument bounds the number of granules (R645). -/
def dramPut : Nat → Chip → Fin 4 → Nat → List Byte → Chip
  | 0, s, _, _, _ => s
  | n + 1, s, d, off, bs =>
    if bs.isEmpty then s
    else
      let i := off % 16
      let part := bs.take (16 - i)
      let g := physOf s d off / 16
      let s := if part.length = 16 then writeGran s d g part else mergeWrite s d g (off - i) i part
      dramPut n s d (off + part.length) (bs.drop (16 - i))

/-- Write bytes at a DRAM-window offset that lies in installed memory. -/
def dramWriteBytes (s : Chip) (d : Fin 4) (off : Nat) (bs : List Byte) : Chip :=
  dramPut (bs.length / 16 + 2) s d off bs

/-- The bytes with the error values of a plain channel applied (R643: no read of one is uncorrectable). -/
def applyErrs (e : List (Nat × Nat)) (bs : List Byte) : List Byte :=
  (bs.zip (range 0 16)).map fun x =>
    x.1 ^^^ BitVec.ofNat 8 ((e.filter fun y => y.1 + x.2 == 19).foldl (fun a y => Nat.xor a y.2) 0)

/-- Read `n` granules from a DRAM-window offset that is a multiple of 16: the bytes, and whether any granule was
poisoned or uncorrectable; such a granule reads as zeros (R647, R650, R683). -/
def readGrans : Nat → Chip → Fin 4 → Nat → Nat → List Nat → Chip × List Byte × Bool
  | 0, s, _, _, _, _ => (s, [], false)
  | n + 1, s, d, off, i, errs =>
    let g := physOf s d off / 16
    let s := if (s.d d).dram.merge.any fun e => e.gran == g then flushBurst s d (g / 8) [] else s
    let r := decodeGran s d g 0 off (errsOf errs i)
    let bs := if r.2 then (if chipkill s d then granBytes r.1 d g else applyErrs (errsOf errs i) (granBytes r.1 d g))
      else List.replicate 16 0
    let rest := readGrans n r.1 d (off + 16) (i + 1) errs
    (rest.1, bs ++ rest.2.1, !r.2 || rest.2.2)

/-- Read `n` bytes at a DRAM-window offset. -/
def dramReadBytes (s : Chip) (d : Fin 4) (off n : Nat) (errs : List Nat) : Chip × List Byte × Bool :=
  if n = 0 then (s, [], false)
  else
    let first := off / 16
    let r := readGrans ((off + n - 1) / 16 - first + 1) s d (16 * first) 0 errs
    (r.1, (r.2.1.drop (off % 16)).take n, r.2.2)

/-- Write the bytes that are there of a list of optional bytes. -/
def dramPutSome : Chip → Fin 4 → Nat → List (Option Byte) → Chip
  | s, _, _, [] => s
  | s, d, off, b :: bs =>
    match b with
    | some v => dramPutSome (dramWriteBytes s d off [v]) d (off + 1) bs
    | none => dramPutSome s d (off + 1) bs

/-- A request of a unit of the device wakes a channel in self-refresh (R662). -/
def wakeDram (s : Chip) (d : Fin 4) : Chip :=
  if s.flag d Rf.DRAM_STAT_IN_SR then s.setFld d Rf.DRAM_CTL_SR 0 else s

/-- A read by a unit of the device: no bytes where any of them is poisoned. -/
def dramFetch (s : Chip) (d : Fin 4) (off n : Nat) : Chip × Option (List Byte) :=
  let r := dramReadBytes (wakeDram s d) d off n []
  (r.1, if r.2.2 then none else some r.2.1)

/-- A write by a unit of the device. -/
def dramStore (s : Chip) (d : Fin 4) (off : Nat) (bs : List (Option Byte)) : Chip :=
  if bs.all Option.isSome then dramWriteBytes (wakeDram s d) d off (bs.map fun b => b.getD 0)
  else dramPutSome (wakeDram s d) d off bs

/-! ### Regulators and held requests (R655, R660, R662, R672) -/

/-- The settings of port `p` in force. -/
def portWord (s : Chip) (d : Fin 4) (p : Nat) : Word :=
  mapGet (fun _ => regReset (Rf.DRAM_REG_CTL_EN.at 0).key) (s.d d).dram.inForce p

/-- The ceiling of port `p`: BURST × 8,000. -/
def portCeiling (s : Chip) (d : Fin 4) (p : Nat) : Nat := getBits (portWord s d p) 16 13 * 8000

/-- Port `p` is regulated. -/
def portOn (s : Chip) (d : Fin 4) (p : Nat) : Bool := getBits (portWord s d p) 31 1 == 1

/-- The token count of port `p`; an unregulated port reads its ceiling. -/
def portTokens (s : Chip) (d : Fin 4) (p : Nat) : Nat :=
  if portOn s d p then mapGet (fun _ => 0) (s.d d).dram.tokens p else portCeiling s d p

/-- What a request of `n` bytes costs (R655). -/
def reqCost (n : Nat) : Nat := 125 * ((n + 15) / 16 * 16)

/-- The channel serves requests: it is not busy and not in self-refresh. -/
def channelFree (s : Chip) (d : Fin 4) : Bool := !s.flag d Rf.DRAM_STAT_BUSY && !s.flag d Rf.DRAM_STAT_IN_SR

/-- Serve an admitted request. DEDUCED, log 144. -/
def serveReq (s : Chip) (d : Fin 4) (q : DramReq) : Chip :=
  let s := if portOn s d q.port then
      s.onDram d fun x => { x with tokens := mapPut (fun _ => 0) x.tokens q.port (portTokens s d q.port - reqCost q.n) }
    else s
  if q.wr then dramWriteBytes s d q.off q.data
  else
    let r := dramReadBytes s d q.off q.n q.errs
    { r.1 with reply := if r.2.2 then .poison else .bytes r.2.1 }

/-- Admit the held requests that can go, oldest first: a held request holds those behind it on its port. -/
def admitHeld : Chip → Fin 4 → List Nat → List DramReq → Chip
  | s, _, _, [] => s
  | s, d, blocked, q :: qs =>
    if channelFree s d && !blocked.contains q.port &&
        (!portOn s d q.port || decide (reqCost q.n ≤ portTokens s d q.port)) then
      admitHeld (serveReq (s.onDram d fun x => { x with held := x.held.erase q }) d q) d blocked qs
    else admitHeld s d (q.port :: blocked) qs

/-- Try every held request. -/
def admitAll (s : Chip) (d : Fin 4) : Chip := admitHeld s d [] (s.d d).dram.held

/-- Present a request at its port (R655, R662). DESIGN CHOICE, log 143. -/
def presentReq (s : Chip) (d : Fin 4) (q : DramReq) : Chip :=
  let s := s.onDram d fun x => { x with held := x.held ++ [q] }
  if s.flag d Rf.DRAM_STAT_IN_SR then s.setFld d Rf.DRAM_CTL_SR 0 else admitAll s d

/-- DRAM_READ (R650, R654, R683): a read of `n` bytes at a port. An offset outside installed memory is an access
fault (R20, R38). -/
def dramRead (d : Fin 4) (port : Fin 16) (off : BitVec 38) (n : Nat) (errs : List Nat) (s : Chip) : Chip :=
  whenUp s d fun s =>
    if off.toNat + n ≤ dramCap s d then
      presentReq s d { port := port.val, wr := false, off := off.toNat, n := n, data := [], errs := errs }
    else { accFault s d 0x040 0 off.toNat with reply := .fault }

/-- DRAM_WRITE (R645, R646, R650). -/
def dramWrite (d : Fin 4) (port : Fin 16) (off : BitVec 38) (data : List Byte) (s : Chip) : Chip :=
  whenUp s d fun s =>
    if off.toNat + data.length ≤ dramCap s d then
      presentReq s d { port := port.val, wr := true, off := off.toNat, n := data.length, data := data, errs := [] }
    else accFault s d 0x040 0 off.toNat

/-- The data rate of the channel in MT/s (R629). -/
def dataRate (s : Chip) (d : Fin 4) : Nat :=
  match s.fld d Rf.DRAM_GEOM_RATE with
  | 0 => 1066
  | 1 => 1600
  | 2 => 2133
  | 3 => 2667
  | 4 => 3200
  | 5 => 3733
  | _ => 4266

/-- The age of a merge entry in controller cycles (R629, R646). -/
def entryAge (s : Chip) (d : Fin 4) (e : MergeEnt) : Nat := (s.now d - e.born).toNat * dataRate s d / 8000

/-- MERGE_FLUSH (R647, R648, R670): the entry of granule `g` has reached age 512. -/
def mergeFlush (d : Fin 4) (g : Nat) (errs : List Nat) (s : Chip) : Chip :=
  whenUp s d fun s =>
    if (s.d d).dram.merge.any fun e => e.gran == g && decide (512 ≤ entryAge s d e) then flushBurst s d (g / 8) errs
    else s

/-- Refill port `p` (R655): a written setting takes effect, and the count rises to at most the ceiling. -/
def refillPort (s : Chip) (d : Fin 4) (p : Nat) : Chip :=
  let w := s.reg d (Rf.DRAM_REG_CTL_EN.at p).key
  let was := portOn s d p
  let old := portTokens s d p
  let ceil := getBits w 16 13 * 8000
  let t := if getBits w 31 1 = 1 ∧ !was then ceil else min ceil (old + 128 * getBits w 0 16)
  s.onDram d fun x =>
    { x with inForce := mapPut (fun _ => regReset (Rf.DRAM_REG_CTL_EN.at 0).key) x.inForce p w
             tokens := mapPut (fun _ => 0) x.tokens p (if getBits w 31 1 = 1 then t else 0) }

/-- REGULATOR_REFILL (R655, R672): at a multiple of 64 tq. -/
def regulatorRefill (d : Fin 4) (s : Chip) : Chip :=
  whenUp s d fun s =>
    if (s.now d).toNat % 64 = 0 then admitAll (overAll (fun s p => refillPort s d p) s (range 0 16)) d else s

/-- REFRESH_DUE (R657, R658, R677): a refresh of one bank waits while a real-time request to the bank is queued; the
8th waiting refresh is issued at once. DEDUCED, log 146. -/
def refreshDue (d : Fin 4) (rank : Fin 2) (bank : Fin 8) (rtQueued : Bool) (s : Chip) : Chip :=
  whenUp s d fun s =>
    let k := 8 * rank.val + bank.val
    let w := mapGet (fun _ => 0) (s.d d).dram.waiting k + 1
    let w := if rtQueued then (if 8 ≤ w then 7 else w) else 0
    s.onDram d fun x => { x with waiting := mapPut (fun _ => 0) x.waiting k w }

/-- The refresh multiplier of a code (R657). -/
def refreshMult (c : Nat) : Nat := if c ≤ 3 then 1 else if c = 4 then 2 else 4

/-- DRHOT for a new code 0b110 or 0b111 (R657, R687). -/
def hotCode (s : Chip) (d : Fin 4) (rank old new : Nat) : Chip :=
  if old ≠ new ∧ 6 ≤ new then raise s d 0x040 K.DRHOT 0 (new + 8 * rank) else s

/-- MR4_POLL (R657, R687): the refresh-rate codes of the ranks. -/
def mr4Poll (d : Fin 4) (c0 c1 : BitVec 3) (s : Chip) : Chip :=
  whenUp s d fun s =>
    let two := s.flag d Rf.DRAM_GEOM_RANKS2
    let m := if two then max (refreshMult c0.toNat) (refreshMult c1.toNat) else refreshMult c0.toNat
    let s := hotCode s d 0 (s.d d).dram.code0 c0.toNat
    let s := if two then hotCode s d 1 (s.d d).dram.code1 c1.toNat else s
    (s.onDram d fun x => { x with code0 := c0.toNat, code1 := if two then c1.toNat else x.code1 }).setFld d
      Rf.DRAM_STAT_MULT m

/-- The die's highest sensor reading in units of 0.25 °C (R224). -/
def highestTemp (s : Chip) (d : Fin 4) : Int :=
  ((range 0 8).map fun k => ofBits 12 (s.fld d (Rf.LEDGER_TEMP_TEMP.at k))).foldl max (-2048)

/-- Retraining has fallen due (R660, R678). -/
def retrainNeeded (s : Chip) (d : Fin 4) : Bool :=
  let x := (s.d d).dram
  let ms := max 1 (s.fld d Rf.DRAM_RETRAIN_MS)
  let deg := max 1 (s.fld d Rf.DRAM_RETRAIN_DEG)
  decide (ms * 1000000 ≤ (s.now d - x.trainAt).toNat) ||
    decide (4 * (deg : Int) ≤ (highestTemp s d - x.trainTemp).natAbs)

/-- RETRAIN_DUE (R660, R679, R686): retraining runs at a SLACK start or while no tick runs, and not in self-refresh. A
failed one keeps the previous settings. -/
def retrainDue (d : Fin 4) (ok : Bool) (rank : Fin 2) (s : Chip) : Chip :=
  whenUp s d fun s =>
    if s.flag d Rf.DRAM_CTL_EN && channelFree s d && retrainNeeded s d &&
        (!ticking s d || (s.d d).tick.phase == .slack) then
      let s := s.onDram d fun x => { x with trainAt := s.now d, trainTemp := highestTemp s d }
      if ok then s else raise s d 0x040 K.DRTRAIN 0 (2 * rank.val)
    else s

/-- PATROL_READ (R661, R684): the next burst is read; uncorrectable granules are poisoned, others written back. -/
def patrolRead (d : Fin 4) (errs : List Nat) (s : Chip) : Chip :=
  whenUp s d fun s =>
    if chipkill s d && s.fld d Rf.DRAM_PATROL_HOURS != 0 && s.flag d Rf.DRAM_STAT_CLEARED &&
        s.flag d Rf.DRAM_CTL_EN && channelFree s d then
      let b := (s.d d).dram.patrol
      let s := overAll (fun s i =>
        let off := 128 * b + 16 * i
        let g := physOf s d off / 16
        if granPoisoned s d g then s else (decodeGran s d g 2 off (errsOf errs i)).1) s (range 0 8)
      s.onDram d fun x => { x with patrol := if (b + 1) * 128 < dramCap s d then b + 1 else 0 }
    else s

/-- The devices lose their contents (R663). DEDUCED, log 197. -/
def dramLose (s : Chip) (d : Fin 4) : Chip :=
  s.onDram d fun x => { x with cells := [], zeroed := false, gen := x.gen + 1, poison := [], merge := [], held := [] }

/-- Start INIT (R659, R667). -/
def dramInitStart (s : Chip) (d : Fin 4) : Chip :=
  if s.flag d Rf.DRAM_STAT_BUSY || s.flag d Rf.DRAM_CTL_EN then s
  else
    ((dramLose s d).setFld d Rf.DRAM_STAT_BUSY 1).setFld d Rf.DRAM_STAT_READY 0 |>.setFld d Rf.DRAM_STAT_CLEARED 0

/-- DRAM_INIT (R659, R667). -/
def dramInit (t : Fin 256) (d : Fin 4) (s : Chip) : Chip :=
  whenGranted s d t Rf.DRAM_CTL_INIT fun s => dramInitStart s d

/-- VDDQ and VDD2 are in range on the die (R907). -/
def dramRails (s : Chip) (d : Fin 4) : Bool := s.fld d Rf.PWR_RAIL_VDDQ == 1 && s.fld d Rf.PWR_RAIL_VDD2 == 1

/-- DRAM_INIT_DONE (R659, R686, R907): training ends. The channel is busy and not READY while INIT runs, and busy and
READY while CLEAR runs. -/
def dramInitDone (d : Fin 4) (ok : Bool) (rank : Fin 2) (s : Chip) : Chip :=
  whenUp s d fun s =>
    if s.flag d Rf.DRAM_STAT_BUSY && !s.flag d Rf.DRAM_STAT_READY then
      let s := s.setFld d Rf.DRAM_STAT_BUSY 0
      if ok && dramRails s d then
        (s.setFld d Rf.DRAM_STAT_READY 1).onDram d fun x => { x with trainAt := s.now d, trainTemp := highestTemp s d }
      else raise (s.setFld d Rf.DRAM_STAT_RESULT 4) d 0x040 K.DRTRAIN 0 (1 + 2 * rank.val)
    else s

/-- Start CLEAR (R644, R667). -/
def dramClearStart (s : Chip) (d : Fin 4) : Chip :=
  if s.flag d Rf.DRAM_STAT_BUSY || !s.flag d Rf.DRAM_CTL_EN then s else s.setFld d Rf.DRAM_STAT_BUSY 1

/-- DRAM_CLEAR (R644). -/
def dramClear (t : Fin 256) (d : Fin 4) (s : Chip) : Chip :=
  whenGranted s d t Rf.DRAM_CTL_CLEAR fun s => dramClearStart s d

/-- DRAM_CLEAR_DONE (R644): every granule holds zero with valid check symbols; held requests go on. -/
def dramClearDone (d : Fin 4) (s : Chip) : Chip :=
  whenUp s d fun s =>
    if s.flag d Rf.DRAM_STAT_BUSY && s.flag d Rf.DRAM_STAT_READY then
      let s := s.onDram d fun x => { x with cells := [], zeroed := true, poison := [], merge := [] }
      admitAll ((s.setFld d Rf.DRAM_STAT_BUSY 0).setFld d Rf.DRAM_STAT_CLEARED 1) d
    else s

/-- DRAM_FENCE (R647, R675). -/
def dramFence (t : Fin 256) (d : Fin 4) (s : Chip) : Chip :=
  whenGranted s d t Rf.DRAM_CTL_FENCE fun s => fenceFlush s d

/-- Enter self-refresh (R662). DEDUCED, log 147. -/
def enterSelfRefresh (s : Chip) (d : Fin 4) : Chip :=
  ((fenceFlush s d).setFld d Rf.DRAM_CTL_SR 1).setFld d Rf.DRAM_STAT_IN_SR 1

/-- DRAM_SELF_REFRESH (R662): CTL.SR is written to 1. -/
def dramSelfRefresh (t : Fin 256) (d : Fin 4) (s : Chip) : Chip :=
  whenGranted s d t Rf.DRAM_CTL_SR fun s => if s.flag d Rf.DRAM_STAT_IN_SR then s else enterSelfRefresh s d

/-- DRAM_SR_EXIT (R662, R679): the exit that a cleared SR or a held request started is complete. -/
def dramSrExit (d : Fin 4) (s : Chip) : Chip :=
  whenUp s d fun s =>
    if s.flag d Rf.DRAM_STAT_IN_SR && !s.flag d Rf.DRAM_CTL_SR then
      admitAll (s.setFld d Rf.DRAM_STAT_IN_SR 0) d
    else s

/-- Write EN = 1 (R631, R668). -/
def dramEnableNow (s : Chip) (d : Fin 4) : Chip :=
  if s.flag d Rf.DRAM_CTL_EN then s
  else if !s.flag d Rf.DRAM_STAT_READY then s.setFld d Rf.DRAM_STAT_RESULT 2
  else if !bit s.compat 5 && !masksOk s d then s.setFld d Rf.DRAM_STAT_RESULT 3
  else (s.setFld d Rf.DRAM_CTL_EN 1).setFld d Rf.DRAM_STAT_RESULT 1

/-- DRAM_ENABLE (R668). -/
def dramEnable (t : Fin 256) (d : Fin 4) (s : Chip) : Chip :=
  whenGranted s d t Rf.DRAM_CTL_EN fun s => dramEnableNow s d

/-- DRAM_MARK_WRITE (R642, R669). -/
def dramMarkWrite (t : Fin 256) (d : Fin 4) (v : Word) (s : Chip) : Chip :=
  whenGranted s d t Rf.DRAM_MARK_CHIP fun s =>
    (s.setFld d Rf.DRAM_MARK_CHIP (getBits v 0 4)).setFld d Rf.DRAM_MARK_VALID (getBits v 4 1)

/-- A write of DRAM.CTL by any path: EN, INIT, CLEAR, FENCE and SR as R644, R647, R659, R662 and R668 decide. -/
def dramCtlWrite (s : Chip) (d : Fin 4) (v : Word) : Chip :=
  let s := if getBits v 1 1 = 1 then dramInitStart s d else s
  let s := if getBits v 0 1 = 1 then dramEnableNow s d else s.setFld d Rf.DRAM_CTL_EN 0
  let s := if getBits v 2 1 = 1 then dramClearStart s d else s
  let s := if getBits v 3 1 = 1 then fenceFlush s d else s
  if getBits v 4 1 = 1 then (if s.flag d Rf.DRAM_STAT_IN_SR then s else enterSelfRefresh s d)
  else s.setFld d Rf.DRAM_CTL_SR 0

/-! ### Meanings -/

def execDramRead (d : Fin 4) (port : Fin 16) (off : BitVec 38) (bytes : Nat) (errs : List Nat) (s : State) : Out :=
  act s fun s => dramRead d port off bytes errs s
def execDramWrite (d : Fin 4) (port : Fin 16) (off : BitVec 38) (data : List Byte) (s : State) : Out :=
  act s fun s => dramWrite d port off data s
def execMergeFlush (d : Fin 4) (g : Nat) (errs : List Nat) (s : State) : Out :=
  act s fun s => mergeFlush d g errs s
def execRegulatorRefill (d : Fin 4) (s : State) : Out :=
  act s fun s => regulatorRefill d s
def execRefreshDue (d : Fin 4) (rank : Fin 2) (bank : Fin 8) (rtQueued : Bool) (s : State) : Out :=
  act s fun s => refreshDue d rank bank rtQueued s
def execMr4Poll (d : Fin 4) (c0 c1 : BitVec 3) (s : State) : Out :=
  act s fun s => mr4Poll d c0 c1 s
def execRetrainDue (d : Fin 4) (ok : Bool) (rank : Fin 2) (s : State) : Out :=
  act s fun s => retrainDue d ok rank s
def execPatrolRead (d : Fin 4) (errs : List Nat) (s : State) : Out :=
  act s fun s => patrolRead d errs s
def execDramInit (t : Fin 256) (d : Fin 4) (s : State) : Out :=
  act s fun s => dramInit t d s
def execDramInitDone (d : Fin 4) (ok : Bool) (rank : Fin 2) (s : State) : Out :=
  act s fun s => dramInitDone d ok rank s
def execDramClear (t : Fin 256) (d : Fin 4) (s : State) : Out :=
  act s fun s => dramClear t d s
def execDramClearDone (d : Fin 4) (s : State) : Out :=
  act s fun s => dramClearDone d s
def execDramFence (t : Fin 256) (d : Fin 4) (s : State) : Out :=
  act s fun s => dramFence t d s
def execDramSelfRefresh (t : Fin 256) (d : Fin 4) (s : State) : Out :=
  act s fun s => dramSelfRefresh t d s
def execDramSrExit (d : Fin 4) (s : State) : Out :=
  act s fun s => dramSrExit d s
def execDramEnable (t : Fin 256) (d : Fin 4) (s : State) : Out :=
  act s fun s => dramEnable t d s
def execDramMarkWrite (t : Fin 256) (d : Fin 4) (v : Word) (s : State) : Out :=
  act s fun s => dramMarkWrite t d v s

end Sys2Proof.Machine
end

