-- ==== Sys2Proof/Machine/Mem.lean ====
section
/-! DEFINITION. The lane memories of a die: lanes and layouts, checked reads, poison, writes, Basting tags and shadow
entries, bank power, and the region descriptors (R18 to R23, R143, R144, R252 to R266, R345 to R348, R361, R364, R387,
R388, R778, R779). -/

namespace Sys2Proof.Machine

/-! ### Lanes and layouts (R19 to R22) -/

/-- Lane `k` of a word. -/
def getLane (q : Quadlane) (k : Nat) : Lane := BitVec.ofNat 14 (q.toNat / 2 ^ (14 * k))

/-- A word from four lanes. -/
def ofLanes (a b c e : Lane) : Quadlane :=
  BitVec.ofNat 56 (a.toNat + b.toNat * 2 ^ 14 + c.toNat * 2 ^ 28 + e.toNat * 2 ^ 42)

/-- The lanes of `new` that `mask` names, over `old`. -/
def overLanes (mask : Nat) (old new : Quadlane) : Quadlane :=
  let pick := fun k => if bit mask k then getLane new k else getLane old k
  ofLanes (pick 0) (pick 1) (pick 2) (pick 3)

/-- The mark −8192 in every lane (R259, R364). -/
def markWord : Quadlane := ofLanes 0x2000 0x2000 0x2000 0x2000

/-- The same lane four times. -/
def splatLane (v : Lane) : Quadlane := ofLanes v v v v

/-- PACKED layout: seven little-endian bytes (R21). -/
def packWord (q : Quadlane) : List Byte := leBytes 7 q.toNat

/-- A lane as a 16-bit value, sign-extended from bit 13 (R22). -/
def lane16 (v : Lane) : Nat := if v.toNat < 8192 then v.toNat else v.toNat + 49152

/-- EXPANDED layout: eight bytes (R22). -/
def expandWord (q : Quadlane) : List Byte :=
  (range 0 4).flatMap fun k => leBytes 2 (lane16 (getLane q k))

/-- A word from PACKED bytes. -/
def unpackWord (bs : List Byte) : Quadlane := BitVec.ofNat 56 (leNat bs)

/-- A word from EXPANDED bytes: bits 15..14 of each value are ignored (R22). -/
def unexpandWord (bs : List Byte) : Quadlane :=
  let l := fun k => BitVec.ofNat 14 (leNat ((bs.drop (2 * k)).take 2))
  ofLanes (l 0) (l 1) (l 2) (l 3)

/-! ### Address map (R18, R20) -/

/-- The lane memory and the lane within it that a die-local lane offset names. -/
def laneAt (off : Nat) : Option (Mem × Nat) :=
  let within := fun (base n : Nat) => decide (base ≤ off) && decide (off < base + n)
  if within 0x2000000000 2097152 then some (.spad, off - 0x2000000000)
  else if within 0x2100000000 (192 * 32768) then some (.cst, off - 0x2100000000)
  else if within 0x2200000000 (1536 * 4096) then some (.bmem, off - 0x2200000000)
  else if within 0x3E00000000 32768 then some (.lining, off - 0x3E00000000)
  else none

/-- The number of the region of R18 that an offset lies in: 0 DRAM window, then the lane memories and the registers. -/
def regionOf (off : Nat) : Option Nat :=
  match laneAt off with
  | some (.spad, _) => some 1
  | some (.cst, _) => some 2
  | some (.bmem, _) => some 3
  | some (.lining, _) => some 4
  | none => if off < 0x1000000000 then some 0 else if 0x3F00000000 ≤ off ∧ off < 0x4000000000 then some 5 else none

/-- The base of a lane memory in the die's offset space. -/
def memBase : Mem → Nat
  | .spad => 0x2000000000
  | .cst => 0x2100000000
  | .bmem => 0x2200000000
  | .lining => 0x3E00000000

/-- The code of a lane memory in event payloads (R387). -/
def memCode : Mem → Nat
  | .spad => 0
  | .cst => 1
  | .bmem => 2
  | .lining => 3

/-- The words of a lane memory. -/
def memWords : Mem → Nat
  | .spad => 524288
  | .cst => 192 * 8192
  | .bmem => 1536 * 1024
  | .lining => 8192

/-! ### Region descriptors (R143, R144) -/

/-- The region of R18 whose range of offsets holds `off`: the DRAM window, a lane region or the registers. -/
def descRegion (off : Nat) : Option Nat :=
  let w := off / 2 ^ 32
  if w < 16 then some 0
  else if w = 0x20 ∨ w = 0x21 ∨ w = 0x22 ∨ w = 0x3E ∨ w = 0x3F then some w
  else none

/-- The two tests of R143. -/
def descOk (base limit : Nat) : Bool :=
  decide (base < limit) && (descRegion base).isSome && descRegion base == descRegion limit

/-- Descriptor `n` of die `d` covers `size` steps at `off` for tenant `t` and the access kind. -/
def descCovers (s : Chip) (d : Fin 4) (n : Nat) (t : Fin 256) (wr : Bool) (off size : Nat) : Bool :=
  let base := s.fld d (Rf.YOKE_RD0_BASE_LO.at n) + 2 ^ 32 * s.fld d (Rf.YOKE_RD1_BASE_HI.at n)
  let limit := s.fld d (Rf.YOKE_RD2_LIMIT_LO.at n) + 2 ^ 32 * s.fld d (Rf.YOKE_RD3_LIMIT_HI.at n)
  s.flag d (Rf.YOKE_RD1_VALID.at n) && descOk base limit && s.fld d (Rf.YOKE_RD1_TENANT.at n) == t.val &&
    (if wr then s.flag d (Rf.YOKE_RD1_WR.at n) else s.flag d (Rf.YOKE_RD1_RD.at n)) &&
    decide (base ≤ off) && decide (off + size ≤ limit)

/-- Tenant `t` may access `size` steps at `off` of die `d`'s memory (R144). A valid descriptor is a listed register, so
only listed keys are looked at. -/
def permitted (s : Chip) (d : Fin 4) (t : Fin 256) (wr : Bool) (off size : Nat) : Bool :=
  t == 0 || (s.d d).regs.any fun e =>
    let o := e.1 - (1048576 + 0x10004)
    decide (1048576 + 0x10004 ≤ e.1) && o % 16 == 0 && decide (o / 16 < 1024) && descCovers s d (o / 16) t wr off size

/-! ### Words -/

/-- The words of one lane memory of a die. -/
def DieSt.mem (x : DieSt) : Mem → SMap MWord
  | .spad => x.spad
  | .cst => x.cst
  | .bmem => x.bmem
  | .lining => x.lining

/-- The die with one lane memory replaced. -/
def DieSt.setMem (x : DieSt) (m : Mem) (v : SMap MWord) : DieSt :=
  match m with
  | .spad => { x with spad := v }
  | .cst => { x with cst := v }
  | .bmem => { x with bmem := v }
  | .lining => { x with lining := v }

/-- What an unlisted word reads as. DESIGN CHOICE, log 6. -/
def word0 : Nat → MWord := fun _ => {}

/-- Word `i` of a lane memory. -/
def Chip.word (s : Chip) (d : Fin 4) (m : Mem) (i : Nat) : MWord := mapGet word0 ((s.d d).mem m) i

/-- Store word `i` of a lane memory. -/
def Chip.setWord (s : Chip) (d : Fin 4) (m : Mem) (i : Nat) (w : MWord) : Chip :=
  s.upd d fun x => x.setMem m (mapPut word0 (x.mem m) i w)

/-- The local event source of a word (R387). -/
def memSource (m : Mem) (i : Nat) : Nat :=
  match m with
  | .spad => 0x050 + i % 32
  | .cst => 0x100 + i / 8192
  | _ => 0x000

/-- The payload of MEMCE and MEMUE (R387, R388). -/
def memPayload (m : Mem) (i k b : Nat) : Nat := (4 * i + k) % 2 ^ 23 + memCode m * 2 ^ 23 + b * 2 ^ 25

/-- The inverted physical bits of lane `k`. -/
def laneFlips (w : MWord) (k : Nat) : Nat := w.flips / 2 ^ (20 * k) % 2 ^ 20

/-- The number of set bits among the low `n`. -/
def popCount : Nat → Nat → Nat
  | 0, _ => 0
  | n + 1, v => v % 2 + popCount n (v / 2)

/-- The lowest set bit among the low `n`. -/
def lowBit : Nat → Nat → Nat
  | 0, _ => 0
  | n + 1, v => if v % 2 = 1 then 0 else 1 + lowBit n (v / 2)

/-- The lanes that `mask` names. -/
def lanesOf (mask : Nat) : List Nat := (range 0 4).filter fun k => bit mask k

/-- Count and record a corrected lane, with the event from `src` (R347, R387). -/
def corrLaneFrom (s : Chip) (d : Fin 4) (src : Nat) (m : Mem) (i k : Nat) (w : MWord) : Chip :=
  if laneFlips w k = 0 then s
  else
    let s := match m with
      | .spad => s.addFld d Rf.SPAD_CE_COUNT_CE 1
      | .bmem => s.addFld d Rf.BMEM_CE_COUNT_CE 1
      | .lining => s.addFld d Rf.LINING_CE_COUNT_CE 1
      | .cst => s
    raise s d src K.MEMCE 0 (memPayload m i k (lowBit 20 (laneFlips w k)))

/-- Count and record a corrected lane from the memory's own source. -/
def corrLane (s : Chip) (d : Fin 4) (m : Mem) (i k : Nat) (w : MWord) : Chip :=
  corrLaneFrom s d (memSource m i) m i k w

/-- Write the poison pattern into a word: its Basting state stays (R348, R776). -/
def poisonWord (s : Chip) (d : Fin 4) (m : Mem) (i : Nat) : Chip :=
  s.setWord d m i { s.word d m i with poison := 15, flips := 0 }

/-- A read found lane `k` uncorrectable: the word is poisoned and MEMUE logged from `src` (R388). -/
def foundBadFrom (s : Chip) (d : Fin 4) (src : Nat) (m : Mem) (i k : Nat) : Chip :=
  let s := poisonWord s d m i
  let s := match m with
    | .spad => ((s.addFld d Rf.SPAD_UE_COUNT_UE 1).setFld d Rf.SPAD_ERR_ADDR_LANE (4 * i + k)).setFld d
        Rf.SPAD_ERR_ADDR_VALID 1
    | .bmem => ((s.addFld d Rf.BMEM_UE_COUNT_UE 1).setFld d Rf.BMEM_ERR_ADDR_LANE (4 * i + k)).setFld d
        Rf.BMEM_ERR_ADDR_VALID 1
    | .lining => ((s.addFld d Rf.LINING_UE_COUNT_UE 1).setFld d Rf.LINING_ERR_ADDR_LANE (4 * i + k)).setFld d
        Rf.LINING_ERR_ADDR_VALID 1
    | .cst => s
  raise s d src K.MEMUE 0 (memPayload m i k 0x1F)

/-- A read found lane `k` uncorrectable, recorded from the memory's own source. -/
def foundBad (s : Chip) (d : Fin 4) (m : Mem) (i k : Nat) : Chip := foundBadFrom s d (memSource m i) m i k

/-- The physical check of a read that returns the lanes of `mask` (R347, R364): the word's data, or none when it is
poisoned, uncorrectable or, in the scratchpad, never written. -/
def readPhys (s : Chip) (d : Fin 4) (m : Mem) (i mask : Nat) : Chip × Option Quadlane :=
  let w := s.word d m i
  let ls := lanesOf mask
  if m = .spad ∧ !w.written then (s, none)
  else if ls.any fun k => bit w.poison k then (poisonWord s d m i, none)
  else match ls.find? fun k => decide (2 ≤ popCount 20 (laneFlips w k)) with
    | some k => (foundBad s d m i k, none)
    | none => (overAll (fun s k => corrLane s d m i k w) s ls, some w.data)

/-! ### Reads of tagged words (R259) -/

/-- Who reads a lane memory (R259). -/
inductive Reader
  /-- A Rentik program of this tenant on the same die. -/
  | prog (t : Fin 256)
  /-- A Rentik program on another die, or a fabric port. -/
  | far
  /-- Yoke LDL, the host lane window, a mover, a Pleat job or a transmit template. -/
  | outside
  /-- Placket. -/
  | debug
  deriving DecidableEq, Repr

/-- What a read obtains. -/
inductive ReadRes
  /-- The word, and whether it is basted data. -/
  | val (q : Quadlane) (basted : Bool)
  | poison
  | stall
  deriving DecidableEq, Repr

/-- The result of a physical read. -/
def physRes (r : Chip × Option Quadlane) (basted : Bool) : Chip × ReadRes :=
  match r.2 with
  | some q => (r.1, .val q basted)
  | none => (r.1, .poison)

/-- A read of the lanes of `mask` of word `i` (R259, R347). -/
def readWord (s : Chip) (d : Fin 4) (m : Mem) (i mask : Nat) (r : Reader) : Chip × ReadRes :=
  let w := s.word d m i
  match w.tag, r with
  | .committed, _ => physRes (readPhys s d m i mask) false
  | .void, _ => (s, .val markWord false)
  | .basted, .prog t => if w.ten = t then physRes (readPhys s d m i mask) true else (s, .stall)
  | .ingest, .prog t => if w.ten = t then physRes (readPhys s d m i mask) true else (s, .stall)
  | .basted, .far => (s, .stall)
  | .ingest, .far => (s, .stall)
  | .basted, .debug => physRes (readPhys s d m i mask) true
  | .ingest, .debug => physRes (readPhys s d m i mask) true
  | .ingest, .outside => (s, .val markWord false)
  | .basted, .outside =>
    match w.shadow with
    | some sh =>
      if sh.void then (s, .val markWord false)
      else if sh.poison ≠ 0 ∨ (m = .spad ∧ !sh.written) then (s, .poison)
      else (s, .val sh.data false)
    | none => (s, .val w.data false)

/-! ### Writes -/

/-- The word after a raw write of the lanes of `mask` (R346, R364): other lanes of an unwritten scratchpad word take
the mark. -/
def rawWord (m : Mem) (w : MWord) (mask : Nat) (q : Quadlane) : MWord :=
  if m = .spad ∧ !w.written then
    { w with data := overLanes mask markWord q, flips := 0, poison := 0, written := true }
  else
    { w with
      data := overLanes mask w.data q
      flips := ((range 0 4).map fun k => if bit mask k then 0 else laneFlips w k * 2 ^ (20 * k)).foldl (· + ·) 0
      poison := ((range 0 4).map fun k => if bit mask k then 0 else b2n (bit w.poison k) * 2 ^ k).foldl (· + ·) 0
      written := m == .spad }

/-- The armed injection of a kind of memory is used at its next write (R378). DEDUCED, log 97. -/
def injectInto (s : Chip) (d : Fin 4) (m : Mem) (w : MWord) : Chip × MWord :=
  match m with
  | .spad =>
    if s.flag d Rf.SPAD_INJECT_ARM then
      (s.setFld d Rf.SPAD_INJECT_ARM 0,
        { w with flips := Nat.xor w.flips (s.fld d Rf.SPAD_INJECT_MASK * 2 ^ (20 * s.fld d Rf.SPAD_INJECT_LANE)) })
    else (s, w)
  | .bmem =>
    if s.flag d Rf.BMEM_INJECT_ARM then
      (s.setFld d Rf.BMEM_INJECT_ARM 0,
        { w with flips := Nat.xor w.flips (s.fld d Rf.BMEM_INJECT_MASK * 2 ^ (20 * s.fld d Rf.BMEM_INJECT_LANE)) })
    else (s, w)
  | _ => (s, w)

/-- Store a written word, after any armed injection. -/
def storeWord (s : Chip) (d : Fin 4) (m : Mem) (i : Nat) (w : MWord) : Chip :=
  let r := injectInto s d m w
  r.1.setWord d m i r.2

/-- A write that pays no attention to tags. -/
def rawWrite (s : Chip) (d : Fin 4) (m : Mem) (i mask : Nat) (q : Quadlane) : Chip :=
  storeWord s d m i (rawWord m (s.word d m i) mask q)

/-- The shadow entry after a write of R255 (R261, R364). -/
def shadowWrite (m : Mem) (sh : Shadow) (mask : Nat) (q : Quadlane) : Shadow :=
  if sh.void || (m = .spad && !sh.written) then
    { data := overLanes mask markWord q, poison := 0, written := true, void := false }
  else
    { sh with
      data := overLanes mask sh.data q
      poison := ((range 0 4).map fun k => if bit mask k then 0 else b2n (bit sh.poison k) * 2 ^ k).foldl (· + ·) 0 }

/-- Shadow entries that BASTED words of one memory hold, for the tenants `p` accepts. -/
def bastedIn (p : Fin 256 → Bool) (mm : SMap MWord) : Nat :=
  (mm.filter fun e => e.2.tag == .basted && p e.2.ten).length

/-- Shadow entries occupied on a die (R265, R272). -/
def shadowUsed (s : Chip) (d : Fin 4) : Nat :=
  let x := s.d d
  bastedIn (fun _ => true) x.spad + bastedIn (fun _ => true) x.cst + bastedIn (fun _ => true) x.bmem +
    x.baste.back.length

/-- Shadow entries that tenant `t` holds on a die. -/
def shadowHeld (s : Chip) (d : Fin 4) (t : Fin 256) : Nat :=
  let x := s.d d
  bastedIn (· == t) x.spad + bastedIn (· == t) x.cst + bastedIn (· == t) x.bmem +
    (x.baste.back.filter fun b => b.2.2 == t).length

/-- QUOTA_t in force on a die (R279). -/
def quotaOf (s : Chip) (d : Fin 4) (t : Fin 256) : Nat := mapGet (fun _ => 4096) (s.d d).baste.quota t.val

/-- A shadow entry is free for tenant `t` (R265, R280). -/
def shadowRoom (s : Chip) (d : Fin 4) (t : Fin 256) : Bool :=
  decide (shadowUsed s d < 4096) && decide (shadowHeld s d t < quotaOf s d t)

/-- Buffer entries occupied on a die. -/
def bufUsed (s : Chip) (d : Fin 4) : Nat := (s.d d).baste.buf.length + (s.d d).baste.drain.length

/-- Change the Basting unit of a die. -/
def Chip.onBaste (s : Chip) (d : Fin 4) (f : BasteSt → BasteSt) : Chip :=
  s.upd d fun x => { x with baste := f x.baste }

/-- Keep the high-water marks (R294). -/
def baseHwm (s : Chip) (d : Fin 4) : Chip :=
  (s.setFld d Rf.BASTE_HWM_SHADOW_HWM (max (s.fld d Rf.BASTE_HWM_SHADOW_HWM) (shadowUsed s d))).setFld d
    Rf.BASTE_HWM_BUF_HWM (max (s.fld d Rf.BASTE_HWM_BUF_HWM) (bufUsed s d))

/-- Raise BSTALL once per tenant, die and tick (R288): `kind` is 0 for the shadow, 1 for the buffer. -/
def bstall (s : Chip) (d : Fin 4) (t : Fin 256) (kind : Nat) : Chip :=
  if (s.d d).baste.stalled.contains t then s
  else
    let used := if kind = 0 then shadowUsed s d else bufUsed s d
    let s := (s.onBaste d fun b => { b with stalled := t :: b.stalled }).addFld d Rf.BASTE_STALLS_STALLS 1
    raise s d 0x008 K.BSTALL t (kind + used * 2 ^ 16)

/-- Who writes a lane memory. -/
inductive Writer
  /-- A writer of R255: its writes are never basted. -/
  | plain
  /-- A Rentik program of a tenant, in basted mode or not. -/
  | prog (t : Fin 256) (basted : Bool)
  deriving DecidableEq, Repr

/-- What became of a write. -/
inductive WriteRes
  | done
  /-- The write waits for the word's resolution (R262). -/
  | stall
  /-- No shadow entry is free (R266). -/
  | full
  deriving DecidableEq, Repr

/-- The committed value a shadow entry saves (R256): corrected, or poisoned where a lane is uncorrectable. -/
def shadowOf (w : MWord) : Shadow :=
  let badLane := (range 0 4).any fun k => decide (2 ≤ popCount 20 (laneFlips w k))
  { data := w.data, poison := if badLane then 15 else w.poison, written := w.written, void := w.tag == .void }

/-- A basted write takes a shadow entry for the word (R256). -/
def takeShadow (s : Chip) (d : Fin 4) (m : Mem) (i mask : Nat) (q : Quadlane) (t : Fin 256) : Chip × WriteRes :=
  if shadowRoom s d t then
    let w := s.word d m i
    let base := if w.tag = .void then { w with data := markWord, flips := 0, poison := 0, written := true } else w
    let new := { rawWord m base mask q with tag := .basted, ten := t, shadow := some (shadowOf w), overwritten := false }
    (baseHwm (storeWord s d m i new) d, .done)
  else (bstall s d t 0, .full)

/-- A write of the lanes of `mask` of word `i` (R256, R261 to R263, R266). A plain write by a program to its own
tenant's BASTED word acts as one of R255 (assumption log 9).
DEDUCED, log 9; DEDUCED, log 81; DEDUCED, log 82. -/
def writeWord (s : Chip) (d : Fin 4) (m : Mem) (i mask : Nat) (q : Quadlane) (who : Writer) : Chip × WriteRes :=
  let w := s.word d m i
  let intoShadow := fun (_ : Unit) =>
    match w.shadow with
    | some sh => (s.setWord d m i { w with shadow := some (shadowWrite m sh mask q), overwritten := true }, WriteRes.done)
    | none => (rawWrite s d m i mask q, WriteRes.done)
  let overVoid := fun (_ : Unit) =>
    (storeWord s d m i
      { rawWord m { w with data := markWord, flips := 0, poison := 0, written := true } mask q with tag := .committed },
      WriteRes.done)
  match w.tag, who with
  | .committed, .plain => (rawWrite s d m i mask q, .done)
  | .committed, .prog _ false => (rawWrite s d m i mask q, .done)
  | .committed, .prog t true => takeShadow s d m i mask q t
  | .void, .plain => overVoid ()
  | .void, .prog _ false => overVoid ()
  | .void, .prog t true => takeShadow s d m i mask q t
  | .basted, .plain => intoShadow ()
  | .basted, .prog t b =>
    if w.ten ≠ t then (s, .stall) else if b then (rawWrite s d m i mask q, .done) else intoShadow ()
  | .ingest, .plain => (s, .stall)
  | .ingest, .prog t _ => if w.ten ≠ t then (s, .stall) else (rawWrite s d m i mask q, .done)

/-- Acquisition ingest and cut-through receive write INGEST words for their tenant (R253); under no basis the word is
committed. -/
def ingestWord (s : Chip) (d : Fin 4) (i mask : Nat) (q : Quadlane) (t : Fin 256) (basted : Bool) : Chip :=
  let w := s.word d .spad i
  let base := if w.tag = .void then { w with data := markWord, flips := 0, poison := 0, written := true } else w
  storeWord s d .spad i
    { rawWord .spad base mask q with
      tag := if basted then .ingest else .committed, ten := if basted then t else 0, shadow := none, overwritten := false }

/-! ### Scratchpad banks (R355, R360, R361) -/

/-- The bank of a scratchpad word (R355). -/
def bankOf (i : Nat) : Nat := i % 32

/-- Bank `k` is ON. -/
def bankOn (s : Chip) (d : Fin 4) (k : Nat) : Bool := s.fld d (Rf.SPAD_BANK_STATE.at k) == 0

/-- An access notes that its bank was used in this cap window (R365). DEDUCED, log 96. -/
def touchBank (s : Chip) (d : Fin 4) (k : Nat) : Chip :=
  s.upd d fun x => { x with bankUsed := mapPut (fun _ => false) x.bankUsed k true }

/-- A request wakes a bank that is not ON (R361, R380): REQ becomes 0 and AUTOWOKE is set.
DESIGN CHOICE, log 43. -/
def wakeBank (s : Chip) (d : Fin 4) (k : Nat) : Chip :=
  let s := touchBank s d k
  let s := s.upd d fun x => { x with bankTo := mapPut (fun _ => 0) x.bankTo k 0 }
  ((s.setFld d (Rf.SPAD_BANK_STATE.at k) 3).setFld d (Rf.SPAD_BANK_REQ.at k) 0).setFld d
    (Rf.SPAD_BANK_AUTOWOKE.at k) 1

/-- A read by a master that wakes banks: it stalls until its bank is ON (R361). -/
def readMem (s : Chip) (d : Fin 4) (m : Mem) (i mask : Nat) (r : Reader) : Chip × ReadRes :=
  if m = .spad then
    if bankOn s d (bankOf i) then readWord (touchBank s d (bankOf i)) d m i mask r
    else (wakeBank s d (bankOf i), .stall)
  else readWord s d m i mask r

/-- A write by a master that wakes banks (R361). -/
def writeMem (s : Chip) (d : Fin 4) (m : Mem) (i mask : Nat) (q : Quadlane) (who : Writer) : Chip × WriteRes :=
  if m = .spad then
    if bankOn s d (bankOf i) then writeWord (touchBank s d (bankOf i)) d m i mask q who
    else (wakeBank s d (bankOf i), .stall)
  else writeWord s d m i mask q who

/-! ### The poison rule (R778, R803) -/

/-- The reader of poisoned lane memory is faulted: PSNREAD of class T from the memory's source (R803). -/
def poisonFault (s : Chip) (d : Fin 4) (m : Mem) (i k : Nat) (t : Fin 256) (basted : Bool := false) : Chip :=
  raiseT s d (memSource m i) K.PSNREAD t (memCode m + (4 * i + k) * 256) basted

/-- The reader of poisoned DRAM is faulted (R803). -/
def dramPoisonFault (s : Chip) (d : Fin 4) (off : Nat) (t : Fin 256) (basted : Bool := false) : Chip :=
  raiseT s d 0x040 K.PSNREAD t (4 + off / 1024 % 2 ^ 24 * 256) basted

/-- The Lining is held wiped or being wiped: reads return zero and writes are discarded (R369, R823). -/
def liningShut (s : Chip) (d : Fin 4) : Bool :=
  s.flag d Rf.LINING_STAT_WIPING ||
    dies.any fun e => Nat.land (s.fld e Rf.TAMPER_EN_EN) (s.fld e Rf.TAMPER_STAT_ACTIVE) != 0

/-- A read of the Lining by a permitted reader. -/
def readLining (s : Chip) (d : Fin 4) (i mask : Nat) (r : Reader) : Chip × ReadRes :=
  if liningShut s d then (s, .val 0 false) else readWord s d .lining i mask r

/-- A write of the Lining by a permitted writer. -/
def writeLining (s : Chip) (d : Fin 4) (i mask : Nat) (q : Quadlane) : Chip :=
  if liningShut s d then s else rawWrite s d .lining i mask q

end Sys2Proof.Machine
end

