-- ==== Sys2Proof/Machine/Banks.lean ====
section
/-! DEFINITION. Scratchpad bank power, error injection, block memories at their fabric ports, and Lining wipes (R350 to
R354, R360 to R365, R368 to R370, R376, R378, R385, R391), and the meanings of those commands. -/

namespace Sys2Proof.Machine

/-! ### Banks and armed captures (R360 to R365) -/

/-- A capture is armed and not over: it is neither DONE nor abandoned. -/
def Capture.open_ (c : Capture) : Bool := !c.isDone && !c.abandoned

/-- Some word of bank `k` lies among `n` words from `w`. -/
def bankHits (w n k : Nat) : Bool := decide ((k + 32 - w % 32) % 32 < n)

/-- A capture covers a word of bank `k`: its buffer or its descriptor (R362). -/
def Capture.covers (c : Capture) (k : Nat) : Bool :=
  c.open_ && ((decide (c.desc + 8 ≤ 524288) && bankHits c.desc 8 k) || (c.store && bankHits c.buf ((c.len + 3) / 4) k))

/-- An armed capture of die `d` covers bank `k`. -/
def bankCovered (s : Chip) (d : Fin 4) (k : Nat) : Bool :=
  (s.d d).caps.any fun e => match e.2 with
    | some c => c.covers k
    | none => false

/-- Note where bank `k` is to go. -/
def setBankTo (s : Chip) (d : Fin 4) (k v : Nat) : Chip :=
  s.upd d fun x => { x with bankTo := mapPut (fun _ => 0) x.bankTo k v }

/-- Bank `k` is to reach state `v` (R360, R362): leaving ON is held while a capture covers it. -/
def moveBank (s : Chip) (d : Fin 4) (k v : Nat) : Chip :=
  let st := s.fld d (Rf.SPAD_BANK_STATE.at k)
  if st = v then (setBankTo s d k v).setFld d (Rf.SPAD_BANK_HELD.at k) 0
  else if st = 0 ∧ bankCovered s d k then (setBankTo s d k v).setFld d (Rf.SPAD_BANK_HELD.at k) 1
  else ((setBankTo s d k v).setFld d (Rf.SPAD_BANK_STATE.at k) 3).setFld d (Rf.SPAD_BANK_HELD.at k) 0

/-- Held requests whose bank no capture covers take effect (R362, R381). -/
def releaseBanks (s : Chip) (d : Fin 4) : Chip :=
  overAll (fun s k => if s.flag d (Rf.SPAD_BANK_HELD.at k) then moveBank s d k (mapGet (fun _ => 0) (s.d d).bankTo k) else s)
    s (range 0 32)

/-- A write of SPAD.BANK_k (R376, R392): 3 in REQ stores 0. -/
def bankWrite (s : Chip) (d : Fin 4) (k : Nat) (v : Word) : Chip :=
  let req := if getBits v 0 2 = 3 then 0 else getBits v 0 2
  let s := (s.setFld d (Rf.SPAD_BANK_REQ.at k) req).setFld d (Rf.SPAD_BANK_CAPRET.at k) (getBits v 2 1)
  let s := if getBits v 7 1 = 1 then s.setFld d (Rf.SPAD_BANK_AUTOWOKE.at k) 0 else s
  moveBank s d k req

/-- The contents of bank `k` are lost: its words are unwritten (R360, R364). -/
def loseBank (s : Chip) (d : Fin 4) (k : Nat) : Chip :=
  s.upd d fun x => { x with spad := x.spad.filter fun e => e.1 % 32 != k }

/-- BANK_STATE_DONE (R360): the bank has left ON. -/
def bankStateDone (d : Fin 4) (k : Fin 32) (s : Chip) : Chip :=
  whenUp s d fun s =>
    let v := mapGet (fun _ => 0) (s.d d).bankTo k.val
    if s.fld d (Rf.SPAD_BANK_STATE.at k.val) = 3 ∧ v ≠ 0 then
      let s := s.setFld d (Rf.SPAD_BANK_STATE.at k.val) v
      if v = 2 then loseBank s d k.val else s
    else s

/-- Words of an ingest FIFO go to their banks, in order, while the banks are ON (R363). DEDUCED, log 95. -/
def drainIngest : Chip → Fin 4 → List Nat → List IngestEnt → Chip
  | s, _, _, [] => s
  | s, d, blocked, e :: es =>
    if bankOn s d (bankOf e.word) && !blocked.contains e.chan then
      let s := s.upd d fun x => { x with ingestQ := x.ingestQ.erase e }
      drainIngest (ingestWord (touchBank s d (bankOf e.word)) d e.word e.mask e.data e.ten e.basis) d blocked es
    else drainIngest s d (e.chan :: blocked) es

/-- BANK_WAKE_DONE (R360, R361, R363). -/
def bankWakeDone (d : Fin 4) (k : Fin 32) (s : Chip) : Chip :=
  whenUp s d fun s =>
    if s.fld d (Rf.SPAD_BANK_STATE.at k.val) = 3 ∧ mapGet (fun _ => 0) (s.d d).bankTo k.val = 0 then
      let s := s.setFld d (Rf.SPAD_BANK_STATE.at k.val) 0
      drainIngest s d [] (s.d d).ingestQ
    else s

/-- Words of channel `c` that wait in its FIFO. -/
def fifoFill (s : Chip) (d : Fin 4) (c : Nat) : Nat := ((s.d d).ingestQ.filter fun e => e.chan == c).length

/-- The ingest path presents a write of channel `c` (R363): it waits behind earlier words and for its bank. -/
def ingestPut (s : Chip) (d : Fin 4) (e : IngestEnt) : Chip :=
  if bankOn s d (bankOf e.word) && fifoFill s d e.chan == 0 then
    ingestWord (touchBank s d (bankOf e.word)) d e.word e.mask e.data e.ten e.basis
  else
    let s := if bankOn s d (bankOf e.word) then s else wakeBank s d (bankOf e.word)
    let s := s.upd d fun x => { x with ingestQ := x.ingestQ ++ [e] }
    let words := (dedup (((s.d d).ingestQ.filter fun q => q.chan == e.chan).map fun q => q.word)).length
    s.setFld d Rf.SPAD_INGEST_HWM_HWM (max (s.fld d Rf.SPAD_INGEST_HWM_HWM) (min words 1024))

/-- The banks at a change of the cap level (R223, R365). -/
def capBanks (s : Chip) (d : Fin 4) (old new : Nat) : Chip :=
  overAll (fun s k =>
    if !s.flag d (Rf.SPAD_BANK_CAPRET.at k) then s
    else if old < 3 ∧ 3 ≤ new then
      (if s.fld d (Rf.SPAD_BANK_REQ.at k) = 0 then moveBank s d k 1 else s)
    else if 3 ≤ old ∧ new < 3 then moveBank s d k (s.fld d (Rf.SPAD_BANK_REQ.at k))
    else s) s (range 0 32)

/-- The banks at the end of a cap window at level 3 or above: a marked bank without an access returns to RETAIN
(R365). -/
def capBanksWindow (s : Chip) (d : Fin 4) : Chip :=
  let s := if 3 ≤ s.fld d Rf.LEDGER_STAT_CAPLEVEL then
      overAll (fun s k =>
        if s.flag d (Rf.SPAD_BANK_CAPRET.at k) && bankOn s d k && !mapGet (fun _ => false) (s.d d).bankUsed k then
          moveBank s d k 1
        else s) s (range 0 32)
    else s
  s.upd d fun x => { x with bankUsed := [] }

/-! ### Error injection (R378) -/

/-- SPAD_INJECT_WRITE. -/
def spadInject (s : Chip) (d : Fin 4) (v : Word) : Chip :=
  ((s.setFld d Rf.SPAD_INJECT_MASK (getBits v 0 20)).setFld d Rf.SPAD_INJECT_LANE (getBits v 20 2)).setFld d
    Rf.SPAD_INJECT_ARM (getBits v 31 1)

/-- BMEM_INJECT_WRITE. -/
def bmemInject (s : Chip) (d : Fin 4) (v : Word) : Chip :=
  ((s.setFld d Rf.BMEM_INJECT_MASK (getBits v 0 20)).setFld d Rf.BMEM_INJECT_LANE (getBits v 20 2)).setFld d
    Rf.BMEM_INJECT_ARM (getBits v 31 1)

/-! ### Block memories (R350 to R353) -/

/-- The configuration words of grain `g`. -/
def grainFrames (x : DieSt) (g : Nat) : List (Nat × Word) := x.frames.filter fun e => e.1 / 40 / 2048 == g

/-- The image marks block memory `b` as a FIFO (R349, R353); a grain without an image has none.
DESIGN CHOICE, log 15; DEDUCED, log 99. -/
def isFifo (s : Chip) (d : Fin 4) (b : Nat) : Bool :=
  let fs := grainFrames (s.d d) (b / 16)
  !fs.isEmpty && Config.imageFifo fs b

/-- The image puts its output register into use (R393). -/
def isLat2 (s : Chip) (d : Fin 4) (b : Nat) : Bool :=
  let fs := grainFrames (s.d d) (b / 16)
  !fs.isEmpty && Config.imageLat2 fs b

/-- The reply of a lane read. -/
def laneReply (r : ReadRes) : Reply :=
  match r with
  | .val q _ => .lanes q
  | .poison => .poison
  | .stall => .none

/-- BMEM_PORT_ACCESS (R350 to R352): fabric logic reads or writes a word at port A or B; a FIFO's ports move words under
R353 instead. DESIGN CHOICE, log 94. -/
def bmemPortAccess (d : Fin 4) (b : Fin 1536) (wr : Bool) (word : Fin 1024) (en : BitVec 4) (data : BitVec 56)
    (s : Chip) : Chip :=
  whenUp s d fun s =>
    if isFifo s d b.val then s
    else if wr then (writeWord s d .bmem (1024 * b.val + word.val) en.toNat data .plain).1
    else
      let r := readWord s d .bmem (1024 * b.val + word.val) 15 .far
      { r.1 with reply := laneReply r.2 }

/-- The FIFO state of block memory `b`. -/
def fifoAt (s : Chip) (d : Fin 4) (b : Nat) : FifoSt := mapGet (fun _ => {}) (s.d d).fifos b

/-- Replace the FIFO state of block memory `b`. -/
def setFifo (s : Chip) (d : Fin 4) (b : Nat) (f : FifoSt) : Chip :=
  s.upd d fun x => { x with fifos := mapPut (fun _ => {}) x.fifos b f }

/-- BMEM_FIFO_WRITE (R353). -/
def bmemFifoWrite (d : Fin 4) (b : Fin 1536) (data : BitVec 56) (s : Chip) : Chip :=
  whenUp s d fun s =>
    let n := s.fld d (Rf.BMEM_MODE_COUNT.at b.val)
    if !isFifo s d b.val then s
    else if 1024 ≤ n then s.setFld d (Rf.BMEM_MODE_OVERFLOW.at b.val) 1
    else
      (writeWord s d .bmem (1024 * b.val + ((fifoAt s d b.val).head + n) % 1024) 15 data .plain).1.setFld d
        (Rf.BMEM_MODE_COUNT.at b.val) (n + 1)

/-- BMEM_FIFO_READ (R353). -/
def bmemFifoRead (d : Fin 4) (b : Fin 1536) (s : Chip) : Chip :=
  whenUp s d fun s =>
    let n := s.fld d (Rf.BMEM_MODE_COUNT.at b.val)
    let f := fifoAt s d b.val
    if !isFifo s d b.val then s
    else if n = 0 then { s.setFld d (Rf.BMEM_MODE_UNDERFLOW.at b.val) 1 with reply := .lanes f.last }
    else
      let r := readWord s d .bmem (1024 * b.val + f.head) 15 .far
      let q := match r.2 with
        | .val q _ => q
        | _ => markWord
      { (setFifo r.1 d b.val { head := (f.head + 1) % 1024, last := q }).setFld d (Rf.BMEM_MODE_COUNT.at b.val) (n - 1)
        with reply := laneReply r.2 }

/-! ### Lining wipes (R368, R369, R385, R391) -/

/-- A wipe of die `e`'s Lining begins, or joins one that runs; a tamper's cause is recorded in either case (R385).
DEDUCED, log 100. -/
def beginWipe (s : Chip) (e : Fin 4) (cause : Nat) : Chip :=
  let s := if s.flag e Rf.LINING_STAT_WIPING && 2 < cause then s else s.setFld e Rf.LINING_STAT_CAUSE cause
  s.setFld e Rf.LINING_STAT_WIPING 1

/-- A wipe of every die's Lining (R368); a load that runs fails (R752). -/
def wipeLining (s : Chip) (cause : Fin 4 → Nat) : Chip :=
  cfgWiped (overAll (fun s e => beginWipe s e (cause e)) s dies)

/-- LINING_WIPE: a write of LINING.CTL.WIPE on any die. -/
def liningWipe (s : Chip) : Chip := wipeLining s fun _ => 4

/-- The wipe of die `d`'s Lining ends: every word is zero (R369, R391). -/
def endWipe (s : Chip) (d : Fin 4) : Chip :=
  let s := s.upd d fun x => { x with lining := [] }
  let s := ((s.setFld d Rf.LINING_STAT_WIPING 0).setFld d Rf.LINING_STAT_WIPED 1).addFld d Rf.LINING_WIPES_COUNT 1
  raise s d 0x000 K.LINWIPE 0 (s.fld d Rf.LINING_STAT_CAUSE)

/-- LINING_WIPE_DONE. -/
def liningWipeDone (d : Fin 4) (s : Chip) : Chip :=
  whenUp s d fun s => if s.flag d Rf.LINING_STAT_WIPING then endWipe s d else s

/-! ### Meanings -/

/-- BANK_REQ_WRITE. -/
def execBankReqWrite (t : Fin 256) (d : Fin 4) (k : Fin 32) (v : Word) (s : State) : Out :=
  act s fun s => whenGranted s d t (Rf.SPAD_BANK_REQ.at k.val) fun s => bankWrite s d k.val v
/-- BANK_STATE_DONE. -/
def execBankStateDone (d : Fin 4) (k : Fin 32) (s : State) : Out :=
  act s fun s => bankStateDone d k s
/-- BANK_WAKE_DONE. -/
def execBankWakeDone (d : Fin 4) (k : Fin 32) (s : State) : Out :=
  act s fun s => bankWakeDone d k s
/-- LINING_WIPE. -/
def execLiningWipe (t : Fin 256) (d : Fin 4) (s : State) : Out :=
  act s fun s => whenSuper s d t Rf.LINING_CTL_WIPE liningWipe
/-- LINING_WIPE_DONE. -/
def execLiningWipeDone (d : Fin 4) (s : State) : Out :=
  act s fun s => liningWipeDone d s
/-- SPAD_INJECT_WRITE. -/
def execSpadInjectWrite (t : Fin 256) (d : Fin 4) (v : Word) (s : State) : Out :=
  act s fun s => whenGranted s d t Rf.SPAD_INJECT_MASK fun s => spadInject s d v
/-- BMEM_INJECT_WRITE. -/
def execBmemInjectWrite (t : Fin 256) (d : Fin 4) (v : Word) (s : State) : Out :=
  act s fun s => whenGranted s d t Rf.BMEM_INJECT_MASK fun s => bmemInject s d v
/-- BMEM_PORT_ACCESS. The two ports act alike on the contents. -/
def execBmemPortAccess (d : Fin 4) (b : Fin 1536) (_portB : Bool) (wr : Bool) (word : Fin 1024) (en : BitVec 4)
    (data : BitVec 56) (s : State) : Out :=
  act s fun s => bmemPortAccess d b wr word en data s
/-- BMEM_FIFO_WRITE. -/
def execBmemFifoWrite (d : Fin 4) (b : Fin 1536) (data : BitVec 56) (s : State) : Out :=
  act s fun s => bmemFifoWrite d b data s
/-- BMEM_FIFO_READ. -/
def execBmemFifoRead (d : Fin 4) (b : Fin 1536) (s : State) : Out :=
  act s fun s => bmemFifoRead d b s

end Sys2Proof.Machine
end

