-- ==== Sys2Proof/Machine/Sums.lean ====
section
/-! DEFINITION. Pleat's sum store and accumulation sets (R504 to R514, R519, R544, R545). -/

namespace Sys2Proof.Machine

/-! ### Sets -/

/-- Set `k` is enabled. -/
def setOn (s : Chip) (d : Fin 4) (k : Nat) : Bool := decide (d.val ≤ 1) && s.flag d (Rf.PLEAT_SET_CTL_ENABLE.at k)

/-- The owner of set `k`. -/
def setTen (s : Chip) (d : Fin 4) (k : Nat) : Fin 256 := Fin.ofNat 256 (s.fld d (Rf.PLEAT_SET_CFG_TENANT.at k))

/-- LENGTH of set `k`. -/
def setLen (s : Chip) (d : Fin 4) (k : Nat) : Nat := s.fld d (Rf.PLEAT_SET_LEN_LENGTH.at k)

/-- The first entry of a half of set `k` (R506). -/
def halfBase (s : Chip) (d : Fin 4) (k : Nat) (committed : Bool) : Nat :=
  s.fld d (Rf.PLEAT_SET_BASE_BASE.at k) + b2n ((s.pset d k).cur == committed) * setLen s d k

/-- A job that runs reads set `k` (R519). -/
def jobReads (s : Chip) (d : Fin 4) (k : Nat) : Bool :=
  match (s.d d).pleat.run with
  | some j => 2 ≤ s.fld d (Rf.PLEAT_JOB_CTL_KIND.at j.slot) && !s.flag d (Rf.PLEAT_JOB_CTL_DIR.at j.slot) &&
      s.fld d (Rf.PLEAT_JOB_CTL_SET.at j.slot) == k
  | none => false

/-! ### Entries (R505, R508) -/

/-- SUM of an entry. -/
def entrySum (e : Quadlane) : Int := ofBits 42 e.toNat

/-- EXCL of an entry. -/
def entryExcl (e : Quadlane) : Nat := e.toNat / 2 ^ 42 % 2 ^ 13

/-- UNDER of an entry. -/
def entryUnder (e : Quadlane) : Bool := bit e.toNat 55

/-- An entry from its fields. -/
def mkEntry (sum : Int) (excl : Nat) (under : Bool) : Quadlane :=
  BitVec.ofNat 56 (toBits 42 sum + min excl 8191 * 2 ^ 42 + b2n under * 2 ^ 55)

/-- Entry `i` of the sum store. -/
def Chip.sumAt (s : Chip) (d : Fin 4) (i : Nat) : Quadlane := mapGet (fun _ => 0) (s.d d).pleat.sums i

/-- Committed entry `i` of set `k`: zero while RECORDS is 0 (R508). -/
def committedEntry (s : Chip) (d : Fin 4) (k i : Nat) : Quadlane :=
  if s.fld d (Rf.PLEAT_SET_STAT_RECORDS.at k) = 0 then 0 else s.sumAt d (halfBase s d k true + i)

/-- The working entry that a sample makes of a committed one (R508). -/
def addSample (mark : Bool) (e : Quadlane) (x : Lane) : Quadlane :=
  if mark && (x == 0x2000 || x == 0x1FFF) then
    mkEntry (entrySum e) (entryExcl e + 1) (entryUnder e || x == 0x2000)
  else mkEntry (entrySum e + ofBits 14 x.toNat) (entryExcl e) (entryUnder e)

/-- Write sample `i` into the working half of set `k`. -/
def workSample (s : Chip) (d : Fin 4) (k i : Nat) (x : Lane) : Chip :=
  let e := addSample (s.flag d (Rf.PLEAT_SET_CFG_MARK.at k)) (committedEntry s d k i) x
  let at_ := halfBase s d k false + i
  s.onPleat d fun p => { p with sums := mapPut (fun _ => 0) p.sums at_ e }

/-! ### Commit and discard (R509 to R511, R519) -/

/-- The working half of set `k` is committed now (R510, R511). -/
def commitNow (s : Chip) (d : Fin 4) (k : Nat) : Chip :=
  let x := s.pset d k
  let s := s.setPset d k { x with cur := !x.cur, chan := none, due := false }
  let n := s.fld d (Rf.PLEAT_SET_STAT_RECORDS.at k) + 1
  let s := s.setFld d (Rf.PLEAT_SET_STAT_RECORDS.at k) n
  if decide (2 ^ s.fld d (Rf.PLEAT_SET_CFG_LOG2AVG.at k) ≤ n) then
    let s := s.setFld d (Rf.PLEAT_SET_STAT_COMPLETE.at k) 1
    if s.flag d (Rf.PLEAT_SET_CFG_AUTOOUT.at k) then s.onPleat d fun p => { p with outs := p.outs ++ [k] } else s
  else s

/-- The working half of set `k` is to be committed: a job that reads the set holds it (R519). -/
def commitSet (s : Chip) (d : Fin 4) (k : Nat) : Chip :=
  if jobReads s d k || (s.d d).pleat.outs.contains k then s.setPset d k { s.pset d k with due := true }
  else commitNow s d k

/-- Commits of set `k` that were held go on. -/
def releaseSet (s : Chip) (d : Fin 4) (k : Nat) : Chip :=
  if (s.pset d k).due then commitNow s d k else s

/-- The sets whose working half the capture of channel `ch` fills and no commit is due for. -/
def setsOf (s : Chip) (d : Fin 4) (ch : Nat) : List Nat :=
  ((s.d d).pleat.sets.filter fun e => e.2.chan == some ch && !e.2.due).map Prod.fst

/-- Resolve the working halves of channel `ch`: committed or discarded (R509). -/
def settleChan (s : Chip) (d : Fin 4) (ch : Nat) (commit : Bool) : Chip :=
  overAll (fun s k => if commit then commitSet s d k else discardSet s d k) s (setsOf s d ch)

/-- The working halves of channel `ch` that a die without BASTE_ACQ resolves at DONE, or at A (R509). -/
def settlePlain (s : Chip) (d : Fin 4) (ch : Nat) (atA valid : Bool) : Chip :=
  if feature s d 7 then s
  else overAll (fun s k =>
    if s.flag d (Rf.PLEAT_SET_CFG_VALIDONLY.at k) == atA then
      (if !atA || valid then commitSet s d k else discardSet s d k)
    else s) s (setsOf s d ch)

/-! ### Which set takes a capture (R507, R544) -/

/-- Why a set of the channel does not take the capture; none when it does. -/
def setRefuses (s : Chip) (d : Fin 4) (k : Nat) (t : Fin 256) (len : Nat) : Option Nat :=
  if setTen s d k ≠ t then some 1
  else if setLen s d k ≠ len then some 2
  else if s.flag d (Rf.PLEAT_SET_STAT_COMPLETE.at k) || (s.d d).pleat.outs.contains k then some 3
  else if (s.pset d k).chan.isSome then some 4
  else if s.flag d (Rf.PLEAT_SET_STAT_ERROR.at k) then some 5
  else none

/-- The enabled sets of a channel, lowest first. -/
def chanSets (s : Chip) (d : Fin 4) (ch : Nat) : List Nat :=
  (range 0 16).filter fun k => setOn s d k && s.fld d (Rf.PLEAT_SET_CFG_CHAN.at k) == ch

/-- PLSKIP (R544). DEDUCED, log 117. -/
def plskip (s : Chip) (d : Fin 4) (ch : Nat) (t : Fin 256) (set reason : Nat) : Chip :=
  let s := if set < 16 then s.addFld d (Rf.PLEAT_SET_SKIP_SKIPPED.at set) 1 else s
  raise s d 0x210 K.PLSKIP t (ch + set * 16 + reason * 256)

/-- The first sample of a capture armed with PLEAT = 1 chooses its set, or PLSKIP is raised (R507, R519, R544).
DEDUCED, log 118. -/
def chooseSet (s : Chip) (d : Fin 4) (ch : Nat) (t : Fin 256) (len : Nat) : Chip :=
  let ks := chanSets s d ch
  match ks.find? fun k => setRefuses s d k t len == none with
  | some k => s.setPset d k { s.pset d k with chan := some ch }
  | none =>
    match ks.head? with
    | some k => plskip s d ch t k ((setRefuses s d k t len).getD 0)
    | none => plskip s d ch t 15 0

/-- What the sum-store read of a sample finds (R504, R545). -/
inductive SumErr | clean | corrected | bad
  deriving DecidableEq, Repr

/-- The code of a finding: 0 clean, 1 corrected, else uncorrectable. -/
def sumErr (n : Nat) : SumErr := if n = 0 then .clean else if n = 1 then .corrected else .bad

/-- A read of entry `i` of set `k` finds an error (R545). -/
def sumFound (s : Chip) (d : Fin 4) (k i : Nat) (e : SumErr) : Chip :=
  match e with
  | .clean => s
  | .corrected => raise s d 0x210 K.PLCE (setTen s d k) (k + i * 16)
  | .bad =>
    raiseT (discardSet (s.setFld d (Rf.PLEAT_SET_STAT_ERROR.at k) 1) d k) d 0x210 K.PLUE (setTen s d k) (k + i * 16) false

/-- A sample of a capture with PLEAT = 1 (R507, R508, R545). -/
def pleatSample (s : Chip) (d : Fin 4) (ch : Nat) (t : Fin 256) (len i : Nat) (x : Lane) (e : SumErr) : Chip :=
  let s := if i = 0 then chooseSet s d ch t len else s
  match (setsOf s d ch).head? with
  | some k =>
    let s := sumFound s d k (halfBase s d k true + i) e
    if e = .bad then s else workSample s d k i x
  | none => s

end Sys2Proof.Machine
end

