-- ==== Sys2Proof/Machine/Acq.lean ====
section
/-! DEFINITION. Acquisition: converters, captures, overload recovery, validity and pulse outputs (R444 to R466, R487 to
R490, R494 to R498), and the meanings of those commands. -/

namespace Sys2Proof.Machine

/-! ### Instants (R452); times from tick start in steps of 25 ps, 40 to a tq -/

/-- The last capture of local channel `c`. -/
def Chip.cap (s : Chip) (d : Fin 4) (c : Nat) : Option Capture := mapGet (fun _ => none) (s.d d).caps c

/-- Replace the last capture of local channel `c`. -/
def Chip.setCap (s : Chip) (d : Fin 4) (c : Nat) (x : Option Capture) : Chip :=
  s.upd d fun y => { y with caps := mapPut (fun _ => none) y.caps c x }

/-- The instant of sample `k` of a capture on channel `c` that starts at `start` × 50 ps. -/
def sampleAt (c start k : Nat) : Nat :=
  if c < 2 then 2 * start + 25 * k else ((start + 19) / 20 + 200 * k) * 40

/-- The offset of now from `t`, in steps of 25 ps. -/
def offset25 (s : Chip) (d : Fin 4) (t : Time) : Nat := (s.now d - t).toNat * 40

/-- VADC and VADCL of the die are in range (R907). -/
def adcRails (s : Chip) (d : Fin 4) : Bool := s.flag d Rf.PWR_RAIL_VADC && s.flag d Rf.PWR_RAIL_VADCL

/-- The ready bit of channel `c` (R449); it reads 0 while a converter rail is out of range (R907). -/
def chanReady (s : Chip) (d : Fin 4) (c : Nat) : Bool := adcRails s d && bit (s.fld d Rf.ACQ_STAT_READY) (min c 2)

/-! ### ARM (R450, R451) -/

/-- What ARM reports: the result code of R124, or 16 where it waits for a bank, and, for ABSENT, the unit and feature of
R43. -/
structure ArmRes where
  code : Nat
  unit : Nat := 0
  feat : Nat := 0
  deriving DecidableEq, Repr

/-- A word of a capture descriptor, as the Yoke reads it. DESIGN CHOICE, log 101. -/
def descWord (s : Chip) (d : Fin 4) (w : Nat) : Chip × Option Nat :=
  let r := readMem s d .spad w 15 .outside
  match r.2 with
  | .val q _ => (r.1, some q.toNat)
  | _ => (r.1, none)

/-- Bits [lo+n-1:lo] of a number. -/
def natBits (v lo n : Nat) : Nat := v / 2 ^ lo % 2 ^ n

/-- The capture that descriptor words 0 to 3 describe. -/
def descCapture (s : Chip) (d : Fin 4) (w : Nat) (t : Fin 256) (w0 w1 w2 : Nat) : Capture :=
  { ten := t, ilkReq := bit w0 4, pulseChk := bit w0 5, pulse := natBits w0 6 2, pleat := bit w0 8, store := bit w0 9,
    len := natBits w1 0 19, buf := natBits w1 20 19, desc := w, start := natBits w2 0 31, tol := natBits w2 32 19,
    armedAt := elapsed s d, tick := (s.d d).tick.num, tickStart := (s.d d).tick.start, basis := feature s d 7 }

/-- Check 3 of R451: what of the capture names an absent unit or feature. -/
def armAbsent (s : Chip) (d : Fin 4) (chan : Nat) (f0 ilkReq pulseChk : Bool) : Option (Nat × Nat) :=
  if !present s d 8 then some (8, 0xFF)
  else if chan < 2 ∧ !feature s d 0 then some (8, 0)
  else if 2 ≤ chan ∧ chan < 10 ∧ !feature s d 1 then some (8, 1)
  else if (f0 || ilkReq) && !present s d 9 then some (9, 0xFF)
  else if pulseChk && !feature s d 2 then some (8, 2)
  else none

/-- Check 4 of R451: a field or the timing is out of range. -/
def armRange (s : Chip) (d : Fin 4) (chan w0 w1 w2 w3 : Nat) (c : Capture) : Bool :=
  let words := (c.len + 3) / 4
  decide (10 ≤ chan) || w0 / 2 ^ 10 != 0 || natBits w1 19 1 != 0 || w1 / 2 ^ 39 != 0 || natBits w2 31 1 != 0 ||
    w2 / 2 ^ 51 != 0 || w3 != 0 || c.len == 0 || decide (262144 < c.len) || decide (262143 < c.tol) ||
    (!c.store && !c.pleat) || (c.store && decide (524288 < c.buf + words)) ||
    (c.store && !permitted s d c.ten true (0x2000000000 + 4 * c.buf) (4 * words)) ||
    decide (sampleAt chan c.start 0 < (elapsed s d + 64) * 40) ||
    decide (((s.d d).tick.set.a - 128) * 40 < sampleAt chan c.start (c.len - 1))

/-- Arm a capture whose descriptor lies at scratchpad lane `la` for tenant `t`; `f0` arms the laser (R130, R451). -/
def armCapture (s : Chip) (d : Fin 4) (la : Nat) (t : Fin 256) (f0 : Bool) : Chip × ArmRes :=
  if (s.d d).tick.phase ≠ .acquire then (s, { code := 5 })
  else if tenFaulted s t then (s, { code := 6 })
  else if !present s d 8 then (s, { code := 4, unit := 8, feat := 0xFF })
  else if f0 && !present s d 9 then (s, { code := 4, unit := 9, feat := 0xFF })
  else if la % 4 ≠ 0 ∨ 524288 < la / 4 + 8 then (s, { code := 9 })
  else
    let w := la / 4
    let off := (range w 4).filter fun i => !bankOn s d (bankOf i)
    if !off.isEmpty then (overAll (fun s i => wakeBank s d (bankOf i)) s off, { code := 16 })
    else
    let r0 := descWord s d w
    let r1 := descWord r0.1 d (w + 1)
    let r2 := descWord r1.1 d (w + 2)
    let r3 := descWord r2.1 d (w + 3)
    match r0.2, r1.2, r2.2, r3.2 with
    | some w0, some w1, some w2, some w3 =>
      let s := r3.1
      let chan := natBits w0 0 4
      let c := descCapture s d w t w0 w1 w2
      match armAbsent s d chan f0 c.ilkReq c.pulseChk with
      | some (u, n) => (s, { code := 4, unit := u, feat := n })
      | none =>
        if armRange s d chan w0 w1 w2 w3 c then (s, { code := 9 })
        else
          let holds := match s.cap d chan with
            | some o => o.tickStart == c.tickStart && o.tick == c.tick
            | none => false
          if holds || !chanReady s d chan then (s, { code := 3 })
          else
            let s := s.setCap d chan (some c)
            let s := if f0 then
                { (s.setFld 0 Rf.ILK_STAT_ARMED 1) with ilk := { s.ilk with block := false } }
              else s
            (s, { code := 0 })
    | _, _, _, _ => (r3.1, { code := 9 })

/-! ### Samples (R447, R448, R453, R459, R460) -/

/-- The recovery interval of channel `ch` ends: RCV, with the time of its first sample (R496).
DEDUCED, log 102. -/
def closeRecovery (s : Chip) (d : Fin 4) (ch : Nat) (c : Capture) : Chip × Capture :=
  match c.recv with
  | none => (s, c)
  | some r =>
    let pay := r.first + r.count * 2 ^ 18 + b2n r.severe * 2 ^ 25 + b2n (r.code == 0x1FFF) * 2 ^ 26
    let e := mkRec s d (0x010 + ch) K.RCV c.ten pay false false
    (sendRec s d { e with time := c.tickStart + BitVec.ofNat 64 (sampleAt ch c.start r.first / 40) },
      { c with recv := none })

/-- One fast sample after another: runs, recovery and the code delivered (R459, R460). -/
def fastSample (s : Chip) (d : Fin 4) (ch : Nat) (c : Capture) (x : Lane) (severe : Bool) : Chip × Capture × Lane :=
  if x == 0x2000 || x == 0x1FFF then
    let r := closeRecovery s d ch c
    let run := match r.2.run with
      | some q => { q with last := x, severe := q.severe || severe }
      | none => { first := c.n, last := x, severe := severe }
    (r.1, { r.2 with run := some run, under := r.2.under + b2n (x == 0x2000), overCnt := r.2.overCnt + b2n (x == 0x1FFF) }, x)
  else
    let c := match c.run with
      | some q =>
        { c with
          run := none
          recv := some { first := c.n, count := 0, len := if q.severe then 64 else 13, severe := q.severe, code := q.last }
          dist := c.dist ++
            [(sampleAt ch c.start q.first, sampleAt ch c.start c.n + (if q.severe then 400 else 125))] }
      | none => c
    match c.recv with
    | some r =>
      let code := if s.flag d Rf.ACQ_CTL_RCVMARK then r.code else x
      let c := { c with recv := some { r with count := r.count + 1 }, rcv := c.rcv + 1 }
      if r.count + 1 = r.len then
        let q := closeRecovery s d ch c
        (q.1, q.2, code)
      else (s, c, code)
    | none => (s, c, x)

/-- One slow sample. -/
def slowSample (c : Capture) (x : Lane) : Capture :=
  { c with under := c.under + b2n (x == 0x2000), overCnt := c.overCnt + b2n (x == 0x1FFF) }

/-- Write sample `k` of a capture, with the marks that fill its last word (R453). -/
def storeSample (s : Chip) (d : Fin 4) (ch : Nat) (c : Capture) (k : Nat) (x : Lane) : Chip :=
  let lane := k % 4
  let rest := if k + 1 = c.len then (range (lane + 1) (3 - lane)).foldl (fun m i => m + 2 ^ i) 0 else 0
  let q := overLanes (2 ^ lane) markWord (splatLane x)
  ingestPut s d { chan := ch, word := c.buf + k / 4, mask := 2 ^ lane + rest, data := q, ten := c.ten, basis := c.basis }

/-- INGEST_WRITE (R452, R453, R459): the next sample of the capture armed on local channel `ch`, as converted; `severe` is
the overload comparator's finding at its instant, and `sumRead` what Pleat's read of the sum store finds (0 clean,
1 corrected, else uncorrectable). -/
def ingestWrite (d : Fin 4) (ch : Fin 10) (x : BitVec 14) (severe : Bool) (sumRead : Nat) (s : Chip) : Chip :=
  whenUp s d fun s =>
    match s.cap d ch.val with
    | none => s
    | some c =>
      if !c.open_ || decide (c.len ≤ c.n) || decide (offset25 s d c.tickStart < sampleAt ch.val c.start c.n) then s
      else
        let r := if ch.val < 2 then fastSample s d ch.val c x severe else (s, slowSample c x, x)
        let c := { r.2.1 with n := c.n + 1, got := r.2.2 :: c.got,
                              ilkBad := c.ilkBad || (c.ilkReq && !r.1.flag 0 Rf.ILK_STAT_LASEN) }
        let q := if c.n = c.len then closeRecovery r.1 d ch.val c else (r.1, c)
        let s := if c.store then storeSample q.1 d ch.val c (c.n - 1) r.2.2 else q.1
        let s := if c.pleat then pleatSample s d ch.val c.ten c.len (c.n - 1) r.2.2 (sumErr sumRead) else s
        s.setCap d ch.val (some q.2)

/-! ### DONE and validity (R454, R455, R457, R460) -/

/-- Samples of a capture on `ch` whose instants lie in an interval. -/
def countIn (ch : Nat) (c : Capture) (iv : List (Nat × Nat)) : Nat :=
  ((range 0 c.len).filter fun k =>
    iv.any fun p => decide (p.1 ≤ sampleAt ch c.start k) && decide (sampleAt ch c.start k < p.2)).length

/-- NBR of a capture: its samples within disturbances of the neighbour in the same tick (R444, R460).
DEDUCED, log 103. -/
def nbrOf (s : Chip) (d : Fin 4) (ch : Nat) (c : Capture) : Nat :=
  if 2 ≤ ch then 0
  else match s.cap d (1 - ch) with
    | some o =>
      if o.tickStart = c.tickStart then
        let openRun := match o.run with
          | some q => [(sampleAt (1 - ch) o.start q.first, sampleAt (1 - ch) o.start o.n)]
          | none => []
        countIn ch c (o.dist ++ openRun)
      else 0
    | none => 0

/-- The placed pulses of output `k`. -/
def Chip.pulsesOf (s : Chip) (k : Nat) : List Pulse := mapGet (fun _ => []) s.pulses k

/-- PULSE_SEEN of a capture on channel `ch` (R457). -/
def pulseSeenFor (s : Chip) (ch : Nat) (c : Capture) : Bool :=
  let ps := (s.pulsesOf c.pulse).filter fun p =>
    p.tickStart == c.tickStart && decide (c.armedAt * 20 ≤ p.edge) &&
      decide (2 * p.edge ≤ sampleAt ch c.start (c.len - 1))
  !c.pulseChk || (!ps.isEmpty && ps.all fun p => p.seen)

/-- The record header (R455). -/
def headerWords (c : Capture) (nbr : Nat) : List Nat :=
  [c.tick.toNat % 2 ^ 32 + b2n c.ilkOk * 2 ^ 32 + b2n c.pulseSeen * 2 ^ 33 + b2n c.rangeOk * 2 ^ 34,
    c.under + c.overCnt * 2 ^ 19, c.rcv + nbr * 2 ^ 19, c.len]

/-- Write header words from word `w` on. -/
def putHeader (s : Chip) (d : Fin 4) (ch : Nat) (c : Capture) : Nat → List Nat → Chip
  | _, [] => s
  | w, v :: vs =>
    putHeader (ingestPut s d { chan := ch, word := w, mask := 15, data := BitVec.ofNat 56 v, ten := c.ten, basis := c.basis })
      d ch c (w + 1) vs

/-- The words the header goes to: none for a capture without a descriptor in the scratchpad. -/
def headerPlace (c : Capture) : List Nat := if c.desc + 8 ≤ 524288 then range (c.desc + 4) 4 else []

/-- The header's banks that are not ON wake (R361). -/
def wakeHeader (s : Chip) (d : Fin 4) (c : Capture) : Chip :=
  overAll (fun s w => if bankOn s d (bankOf w) then s else wakeBank s d (bankOf w)) s (headerPlace c)

/-- CAPTURE_DONE (R454, R455, R457): the last sample has been written and the header follows. -/
def captureDone (d : Fin 4) (ch : Fin 10) (s : Chip) : Chip :=
  whenUp s d fun s =>
    match s.cap d ch.val with
    | none => s
    | some c =>
      if !c.open_ || decide (c.n < c.len) || fifoFill s d ch.val != 0 then s
      else if (headerPlace c).any fun w => !bankOn s d (bankOf w) then wakeHeader s d c
      else
        let c := { c with ilkOk := !c.ilkReq || !c.ilkBad, pulseSeen := pulseSeenFor s ch.val c,
                          rangeOk := decide (c.under + c.overCnt + c.rcv ≤ c.tol) }
        let s := putHeader s d ch.val c (c.desc + 4)
          (if c.desc + 8 ≤ 524288 then headerWords c (nbrOf s d ch.val c) else [])
        settlePlain (releaseBanks (s.setCap d ch.val (some { c with isDone := true })) d) d ch.val false false

/-- The ACQST word of a channel (R129, R456). -/
def acqstWord (s : Chip) (d : Fin 4) (ch : Nat) : Word :=
  match s.cap d ch with
  | none => 0
  | some c =>
    BitVec.ofNat 32 (b2n c.isDone + 2 * b2n c.valid + 4 * b2n c.ilkOk + 8 * b2n c.pulseSeen + 16 * b2n c.rangeOk +
      2 ^ 16 * min (c.under + c.overCnt + c.rcv) 0xFFFF)

/-- CAPLATE (R497). -/
def caplate (s : Chip) (d : Fin 4) (ch : Nat) (c : Capture) (abandoned : Bool) : Chip :=
  raise s d 0x01F K.CAPLATE c.ten (ch + 16 * b2n abandoned)

/-- Channels with a capture. -/
def capChans (s : Chip) (d : Fin 4) : List Nat := (s.d d).caps.map Prod.fst

/-- The captures of die `d` at offset A (R457, R458). DEDUCED, log 104. -/
def capturesAtA (s : Chip) (d : Fin 4) : Chip :=
  overAll (fun s ch =>
    match s.cap d ch with
    | none => s
    | some c =>
      if c.past || c.abandoned then s
      else
        let v := c.isDone && c.ilkOk && c.pulseSeen && c.rangeOk
        let s := s.setCap d ch (some { c with past := true, valid := v })
        let s := if c.isDone then s else caplate s d ch c false
        let s := settlePlain s d ch true v
        if c.basis && !v then
          s.upd d fun x => { x with baste := { x.baste with capBad := if x.baste.capBad.contains c.ten then x.baste.capBad
                                                 else c.ten :: x.baste.capBad } }
        else s) s (capChans s d)

/-- The capture of channel `ch` is abandoned (R458, R494). -/
def abandon (s : Chip) (d : Fin 4) (ch : Nat) (c : Capture) : Chip :=
  let s := s.setCap d ch (some { c with abandoned := true })
  let s := s.upd d fun x => { x with ingestQ := x.ingestQ.filter fun e => e.chan != ch }
  settleChan (releaseBanks (caplate s d ch c true) d) d ch false

/-- The captures of die `d` at the next tick start (R458). -/
def capturesAtStart (s : Chip) (d : Fin 4) : Chip :=
  overAll (fun s ch =>
    match s.cap d ch with
    | some c => if c.open_ then abandon s d ch c else s
    | none => s) s (capChans s d)

/-! ### Converters (R449, R494) -/

/-- The channels of an enable bit. -/
def chansOf (i : Nat) : List Nat := if i = 0 then [0] else if i = 1 then [1] else range 2 8

/-- Enable bit `i` becomes `v`. -/
def setEnable (s : Chip) (d : Fin 4) (i : Nat) (f : Fld) (v : Bool) : Chip :=
  let s := s.setFld d f (b2n v)
  if v then s
  else
    let s := s.setFld d Rf.ACQ_STAT_READY (clrBit (s.fld d Rf.ACQ_STAT_READY) i)
    overAll (fun s ch => match s.cap d ch with
      | some c => if c.open_ then abandon s d ch c else s
      | none => s) s (chansOf i)

/-- ACQ_CTL_WRITE (R449, R494). -/
def acqCtl (s : Chip) (d : Fin 4) (v : Word) : Chip :=
  let s := setEnable s d 0 Rf.ACQ_CTL_FAST_EN_0 (getBits v 0 1 == 1)
  let s := setEnable s d 1 Rf.ACQ_CTL_FAST_EN_1 (getBits v 1 1 == 1)
  let s := setEnable s d 2 Rf.ACQ_CTL_SLOW_EN (getBits v 2 1 == 1)
  s.setFld d Rf.ACQ_CTL_RCVMARK (getBits v 3 1)

/-- CONVERTER_READY (R449): the channels of enable bit `i` have settled. -/
def converterReady (d : Fin 4) (i : Fin 3) (s : Chip) : Chip :=
  whenUp s d fun s =>
    let en := if i = 0 then s.flag d Rf.ACQ_CTL_FAST_EN_0 && feature s d 0
      else if i = 1 then s.flag d Rf.ACQ_CTL_FAST_EN_1 && feature s d 0
      else s.flag d Rf.ACQ_CTL_SLOW_EN && feature s d 1
    if en then s.setFld d Rf.ACQ_STAT_READY (setBit (s.fld d Rf.ACQ_STAT_READY) i.val) else s

/-- STAT.ARMED: the channels that hold a capture armed in this tick (R501). -/
def armedBits (s : Chip) (d : Fin 4) : Nat :=
  ((range 0 10).map fun ch =>
    match s.cap d ch with
    | some c => if ticking s d && c.tickStart == (s.d d).tick.start && !c.abandoned then 2 ^ ch else 0
    | none => 0).foldl (· + ·) 0

/-! ### Pulse outputs (R131, R132, R463 to R465, R498) -/

/-- Replace the pulses of output `k`. DEDUCED, log 106. -/
def setPulses (s : Chip) (k : Nat) (ps : List Pulse) : Chip :=
  { s with pulses := mapPut (fun _ => []) s.pulses k ps }

/-- Pulses of output `k` that have not ended. -/
def queuedPulses (s : Chip) (k : Nat) : Nat := ((s.pulsesOf k).filter fun p => !p.fell).length

/-- The absolute time of an edge of a pulse, in 50 ps steps. -/
def edgeAbs (p : Pulse) (e : Nat) : Nat := p.tickStart.toNat * 20 + e

/-- A new pulse overlaps one already placed on the output: its rising edge lies less than 1 ns after the other's falling
edge, or before it (R465). DEDUCED, log 105. -/
def overlapsPulse (s : Chip) (k : Nat) (t : Time) (edge : Nat) : Bool :=
  (s.pulsesOf k).any fun p => !p.fell && decide (t.toNat * 20 + edge < edgeAbs p (p.edge + p.width) + 20)

/-- FIRE on output `k` (R131, R132, R465): the result code. -/
def firePulse (s : Chip) (k edge width : Nat) : Chip × Nat :=
  let p := (s.d 0).tick.set.p
  if !ticking s 0 || decide (p * 20 ≤ edge) || decide (width < 20) || decide (400000 < width) ||
      overlapsPulse s k (s.d 0).tick.start edge then (s, 9)
  else if edge < (elapsed s 0 + 64) * 20 then (s, 10)
  else if 16 ≤ queuedPulses s k then (s, 3)
  else
    (setPulses s k (s.pulsesOf k ++
      [{ tickStart := (s.d 0).tick.start, tick := (s.d 0).tick.num, edge := edge, width := width }]), 0)

/-- Change the first pulse of a list that `p` accepts. -/
def onFirst (p : Pulse → Bool) (f : Pulse → Pulse) : List Pulse → List Pulse
  | [] => []
  | x :: xs => if p x then f x :: xs else x :: onFirst p f xs

/-- The offset of now from a pulse's tick start, in 50 ps steps. -/
def offset50 (s : Chip) (p : Pulse) : Nat := (s.now 0 - p.tickStart).toNat * 20

/-- PULSE_EDGE (R463): the rising edge of the next placed pulse of output `k`. -/
def pulseEdge (k : Fin 4) (s : Chip) : Chip :=
  whenUp s 0 fun s =>
    setPulses s k.val (onFirst (fun p => !p.rose && decide (p.edge ≤ offset50 s p)) (fun p => { p with rose := true })
      (s.pulsesOf k.val))

/-- PULSE_END (R463, R465): the falling edge. -/
def pulseEnd (k : Fin 4) (s : Chip) : Chip :=
  whenUp s 0 fun s =>
    setPulses s k.val (onFirst (fun p => p.rose && !p.fell && decide (p.edge + p.width ≤ offset50 s p))
      (fun p => { p with fell := true }) (s.pulsesOf k.val))

/-- PMON_EDGE (R464, R490): a rising edge on PMON_k at `at50` × 50 ps from the tick start of the pulse it answers. -/
def pmonEdge (k : Fin 4) (at50 : Nat) (s : Chip) : Chip :=
  whenUp s 0 fun s =>
    let win := s.fld 0 (Rf.ACQ_PULSE_CTL_WIN.at k.val)
    setPulses s k.val (onFirst (fun p => !p.seen && !p.missed && decide (p.edge ≤ at50) && decide (at50 ≤ p.edge + win))
      (fun p => { p with seen := true }) (s.pulsesOf k.val))

/-- PMON_WINDOW_EXPIRE (R464, R498): the window of a pulse has passed without an edge. -/
def pmonWindowExpire (k : Fin 4) (s : Chip) : Chip :=
  whenUp s 0 fun s =>
    let win := s.fld 0 (Rf.ACQ_PULSE_CTL_WIN.at k.val)
    let late := fun (p : Pulse) => !p.seen && !p.missed && decide (p.edge + win < offset50 s p)
    match (s.pulsesOf k.val).find? late with
    | none => s
    | some p =>
      let s := setPulses s k.val (onFirst late (fun p => { p with missed := true }) (s.pulsesOf k.val))
      raise (s.setFld 0 (Rf.ACQ_PULSE_STAT_MISSED.at k.val) 1) 0 (0x01B + k.val) K.PMISS 0 p.edge

/-- Pulses that are over leave the lists at a tick start of die 0. -/
def dropPulses (s : Chip) : Chip :=
  overAll (fun s k => setPulses s k ((s.pulsesOf k).filter fun p => !p.fell || (!p.seen && !p.missed))) s (range 0 4)

/-! ### Meanings -/

/-- INGEST_WRITE. -/
def execIngestWrite (d : Fin 4) (c : Fin 10) (sample : BitVec 14) (severe : Bool) (sumRead : Nat) (s : State) : Out :=
  act s fun s => ingestWrite d c sample severe sumRead s
/-- CAPTURE_DONE. -/
def execCaptureDone (d : Fin 4) (c : Fin 10) (s : State) : Out :=
  act s fun s => captureDone d c s
/-- ACQ_CTL_WRITE. -/
def execAcqCtlWrite (t : Fin 256) (d : Fin 4) (v : Word) (s : State) : Out :=
  act s fun s => whenGranted s d t Rf.ACQ_CTL_RCVMARK fun s => acqCtl s d v
/-- CONVERTER_READY. -/
def execConverterReady (d : Fin 4) (i : Fin 3) (s : State) : Out :=
  act s fun s => converterReady d i s
/-- PULSE_EDGE. -/
def execPulseEdge (k : Fin 4) (s : State) : Out :=
  act s fun s => pulseEdge k s
/-- PULSE_END. -/
def execPulseEnd (k : Fin 4) (s : State) : Out :=
  act s fun s => pulseEnd k s
/-- PMON_EDGE. -/
def execPmonEdge (k : Fin 4) (at50 : Nat) (s : State) : Out :=
  act s fun s => pmonEdge k at50 s
/-- PMON_WINDOW_EXPIRE. -/
def execPmonWindowExpire (k : Fin 4) (s : State) : Out :=
  act s fun s => pmonWindowExpire k s

end Sys2Proof.Machine
end

