-- ==== Sys2Proof/Machine/Clk.lean ====
section
/-! DEFINITION. Clock sources, global networks and fabric resets (R303 to R315, R325 to R340), and the meanings of those
commands. -/

namespace Sys2Proof.Machine

/-! ### Frequencies, as fractions of kHz -/

/-- A frequency num / den in kHz. DEDUCED, log 92. -/
structure Freq where
  num : Nat := 0
  den : Nat := 1
  deriving DecidableEq, Repr

/-- A frequency is at least `k` kHz. -/
def Freq.atLeast (f : Freq) (k : Nat) : Bool := decide (k * f.den ≤ f.num)

/-- A frequency is at most `k` kHz. -/
def Freq.atMost (f : Freq) (k : Nat) : Bool := decide (f.num ≤ k * f.den)

/-- Two frequencies differ by at most 200 ppm of the second (R557, R575). -/
def Freq.near (f g : Freq) : Bool :=
  let a := f.num * g.den
  let b := g.num * f.den
  decide (f.num ≠ 0) && decide ((max a b - min a b) * 1000000 ≤ 200 * b)

/-- f × (N + FRAC / 2^24) / (M × O) (R304). -/
def Freq.scale (f : Freq) (n frac mo : Nat) : Freq := { num := f.num * (n * 2 ^ 24 + frac), den := f.den * 2 ^ 24 * mo }

/-! ### PLLs (R304 to R306, R327) -/

/-- PLL `k` of die `d`. -/
def Chip.pll (s : Chip) (d : Fin 4) (k : Nat) : PllSt := mapGet (fun _ => {}) (s.d d).plls k

/-- Replace PLL `k`. -/
def Chip.setPll (s : Chip) (d : Fin 4) (k : Nat) (x : PllSt) : Chip :=
  s.upd d fun y => { y with plls := mapPut (fun _ => {}) y.plls k x }

/-- LOCK of PLL `k`. -/
def pllLockF (k : Nat) : Fld := if k < 4 then Rf.CLK_PLL_STAT_LOCK.at k else Rf.CLK_JC_STAT_LOCK.at (k - 4)

/-- BADCFG of PLL `k`. -/
def pllBadF (k : Nat) : Fld := if k < 4 then Rf.CLK_PLL_STAT_BADCFG.at k else Rf.CLK_JC_STAT_BADCFG.at (k - 4)

/-- UNLOCKED of PLL `k`. -/
def pllUnlF (k : Nat) : Fld := if k < 4 then Rf.CLK_PLL_STAT_UNLOCKED.at k else Rf.CLK_JC_STAT_UNLOCKED.at (k - 4)

/-- EN of PLL `k`. -/
def pllEnF (k : Nat) : Fld := if k < 4 then Rf.CLK_PLL_SRC_EN.at k else Rf.CLK_JC_SRC_EN.at (k - 4)

/-- FRAC of PLL `k`. -/
def pllFracF (k : Nat) : Fld := if k < 4 then Rf.CLK_PLL_FRAC_FRAC.at k else Rf.CLK_JC_FRAC_FRAC.at (k - 4)

/-- A lane of die `d` beyond its registers. -/
def Chip.lane (s : Chip) (d : Fin 4) (k : Nat) : LaneSt := mapGet (fun _ => {}) (s.d d).lanes k

/-- The interface clock of a lane with given settings and baud (R556). -/
def ifClock (set : LaneSet) (baud : Freq) : Freq :=
  let pcs := getBits set.mode 0 3
  if pcs = 0 ∨ pcs = 6 then { baud with den := baud.den * 64 }
  else if pcs = 1 ∨ pcs = 2 then { num := 156250 }
  else if pcs ≤ 5 then { num := 390625 }
  else {}

/-- The baud of settings from a reference: 2 × f_ref × (N + FRAC / 2^24) / 2^D (R553). -/
def baudOf (set : LaneSet) (ref : Freq) : Freq :=
  let v := ref.scale set.n set.frac 1
  { num := 2 * v.num, den := v.den * 2 ^ set.d }

/-- The nominal frequency of a source code (R307, R308): measured inputs, divided where they pass through PLLs; the
recovered clock of a lane is its nominal interface clock. The first argument bounds the chain of sources. -/
def nominal : Nat → Chip → Fin 4 → Nat → Freq
  | 0, _, _, _ => {}
  | n + 1, s, d, code =>
    let viaPll := fun (k j : Nat) =>
      let p := s.pll d k
      let src := if 4 ≤ k ∧ s.flag d (Rf.CLK_JC_STAT_ACTIVE_B.at (k - 4)) then p.srcB else p.src
      if p.on then (nominal n s d src).scale p.n (s.fld d (pllFracF k)) (p.m * (getBits p.odiv (8 * j) 8 + 1)) else {}
    if code < 8 then { num := s.fld d (Rf.CLK_CKIN_FREQ_FREQ.at code) }
    else if code < 24 then viaPll ((code - 8) / 4) ((code - 8) % 4)
    else if code < 28 then viaPll (4 + (code - 24) / 2) ((code - 24) % 2)
    else if code < 36 then
      let set := (s.lane d (code - 28)).set
      let ref := if set.refsel < 2 then { num := s.fld d (Rf.LANE_LREF_FREQ_FREQ.at set.refsel) }
        else if set.refsel < 6 then nominal n s d (24 + (set.refsel - 2))
        else {}
      ifClock set (baudOf set ref)
    else {}

/-- Source chains are at most a lane, a jitter-cleaning PLL and its source, and so on; eight links are followed. -/
def nominalOf (s : Chip) (d : Fin 4) (code : Nat) : Freq := nominal 8 s d code

/-- A source code runs: an input with edges, a locked PLL, or a lane whose CDR is locked. -/
def srcRuns (s : Chip) (d : Fin 4) (code : Nat) : Bool :=
  if code < 8 then bit (s.fld d Rf.CLK_CKIN_STAT_PRESENT) code
  else if code < 24 then s.flag d (pllLockF ((code - 8) / 4))
  else if code < 28 then s.flag d (pllLockF (4 + (code - 24) / 2))
  else if code < 36 then s.flag d (Rf.LANE_STAT_LOCK.at (code - 28))
  else false

/-- The settings a PLL takes from its registers (R327); a jitter-cleaning PLL has no phase register. -/
def pllTake (s : Chip) (d : Fin 4) (k : Nat) : PllSt :=
  let mOf := fun (v : Nat) => if v = 0 then 1 else v
  if k < 4 then
    { on := true, src := s.fld d (Rf.CLK_PLL_SRC_SRC.at k), m := mOf (s.fld d (Rf.CLK_PLL_DIV_M.at k))
      n := s.fld d (Rf.CLK_PLL_DIV_N.at k), odiv := s.reg d (Rf.CLK_PLL_OUT_ODIV_0.at k).key
      phase := s.reg d (Rf.CLK_PLL_PHASE_PHASE_0.at k).key }
  else
    let j := k - 4
    { on := true, src := s.fld d (Rf.CLK_JC_SRC_SRC_A.at j), srcB := s.fld d (Rf.CLK_JC_SRC_SRC_B.at j)
      m := mOf (s.fld d (Rf.CLK_JC_DIV_M.at j)), n := s.fld d (Rf.CLK_JC_DIV_N.at j)
      odiv := s.reg d (Rf.CLK_JC_OUT_ODIV_0.at j).key }

/-- The phase-detector and VCO limits hold (R304, R305, R333). -/
def pllOk (s : Chip) (d : Fin 4) (k : Nat) (p : PllSt) : Bool :=
  let f := nominalOf s d (if 4 ≤ k ∧ s.flag d (Rf.CLK_JC_STAT_ACTIVE_B.at (k - 4)) then p.srcB else p.src)
  let pd : Freq := { f with den := f.den * p.m }
  let vco := f.scale p.n (s.fld d (pllFracF k)) p.m
  pd.atLeast 10000 && pd.atMost 200000 && vco.atLeast 2000000 && vco.atMost 4000000

/-! ### Networks (R307, R328 to R330, R340) -/

/-- Network `g` of die `d`. -/
def Chip.net (s : Chip) (d : Fin 4) (g : Nat) : NetSt := mapGet (fun _ => {}) (s.d d).nets g

/-- Replace network `g`. -/
def Chip.setNet (s : Chip) (d : Fin 4) (g : Nat) (x : NetSt) : Chip :=
  s.upd d fun y => { y with nets := mapPut (fun _ => {}) y.nets g x }

/-- The source that network `g` is to have now. -/
def netWant (s : Chip) (d : Fin 4) (g : Nat) : Nat :=
  if !s.flag d (Rf.CLK_GSEL_EN.at g) then 63
  else if s.flag d (Rf.CLK_GSEL_ON_BACKUP.at g) then s.fld d (Rf.CLK_GSEL_BACKUP.at g)
  else s.fld d (Rf.CLK_GSEL_SRC.at g)

/-- The source of network `g` has stopped (R330, R340). -/
def netLost (s : Chip) (d : Fin 4) (g : Nat) : Chip :=
  let back := s.fld d (Rf.CLK_GSEL_BACKUP.at g)
  if s.flag d (Rf.CLK_GSEL_AUTO.at g) && !s.flag d (Rf.CLK_GSEL_ON_BACKUP.at g) && srcRuns s d back then
    let s := s.setFld d (Rf.CLK_GSEL_ON_BACKUP.at g) 1
    raise (s.setNet d g { s.net d g with sw := true, force := true }) d 0x004 K.CKSWITCH 0 g
  else raise (s.setFld d (Rf.CLK_GSEL_STOPPED.at g) 1) d 0x004 K.CKSTOP 0 g

/-- The networks that a set of sources drives. -/
def netsOn (s : Chip) (d : Fin 4) (p : Nat → Bool) : List Nat :=
  (range 0 16).filter fun g => netWant s d g != 63 && p (netWant s d g) && !s.flag d (Rf.CLK_GSEL_STOPPED.at g)

/-- Sources that have stopped take their networks with them. -/
def sourcesLost (s : Chip) (d : Fin 4) (p : Nat → Bool) : Chip := overAll (fun s g => netLost s d g) s (netsOn s d p)

/-- Sources that run again start the networks that stopped with them. -/
def sourcesBack (s : Chip) (d : Fin 4) (p : Nat → Bool) : Chip :=
  overAll (fun s g =>
    if netWant s d g != 63 && p (netWant s d g) then s.setFld d (Rf.CLK_GSEL_STOPPED.at g) 0 else s) s (range 0 16)

/-- The output codes of PLL `k`. -/
def pllCodes (k code : Nat) : Bool :=
  if k < 4 then decide (8 + 4 * k ≤ code) && decide (code < 12 + 4 * k)
  else decide (24 + 2 * (k - 4) ≤ code) && decide (code < 26 + 2 * (k - 4))

/-- A write of PLL_SRC_k or JC_SRC_j (R305, R306, R327). DEDUCED, log 89. -/
def pllSrcWrite (s : Chip) (d : Fin 4) (k : Nat) (v : Word) : Chip :=
  let en := getBits v 31 1 == 1
  let was := s.flag d (pllEnF k)
  if was && en then
    if k < 4 then s
    else (s.setFld d (Rf.CLK_JC_SRC_AUTO.at (k - 4)) (getBits v 17 1)).setFld d (Rf.CLK_JC_SRC_BW.at (k - 4)) (getBits v 20 3)
  else
    let s := if was then s
      else s.setReg d (pllEnF k).key (v &&& (if k < 4 then 0x8000003F else 0x80733F3F))
    if en then
      let s := if k < 4 then s
        else (s.setFld d (Rf.CLK_JC_STAT_ACTIVE_B.at (k - 4)) (getBits v 16 1)).setFld d (Rf.CLK_JC_STAT_HOLDOVER.at (k - 4)) 0
      let p := pllTake s d k
      if pllOk s d k p then (s.setFld d (pllBadF k) 0).setPll d k p
      else s.setFld d (pllBadF k) 1
    else
      let ran := s.flag d (pllLockF k)
      let s := ((s.setFld d (pllEnF k) 0).setFld d (pllLockF k) 0).setPll d k { s.pll d k with on := false }
      if ran then sourcesLost s d (pllCodes k) else s

/-- PLL_FRAC_WRITE (R327). -/
def pllFrac (s : Chip) (d : Fin 4) (k : Nat) (v : Word) : Chip := s.setFld d (pllFracF k) (getBits v 0 24)

/-- PLL_LOCK (R304, R339): a PLL that is on locks, and its outputs run. -/
def pllLock (d : Fin 4) (k : Nat) (s : Chip) : Chip :=
  whenUp s d fun s =>
    if (s.pll d k).on && !s.flag d (pllLockF k) then sourcesBack (s.setFld d (pllLockF k) 1) d (pllCodes k) else s

/-- PLL_UNLOCK (R330, R339): a PLL loses lock, and its outputs hold low. -/
def pllUnlock (d : Fin 4) (k : Nat) (s : Chip) : Chip :=
  whenUp s d fun s =>
    if s.flag d (pllLockF k) then
      let s := (s.setFld d (pllLockF k) 0).setFld d (pllUnlF k) 1
      sourcesLost (raise s d 0x004 K.PLLUNLK 0 k) d (pllCodes k)
    else s

/-- JC_SOURCE_LOSS (R306): the active source of a jitter-cleaning PLL is lost. -/
def jcSourceLoss (d : Fin 4) (j : Nat) (s : Chip) : Chip :=
  whenUp s d fun s =>
    let p := s.pll d (4 + j)
    let onB := s.flag d (Rf.CLK_JC_STAT_ACTIVE_B.at j)
    let other := if onB then p.src else p.srcB
    if !p.on || srcRuns s d (if onB then p.srcB else p.src) then s
    else if s.flag d (Rf.CLK_JC_SRC_AUTO.at j) && srcRuns s d other then
      (s.setFld d (Rf.CLK_JC_STAT_ACTIVE_B.at j) (b2n !onB)).setFld d (Rf.CLK_JC_STAT_HOLDOVER.at j) 0
    else s.setFld d (Rf.CLK_JC_STAT_HOLDOVER.at j) 1

/-- CKIN_MEASURE (R303): the measurement of a 1 ms window; an input with edges is present. -/
def ckinMeasure (d : Fin 4) (k : Nat) (khz : Nat) (s : Chip) : Chip :=
  whenUp s d fun s =>
    let s := s.setFld d (Rf.CLK_CKIN_FREQ_FREQ.at k) khz
    if khz = 0 then s
    else
      let s := s.setFld d Rf.CLK_CKIN_STAT_PRESENT (setBit (s.fld d Rf.CLK_CKIN_STAT_PRESENT) k)
      let s := overAll (fun s j =>
        let p := s.pll d (4 + j)
        let active := if s.flag d (Rf.CLK_JC_STAT_ACTIVE_B.at j) then p.srcB else p.src
        if p.on && active == k then s.setFld d (Rf.CLK_JC_STAT_HOLDOVER.at j) 0 else s) s (range 0 2)
      sourcesBack s d fun c => c == k

/-- CKIN_LOST (R303, R330, R332, R340): an input has shown no edge for `quiet` tq. -/
def ckinLost (d : Fin 4) (k : Nat) (quiet : Nat) (s : Chip) : Chip :=
  whenUp s d fun s =>
    if quiet < 512 ∨ !bit (s.fld d Rf.CLK_CKIN_STAT_PRESENT) k then s
    else
      let s := s.setFld d Rf.CLK_CKIN_STAT_PRESENT (clrBit (s.fld d Rf.CLK_CKIN_STAT_PRESENT) k)
      let s := s.setFld d Rf.CLK_CKIN_STAT_LOST (setBit (s.fld d Rf.CLK_CKIN_STAT_LOST) k)
      sourcesLost s d fun c => c == k

/-- A source code of R307. -/
def gselCode (c : Nat) : Bool := decide (c < 36) || c == 63

/-- A permitted write of GSEL_g (R328, R329, R331). -/
def gselWrite (s : Chip) (d : Fin 4) (t : Fin 256) (g : Nat) (v : Word) : Chip :=
  let src := getBits v 0 6
  let back := getBits v 8 6
  if !gselCode src || !gselCode back || !(nominalOf s d src).atMost 650000 || !(nominalOf s d back).atMost 650000 then
    refusedWrite s d t (Rf.CLK_GSEL_SRC.at g)
  else
    let s := s.setReg d (Rf.CLK_GSEL_SRC.at g).key (v &&& 0x0000FF3F)
    s.setNet d g { s.net d g with sw := true, force := getBits v 16 1 == 1 }

/-- CLOCK_SWITCH_COMPLETE (R329): the network has left its old source and starts on the new one. A switch without FORCE
waits for an old source that has stopped. -/
def clockSwitchComplete (d : Fin 4) (g : Nat) (s : Chip) : Chip :=
  whenUp s d fun s =>
    let x := s.net d g
    if !x.sw || !(x.force || x.src == 63 || srcRuns s d x.src) then s
    else
      let want := netWant s d g
      (s.setNet d g { src := want }).setFld d (Rf.CLK_GSEL_STOPPED.at g) (b2n (want != 63 && !srcRuns s d want))

/-- Network `g` runs. -/
def netRuns (s : Chip) (d : Fin 4) (g : Nat) : Bool :=
  (s.net d g).src != 63 && srcRuns s d (s.net d g).src && !s.flag d (Rf.CLK_GSEL_STOPPED.at g)

/-! ### Fabric resets (R313 to R315, R336) -/

/-- The fabric reset of die `d` (R314). -/
def fabricReset (s : Chip) (d : Fin 4) : Bool := (s.d d).fabRst || s.stop.srst || s.flag d Rf.CLK_FRST_HOLD

/-- The reset of domain `g` is asserted by the die's or the domain's source. -/
def domainReset (s : Chip) (d : Fin 4) (g : Nat) : Bool := fabricReset s d || bit (s.fld d Rf.CLK_DRST_DOMAIN) g

/-- Domains whose reset is asserted leave the running state at once. -/
def domainsReset (s : Chip) (d : Fin 4) : Chip :=
  s.upd d fun x => { x with domRun := x.domRun.filter fun e => !domainReset s d e.1 }

/-- FABRIC_RESET_RELEASE (R315): domain `g` of a running network leaves reset. -/
def fabricResetRelease (d : Fin 4) (g : Nat) (s : Chip) : Chip :=
  whenUp s d fun s =>
    if domainReset s d g || !netRuns s d g then s
    else s.upd d fun x => { x with domRun := mapPut (fun _ => false) x.domRun g true }

/-- A write of CLK.FRST or CLK.DRST. -/
def fabricResetWrite (s : Chip) (d : Fin 4) (hold : Bool) (v : Word) : Chip :=
  domainsReset (if hold then s.setFld d Rf.CLK_FRST_HOLD (getBits v 0 1) else s.setFld d Rf.CLK_DRST_DOMAIN (getBits v 0 16)) d

/-! ### Regions (R316, R319, R321, R326, R334) -/

/-- The region of die `d` that holds a grain (R296, R316). -/
def regionOfGrain (s : Chip) (d : Fin 4) (grain : Nat) : Option Nat :=
  (range 0 64).find? fun r =>
    let a := s.fld d (Rf.CLK_REGION_FIRST.at r)
    let b := s.fld d (Rf.CLK_REGION_LAST.at r)
    s.flag d (Rf.CLK_REGION_VALID.at r) && decide (a % 12 ≤ grain % 12) && decide (grain % 12 ≤ b % 12) &&
      decide (a / 12 ≤ grain / 12) && decide (grain / 12 ≤ b / 12)

/-- The owner of region `r` (R145). -/
def regionOwner (s : Chip) (d : Fin 4) (r : Nat) : Fin 256 := Fin.ofNat 256 (s.fld d (Rf.YOKE_PRR_OWNER_TENANT.at r))

/-- A write of REGION_CTL_r (R326): with a grant all fields, from the owner RESET alone. A region whose reload is in
progress or incomplete stays isolated and in reset (R320, R334). DEDUCED, log 90. -/
def regionCtl (s : Chip) (d : Fin 4) (t : Fin 256) (r : Nat) (v : Word) : Chip :=
  let busy := s.flag d (Rf.CLK_REGION_CTL_RELOADING.at r)
  let reset := fun (s : Chip) => if busy then s else s.setFld d (Rf.CLK_REGION_CTL_RESET.at r) (getBits v 1 1)
  if granted s d 4 t then
    let s := if busy then s else s.setFld d (Rf.CLK_REGION_CTL_ISOLATE.at r) (getBits v 0 1)
    (reset s).setFld d (Rf.CLK_REGION_CTL_ISOVAL.at r) (getBits v 2 1)
  else if regionOwner s d r = t then reset s
  else refusedWrite s d t (Rf.CLK_REGION_CTL_RESET.at r)

/-! ### Meanings -/

/-- PLL_ENABLE: a write of CLK.PLL_SRC_k, or of CLK.JC_SRC_(k − 4). -/
def execPllEnable (t : Fin 256) (d : Fin 4) (k : Fin 6) (v : Word) (s : State) : Out :=
  act s fun s => whenGranted s d t (pllEnF k.val) fun s => pllSrcWrite s d k.val v
/-- PLL_FRAC_WRITE. -/
def execPllFracWrite (t : Fin 256) (d : Fin 4) (k : Fin 6) (v : Word) (s : State) : Out :=
  act s fun s => whenGranted s d t (pllFracF k.val) fun s => pllFrac s d k.val v
/-- PLL_LOCK. -/
def execPllLock (d : Fin 4) (k : Fin 6) (s : State) : Out :=
  act s fun s => pllLock d k.val s
/-- PLL_UNLOCK. -/
def execPllUnlock (d : Fin 4) (k : Fin 6) (s : State) : Out :=
  act s fun s => pllUnlock d k.val s
/-- JC_SOURCE_LOSS. -/
def execJcSourceLoss (d : Fin 4) (j : Fin 2) (s : State) : Out :=
  act s fun s => jcSourceLoss d j.val s
/-- CKIN_MEASURE. -/
def execCkinMeasure (d : Fin 4) (k : Fin 8) (khz : BitVec 20) (s : State) : Out :=
  act s fun s => ckinMeasure d k.val khz.toNat s
/-- CKIN_LOST. -/
def execCkinLost (d : Fin 4) (k : Fin 8) (quiet : Nat) (s : State) : Out :=
  act s fun s => ckinLost d k.val quiet s
/-- GSEL_WRITE. -/
def execGselWrite (t : Fin 256) (d : Fin 4) (g : Fin 16) (v : Word) (s : State) : Out :=
  act s fun s => whenGranted s d t (Rf.CLK_GSEL_SRC.at g.val) fun s => gselWrite s d t g.val v
/-- CLOCK_SWITCH_COMPLETE. -/
def execClockSwitchComplete (d : Fin 4) (g : Fin 16) (s : State) : Out :=
  act s fun s => clockSwitchComplete d g.val s
/-- FABRIC_RESET_RELEASE. -/
def execFabricResetRelease (d : Fin 4) (g : Fin 16) (s : State) : Out :=
  act s fun s => fabricResetRelease d g.val s
/-- REGION_RESET_WRITE: a write of CLK.REGION_CTL_r. -/
def execRegionResetWrite (t : Fin 256) (d : Fin 4) (r : Fin 64) (v : Word) (s : State) : Out :=
  act s fun s => whenUp s d fun s => regionCtl s d t r.val v

end Sys2Proof.Machine
end

