-- ==== Sys2Proof/Machine/Lanes.lean ====
section
/-! DEFINITION. Serial lanes: power states, demand, APPLY, equalisation, PRBS, eye scan and the hard PCS (R550 to R590),
and the meanings of their commands. -/

namespace Sys2Proof.Machine

/-- Replace lane `k` of die `d`. -/
def Chip.setLane (s : Chip) (d : Fin 4) (k : Nat) (x : LaneSt) : Chip :=
  s.upd d fun y => { y with lanes := mapPut (fun _ => {}) y.lanes k x }

/-- The state STAT_k shows: 0 ACTIVE, 1 STANDBY, 2 DEEP, 3 OFF, 4 WAKING, 5 ENTERING. -/
def laneState (s : Chip) (d : Fin 4) (k : Nat) : Nat := s.fld d (Rf.LANE_STAT_STATE.at k)

/-! ### Groups (R551) -/

/-- The lanes of a function (R556). -/
def pcsLanes (pcs : Nat) : Nat := if pcs = 2 ∨ pcs = 3 ∨ pcs = 4 then 4 else if pcs = 5 then 8 else 1

/-- PCS in force of lane `k`. -/
def lanePcs (s : Chip) (d : Fin 4) (k : Nat) : Nat := getBits (s.lane d k).set.mode 0 3

/-- The lowest lane of lane `k`'s group; `k` itself outside a group. -/
def groupLead (s : Chip) (d : Fin 4) (k : Nat) : Nat :=
  if pcsLanes (lanePcs s d 0) = 8 then 0
  else if pcsLanes (lanePcs s d (4 * (k / 4))) = 4 then 4 * (k / 4)
  else k

/-- The lanes that move with lane `k`. -/
def groupOf (s : Chip) (d : Fin 4) (k : Nat) : List Nat :=
  let g := groupLead s d k
  range g (pcsLanes (lanePcs s d g))

/-- The Seam claims lane `k` (R552). -/
def seamLane (s : Chip) (d : Fin 4) (k : Nat) : Bool := s.flag d (Rf.LANE_STAT_SEAM.at k)

/-- The event source of a lane (R550). -/
def laneSrc (k : Nat) : Nat := 0x030 + k

/-! ### DFE taps (R560 to R562) -/

/-- The width of tap `t`, from 1 to 12. -/
def tapBits (t : Nat) : Nat := if t = 1 then 7 else if t ≤ 4 then 6 else 5

/-- The field of tap `t`. -/
def tapF (k t : Nat) : Fld := { Rf.LANE_DFE1_TAP.at k with off := (Rf.LANE_DFE1_TAP.at k).off + 4 * (t - 1) }

/-- The value of tap `t`. -/
def tapVal (s : Chip) (d : Fin 4) (k t : Nat) : Int := ofBits (tapBits t) (s.fld d (tapF k t))

/-- Store tap `t`. -/
def setTap (s : Chip) (d : Fin 4) (k t : Nat) (v : Int) : Chip := s.setFld d (tapF k t) (toBits (tapBits t) v)

/-- Every tap. -/
def allTaps (s : Chip) (d : Fin 4) (k : Nat) : List Nat := (range 1 12).map fun t => s.fld d (tapF k t)

/-- Every tap to 0. -/
def clearTaps (s : Chip) (d : Fin 4) (k : Nat) : Chip := overAll (fun s t => setTap s d k t 0) s (range 1 12)

/-- DFE_ADAPT (R561, R565): one window of 2^(10 + RATE) symbols, with the sums of its sign products. -/
def dfeAdapt (d : Fin 4) (k : Nat) (accs : List Int) (s : Chip) : Chip :=
  whenUp s d fun s =>
    let st := laneState s d k
    let tracks := (st ≤ 1 && s.flag d (Rf.LANE_STAT_LOCK.at k)) || (st == 4 && (s.lane d k).full)
    if s.flag d (Rf.LANE_DFE_CTL_FREEZE.at k) || !tracks || lanePcs s d k == 6 then s
    else overAll (fun s t =>
      let acc := (accs.drop (t - 1)).headD 0
      let c := tapVal s d k t
      let m : Int := 2 ^ (tapBits t - 1)
      if 0 < acc ∧ c < m - 1 then setTap s d k t (c + 1)
      else if acc < 0 ∧ -m < c then setTap s d k t (c - 1)
      else s) s (range 1 12)

/-- A read of tap 1 latches taps 2 to 12 (R562). -/
def dfeSnapshot (s : Chip) (d : Fin 4) (k : Nat) : Chip :=
  let taps := (range 2 11).map fun t => (t, s.fld d (tapF k t))
  { s.setLane d k { s.lane d k with snap := taps } with reply := .word (s.reg d (tapF k 1).key) }

/-- A read of tap `t`: the latched value at the next read after the latch (R562). DESIGN CHOICE, log 125. -/
def dfeTapRead (s : Chip) (d : Fin 4) (k t : Nat) : Chip × Nat :=
  let x := s.lane d k
  match x.snap.find? fun e => e.1 == t with
  | some e => (s.setLane d k { x with snap := x.snap.filter fun e => e.1 != t }, e.2)
  | none => (s, s.fld d (tapF k t))

/-! ### Power states (R564 to R569) -/

/-- The clocks of a lane that loses its PLL stop. -/
def laneDark (s : Chip) (d : Fin 4) (k : Nat) : Chip :=
  let ran := s.flag d (Rf.LANE_STAT_LOCK.at k)
  let s := if s.flag d (Rf.LANE_EYE_STAT_BUSY.at k) && ran then
      (s.setFld d (Rf.LANE_EYE_STAT_BUSY.at k) 0).setFld d (Rf.LANE_EYE_STAT_ABORT.at k) 1
    else s
  let s := (s.setFld d (Rf.LANE_STAT_LOCK.at k) 0).setFld d (Rf.LANE_STAT_PCSLOCK.at k) 0
  let s := (s.setFld d (Rf.LANE_STAT_HIBER.at k) 0).setFld d (Rf.LANE_PRBS_RXLOCK.at k) 0
  if ran then sourcesLost s d fun c => c == 28 + k else s

/-- Saved taps serve the exit that starts now (R565, R580). -/
def savedGood (s : Chip) (d : Fin 4) (k : Nat) : Bool :=
  s.flag d (Rf.LANE_STAT_SAVEVALID.at k) && match (s.lane d k).saved with
    | some v => decide ((highestTemp s d - v.2.2).natAbs ≤ 40)
    | none => false

/-- VLANE and VLANEH of the die are in range (R907). -/
def laneRails (s : Chip) (d : Fin 4) : Bool := s.flag d Rf.PWR_RAIL_VLANE && s.flag d Rf.PWR_RAIL_VLANEH

/-- A transition of one lane from a settled state to state `v` starts (R564, R565). -/
def laneGo (s : Chip) (d : Fin 4) (k v : Nat) : Chip :=
  let st := laneState s d k
  let x := s.lane d k
  let enters := fun (s : Chip) => s.setFld d (Rf.LANE_STAT_STATE.at k) 5
  let wakes := fun (s : Chip) => s.setFld d (Rf.LANE_STAT_STATE.at k) 4
  if st = v ∨ (v ≠ 3 ∧ !laneRails s d) then s
  else if v = 3 then
    let s := (laneDark s d k).setFld d (Rf.LANE_STAT_PLLLOCK.at k) 0
    let s := (s.setFld d (Rf.LANE_STAT_SAVEVALID.at k) 0).setFld d (Rf.LANE_STAT_SD.at k) 0
    enters (s.setLane d k { x with toSt := v, saved := none })
  else if v = 2 then
    let lock := s.fld d (Rf.LANE_STAT_LOCK.at k)
    let save := if st ≤ 1 then some (s.fld d (Rf.LANE_CTLE_PEAK.at k), allTaps s d k, highestTemp s d) else none
    let s := (laneDark s d k).setFld d (Rf.LANE_STAT_PLLLOCK.at k) 0
    enters ((s.setFld d (Rf.LANE_STAT_SAVEVALID.at k) lock).setLane d k { x with toSt := v, saved := save })
  else if st = 0 then enters (s.setLane d k { x with toSt := v })
  else if st = 1 then wakes (s.setLane d k { x with toSt := v, full := false })
  else
    let good := savedGood s d k
    let s := s.setLane d k { x with toSt := v, full := !good }
    wakes (if good then s else clearTaps s d k)

/-- A state is asked for (R567): during a transition it is the single pending request. -/
def laneAsk (s : Chip) (d : Fin 4) (k v : Nat) : Chip :=
  if 4 ≤ laneState s d k then s.setLane d k { s.lane d k with pend := some v } else laneGo s d k v

/-- The transition of one lane ends (R564, R566, R567). -/
def laneSettle (s : Chip) (d : Fin 4) (k : Nat) : Chip :=
  let x := s.lane d k
  let waking := laneState s d k == 4
  let s := s.setFld d (Rf.LANE_STAT_STATE.at k) x.toSt
  let s := if x.toSt ≤ 1 then s.setFld d (Rf.LANE_STAT_PLLLOCK.at k) 1 else s
  let s := if waking && !x.full then
      match x.saved with
      | some v =>
        let s := s.setFld d (Rf.LANE_CTLE_PEAK.at k) v.1
        overAll (fun s (e : Nat × Nat) => s.setFld d (tapF k e.1) e.2) s ((range 1 12).zip v.2.1)
      | none => s
    else s
  let s := s.setLane d k { x with full := false, saved := if x.toSt ≤ 1 then none else x.saved, pend := none }
  match x.pend with
  | some v => laneGo s d k v
  | none => s

/-- LANE_STATE_DONE (R564): a group moves together (R551). -/
def laneStateDone (d : Fin 4) (k : Nat) (s : Chip) : Chip :=
  whenUp s d fun s =>
    overAll (fun s i => if 4 ≤ laneState s d i then laneSettle s d i else s) s (groupOf s d k)

/-- A demand on lane `k`: transmit work, or a signal that signal detect sees (R568, R569, R582, R588). -/
def laneDemand (s : Chip) (d : Fin 4) (k : Nat) (sd : Bool) : Chip :=
  let k := groupLead s d k
  let s := if sd then s.setFld d (Rf.LANE_STAT_SD.at k) 1 else s.setLane d k { s.lane d k with work := true }
  let st := laneState s d k
  let x := s.lane d k
  let asleep := st == 1 || st == 2 || (st == 5 && (x.toSt == 1 || x.toSt == 2) && x.pend != some 0)
  if !asleep || (sd && !s.flag d (Rf.LANE_CTL_SDWAKE.at k)) || !s.flag d (Rf.LANE_CTL_AUTOWAKE.at k) then s
  else
    let full := (st == 2 || (st == 5 && x.toSt == 2)) && !savedGood s d k
    let s := raise s d (laneSrc k) K.LNWAKE 0 (k + 8 * b2n sd + 16 * b2n full)
    overAll (fun s i => laneAsk s d i 0) s (groupOf s d k)

/-- The lanes that cap level 4 may put into DEEP (R552, R569). DEDUCED, log 127. -/
def capLane (s : Chip) (d : Fin 4) (k : Nat) : Bool :=
  s.flag d (Rf.LANE_CTL_CAPDEEP.at k) && !seamLane s d k && groupLead s d k == k

/-- Lanes at a change of the cap level (R223, R569, R584). -/
def capLanes (s : Chip) (d : Fin 4) (old new : Nat) : Chip :=
  overAll (fun s k =>
    if !capLane s d k then s
    else if old < 4 ∧ 4 ≤ new then
      (if s.fld d (Rf.LANE_CTL_REQ.at k) ≤ 1 then overAll (fun s i => laneAsk s d i 2) s (groupOf s d k) else s)
    else if 4 ≤ old ∧ new < 4 then
      overAll (fun s i => laneAsk s d i (s.fld d (Rf.LANE_CTL_REQ.at k))) s (groupOf s d k)
    else s) s (range 0 8)

/-- Lanes at the end of a cap window: at level 4 a lane without transmit work returns to DEEP (R569). -/
def capLanesWindow (s : Chip) (d : Fin 4) : Chip :=
  overAll (fun s k =>
    let s := if s.fld d Rf.LEDGER_STAT_CAPLEVEL = 4 && capLane s d k && !(s.lane d k).work &&
        decide (s.fld d (Rf.LANE_CTL_REQ.at k) ≤ 1) then
        overAll (fun s i => laneAsk s d i 2) s (groupOf s d k)
      else s
    if (s.lane d k).work then s.setLane d k { s.lane d k with work := false } else s) s (range 0 8)

/-! ### APPLY (R553, R554, R575, R578, R579, R585) -/

/-- The settings of a profile (R575): REFSEL, N, FRAC, D, PAM4 and PCS; none for profile 0 and for unlisted codes. -/
def profileSet : Nat → Option (Nat × Nat × Nat × Nat × Bool × Nat)
  | 1 => some (0, 66, 0, 1, false, 1)
  | 2 => some (0, 66, 0, 1, false, 2)
  | 3 => some (0, 82, 0x800000, 0, false, 3)
  | 4 => some (0, 85, 0, 0, true, 4)
  | 5 => some (0, 85, 0, 0, true, 5)
  | 6 => some (1, 64, 0, 1, false, 6)
  | 7 => some (0, 82, 0x800000, 0, false, 0)
  | _ => none

/-- The settings that APPLY would load. -/
def askedSet (s : Chip) (d : Fin 4) (k : Nat) : LaneSet :=
  let mode := s.reg d (Rf.LANE_MODE_PCS.at k).key
  match profileSet (s.fld d (Rf.LANE_PROFILE_PROFILE.at k)) with
  | some (r, n, f, dd, pam, pcs) =>
    { refsel := r, n := n, frac := f, d := dd, pam4 := pam,
      mode := putBits (if pcs = 3 then putBits mode 4 1 0 else mode) 0 3 pcs }
  | none =>
    { refsel := s.fld d (Rf.LANE_RATE_REFSEL.at k), n := s.fld d (Rf.LANE_RATE_N.at k)
      frac := s.fld d (Rf.LANE_FRAC_FRAC.at k), d := s.fld d (Rf.LANE_RATE_D.at k)
      pam4 := s.flag d (Rf.LANE_RATE_MOD.at k), mode := mode }

/-- The frequency of a reference selection (R554). -/
def refFreq (s : Chip) (d : Fin 4) (sel : Nat) : Freq :=
  if sel < 2 then { num := s.fld d (Rf.LANE_LREF_FREQ_FREQ.at sel) }
  else if sel < 6 then nominalOf s d (24 + (sel - 2))
  else {}

/-- The reference that a profile expects (R575). -/
def profileRef (p : Nat) : Freq := { num := if p = 6 then 155520 else 156250 }

/-- The first check that fails, or 1 (R578, R590). DEDUCED, log 128. -/
def applyCheck (s : Chip) (d : Fin 4) (k : Nat) : Nat :=
  let p := s.fld d (Rf.LANE_PROFILE_PROFILE.at k)
  let x := askedSet s d k
  let ref := refFreq s d x.refsel
  let judged := if p = 0 then ref else profileRef p
  let baud := baudOf x judged
  let vco := judged.scale x.n x.frac 1
  let pcs := getBits x.mode 0 3
  let width := pcsLanes pcs
  let rateOk := decide (x.d ≤ 4) && decide (baud.num ≠ 0) &&
    (if x.pam4 then baud.atLeast 9800000 && baud.atMost 29000000 else baud.atLeast 1000000 && baud.atMost 32000000)
  let vcoOk := vco.atLeast 8000000 && vco.atMost 16000000 && decide (20 ≤ x.n) && decide (x.n ≤ 160)
  let refOk := ref.atLeast 100000 && ref.atMost 400000 && (p == 0 || ref.near (profileRef p))
  let net := getBits x.mode 16 4
  let tx := nominalOf s d (s.net d net).src
  if 8 ≤ p then 6
  else if !rateOk then 2
  else if !vcoOk then 3
  else if !refOk then 4
  else if k % width ≠ 0 || (range k width).any fun i => seamLane s d i then 5
  else if (x.pam4 || pcs == 4 || pcs == 5) && !feature s d 3 then 6
  else if !tx.near (ifClock x baud) then 7
  else 1

/-- An accepted APPLY's register values (R575). DESIGN CHOICE, log 124. -/
def loadProfile (s : Chip) (d : Fin 4) (k : Nat) (x : LaneSet) : Chip :=
  let p := s.fld d (Rf.LANE_PROFILE_PROFILE.at k)
  if p = 0 then s
  else
    let s := (s.setFld d (Rf.LANE_RATE_REFSEL.at k) x.refsel).setFld d (Rf.LANE_RATE_N.at k) x.n
    let s := (s.setFld d (Rf.LANE_RATE_D.at k) x.d).setFld d (Rf.LANE_RATE_MOD.at k) (b2n x.pam4)
    let s := (s.setFld d (Rf.LANE_FRAC_FRAC.at k) x.frac).setReg d (Rf.LANE_MODE_PCS.at k).key x.mode
    let s := (s.setFld d (Rf.LANE_TXFIR_PRE.at k) 2).setFld d (Rf.LANE_TXFIR_POST.at k) 6
    let s := (s.setFld d (Rf.LANE_TXFIR_SWING.at k) 12).setFld d (Rf.LANE_CTLE_PEAK.at k) 12
    let s := (s.setFld d (Rf.LANE_DFE_CTL_FREEZE.at k) 0).setFld d (Rf.LANE_DFE_CTL_RATE.at k) 4
    if p = 7 then (s.setFld d (Rf.LANE_PRBS_TXPAT.at k) 5).setFld d (Rf.LANE_PRBS_RXPAT.at k) 5 else s

/-- APPLY (R578): an active or standby lane goes through OFF and back to its REQ state. -/
def laneApply (s : Chip) (d : Fin 4) (k : Nat) : Chip :=
  let r := applyCheck s d k
  let s := s.setFld d (Rf.LANE_STAT_RESULT.at k) r
  if r ≠ 1 then s
  else
    let x := askedSet s d k
    let s := loadProfile s d k x
    let s := s.setLane d k { s.lane d k with set := x }
    let req := s.fld d (Rf.LANE_CTL_REQ.at k)
    overAll (fun s i =>
      let st := laneState s d i
      let s := s.setFld d (Rf.LANE_STAT_SAVEVALID.at i) 0
      if st = 2 ∨ st = 3 ∨ (st = 5 ∧ 2 ≤ (s.lane d i).toSt) then s
      else
        let s := (laneDark s d i).setFld d (Rf.LANE_STAT_PLLLOCK.at i) 0
        (s.setLane d i { s.lane d i with toSt := 3, saved := none, full := false,
                                         pend := if req = 3 then none else some req }).setFld d
          (Rf.LANE_STAT_STATE.at i) 5) s (groupOf s d k)

/-! ### Register writes (R551, R552, R555, R558, R559, R572, R573) -/

/-- Run a permitted write of a lane register: the Seam's lanes refuse all but eye scan (R552). -/
def laneWrite (s : Chip) (d : Fin 4) (t : Fin 256) (k : Nat) (f : Fld) (g : Chip → Chip) : Chip :=
  if seamLane s d k then refusedWrite s d t f else g s

/-- A write of one of the registers that the lowest lane governs (R551). -/
def leadWrite (s : Chip) (d : Fin 4) (t : Fin 256) (k : Nat) (f : Fld) (g : Chip → Chip) : Chip :=
  laneWrite s d t k f fun s => if groupLead s d k = k then g s else s

/-- A write of LANE.CTL_k (R567, R569, R578). -/
def laneCtl (s : Chip) (d : Fin 4) (k : Nat) (v : Word) : Chip :=
  let s := s.setReg d (Rf.LANE_CTL_REQ.at k).key (v &&& 0x1F)
  let s := overAll (fun s i => laneAsk s d i (getBits v 0 2)) s (groupOf s d k)
  if getBits v 31 1 = 1 then laneApply s d k else s

/-- A write of TXFIR_k (R558, R581). -/
def txfirWrite (s : Chip) (d : Fin 4) (k : Nat) (v : Word) : Chip :=
  let pre := getBits v 0 4
  let post := getBits v 8 5
  if 12 < pre ∨ 20 < post ∨ 20 < pre + post then s.setFld d (Rf.LANE_STAT_FIRBAD.at k) 1
  else s.setReg d (Rf.LANE_TXFIR_PRE.at k).key (v &&& 0x000F1F0F)

/-- A write of CTLE_k (R559). -/
def ctleWrite (s : Chip) (d : Fin 4) (k : Nat) (v : Word) : Chip :=
  s.setFld d (Rf.LANE_CTLE_PEAK.at k) (min (getBits v 0 6) 36)

/-- A write of DFE_CTL_k (R561, R562). -/
def dfeCtl (s : Chip) (d : Fin 4) (k : Nat) (v : Word) : Chip :=
  let s := (s.setFld d (Rf.LANE_DFE_CTL_FREEZE.at k) (getBits v 0 1)).setFld d (Rf.LANE_DFE_CTL_RATE.at k) (getBits v 1 3)
  if getBits v 4 1 = 1 then clearTaps s d k else s

/-- A write of DFE_k_t (R560, R562). -/
def dfeTap (s : Chip) (d : Fin 4) (k t : Nat) (v : Word) : Chip :=
  s.setFld d (tapF k t) (v.toNat % 2 ^ tapBits t)

/-- A write of RATE_k; MOD reads 0 without PAM4 (R555). -/
def rateWrite (s : Chip) (d : Fin 4) (k : Nat) (v : Word) : Chip :=
  s.setReg d (Rf.LANE_RATE_D.at k).key (v &&& (if feature s d 3 then 0x00FF0717 else 0x00FF0707))

/-- A write of MODE_k; the PRECODE bits read 0 without PAM4 (R555). -/
def modeWrite (s : Chip) (d : Fin 4) (k : Nat) (v : Word) : Chip :=
  s.setReg d (Rf.LANE_MODE_PCS.at k).key (v &&& (if feature s d 3 then 0x000F07F7 else 0x000F0677))

/-- A write of PRBS_k (R555, R568, R572): a pattern is transmit work. -/
def prbsWrite (s : Chip) (d : Fin 4) (k : Nat) (v : Word) : Chip :=
  let pat := fun (c : Nat) => if c = 6 ∧ !feature s d 3 then 0 else c
  let s := (s.setFld d (Rf.LANE_PRBS_TXPAT.at k) (pat (getBits v 0 3))).setFld d (Rf.LANE_PRBS_RXPAT.at k)
    (pat (getBits v 4 3))
  let s := s.setFld d (Rf.LANE_PRBS_INV.at k) (getBits v 7 1)
  let s := if s.fld d (Rf.LANE_PRBS_RXPAT.at k) = 0 then s.setFld d (Rf.LANE_PRBS_RXLOCK.at k) 0 else s
  if s.fld d (Rf.LANE_PRBS_TXPAT.at k) = 0 then s else laneDemand s d k false

/-- A write of EYE_k (R573): GO during a scan is ignored. DESIGN CHOICE, log 126. -/
def eyeWrite (s : Chip) (d : Fin 4) (k : Nat) (v : Word) : Chip :=
  if s.flag d (Rf.LANE_EYE_STAT_BUSY.at k) then s
  else
    let s := (s.setFld d (Rf.LANE_EYE_H.at k) (getBits v 0 6)).setFld d (Rf.LANE_EYE_V.at k) (getBits v 8 7)
    let s := (s.setFld d (Rf.LANE_EYE_EYE.at k) (getBits v 16 2)).setFld d (Rf.LANE_EYE_DWELL.at k)
      (clampN 10 40 (getBits v 24 6))
    if getBits v 31 1 = 1 then s.setFld d (Rf.LANE_EYE_STAT_BUSY.at k) 1 else s

/-! ### Events of the line (R563, R570, R572, R573, R586 to R589) -/

/-- LANE_LOCK_LOSS (R573, R586). -/
def laneLockLoss (d : Fin 4) (k : Nat) (sdFell : Bool) (s : Chip) : Chip :=
  whenUp s d fun s =>
    if 1 < laneState s d k || !s.flag d (Rf.LANE_STAT_LOCK.at k) then s
    else
      let s := laneDark s d k
      let s := if sdFell then s.setFld d (Rf.LANE_STAT_SD.at k) 0 else s
      raise s d (laneSrc k) K.LNLOS 0 (b2n sdFell + 2 * b2n (decide (1 < (groupOf s d k).length)))

/-- LANE_CDR_LOCK (R563). -/
def laneCdrLock (d : Fin 4) (k : Nat) (s : Chip) : Chip :=
  whenUp s d fun s =>
    let st := laneState s d k
    if st ≤ 1 || st == 4 then
      sourcesBack ((s.setFld d (Rf.LANE_STAT_LOCK.at k) 1).setFld d (Rf.LANE_STAT_SD.at k) 1) d fun c => c == 28 + k
    else s

/-- LANE_PLL_UNLOCK (R587). -/
def lanePllUnlock (d : Fin 4) (k : Nat) (s : Chip) : Chip :=
  whenUp s d fun s =>
    if s.flag d (Rf.LANE_STAT_PLLLOCK.at k) then
      raise (s.setFld d (Rf.LANE_STAT_PLLLOCK.at k) 0) d (laneSrc k) K.LNPLL 0 k
    else s

/-- LANE_PLL_RELOCK (R587). -/
def lanePllRelock (d : Fin 4) (k : Nat) (s : Chip) : Chip :=
  whenUp s d fun s => if laneState s d k ≤ 1 then s.setFld d (Rf.LANE_STAT_PLLLOCK.at k) 1 else s

/-- Add to the 64-bit count of checked bits and to the errors (R572, R590). -/
def prbsCount (s : Chip) (d : Fin 4) (k : Nat) (bits : BitVec 64) (errs : Nat) : Chip :=
  let n := (s.fld64 d (Rf.LANE_PRBS_BITS_LO_BITS.at k) (Rf.LANE_PRBS_BITS_HI_BITS.at k) + bits.toNat) % 2 ^ 64
  let s := (s.setFld d (Rf.LANE_PRBS_BITS_LO_BITS.at k) n).setFld d (Rf.LANE_PRBS_BITS_HI_BITS.at k) (n / 2 ^ 32)
  s.addFld d (Rf.LANE_PRBS_ERR_ERR.at k) errs

/-- PRBS_CHECKER_LOCK (R572): the checker locks or unlocks; the counts of a locked stretch come with its end. -/
def prbsCheckerLock (d : Fin 4) (k : Nat) (lock : Bool) (bits : BitVec 64) (errs : Nat) (s : Chip) : Chip :=
  whenUp s d fun s =>
    if s.fld d (Rf.LANE_PRBS_RXPAT.at k) = 0 || !s.flag d (Rf.LANE_STAT_LOCK.at k) then s
    else
      let s := if s.flag d (Rf.LANE_PRBS_RXLOCK.at k) then prbsCount s d k bits errs else s
      s.setFld d (Rf.LANE_PRBS_RXLOCK.at k) (b2n lock)

/-- A read of PRBS_BITS_LO (R590): HI is latched and the count clears; `bits` and `errs` are what the locked checker has
counted since its counts last came. -/
def prbsBitsRead (s : Chip) (d : Fin 4) (k : Nat) (bits : BitVec 64) (errs : Nat) : Chip :=
  let s := if s.flag d (Rf.LANE_PRBS_RXLOCK.at k) then prbsCount s d k bits errs else s
  let lo := s.reg d (Rf.LANE_PRBS_BITS_LO_BITS.at k).key
  let hi := s.reg d (Rf.LANE_PRBS_BITS_HI_BITS.at k).key
  let s := s.upd d fun x => { x with latch := mapPut (fun _ => none) x.latch (Rf.LANE_PRBS_BITS_HI_BITS.at k).key (some hi) }
  { (s.setFld d (Rf.LANE_PRBS_BITS_LO_BITS.at k) 0).setFld d (Rf.LANE_PRBS_BITS_HI_BITS.at k) 0 with reply := .word lo }

/-- EYE_SCAN_DONE (R573). -/
def eyeScanDone (d : Fin 4) (k : Nat) (errs : Nat) (s : Chip) : Chip :=
  whenUp s d fun s =>
    if s.flag d (Rf.LANE_EYE_STAT_BUSY.at k) then
      (s.setFld d (Rf.LANE_EYE_STAT_BUSY.at k) 0).setFld d (Rf.LANE_EYE_ERR_ERR.at k) (min errs (2 ^ 32 - 1))
    else s

/-- PCS_HIBER (R589): from the group's lowest lane. -/
def pcsHiber (d : Fin 4) (k : Nat) (s : Chip) : Chip :=
  whenUp s d fun s =>
    let k := groupLead s d k
    let pcs := lanePcs s d k
    if pcs = 0 ∨ 5 < pcs ∨ s.flag d (Rf.LANE_STAT_HIBER.at k) then s
    else raise (s.setFld d (Rf.LANE_STAT_HIBER.at k) 1) d (laneSrc k) K.PCSHIBER 0 0

/-- PCS_BLOCK_LOCK (R570): a change of block lock restarts the BER monitor. -/
def pcsBlockLock (d : Fin 4) (k : Nat) (lock : Bool) (s : Chip) : Chip :=
  whenUp s d fun s =>
    let k := groupLead s d k
    let pcs := lanePcs s d k
    if pcs = 0 ∨ 5 < pcs ∨ (lock ∧ !s.flag d (Rf.LANE_STAT_LOCK.at k)) then s
    else (s.setFld d (Rf.LANE_STAT_PCSLOCK.at k) (b2n lock)).setFld d (Rf.LANE_STAT_HIBER.at k) 0

/-- The codewords of the tick that ends, corrected and uncorrectable for each lane in turn (R589, R590).
DESIGN CHOICE, log 129. -/
def fecCounts (s : Chip) (d : Fin 4) (fec : List Nat) : Chip :=
  overAll (fun s k =>
    let pcs := lanePcs s d k
    let corr := (fec.drop (2 * k)).headD 0
    let unc := (fec.drop (2 * k + 1)).headD 0
    if pcs < 3 ∨ 5 < pcs ∨ groupLead s d k ≠ k then s
    else
      let s := (s.addFld d (Rf.LANE_FEC_CORR_CORR.at k) corr).addFld d (Rf.LANE_FEC_UNC_UNC.at k) unc
      if unc = 0 then s else raise s d (laneSrc k) K.FECUNC 0 (min unc (2 ^ 32 - 1))) s (range 0 8)

/-- A lane rail of the die is absent: its lanes go to OFF, with nothing saved (R907). -/
def lanesOff (s : Chip) (d : Fin 4) : Chip :=
  overAll (fun s k => (laneGo s d k 3).setFld d (Rf.LANE_STAT_STATE.at k) 3 |>.setLane d k
    { (s.lane d k) with toSt := 3, pend := none, full := false, saved := none, snap := [] }) s (range 0 8)

/-- The rail is back: each lane goes to its REQ state (R907). -/
def lanesBack (s : Chip) (d : Fin 4) : Chip :=
  overAll (fun s k => laneAsk s d k (s.fld d (Rf.LANE_CTL_REQ.at (groupLead s d k)))) s (range 0 8)

/-! ### Meanings -/

/-- LANE_REQ_WRITE: a write of LANE.CTL_k. -/
def execLaneReqWrite (t : Fin 256) (d : Fin 4) (k : Fin 8) (v : Word) (s : State) : Out :=
  act s fun s => whenGranted s d t (Rf.LANE_CTL_REQ.at k.val) fun s =>
    leadWrite s d t k.val (Rf.LANE_CTL_REQ.at k.val) fun s => laneCtl s d k.val v
/-- LANE_APPLY: a write of LANE.CTL_k with APPLY, at the LREF frequencies measured last. -/
def execLaneApply (t : Fin 256) (d : Fin 4) (k : Fin 8) (v : Word) (lref0 lref1 : BitVec 20) (s : State) : Out :=
  act s fun s => whenGranted s d t (Rf.LANE_CTL_APPLY.at k.val) fun s =>
    let s := (s.setFld d (Rf.LANE_LREF_FREQ_FREQ.at 0) lref0.toNat).setFld d (Rf.LANE_LREF_FREQ_FREQ.at 1) lref1.toNat
    leadWrite s d t k.val (Rf.LANE_CTL_APPLY.at k.val) fun s => laneCtl s d k.val (v ||| 0x80000000)
/-- LANE_STATE_DONE. -/
def execLaneStateDone (d : Fin 4) (k : Fin 8) (s : State) : Out :=
  act s fun s => laneStateDone d k.val s
/-- LANE_DEMAND. -/
def execLaneDemand (d : Fin 4) (k : Fin 8) (sd : Bool) (s : State) : Out :=
  act s fun s => whenUp s d fun s => laneDemand s d k.val sd
/-- LANE_LOCK_LOSS. -/
def execLaneLockLoss (d : Fin 4) (k : Fin 8) (sdFell : Bool) (s : State) : Out :=
  act s fun s => laneLockLoss d k.val sdFell s
/-- LANE_PLL_UNLOCK. -/
def execLanePllUnlock (d : Fin 4) (k : Fin 8) (s : State) : Out :=
  act s fun s => lanePllUnlock d k.val s
/-- DFE_ADAPT. -/
def execDfeAdapt (d : Fin 4) (k : Fin 8) (accs : List Int) (s : State) : Out :=
  act s fun s => dfeAdapt d k.val accs s
/-- DFE_TAP_WRITE: tap number `tap` + 1. -/
def execDfeTapWrite (t : Fin 256) (d : Fin 4) (k : Fin 8) (tap : Fin 12) (v : Word) (s : State) : Out :=
  act s fun s => whenGranted s d t (tapF k.val (tap.val + 1)) fun s =>
    laneWrite s d t k.val (tapF k.val (tap.val + 1)) fun s => dfeTap s d k.val (tap.val + 1) v
/-- DFE_RESET. -/
def execDfeReset (t : Fin 256) (d : Fin 4) (k : Fin 8) (s : State) : Out :=
  act s fun s => whenGranted s d t (Rf.LANE_DFE_CTL_RESET.at k.val) fun s =>
    laneWrite s d t k.val (Rf.LANE_DFE_CTL_RESET.at k.val) fun s => clearTaps s d k.val
/-- TXFIR_WRITE. -/
def execTxfirWrite (t : Fin 256) (d : Fin 4) (k : Fin 8) (v : Word) (s : State) : Out :=
  act s fun s => whenGranted s d t (Rf.LANE_TXFIR_PRE.at k.val) fun s =>
    laneWrite s d t k.val (Rf.LANE_TXFIR_PRE.at k.val) fun s => txfirWrite s d k.val v
/-- CTLE_WRITE. -/
def execCtleWrite (t : Fin 256) (d : Fin 4) (k : Fin 8) (v : Word) (s : State) : Out :=
  act s fun s => whenGranted s d t (Rf.LANE_CTLE_PEAK.at k.val) fun s =>
    laneWrite s d t k.val (Rf.LANE_CTLE_PEAK.at k.val) fun s => ctleWrite s d k.val v
/-- EYE_SCAN_GO: a write of LANE.EYE_k. -/
def execEyeScanGo (t : Fin 256) (d : Fin 4) (k : Fin 8) (v : Word) (s : State) : Out :=
  act s fun s => whenGranted s d t (Rf.LANE_EYE_GO.at k.val) fun s => eyeWrite s d k.val v
/-- EYE_SCAN_DONE. -/
def execEyeScanDone (d : Fin 4) (k : Fin 8) (errs : Nat) (s : State) : Out :=
  act s fun s => eyeScanDone d k.val errs s
/-- PCS_HIBER. -/
def execPcsHiber (d : Fin 4) (k : Fin 8) (s : State) : Out :=
  act s fun s => pcsHiber d k.val s
/-- LANE_CDR_LOCK. -/
def execLaneCdrLock (d : Fin 4) (k : Fin 8) (s : State) : Out :=
  act s fun s => laneCdrLock d k.val s
/-- LANE_PLL_RELOCK. -/
def execLanePllRelock (d : Fin 4) (k : Fin 8) (s : State) : Out :=
  act s fun s => lanePllRelock d k.val s
/-- PRBS_CHECKER_LOCK. -/
def execPrbsCheckerLock (d : Fin 4) (k : Fin 8) (lock : Bool) (bits : BitVec 64) (errs : Nat) (s : State) : Out :=
  act s fun s => prbsCheckerLock d k.val lock bits errs s
/-- PCS_BLOCK_LOCK. -/
def execPcsBlockLock (d : Fin 4) (k : Fin 8) (lock : Bool) (s : State) : Out :=
  act s fun s => pcsBlockLock d k.val lock s

end Sys2Proof.Machine
end

