-- ==== Sys2Proof/Machine/Flows.lean ====
section
/-! DEFINITION. Flows and check-value units (R591 to R626), and the meanings of their commands. -/

namespace Sys2Proof.Machine

/-! ### Algorithms (R595, R596) -/

/-- Width, polynomial as its register uses it, INIT, reflection and XOROUT of an algorithm (R595); a reflected polynomial
is written in reflected order. -/
structure CrcSpec where
  w : Nat
  poly : Nat
  init : Nat
  refl : Bool
  out : Nat
  deriving DecidableEq, Repr

/-- The algorithms 0 to 4 (R595). -/
def crcSpec : Nat → CrcSpec
  | 0 => ⟨32, 0xEDB88320, 0xFFFFFFFF, true, 0xFFFFFFFF⟩
  | 1 => ⟨32, 0x82F63B78, 0xFFFFFFFF, true, 0xFFFFFFFF⟩
  | 2 => ⟨16, 0x8408, 0xFFFF, true, 0xFFFF⟩
  | 3 => ⟨16, 0x8BB7, 0, false, 0⟩
  | _ => ⟨8, 0x07, 0, false, 0⟩

/-- `n` bit steps of a reflected register. -/
def crcRight : Nat → Nat → Nat → Nat
  | 0, _, r => r
  | n + 1, p, r => crcRight n p (if r % 2 = 1 then Nat.xor (r / 2) p else r / 2)

/-- `n` bit steps of an unreflected register of `w` bits. -/
def crcLeft : Nat → Nat → Nat → Nat → Nat
  | 0, _, _, r => r
  | n + 1, w, p, r => crcLeft n w p (if bit r (w - 1) then Nat.xor (2 * r % 2 ^ w) p else 2 * r % 2 ^ w)

/-- The ones'-complement sum of two 16-bit words (R596). -/
def onesAdd (a b : Nat) : Nat := if a + b < 65536 then a + b else a + b - 65535

/-- The running value after one more byte (R596). -/
def chkByte (alg rv : Nat) (b : Byte) : Nat :=
  if alg = 5 then
    if bit rv 24 then onesAdd (rv % 65536) (rv / 65536 % 256 * 256 + b.toNat)
    else rv % 65536 + b.toNat * 65536 + 2 ^ 24
  else
    let c := crcSpec alg
    let r := rv % 2 ^ c.w
    if c.refl then crcRight 8 c.poly (Nat.xor r b.toNat)
    else crcLeft 8 c.w c.poly (Nat.xor r (b.toNat * 2 ^ (c.w - 8)))

/-- The running value after bytes. -/
def chkBytes (alg : Nat) (rv : Nat) (bs : List Byte) : Nat := bs.foldl (chkByte alg) rv

/-- INIT of an algorithm. -/
def chkInit (alg : Nat) : Nat := if alg = 5 then 0 else (crcSpec alg).init

/-- The final value (R596). -/
def chkFinal (alg rv : Nat) : Nat :=
  if alg = 5 then
    65535 - (if bit rv 24 then onesAdd (rv % 65536) (rv / 65536 % 256 * 256) else rv % 65536)
  else Nat.xor (rv % 2 ^ (crcSpec alg).w) (crcSpec alg).out

/-- The bytes of a check field (R595). -/
def fieldLen (alg : Nat) : Nat := if alg = 5 then 2 else (crcSpec alg).w / 8

/-- The check field in its byte order (R595). -/
def fieldBytes (alg v : Nat) : List Byte :=
  let bs := leBytes (fieldLen alg) v
  if alg = 3 ∨ alg = 5 then bs.reverse else bs

/-! ### Flow state -/

/-- Flow `f` of die `d` beyond its registers. -/
def Chip.flow (s : Chip) (d : Fin 4) (f : Nat) : FlowSt := mapGet (fun _ => {}) (s.d d).flows f

/-- Replace it. -/
def Chip.setFlow (s : Chip) (d : Fin 4) (f : Nat) (x : FlowSt) : Chip :=
  s.upd d fun y => { y with flows := mapPut (fun _ => {}) y.flows f x }

/-- The running value of a flow (R598). -/
def flowRv (s : Chip) (d : Fin 4) (f : Nat) : Nat := (s.flow d f).run.getD (s.fld d (Rf.FLOW_RV_RV.at f))

/-- A frame leaves the running value `rv`, and RV_f shows `shown` (R597, R598). DEDUCED, log 130. -/
def endRv (s : Chip) (d : Fin 4) (f rv shown : Nat) : Chip :=
  (s.setFld d (Rf.FLOW_RV_RV.at f) shown).setFlow d f { s.flow d f with run := if shown = rv then none else some rv }

/-- A write of RV_f sets the running value (R613). DEDUCED, log 138. -/
def rvWrite (s : Chip) (d : Fin 4) (f : Nat) (v : Word) : Chip :=
  (s.setFld d (Rf.FLOW_RV_RV.at f) v.toNat).setFlow d f { s.flow d f with run := none }

/-- The tenant of a flow. -/
def flowTen (s : Chip) (d : Fin 4) (f : Nat) : Fin 256 := Fin.ofNat 256 (s.fld d (Rf.FLOW_CTL_TENANT.at f))

/-- The enabled flows of a direction on lane `k`, rising: an enabled flow's CTL is a listed register. -/
def flowsOn (s : Chip) (d : Fin 4) (dir k : Nat) : List Nat :=
  ((s.d d).regs.filterMap fun e =>
    let o := e.1 - (13 * 1048576 + 0x10000)
    if 13 * 1048576 + 0x10000 ≤ e.1 ∧ o % 64 = 0 ∧ o / 64 < 1024 then some (o / 64) else none).filter fun f =>
      s.flag d (Rf.FLOW_CTL_EN.at f) && s.fld d (Rf.FLOW_CTL_DIR.at f) == dir && s.fld d (Rf.FLOW_CTL_LANE.at f) == k

/-- The width of a flow's alive counter (R605): 4 bits for a tenant under ALIVE4 (R32). -/
def aliveMod (s : Chip) (d : Fin 4) (f : Nat) : Nat := if compatFor s (flowTen s d f) 2 then 16 else 256

/-- The words that `n` bytes of PACKED layout fill. -/
def wordsFor (n : Nat) : Nat := (n + 6) / 7

/-! ### Transmit (R599 to R601, R605, R606, R620, R625, R626) -/

/-- What a read of a template found. -/
inductive TxRead
  | bytes (l : List Byte)
  | poison (word : Nat)
  | wait
  deriving DecidableEq, Repr

/-- Read `n` template words from word `w` on, in ascending order (R599). -/
def readTemplate : Nat → Chip → Fin 4 → Nat → List Byte → Chip × TxRead
  | 0, s, _, _, acc => (s, .bytes acc)
  | n + 1, s, d, w, acc =>
    let r := readMem s d .spad w 15 .outside
    match r.2 with
    | .val q _ => readTemplate n r.1 d (w + 1) (acc ++ packWord q)
    | .poison => (r.1, .poison w)
    | .stall => (r.1, .wait)

/-- Some template word of the flow is BASTED or INGEST (R601). -/
def templateBasted (s : Chip) (d : Fin 4) (f : Nat) : Bool :=
  (range (s.fld d (Rf.FLOW_BUF_BUF.at f)) (wordsFor (s.fld d (Rf.FLOW_SIZE_TLEN.at f)))).any fun w =>
    let t := (s.word d .spad w).tag
    t == .basted || t == .ingest

/-- Read a flow's template: TLEN bytes. -/
def template (s : Chip) (d : Fin 4) (f : Nat) : Chip × TxRead :=
  let len := s.fld d (Rf.FLOW_SIZE_TLEN.at f)
  let r := readTemplate (wordsFor len) s d (s.fld d (Rf.FLOW_BUF_BUF.at f)) []
  match r.2 with
  | .bytes l => (r.1, .bytes (l.take len))
  | x => (r.1, x)

/-- The frame ends with the port's abort flag and the flow's tenant is faulted (R626). -/
def abortFrame (s : Chip) (d : Fin 4) (f word : Nat) : Chip :=
  { poisonFault s d .spad word 0 (flowTen s d f) with reply := .poison }

/-- The body with the alive counter put into its byte (R605, R606). -/
def putAlive (m aoff next : Nat) (body : List Byte) : List Byte :=
  match body[aoff]? with
  | some b => body.set aoff (BitVec.ofNat 8 (b.toNat / m * m + next % m))
  | none => body

/-- Send a frame whose template reads `body` (R597, R598, R600, R605). -/
def sendFrame (s : Chip) (d : Fin 4) (f : Nat) (body : List Byte) : Chip :=
  let m := aliveMod s d f
  let alg := s.fld d (Rf.FLOW_CTL_ALG.at f)
  let cmode := s.fld d (Rf.FLOW_CTL_CMODE.at f)
  let alive := s.flag d (Rf.FLOW_CTL_ALIVE_EN.at f)
  let next := s.fld d (Rf.FLOW_ALIVE_COUNT.at f)
  let body := if alive then putAlive m (s.fld d (Rf.FLOW_ALIVE_AOFF.at f)) next body else body
  let rv0 := if s.flag d (Rf.FLOW_CTL_PERFRAME.at f) then chkInit alg else flowRv s d f
  let rv := chkBytes alg rv0 (body.drop (s.fld d (Rf.FLOW_CVSTART_CVSTART.at f)))
  let frame := if cmode = 2 then body ++ fieldBytes alg (chkFinal alg rv) else body
  let s := if cmode = 0 then s else endRv s d f rv (if cmode = 1 then chkFinal alg rv else rv)
  let s := if alive then s.setFld d (Rf.FLOW_ALIVE_COUNT.at f) ((next + 1) % m) else s
  let s := s.setFld d (Rf.FLOW_TXREQ_PENDING.at f) (s.fld d (Rf.FLOW_TXREQ_PENDING.at f) - 1)
  let s := (s.addFld d (Rf.FLOW_FRAMES_FRAMES.at f) 1).setFlow d f { s.flow d f with ready := none }
  { s with reply := .bytes frame }

/-- The flow unit's next flow on lane `k`: round-robin in ascending number (R593). -/
def nextTxFlow (s : Chip) (d : Fin 4) (k : Nat) : Option Nat :=
  let fs := (flowsOn s d 0 k).filter fun f => s.fld d (Rf.FLOW_TXREQ_PENDING.at f) != 0 && !(s.flow d f).held
  let p := mapGet (fun _ => 0) (s.d d).flowNext k
  match fs.find? fun f => decide (p ≤ f) with
  | some f => some f
  | none => fs.head?

/-- The next flow after `f` is served next on lane `k`. -/
def passFlow (s : Chip) (d : Fin 4) (k f : Nat) : Chip :=
  s.upd d fun x => { x with flowNext := mapPut (fun _ => 0) x.flowNext k (f + 1) }

/-- FLOW_TX_FRAME (R568, R592, R593, R599, R601, R626): the flow unit offers the next frame of lane `k`, which is transmit
work for the lane; it starts once the lane is ACTIVE. -/
def flowTxFrame (d : Fin 4) (k : Nat) (s : Chip) : Chip :=
  whenUp s d fun s =>
    if !present s d 0x0D then s
    else match nextTxFlow s d k with
      | none => s
      | some f =>
        let s := laneDemand s d k false
        if laneState s d (groupLead s d k) ≠ 0 then s
        else match (s.flow d f).ready with
        | some body => passFlow (sendFrame s d f body) d k f
        | none =>
          if templateBasted s d f then passFlow (s.setFlow d f { s.flow d f with held := true }) d k f
          else
            let r := template s d f
            match r.2 with
            | .bytes body => passFlow (sendFrame r.1 d f body) d k f
            | .poison w => passFlow (abortFrame r.1 d f w) d k f
            | .wait => r.1

/-- Flows of die `d` whose frame is held for tenant `t`. -/
def heldFlows (s : Chip) (d : Fin 4) (t : Fin 256) : List Nat :=
  ((s.d d).flows.filter fun e => e.2.held && flowTen s d e.1 == t).map Prod.fst

/-- The held frames of tenant `t` are released at stitch, with their templates read at that point (R601, R620). -/
def releaseFrames (s : Chip) (d : Fin 4) (t : Fin 256) : Chip :=
  overAll (fun s f =>
    let s := s.setFlow d f { s.flow d f with held := false }
    let r := template s d f
    match r.2 with
    | .bytes body => r.1.setFlow d f { r.1.flow d f with ready := some body }
    | .poison w => abortFrame r.1 d f w
    | .wait => r.1) s (heldFlows s d t)

/-- The held frames of tenant `t` are discarded at unpick (R601, R625). -/
def discardFrames (s : Chip) (d : Fin 4) (t : Fin 256) : Chip :=
  overAll (fun s f =>
    let s := s.setFlow d f { s.flow d f with held := false }
    let s := s.setFld d (Rf.FLOW_TXREQ_PENDING.at f) (s.fld d (Rf.FLOW_TXREQ_PENDING.at f) - 1)
    raise (s.addFld d (Rf.FLOW_DISCARDS_DISCARDS.at f) 1) d 0x200 K.FLTXDISC t f) s (heldFlows s d t)

/-! ### Receive (R602 to R607, R615 to R619, R622 to R624) -/

/-- The mask of the lanes that `n` bytes from a word's first byte reach. -/
def byteLanes (n : Nat) : Nat := if 7 ≤ n then 15 else 2 ^ ((8 * n + 13) / 14) - 1

/-- The words of a slot's data: word, lanes and content. DESIGN CHOICE, log 135. -/
def bodyWords : Nat → Nat → List Byte → List (Nat × Nat × Quadlane)
  | 0, _, _ => []
  | n + 1, w, bs =>
    if bs.isEmpty then [] else (w, byteLanes bs.length, unpackWord (bs.take 7)) :: bodyWords n (w + 1) (bs.drop 7)

/-- The writes of a frame into its slot: the data words, then the header (R602). -/
def slotWrites (e : SfEnt) : List (Nat × Nat × Quadlane) :=
  bodyWords (wordsFor e.body.length) (e.word + 1) e.body ++ [(e.word, 15, e.header)]

/-- A word's bank is on, or wakes. -/
def reachBank (s : Chip) (d : Fin 4) (i : Nat) : Chip :=
  if bankOn s d (bankOf i) then touchBank s d (bankOf i) else wakeBank s d (bankOf i)

/-- PROD of a flow advances (R602). -/
def advanceProd (s : Chip) (d : Fin 4) (f : Nat) : Chip :=
  s.setFld d (Rf.FLOW_PTR_PROD.at f) (s.fld d (Rf.FLOW_PTR_PROD.at f) + 1)

/-- A cut-through frame is written as INGEST words (R253, R603). -/
def writeCut (s : Chip) (d : Fin 4) (e : SfEnt) (t : Fin 256) : Chip :=
  advanceProd (overAll (fun s (w : Nat × Nat × Quadlane) => ingestWord (reachBank s d w.1) d w.1 w.2.1 w.2.2 t true) s
    (slotWrites e)) d e.flow

/-- A word of the frame's slot is INGEST, and a write of it waits (R262). -/
def slotWaits (s : Chip) (d : Fin 4) (e : SfEnt) : Bool :=
  (slotWrites e).any fun w => (s.word d .spad w.1).tag == .ingest

/-- A checked frame is written as committed words (R603). -/
def writeStored (s : Chip) (d : Fin 4) (e : SfEnt) : Chip :=
  advanceProd (overAll (fun s (w : Nat × Nat × Quadlane) =>
    (writeWord (reachBank s d w.1) d .spad w.1 w.2.1 w.2.2 .plain).1) s (slotWrites e)) d e.flow

/-- Write the waiting frames whose slots are free, each flow's in order. -/
def drainStored : Chip → Fin 4 → List Nat → List SfEnt → Chip
  | s, _, _, [] => s
  | s, d, blocked, e :: es =>
    if blocked.contains e.flow || slotWaits s d e then drainStored s d (e.flow :: blocked) es
    else drainStored (writeStored (s.upd d fun x => { x with sfq := x.sfq.erase e }) d e) d blocked es

/-- Bytes free in the store-and-forward buffer (R603). -/
def sfFree (s : Chip) (d : Fin 4) : Nat := 131072 - ((s.d d).sfq.map fun e => e.body.length).foldl (· + ·) 0

/-- Frames of flow `f` that wait in the buffer. -/
def sfWaiting (s : Chip) (d : Fin 4) (f : Nat) : Nat := ((s.d d).sfq.filter fun e => e.flow == f).length

/-- FLDROP, at most once per flow per tick (R624). DEDUCED, log 134; DEDUCED, log 136. -/
def flDrop (s : Chip) (d : Fin 4) (f : Nat) (t : Fin 256) (pay : Nat) : Chip :=
  if (s.flow d f).told then s
  else raise (if ticking s d then s.setFlow d f { s.flow d f with told := true } else s) d 0x200 K.FLDROP t (f + pay)

/-- A check failure is counted; FLCHK follows at the end of the tick, or at once with no tick (R623).
DEDUCED, log 137. -/
def flChk (s : Chip) (d : Fin 4) (f : Nat) : Chip :=
  let s := s.addFld d (Rf.FLOW_CHKBAD_CHKBAD.at f) 1
  if ticking s d then s.setFlow d f { s.flow d f with bad := (s.flow d f).bad + 1 }
  else raise s d 0x200 K.FLCHK (flowTen s d f) (f + 2 ^ 16)

/-- What the alive counter of a frame shows (R605, R606): header flags 16 to 19 in place. -/
def judgeAlive (s : Chip) (d : Fin 4) (f : Nat) (body : List Byte) : Chip × Nat :=
  if !s.flag d (Rf.FLOW_CTL_ALIVE_EN.at f) then (s, 0)
  else match body[s.fld d (Rf.FLOW_ALIVE_AOFF.at f)]? with
    | none => (s, 2 ^ 18)
    | some b =>
      let m := aliveMod s d f
      let v := b.toNat % m
      let last := s.fld d (Rf.FLOW_ALIVE_COUNT.at f) % m
      let seen := s.flag d (Rf.FLOW_ALIVE_SEEN.at f)
      let s := (s.setFld d (Rf.FLOW_ALIVE_COUNT.at f) v).setFld d (Rf.FLOW_ALIVE_SEEN.at f) 1
      if !seen then (s, 2 ^ 19)
      else if v = (last + 1) % m then (s, 0)
      else if v = last then (s.addFld d (Rf.FLOW_REPEATS_REPEATS.at f) 1, 2 ^ 16)
      else
        let lost := (v + 2 * m - last - 1) % m
        (raise (s.addFld d (Rf.FLOW_LOST_LOST.at f) lost) d 0x200 K.FLGAP (flowTen s d f)
          (f + lost * 2 ^ 10 + v * 2 ^ 18), 2 ^ 17)

/-- The actual or expected STITCH start of the tick, from its start. -/
def stitchOffset (s : Chip) (d : Fin 4) : Nat :=
  let k := (s.d d).tick
  match k.stitchAt with
  | some t => (t - k.start).toNat
  | none => if k.extended then k.set.p + k.set.s else k.set.s

/-- A frame that starts at time `start` is taken cut-through (R251, R281, R603). DEDUCED, log 133. -/
def takenCut (s : Chip) (d : Fin 4) (f : Nat) (start : Time) : Bool :=
  let k := (s.d d).tick
  s.fld d (Rf.FLOW_CTL_CMODE.at f) == 2 && s.flag d (Rf.FLOW_CTL_CUT.at f) && ticking s d &&
    decide ((start - k.start).toNat + s.resolve.guard < k.set.s)

/-- The frame basis of a cut-through frame fails, or is unconfirmed at S + 31 (R267, R619). -/
def frameBasis (s : Chip) (d : Fin 4) (t : Fin 256) (bad late : Bool) : Chip :=
  s.onBaste d fun b =>
    { b with frameBad := if bad && !late && !b.frameBad.contains t then t :: b.frameBad else b.frameBad
             frameLate := if late && !b.frameLate.contains t then t :: b.frameLate else b.frameLate }

/-- A frame of an enabled receive flow is checked, judged and stored or dropped. -/
def receiveFrame (s : Chip) (d : Fin 4) (f : Nat) (start stop : Time) (data : List Byte) : Chip :=
  let alg := s.fld d (Rf.FLOW_CTL_ALG.at f)
  let cmode := s.fld d (Rf.FLOW_CTL_CMODE.at f)
  let t := flowTen s d f
  let n := fieldLen alg
  let body := if cmode = 2 then data.take (data.length - n) else data
  let rv0 := if s.flag d (Rf.FLOW_CTL_PERFRAME.at f) then chkInit alg else flowRv s d f
  let rv := chkBytes alg rv0 (body.drop (s.fld d (Rf.FLOW_CVSTART_CVSTART.at f)))
  let bad := cmode = 2 && (decide (data.length < n + 1) ||
    data.drop (data.length - n) != fieldBytes alg (chkFinal alg rv))
  let slotw := s.fld d (Rf.FLOW_SIZE_SLOTW.at f)
  let slots := s.fld d (Rf.FLOW_SIZE_SLOTS.at f)
  let prod := (s.fld d (Rf.FLOW_PTR_PROD.at f) + sfWaiting s d f) % 65536
  let full := (prod + 65536 - s.fld d (Rf.FLOW_PTR_CONS.at f)) % 65536 == slots
  let long := decide (7 * (slotw - 1) < body.length)
  let cut := takenCut s d f start
  let s := if cmode = 0 then s else endRv s d f rv rv
  let s := s.addFld d (Rf.FLOW_FRAMES_FRAMES.at f) 1
  let s := if bad then flChk s d f else s
  let r := if bad then (s, 2 ^ 15) else judgeAlive s d f body
  if full || long then
    flDrop (r.1.addFld d (Rf.FLOW_DROPS_DROPS.at f) 1) d f t (if full then 0 else 2 ^ 10)
  else
    let cv := if cmode = 1 then chkFinal alg rv else 0
    let e : SfEnt :=
      { flow := f, word := s.fld d (Rf.FLOW_BUF_BUF.at f) + prod % slots * slotw, body := body,
        header := BitVec.ofNat 56 (body.length + b2n cut * 2 ^ 14 + r.2 + cv * 2 ^ 24) }
    if cut then
      writeCut (frameBasis r.1 d t bad (decide (stitchOffset s d + 31 < (stop - (s.d d).tick.start).toNat))) d e t
    else
      let s := r.1.upd d fun x => { x with sfq := x.sfq ++ [e] }
      drainStored s d [] (s.d d).sfq

/-- FLOW_RX_FRAME (R602 to R607): a frame presented on FLPORT_k for flow `f`; its first word came at `start` and its last
byte at `stop`. -/
def flowRxFrame (d : Fin 4) (k f : Nat) (start stop : Time) (data : List Byte) (s : Chip) : Chip :=
  whenUp s d fun s =>
    if !present s d 0x0D || decide (sfFree s d < 16400) then s
    else if s.flag d (Rf.FLOW_CTL_EN.at f) && s.flag d (Rf.FLOW_CTL_DIR.at f) && s.fld d (Rf.FLOW_CTL_LANE.at f) == k then
      receiveFrame s d f start stop data
    else flDrop (s.addFld d (Rf.FLOW_UNK_UNK.at k) 1) d f 0 (2 * 2 ^ 10 + k * 2 ^ 12)

/-- The flow unit at the end of a tick (R623, R624). -/
def flowsTickEnd (s : Chip) (d : Fin 4) : Chip :=
  overAll (fun s f =>
    let x := s.flow d f
    let s := if x.bad = 0 then s else raise s d 0x200 K.FLCHK (flowTen s d f) (f + min x.bad 0xFFFF * 2 ^ 16)
    s.setFlow d f { x with bad := 0, told := false }) s ((s.d d).flows.map Prod.fst)

/-- The alive counters at a tick start: LAST and NEXT modulo 2^w (R608). -/
def flowsTickStart (s : Chip) (d : Fin 4) : Chip :=
  overAll (fun s f => s.setFld d (Rf.FLOW_ALIVE_COUNT.at f) (s.fld d (Rf.FLOW_ALIVE_COUNT.at f) % aliveMod s d f)) s
    ((range 0 8).flatMap fun k => flowsOn s d 0 k ++ flowsOn s d 1 k)

/-! ### Register writes (R600, R611 to R614) -/

/-- A grant for FLOW, or the flow is the writer's own (R611). -/
def flowOwned (s : Chip) (d : Fin 4) (t : Fin 256) (f : Nat) : Bool :=
  granted s d 0x0D t || flowTen s d f == t

/-- FLOW_TXREQ_WRITE (R600). -/
def txreqWrite (s : Chip) (d : Fin 4) (f : Nat) (v : Word) : Chip :=
  s.addFld d (Rf.FLOW_TXREQ_PENDING.at f) (getBits v 0 16)

/-- Why EN = 1 is refused (R612). -/
inductive EnRes | ok | refused | descriptor
  deriving DecidableEq, Repr

/-- Whether flow `f` may be enabled (R612). DEDUCED, log 131. -/
def enableCheck (s : Chip) (d : Fin 4) (f : Nat) : EnRes :=
  let k := s.fld d (Rf.FLOW_CTL_LANE.at f)
  let rx := s.flag d (Rf.FLOW_CTL_DIR.at f)
  let tlen := s.fld d (Rf.FLOW_SIZE_TLEN.at f)
  let slotw := s.fld d (Rf.FLOW_SIZE_SLOTW.at f)
  let slots := s.fld d (Rf.FLOW_SIZE_SLOTS.at f)
  let words := if rx then slotw * slots else wordsFor tlen
  let buf := s.fld d (Rf.FLOW_BUF_BUF.at f)
  if 6 ≤ s.fld d (Rf.FLOW_CTL_ALG.at f) || s.fld d (Rf.LANE_STAT_STATE.at k) == 3 || s.flag d (Rf.LANE_STAT_SEAM.at k) ||
      (!rx && tlen == 0) || (rx && (slots == 0 || decide (slotw < 2) || decide (2341 < slotw))) ||
      decide (524288 < buf + words) then .refused
  else if permitted s d (flowTen s d f) rx (0x2000000000 + 4 * buf) (4 * words) then .ok
  else .descriptor

/-- EN of flow `f` is written to 0: its pending count and any held frame go (R612). DEDUCED, log 132. -/
def disableFlow (s : Chip) (d : Fin 4) (f : Nat) : Chip :=
  let s := (s.setFld d (Rf.FLOW_CTL_EN.at f) 0).setFld d (Rf.FLOW_TXREQ_PENDING.at f) 0
  s.setFlow d f { s.flow d f with held := false, ready := none }

/-- A permitted write of FLOW.CTL_f (R595, R612). -/
def flowCtlWrite (s : Chip) (d : Fin 4) (t : Fin 256) (f : Nat) (v : Word) : Chip :=
  let en := getBits v 0 1 == 1
  if s.flag d (Rf.FLOW_CTL_EN.at f) then (if en then s else disableFlow s d f)
  else if 6 ≤ getBits v 8 3 then refusedWrite s d t (Rf.FLOW_CTL_EN.at f)
  else
    let cmode := if getBits v 6 2 = 3 then 2 else getBits v 6 2
    let s := s.setReg d (Rf.FLOW_CTL_EN.at f).key (putBits (BitVec.ofNat 32 (v.toNat &&& 0x00FF1FFE)) 6 2 cmode)
    if en then
      match enableCheck s d f with
      | .ok => s.setFld d (Rf.FLOW_CTL_EN.at f) 1
      | .refused => s
      | .descriptor => accFault s d 0x200 (flowTen s d f) (4 * s.fld d (Rf.FLOW_BUF_BUF.at f))
    else disableFlow s d f

/-- FLOW_ALIVE_WRITE (R613). -/
def aliveWrite (s : Chip) (d : Fin 4) (f : Nat) (v : Word) : Chip :=
  s.setReg d (Rf.FLOW_ALIVE_AOFF.at f).key (v &&& 0x01FF3FFF)

/-- A write of CHK.CFG_c (R614): a write of ALG or of RESTART loads INIT. -/
def chkCfgWrite (s : Chip) (d : Fin 4) (t : Fin 256) (c : Nat) (v : Word) : Chip :=
  if 6 ≤ getBits v 0 3 then refusedWrite s d t (Rf.CHK_CFG_ALG.at c)
  else
    let s := (s.setFld d (Rf.CHK_CFG_ALG.at c) (getBits v 0 3)).setFld d (Rf.CHK_CFG_NBYTES.at c) (getBits v 4 2)
    s.setFld d (Rf.CHK_RV_RV.at c) (chkInit (getBits v 0 3))

/-- A write of CHK.DATA_c (R614). -/
def chkData (s : Chip) (d : Fin 4) (c : Nat) (v : Word) : Chip :=
  let n := s.fld d (Rf.CHK_CFG_NBYTES.at c)
  s.setFld d (Rf.CHK_RV_RV.at c)
    (chkBytes (s.fld d (Rf.CHK_CFG_ALG.at c)) (s.fld d (Rf.CHK_RV_RV.at c)) (leBytes (if n = 0 then 4 else n) v.toNat))

/-- CHK.RESULT_c (R614). -/
def chkResult (s : Chip) (d : Fin 4) (c : Nat) : Nat :=
  chkFinal (s.fld d (Rf.CHK_CFG_ALG.at c)) (s.fld d (Rf.CHK_RV_RV.at c))

/-! ### Meanings -/

/-- FLOW_TXREQ_WRITE. -/
def execFlowTxreqWrite (t : Fin 256) (d : Fin 4) (f : Fin 1024) (v : Word) (s : State) : Out :=
  act s fun s => whenUp s d fun s =>
    if !present s d 0x0D then s
    else if flowOwned s d t f.val then txreqWrite s d f.val v
    else refusedWrite s d t (Rf.FLOW_TXREQ_PENDING.at f.val)
/-- FLOW_TX_FRAME. -/
def execFlowTxFrame (d : Fin 4) (k : Fin 8) (s : State) : Out :=
  act s fun s => flowTxFrame d k.val s
/-- FLOW_RX_FRAME. -/
def execFlowRxFrame (d : Fin 4) (k : Fin 8) (f : Fin 1024) (start stop : BitVec 64) (data : List Byte) (s : State) : Out :=
  act s fun s => flowRxFrame d k.val f.val start stop data s
/-- FLOW_ENABLE: a write of FLOW.CTL_f. -/
def execFlowEnable (t : Fin 256) (d : Fin 4) (f : Fin 1024) (v : Word) (s : State) : Out :=
  act s fun s => whenGranted s d t (Rf.FLOW_CTL_EN.at f.val) fun s => flowCtlWrite s d t f.val v
/-- FLOW_RV_WRITE (R613). -/
def execFlowRvWrite (t : Fin 256) (d : Fin 4) (f : Fin 1024) (v : Word) (s : State) : Out :=
  act s fun s => whenGranted s d t (Rf.FLOW_RV_RV.at f.val) fun s => rvWrite s d f.val v
/-- FLOW_ALIVE_WRITE. -/
def execFlowAliveWrite (t : Fin 256) (d : Fin 4) (f : Fin 1024) (v : Word) (s : State) : Out :=
  act s fun s => whenGranted s d t (Rf.FLOW_ALIVE_AOFF.at f.val) fun s => aliveWrite s d f.val v
/-- CHK_DATA_WRITE. -/
def execChkDataWrite (t : Fin 256) (d : Fin 4) (c : Fin 256) (v : Word) (s : State) : Out :=
  act s fun s => whenGranted s d t (Rf.CHK_DATA_DATA.at c.val) fun s => chkData s d c.val v
/-- CHK_RESTART (R614). -/
def execChkRestart (t : Fin 256) (d : Fin 4) (c : Fin 256) (s : State) : Out :=
  act s fun s => whenGranted s d t (Rf.CHK_CFG_RESTART.at c.val) fun s =>
    s.setFld d (Rf.CHK_RV_RV.at c.val) (chkInit (s.fld d (Rf.CHK_CFG_ALG.at c.val)))
/-- CHK_ALG_WRITE. -/
def execChkAlgWrite (t : Fin 256) (d : Fin 4) (c : Fin 256) (v : Word) (s : State) : Out :=
  act s fun s => whenGranted s d t (Rf.CHK_CFG_ALG.at c.val) fun s => chkCfgWrite s d t c.val v

end Sys2Proof.Machine
end

