-- ==== Sys2Proof/Machine/RentikOps.lean ====
section
/-! DEFINITION. The slots of a Rentik bundle, their encoding, and the arithmetic of the vector and scalar units
(R396 to R404, R413 to R425). -/

namespace Sys2Proof.Machine

/-! ### Slot operations (R414 to R422) -/

/-- An M-slot operation. Vector operands are the 7-bit codes of R397. -/
inductive MOp
  | nop
  /-- LDV and, with `post`, LDVP. -/
  | ld (post : Bool) (R A : Nat) (K : Int)
  /-- STV and STVP. -/
  | st (post : Bool) (R A : Nat) (K : Int)
  | lds (R A : Nat) (K : Int)
  | sts (R A : Nat) (K : Int)
  | getl (R X L : Nat)
  | putl (R A L : Nat)
  | xld (R A F : Nat)
  | xst (R A F : Nat)
  | fence (K : Nat)
  deriving DecidableEq, Repr

/-- A V0-slot operation. -/
inductive V0Op
  | nop
  /-- MAC, MACZ (`zero`), MSU (`neg`), MACB and MACBZ (`lane`), TAPM and TAPMZ (`tap`). -/
  | mac (neg zero tap : Bool) (lane : Option Nat) (A X Y : Nat)
  | aadd (A X : Nat)
  | aclr (A : Nat)
  deriving DecidableEq, Repr

/-- The lane functions of two vectors. -/
inductive V2 | add | sub | min | max | and | or | xor
  deriving DecidableEq, Repr

/-- The shifts by a constant. -/
inductive VSh | shl | sra | srar
  deriving DecidableEq, Repr

/-- The compares. -/
inductive VCmp | lt | eq | mk
  deriving DecidableEq, Repr

/-- A V1-slot operation. -/
inductive V1Op
  | nop
  | two (f : V2) (D X Y : Nat)
  | abs (D X : Nat)
  | shift (f : VSh) (D X n : Nat)
  | mov (D X : Nat)
  | bcst (D X L : Nat)
  | splat (D S : Nat)
  | cmp (f : VCmp) (E X Y : Nat)
  | accn (D E SH : Nat)
  | accc (D E : Nat)
  | divs (E X Y : Nat) (first : Bool)
  | divf (D E X Y : Nat)
  deriving DecidableEq, Repr

/-- The scalar functions of two registers. -/
inductive SF | add | sub | and | or | xor | shl | shr
  deriving DecidableEq, Repr

/-- An S-slot operation. -/
inductive SOp
  | nop
  | alu (f : SF) (D A B : Nat)
  | addi (D A : Nat) (K : Int)
  | li (D : Nat) (K : Int)
  | lih (D K : Nat)
  | slt (D A B : Nat)
  | seq (D A B : Nat)
  | spred (D K : Nat)
  | br (T : Nat)
  | bz (A T : Nat)
  | bnz (A T : Nat)
  | loop (A T : Nat)
  | loopw (A T : Nat)
  | setwb (K : Nat)
  | mode (K : Bool)
  | rdt (D K : Nat)
  | stim (A K : Nat)
  | done
  deriving DecidableEq, Repr

/-- A bundle: guard and operation of each slot (R413, R414). -/
structure Bundle where
  mg : Nat := 0
  m : MOp := .nop
  v0g : Nat := 0
  v0 : V0Op := .nop
  v1g : Nat := 0
  v1 : V1Op := .nop
  sg : Nat := 0
  sop : SOp := .nop
  deriving DecidableEq, Repr

/-! ### Decoding a slot (R413 to R422); none is an opcode its slot does not list (R415) -/

/-- The guard of a slot word. -/
def slotGuard (w : Word) : Nat := getBits w 24 3

/-- The M slot (R416). -/
def decM (w : Word) : Option MOp :=
  let R := getBits w 17 7
  let sR := getBits w 17 5
  let A := getBits w 12 5
  let K := ofBits 12 (getBits w 0 12)
  match getBits w 27 5 with
  | 0x00 => some .nop
  | 0x01 => some (.ld false R A K)
  | 0x02 => some (.ld true R A K)
  | 0x03 => some (.st false R A K)
  | 0x04 => some (.st true R A K)
  | 0x05 => some (.lds sR A K)
  | 0x06 => some (.sts sR A K)
  | 0x07 => some (.getl sR (getBits w 4 7) (getBits w 0 4))
  | 0x08 => some (.putl R A (getBits w 0 4))
  | 0x09 => some (.xld R A (getBits w 0 2))
  | 0x0A => some (.xst R A (getBits w 0 2))
  | 0x0B => some (.fence (getBits w 0 3))
  | _ => none

/-- The V0 slot (R419). -/
def decV0 (w : Word) : Option V0Op :=
  let A := getBits w 21 3
  let X := getBits w 14 7
  let Y := getBits w 7 7
  let L := some (getBits w 3 4)
  match getBits w 27 5 with
  | 0x00 => some .nop
  | 0x01 => some (.mac false false false none A X Y)
  | 0x02 => some (.mac false true false none A X Y)
  | 0x03 => some (.mac true false false none A X Y)
  | 0x04 => some (.mac false false false L A X Y)
  | 0x05 => some (.mac false true false L A X Y)
  | 0x06 => some (.mac false false true L A X Y)
  | 0x07 => some (.mac false true true L A X Y)
  | 0x08 => some (.aadd A X)
  | 0x09 => some (.aclr A)
  | _ => none

/-- The V1 slot (R420). -/
def decV1 (w : Word) : Option V1Op :=
  let D := getBits w 17 7
  let X := getBits w 10 7
  let Y := getBits w 3 7
  let n := getBits w 3 4
  let E := getBits w 0 3
  match getBits w 27 5 with
  | 0x00 => some .nop
  | 0x01 => some (.two .add D X Y)
  | 0x02 => some (.two .sub D X Y)
  | 0x03 => some (.two .min D X Y)
  | 0x04 => some (.two .max D X Y)
  | 0x05 => some (.abs D X)
  | 0x06 => some (.two .and D X Y)
  | 0x07 => some (.two .or D X Y)
  | 0x08 => some (.two .xor D X Y)
  | 0x09 => some (.shift .shl D X n)
  | 0x0A => some (.shift .sra D X n)
  | 0x0B => some (.shift .srar D X n)
  | 0x0C => some (.mov D X)
  | 0x0D => some (.bcst D X n)
  | 0x0E => some (.splat D (getBits w 10 5))
  | 0x0F => some (.cmp .lt E X Y)
  | 0x10 => some (.cmp .eq E X Y)
  | 0x11 => some (.cmp .mk E X X)
  | 0x12 => some (.accn D E (getBits w 3 6))
  | 0x13 => some (.accc D E)
  | 0x14 => some (.divs E X Y (getBits w 17 1 == 1))
  | 0x15 => some (.divf D E X Y)
  | _ => none

/-- The S slot (R422). -/
def decS (w : Word) : Option SOp :=
  let D := getBits w 19 5
  let pD := getBits w 19 3
  let A := getBits w 14 5
  let B := getBits w 9 5
  let T := getBits w 0 12
  match getBits w 27 5 with
  | 0x00 => some .nop
  | 0x01 => some (.alu .add D A B)
  | 0x02 => some (.alu .sub D A B)
  | 0x03 => some (.alu .and D A B)
  | 0x04 => some (.alu .or D A B)
  | 0x05 => some (.alu .xor D A B)
  | 0x06 => some (.alu .shl D A B)
  | 0x07 => some (.alu .shr D A B)
  | 0x08 => some (.addi D A (ofBits 14 (getBits w 0 14)))
  | 0x09 => some (.li D (ofBits 19 (getBits w 0 19)))
  | 0x0A => some (.lih D (getBits w 0 14))
  | 0x0B => some (.slt pD A B)
  | 0x0C => some (.seq pD A B)
  | 0x0D => some (.spred pD (getBits w 0 16))
  | 0x0E => some (.br T)
  | 0x0F => some (.bz A T)
  | 0x10 => some (.bnz A T)
  | 0x11 => some (.loop A T)
  | 0x12 => some (.loopw A T)
  | 0x13 => some (.setwb (getBits w 0 6))
  | 0x14 => some (.mode (getBits w 0 1 == 1))
  | 0x15 => some (.rdt D (getBits w 0 2))
  | 0x16 => some (.stim A (getBits w 0 5))
  | 0x17 => some .done
  | _ => none

/-! ### Illegal operands (R397, R417, R421, R423) -/

/-- A vector operand code that names a register. -/
def vecCode (c : Nat) : Bool := decide (c < 32) || (decide (64 ≤ c) && decide (c < 128))

/-- The operation's operands are legal. -/
def MOp.legal : MOp → Bool
  | .ld _ R _ _ => vecCode R
  | .st _ R _ _ => vecCode R
  | .getl _ X _ => vecCode X
  | .putl R _ _ => vecCode R
  | .xld R A F => vecCode R && A != 31 && F != 3
  | .xst R A F => vecCode R && A != 31 && F != 3
  | _ => true

/-- The operation's operands are legal; X of a tap names a warp register. -/
def V0Op.legal : V0Op → Bool
  | .mac _ _ tap _ _ X Y => vecCode X && vecCode Y && (!tap || decide (64 ≤ X))
  | .aadd _ X => vecCode X
  | _ => true

/-- The operation's operands are legal. -/
def V1Op.legal : V1Op → Bool
  | .nop => true
  | .two _ D X Y => vecCode D && vecCode X && vecCode Y
  | .abs D X => vecCode D && vecCode X
  | .shift _ D X _ => vecCode D && vecCode X
  | .mov D X => vecCode D && vecCode X
  | .bcst D X _ => vecCode D && vecCode X
  | .splat D _ => vecCode D
  | .cmp _ _ X Y => vecCode X && vecCode Y
  | .accn D _ SH => vecCode D && decide (SH ≤ 42)
  | .accc D _ => vecCode D
  | .divs _ X Y _ => vecCode X && vecCode Y
  | .divf D _ X Y => vecCode D && vecCode X && vecCode Y

/-- The first slot that holds an illegal instruction, in the order M, V0, V1, S (R438). -/
def Bundle.illegal (b : Bundle) : Option Nat :=
  if !b.m.legal then some 0 else if !b.v0.legal then some 1 else if !b.v1.legal then some 2 else none

/-- The bundle that 128 bits spell, or the slot that is illegal (R413, R415, R438). -/
def decBundle (w : BitVec 128) : Bundle ⊕ Nat :=
  let slot := fun (i : Nat) => BitVec.ofNat 32 (w.toNat / 2 ^ (32 * i))
  match decM (slot 0), decV0 (slot 1), decV1 (slot 2), decS (slot 3) with
  | some m, some v0, some v1, some sop =>
    let b : Bundle := { mg := slotGuard (slot 0), m, v0g := slotGuard (slot 1), v0, v1g := slotGuard (slot 2), v1,
                        sg := slotGuard (slot 3), sop }
    match b.illegal with
    | some i => .inr i
    | none => .inl b
  | none, _, _, _ => .inr 0
  | some m, none, _, _ => .inr (if m.legal then 1 else 0)
  | some m, some v0, none, _ => .inr (if !m.legal then 0 else if !v0.legal then 1 else 2)
  | some m, some v0, some v1, none => .inr (if !m.legal then 0 else if !v0.legal then 1 else if !v1.legal then 2 else 3)

/-! ### Registers (R395 to R398) -/

/-- The all-zero vector. -/
def vec0 : Vec := Lanes.ofFn fun _ => 0

/-- The key of a vector operand: v by number, a warp name by its physical entry (R396). -/
def vkey (x : Cluster) (code : Nat) : Nat := if code < 64 then code else 64 + (code - 64 + x.wb.toNat) % 64

/-- A vector by key. -/
def Cluster.vk (x : Cluster) (k : Nat) : Vec := mapGet (fun _ => vec0) x.vec k

/-- A vector operand. -/
def Cluster.v (x : Cluster) (code : Nat) : Vec := x.vk (vkey x code)

/-- Lane `j` of accumulator `A`. -/
def Cluster.a (x : Cluster) (A j : Nat) : AccLane := mapGet (fun _ => {}) x.acc (16 * A + j)

/-- A scalar register. -/
def Cluster.s (x : Cluster) (i : Nat) : BitVec 28 := mapGet (fun _ => 0) x.sreg i

/-- A predicate; p0 reads 0xFFFF. -/
def Cluster.p (x : Cluster) (i : Nat) : Nat := if i = 0 then 0xFFFF else (mapGet (fun _ => 0) x.preg i).toNat

/-- The word address in sA, as a signed number. -/
def Cluster.si (x : Cluster) (i : Nat) : Int := (x.s i).toInt

/-! ### Writes of a bundle -/

/-- A register write that a slot makes. -/
inductive Wr
  | vec (key mask : Nat) (v : Vec)
  | acc (A j : Nat) (v : AccLane)
  | asat
  | s (i : Nat) (v : BitVec 28)
  | p (i mask v : Nat)
  | wb (v : BitVec 6)
  | mark (b : Bool)
  | pc (t : Nat)
  deriving DecidableEq, Repr

/-- Apply one write. -/
def Wr.apply (x : Cluster) : Wr → Cluster
  | .vec k mask v =>
    { x with vec := mapPut (fun _ => vec0) x.vec k
               (Lanes.ofFn fun j => if bit mask j then v.get j else (x.vk k).get j) }
  | .acc A j v => { x with acc := mapPut (fun _ => {}) x.acc (16 * A + j) v }
  | .asat => { x with asat := true }
  | .s i v => { x with sreg := mapPut (fun _ => 0) x.sreg i v }
  | .p i mask v =>
    if i = 0 then x
    else { x with preg := mapPut (fun _ => 0) x.preg i
                    (BitVec.ofNat 16 (Nat.xor (Nat.land v mask) (Nat.land (x.p i) (0xFFFF - mask)))) }
  | .wb v => { x with wb := v }
  | .mark b => { x with mark := b }
  | .pc t => { x with pc := BitVec.ofNat 12 t }

/-- Writes with the latency at which each is made (R403). -/
abbrev Wrs := List (Nat × Wr)

/-- Apply the writes of a bundle: those of lower latency first, and at one latency in the order of the list (R405). -/
def applyWrs (x : Cluster) (ws : Wrs) : Cluster :=
  let at_ := fun (y : Cluster) (l : Nat) => (ws.filter fun w => w.1 == l).foldl (fun z w => w.2.apply z) y
  at_ (at_ (at_ x 1) 2) 3

/-! ### Lane arithmetic (R399 to R401) -/

/-- A lane as a signed number. -/
def laneInt (l : Lane) : Int := l.toInt

/-- The lane of a signed number that fits. -/
def intLane (i : Int) : Lane := BitVec.ofInt 14 i

/-- Saturation of a lane result (R400). -/
def satLane (mark : Bool) (i : Int) : Lane :=
  intLane (if mark then clampI (-8191) 8190 i else clampI (-8192) 8191 i)

/-- The codes that are marks when MARK is 1 (R401). -/
def isMark (l : Lane) : Bool := l == 0x2000 || l == 0x1FFF

/-- The mark result of two inputs of which one is a mark (R401). -/
def markResult (a b : Lane) : Lane := if a == 0x2000 || b == 0x2000 then 0x2000 else 0x1FFF

/-- An arithmetic lane result of two inputs under rule A of R401. -/
def arith2 (mark : Bool) (f : Int → Int → Int) (a b : Lane) : Lane :=
  if mark && (isMark a || isMark b) then markResult a b else satLane mark (f (laneInt a) (laneInt b))

/-- The quotient by 2^n rounded half to even. -/
def roundEven (i : Int) (n : Nat) : Int :=
  if n = 0 then i
  else
    let q := i / (2 ^ n : Int)
    let r := i % (2 ^ n : Int)
    let half : Int := 2 ^ (n - 1)
    if r < half then q else if half < r then q + 1 else if q % 2 = 0 then q else q + 1

/-- Saturation of an accumulator result: the value, and whether it saturated (R399, R434). -/
def sat56 (i : Int) : BitVec 56 × Bool :=
  if i < -(2 ^ 55 : Int) then (BitVec.ofInt 56 (-(2 ^ 55 : Int)), true)
  else if (2 ^ 55 : Int) - 1 < i then (BitVec.ofInt 56 ((2 ^ 55 : Int) - 1), true)
  else (BitVec.ofInt 56 i, false)

/-- The lanes that a guard enables. -/
def lanesOn (mask : Nat) : List Nat := (range 0 16).filter fun j => bit mask j

/-! ### V0 slot (R419, R423) -/

/-- One product lane under rule M (R401, R423): the new accumulator lane, and whether it saturated. -/
def macLane (mark neg zero : Bool) (a : AccLane) (x y : Lane) : AccLane × Bool :=
  let base : AccLane := if zero then {} else a
  if mark && (isMark x || isMark y) then
    let under := x == 0x2000 || y == 0x2000
    ({ base with u := base.u || under, o := base.o || !under }, false)
  else
    let p := laneInt x * laneInt y
    let r := sat56 (base.v.toInt + (if neg then -p else p))
    ({ base with v := r.1 }, r.2)

/-- One lane of AADD under rule C (R401). -/
def aaddLane (mark : Bool) (a : AccLane) (x : Lane) : AccLane × Bool :=
  if mark && isMark x then ({ a with n := min 8190 (a.n + 1) }, false)
  else
    let r := sat56 (a.v.toInt + laneInt x)
    ({ a with v := r.1 }, r.2)

/-- Accumulator writes from lane results. -/
def accWrs (A : Nat) (mask : Nat) (f : Nat → AccLane × Bool) : Wrs :=
  ((lanesOn mask).map fun j => (1, Wr.acc A j (f j).1)) ++
    (if (lanesOn mask).any fun j => (f j).2 then [(1, .asat)] else [])

/-- The writes of the V0 slot. -/
def runV0 (x : Cluster) (mask : Nat) : V0Op → Wrs
  | .nop => []
  | .mac neg zero tap lane A X Y =>
    let vx := x.v X
    let vy := x.v Y
    let yl := fun j => match lane with
      | some l => vy.get l
      | none => vy.get j
    accWrs A mask (fun j => macLane x.mark neg zero (x.a A j) (vx.get j) (yl j)) ++
      (if tap && X < 127 then [(1, .vec (vkey x (X + 1)) mask vx)] else [])
  | .aadd A X => accWrs A mask fun j => aaddLane x.mark (x.a A j) ((x.v X).get j)
  | .aclr A => accWrs A mask fun _ => ({}, false)

/-! ### V1 slot (R420, R421, R424) -/

/-- The lane function of two vectors. -/
def v2Lane (mark : Bool) (f : V2) (a b : Lane) : Lane :=
  match f with
  | .add => arith2 mark (· + ·) a b
  | .sub => arith2 mark (· - ·) a b
  | .min => arith2 mark (fun x y => if x ≤ y then x else y) a b
  | .max => arith2 mark (fun x y => if x ≤ y then y else x) a b
  | .and => a &&& b
  | .or => a ||| b
  | .xor => a ^^^ b

/-- The shift of a lane. -/
def shLane (mark : Bool) (f : VSh) (n : Nat) (a : Lane) : Lane :=
  arith2 mark (fun x _ => match f with
    | .shl => x * (2 ^ n : Int)
    | .sra => x / (2 ^ n : Int)
    | .srar => roundEven x n) a a

/-- The compare of two lanes. -/
def cmpLane (f : VCmp) (a b : Lane) : Bool :=
  match f with
  | .lt => decide (laneInt a < laneInt b)
  | .eq => a == b
  | .mk => isMark a

/-- ACCN of one lane (R421). -/
def accnLane (mark : Bool) (sh : Nat) (a : AccLane) : Lane :=
  if a.u then 0x2000 else if a.o then 0x1FFF else satLane mark (roundEven a.v.toInt sh)

/-- The magnitude of a lane. -/
def absLane (l : Lane) : Nat := (laneInt l).natAbs

/-- One divide step on an accumulator value (R424, R433). `fr` stands for the result of a step at count 15, for which
the rule gives no dividend bit. -/
def divStep (fr : BitVec 56) (acc : BitVec 56) (x y : Lane) (first : Bool) : BitVec 56 :=
  let n := absLane x
  let dv : Int := absLane y
  let r0 : Int := if first then 0 else ofBits 16 (acc.toNat / 2 ^ 28)
  let q0 := if first then 0 else acc.toNat % 2 ^ 14
  let k := if first then 0 else acc.toNat / 2 ^ 48 % 16
  if k = 14 then acc
  else if k = 15 then fr
  else
    let b : Int := n / 2 ^ (13 - k) % 2
    let r := if 0 ≤ r0 then 2 * r0 + b - dv else 2 * r0 + b + dv
    let q := (2 * q0 + (if 0 ≤ r then 1 else 0)) % 2 ^ 14
    BitVec.ofNat 56 (toBits 16 r * 2 ^ 28 + (k + 1) * 2 ^ 48 + q)

/-- The quotient, the remainder and the divide-by-zero bit of a lane (R424, R433). -/
def divEnd (mark : Bool) (acc : BitVec 56) (x y : Lane) : Lane × BitVec 56 × Bool :=
  if mark && (isMark x || isMark y) then (markResult x y, 0, false)
  else if y == 0 then (if 0 ≤ laneInt x then 0x1FFF else 0x2000, 0, true)
  else
    let r0 := ofBits 16 (acc.toNat / 2 ^ 28)
    let r := if r0 < 0 then r0 + absLane y else r0
    let q : Int := (acc.toNat % 2 ^ 14 : Nat)
    let neg := decide (laneInt x < 0) != decide (laneInt y < 0)
    (satLane mark (if neg then -q else q), BitVec.ofInt 56 (if laneInt x < 0 then -r else r), false)

/-- A vector write of the lanes of `mask`. -/
def vecWr (x : Cluster) (l D mask : Nat) (f : Nat → Lane) : Wrs := [(l, .vec (vkey x D) mask (Lanes.ofFn f))]

/-- The mask whose bits a function gives. -/
def maskOf (f : Nat → Bool) : Nat := ((range 0 16).map fun j => b2n (f j) * 2 ^ j).foldl (· + ·) 0

/-- The writes of the V1 slot; `fr` is an open accumulator value for each lane. -/
def runV1 (x : Cluster) (mask : Nat) (fr : Nat → BitVec 56) : V1Op → Wrs
  | .nop => []
  | .two f D X Y => vecWr x 1 D mask fun j => v2Lane x.mark f ((x.v X).get j) ((x.v Y).get j)
  | .abs D X => vecWr x 1 D mask fun j => arith2 x.mark (fun a _ => a.natAbs) ((x.v X).get j) ((x.v X).get j)
  | .shift f D X n => vecWr x 1 D mask fun j => shLane x.mark f n ((x.v X).get j)
  | .mov D X => vecWr x 1 D mask fun j => (x.v X).get j
  | .bcst D X L => vecWr x 1 D mask fun _ => (x.v X).get L
  | .splat D S => vecWr x 1 D mask fun _ => satLane x.mark (x.si S)
  | .cmp f E X Y => [(1, .p E mask (maskOf fun j => cmpLane f ((x.v X).get j) ((x.v Y).get j)))]
  | .accn D E SH => vecWr x 2 D mask fun j => accnLane x.mark SH (x.a E j)
  | .accc D E => vecWr x 2 D mask fun j => BitVec.ofNat 14 (x.a E j).n
  | .divs E X Y first =>
    (lanesOn mask).map fun j =>
      (1, .acc E j { x.a E j with v := divStep (fr j) (x.a E j).v ((x.v X).get j) ((x.v Y).get j) first })
  | .divf D E X Y =>
    let r := fun j => divEnd x.mark (x.a E j).v ((x.v X).get j) ((x.v Y).get j)
    vecWr x 2 D mask (fun j => (r j).1) ++
      ((lanesOn mask).map fun j => (2, Wr.acc E j { x.a E j with v := (r j).2.1 })) ++
      [(2, .p 7 mask (maskOf fun j => (r j).2.2))]

/-! ### S slot (R422, R425, R432) -/

/-- The scalar function of two registers. -/
def sf (f : SF) (a b : BitVec 28) : BitVec 28 :=
  let n := b.toNat % 32
  match f with
  | .add => a + b
  | .sub => a - b
  | .and => a &&& b
  | .or => a ||| b
  | .xor => a ^^^ b
  | .shl => if 28 ≤ n then 0 else a <<< n
  | .shr => if 28 ≤ n then 0 else a >>> n

/-- LOOPW (R425). -/
def loopwWrs (x : Cluster) (A T : Nat) : Wrs :=
  let n0 := (x.s A).toNat % 2 ^ 14
  let e0 := (x.s A).toNat / 2 ^ 14
  let n := if 0 < n0 then n0 - 1 else 0
  let e := if 0 < n0 then e0 else e0 - 1
  [(1, .wb (x.wb - 1)), (1, .p 6 0xFFFF (x.p 5)), (1, .p 5 0xFFFF (x.p 4)), (1, .p 4 0xFFFF (x.p 3)),
    (1, .p 3 0xFFFF (x.p 2)), (1, .p 2 0xFFFF (x.p 1)), (1, .p 1 0xFFFF (if 0 < n then 0xFFFF else 0)),
    (1, .s A (BitVec.ofNat 28 (e * 2 ^ 14 + n)))] ++
    (if 0 < n || 0 < e then [(1, .pc T)] else [])

/-- The register writes of the S slot; `rdt` gives the values of RDT by K. -/
def runS (x : Cluster) (rdt : Nat → Nat) : SOp → Wrs
  | .nop => []
  | .alu f D A B => [(1, .s D (sf f (x.s A) (x.s B)))]
  | .addi D A K => [(1, .s D (x.s A + BitVec.ofInt 28 K))]
  | .li D K => [(1, .s D (BitVec.ofInt 28 K))]
  | .lih D K => [(1, .s D (BitVec.ofNat 28 (K * 2 ^ 14 + (x.s D).toNat % 2 ^ 14)))]
  | .slt D A B => [(1, .p D 0xFFFF (if x.si A < x.si B then 0xFFFF else 0))]
  | .seq D A B => [(1, .p D 0xFFFF (if x.s A = x.s B then 0xFFFF else 0))]
  | .spred D K => [(1, .p D 0xFFFF K)]
  | .br T => [(1, .pc T)]
  | .bz A T => if x.s A = 0 then [(1, .pc T)] else []
  | .bnz A T => if x.s A ≠ 0 then [(1, .pc T)] else []
  | .loop A T =>
    let v := x.s A - 1
    (1, .s A v) :: (if v ≠ 0 then [(1, .pc T)] else [])
  | .loopw A T => loopwWrs x A T
  | .setwb K => [(1, .wb (BitVec.ofNat 6 K))]
  | .mode K => [(1, .mark K)]
  | .rdt D K => [(1, .s D (BitVec.ofNat 28 (rdt K)))]
  | .stim _ _ => []
  | .done => []

/-! ### Interlocks (R404) -/

/-- Vector keys that a bundle reads or writes; a pending XLD into one of them holds the bundle. -/
def Bundle.keys (x : Cluster) (b : Bundle) : List Nat :=
  let m := match b.m with
    | .ld _ R _ _ => [R]
    | .st _ R _ _ => [R]
    | .getl _ X _ => [X]
    | .putl R _ _ => [R]
    | .xld R _ _ => [R]
    | .xst R _ _ => [R]
    | _ => []
  let v0 := match b.v0 with
    | .mac _ _ tap _ _ X Y => [X, Y] ++ (if tap && X < 127 then [X + 1] else [])
    | .aadd _ X => [X]
    | _ => []
  let v1 := match b.v1 with
    | .two _ D X Y => [D, X, Y]
    | .abs D X => [D, X]
    | .shift _ D X _ => [D, X]
    | .mov D X => [D, X]
    | .bcst D X _ => [D, X]
    | .splat D _ => [D]
    | .cmp _ _ X Y => [X, Y]
    | .accn D _ _ => [D]
    | .accc D _ => [D]
    | .divs _ X Y _ => [X, Y]
    | .divf D _ X Y => [D, X, Y]
    | .nop => []
  (m ++ v0 ++ v1).map (vkey x)

end Sys2Proof.Machine
end

