-- ==== Sys2Proof/Machine/Issue.lean ====
section
/-! DEFINITION. How a Rentik cluster issues a bundle: memory and remote accesses of the M slot, basted mode, breakpoints,
faults and the end of a program (R403 to R425, R438 to R442, R254, R256 to R262, R266, R861, R865). -/

namespace Sys2Proof.Machine

/-! ### Device addresses of sixteen lanes (R398, R417) -/

/-- The bytes of a vector in layout F = 1 or 2, none where the guard leaves the byte alone. A PACKED byte that holds bits
of enabled and of other lanes takes the other bits from `old`. -/
def vecBytes (f mask : Nat) (v : Vec) (old : List Byte) : List (Option Byte) :=
  if f = 1 then
    let num := fun (g : Nat → Nat) => ((range 0 16).map fun j => g j * 2 ^ (14 * j)).foldl (· + ·) 0
    let new := num fun j => if bit mask j then (v.get j).toNat else 0
    let en := num fun j => if bit mask j then 0x3FFF else 0
    (range 0 28).map fun i =>
      let e := en / 2 ^ (8 * i) % 256
      let o := ((old.drop i).headD 0).toNat
      if e = 0 then none else some (BitVec.ofNat 8 (new / 2 ^ (8 * i) % 256 + (o - Nat.land o e)))
  else
    (range 0 16).flatMap fun j =>
      if bit mask j then (leBytes 2 (lane16 (v.get j))).map some else [none, none]

/-- The vector that bytes in layout F = 1 or 2 spell. -/
def bytesVec (f : Nat) (bs : List Byte) : Vec :=
  if f = 1 then
    let n := leNat bs
    Lanes.ofFn fun j => BitVec.ofNat 14 (n / 2 ^ (14 * j))
  else Lanes.ofFn fun j => BitVec.ofNat 14 (leNat ((bs.drop (2 * j)).take 2))

/-- The bytes of a layout. -/
def layoutSize (f : Nat) : Nat := if f = 1 then 28 else 32

/-- What an address of XLD or XST names. -/
inductive XPlace
  | lanes (m : Mem) (lane : Nat)
  | dram (off : Nat)
  deriving DecidableEq, Repr

/-- The place that offset `off` of die `e` names in layout F; none is an access fault (R417, R20). -/
def xPlace (s : Chip) (e : Fin 4) (off f : Nat) : Option XPlace :=
  if f = 0 then
    match laneAt off, laneAt (off + 15) with
    | some (m, l), some (m', _) => if m = m' then some (.lanes m l) else none
    | _, _ => none
  else
    let fits := if f = 1 then decide (off % 64 + 28 ≤ 64) else off % 32 == 0
    if fits && decide (off + layoutSize f ≤ dramCap s e) then some (.dram off) else none

/-- The words of sixteen lanes from lane `l`: word and the lanes of it that the guard enables. -/
def vecWords (l mask : Nat) : List (Nat × Nat) :=
  ((range (l / 4) 5).map fun w =>
    (w, ((range 0 4).map fun k =>
      if l ≤ 4 * w + k ∧ 4 * w + k < l + 16 ∧ bit mask (4 * w + k - l) then 2 ^ k else 0).foldl (· + ·) 0)).filter
    fun p => p.2 != 0

/-- The data that sixteen lanes from lane `l` put into word `w`. -/
def vecWordData (l w : Nat) (v : Vec) : Quadlane :=
  let g := fun k => if l ≤ 4 * w + k then v.get (4 * w + k - l) else 0
  ofLanes (g 0) (g 1) (g 2) (g 3)

/-- The result of a vector access to lane memory. -/
inductive VRes
  /-- The lanes read, and whether any was basted data. -/
  | val (v : Vec) (basted : Bool)
  /-- A poisoned word, with the memory and word. -/
  | bad (m : Mem) (w : Nat)
  | stall
  /-- No shadow entry or buffer entry is free; the second is true for the buffer. -/
  | full (buf : Bool)
  deriving DecidableEq, Repr

/-- Read the words of a vector. DEDUCED, log 64. -/
def readVec (s : Chip) (d : Fin 4) (m : Mem) (l : Nat) (r : Reader) (v : Vec) (b : Bool) :
    List (Nat × Nat) → Chip × VRes
  | [] => (s, .val v b)
  | (w, mask) :: ws =>
    let res := if m = .lining then readLining s d w mask r else readMem s d m w mask r
    match res.2 with
    | .stall => (res.1, .stall)
    | .poison => (res.1, .bad m w)
    | .val q q' =>
      readVec res.1 d m l r
        (Lanes.ofFn fun j => if l + j < 4 * w ∨ 4 * w + 4 ≤ l + j then v.get j else getLane q (l + j - 4 * w)) (b || q') ws

/-- Write the words of a vector. DEDUCED, log 65. -/
def writeVec (s : Chip) (d : Fin 4) (m : Mem) (l : Nat) (who : Writer) (v : Vec) : List (Nat × Nat) → Chip × VRes
  | [] => (s, .val v false)
  | (w, mask) :: ws =>
    if m = .lining then writeVec (writeLining s d w mask (vecWordData l w v)) d m l who v ws
    else
      let r := writeMem s d m w mask (vecWordData l w v) who
      match r.2 with
      | .done => writeVec r.1 d m l who v ws
      | .stall => (r.1, .stall)
      | .full => (r.1, .full false)

/-! ### Buffered writes (R257, R260) -/

/-- Bytes placed over older bytes. -/
def laySome : List (Option Byte) → List Byte → List Byte
  | some b :: es, _ :: os => b :: laySome es os
  | none :: es, o :: os => o :: laySome es os
  | _, os => os

/-- Buffered DRAM bytes of tenant `t` laid over what `n` bytes at device address `addr` hold. -/
def overBuffer (s : Chip) (d : Fin 4) (t : Fin 256) (addr : Nat) (bs : List Byte) : List Byte :=
  (s.d d).baste.buf.foldl (fun bs e =>
    match e.w with
    | .dram a data =>
      if e.ten = t then
        laySome ((range 0 bs.length).map fun i =>
          if a ≤ addr + i ∧ addr + i < a + data.length then ((data.drop (addr + i - a)).headD none) else none) bs
      else bs
    | _ => bs) bs

/-- Buffered lanes of tenant `t` laid over sixteen lanes at device lane address `addr`. -/
def overBufferLanes (s : Chip) (d : Fin 4) (t : Fin 256) (addr : Nat) (v : Vec) : Vec :=
  (s.d d).baste.buf.foldl (fun v e =>
    match e.w with
    | .lane a mask q =>
      if e.ten = t then
        Lanes.ofFn fun j =>
          if a ≤ addr + j ∧ addr + j < a + 4 ∧ bit mask (addr + j - a) then getLane q (addr + j - a) else v.get j
      else v
    | _ => v) v

/-- Place entries in the Basting buffer, all or none (R257, R265). -/
def bufferWrites (s : Chip) (d : Fin 4) (t : Fin 256) (ws : List BufWrite) : Chip × VRes :=
  if bufUsed s d + ws.length ≤ 256 then
    (baseHwm (s.onBaste d fun b => { b with buf := b.buf ++ ws.map fun w => { ten := t, w := w } }) d, .val vec0 false)
  else (bstall s d t 1, .full true)

/-! ### Basted mode (R254, R136) -/

/-- A write that cluster `x` of die `d` makes now is basted. -/
def writesBasted (s : Chip) (d : Fin 4) (x : Cluster) : Bool :=
  x.basted || (!x.handler && (x.preBaste || (tenAtomic s x.ten && (s.d d).tick.phase == .process)))

/-! ### Access to a device address by XLD and XST (R417, R439) -/

/-- The unit that owns the region of an offset. -/
def regionUnit (off : Nat) : Nat :=
  match regionOf off with
  | some 0 => 0x0F
  | some 1 => 0x05
  | some 2 => 0x07
  | some 3 => 0x06
  | some 4 => 0x14
  | _ => 0x00

/-- What the checks of an XLD or XST find. -/
inductive XCheck
  | ok (e : Fin 4) (p : XPlace)
  | fault
  | absent (e : Fin 4) (u : Nat)
  deriving DecidableEq, Repr

/-- The checks of R20, R144, R367, R417 and R439 on a device address. -/
def xCheck (s : Chip) (d : Fin 4) (t : Fin 256) (addr f : Nat) (wr basted : Bool) : XCheck :=
  let e : Fin 4 := Fin.ofNat 4 (addr / 2 ^ 38)
  let off := addr % 2 ^ 38
  let inUnit := match regionOf off with
    | some n => n != 5
    | none => false
  if inUnit && !bit (s.fld d Rf.SYS_DIEMAP_DIES) e.val then .absent e (regionUnit off)
  else if inUnit && !present s e (regionUnit off) then .absent e (regionUnit off)
  else
    match xPlace s e off f with
    | none => .fault
    | some p =>
      let size := if f = 0 then 16 else layoutSize f
      let lining := match p with
        | .lanes .lining _ => true
        | _ => false
      let keyed := match p with
        | .lanes .lining l => keyWords s e (l / 4) ((l % 4 + 19) / 4)
        | _ => false
      let fifo := match p with
        | .lanes .bmem l => wr && (s.flag e (Rf.BMEM_MODE_FIFO.at (l / 4096)) || s.flag e (Rf.BMEM_MODE_FIFO.at ((l + 15) / 4096)))
        | _ => false
      if (lining && (t != 0 || (wr && basted))) || keyed || fifo || !permitted s e t wr off size then .fault else .ok e p

/-- The 40-bit device address that sA and s(A + 1) form (R417). -/
def xAddr (x : Cluster) (A : Nat) : Nat := (x.s A).toNat + (x.s (A + 1)).toNat % 2 ^ 12 * 2 ^ 28

/-! ### The M slot -/

/-- What the M slot answers. -/
inductive MRes
  /-- Register writes, X accesses to add, the access entered basted mode, and the access met poison. -/
  | ok (ws : Wrs) (xs : List XAcc) (basted poison : Bool)
  /-- The bundle does not issue now. -/
  | stall
  /-- An access fault at a device address, or an absent unit: the bundle does not issue. -/
  | fault (addr : Nat)
  | absent (u : Nat) (e : Fin 4)
  deriving DecidableEq, Repr

/-- Nothing to write. -/
def mNone : MRes := .ok [] [] false false

/-- The local event source of a cluster. -/
def rSource (c : Nat) : Nat := 0x100 + c

/-- The device lane address of word `w` of cluster `c`'s store. -/
def cstAddr (d : Fin 4) (c : Nat) (w : Int) : Int := d.val * 2 ^ 38 + 0x2100000000 + c * 0x8000 + 4 * w

/-- The descriptors at the start of the program permit a local access (R409). -/
def localOk (x : Cluster) (c : Nat) (wr : Bool) (w size : Nat) : Bool :=
  let off := 0x2100000000 + c * 0x8000 + 4 * w
  x.ten == 0 ||
    x.descs.any fun k => (if wr then k.wr else k.rd) && decide (k.base ≤ off) && decide (off + size ≤ k.limit)

/-- A local access of `n` words at word `w` is made: it lies in the store and is permitted (R416, R430, R439). -/
def cstOk (x : Cluster) (c : Nat) (wr : Bool) (w : Int) (n size : Nat) : Bool :=
  decide (0 ≤ w) && decide (w + n ≤ 8192) && localOk x c wr w.toNat size

/-- The state with the poison fault of a load (R440). -/
def loadPoison (s : Chip) (d : Fin 4) (x : Cluster) (m : Mem) (w : Nat) : Chip :=
  poisonFault s d m w 0 x.ten x.basted

/-- LDV, LDVP, LDS. -/
def mLoad (s : Chip) (d : Fin 4) (c : Nat) (x : Cluster) (w : Int) (words size mask : Nat) (f : Vec → Wrs) (more : Wrs) :
    Chip × MRes :=
  if cstOk x c false w words size then
    let l := 4 * w.toNat
    let r := readVec s d .cst (c * 32768 + l) (.prog x.ten) vec0 false (vecWords (c * 32768 + l) mask)
    match r.2 with
    | .val v b => (r.1, .ok (f v ++ more) [] b false)
    | .bad m w' => (loadPoison r.1 d x m w', .ok more [] false true)
    | _ => (r.1, .stall)
  else (s, .fault ((cstAddr d c w) % 2 ^ 40).toNat)

/-- STV, STVP, STS. -/
def mStore (s : Chip) (d : Fin 4) (c : Nat) (x : Cluster) (w : Int) (words size mask : Nat) (v : Vec) (more : Wrs) :
    Chip × MRes :=
  if cstOk x c true w words size then
    let l := c * 32768 + 4 * w.toNat
    let b := writesBasted s d x
    let r := writeVec s d .cst l (.prog x.ten b) v (vecWords l mask)
    match r.2 with
    | .val _ _ => (r.1, .ok more [] b false)
    | .full k => (bstall s d x.ten (b2n k), .stall)
    | _ => (s, .stall)
  else (s, .fault ((cstAddr d c w) % 2 ^ 40).toNat)

/-- XLD. DESIGN CHOICE, log 62. -/
def mXld (s : Chip) (d : Fin 4) (c : Fin 192) (x : Cluster) (R A F mask : Nat) : Chip × MRes :=
  let addr := xAddr x A
  match xCheck s d x.ten addr F false false with
  | .fault => (s, .fault addr)
  | .absent e u => (s, .absent u e)
  | .ok e p =>
    let acc : XAcc := { id := s.nextId, store := false, reg := vkey x R, mask := mask, addr := addr, f := F, data := vec0,
                        remote := e != d }
    if e = d then
      match p with
      | .lanes m l =>
        let r := readVec s d m l (.prog x.ten) vec0 false (vecWords l mask)
        match r.2 with
        | .val v b => ({ r.1 with nextId := s.nextId + 1 }, .ok [] [{ acc with data := v }] b false)
        | .bad m' w => (loadPoison r.1 d x m' w, .ok [] [] false true)
        | _ => (r.1, .stall)
      | .dram off =>
        let r := dramFetch s d off (layoutSize F)
        match r.2 with
        | some bs => ({ r.1 with nextId := s.nextId + 1 },
            .ok [] [{ acc with data := bytesVec F (overBuffer r.1 d x.ten addr bs) }] false false)
        | none => (dramPoisonFault r.1 d off x.ten x.basted, .ok [] [] false true)
    else
      ({ s with
          nextId := s.nextId + 1
          remotes := s.remotes ++ [{ id := s.nextId, die := d, target := e, init := .rentik c s.nextId, ten := x.ten,
                                     op := .vecRead (addr % 2 ^ 38) F, issued := s.now d, basted := x.basted }] },
        .ok [] [acc] false false)

/-- The buffer entries of a basted XST (R257). -/
def xstEntries (s : Chip) (e : Fin 4) (addr F mask : Nat) (p : XPlace) (v : Vec) : List BufWrite :=
  match p with
  | .dram off => [.dram addr (vecBytes F mask v (dramReadBytes s e off (layoutSize F) []).2.1)]
  | .lanes _ l => (vecWords l mask).map fun w => .lane (addr - l + 4 * w.1) w.2 (vecWordData l w.1 v)

/-- XST. -/
def mXst (s : Chip) (d : Fin 4) (c : Fin 192) (x : Cluster) (R A F mask : Nat) : Chip × MRes :=
  let addr := xAddr x A
  let b := writesBasted s d x
  match xCheck s d x.ten addr F true b with
  | .fault => (s, .fault addr)
  | .absent e u => (s, .absent u e)
  | .ok e p =>
    let v := x.v R
    let acc : XAcc := { id := s.nextId, store := true, reg := 0, mask := mask, addr := addr, f := F, data := vec0,
                        remote := e != d && !b }
    let buffered := b && (e != d || (match p with | .dram _ => true | _ => false))
    if buffered then
      let r := bufferWrites s d x.ten (xstEntries s e addr F mask p v)
      match r.2 with
      | .val _ _ => ({ r.1 with nextId := s.nextId + 1 }, .ok [] [acc] true false)
      | _ => (r.1, .stall)
    else if e = d then
      match p with
      | .lanes m l =>
        let r := writeVec s d m l (.prog x.ten b) v (vecWords l mask)
        match r.2 with
        | .val _ _ => ({ r.1 with nextId := s.nextId + 1 }, .ok [] [acc] b false)
        | .full k => (bstall s d x.ten (b2n k), .stall)
        | _ => (s, .stall)
      | .dram off =>
        let old := (dramReadBytes s d off (layoutSize F) []).2.1
        ({ dramStore s d off (vecBytes F mask v old) with nextId := s.nextId + 1 }, .ok [] [acc] false false)
    else
      ({ s with
          nextId := s.nextId + 1
          remotes := s.remotes ++ [{ id := s.nextId, die := d, target := e, init := .rentik c s.nextId, ten := x.ten,
                                     op := .vecWrite (addr % 2 ^ 38) F mask v, issued := s.now d, basted := false }] },
        .ok [] [acc] false false)

/-- The M slot under guard mask `mask` (R414, R416, R417). Vector loads and stores with no lane enabled do nothing. -/
def runM (s : Chip) (d : Fin 4) (c : Fin 192) (x : Cluster) (mask : Nat) : MOp → Chip × MRes
  | .nop => (s, mNone)
  | .ld post R A K =>
    if mask = 0 then (s, mNone)
    else
      mLoad s d c x (x.si A + (if post then 0 else K)) 4 16 mask (fun v => [(3, .vec (vkey x R) mask v)])
        (if post then [(1, .s A (x.s A + BitVec.ofInt 28 K))] else [])
  | .st post R A K =>
    if mask = 0 then (s, mNone)
    else
      mStore s d c x (x.si A + (if post then 0 else K)) 4 16 mask (x.v R)
        (if post then [(1, .s A (x.s A + BitVec.ofInt 28 K))] else [])
  | .lds R A K =>
    if bit mask 0 then
      mLoad s d c x (x.si A + K) 1 2 3
        (fun v => [(3, .s R (BitVec.ofNat 28 ((v.get 0).toNat + (v.get 1).toNat * 2 ^ 14)))]) []
    else (s, mNone)
  | .sts R A K =>
    if bit mask 0 then
      mStore s d c x (x.si A + K) 1 2 3
        (Lanes.ofFn fun j => BitVec.ofNat 14 ((x.s R).toNat / 2 ^ (14 * j))) []
    else (s, mNone)
  | .getl R X L => (s, .ok (if bit mask L then [(2, .s R (BitVec.ofInt 28 ((x.v X).get L).toInt))] else []) [] false false)
  | .putl R A L =>
    (s, .ok (if bit mask L then [(2, .vec (vkey x R) (2 ^ L) (Lanes.ofFn fun _ => satLane x.mark (x.si A)))] else []) []
      false false)
  | .xld R A F => if mask = 0 then (s, mNone) else if 8 ≤ x.xq.length then (s, .stall) else mXld s d c x R A F mask
  | .xst R A F => if mask = 0 then (s, mNone) else if 8 ≤ x.xq.length then (s, .stall) else mXst s d c x R A F mask
  | .fence K =>
    if !bit mask 0 then (s, mNone)
    else if x.xq.isEmpty then (s, .ok [(1, .p K 0xFFFF (if x.fenceBad then 0 else 0xFFFF))] [] false false)
    else (s, .stall)

/-! ### Halts (R861, R863, R882) -/

/-- Cluster `c` of die `d` halts at its PC. -/
def haltCluster (s : Chip) (d : Fin 4) (c : Nat) (cause bp : Nat) : Chip :=
  let x := s.cluster d c
  let s := s.setCluster d c { x with st := .halted, haltReq := none, passBp := false }
  raise s d (rSource c) K.DBGHALT 0 (x.pc.toNat + cause * 2 ^ 14 + bp * 2 ^ 17)

/-- A breakpoint hit with XHALT set halts every Yoke and every running cluster of every die (R861): the requests. -/
def crossTrigger (s : Chip) : Chip :=
  overAll (fun s d => s.upd d fun y =>
    { y with
      yHaltReq := if y.yHaltReq.isNone && !y.yoke.halted then some 3 else y.yHaltReq
      clusters := mapEach cluster0 (fun _ x =>
        if x.st = .running ∧ x.haltReq.isNone then { x with haltReq := some 3 } else x) y.clusters }) s dies

/-- The breakpoint that watches cluster `c` at bundle `pc` (R861, R885). -/
def rBreak (s : Chip) (d : Fin 4) (c pc : Nat) : Option Nat :=
  (range 0 4).find? fun n =>
    s.flag d (Rf.PLACKET_RBP_EN.at n) && s.fld d (Rf.PLACKET_RBP_ADDR.at n) == pc &&
      decide (s.fld d (Rf.PLACKET_RBP_SET_FIRST.at n) ≤ c) &&
      decide (c < s.fld d (Rf.PLACKET_RBP_SET_FIRST.at n) + s.fld d (Rf.PLACKET_RBP_SET_COUNT.at n))

/-! ### Stimulus records (R865, R866) -/

/-- A trace record is discarded; `port` says that the port had it to send. -/
def traceLost (s : Chip) (port : Bool) : Chip :=
  let k := s.trace
  { s.addFld 0 Rf.PLACKET_TR_LOST_LOST 1 with
    trace := { k with lostTick := k.lostTick + 1, lostPort := k.lostPort + b2n port, overran := true } }

/-- STIM: a record of die `d` on port `n` of the program's tenant. -/
def stim (s : Chip) (d : Fin 4) (x : Cluster) (n : Nat) (v : BitVec 28) : Chip :=
  if bit (s.fld d (Rf.PLACKET_STIM_EN_PORTS.at x.ten.val)) n then
    let r := mkRec s d (0x300 + n) K.STIM x.ten v.toNat x.basted false
    if x.basted then
      let s := countKind s K.STIM
      if (s.d d).stimHeld.length < 256 then s.upd d fun y => { y with stimHeld := y.stimHeld ++ [r] }
      else traceLost s true
    else sendRec s d r
  else s

/-! ### Issue -/

/-- A class T fault of the program: the bundle does not issue and the tenant's work in the tick stops (R438, R439, R442);
its item takes status `st` and detail `det` (R168). -/
def rFault (s : Chip) (d : Fin 4) (c kind pay st det : Nat) (x : Cluster) : Chip :=
  raiseT (endProgram s d c true st det) d (rSource c) kind x.ten pay x.basted

/-- The tick offset on die `d`, saturated (R422). -/
def tickOffset (s : Chip) (d : Fin 4) : Nat := min (elapsed s d) (2 ^ 28 - 1)

/-- The values of RDT by K; K = 3 names none and is an open value. -/
def rdtValue (s : Chip) (d : Fin 4) (x : Cluster) (K : Nat) : Nat :=
  match K with
  | 0 => tickOffset s d
  | 1 => cyclesOf s d x / 1000 % 2 ^ 28
  | 2 => (s.d d).tick.num.toNat % 2 ^ 28
  | _ => (Config.freeWord s.free).toNat % 2 ^ 28

/-- Open choices that a bundle takes: RDT with K = 3, and divide steps at count 15. -/
def bundleChoices (b : Bundle) : Nat :=
  (match b.sop with | .rdt _ 3 => 1 | _ => 0) + (match b.v1 with | .divs _ _ _ _ => 33 | _ => 0)

/-- The open accumulator value of lane `j` (R424 at a count of 15). DESIGN CHOICE, log 58. -/
def divOpen (s : Chip) (j : Nat) : BitVec 56 :=
  BitVec.ofNat 56 ((Config.freeWord (s.free + 1 + 2 * j)).toNat + 2 ^ 32 * (Config.freeWord (s.free + 2 + 2 * j)).toNat)

/-- A legal bundle of a running cluster issues, or stalls, or faults (R403 to R411, R438 to R442). -/
def issueBundle (s : Chip) (d : Fin 4) (c : Fin 192) (b : Bundle) : Chip :=
  let x := s.cluster d c
  let pend := (x.xq.filter fun a => !a.store).map fun a => a.reg
  if (b.keys x).any pend.contains then s
  else
    let r := runM s d c x (x.p b.mg) b.m
    match r.2 with
    | .stall => r.1
    | .fault addr => rFault r.1 d c K.ACCFLT (addr % 2 ^ 32) 6 0 x
    | .absent u e => rFault r.1 d c K.ABSENT (u + 0xFF * 2 ^ 8 + e.val * 2 ^ 16) 1 (u + 0xFF * 2 ^ 8) x
    | .ok mw xs basted poison =>
      let sOn := bit (x.p b.sg) 0
      let ws := mw ++ runV0 x (x.p b.v0g) b.v0 ++ runV1 x (x.p b.v1g) (divOpen s) b.v1 ++
        (if sOn then runS x (rdtValue s d x) b.sop else [])
      let y := r.1.cluster d c
      let z := applyWrs { y with pc := y.pc + 1, passBp := false, basted := y.basted || basted, xq := y.xq ++ xs } ws
      let z := match b.m with
        | .fence _ => if bit (x.p b.mg) 0 then { z with fenceBad := false } else z
        | _ => z
      let s := { r.1.setCluster d c z with free := r.1.free + bundleChoices b }
      let s := match b.sop with
        | .stim A K => if sOn then stim s d z K (x.s A) else s
        | _ => s
      if poison then endProgram s d c true 4 0
      else match b.sop with
        | .done => if sOn then endProgram s d c false 0 0 else s
        | _ => s

/-- A bundle, or the illegal slot of one, is next at cluster `c` (R438). DESIGN CHOICE, log 57. -/
def issueAny (s : Chip) (d : Fin 4) (c : Fin 192) (b : Bundle ⊕ Nat) : Chip :=
  let x := s.cluster d c
  match b with
  | .inl b =>
    match b.illegal with
    | none => issueBundle s d c b
    | some i => rFault s d c K.RILLEGAL (x.pc.toNat + i * 2 ^ 12) 4 0 x
  | .inr i => rFault s d c K.RILLEGAL (x.pc.toNat + i * 2 ^ 12) 4 0 x

/-- A running cluster is about to issue `b` (R410, R861): before its first bundle 8 cycles pass; a halt or a breakpoint
stops it before the bundle issues. -/
def issue (d : Fin 4) (c : Fin 192) (b : Bundle) (s : Chip) : Chip :=
  let x := s.cluster d c
  if !up s d || x.st != .running || decide (cyclesOf s d x < 8000) then s
  else
    match x.haltReq with
    | some cause => haltCluster s d c cause 0
    | none =>
      match if x.passBp then none else rBreak s d c x.pc.toNat with
      | some n =>
        let s := haltCluster s d c 2 n
        if s.flag d Rf.PLACKET_HALT_CTL_XHALT then crossTrigger s else s
      | none => issueAny s d c (.inl b)

/-- What an unlisted bundle holds: DONE after PORN (R427), zero once R751 has cleared the stores. -/
def istoreDflt (s : Chip) (d : Fin 4) (_ : Nat) : BitVec 128 :=
  if (s.d d).istZero then 0 else BitVec.ofNat 128 (0xB8000000 * 2 ^ 96)

/-- Bundle `a` of cluster `c`'s instruction store (R413, R427). -/
def istoreAt (s : Chip) (d : Fin 4) (c a : Nat) : BitVec 128 :=
  mapGet (istoreDflt s d) (s.d d).istore (4096 * c + a)

/-- Store a bundle in a cluster's instruction store. -/
def putBundle (s : Chip) (d : Fin 4) (c a : Nat) (w : BitVec 128) : Chip :=
  s.upd d fun x => { x with istore := mapPut (istoreDflt s d) x.istore (4096 * c + a) w }

/-- STEP on a halted cluster: one bundle of its store issues, and it halts again (R862). -/
def stepCluster (s : Chip) (d : Fin 4) (c : Fin 192) : Chip :=
  let x := s.cluster d c
  if x.st != .halted || x.killed then s
  else
    let s := issueAny (s.setCluster d c { x with st := .running, passBp := true }) d c
      (decBundle (istoreAt s d c x.pc.toNat))
    if (s.cluster d c).st = .running then haltCluster s d c 1 0 else s

/-! ### Start and end of programs (R133, R273, R409 to R411) -/

/-- The descriptors of tenant `t` that are valid on die `d` now. -/
def descsOf (s : Chip) (d : Fin 4) (t : Fin 256) : List Desc :=
  (s.d d).regs.filterMap fun e =>
    let o := e.1 - (1048576 + 0x10004)
    if 1048576 + 0x10004 ≤ e.1 ∧ o % 16 = 0 ∧ o / 16 < 1024 ∧ s.flag d (Rf.YOKE_RD1_VALID.at (o / 16)) ∧
        s.fld d (Rf.YOKE_RD1_TENANT.at (o / 16)) = t.val then
      let n := o / 16
      some { base := s.fld d (Rf.YOKE_RD0_BASE_LO.at n) + 2 ^ 32 * s.fld d (Rf.YOKE_RD1_BASE_HI.at n)
             limit := s.fld d (Rf.YOKE_RD2_LIMIT_LO.at n) + 2 ^ 32 * s.fld d (Rf.YOKE_RD3_LIMIT_HI.at n)
             rd := s.flag d (Rf.YOKE_RD1_RD.at n), wr := s.flag d (Rf.YOKE_RD1_WR.at n) }
    else none

/-- A cluster starts a program (R133, R273, R410): its state clears, s0 to s3 take the arguments, and for a handler s4 the
reason mask of R267. -/
def startCluster (s : Chip) (d : Fin 4) (it : WorkItem) (id : Nat) (handler : Option Nat) (pre : Bool) (c : Nat) :
    Chip :=
  let arg := fun i => BitVec.ofNat 28 ((it.args.drop i).headD 0).toNat
  let put := mapPut (fun _ => (0 : BitVec 28))
  let s0 := put (put (put (put [] 0 (arg 0)) 1 (arg 1)) 2 (arg 2)) 3 (arg 3)
  let x := s.cluster d c
  let pc := if handler.isSome then it.unpick else it.entry
  s.setCluster d c
    { st := .running, ten := it.ten, entry := pc, pc := pc, descs := descsOf s d it.ten, started := s.now d,
      cycAt := s.now d, item := id, preBaste := pre, handler := handler.isSome,
      haltReq := if handler.isSome && x.st == .halted then some 0 else none,
      sreg := match handler with
        | some m => put s0 4 (BitVec.ofNat 28 m)
        | none => s0 }

/-- The clusters of a set. -/
def setOf (first count : Nat) : List Nat := range first count

/-- Every X access of a quiet cluster is over: a stopping cluster becomes idle (R411). -/
def quietCluster (s : Chip) (d : Fin 4) (c : Nat) : Chip :=
  let x := s.cluster d c
  if x.st = .stopping ∧ x.xq.isEmpty then s.setCluster d c { x with st := .idle } else s

/-- Two X accesses of a cluster overlap (R418): they share a step of one space. -/
def xOverlap (a b : XAcc) : Bool :=
  let size := fun (x : XAcc) => if x.f = 0 then 16 else layoutSize x.f
  decide (a.addr < b.addr + size b) && decide (b.addr < a.addr + size a)

/-- An X access is over: an XLD writes its destination unless the program was stopped (R412, R416). -/
def finishX (x : Cluster) (a : XAcc) (v : Vec) : Cluster :=
  let y := { x with xq := x.xq.filter fun b => b.id != a.id }
  if a.store || x.killed then y else (Wr.vec a.reg a.mask v).apply y

/-- X_ACCESS_COMPLETE (R418): the `i`th outstanding access of the cluster, which is not remote, completes when no earlier
access to an overlapping address is outstanding. -/
def xAccessComplete (d : Fin 4) (c : Fin 192) (i : Nat) (s : Chip) : Chip :=
  whenUp s d fun s =>
    let x := s.cluster d c
    match x.xq.drop i with
    | a :: _ =>
      if a.remote || (x.xq.take i).any (xOverlap a) then s else s.setCluster d c (finishX x a a.data)
    | [] => s

/-! ### Code loads (R429) -/

/-- The set and address that ILOAD_CTL holds are well-formed (R134, R429). -/
def iloadOk (s : Chip) (d : Fin 4) : Bool :=
  let first := s.fld d Rf.RENTIK_ILOAD_CTL_FIRST
  let count := s.fld d Rf.RENTIK_ILOAD_CTL_COUNT
  decide (first ≤ 191) && decide (1 ≤ count) && decide (first + count ≤ 192)

/-- A write of ILOAD_CTL sets the set and NEXT (R429, R443). -/
def iloadCtl (s : Chip) (d : Fin 4) (v : Word) : Chip :=
  let s := ((s.setFld d Rf.RENTIK_ILOAD_CTL_FIRST (getBits v 0 8)).setFld d Rf.RENTIK_ILOAD_CTL_COUNT (getBits v 8 8)).setFld
    d Rf.RENTIK_ILOAD_CTL_ADDR (getBits v 16 12)
  (s.setFld d Rf.RENTIK_ILOAD_STAT_NEXT (getBits v 16 12)).upd d fun x => { x with iload := [], iloadEnd := false }

/-- A bundle is complete: it goes into every idle cluster of the set (R429). -/
def iloadBundle (s : Chip) (d : Fin 4) (w : BitVec 128) : Chip :=
  if iloadOk s d && !(s.d d).iloadEnd then
    let a := s.fld d Rf.RENTIK_ILOAD_STAT_NEXT
    let s := overAll (fun s c =>
      if (s.cluster d c).st = .idle then putBundle s d c a w else s.setFld d Rf.RENTIK_ILOAD_STAT_SKIPPED 1) s
      (setOf (s.fld d Rf.RENTIK_ILOAD_CTL_FIRST) (s.fld d Rf.RENTIK_ILOAD_CTL_COUNT))
    (s.setFld d Rf.RENTIK_ILOAD_STAT_NEXT (a + 1)).upd d fun x => { x with iloadEnd := a + 1 == 4096 }
  else s.setFld d Rf.RENTIK_ILOAD_STAT_RANGE 1

/-- A write of ILOAD_DATA delivers one slot, in the order M, V0, V1, S. -/
def iloadData (s : Chip) (d : Fin 4) (v : Word) : Chip :=
  match (s.d d).iload ++ [v] with
  | [m, v0, v1, sw] =>
    iloadBundle (s.upd d fun x => { x with iload := [] }) d
      (BitVec.ofNat 128 (m.toNat + v0.toNat * 2 ^ 32 + v1.toNat * 2 ^ 64 + sw.toNat * 2 ^ 96))
  | ws => s.upd d fun x => { x with iload := ws }

end Sys2Proof.Machine
end

