-- ==== Sys2Proof/Machine/Baste.lean ====
section
/-! DEFINITION. Resolution of basted work: reports, the combined outcome, stitch and unpick, handlers and write-back (R250
to R294), and the meanings of those commands. -/

namespace Sys2Proof.Machine

/-! ### Who holds basted state (R267) -/

/-- The tenants of tagged words of one memory. -/
def taggedTens (mm : SMap MWord) : List (Fin 256) :=
  (mm.filter fun e => e.2.tag == .basted || e.2.tag == .ingest).map fun e => e.2.ten

/-- A list of tenants without repeats, rising. -/
def tenSet (ts : List (Fin 256)) : List (Fin 256) :=
  ((range 0 256).map fun n => Fin.ofNat 256 n).filter fun t => ts.contains t

/-- The tenants that hold basted state on die `d`: tagged words, words still in an ingest FIFO, buffer entries and held
frames. -/
def holders (s : Chip) (d : Fin 4) : List (Fin 256) :=
  let x := s.d d
  tenSet (taggedTens x.spad ++ taggedTens x.cst ++ taggedTens x.bmem ++
    ((x.ingestQ.filter fun e => e.basis).map fun e => e.ten) ++ x.baste.buf.map (fun e => e.ten) ++
    ((x.flows.filter fun e => e.2.held).map fun e => flowTen s d e.1))

/-! ### Reports (R268) -/

/-- When STITCH of the tick began on die `d`, at least `n` tq have passed since. -/
def sinceStitch (s : Chip) (d : Fin 4) (n : Nat) : Bool :=
  match (s.d d).tick.stitchAt with
  | some t => reached s d (t + BitVec.ofNat 64 n)
  | none => false

/-- Die `d`'s report. -/
def reportOf (s : Chip) (d : Fin 4) : Report :=
  let b := (s.d d).baste
  let hs := holders s d
  { die := d
    tens := (tenSet (hs ++ b.stitchV ++ b.unpickV ++ b.capBad ++ b.frameBad ++ b.frameLate)).map fun t =>
      { ten := t, stitch := b.stitchV.contains t, unpick := b.unpickV.contains t, holds := hs.contains t,
        reasons := 2 * b2n (b.unpickV.contains t) + 8 * b2n (b.capBad.contains t) + 16 * b2n (b.frameBad.contains t) +
          32 * b2n (b.frameLate.contains t) } }

/-- BASTE_REPORT (R268): at S + 32 a die makes its report; die 0 has its own at once. -/
def basteReport (d : Fin 4) (s : Chip) : Chip :=
  whenUp s d fun s =>
    if (s.d d).baste.reported || !sinceStitch s d 32 then s
    else
      let r := reportOf s d
      let s := s.onBaste d fun b => { b with reported := true, report := if d = 0 then none else some r }
      if d = 0 then { s with resolve := { s.resolve with got := s.resolve.got.set 0 (some r) } } else s

/-- BASTE_REPORT_MSG (R268, R282): die `d`'s report reaches die 0; one that is late is discarded. -/
def basteReportMsg (d : Fin 4) (s : Chip) : Chip :=
  whenUp s 0 fun s =>
    match (s.d d).baste.report with
    | none => s
    | some r =>
      let s := s.onBaste d fun b => { b with report := none }
      if s.resolve.late.get d then s
      else { s with resolve := { s.resolve with got := s.resolve.got.set d (some r) } }

/-- Die `d` is awaited no longer: it has reported, is counted as missing, or has stopped. -/
def heardOf (s : Chip) (d : Fin 4) : Bool :=
  (s.resolve.got.get d).isSome || s.resolve.late.get d || !up s d

/-! ### The combined outcome (R267, R269) -/

/-- Every tenant's part of the reports die 0 holds. -/
def allReports (s : Chip) : List TenReport :=
  dies.flatMap fun d => match s.resolve.got.get d with
    | some r => r.tens
    | none => []

/-- The reason mask of tenant `t` (R267). -/
def reasonsOf (s : Chip) (t : Fin 256) : Nat :=
  let rs := (allReports s).filter fun r => r.ten == t
  let verdict := rs.any fun r => r.stitch || r.unpick
  let auto := mapGet (fun _ => false) s.resolve.auto t.val
  (rs.foldl (fun m r => Nat.lor m r.reasons) 0) + 4 * b2n (!verdict && !auto) + 64 * b2n (tenAtomic s t && tenFaulted s t) +
    128 * b2n (dies.any fun d => s.resolve.late.get d)

/-- The combined outcome: one verdict for each tenant that holds basted state. -/
def combine (s : Chip) : List Verdict :=
  (tenSet (((allReports s).filter fun r => r.holds).map fun r => r.ten)).map fun t =>
    { ten := t, stitch := reasonsOf s t == 0, reasons := reasonsOf s t }

/-- BASTE_OUTCOME_SEND (R268, R269): at S + 64, or as soon as die 0 has heard of every die. -/
def basteOutcomeSend (s : Chip) : Chip :=
  whenUp s 0 fun s =>
    if s.resolve.outcome.isSome || (s.d 0).baste.outcome.isSome || !sinceStitch s 0 64 || !dies.all (heardOf s) then s
    else
      let v := combine s
      let s := { s with resolve := { s.resolve with outcome := some v } }
      overAll (fun s d => s.onBaste d fun b => if d = 0 then { b with outcome := some v } else { b with sent := some v }) s dies

/-- BASTE_REPORT_TIMEOUT (R269, R289): a report still missing at S + 192 counts as reason 7. -/
def basteReportTimeout (s : Chip) : Chip :=
  whenUp s 0 fun s =>
    if s.resolve.outcome.isSome || (s.d 0).baste.outcome.isSome || !sinceStitch s 0 192 then s
    else overAll (fun s (d : Fin 4) =>
      if heardOf s d then s
      else raise { s with resolve := { s.resolve with late := s.resolve.late.set d true } } 0 0x008 K.BSTLATE 0 d.val) s dies

/-- BASTE_OUTCOME (R269): the combined outcome reaches die `d`. -/
def basteOutcome (d : Fin 4) (s : Chip) : Chip :=
  whenUp s d fun s =>
    s.onBaste d fun b => match b.sent with
      | some v => { b with sent := none, outcome := some v }
      | none => b

/-! ### Stitch and unpick (R271, R272) -/

/-- A word after its tenant is stitched. DEDUCED, log 87. -/
def stitchWord (t : Fin 256) (w : MWord) : MWord :=
  if (w.tag == .basted || w.tag == .ingest) && w.ten == t then
    { w with tag := .committed, ten := 0, shadow := none, overwritten := false }
  else w

/-- A word after its tenant is unpicked. -/
def unpickWord (t : Fin 256) (w : MWord) : MWord :=
  if w.ten ≠ t then w
  else if w.tag = .ingest then { data := w.data, written := w.written, tag := .void }
  else if w.tag = .basted then
    match w.shadow with
    | some sh => { data := sh.data, poison := sh.poison, written := sh.written, tag := if sh.void then .void else .committed }
    | none => w
  else w

/-- The BASTED words of tenant `t` in a memory. -/
def bastedOf (s : Chip) (d : Fin 4) (m : Mem) (t : Fin 256) : List (Nat × MWord) :=
  ((s.d d).mem m).filter fun e => e.2.tag == .basted && e.2.ten == t

/-- The tagged lane memories. -/
def taggedMems : List Mem := [.spad, .cst, .bmem]

/-- Apply `f` to every word of the tagged memories. -/
def eachWord (s : Chip) (d : Fin 4) (f : MWord → MWord) : Chip :=
  overAll (fun s m => s.upd d fun x => x.setMem m (mapEach word0 (fun _ w => f w) (x.mem m))) s taggedMems

/-- Stitch tenant `t`'s words on die `d` (R261, R271, R291). -/
def stitchMem (s : Chip) (d : Fin 4) (t : Fin 256) : Chip :=
  let lost := taggedMems.flatMap fun m => (bastedOf s d m t).filter fun e => e.2.overwritten
  let s := eachWord s d (stitchWord t)
  let s := s.upd d fun x => { x with ingestQ := x.ingestQ.map fun e => if e.ten == t then { e with basis := false } else e }
  overAll (fun s (e : Nat × MWord) =>
    raise (s.addFld d Rf.BASTE_OVWR_OVWR 1) d 0x008 K.BOVWR 0 (4 * e.1 % 2 ^ 23 + d.val * 2 ^ 23)) s lost

/-- Unpick tenant `t`'s words on die `d`: their shadow entries stay occupied until written back (R272). -/
def unpickMem (s : Chip) (d : Fin 4) (t : Fin 256) : Chip :=
  let back := taggedMems.flatMap fun m => (bastedOf s d m t).map fun e => (m, e.1, t)
  let s := eachWord s d (unpickWord t)
  let waiting := (s.d d).ingestQ.filter fun e => e.basis && e.ten == t
  let s := overAll (fun s (e : IngestEnt) => s.setWord d .spad e.word { s.word d .spad e.word with
    tag := .void, ten := 0, shadow := none, overwritten := false }) s waiting
  (s.upd d fun x => { x with ingestQ := x.ingestQ.filter fun e => !(e.basis && e.ten == t) }).onBaste d fun b =>
    { b with back := b.back ++ back }

/-- The buffer entries of tenant `t`: drained in issue order on stitch, discarded on unpick (R271, R272). -/
def settleBuf (s : Chip) (d : Fin 4) (t : Fin 256) (stitch : Bool) : Chip :=
  s.onBaste d fun b =>
    let mine := b.buf.filter fun e => e.ten == t
    { b with buf := b.buf.filter (fun e => e.ten != t), drain := if stitch then b.drain ++ mine else b.drain,
             counts := b.counts ++ [(t, mine.length)] }

/-- The sets of die `d` that hold an unresolved working half for tenant `t` (R509). -/
def waitingSets (s : Chip) (d : Fin 4) (p : Fin 256 → Bool) : List (Nat × Nat) :=
  (s.d d).pleat.sets.filterMap fun e =>
    match e.2.chan with
    | some ch => if !e.2.due && p (setTen s d e.1) then some (e.1, ch) else none
    | none => none

/-- Pleat's working halves of tenant `t` are committed on stitch and discarded on unpick (R509). -/
def settleSets (s : Chip) (d : Fin 4) (t : Fin 256) (stitch : Bool) : Chip :=
  if feature s d 7 then
    overAll (fun s (k : Nat × Nat) => if stitch then commitSet s d k.1 else discardSet s d k.1) s
      (waitingSets s d fun u => u == t)
  else s

/-- The items of tenant `t` that ran in basted mode complete (R275). -/
def tellBasted (s : Chip) (d : Fin 4) (p : Fin 256 → Bool) (stitch : Bool) : Chip :=
  overAll (fun s (r : RanItem) =>
    tellItem s d r (if r.status = 2 then 2 else if !stitch then 3 else r.status)) s
    ((s.d d).ran.filter fun r => r.left == 0 && !r.told && p r.item.ten)

/-- Tenant `t` has a resolution on die `d`: its programs leave basted mode, and TEN_STAT shows the outcome (R254, R294). -/
def noteVerdict (s : Chip) (d : Fin 4) (v : Verdict) : Chip :=
  let s := s.upd d fun x => { x with clusters := mapEach cluster0 (fun _ c =>
    if c.ten == v.ten then { c with basted := false, preBaste := false } else c) x.clusters }
  (s.setFld d (Rf.BASTE_TEN_STAT_OUTCOME.at v.ten.val) (b2n v.stitch)).setFld d (Rf.BASTE_TEN_STAT_REASONS.at v.ten.val)
    (v.reasons / 2)

/-- The items of an unpicked tenant wait for their handlers (R273). -/
def markHandlers (s : Chip) (d : Fin 4) (t : Fin 256) : Chip :=
  s.upd d fun x => { x with ran := x.ran.map fun r =>
    if r.item.ten == t && r.item.unpick != 0xFFF then { r with unpicking := true } else r }

/-- Apply one tenant's verdict on die `d` (R271, R272). DEDUCED, log 85. -/
def applyVerdict (s : Chip) (d : Fin 4) (v : Verdict) : Chip :=
  let s := if v.stitch then releaseFrames (settleBuf (stitchMem s d v.ten) d v.ten true) d v.ten
    else discardFrames (settleBuf (unpickMem s d v.ten) d v.ten false) d v.ten
  let s := tellBasted (settleSets s d v.ten v.stitch) d (fun t => t == v.ten) v.stitch
  let s := noteVerdict s d v
  if v.stitch then s else markHandlers s d v.ten

/-- Working halves and items of tenants without a resolution (R284, R509, R275). -/
def applyRest (s : Chip) (d : Fin 4) (vs : List Verdict) : Chip :=
  let other := fun t => !vs.any fun v => v.ten == t
  let s := if feature s d 7 then
      overAll (fun s (k : Nat × Nat) =>
        let valid := match s.cap d k.2 with
          | some c => c.valid
          | none => false
        if valid then commitSet s d k.1 else discardSet s d k.1) s (waitingSets s d other)
    else s
  tellBasted s d other true

/-- The verdicts a die acts on: the outcome's, and an unpick for reason 7 of every tenant it alone holds state for. -/
def dieVerdicts (s : Chip) (d : Fin 4) (vs : List Verdict) : List Verdict :=
  vs ++ ((holders s d).filter fun t => !vs.any fun v => v.ten == t).map fun t => { ten := t, stitch := false, reasons := 128 }

/-! ### The end of a resolution (R82, R276) -/

/-- The records of basted work of die `d` go on: unchanged, or with payload zero after an unpick (R82, R866). -/
def releaseRecs (s : Chip) (d : Fin 4) (unpicked : Fin 256 → Bool) : Chip :=
  s.upd d fun x =>
    let f := fun (r : Rec) => if unpicked r.ten then { r with pay := 0 } else r
    { x with fly := x.fly ++ x.heldRecs.map f ++ x.stimHeld.map f, heldRecs := [], stimHeld := [] }

/-- Buffer entries of tenant `t` drained or discarded in the device. -/
def entriesOf (s : Chip) (t : Fin 256) : Nat :=
  (dies.map fun d => (((s.d d).baste.counts.filter fun c => c.1 == t).map fun c => c.2).foldl (· + ·) 0).foldl (· + ·) 0

/-- The RESOLVE record of a tenant (R276, R293). -/
def resolveRec (s : Chip) (v : Verdict) : Chip :=
  let last := (dies.filter fun d => up s d).foldl (fun m d => max m (s.d d).baste.appliedAt.toNat) 0
  let r := mkRec s 0 0x008 K.RESOLVE v.ten (b2n v.stitch + v.reasons + min (entriesOf s v.ten) (2 ^ 24 - 1) * 2 ^ 8) false
    false
  sendRec s 0 { r with time := BitVec.ofNat 64 last }

/-- When every die has applied the outcome, die 0 writes the RESOLVE records and the held records are released (R276).
DEDUCED, log 86. -/
def finishResolve (s : Chip) : Chip :=
  match s.resolve.outcome with
  | some vs =>
    if dies.all fun d => !up s d || (s.d d).baste.applied then
      let s := overAll resolveRec s vs
      let s := overAll (fun s d => releaseRecs s d fun t => vs.any fun v => v.ten == t && !v.stitch) s dies
      { s with resolve := { s.resolve with outcome := none } }
    else s
  | none => s

/-- Die `d` acts on verdicts. -/
def applyAll (s : Chip) (d : Fin 4) (vs : List Verdict) : Chip :=
  let vs := dieVerdicts s d vs
  let s := applyRest (overAll (fun s v => applyVerdict s d v) s vs) d vs
  let s := drainStored s d [] (s.d d).sfq
  finishResolve (s.onBaste d fun b => { b with applied := true, appliedAt := s.now d })

/-- BASTE_APPLY (R269, R271, R272, R276): on arrival of the outcome, but no earlier than S + 96. -/
def basteApply (d : Fin 4) (s : Chip) : Chip :=
  whenUp s d fun s =>
    match (s.d d).baste.outcome with
    | some vs => if (s.d d).baste.applied || !sinceStitch s d 96 then s else applyAll s d vs
    | none => s

/-! ### Write-back (R272, R292, R777) -/

/-- SHADOW_WRITEBACK: the oldest unpicked word is written back and its entry is freed; an uncorrectable entry poisons the
word. DEDUCED, log 88. -/
def shadowWriteback (d : Fin 4) (bad : Bool) (s : Chip) : Chip :=
  whenUp s d fun s =>
    match (s.d d).baste.back with
    | [] => s
    | e :: es =>
      let s := s.onBaste d fun b => { b with back := es }
      if bad then foundBad s d e.1 e.2.1 0 else s

/-! ### Handlers (R273, R274, R293) -/

/-- A cluster can take a handler. -/
def Cluster.free (x : Cluster) : Bool := x.st == .idle || (x.st == .halted && x.killed)

/-- The reason mask that a handler of tenant `t` finds in s4. -/
def handlerMask (s : Chip) (d : Fin 4) (t : Fin 256) : Nat :=
  match ((s.d d).baste.outcome.getD []).find? fun v => v.ten == t with
  | some v => v.reasons
  | none => 128

/-- Start the handlers whose clusters are free, in dispatch order: an item that waits holds back those behind it on its
clusters. -/
def startHandlers : Chip → Fin 4 → List Nat → List RanItem → Chip
  | s, _, _, [] => s
  | s, d, blocked, r :: rs =>
    let cs := setOf r.item.first r.item.count
    if !r.unpicking then startHandlers s d blocked rs
    else if cs.any (blocked.contains ·) || cs.any fun c => !(s.cluster d c).free then
      startHandlers s d (blocked ++ cs) rs
    else
      let s := s.upd d fun x => { x with ran := x.ran.map fun q => if q.id == r.id then { q with unpicking := false } else q }
      let s := overAll (fun s c => startCluster s d r.item r.id (some (handlerMask s d r.item.ten)) false c) s cs
      startHandlers s d (blocked ++ cs) rs

/-- Handlers start in SLACK (R273). -/
def handlersGo (s : Chip) (d : Fin 4) : Chip :=
  if (s.d d).tick.phase = .slack then startHandlers s d [] (s.d d).ran else s

/-- CLUSTER_QUIET (R71, R273, R411): a stopping cluster is quiet; a waiting handler may start. -/
def clusterQuiet (d : Fin 4) (c : Fin 192) (s : Chip) : Chip :=
  whenUp s d fun s => handlersGo (quietCluster s d c) d

/-- A handler still running at the next tick start stops (R274, R293). -/
def stopHandlers (s : Chip) (d : Fin 4) : Chip :=
  overAll (fun s c =>
    let x := s.cluster d c
    raise (endProgram s d c true 0 0) d (rSource c) K.UNPKOVR x.ten x.pc.toNat) s
    (((s.d d).clusters.filter fun e => e.2.live && e.2.handler).map Prod.fst)

/-! ### The edges of a tick (R270, R277, R279) -/

/-- STITCH begins on die `d`: a new exchange. -/
def basteStitchStart (s : Chip) (d : Fin 4) : Chip :=
  let s := s.onBaste d fun b =>
    { b with reported := false, report := none, sent := none, outcome := none, applied := false, counts := [] }
  if d = 0 then
    { s with resolve := { s.resolve with got := Quad.all none, late := Quad.all false, outcome := none } }
  else s

/-- The end of die `d`'s tick without an outcome: it unpicks every tenant it holds state for (R270, R290).
DEDUCED, log 83. -/
def basteSplit (s : Chip) (d : Fin 4) : Chip :=
  let b := (s.d d).baste
  if (s.d d).tick.stitchAt.isNone || b.applied then s
  else match b.outcome with
    | some vs => applyAll s d vs
    | none =>
      let hs := holders s d
      let s := raise s d 0x008 K.BSTSPLIT 0 hs.length
      let s := applyAll s d []
      releaseRecs s d fun t => hs.contains t

/-- The Basting unit at a tick start: verdicts and bases of the old tick go, and new settings take effect (R279). -/
def basteTickStart (s : Chip) (d : Fin 4) : Chip :=
  let quota := (range 0 256).foldl (fun m t => mapPut (fun _ => 4096) m t (s.fld d (Rf.BASTE_QUOTA_QUOTA.at t))) []
  let s := s.onBaste d fun b =>
    { b with stitchV := [], unpickV := [], capBad := [], frameBad := [], frameLate := [], stalled := [], quota := quota }
  if d = 0 then
    let auto := (range 0 256).foldl (fun m t => mapPut (fun _ => false) m t (s.flag 0 (Rf.BASTE_TEN_CTL_AUTO.at t))) []
    { s with resolve := { s.resolve with guard := s.fld 0 Rf.BASTE_CTL_CT_GUARD, auto := auto } }
  else s

/-- STAT.RESOLVING (R294). -/
def resolving (s : Chip) (d : Fin 4) : Bool := (s.d d).baste.reported && !(s.d d).baste.applied

/-- A verdict of the tick program for tenant `t` (R137): false when it comes too late, or with no tick in progress. -/
def verdict (s : Chip) (d : Fin 4) (t : Fin 256) (stitch : Bool) : Chip × Bool :=
  let phase := (s.d d).tick.phase
  if phase = .idle ∨ phase = .slack ∨ sinceStitch s d 32 then (s, false)
  else
    (s.onBaste d fun b =>
      if stitch then { b with stitchV := if b.stitchV.contains t then b.stitchV else t :: b.stitchV }
      else { b with unpickV := if b.unpickV.contains t then b.unpickV else t :: b.unpickV }, true)

/-! ### Meanings -/

/-- BASTE_REPORT. -/
def execBasteReport (d : Fin 4) (s : State) : Out :=
  act s fun s => basteReport d s
/-- BASTE_REPORT_MSG. -/
def execBasteReportMsg (d : Fin 4) (s : State) : Out :=
  act s fun s => basteReportMsg d s
/-- BASTE_OUTCOME_SEND. -/
def execBasteOutcomeSend (s : State) : Out :=
  act s fun s => basteOutcomeSend s
/-- BASTE_REPORT_TIMEOUT. -/
def execBasteReportTimeout (s : State) : Out :=
  act s fun s => basteReportTimeout s
/-- BASTE_OUTCOME. -/
def execBasteOutcome (d : Fin 4) (s : State) : Out :=
  act s fun s => basteOutcome d s
/-- BASTE_APPLY. -/
def execBasteApply (d : Fin 4) (s : State) : Out :=
  act s fun s => basteApply d s
/-- SHADOW_WRITEBACK. -/
def execShadowWriteback (d : Fin 4) (bad : Bool) (s : State) : Out :=
  act s fun s => shadowWriteback d bad s
/-- CLUSTER_QUIET. -/
def execClusterQuiet (d : Fin 4) (c : Fin 192) (s : State) : Out :=
  act s fun s => clusterQuiet d c s

end Sys2Proof.Machine
end

