-- ==== Sys2Proof/Machine/Ledger.lean ====
section
/-! DEFINITION. The energy ledger: metering, the reservoir, reservations, reconciliation, epochs, RESERVE, die caps and
thermal control (R192 to R249). -/

namespace Sys2Proof.Machine

/-- Change the ledger of die `d`. -/
def Chip.onLedger (s : Chip) (d : Fin 4) (f : LedgerSt → LedgerSt) : Chip :=
  s.upd d fun x => { x with ledger := f x.ledger }

/-- The ledger of die `d`. -/
def Chip.led (s : Chip) (d : Fin 4) : LedgerSt := (s.d d).ledger

/-- The local source of the ledger (R79). -/
abbrev ledgerSrc : Nat := 0x250

/-! ### Measurement (R192 to R195, R211) -/

/-- Channel `c` is metered on die `d` (R194). -/
def metered (d : Fin 4) (c : Nat) : Bool :=
  if c = 8 then d.val ≤ 1 else if c = 9 ∨ c = 10 then d.val = 0 else decide (c < 8)

/-- The energies of a sample, channel by channel; a channel the die does not have adds nothing. -/
def sampleSum (d : Fin 4) : Nat → List Nat → Nat
  | _, [] => 0
  | c, e :: es => (if metered d c then e else 0) + sampleSum d (c + 1) es

/-- Store the channel powers in mW of a sample: nJ in one µs. -/
def setPowers (s : Chip) (d : Fin 4) : Nat → List Nat → Chip
  | _, [] => s
  | c, e :: es =>
    setPowers (if metered d c then s.setFld d (Rf.LEDGER_RAIL_P_POWER.at c) (min e 0xFFFF) else s) d (c + 1) es

/-- ENERGY_SAMPLE (R192, R195, R211): the sample that ends now; samples of SLACK go to OVERHEAD. -/
def energySample (d : Fin 4) (ch : List Nat) (s : Chip) : Chip :=
  whenUp s d fun s =>
    if (s.now d).toNat % 1000 = 0 then
      let e := sampleSum d 0 (ch.take 11)
      let s := setPowers s d 0 (ch.take 11)
      let work := (s.d d).tick.phase != .idle && (s.d d).tick.phase != .slack
      let s := s.onLedger d fun l =>
        { l with
          energy := l.energy + BitVec.ofNat 64 e
          unsent := l.unsent + e
          win := l.win + e
          workE := if work then l.workE + e else l.workE
          workN := if work then l.workN + 1 else l.workN }
      if (s.d d).tick.phase = .slack then s.addFld d Rf.LEDGER_OVERHEAD_OVH e else s
    else s

/-! ### The reservoir and RESERVE (R196 to R199, R217 to R219) -/

/-- The reservoir is in use (R196). -/
def resvEn (s : Chip) : Bool := s.flag 0 Rf.LEDGER_CTL_RESV_EN

/-- A die sends its energy since the last total to die 0 (R197). -/
def sendTotal (s : Chip) (d : Fin 4) : Chip :=
  s.onLedger d fun l => { l with totals := l.totals ++ [l.unsent], unsent := 0, sentAt := s.now d }

/-- RESVLOW (R219). -/
def checkLow (s : Chip) (old : Nat) : Chip :=
  let low := s.fld 0 Rf.LEDGER_RESV_LOW_LOW * 1000
  if low ≠ 0 ∧ low ≤ old ∧ s.reservoir < low then raise s 0 ledgerSrc K.RESVLOW 0 0 else s

/-- Every die is in RESERVE or leaves it, and the change is recorded (R217, R218, R245). -/
def setReserve (s : Chip) (on : Bool) : Chip :=
  let was := s.flag 0 Rf.LEDGER_STAT_RESERVE
  let s := overAll (fun s d => s.setFld d Rf.LEDGER_STAT_RESERVE (b2n on)) s dies
  if on && !was then raise s 0 ledgerSrc K.RESERVE 0 0
  else if !on && was then raise s 0 ledgerSrc K.RESVEXIT 0 0
  else s

/-- RESERVE begins at once where ticks do not run (R217). DEDUCED, log 77. -/
def reserveNow (s : Chip) : Chip :=
  if resvEn s && s.reservoir == 0 && !ticking s 0 then setReserve s true else s

/-- RESERVE at a tick start of die 0 (R217, R218, R227, R234). -/
def reserveAtTick (s : Chip) : Chip := setReserve s (resvEn s && s.reservoir == 0)

/-- Subtract a total from the reservoir (R197, R198). DEDUCED, log 76. -/
def subtract (s : Chip) (e : Nat) : Chip :=
  if !resvEn s then s
  else if s.reservoir = 0 then { s with reservoirRem := 0 }
  else
    let have_ := s.reservoir * 1000 + s.reservoirRem
    let left := have_ - e
    reserveNow (checkLow { s with reservoir := left / 1000, reservoirRem := left % 1000 } s.reservoir)

/-- ENERGY_TOTAL (R197): die `d`'s oldest total reaches die 0. -/
def energyTotal (d : Fin 4) (s : Chip) : Chip :=
  whenUp s 0 fun s =>
    match (s.led d).totals with
    | e :: es => subtract (s.onLedger d fun l => { l with totals := es }) e
    | [] => s

/-- ENERGY_REPORT_TIMER (R197): while ticks do not run, at multiples of 65,536 tq. DESIGN CHOICE, log 78. -/
def energyReportTimer (d : Fin 4) (s : Chip) : Chip :=
  whenUp s d fun s => if !ticking s d && (s.now d).toNat % 65536 == 0 then sendTotal s d else s

/-- RESV_HI_WRITE (R199, R238): the reservoir is loaded and pending totals are discarded. -/
def resvHi (s : Chip) (v : Word) : Chip :=
  let old := s.reservoir
  let s := s.setFld 0 Rf.LEDGER_RESV_HI_RESV (getBits v 0 8)
  let s := overAll (fun s d => s.onLedger d fun l => { l with totals := [] }) s dies
  reserveNow (checkLow
    { s with reservoir := s.fld 0 Rf.LEDGER_RESV_LO_RESV + 2 ^ 32 * getBits v 0 8, reservoirRem := 0 } old)

/-- RESV_ADJ_WRITE (R199). -/
def resvAdj (s : Chip) (v : Word) : Chip :=
  let old := s.reservoir
  let n := clampI 0 (2 ^ 40 - 1) ((s.reservoir : Int) + v.toInt)
  reserveNow (checkLow { s with reservoir := n.toNat } old)

/-! ### Costs and reservations (R200, R201, R206 to R210, R135) -/

/-- The band of a highest reading in units of 0.25 °C (R200). -/
def calBand (r : Int) : Nat := (clampI 0 7 ((r + 160) / 100)).toNat

/-- The corrected cost of a dispatch (R201). -/
def correctedCost (s : Chip) (d : Fin 4) (cost count : Nat) : Nat :=
  let cal := s.fld d (Rf.LEDGER_CAL_FACTOR.at (calBand (highestTemp s d)))
  min ((cost * count * cal + 16383) / 16384) (2 ^ 32 - 1)

/-- The balance of tenant `t` (R203). -/
def balOf (s : Chip) (d : Fin 4) (t : Fin 256) : Int := mapGet (fun _ => 0) (s.led d).bal t.val

/-- A balance held to 48 bits. -/
def clampBal (i : Int) : Int := clampI (-(2 ^ 47 : Int)) ((2 ^ 47 : Int) - 1) i

/-- Set the balance of tenant `t`. -/
def setBal (s : Chip) (d : Fin 4) (t : Fin 256) (v : Int) : Chip :=
  s.onLedger d fun l => { l with bal := mapPut (fun _ => 0) l.bal t.val (clampBal v) }

/-- Tenant `t` becomes EXHAUSTED; EXHAUST once per epoch (R244). -/
def exhaust (s : Chip) (d : Fin 4) (t : Fin 256) : Chip :=
  let s := s.setFld d (Rf.LEDGER_TSTAT_EXHAUSTED.at t.val) 1
  if (s.led d).told.contains t then s
  else
    raise (s.onLedger d fun l => { l with told := t :: l.told }) d ledgerSrc K.EXHAUST t
      (s.fld 0 Rf.LEDGER_EPOCH_NUM_NUM)

/-- The check of R207 that refuses a request of `x` nJ, by its reason code. -/
def refusal (s : Chip) (d : Fin 4) (t : Fin 256) (x : Nat) : Option Nat :=
  let l := s.led d
  if t = 0 ∨ x = 0 then none
  else if resvEn s && s.flag d Rf.LEDGER_STAT_RESERVE then some 1
  else if l.enforce && s.flag d (Rf.LEDGER_TSTAT_EXHAUSTED.at t.val) then some 2
  else if s.fld d Rf.LEDGER_STAT_CAPLEVEL ≠ 0 then some 3
  else if l.enforce && decide (l.budget < l.resvd + x) then some 4
  else if l.enforce && decide (balOf s d t - x < -(l.budget : Int)) then some 5
  else none

/-- A request of `x` nJ for tenant `t` (R207 to R209): the reason code of a refusal. -/
def reserve (s : Chip) (d : Fin 4) (t : Fin 256) (x : Nat) : Chip × Option Nat :=
  match refusal s d t x with
  | some 5 => (exhaust s d t, some 5)
  | some r => (s, some r)
  | none =>
    let s := setBal s d t (balOf s d t - x)
    (s.onLedger d fun l =>
      { l with resvd := l.resvd + x, epochRes := l.epochRes + x,
               rt := mapPut (fun _ => 0) l.rt t.val (mapGet (fun _ => 0) l.rt t.val + x) }, none)

/-- A DRAW of `x` nJ: what is accepted is unused until a DISP takes it (R135). -/
def drawReserve (s : Chip) (d : Fin 4) (t : Fin 256) (x : Nat) : Chip × Option Nat :=
  let r := reserve s d t x
  match r.2 with
  | some c => (r.1, some c)
  | none => (r.1.onLedger d fun l =>
      { l with unused := mapPut (fun _ => 0) l.unused t.val (mapGet (fun _ => 0) l.unused t.val + x) }, none)

/-- The reservation of a DISP that costs `x` nJ: first from the unused tick reservation, the rest as a request (R135). -/
def dispReserve (s : Chip) (d : Fin 4) (t : Fin 256) (x : Nat) : Chip × Option Nat :=
  let u := mapGet (fun _ => 0) (s.led d).unused t.val
  let r := reserve s d t (x - u)
  match r.2 with
  | some c => (r.1, some c)
  | none => (r.1.onLedger d fun l => { l with unused := mapPut (fun _ => 0) l.unused t.val (u - x) }, none)

/-! ### Tick starts, epochs and reconciliation (R204, R205, R211 to R216, R229) -/

/-- Tenants that hold anything in the ledger of die `d`. -/
def ledgerTenants (s : Chip) (d : Fin 4) : List (Fin 256) :=
  let l := s.led d
  let fromRegs := (s.d d).regs.filterMap fun e =>
    if 2 * 1048576 + 0x1000 ≤ e.1 ∧ e.1 < 2 * 1048576 + 0x2000 then some ((e.1 - (2 * 1048576 + 0x1000)) / 16) else none
  (dedup (l.bal.map Prod.fst ++ l.rt.map Prod.fst ++ (s.d d).runCyc.map Prod.fst ++ fromRegs)).map (Fin.ofNat 256)

/-- A new epoch for one tenant (R205). -/
def epochTenant (s : Chip) (d : Fin 4) (t : Fin 256) : Chip :=
  let b := (s.fld d (Rf.LEDGER_ALLOT_ALLOT.at t.val) : Int) * 64 + min (balOf s d t) 0
  let s := setBal s d t b
  if b < -((s.led d).budget : Int) then exhaust s d t else s.setFld d (Rf.LEDGER_TSTAT_EXHAUSTED.at t.val) 0

/-- A die begins a new epoch (R205, R221): balances are set and the cap from die 0 applies. -/
def epochDie (s : Chip) (d : Fin 4) (first : Bool) : Chip :=
  let s := s.onLedger d fun l => { l with told := [], epochRes := 0 }
  let s := overAll (fun s t => epochTenant s d t) s (ledgerTenants s d)
  match (s.led d).capNew with
  | some c => (s.onLedger d fun l => { l with capNew := none }).setFld d Rf.LEDGER_CAP_CAP c
  | none => if first then s else raise s d ledgerSrc K.CAPMISS 0 0

/-- The ledger of die `d` at its tick start: what was reserved after the last STITCH returns, the settings take effect,
and the energy of the last tick goes to die 0 (R197, R214, R229). -/
def ledgerTickStart (s : Chip) (d : Fin 4) : Chip :=
  let s := overAll (fun s t => if (s.led d).closed then setBal s d t (balOf s d t + mapGet (fun _ => 0) (s.led d).rt t.val) else s)
    s ((s.led d).rt.map fun e => Fin.ofNat 256 e.1)
  let s := sendTotal s d
  (s.onLedger d fun l =>
    { l with resvd := 0, rt := [], unused := [], closed := false, workE := 0, workN := 0
             budget := s.fld d Rf.LEDGER_TICK_BUDGET_BUDGET, enforce := s.flag d Rf.LEDGER_CTL_ENFORCE }).upd d
    fun x => { x with runCyc := [] }

/-- Whether the tick numbered `n` begins a new epoch (R204). -/
def beginsEpoch (s : Chip) (n : Nat) : Bool := !s.epochRuns || decide (s.epochE ≤ (n + 2 ^ 48 - s.epochTick) % 2 ^ 48)

/-- Die 0 begins a new epoch with tick `n`. -/
def epochAdvance (s : Chip) (n : Nat) : Chip :=
  let first := !s.epochRuns
  let s := { s with epochTick := n, epochE := s.fld 0 Rf.LEDGER_EPOCH_E, epochRuns := true }
  if first then s else s.setFld 0 Rf.LEDGER_EPOCH_NUM_NUM (s.fld 0 Rf.LEDGER_EPOCH_NUM_NUM + 1)

/-- Charge one tenant at reconciliation (R212, R215, R216, R243). -/
def chargeTenant (s : Chip) (d : Fin 4) (dyn cycles : Nat) (t : Fin 256) : Chip × Nat :=
  let ct := mapGet (fun _ => 0) (s.d d).runCyc t.val
  let et := if cycles = 0 then 0 else dyn * ct / cycles
  let rt := mapGet (fun _ => 0) (s.led d).rt t.val
  let s := setBal s d t (balOf s d t + rt - et)
  let s := s.setFld d (Rf.LEDGER_LAST_E_LAST_E.at t.val) (min et (2 ^ 32 - 1))
  let s := if balOf s d t < -((s.led d).budget : Int) && !s.flag d (Rf.LEDGER_TSTAT_EXHAUSTED.at t.val) then exhaust s d t
    else s
  let miss := if 0 < rt then decide (5 * rt < 4 * et) else decide (0 < et)
  (if miss then raise s d ledgerSrc K.COSTMISS t (toBits 32 (clampI (-(2 ^ 31 : Int)) (2 ^ 32 - 1) ((et : Int) - rt)))
   else s, et)

/-- Charge every tenant, and the sum charged. -/
def chargeAll (s : Chip) (d : Fin 4) (dyn cycles : Nat) : List (Fin 256) → Chip × Nat
  | [] => (s, 0)
  | t :: ts =>
    let r := chargeTenant s d dyn cycles t
    let q := chargeAll r.1 d dyn cycles ts
    (q.1, r.2 + q.2)

/-- Reconciliation at the end of STITCH (R212, R240). -/
def reconcile (s : Chip) (d : Fin 4) : Chip :=
  let s := countCycles s d
  let l := s.led d
  let dyn := l.workE - s.fld d Rf.LEDGER_BASE_BASE * l.workN
  let cycles := ((s.d d).runCyc.map Prod.snd).foldl (· + ·) 0
  let r := chargeAll s d dyn cycles (ledgerTenants s d)
  let s := r.1.addFld d Rf.LEDGER_OVERHEAD_OVH (l.workE - r.2)
  s.onLedger d fun l => { l with rt := [], unused := [], closed := true }

/-! ### Die caps (R220, R221) -/

/-- The dies whose bit in SYS.DIEMAP of die 0 is set. -/
def mappedDies (s : Chip) : List (Fin 4) := dies.filter fun d => bit (s.fld 0 Rf.SYS_DIEMAP_DIES) d.val

/-- The cap that die 0 computes for die `d`, 0xFFFF for none (R220). -/
def capFor (s : Chip) (d : Fin 4) : Nat :=
  let cap := s.fld 0 Rf.LEDGER_DEVCAP_DEVCAP
  let floors := ((mappedDies s).map fun e => s.fld 0 (Rf.LEDGER_FLOOR_FLOOR.at e.val)).foldl (· + ·) 0
  let w := fun (e : Fin 4) => (s.led e).epochRes / 1000
  let sum := ((mappedDies s).map fun e => w e + 1).foldl (· + ·) 0
  let floor := s.fld 0 (Rf.LEDGER_FLOOR_FLOOR.at d.val)
  if cap = 0 then 0xFFFF
  else if cap ≤ floors then floor
  else floor + (cap - floors) * (w d + 1) / sum

/-- Die 0 computes and sends the caps at the SLACK start of the last started tick of an epoch (R220). -/
def sendCaps (s : Chip) : Chip :=
  let caps := (mappedDies s).map fun d => (d, capFor s d)
  overAll (fun s p => s.onLedger p.1 fun l => { l with capSent := some p.2 }) s caps

/-- DIE_CAP (R221): the cap on its way reaches die `d`. -/
def dieCap (d : Fin 4) (s : Chip) : Chip :=
  whenUp s d fun s => s.onLedger d fun l =>
    match l.capSent with
    | some c => { l with capSent := none, capNew := some c }
    | none => l

/-! ### Thermal control (R224 to R226, R247, R248) -/

/-- THR and THR − HYST in units of 0.25 °C. -/
def thrQ (s : Chip) (d : Fin 4) : Int := 4 * s.fld d Rf.LEDGER_THERM_CTL_THR

/-- The reading at and below which a die steps back. -/
def coolQ (s : Chip) (d : Fin 4) : Int := thrQ s d - 4 * s.fld d Rf.LEDGER_THERM_CTL_HYST

/-- Set the thermal divider: cycles before the change count at the old rate. -/
def setThermDiv (s : Chip) (d : Fin 4) (v : Nat) : Chip := (countCycles s d).setFld d Rf.LEDGER_STAT_THERMDIV v

/-- The first sensor with the highest reading. -/
def hottest (s : Chip) (d : Fin 4) : Nat :=
  ((range 0 8).find? fun k => ofBits 12 (s.fld d (Rf.LEDGER_TEMP_TEMP.at k)) == highestTemp s d).getD 0

/-- Store sensor readings. -/
def setTemps (s : Chip) (d : Fin 4) : Nat → List (BitVec 12) → Chip
  | _, [] => s
  | k, v :: vs => setTemps (s.setFld d (Rf.LEDGER_TEMP_TEMP.at k) v.toNat) d (k + 1) vs

/-- VREQ of die `d` in mV (R900). DESIGN CHOICE, log 198. -/
def vreqMv (s : Chip) (d : Fin 4) : Nat := Config.vreqTrim d.val + (if s.flag d Rf.PWR_VREQ_COLD then 25 else 0)

/-- The cold step of VREQ follows the highest reading, in units of 0.25 °C (R900, R926, R929). -/
def vreqFollow (s : Chip) (d : Fin 4) (top : Int) : Chip :=
  let was := s.flag d Rf.PWR_VREQ_COLD
  let cold := decide (top < 0) || (was && decide (top < 20))
  if cold == was then s
  else
    let s := s.setFld d Rf.PWR_VREQ_COLD (b2n cold)
    raise s d 0x005 K.VREQCHG 0 (vreqMv s d)

/-- SENSOR_UPDATE (R224, R225, R235, R247, R900). -/
def sensorUpdate (d : Fin 4) (temps : List (BitVec 12)) (s : Chip) : Chip :=
  whenUp s d fun s =>
    let s := setTemps s d 0 (temps.take 8)
    let top := highestTemp s d
    let s := vreqFollow s d top
    let hot := decide (thrQ s d ≤ top)
    let cool := decide (top ≤ coolQ s d)
    let s := s.onLedger d fun l =>
      { l with hot := if hot then (if l.hot.isSome then l.hot else some (s.now d)) else none
               cool := if cool then (if l.cool.isSome then l.cool else some (s.now d)) else none }
    if hot && s.fld d Rf.LEDGER_STAT_THERMDIV == 0 then
      raise (setThermDiv s d 1) d ledgerSrc K.THERMTHR 0 (hottest s d + toBits 12 top * 2 ^ 16)
    else s

/-- 1 ms has passed since `t`. -/
def msSince (s : Chip) (d : Fin 4) (t : Option Time) : Bool :=
  match t with
  | some t => decide (1000000 ≤ (s.now d - t).toNat)
  | none => false

/-- THERMAL_STEP (R225). DEDUCED, log 75. -/
def thermalStep (d : Fin 4) (s : Chip) : Chip :=
  whenUp s d fun s =>
    let v := s.fld d Rf.LEDGER_STAT_THERMDIV
    if v == 1 && msSince s d (s.led d).hot then setThermDiv s d 2
    else if v != 0 && msSince s d (s.led d).cool then
      (setThermDiv s d (v - 1)).onLedger d fun l => { l with cool := some (s.now d) }
    else s

/-- THERMAL_TRIP (R226, R236, R248): the junction temperature of die `d` in °C; between 156 and 160 the comparator may
trip. -/
def thermalTrip (d : Fin 4) (junction : Int) (s : Chip) : Chip :=
  if !alive s ∨ junction < 156 then s
  else
    let trips := decide (160 ≤ junction) || Config.freeBool s.free
    let s := if junction < 160 then s.took else s
    if trips then
      fatalStop s d 0x005 K.THERMSTOP (d.val + toBits 12 (highestTemp s d) * 2 ^ 16) fun x => { x with thermal := true }
    else s

/-! ### The figures of LEDGER (R230) -/

/-- A number saturated to `n` bits unsigned. -/
def satU (n v : Nat) : Nat := min v (2 ^ n - 1)

/-- Figure F for tenant `t` (R230). -/
def ledgerFigure (s : Chip) (d : Fin 4) (t : Fin 256) (F : Nat) : Word :=
  let l := s.led d
  match F with
  | 0 => BitVec.ofInt 32 (clampI (-(2 ^ 31 : Int)) (2 ^ 31 - 1) (balOf s d t))
  | 1 => BitVec.ofNat 32 (satU 32 (mapGet (fun _ => 0) l.unused t.val))
  | 2 => BitVec.ofNat 32 (satU 32 (l.budget - l.resvd))
  | 3 => BitVec.ofNat 32 (s.fld d (Rf.LEDGER_LAST_E_LAST_E.at t.val))
  | 4 => if d = 0 then BitVec.ofNat 32 s.reservoir else 0
  | 5 => BitVec.ofNat 32 (s.fld d Rf.LEDGER_CAP_CAP)
  | 6 => BitVec.ofInt 32 (highestTemp s d)
  | 7 => BitVec.ofNat 32 (s.fld d Rf.LEDGER_STAT_RESERVE + 2 * s.fld d Rf.LEDGER_STAT_CAPLEVEL +
      16 * s.fld d Rf.LEDGER_STAT_THERMDIV + 64 * s.fld d (Rf.LEDGER_TSTAT_EXHAUSTED.at t.val))
  | _ => 0

/-! ### Meanings -/

/-- ENERGY_SAMPLE. DESIGN CHOICE, log 10. -/
def execEnergySample (d : Fin 4) (ch : List Nat) (s : State) : Out :=
  act s fun s => energySample d ch s
/-- ENERGY_TOTAL. -/
def execEnergyTotal (d : Fin 4) (s : State) : Out :=
  act s fun s => energyTotal d s
/-- ENERGY_REPORT_TIMER. -/
def execEnergyReportTimer (d : Fin 4) (s : State) : Out :=
  act s fun s => energyReportTimer d s
/-- RESV_HI_WRITE. -/
def execResvHiWrite (t : Fin 256) (v : Word) (s : State) : Out :=
  act s fun s => whenGranted s 0 t Rf.LEDGER_RESV_HI_RESV fun s => resvHi s v
/-- RESV_ADJ_WRITE. -/
def execResvAdjWrite (t : Fin 256) (v : Word) (s : State) : Out :=
  act s fun s => whenGranted s 0 t Rf.LEDGER_RESV_ADJ_ADJ fun s => resvAdj s v
/-- DIE_CAP. -/
def execDieCap (d : Fin 4) (s : State) : Out :=
  act s fun s => dieCap d s
/-- SENSOR_UPDATE. -/
def execSensorUpdate (d : Fin 4) (temps : List (BitVec 12)) (s : State) : Out :=
  act s fun s => sensorUpdate d temps s
/-- THERMAL_STEP. -/
def execThermalStep (d : Fin 4) (s : State) : Out :=
  act s fun s => thermalStep d s
/-- THERMAL_TRIP. -/
def execThermalTrip (d : Fin 4) (junction : Int) (s : State) : Out :=
  act s fun s => thermalTrip d junction s

end Sys2Proof.Machine
end

