-- ==== Sys2Proof/Machine/Caps.lean ====
section
/-! DEFINITION. The cap window of a die and the cap levels (R222, R223, R246, R365, R569). -/

namespace Sys2Proof.Machine

/-- The cap in mW that die `d` applies; none for no cap (R220). -/
def dieCapMw (s : Chip) (d : Fin 4) : Option Nat :=
  let c := s.fld d Rf.LEDGER_CAP_CAP
  if c = 0xFFFF then none else some c

/-- The level after a window of 64 samples with energy `e` in nJ at level `l` (R222). -/
def nextLevel (cap : Option Nat) (e l : Nat) : Nat :=
  match cap with
  | none => l - 1
  | some c => if 64 * c < e then min 4 (l + 1) else if 10 * e ≤ 9 * (64 * c) then l - 1 else l

/-- The cap level of die `d` becomes `l` (R223, R246). -/
def setLevel (s : Chip) (d : Fin 4) (l : Nat) : Chip :=
  let old := s.fld d Rf.LEDGER_STAT_CAPLEVEL
  if l = old then s
  else
    let s := (countCycles s d).setFld d Rf.LEDGER_STAT_CAPLEVEL l
    let s := raise s d ledgerSrc K.CAPLEVEL 0 (l + s.fld d Rf.LEDGER_CAP_CAP * 2 ^ 16)
    capLanes (capBanks s d old l) d old l

/-- CAP_WINDOW_END (R222): at multiples of 64,000 tq. -/
def capWindowEnd (d : Fin 4) (s : Chip) : Chip :=
  whenUp s d fun s =>
    if (s.now d).toNat % 64000 = 0 then
      let s' := setLevel s d (nextLevel (dieCapMw s d) (s.led d).win (s.fld d Rf.LEDGER_STAT_CAPLEVEL))
      capLanesWindow (capBanksWindow (s'.onLedger d fun l => { l with win := 0 }) d) d
    else s

/-- CAP_WINDOW_END. -/
def execCapWindowEnd (d : Fin 4) (s : State) : Out :=
  act s fun s => capWindowEnd d s

end Sys2Proof.Machine
end

