-- ==== Sys2Proof/Machine/Ilk.lean ====
section
/-! DEFINITION. The laser interlock (R467 to R474, R486, R495, R499), and the meanings of its commands. -/

namespace Sys2Proof.Machine

/-- The always-on domain has power: the interlock runs, whatever holds the rest of the device (R474). -/
def vaonUp (s : Chip) : Bool := !s.vbat.vaonAbsent

/-- The interlock is on die 0 and not removed by a fuse. -/
def ilkRuns (s : Chip) : Bool := vaonUp s && present s 0 9

/-- The interlock's state code (R468). -/
def ilkState (s : Chip) : Nat := s.fld 0 Rf.ILK_STAT_STATE

/-- The local source of the interlock (R79). -/
abbrev ilkSrc : Nat := 0x01A

/-- Both outputs go to laser-off: a capture that requires the interlock and is between its first and last sample loses
ILK_OK (R457, R470). DEDUCED, log 111. -/
def laserOff (s : Chip) : Chip :=
  if s.flag 0 Rf.ILK_STAT_LASEN then
    let s := s.setFld 0 Rf.ILK_STAT_LASEN 0
    overAll (fun s ch => match s.cap 0 ch with
      | some c => if c.open_ && decide (0 < c.n) && decide (c.n < c.len) then s.setCap 0 ch (some { c with ilkBad := true })
        else s
      | none => s) s (capChans s 0)
  else s

/-- An interlock event. While the device is held stopped its event machinery is too, and the record is lost (R938). -/
def ilkRaise (s : Chip) (kind pay : Nat) : Chip := if alive s then raise s 0 ilkSrc kind 0 pay else s

/-- The conditions of R469 for enabled outputs. -/
def lasenAllowed (s : Chip) : Bool :=
  ilkState s == 1 && decide (10000 ≤ s.ilk.safe) && s.flag 0 Rf.ILK_STAT_ARMED && !s.ilk.block && alive s

/-- FAULT latches (R471, R499). -/
def ilkFault (s : Chip) : Chip :=
  let unsafeB := s.flag 0 Rf.ILK_STAT_A_SAFE
  let s := laserOff (s.setFld 0 Rf.ILK_STAT_STATE 3)
  ilkRaise (s.addFld 0 Rf.ILK_FAULTS_COUNT 1) K.ILKFAULT (b2n unsafeB)

/-- T_D of the discrepancy in progress, in tq. -/
def discLimit (s : Chip) : Nat := s.ilk.td * 1000000

/-- Store the readings; the time both have read safe starts again when one does not. -/
def setSafe (s : Chip) (a b : Bool) : Chip :=
  let s := (s.setFld 0 Rf.ILK_STAT_A_SAFE (b2n a)).setFld 0 Rf.ILK_STAT_B_SAFE (b2n b)
  if a && b then s else { s with ilk := { s.ilk with safe := 0 } }

/-- The state for readings that agree or disagree, outside FAULT (R468). -/
def ilkMove (s : Chip) (a b : Bool) : Chip :=
  if a == b then { s.setFld 0 Rf.ILK_STAT_STATE (b2n a) with ilk := { s.ilk with disc := 0 } }
  else if ilkState s = 2 then s
  else { s.setFld 0 Rf.ILK_STAT_STATE 2 with ilk := { s.ilk with disc := 0, td := s.fld 0 Rf.ILK_TD_TD } }

/-- A channel turned unsafe: the outputs drop (R470, R499). -/
def ilkDrop (s : Chip) (a b : Bool) : Chip :=
  if s.flag 0 Rf.ILK_STAT_LASEN && !(a && b) then ilkRaise (laserOff s) K.ILKUNSAFE (b2n (!a) + 2 * b2n (!b)) else s

/-- ILK_SAMPLE (R468 to R471): the readings of the two channels, `true` for safe. A discrepancy that has lasted 2 µs past
T_D has latched FAULT; within 2 µs of T_D it may have. DESIGN CHOICE, log 108. -/
def ilkSample (a b : Bool) (s : Chip) : Chip :=
  if !ilkRuns s then s
  else
    let s := ilkDrop s a b
    let over_ := ilkState s = 2 ∧ a == b
    let sure := decide (discLimit s + 2000 ≤ s.ilk.disc)
    let near := decide (discLimit s < s.ilk.disc + 2000) && !sure
    let late := decide over_ && (sure || (near && Config.freeBool s.free))
    let s := if decide over_ && near then s.took else s
    let s := if late then ilkFault s else s
    let s := setSafe s a b
    let s := if ilkState s = 3 then s else ilkMove s a b
    if lasenAllowed s then s.setFld 0 Rf.ILK_STAT_LASEN 1 else laserOff s

/-- ILK_UNSAFE (R470): a channel is unsafe for `ns` ns; for less than 50 ns the outputs may drop or stay.
DEDUCED, log 109. -/
def ilkUnsafe (chB : Bool) (ns : Nat) (s : Chip) : Chip :=
  if !ilkRuns s || ns == 0 then s
  else
    let drops := decide (50 ≤ ns) || Config.freeBool s.free
    let s := if ns < 50 then s.took else s
    if drops then
      let s := ilkDrop s chB !chB
      { s with ilk := { s.ilk with safe := 0 } }
    else s

/-- ILK_DISCREPANCY_TIMEOUT (R468, R471): within 2 µs of T_D the state may or may not become FAULT. -/
def ilkTimeout (s : Chip) : Chip :=
  if !ilkRuns s || ilkState s != 2 || decide (s.ilk.disc + 2000 ≤ discLimit s) then s
  else if discLimit s + 2000 ≤ s.ilk.disc then ilkFault s
  else if Config.freeBool s.free then ilkFault s.took else s.took

/-- A clear request (R473, R499). DEDUCED, log 110. -/
def ilkClear (s : Chip) : Chip :=
  let refuse := fun (s : Chip) =>
    let s := (s.setFld 0 Rf.ILK_STAT_REFUSED 1).setFld 0 Rf.ILK_STAT_CLEARED 0
    ilkRaise s K.ILKCLRREF (min (s.ilk.safe / 1000) (2 ^ 32 - 1))
  let accept := fun (s : Chip) =>
    let s := ((s.setFld 0 Rf.ILK_STAT_STATE 1).setFld 0 Rf.ILK_STAT_CLEARED 1).setFld 0 Rf.ILK_STAT_REFUSED 0
    ilkRaise { s with ilk := { s.ilk with disc := 0, block := true } } K.ILKCLEAR 0
  if ilkState s ≠ 3 ∨ s.ilk.safe < 99998000 then refuse s
  else if 100002000 ≤ s.ilk.safe then accept s
  else if Config.freeBool s.free then accept s.took else refuse s.took

/-- The value that a write stores in ILK.TD (R472). -/
def tdValue (s : Chip) (v : Nat) : Nat := if v = 0 then 1 else min v (s.fld 0 Rf.ILK_CEIL_CEIL)

/-- ILK_TD_WRITE (R472). -/
def ilkTd (s : Chip) (v : Word) : Chip := s.setFld 0 Rf.ILK_TD_TD (tdValue s (getBits v 0 9))

/-- The laser-armed state ends (R130, R470). -/
def disarmLaser (s : Chip) : Chip := laserOff (s.setFld 0 Rf.ILK_STAT_ARMED 0)

/-- The interlock's counts after one more tq of its oscillator. -/
def ilkTq (s : Chip) : Chip :=
  if ilkRuns s then
    { s with ilk :=
        { s.ilk with disc := if ilkState s = 2 then s.ilk.disc + 1 else s.ilk.disc
                     safe := if s.flag 0 Rf.ILK_STAT_A_SAFE && s.flag 0 Rf.ILK_STAT_B_SAFE then s.ilk.safe + 1 else 0 } }
  else s

/-! ### Meanings -/

/-- ILK_SAMPLE. -/
def execIlkSample (a b : Bool) (s : State) : Out :=
  act s fun s => ilkSample a b s
/-- ILK_UNSAFE. -/
def execIlkUnsafe (chB : Bool) (ns : Nat) (s : State) : Out :=
  act s fun s => ilkUnsafe chB ns s
/-- ILK_DISCREPANCY_TIMEOUT. -/
def execIlkDiscrepancyTimeout (s : State) : Out :=
  act s fun s => ilkTimeout s
/-- ILK_CLEAR_WRITE (R473, R486). -/
def execIlkClearWrite (t : Fin 256) (s : State) : Out :=
  act s fun s => whenSuper s 0 t Rf.ILK_CTL_CLEAR ilkClear
/-- ILK_TD_WRITE (R486). -/
def execIlkTdWrite (t : Fin 256) (v : Word) (s : State) : Out :=
  act s fun s => whenSuper s 0 t Rf.ILK_TD_TD fun s => ilkTd s v

end Sys2Proof.Machine
end

