-- ==== Sys2Proof/Machine/Hem.lean ====
section
/-! DEFINITION. Fuses and lifecycle (R807 to R820), tamper and the battery-backed memory (R821 to R827), and the watchdog
(R828 to R834), with the meanings of their commands. -/

namespace Sys2Proof.Machine

/-- Change die `d`'s Hem. -/
def Chip.onHem (s : Chip) (d : Fin 4) (f : HemSt → HemSt) : Chip := s.upd d fun x => { x with hem := f x.hem }

/-- The data bits of row `r`. -/
def hemRow (h : HemSt) (r : Nat) : BitVec 64 := mapGet (fun _ => 0) h.rows r

/-- Bits [lo+n-1:lo] of a row. -/
def fuseBits (w : BitVec 64) (lo n : Nat) : Nat := w.toNat / 2 ^ lo % 2 ^ n

/-! ### Sensing (R809 to R815) -/

/-- The lifecycle code that row `r` stands for, from DEVELOP in row 2 to SCRAPPED in row 5 (R811). -/
def lcPattern (r : Nat) : BitVec 64 := BitVec.ofNat 64 (0x5A4C435F00000000 + r)

/-- Row `r` of the LIFECYCLE rows fails: integrity, or neither blank nor its pattern (R815).
DEDUCED, log 175. -/
def lcRowBad (h : HemSt) (r : Nat) : Bool := h.failed.contains r || (hemRow h r != 0 && hemRow h r != lcPattern r)

/-- Row `r` of the LIFECYCLE rows is programmed and valid. -/
def lcRowSet (h : HemSt) (r : Nat) : Bool := !h.failed.contains r && hemRow h r == lcPattern r

/-- The highest code whose row is programmed and valid (R811). -/
def lcHighest (h : HemSt) : Nat :=
  if lcRowSet h 5 then 4 else if lcRowSet h 4 then 3 else if lcRowSet h 3 then 2 else if lcRowSet h 2 then 1 else 0

/-- The lifecycle in force after sensing (R811, R815, R842). -/
def senseLc (h : HemSt) : Nat :=
  if (range 2 4).any (lcRowBad h) then (if lcHighest h = 4 then 4 else 3) else lcHighest h

/-- The safe CONTROL value: F = 4, ceiling 1 ms, BBKFORBID and BBKWIPE (R815). -/
def safeControl : Nat := 4 + 1 * 2 ^ 4 + 2 ^ 13 + 2 ^ 17

/-- Bits n of UNITEN that govern the seven units of R809. -/
def sevenUnits : Nat := 2 ^ 8 + 2 ^ 9 + 2 ^ 10 + 2 ^ 12 + 2 ^ 13 + 2 ^ 14 + 2 ^ 15

/-- The values that a Hem delivers with the rows `failed` (R813, R815). -/
def senseHem (h : HemSt) (failed : List Nat) : HemSt :=
  let h := { h with failed := failed }
  let f := hemRow h 0
  let bad := failed.contains 0
  { h with
    uniten := if bad then 0x0FFFFFFF - sevenUnits else fuseBits f 0 28
    featen := if bad then 0 else fuseBits f 28 8
    variant := if bad then 0 else fuseBits f 36 2
    grade := if bad then 1 else fuseBits f 38 1
    vendor := if bad then 0 else fuseBits f 48 16
    control := if failed.contains 1 then safeControl else fuseBits (hemRow h 1) 0 18
    lc := senseLc h }

/-- The kind of a row, as its bit of HEM.FAIL_KINDS (R848). -/
def rowKind (r : Nat) : Nat :=
  if r = 0 then 0 else if r = 1 then 1 else if 2 ≤ r ∧ r ≤ 5 then 2 else if 8 ≤ r ∧ r ≤ 11 then 3
  else if 12 ≤ r ∧ r ≤ 15 then 4 else if 16 ≤ r ∧ r ≤ 63 then 5 else 6

/-- The kinds of the failed rows. -/
def failKinds (failed : List Nat) : Nat := failed.foldl (fun m r => setBit m (rowKind r)) 0

/-- The interlock ceiling in ms (R810). -/
def ilkCeil (control : Nat) : Nat :=
  let c := control / 2 ^ 4 % 2 ^ 9
  if c = 0 ∨ 500 < c then 500 else c

/-- LEDGER.CAL_k and LEDGER.BASE from the TRIM rows (R202, R812, R815). DEDUCED, log 80. -/
def loadTrims (s : Chip) (d : Fin 4) : Chip :=
  let h := (s.d d).hem
  let s := overAll (fun s k =>
    let r := 16 + k / 4
    let v := if h.failed.contains r then 16384 else fuseBits (hemRow h r) (16 * (k % 4)) 16
    s.setFld d (Rf.LEDGER_CAL_FACTOR.at k) v) s (range 0 8)
  s.setFld d Rf.LEDGER_BASE_BASE (if h.failed.contains 18 then 1000 else fuseBits (hemRow h 18) 0 16)

/-- Die `d` senses its Hem (R813): `found` are this sensing's failed and corrected rows. A row whose programming was cut
off fails (R820). -/
def senseDie (s : Chip) (found : List HemFinding) (d : Fin 4) : Chip :=
  let h := (s.d d).hem
  let cut := match h.prog with
    | some p => [p.1]
    | none => []
  let broken := h.broken ++ cut.filter fun r => !h.broken.contains r
  let mine := found.filter fun f => f.die == d
  let failed := (range 0 512).filter fun r => broken.contains r || mine.any fun f => f.failed && f.row.val == r
  let fixed := (range 0 512).filter fun r => !failed.contains r && mine.any fun f => !f.failed && f.row.val == r
  let s := s.onHem d fun h => senseHem { h with broken := broken, prog := none } failed
  let h := (s.d d).hem
  let s := s.setFld d Rf.HEM_STAT_ALARM (b2n (!failed.isEmpty))
  let s := s.setFld d Rf.HEM_STAT_FAILROWS (min failed.length 255)
  let s := s.setFld d Rf.HEM_STAT_LC h.lc
  let s := s.setFld d Rf.HEM_FAIL_KINDS_KINDS (failKinds failed)
  let s := s.setFld d Rf.HEM_CORR_ROWS (min fixed.length 511)
  let s := s.setFld d Rf.HEM_CONTROL_CONTROL h.control
  let s := s.setFld d Rf.HEM_UNITEN_UNITEN h.uniten
  let s := s.setFld d Rf.HEM_FEATEN_FEATEN h.featen
  let s := s.setFld d Rf.HEM_FEATEN_VARIANT h.variant
  let s := s.setFld d Rf.HEM_FEATEN_GRADE h.grade
  let s := loadTrims s d
  let s := if d = 0 then
      let s := s.setFld 0 Rf.HOST_PCI_ID_VENDOR h.vendor
      let s := s.setFld 0 Rf.ILK_CEIL_CEIL (ilkCeil h.control)
      s.setFld 0 Rf.ILK_TD_TD (min (s.fld 0 Rf.ILK_TD_TD) (ilkCeil h.control))
    else s
  let s := match failed with
    | [] => s
    | r :: _ => raise s d 0x240 K.HEMALARM 0 (r + failKinds failed * 2 ^ 9 + min failed.length 255 * 2 ^ 16)
  overAll (fun s r => raise s d 0x240 K.HEMCE 0 r) s fixed

/-- Every die senses its Hem. -/
def senseAll (s : Chip) (found : List HemFinding) : Chip := overAll (fun s d => senseDie s found d) s dies

/-! ### Row programming (R820, R845) -/

/-- Row `r` may be programmed at lifecycle `lc` (R808, R817, R820). DEDUCED, log 173. -/
def rowOpen (lc r : Nat) : Bool :=
  if r = 1 ∨ (8 ≤ r ∧ r ≤ 15) then decide (lc ≤ 1) else decide (256 ≤ r) && lc != 4

/-- HEM_PROGRAM: GO is written. DEDUCED, log 174. -/
def hemProgram (t : Fin 256) (d : Fin 4) (s : Chip) : Chip :=
  whenSuper s d t Rf.HEM_PROG_CTL_GO fun s =>
    let h := (s.d d).hem
    let r := s.fld d Rf.HEM_PROG_ROW_ROW
    let v := BitVec.ofNat 64 (s.fld64 d Rf.HEM_PROG_LO_DATA Rf.HEM_PROG_HI_DATA)
    if h.prog.isSome then s
    else if hemRow h r ≠ 0 ∨ h.broken.contains r ∨ !rowOpen h.lc r then s.setFld d Rf.HEM_STAT_PROGRESULT 2
    else (s.onHem d fun h => { h with prog := some (r, v) }).setFld d Rf.HEM_STAT_PROGBUSY 1

/-- HEM_PROGRAM_DONE: the re-read passes or fails. -/
def hemProgramDone (d : Fin 4) (ok : Bool) (s : Chip) : Chip :=
  whenUp s d fun s =>
    match (s.d d).hem.prog with
    | none => s
    | some (r, v) =>
      let s := (s.onHem d fun h => { h with
        prog := none
        rows := mapPut (fun _ => 0) h.rows r v
        broken := if ok then h.broken else r :: h.broken }).setFld d Rf.HEM_STAT_PROGBUSY 0
      if ok then s.setFld d Rf.HEM_STAT_PROGRESULT 1
      else raise (s.setFld d Rf.HEM_STAT_PROGRESULT 3) d 0x240 K.HEMPROG 0 r

/-! ### Lifecycle transitions (R818, R819, R845) -/

/-- Zero the battery-backed key. -/
def zeroBbkey (s : Chip) : Chip :=
  { s with vbat := { s.vbat with key := 0, keyValid := false } }.setFld 0 Rf.TAMPER_KEYCTL_KEYVALID 0

/-- The state that die `d` is in, or that programming its rows has reached. -/
def lcReached (s : Chip) (d : Fin 4) : Nat :=
  let h := (s.d d).hem
  max h.lc
    (if hemRow h 5 ≠ 0 then 4 else if hemRow h 4 ≠ 0 then 3 else if hemRow h 3 ≠ 0 then 2 else if hemRow h 2 ≠ 0 then 1 else 0)

/-- The first die below the target, in the order 0, 1, 2, 3. -/
def lcNext (s : Chip) (target : Nat) : Option (Fin 4) := dies.find? fun d => decide (lcReached s d < target)

/-- The transition ends: the new state takes effect on every die. -/
def lcEnd (s : Chip) (m : LcMove) : Chip :=
  let s := overAll (fun s d => (s.onHem d fun h => { h with lc := max h.lc m.target }).setFld d Rf.HEM_STAT_LC
    (max (s.d d).hem.lc m.target)) s dies
  let s := { s with lcMove := none }.setFld 0 Rf.HEM_STAT_LCBUSY 0
  raise s 0 0x240 K.LCCHANGE 0 (m.old + m.target * 2 ^ 4)

/-- Placket authentication has succeeded since the last PORN release (R855). -/
def authed (s : Chip) : Bool := s.flag 0 Rf.PLACKET_AUTH_STAT_AUTHED

/-- LIFECYCLE_TRANSITION: LC_REQ.GO is written (R818, R819, R843). -/
def lcRequest (t : Fin 256) (v : Word) (s : Chip) : Chip :=
  whenSuper s 0 t Rf.HEM_LC_REQ_GO fun s =>
    let target := getBits v 0 3
    let s := s.setFld 0 Rf.HEM_LC_REQ_TARGET target
    let lc := (s.d 0).hem.lc
    let top := dies.foldl (fun m d => max m (s.d d).hem.lc) 0
    let busy := s.lcMove.isSome || dies.any fun d => (s.d d).hem.prog.isSome
    let above := decide (lc < target) || (s.fld 0 Rf.CFG_STAT_STATE == 4 && decide (top ≤ target))
    if busy || !above || decide (4 < target) || (decide (3 ≤ target) && lc == 2 && !authed s) then
      refusedWrite s 0 t Rf.HEM_LC_REQ_GO
    else
      let s := wipeLining s fun _ => 3
      let s := if 3 ≤ target then zeroBbkey s else s
      let m : LcMove := { target := target, old := lc, die := (lcNext s target).getD 0 }
      match lcNext s target with
      | some _ => { s with lcMove := some m }.setFld 0 Rf.HEM_STAT_LCBUSY 1
      | none => lcEnd s m

/-- LC_ROW_PROGRAMMED: the row being programmed ends, and the next begins (R818). -/
def lcRowProgrammed (ok : Bool) (s : Chip) : Chip :=
  whenUp s 0 fun s =>
    match s.lcMove with
    | none => s
    | some m =>
      match lcNext s m.target with
      | none => lcEnd s m
      | some d =>
        let r := lcReached s d + 2
        let s := s.onHem d fun h => { h with
          rows := mapPut (fun _ => 0) h.rows r (lcPattern r), broken := if ok then h.broken else r :: h.broken }
        let s := if ok then s else raise s d 0x240 K.HEMPROG 0 r
        match lcNext s m.target with
        | none => lcEnd s m
        | some e => { s with lcMove := some { m with die := e } }

/-! ### Tamper (R821 to R824, R827, R846) -/

/-- Die 0's VCORE is present. -/
def vcorePresent (s : Chip) (d : Fin 4) : Bool := s.flag d Rf.PWR_RAIL_VCORE

/-- One more entry of the tamper log (R827). -/
def tamperEntry (s : Chip) (w1 w2 : Nat) : Chip :=
  let v := s.vbat
  let e : TamperEntry := { w0 := v.seconds, w1 := BitVec.ofNat 32 w1, w2 := BitVec.ofNat 32 w2, w3 := v.seq }
  let full := decide (16 ≤ v.log.length)
  { s with vbat := { v with log := e :: v.log.take 15, seq := v.seq + 1,
                            ovf := if full then min 255 (v.ovf + 1) else v.ovf } }

/-- A source trips on die `d` (R823, R824, R846). -/
def tamperTrips (s : Chip) (d : Fin 4) (src : Nat) : Chip :=
  let off := s.vbat.vaonAbsent
  let wipes := bit (s.d 0).hem.control 17
  let loading := cfgLoading s
  let present := !off && vcorePresent s 0
  let w2 := 2 ^ src + d.val * 2 ^ 4 + b2n present * 2 ^ 8 + b2n wipes * 2 ^ 9 + b2n loading * 2 ^ 10
  let s := s.setFld d Rf.TAMPER_STAT_TRIPPED (setBit (s.fld d Rf.TAMPER_STAT_TRIPPED) src)
  let s := if off then s else wipeLining s fun e => if e = d then 1 else 2
  let s := if wipes then zeroBbkey s else s
  let s := tamperEntry s (if present then (s.now 0).toNat else 0) w2
  if off then { s with vbat := { s.vbat with offEvent := true } }.setFld 0 Rf.TAMPER_STAT_OFFTRIP 1
  else if alive s then raise s d 0x242 K.TAMPER 0 w2
  else s

/-- HELD of every die (R823). -/
def setHeld (s : Chip) : Chip :=
  let held := dies.any fun e => Nat.land (s.fld e Rf.TAMPER_EN_EN) (s.fld e Rf.TAMPER_STAT_ACTIVE) != 0
  overAll (fun s d => s.setFld d Rf.TAMPER_STAT_HELD (b2n held)) s dies

/-- The condition of a source begins on die `d` (R821, R823): TAMPER_N low for `ns` ns. DEDUCED, log 181. -/
def tamperTrip (d : Fin 4) (src ns : Nat) (s : Chip) : Chip :=
  let watched := if src = 0 then d == 0 else !s.vbat.vaonAbsent && !(s.d d).stopped
  let open_ := src = 0 ∧ 2000 < ns ∧ ns < 10000
  let counts := src ≠ 0 ∨ 10000 ≤ ns ∨ (open_ ∧ Config.freeBool s.free)
  let s := if open_ then s.took else s
  if !watched || !decide counts || bit (s.fld d Rf.TAMPER_STAT_ACTIVE) src then s
  else
    let s := s.setFld d Rf.TAMPER_STAT_ACTIVE (setBit (s.fld d Rf.TAMPER_STAT_ACTIVE) src)
    let s := if bit (s.fld d Rf.TAMPER_EN_EN) src then tamperTrips s d src else s
    setHeld s

/-- TAMPER_CONDITION_END (R823). -/
def tamperEnds (d : Fin 4) (src : Nat) (s : Chip) : Chip :=
  setHeld (s.setFld d Rf.TAMPER_STAT_ACTIVE (clrBit (s.fld d Rf.TAMPER_STAT_ACTIVE) src))

/-- TAMPER_EN_WRITE (R822, R836): bits can be set but not cleared; bit 0 exists on die 0. -/
def tamperEn (t : Fin 256) (d : Fin 4) (v : Word) (s : Chip) : Chip :=
  whenSuper s d t Rf.TAMPER_EN_EN fun s =>
    let m := if d = 0 then getBits v 0 4 else getBits v 0 4 / 2 * 2
    setHeld (s.setFld d Rf.TAMPER_EN_EN (Nat.lor (s.fld d Rf.TAMPER_EN_EN) m))

/-- BBKEY_COMMIT (R826). -/
def bbkeyCommit (t : Fin 256) (s : Chip) : Chip :=
  whenSuper s 0 t Rf.TAMPER_KEYCTL_COMMIT fun s =>
    if s.vbat.keyValid || (s.d 0).hem.lc == 4 then refusedWrite s 0 t Rf.TAMPER_KEYCTL_COMMIT
    else { s with vbat := { s.vbat with keyValid := true } }.setFld 0 Rf.TAMPER_KEYCTL_KEYVALID 1

/-- A word of the battery-backed key is written (R826). -/
def bbkeyWord (s : Chip) (t : Fin 256) (n : Nat) (v : Word) : Chip :=
  if (s.d 0).hem.lc == 4 then refusedWrite s 0 t (Rf.TAMPER_BBKEY_KEY.at n)
  else
    let k := s.vbat.key.toNat
    let old := k / 2 ^ (32 * n) % 2 ^ 32
    { s with vbat := { s.vbat with key := BitVec.ofNat 256 (k - old * 2 ^ (32 * n) + v.toNat * 2 ^ (32 * n)) } }

/-- BBKEY_ERASE (R826). -/
def bbkeyErase (t : Fin 256) (s : Chip) : Chip :=
  whenSuper s 0 t Rf.TAMPER_KEYCTL_ERASE fun s =>
    if (s.d 0).hem.lc == 4 then refusedWrite s 0 t Rf.TAMPER_KEYCTL_ERASE else zeroBbkey s

/-- TAMPER_LOG_CLEAR (R836): acts only in DEVELOP. -/
def tamperLogClear (t : Fin 256) (s : Chip) : Chip :=
  whenSuper s 0 t Rf.TAMPER_LOG_CLR_CLR fun s =>
    if (s.d 0).hem.lc == 1 then { s with vbat := { s.vbat with log := [], ovf := 0 } }
    else refusedWrite s 0 t Rf.TAMPER_LOG_CLR_CLR

/-- Word `w` of entry `i` of the tamper log, 0 the newest. -/
def tamperLogWord (s : Chip) (i w : Nat) : Word :=
  match (s.vbat.log.drop i).head? with
  | some e => if w = 0 then e.w0 else if w = 1 then e.w1 else if w = 2 then e.w2 else e.w3
  | none => 0

/-! ### The watchdog (R828 to R834, R847) -/

/-- Change die `d`'s watchdog. -/
def Chip.onWdog (s : Chip) (d : Fin 4) (f : WdogSt → WdogSt) : Chip := s.upd d fun x => { x with wdog := f x.wdog }

/-- The delivered window fraction of die `d`. -/
def wdogF (s : Chip) (d : Fin 4) : Nat := (s.d d).hem.control % 16

/-- The count at which the window opens, in µs (R830). -/
def wdogOpen (s : Chip) (d : Fin 4) : Nat := wdogF s d * (s.d d).wdog.period * 1000 / 16

/-- The count in µs. -/
def wdogCount (s : Chip) (d : Fin 4) : Nat := (s.d d).wdog.count / 1000

/-- PERIOD × 1,000 of the period in force. -/
def wdogFull (s : Chip) (d : Fin 4) : Nat := (s.d d).wdog.period * 1000

/-- Some Yoke or cluster is halted (R834, R864). -/
def anyHalt (s : Chip) : Bool :=
  dies.any fun d => (s.d d).yoke.halted || (s.d d).clusters.any fun e => e.2.st == .halted

/-- The watchdogs are paused (R834). -/
def wdogPaused (s : Chip) : Bool := (s.d 0).hem.lc == 1 && bit (s.d 0).hem.control 16 && anyHalt s

/-- The window of die `d` is open. -/
def wdogIsOpen (s : Chip) (d : Fin 4) : Bool :=
  (s.d d).wdog.running && decide (wdogOpen s d ≤ wdogCount s d) && decide (wdogCount s d < wdogFull s d)

/-- PERIOD as written takes effect, and the count returns to 0 (R828, R829). -/
def wdogReload (s : Chip) (d : Fin 4) : Chip :=
  s.onWdog d fun w => { w with count := 0, period := max 1 (s.fld d Rf.WDOG_PERIOD_MS) }

/-- Start die `d`'s watchdog (R829). -/
def wdogStart (s : Chip) (d : Fin 4) : Chip :=
  if (s.d d).wdog.running then s
  else ((wdogReload s d).onWdog d fun w => { w with running := true }).setFld d Rf.WDOG_STAT_RUNNING 1

/-- Device expiry found at die `d` (R832, R833, R847): `early` with `host` when the host sequence was early. -/
def wdogExpiry (s : Chip) (d : Fin 4) (early host : Bool) : Chip :=
  let pay := d.val + b2n early * 4 + b2n (early && host) * 8
  let s := if s.wdout.isSome then s else { s with wdout := some (max 1 (s.fld 0 Rf.WDOG_PULSE_MS) * 1000000) }
  if bit (s.d 0).hem.control 15 then
    let s := raise s d 0x241 K.WDEXPIRE 0 pay
    overAll (fun s e => s.onWdog e fun w => { w with count := 0 }) s dies
  else fatalStop s d 0x241 K.WDEXPIRE pay fun x => { x with wdog := true }

/-- A service of die `d`'s watchdog by the host or by the Yoke falls into the µs of an accepted one by the other: the two
make one service (R840). DEDUCED, log 176. -/
def wdogJoins (s : Chip) (d : Fin 4) (host : Bool) : Bool := (s.d d).wdog.byHost == some (!host) && wdogCount s d == 0

/-- An accepted service of die `d`'s watchdog; the second of two that make one service is not counted. -/
def wdogServe (s : Chip) (d : Fin 4) (host : Bool) : Chip :=
  if wdogJoins s d host then wdogReload s d
  else ((wdogReload s d).onWdog d fun w => { w with byHost := some host }).addFld d Rf.WDOG_SVCS_SVCS 1

/-- A service at die `d`'s count is early (R830). -/
def wdogEarly (s : Chip) (d : Fin 4) (host : Bool) : Bool :=
  !wdogJoins s d host && decide (wdogCount s d < wdogOpen s d)

/-- SVC WDOG on die `d` (R831, R837, R838, R840). -/
def svcWdog (s : Chip) (d : Fin 4) (strict : Bool) : Chip :=
  if !(s.d d).wdog.running then s
  else if wdogIsOpen s d then wdogServe s d false
  else if strict && wdogEarly s d false then wdogExpiry s d true false
  else s

/-- The second word of the host sequence: one strict service of every die's watchdog (R831, R840). A stopped die's
watchdog counts no more and is not judged (R697). -/
def hostService (s : Chip) : Chip :=
  let run := dies.filter fun d => (s.d d).wdog.running && !(s.d d).stopped
  match run.find? fun d => wdogEarly s d true with
  | some d => wdogExpiry s d true true
  | none => overAll (fun s d => if wdogIsOpen s d then wdogServe s d true else s) s run

/-- A write to WDOG_SVC of tenant page 0 (R831). -/
def wdogSvcWrite (s : Chip) (v : Word) : Chip :=
  if s.hostSvc then
    if v = 0xA5E8 then hostService { s with hostSvc := false }
    else
      raise ({ s with hostSvc := false }.addFld 0 Rf.WDOG_BADSVC_BAD 1) 0 0x241 K.WDBADSVC 0 0
  else if v = 0x5A17 then { s with hostSvc := true }
  else raise (s.addFld 0 Rf.WDOG_BADSVC_BAD 1) 0 0x241 K.WDBADSVC 0 0

/-- Die `d`'s watchdog has counted to PERIOD × 1,000 (R832, R838). -/
def wdogDue (s : Chip) (d : Fin 4) : Bool := (s.d d).wdog.running && decide (wdogFull s d ≤ wdogCount s d)

/-- The lowest-numbered die whose count has run out, `d` when none has (R847). -/
def wdogFirst (s : Chip) (d : Fin 4) : Fin 4 := (dies.find? fun e => wdogDue s e).getD d

/-- WDOG_EXPIRE: die `d`'s count has reached PERIOD × 1,000 (R832, R838, R847). DEDUCED, log 177. -/
def wdogExpire (d : Fin 4) (s : Chip) : Chip :=
  if alive s && wdogDue s d then wdogExpiry s (wdogFirst s d) false false else s

/-- WDOG_WINDOW_OPEN: STAT shows the window of R830 once the count has reached O. -/
def wdogWindowOpen (d : Fin 4) (s : Chip) : Chip :=
  whenUp s d fun s => s.setFld d Rf.WDOG_STAT_OPEN (b2n (wdogIsOpen s d))

/-- WDOG_ENABLE (R829, R836). -/
def wdogEnable (t : Fin 256) (d : Fin 4) (v : Word) (s : Chip) : Chip :=
  whenSuper s d t Rf.WDOG_CTL_EN fun s => if bit v.toNat 0 then (wdogStart s d).setFld d Rf.WDOG_CTL_EN 1 else s

/-- One more tq of the watchdog oscillators (R828, R834). DESIGN CHOICE, log 178; DEDUCED, log 179. -/
def wdogTq (s : Chip) : Chip :=
  let hold := wdogPaused s
  if !alive s then s
  else { s with die := s.die.map fun x =>
    if x.wdog.running && !hold && !x.stopped then { x with wdog := { x.wdog with count := x.wdog.count + 1 } } else x }

/-! ### Meanings -/

/-- LIFECYCLE_TRANSITION. -/
def execLifecycleTransition (t : Fin 256) (v : Word) (s : State) : Out :=
  act s fun s => lcRequest t v s
/-- LC_ROW_PROGRAMMED. -/
def execLcRowProgrammed (ok : Bool) (s : State) : Out :=
  act s fun s => lcRowProgrammed ok s
/-- HEM_PROGRAM. -/
def execHemProgram (t : Fin 256) (d : Fin 4) (s : State) : Out :=
  act s fun s => hemProgram t d s
/-- HEM_PROGRAM_DONE. -/
def execHemProgramDone (d : Fin 4) (ok : Bool) (s : State) : Out :=
  act s fun s => hemProgramDone d ok s
/-- TAMPER_TRIP. -/
def execTamperTrip (d : Fin 4) (src : Fin 4) (ns : Nat) (s : State) : Out :=
  act s fun s => tamperTrip d src.val ns s
/-- TAMPER_CONDITION_END. -/
def execTamperConditionEnd (d : Fin 4) (src : Fin 4) (s : State) : Out :=
  act s fun s => tamperEnds d src.val s
/-- TAMPER_EN_WRITE. -/
def execTamperEnWrite (t : Fin 256) (d : Fin 4) (v : Word) (s : State) : Out :=
  act s fun s => tamperEn t d v s
/-- BBKEY_COMMIT. -/
def execBbkeyCommit (t : Fin 256) (s : State) : Out :=
  act s fun s => bbkeyCommit t s
/-- BBKEY_ERASE. -/
def execBbkeyErase (t : Fin 256) (s : State) : Out :=
  act s fun s => bbkeyErase t s
/-- TAMPER_LOG_CLEAR. -/
def execTamperLogClear (t : Fin 256) (s : State) : Out :=
  act s fun s => tamperLogClear t s
/-- WDOG_ENABLE. -/
def execWdogEnable (t : Fin 256) (d : Fin 4) (v : Word) (s : State) : Out :=
  act s fun s => wdogEnable t d v s
/-- WDOG_WINDOW_OPEN. -/
def execWdogWindowOpen (d : Fin 4) (s : State) : Out :=
  act s fun s => wdogWindowOpen d s
/-- WDOG_EXPIRE. -/
def execWdogExpire (d : Fin 4) (s : State) : Out :=
  act s fun s => wdogExpire d s

end Sys2Proof.Machine
end

