-- ==== Sys2Proof/Machine/Seam.lean ====
section
/-! DEFINITION. The Seam: links, retries, failure and rerouting, die stops, and tick groups (R689 to R725), and the
meanings of their commands. -/

namespace Sys2Proof.Machine

/-! ### The ring (R689) -/

/-- The next die in the order 0, 1, 3, 2, 0. -/
def nextDie : Fin 4 → Fin 4
  | 0 => 1
  | 1 => 3
  | 2 => 0
  | 3 => 2

/-- The previous die in that order. -/
def prevDie : Fin 4 → Fin 4
  | 0 => 2
  | 1 => 0
  | 2 => 3
  | 3 => 1

/-- The die that link `n` of die `d` leads to. -/
def peerDie (d : Fin 4) (n : Nat) : Fin 4 := if n = 0 then nextDie d else prevDie d

/-- The event source of a link (R689, R704). -/
def linkSrc (n : Nat) : Nat := if n = 0 then 0x038 else if n = 1 then 0x039 else if n = 2 then 0x030 else 0x031

/-- Link end `n` of die `d`. -/
def Chip.link (s : Chip) (d : Fin 4) (n : Nat) : LinkSt := mapGet (fun _ => {}) (s.d d).links n

/-- Replace a link end. -/
def Chip.setLink (s : Chip) (d : Fin 4) (n : Nat) (x : LinkSt) : Chip :=
  s.upd d fun y => { y with links := mapPut (fun _ => {}) y.links n x }

/-- A group is enabled (R704). -/
def groupOn (s : Chip) : Bool := s.flag 0 Rf.SEAM_GRP_CTL_EN && decide (0 < s.fld 0 Rf.SEAM_GRP_CTL_SIZE_M1)

/-- Die `d` has link `n`: links 2 and 3 are die 0's group links. -/
def hasLink (s : Chip) (d : Fin 4) (n : Nat) : Bool := decide (n < 2) || (d == 0 && groupOn s)

/-- The link between die `d` and its peer is not failed: a power-up training that still runs has not failed (R691). -/
def linkJoins (s : Chip) (d : Fin 4) (n : Nat) : Bool :=
  let x := s.link d n
  let y := s.link (peerDie d n) (1 - n)
  (x.st == 0 || (x.st == 1 && !x.again)) && (y.st == 0 || (y.st == 1 && !y.again)) && !(s.d d).stopped &&
    !(s.d (peerDie d n)).stopped

/-- The link carries traffic (R696). -/
def linkCarries (s : Chip) (d : Fin 4) (n : Nat) : Bool :=
  let x := s.link d n
  let y := s.link (peerDie d n) (1 - n)
  x.st == 0 && y.st == 0 && x.hold == 0 && y.hold == 0 && !(s.d d).stopped && !(s.d (peerDie d n)).stopped

/-- The hops from die `d` to die `e` over links `n` that pass `ok`, within `fuel` hops. -/
def hopsBy (ok : Fin 4 → Bool) (n : Nat) : Nat → Fin 4 → Fin 4 → Option Nat
  | 0, _, _ => none
  | fuel + 1, d, e =>
    if !ok d then none
    else if peerDie d n = e then some 1
    else (hopsBy ok n fuel (peerDie d n) e).map (· + 1)

/-- Both ways from die `d` to die `e`: by link 0 and by link 1. -/
def ways (s : Chip) (d e : Fin 4) : Option Nat × Option Nat :=
  (hopsBy (fun x => linkCarries s x 0) 0 3 d e, hopsBy (fun x => linkCarries s x 1) 1 3 d e)

/-- SEAM.ROUTE for die `e` (R708, R725): 0 this die, 1 link 0, 2 link 1, 3 unreachable.
DESIGN CHOICE, log 149. -/
def routeTo (s : Chip) (d e : Fin 4) : Nat :=
  if d = e then 0
  else match ways s d e with
    | (some a, some b) => if b < a then 2 else 1
    | (some _, none) => 1
    | (none, some _) => 2
    | (none, none) => 3

/-- A message from die `d` reaches die `e`. -/
def reaches (s : Chip) (d e : Fin 4) : Bool := up s d && up s e && routeTo s d e != 3

/-- SEAM.ROUTE of die `d`. -/
def routeWord (s : Chip) (d : Fin 4) : Nat :=
  routeTo s d 0 + 4 * routeTo s d 1 + 16 * routeTo s d 2 + 64 * routeTo s d 3

/-! ### Die stop (R697) -/

/-- The part of the ring that holds die 0. -/
def inPart (s : Chip) (e : Fin 4) : Bool :=
  e == 0 || (hopsBy (fun x => linkJoins s x 0) 0 3 0 e).isSome || (hopsBy (fun x => linkJoins s x 1) 1 3 0 e).isSome

/-- Die `d` makes a die stop: its clusters and Yoke stop, and messages for it are discarded. -/
def dieStop (s : Chip) (d : Fin 4) : Chip :=
  s.upd d fun x =>
    { x with
      stopped := true
      clusters := []
      yoke := { x.yoke with run := false, wait := .none, mailFly := [] }
      fly := []
      heldRecs := []
      stimHeld := []
      marks := []
      tick := { x.tick with phase := .idle } }

/-- After a link failed, the dies cut off from die 0 stop, and SEAMPART names them (R697, R716, R722). -/
def splitCheck (s : Chip) : Chip :=
  let cut := dies.filter fun d => !inPart s d && !(s.d d).stopped
  if cut.isEmpty then s
  else
    let s' := overAll dieStop s cut
    finishResolve (raise s' 0 0x038 K.SEAMPART 0 ((cut.map fun d => 2 ^ d.val).foldl (· + ·) 0))

/-! ### Retry and failure (R693, R694, R720, R721) -/

/-- The window of R694. -/
def inWindow (s : Chip) (d : Fin 4) (t : Time) : Bool := decide ((s.now d - t).toNat < 1000000)

/-- Retries of a link end in the last 1,000,000 tq. DEDUCED, log 151. -/
def recentRetries (s : Chip) (d : Fin 4) (x : LinkSt) : List Time := x.retries.filter (inWindow s d)

/-- The ends of the link at end `n` of die `d`: both dies' ends, or the one end of a group link. -/
def linkEnds (d : Fin 4) (n : Nat) : List (Fin 4 × Nat) := if n < 2 then [(d, n), (peerDie d n, 1 - n)] else [(d, n)]

/-- One end is FAILED, and says so (R721). -/
def endFails (s : Chip) (cause : Nat) (e : Fin 4 × Nat) : Chip :=
  if !up s e.1 then s
  else
    let s := s.setLink e.1 e.2 { st := 2, lseq := (s.link e.1 e.2).lseq, retries := (s.link e.1 e.2).retries }
    raise s e.1 (linkSrc e.2) K.SEAMFAIL 0 cause

/-- A member leaves the group with state `v`: it keeps ticking with its setting and numbering (R707, R710), so RUN is set
when a tick runs. -/
def leaveGroup (s : Chip) (v : Nat) : Chip :=
  let s := if ticking s 0 && s.fld 0 Rf.SEAM_GRP_CTL_PKG != 0 then s.setFld 0 Rf.TIME_TICK_CTL_RUN 1 else s
  let s := (s.setFld 0 Rf.SEAM_GRP_STAT_STATE v).setFld 0 Rf.SEAM_GRP_STAT_MEMBERS 0
  s.setFld 0 Rf.SEAM_GRP_STAT_UNCERTAIN 0

/-- A membership ends: no group link is left to reach package 0, or the other packages (R707).
DESIGN CHOICE, log 156. -/
def groupLost (s : Chip) : Chip :=
  let own := s.fld 0 Rf.SEAM_GRP_CTL_PKG
  if (s.link 0 2).st = 2 ∧ (s.link 0 3).st = 2 then
    if own = 0 then
      let gone := (range 1 7).filter fun p => bit (s.fld 0 Rf.SEAM_GRP_STAT_MEMBERS) p
      let s' := overAll (fun s p => raise s 0 0x038 K.GRPDROP 0 p) s gone
      s'.setFld 0 Rf.SEAM_GRP_STAT_MEMBERS (s.fld 0 Rf.SEAM_GRP_STAT_MEMBERS % 2)
    else if s.fld 0 Rf.SEAM_GRP_STAT_STATE = 2 then
      raise (leaveGroup s 3) 0 0x038 K.GRPDROP 0
        (own + toBits 16 (ofBits 8 (s.fld 0 Rf.SEAM_GRP_STAT_SKEW)) * 2 ^ 16)
    else s
  else s

/-- The link at end `n` of die `d` is declared failed (R694, R695). DESIGN CHOICE, log 150. -/
def linkFails (s : Chip) (d : Fin 4) (n cause : Nat) : Chip :=
  let s' := overAll (fun s e => endFails s cause e) s (linkEnds d n)
  if n < 2 then splitCheck s' else groupLost s'

/-- A retry sequence of `k` retries ends at the receiving end (R720). -/
def retryEnds (s : Chip) (d : Fin 4) (n k : Nat) : Chip :=
  if k = 0 then s
  else
    let s := s.addFld d (Rf.SEAM_RETRY_RETRIES.at n) k
    raise s d (linkSrc n) K.SEAMRETRY 0 (k + (s.link d n).expect.toNat * 2 ^ 8)

/-- The flit that arrives at end `n` of die `d` has left the other end's replay buffer's tail: a new flit takes a place. -/
def flitSent (s : Chip) (d : Fin 4) (n : Nat) : Chip :=
  if n < 2 ∧ (s.link (peerDie d n) (1 - n)).lseq = (s.link d n).expect then
    let y := s.link (peerDie d n) (1 - n)
    s.setLink (peerDie d n) (1 - n) { y with lseq := y.lseq + 1, unacked := y.unacked + 1, inject := false }
  else s

/-- A new flit cannot be sent to end `n` of die `d`: the sender has 64 flits unacknowledged (R693). -/
def senderStalls (s : Chip) (d : Fin 4) (n : Nat) : Bool :=
  decide (n < 2) && (s.link (peerDie d n) (1 - n)).lseq == (s.link d n).expect &&
    decide (64 ≤ (s.link (peerDie d n) (1 - n)).unacked)

/-- The first failure of the flit lies more than 2 µs back (R694, R713). -/
def retryLate (s : Chip) (d : Fin 4) (n : Nat) : Bool :=
  decide (0 < (s.link d n).fails) && decide (2000 < (s.now d - (s.link d n).first).toNat)

/-- Link end `n` of die `d` receives flits now. -/
def linkHears (s : Chip) (d : Fin 4) (n : Nat) : Bool :=
  up s d && hasLink s d n && (s.link d n).st == 0 &&
    (decide (2 ≤ n) || (up s (peerDie d n) && (s.link (peerDie d n) (1 - n)).st == 0))

/-- A flit fails its CRC at end `n` of die `d` (R693, R694, R711, R712). -/
def crcFail (s : Chip) (d : Fin 4) (n : Nat) : Chip :=
  let s := flitSent s d n
  let x := s.link d n
  let now := s.now d
  let k := x.fails + 1
  if 9 ≤ k then linkFails (retryEnds s d n 8) d n 0
  else
    let s := s.setLink d n { x with fails := k, first := if x.fails = 0 then now else x.first }
    let s := overAll (fun s e => s.setLink e.1 e.2 { s.link e.1 e.2 with
      retries := s.now e.1 :: recentRetries s e.1 (s.link e.1 e.2) }) s (linkEnds d n)
    if 16 < (recentRetries s d (s.link d n)).length then linkFails (retryEnds s d n k) d n 2 else s

/-- FLIT_CRC_FAIL. -/
def flitCrcFail (d : Fin 4) (n : Nat) (s : Chip) : Chip :=
  if !linkHears s d n || senderStalls s d n then s
  else if retryLate s d n then linkFails (retryEnds s d n (s.link d n).fails) d n 1
  else crcFail s d n

/-- LINK_RETRY_TIMEOUT (R694, R713). -/
def linkRetryTimeout (d : Fin 4) (n : Nat) (s : Chip) : Chip :=
  if linkHears s d n && retryLate s d n then linkFails (retryEnds s d n (s.link d n).fails) d n 1 else s

/-! ### Membership (R704 to R707, R717, R724) -/

/-- The package is a member that follows package 0 (R706). -/
def follows (s : Chip) : Bool := s.fld 0 Rf.SEAM_GRP_STAT_STATE == 2 && s.fld 0 Rf.SEAM_GRP_CTL_PKG != 0

/-- A membership message arrives (R705 to R707, R724). DESIGN CHOICE, log 157. -/
def groupMsg (s : Chip) (m : GroupMsg) : Chip :=
  let own := s.fld 0 Rf.SEAM_GRP_CTL_PKG
  match m with
  | .accept time =>
    if own ≠ 0 ∧ s.fld 0 Rf.SEAM_GRP_STAT_STATE = 1 then
      let s := (s.setFld 0 Rf.SEAM_GRP_STAT_STATE 2).setFld 0 Rf.SEAM_GRP_STAT_RESULT 1
      let s := s.setFld 0 Rf.SEAM_GRP_STAT_MEMBERS (2 ^ own + 1)
      let s := s.upd 0 fun x => { x with tb := { x.tb with now := time, owe := 0 } }
      raise s 0 0x038 K.GRPJOIN 0 own
    else s
  | .refuse r =>
    if own ≠ 0 ∧ s.fld 0 Rf.SEAM_GRP_STAT_STATE = 1 then
      let s := (s.setFld 0 Rf.SEAM_GRP_STAT_STATE 0).setFld 0 Rf.SEAM_GRP_STAT_RESULT r.val
      raise s 0 0x038 K.GRPREF 0 (own + r.val * 2 ^ 4)
    else s
  | .leave p =>
    if own = 0 ∧ p ≠ 0 then
      s.setFld 0 Rf.SEAM_GRP_STAT_MEMBERS (clrBit (s.fld 0 Rf.SEAM_GRP_STAT_MEMBERS) p.val)
    else s
  | .drop skew =>
    if follows s then raise (leaveGroup s 3) 0 0x038 K.GRPDROP 0 (own + toBits 16 (clampI (-32768) 32767 skew) * 2 ^ 16)
    else s

/-- JOIN_REQUEST (R706, R717): package 0 judges the request of package `p`. The reasons are tried in the order of R706.
DESIGN CHOICE, log 154. -/
def joinRequest (p : Fin 8) (started : Bool) (image : BitVec 64) (size : Fin 8) (s : Chip) : Chip :=
  whenUp s 0 fun s =>
    if !groupOn s || s.fld 0 Rf.SEAM_GRP_CTL_PKG != 0 || p == 0 then s
    else
      let members := s.fld 0 Rf.SEAM_GRP_STAT_MEMBERS
      let r :=
        if started then 6
        else if image.toNat ≠ s.fld64 0 Rf.CFG_IMAGEID_LO_ID Rf.CFG_IMAGEID_HI_ID then 2
        else if bit members p.val then 3
        else if size.val ≠ s.fld 0 Rf.SEAM_GRP_CTL_SIZE_M1 then 4
        else 1
      if r = 1 then
        raise (s.setFld 0 Rf.SEAM_GRP_STAT_MEMBERS (setBit members p.val)) 0 0x038 K.GRPJOIN 0 p.val
      else raise s 0 0x038 K.GRPREF 0 (p.val + r * 2 ^ 4)

/-- GRP_CTL.EN is written (R704): the Seam claims lanes 0 and 1 of die 0 with the settings of profile 7, or releases
them. DEDUCED, log 155. -/
def groupEnable (s : Chip) (v : Word) : Chip :=
  let was := groupOn s
  let s := s.setFld 0 Rf.SEAM_GRP_CTL_PKG (getBits v 0 3)
  let s := s.setFld 0 Rf.SEAM_GRP_CTL_SIZE_M1 (getBits v 4 3)
  let s := s.setFld 0 Rf.SEAM_GRP_CTL_EN (getBits v 8 1)
  let on := groupOn s
  let own := s.fld 0 Rf.SEAM_GRP_CTL_PKG
  if on && !was then
    let s := overAll (fun s k =>
      let s := s.setFld 0 (Rf.LANE_STAT_SEAM.at k) 1
      let s := match profileSet 7 with
        | some (r, n, fr, dv, pam, pcs) =>
          s.setLane 0 k { s.lane 0 k with
            set := { refsel := r, n := n, frac := fr, d := dv, pam4 := pam, mode := BitVec.ofNat 32 pcs } }
        | none => s
      laneAsk s 0 k 0) s [0, 1]
    let s := (s.setLink 0 2 {}).setLink 0 3 {}
    if own = 0 then
      (s.setFld 0 Rf.SEAM_GRP_STAT_STATE 2).setFld 0 Rf.SEAM_GRP_STAT_MEMBERS 1
    else s
  else if was && !on then
    let s := overAll (fun s k => s.setFld 0 (Rf.LANE_STAT_SEAM.at k) 0) s [0, 1]
    leaveGroup ((s.setLink 0 2 {}).setLink 0 3 {}) 0
  else s

/-- JOIN is written (R706): the package asks package 0; without a usable group link the answer is 5. -/
def groupJoin (s : Chip) : Chip :=
  if !groupOn s || s.fld 0 Rf.SEAM_GRP_CTL_PKG == 0 || s.fld 0 Rf.SEAM_GRP_STAT_STATE == 2 then s
  else if (s.link 0 2).st ≠ 0 ∧ (s.link 0 3).st ≠ 0 then s.setFld 0 Rf.SEAM_GRP_STAT_RESULT 5
  else s.setFld 0 Rf.SEAM_GRP_STAT_STATE 1

/-- LEAVE is written (R710). -/
def groupLeave (s : Chip) : Chip := if follows s then leaveGroup s 0 else s

/-! ### Training (R691, R696, R701, R719, R723) -/

/-- The dies that disagree with die 0 on lifecycle, or that it cannot reach. -/
def lcDisagrees (s : Chip) : Nat :=
  ((dies.filter fun d => (s.d d).hem.lc != (s.d 0).hem.lc || routeTo s 0 d == 3).map fun d => 2 ^ d.val).foldl (· + ·) 0

/-- At the end of power-up training the lifecycles are compared (R701, R723): on a difference configuration does not
start. -/
def agreeCheck (s : Chip) : Chip :=
  if s.cfg.checked || dies.any fun d => (s.link d 0).st == 1 || (s.link d 1).st == 1 then s
  else
    let s := { s with cfg := { s.cfg with checked := true } }
    let m := lcDisagrees s
    if m = 0 then s
    else raise (s.setFld 0 Rf.CFG_STAT_STATE 4) 0 0x230 K.DIEMISM 0 (m + 16)

/-- LINK_TRAINING_DONE. -/
def linkTrainingDone (d : Fin 4) (n : Nat) (ok : Bool) (lat : BitVec 16) (s : Chip) : Chip :=
  whenUp s d fun s =>
    let x := s.link d n
    if !hasLink s d n || x.st != 1 then s
    else if ok then
      let s := (s.setFld d (Rf.SEAM_LAT_LAT.at n) lat.toNat).setLink d n
        { x with st := 0, again := false, hold := if x.again && ticking s d then 1 else 0 }
      agreeCheck (if x.again then raise s d (linkSrc n) K.SEAMUP 0 0 else s)
    else if x.again then overAll (fun s e => s.setLink e.1 e.2 { s.link e.1 e.2 with st := 2 }) s (linkEnds d n)
    else
      let s := linkFails s d n 3
      agreeCheck s

/-- RETRAIN is written (R696, R719): both ends of a failed link train again; a link to a stopped die stays failed.
DEDUCED, log 152. -/
def linkRetrain (s : Chip) (d : Fin 4) (n : Nat) : Chip :=
  if !hasLink s d n || (s.link d n).st != 2 || (linkEnds d n).any fun e => !up s e.1 then s
  else overAll (fun s e => s.setLink e.1 e.2 { s.link e.1 e.2 with st := 1, again := true }) s (linkEnds d n)

/-- INJECT is written (R710): the next flit sent on link `n` has a bad CRC. -/
def linkInject (s : Chip) (d : Fin 4) (n : Nat) : Chip :=
  if hasLink s d n then s.setLink d n { s.link d n with inject := true } else s

/-- At a tick start a retrained link carries traffic again, once the long way is acknowledged (R696). -/
def linksTickStart (s : Chip) (d : Fin 4) : Chip :=
  overAll (fun s n =>
    let x := s.link d n
    if x.hold = 1 then s.setLink d n { x with hold := if n < 2 ∧ 0 < (s.link d (1 - n)).unacked then 2 else 0 } else s)
    s [0, 1, 2, 3]

/-! ### Flits (R692, R693) -/

/-- FLIT_RECEIVE: a flit passes its CRC; one that INJECT corrupted does not. DEDUCED, log 148. -/
def flitReceive (d : Fin 4) (n : Nat) (m : Option GroupMsg) (s : Chip) : Chip :=
  if !linkHears s d n || senderStalls s d n then s
  else if retryLate s d n then linkFails (retryEnds s d n (s.link d n).fails) d n 1
  else if n < 2 ∧ (s.link (peerDie d n) (1 - n)).inject then
    let y := s.link (peerDie d n) (1 - n)
    crcFail (s.setLink (peerDie d n) (1 - n) { y with inject := false }) d n
  else
    let s := flitSent s d n
    let x := s.link d n
    let s := retryEnds s d n x.fails
    let s := (s.setLink d n { x with expect := x.expect + 1, fails := 0 }).addFld d (Rf.SEAM_FLITS_FLITS.at n) 1
    match m with
    | some m => if 2 ≤ n then groupMsg s m else s
    | none => s

/-- FLIT_ACK: LACK releases the flits it covers, and NAK asks for a resend (R693, R696). -/
def flitAck (d : Fin 4) (n : Nat) (lack : BitVec 8) (nak : Bool) (s : Chip) : Chip :=
  if !linkHears s d n then s
  else
    let x := s.link d n
    let oldest := x.lseq - BitVec.ofNat 8 x.unacked
    let k := (lack + 1 - oldest).toNat
    let left := if k ≤ x.unacked then x.unacked - k else x.unacked
    let s := s.setLink d n { x with unacked := left, replay := nak && decide (0 < left) }
    let o := s.link d (1 - n)
    if n < 2 ∧ left = 0 ∧ o.hold = 2 then s.setLink d (1 - n) { o with hold := 0 } else s

/-! ### Commands -/

/-- LINK_TRAINING_DONE. -/
def execLinkTrainingDone (d : Fin 4) (n : Fin 4) (ok : Bool) (lat : BitVec 16) (s : State) : Out :=
  act s fun s => linkTrainingDone d n.val ok lat s
/-- FLIT_RECEIVE. -/
def execFlitReceive (d : Fin 4) (n : Fin 4) (m : Option GroupMsg) (s : State) : Out :=
  act s fun s => flitReceive d n.val m s
/-- FLIT_CRC_FAIL. -/
def execFlitCrcFail (d : Fin 4) (n : Fin 4) (s : State) : Out :=
  act s fun s => flitCrcFail d n.val s
/-- FLIT_ACK. -/
def execFlitAck (d : Fin 4) (n : Fin 4) (lack : BitVec 8) (nak : Bool) (s : State) : Out :=
  act s fun s => flitAck d n.val lack nak s
/-- LINK_RETRY_TIMEOUT. -/
def execLinkRetryTimeout (d : Fin 4) (n : Fin 4) (s : State) : Out :=
  act s fun s => linkRetryTimeout d n.val s
/-- LINK_RETRAIN (R696, R709): accepted from the supervisor only. -/
def execLinkRetrain (t : Fin 256) (d : Fin 4) (n : Fin 4) (s : State) : Out :=
  act s fun s => whenSuper s d t (Rf.SEAM_LINK_CTL_RETRAIN.at n.val) fun s => linkRetrain s d n.val
/-- LINK_INJECT (R709, R710). -/
def execLinkInject (t : Fin 256) (d : Fin 4) (n : Fin 4) (s : State) : Out :=
  act s fun s => whenGranted s d t (Rf.SEAM_LINK_CTL_INJECT.at n.val) fun s => linkInject s d n.val
/-- GROUP_ENABLE (R704, R709). -/
def execGroupEnable (t : Fin 256) (v : Word) (s : State) : Out :=
  act s fun s => whenGranted s 0 t Rf.SEAM_GRP_CTL_EN fun s => groupEnable s v
/-- GROUP_JOIN (R706, R709): accepted from the supervisor only. -/
def execGroupJoin (t : Fin 256) (s : State) : Out :=
  act s fun s => whenSuper s 0 t Rf.SEAM_GRP_CTL_JOIN groupJoin
/-- JOIN_REQUEST. -/
def execJoinRequest (p : Fin 8) (started : Bool) (image : BitVec 64) (size : Fin 8) (s : State) : Out :=
  act s fun s => joinRequest p started image size s
/-- GROUP_LEAVE (R709, R710): accepted from the supervisor only. -/
def execGroupLeave (t : Fin 256) (s : State) : Out :=
  act s fun s => whenSuper s 0 t Rf.SEAM_GRP_CTL_LEAVE groupLeave

end Sys2Proof.Machine
end

