-- ==== Sys2Proof/Machine/Cfg.lean ====
section
/-! DEFINITION. Loading a configuration stream: the boot choice, the header, the chunk records, the words of CFG.DATA and
JTAG, failure and the second attempt (R726 to R735, R750 to R756, R785 to R788, R804), and the meanings of their commands.
The commands of the stream are in CfgCmds. -/

namespace Sys2Proof.Machine

/-- Change the load. -/
def Chip.onCfg (s : Chip) (f : CfgLoad → CfgLoad) : Chip := { s with cfg := f s.cfg }

/-- BOOTSEL as sampled (R726). -/
def bootsel (s : Chip) : Nat := s.fld 0 Rf.CFG_STAT_BOOTSEL

/-- A load begins from source `src`. -/
def beginLoad (s : Chip) (src : Nat) : Chip :=
  let s := (s.setFld 0 Rf.CFG_STAT_STATE 1).setFld 0 Rf.CFG_STAT_CAUSE 0
  let s := (s.setFld 0 Rf.CFG_POS_POS 0).setFld 0 Rf.CFG_STAT_KEYSEL 0
  let s := { s with cfg := { checked := s.cfg.checked, started := true, src := src } }
  { s with die := s.die.map fun x => { x with cfg := {} } }

/-! ### Clearing before another attempt (R751) -/

/-- The units whose registers R751 leaves: TIME, HEM, TAMPER, WDOG, PLACKET, ILK and LINING; CFG stays too, for the load
that follows reads its source from it. -/
def keptByClear (u : Nat) : Bool :=
  u == 0x19 || u == 0x13 || u == 0x1A || u == 0x15 || u == 0x16 || u == 0x09 || u == 0x14 || u == 0x11

/-- Registers that show what the hardware is at that time: SYS.DIEMAP, PWR.RAIL and VREQ, SEAM.LAT_n, HOST.PCI_ID and
HOST.LINK. -/
def shownByHardware (k : Nat) : Bool :=
  k == Rf.SYS_DIEMAP_DIES.key || k == Rf.PWR_RAIL_VCORE.key || k == Rf.PWR_VREQ_MV.key || k == Rf.HOST_PCI_ID_VENDOR.key ||
    k == Rf.HOST_LINK_UP.key || (k / 1048576 == 0x10 && decide (0x100 ≤ k % 1048576 ∧ k % 64 = 8))

/-- The state of one die as R751 clears it. -/
def clearDie (x : DieSt) : DieSt :=
  { x with
    regs := resetRegs (fun k => keptByClear (k / 1048576) || shownByHardware k) (fun r => r != .none) x.regs
    frames := []
    upsets := []
    bmem := []
    cst := []
    istore := []
    istZero := true
    spad := mapEach word0 (fun _ w => { w with written := false }) x.spad
    fifos := []
    cfg := {}
    plls := []
    nets := []
    lanes := []
    flows := []
    flowNext := []
    sfq := []
    pleat := {}
    ledger := {}
    baste := {}
    dram := { x.dram with merge := [], inForce := [], tokens := [], held := [] }
    caps := []
    moves := []
    moveQ := []
    insts := []
    latch := [] }

/-- The clearing of R751 on every die. DEDUCED, log 166. -/
def cfgClear (s : Chip) : Chip :=
  let s := { s with die := s.die.map clearDie, compat := 0, reservoir := 0, reservoirRem := 0, tenActive := [], pulses := [],
                    ps := {}, resolve := {} }
  overAll loadTrims s dies

/-! ### Boot flash (R726, R727, R785 to R788) -/

/-- A pointer record (R786). -/
structure BootRec where
  slot : Nat
  state : Nat
  seq : Nat
  trials : Nat
  deriving DecidableEq, Repr

/-- The number in bytes `o` to `o + n - 1`. -/
def field (bs : List Byte) (o n : Nat) : Nat := leNat ((bs.drop o).take n)

/-- CRC-32C of bytes. -/
def crc32c (bs : List Byte) : Nat := chkFinal 1 (chkBytes 1 (chkInit 1) bs)

/-- A pointer record read from flash; none when it is not valid. -/
def bootRec (bs : List Byte) : Option BootRec :=
  if bs.length = 64 ∧ field bs 0 4 = 0x5250525A ∧ field bs 4 2 = 1 ∧ field bs 6 1 ≤ 1 ∧ 1 ≤ field bs 7 1 ∧
      field bs 7 1 ≤ 3 ∧ field bs 12 1 ≤ 3 ∧ field bs 13 47 = 0 ∧ field bs 60 4 = crc32c (bs.take 60) then
    some { slot := field bs 6 1, state := field bs 7 1, seq := field bs 8 4, trials := field bs 12 1 }
  else none

/-- The newest valid record and its location (R787). -/
def newestRec (r0 r1 : Option BootRec) : Option (BootRec × Nat) :=
  match r0, r1 with
  | some a, some b => if a.seq < b.seq then some (b, 1) else some (a, 0)
  | some a, none => some (a, 0)
  | none, some b => some (b, 1)
  | none, none => none

/-- CFG_LOAD_START: the boot ROM chooses the slot and starts the load (R726, R727, R787, R788, R804). `xspi8` says whether
the flash has the profile table, and `wrOk` whether a record write works. -/
def cfgLoadStart (rec0 rec1 : List Byte) (xspi8 wrOk : Bool) (s : Chip) : Chip :=
  whenUp s 0 fun s =>
    if !s.cfg.checked || s.cfg.started || bootsel s != 0 || s.fld 0 Rf.CFG_STAT_STATE != 1 || !feature s 0 5 then s
    else
      let new := newestRec (bootRec rec0) (bootRec rec1)
      let r := match new with
        | some r => r.1
        | none => { slot := 0, state := 0, seq := 0, trials := 0 }
      let falls := r.state = 2 ∧ r.trials = 3
      let slot := if r.state = 1 ∨ falls then 1 - r.slot else r.slot
      let writes := r.state = 2
      let s := (s.setFld 0 Rf.CFG_BOOTREC_SLOT slot).setFld 0 Rf.CFG_BOOTREC_STATE r.state
      let s := s.setFld 0 Rf.CFG_BOOTREC_TRIALS (if r.state = 2 ∧ r.trials < 3 then r.trials + 1 else r.trials)
      let loc := match new with
        | some r => r.2
        | none => 0
      let s := s.setFld 0 Rf.CFG_BOOTREC_LOC loc
      let s := s.setFld 0 Rf.CFG_BOOTREC_WRFAIL (b2n (writes && !wrOk))
      let s := s.setFld 0 Rf.CFG_BOOTSEQ_SEQ (if decide writes && wrOk then r.seq + 1 else r.seq)
      let s := if falls then raise (s.setFld 0 Rf.CFG_BOOTREC_FELLBACK 1) 0 0x230 K.TRIALFALL 0 r.slot else s
      let s := (s.setFld 0 Rf.CFG_STAT_SLOT slot).setFld 0 Rf.CFG_STAT_XSPI8D (b2n xspi8)
      beginLoad s 0

/-- CFG_FALLBACK: the boot ROM tries the other slot once (R751, R752). -/
def cfgFallback (s : Chip) : Chip :=
  whenUp s 0 fun s =>
    if bootsel s != 0 || s.fld 0 Rf.CFG_STAT_STATE != 3 || s.flag 0 Rf.CFG_STAT_FALLBACK || s.cfg.src != 0 ||
        s.fld 0 Rf.CFG_STAT_CAUSE == 14 then s
    else
      let s := cfgClear s
      let s := (s.setFld 0 Rf.CFG_STAT_SLOT (1 - s.fld 0 Rf.CFG_STAT_SLOT)).setFld 0 Rf.CFG_STAT_FALLBACK 1
      beginLoad s 0

/-- CFG_LOAD: LOAD is written (R755, R756). -/
def cfgLoad (t : Fin 256) (v : Word) (s : Chip) : Chip :=
  whenSuper s 0 t Rf.CFG_CTL_LOAD fun s =>
    let s := s.setFld 0 Rf.CFG_CTL_SOURCE (getBits v 1 1)
    let st := s.fld 0 Rf.CFG_STAT_STATE
    if !bit v.toNat 0 then s
    else if (st = 0 ∨ st = 3) ∧ bootsel s ≠ 3 then
      beginLoad (if st = 3 then cfgClear s else s) (1 + getBits v 1 1)
    else refusedWrite s 0 t Rf.CFG_CTL_LOAD

/-! ### Stream bytes (R728) -/

/-- CFG.DATA takes a word: a load from it runs. -/
def dataReady (s : Chip) : Bool := cfgLoading s && s.cfg.src == 2

/-- Append a word to the stream. -/
def streamWord (s : Chip) (v : Word) : Chip := s.onCfg fun c => { c with bytes := c.bytes ++ leBytes 4 v.toNat }

/-- CFG_DATA_WRITE (R728, R756). -/
def cfgDataWrite (t : Fin 256) (v : Word) (s : Chip) : Chip :=
  whenSuper s 0 t Rf.CFG_DATA_DATA fun s =>
    if dataReady s then streamWord s v else refusedWrite s 0 t Rf.CFG_DATA_DATA

/-- A word of a JTAG load (R726, R871): the first one starts the load. -/
def jtagWord (s : Chip) (v : Word) : Chip :=
  if bootsel s != 3 || !s.cfg.checked then s
  else if s.fld 0 Rf.CFG_STAT_STATE = 0 then streamWord (beginLoad s 3) v
  else if cfgLoading s && s.cfg.src == 3 then streamWord s v
  else s

/-- CFG_SOURCE_LOST (R728, R761): a host source has supplied no byte for `quietMs` ms. -/
def cfgSourceLost (quietMs : Nat) (s : Chip) : Chip :=
  whenUp s 0 fun s =>
    if cfgLoading s && (s.cfg.src == 1 || s.cfg.src == 2) && decide (2000 ≤ quietMs) then cfgFail s 0 15 else s

/-- Take bytes that the command names from the stream: words delivered through CFG.DATA or JTAG must spell them. -/
def takeBytes (s : Chip) (bs : List Byte) : Option Chip :=
  if s.cfg.src < 2 then some s
  else if s.cfg.bytes.take bs.length = bs then some (s.onCfg fun c => { c with bytes := c.bytes.drop bs.length })
  else none

/-! ### The header (R730 to R732, R735) -/

/-- The public-key hash rows hold a value other than zero. -/
def hashProgrammed (s : Chip) : Bool := (range 8 4).any fun r => mapGet (fun _ => 0) (s.d 0).hem.rows r != 0

/-- A key of four rows from `r`, byte 0 lowest (R808). -/
def hemKey (s : Chip) (r : Nat) : BitVec 256 :=
  let w := fun i => (mapGet (fun _ => (0 : BitVec 64)) (s.d 0).hem.rows (r + i)).toNat
  BitVec.ofNat 256 (w 0 + w 1 * 2 ^ 64 + w 2 * 2 ^ 128 + w 3 * 2 ^ 192)

/-- One of the four rows from `r` failed integrity at the last sensing. -/
def rowsFailed (s : Chip) (r : Nat) : Bool := (s.d 0).hem.failed.any fun f => decide (r ≤ f) && decide (f < r + 4)

/-- KEYSEL is admitted (R732): by the lifecycle and the key policy. -/
def keyAdmitted (s : Chip) (k : Nat) : Bool :=
  let lc := (s.d 0).hem.lc
  let bbk := !bit (s.d 0).hem.control 13
  if lc = 4 then false
  else if k = 0 then lc != 2
  else if k = 1 then lc != 0
  else k == 2 && bbk

/-- The signature is checked (R732). DESIGN CHOICE, log 169. -/
def sigChecked (s : Chip) : Bool := (s.d 0).hem.lc == 2 || hashProgrammed s || rowsFailed s 8

/-- The cause that the header's checks end with (R731); none when they pass. -/
def headerCause (s : Chip) (h : List Byte) : Option Nat :=
  let keysel := field h 6 1
  let len := field h 8 4
  if h.length ≠ 512 ∨ field h 0 4 ≠ 0x4643525A ∨ field h 4 2 ≠ 1 ∨ field h 7 1 ≠ 0 ∨ field h 12 4 ≠ 0 ∨
      field h 0x90 272 ≠ 0 then some 1
  else if len < 32 ∨ (s.cfg.src = 0 ∧ 240 * 2 ^ 20 < 512 + len) ∨
      (s.cfg.src = 1 ∧ s.fld 0 Rf.CFG_SRC_LEN_LEN < 512 + len) then some 2
  else if !keyAdmitted s keysel then some 3
  else if sigChecked s && (rowsFailed s 8 || !hashProgrammed s ||
      Config.sha256 ((h.drop 0x30).take 96) != hemKey s 8) then some 4
  else if sigChecked s && !Config.ecdsaOk ((h.drop 0x30).take 96) (h.take 0x1A0) ((h.drop 0x1A0).take 96) then some 5
  else none

/-- Put the key into its words of die 0's Lining (R735). -/
def placeKey (s : Chip) (k : BitVec 256) : Chip :=
  overAll (fun s i => rawWrite s 0 .lining (keyWord0 + i) 15 (BitVec.ofNat 56 (k.toNat / 2 ^ (56 * i)))) s (range 0 5)

/-- Store DIGEST for reading (R767). -/
def setDigest (s : Chip) (h : List Byte) : Chip :=
  overAll (fun s i => s.setFld 0 (Rf.CFG_DIGEST_DIGEST.at i) (field h (0x10 + 4 * i) 4)) s (range 0 8)

/-- The key selected by KEYSEL, unless it cannot be used (R732, R826). -/
def loadKey (s : Chip) (keysel : Nat) : Option (BitVec 256) :=
  if keysel = 1 then (if rowsFailed s 12 then none else some (hemKey s 12))
  else if s.vbat.keyValid then some s.vbat.key else none

/-- CFG_HEADER. DEDUCED, log 167. -/
def cfgHeader (hdr : List Byte) (s : Chip) : Chip :=
  whenUp s 0 fun s =>
    if !cfgLoading s || s.cfg.header then s
    else
      match takeBytes s hdr with
      | none => s
      | some s =>
        let keysel := field hdr 6 1
        let s := setDigest (s.setFld 0 Rf.CFG_STAT_KEYSEL keysel) hdr
        match headerCause s hdr with
        | some c => cfgFail s 0 c
        | none =>
          if keysel ≠ 0 ∧ liningShut s 0 then cfgFail s 0 14
          else
            let s := match loadKey s keysel with
              | some k => if keysel = 0 then s else placeKey s k
              | none => s
            s.onCfg fun c =>
              { c with header := true, bodyLen := field hdr 8 4, digest := BitVec.ofNat 256 (field hdr 0x10 32) }

/-! ### Chunk records (R733, R734) -/

/-- The plaintext of a chunk record; none when it breaks R733 or R734. -/
def chunkText (s : Chip) (bs : List Byte) (bodyLen at_ idx : Nat) : Option (List Byte × Bool) :=
  let keysel := s.fld 0 Rf.CFG_STAT_KEYSEL
  let clen := field bs 12 4
  let n := clen % 2 ^ 13
  let last := bit clen 31
  let iv := bs.take 12
  let data := (bs.drop 16).take n
  let tag := bs.drop (16 + n)
  let stop := at_ + bs.length
  if bs.length < 36 ∨ clen / 2 ^ 13 % 2 ^ 18 ≠ 0 ∨ n < 4 ∨ 4096 < n ∨ n % 4 ≠ 0 ∨ bs.length ≠ 32 + n ∨
      (if last then stop ≠ bodyLen else bodyLen ≤ stop) then none
  else if keysel = 0 then
    if iv.all (· == 0) && tag.all (· == 0) then some (data, last) else none
  else if leNat (iv.drop 8).reverse ≠ idx then none
  else
    match loadKey s keysel with
    | none => none
    | some k => (Config.aesGcm k iv ((bs.drop 12).take 4) data tag).map fun p => (p, last)

/-- The little-endian words of bytes. -/
def wordsOf : List Byte → List Word
  | a :: b :: c :: d :: bs => BitVec.ofNat 32 (leNat [a, b, c, d]) :: wordsOf bs
  | _ => []

/-- The operand words that follow command word `w`, or, when the count stands in the next word, its offset and whether
the words are a code image; none for an unlisted opcode, a nonzero unused bit or a field out of range (R736, R737). -/
inductive CmdLen
  | bad
  | words (n : Nat)
  /-- `n` words before L, then L. -/
  | counted (n : Nat)
  /-- A Rentik program image (R426). -/
  | image
  deriving DecidableEq, Repr

/-- The length of the command that starts with `w`. -/
def cmdLen (w : Word) : CmdLen :=
  let op := getBits w 24 8
  let b := getBits w 0 24
  match op with
  | 0x01 => if b = 0x5AC3E1 then .words 0 else .bad
  | 0x02 => if b < 4 then .words 0 else .bad
  | 0x03 => if b < 196608 then .words 0 else .bad
  | 0x04 =>
    if b < 2 ^ 17 ∧ 1 ≤ b % 65536 ∧ b % 65536 ≤ 4096 then
      (if bit b 16 then .counted 0 else .words (40 * (b % 65536)))
    else .bad
  | 0x05 => if b < 2 ^ 23 then .words 1 else .bad
  | 0x06 => if b < 2 ^ 20 then .words 0 else .bad
  | 0x07 => if b < 64 then .words 0 else .bad
  | 0x08 => if b = 0 then .words 1 else .bad
  | 0x09 =>
    if b / 2 ^ 20 % 4 ≠ 0 then .bad
    else if bit b 23 then .words 3
    else if bit b 22 then .bad
    else .words 0
  | 0x0A => if b = 0 then .words 2 else .bad
  | 0x0B =>
    let n := b % 2 ^ 20
    if b < 2 ^ 23 ∧ 1 ≤ n ∧ n ≤ 524288 then (if bit b 20 then .counted 1 else .words (1 + (7 * n + 3) / 4)) else .bad
  | 0x0C =>
    if bit b 23 then (if b % 2 ^ 23 < 16384 then .counted 0 else .bad)
    else if b < 65536 then .image else .bad
  | 0x0D => if b = 0 then .words 0 else .bad
  | _ => .bad

/-- What the words of the stream spell next. -/
inductive CfgNext
  /-- The command is not complete. -/
  | more
  | bad
  /-- A command, and its words. -/
  | cmd (i : Instr) (n : Nat)
  deriving DecidableEq, Repr

/-- A command with `n` operand words. -/
def withWords (rest : List Word) (n : Nat) (mk : List Word → Option Instr) : CfgNext :=
  if rest.length < n then .more
  else
    match mk (rest.take n) with
    | some i => .cmd i (n + 1)
    | none => .bad

/-- The operand words of a Rentik program image that starts with `ws` (R426): the header alone when it is malformed. -/
def imageLen (ws : List Word) : Nat :=
  let w := fun i => (ws.getD i 0)
  if (w 0).toNat ≠ 0x4B544E52 ∨ getBits (w 1) 0 8 ≠ 1 then 8
  else 8 + 3 * getBits (w 1) 16 8 + 4 * getBits (w 2) 0 13

/-- A WAIT with POLL (R742): the address word is bits [22:0] of REGWRITE. -/
def pollOf (require : Bool) (us : Nat) (ws : List Word) : Option Instr :=
  let a := (ws.getD 0 0).toNat
  let u := BitVec.ofNat 20 us
  if 2 ^ 23 ≤ a then none
  else if require then some (.cWaitRequire u (Fin.ofNat 32 (a / 2 ^ 18)) (BitVec.ofNat 18 a) (ws.getD 1 0) (ws.getD 2 0))
  else some (.cWaitPoll u (Fin.ofNat 32 (a / 2 ^ 18)) (BitVec.ofNat 18 a) (ws.getD 1 0) (ws.getD 2 0))

/-- The command that words of the stream start with (R736, R737). DEDUCED, log 158. -/
def cfgDecode : List Word → CfgNext
  | [] => .more
  | w :: rest =>
    let b := getBits w 0 24
    if cmdLen w = .bad then .bad
    else
      match getBits w 24 8 with
      | 0x01 => .cmd .cSync 1
      | 0x02 => .cmd (.cDie (Fin.ofNat 4 b)) 1
      | 0x03 => .cmd (.cFrameaddr (BitVec.ofNat 18 b)) 1
      | 0x04 =>
        let n := b % 65536
        if bit b 16 then
          match rest with
          | [] => .more
          | l :: _ => withWords rest (1 + l.toNat) fun ws => some (.cFramewrite n true (ws.drop 1))
        else withWords rest (40 * n) fun ws => some (.cFramewrite n false ws)
      | 0x05 => withWords rest 1 fun ws => some (.cRegwrite (Fin.ofNat 32 (b / 2 ^ 18)) (BitVec.ofNat 18 b) (ws.getD 0 0))
      | 0x06 => .cmd (.cRegionbegin (Fin.ofNat 64 b) (BitVec.ofNat 7 (b / 64)) (BitVec.ofNat 7 (b / 8192))) 1
      | 0x07 => .cmd (.cRegionend (Fin.ofNat 64 b)) 1
      | 0x08 => withWords rest 1 fun ws => some (.cCheck (ws.getD 0 0))
      | 0x09 =>
        if bit b 23 then withWords rest 3 (pollOf (bit b 22) (b % 2 ^ 20)) else .cmd (.cWait (BitVec.ofNat 20 b)) 1
      | 0x0A => withWords rest 2 fun ws => some (.cImageid (ws.getD 0 0) (ws.getD 1 0))
      | 0x0B =>
        let n := b % 2 ^ 20
        let region : Fin 4 := Fin.ofNat 4 (b / 2 ^ 21)
        if bit b 20 then
          match rest with
          | _ :: l :: _ =>
            withWords rest (2 + l.toNat) fun ws => some (.cLoadmem region n true (ws.getD 0 0) (ws.drop 2))
          | _ => .more
        else
          withWords rest (1 + (7 * n + 3) / 4) fun ws => some (.cLoadmem region n false (ws.getD 0 0) (ws.drop 1))
      | 0x0C =>
        if bit b 23 then
          match rest with
          | [] => .more
          | n :: _ => withWords rest (1 + n.toNat) fun ws => some (.cLoadcodeYoke (BitVec.ofNat 14 b) (ws.drop 1))
        else if rest.length < 8 then .more
        else withWords rest (imageLen rest) fun ws => some (.cLoadcodeRentik (BitVec.ofNat 16 b) ws)
      | 0x0D => .cmd .cEnd 1
      | _ => .bad

/-- The next words cannot be a command (R736): they are bad, SYNC has not run and they do not start with it, or the last
record ends without END (R746). -/
def badNext (c : CfgLoad) : Bool :=
  match c.words with
  | [] => c.last
  | w :: _ =>
    let n := cfgDecode c.words
    n == .bad || (!c.synced && getBits w 24 8 != 1) || (n == .more && c.last)

/-- Words that cannot be a command end the load (R736). -/
def checkNext (s : Chip) : Chip := if badNext s.cfg then cfgEndIf s s.cfg.die 7 else s

/-- CFG_CHUNK. -/
def cfgChunk (bs : List Byte) (s : Chip) : Chip :=
  whenUp s 0 fun s =>
    if !cfgLoading s || !s.cfg.header || decide (s.cfg.bodyLen ≤ s.cfg.body.length) then s
    else
      match takeBytes s bs with
      | none => s
      | some s =>
        let c := s.cfg
        let s := s.onCfg fun c => { c with recAt := c.body.length }
        match if c.last then none else chunkText s bs c.bodyLen c.body.length c.recs with
        | none => cfgFail s 0 6
        | some (text, last) =>
          let idle := c.words.isEmpty
          let s := s.onCfg fun c =>
            { c with body := c.body ++ bs, recs := c.recs + 1, last := last, words := c.words ++ wordsOf text }
          let s := s.setFld 0 Rf.CFG_POS_POS s.cfg.body.length
          if idle then checkNext s else s

/-! ### Boot flash operations (R792) -/

/-- A GO write of CFG.FL_CTL (R755, R792): OP from the write; misaligned addresses end at once with ERR. -/
def flashGo (s : Chip) (t : Fin 256) (v : Word) : Chip :=
  let busy := s.flag 0 Rf.CFG_FL_CTL_BUSY
  let s := if bit v.toNat 18 then s.setFld 0 Rf.CFG_FL_CTL_ERR 0 else s
  let s := if busy then s else s.setFld 0 Rf.CFG_FL_CTL_OP (getBits v 0 3)
  if !bit v.toNat 16 then s
  else
    let st := s.fld 0 Rf.CFG_STAT_STATE
    let op := getBits v 0 3
    let addr := s.fld 0 Rf.CFG_FL_ADDR_ADDR
    if (st != 2 && st != 3) || bootsel s != 0 || busy then refusedWrite s 0 t Rf.CFG_FL_CTL_GO
    else
      let n := if op = 1 ∨ op = 2 then 64 else if op = 3 then 4096 else if op = 4 then 65536 else 0
      if n = 0 ∨ addr % n ≠ 0 then s.setFld 0 Rf.CFG_FL_CTL_ERR 1
      else s.setFld 0 Rf.CFG_FL_CTL_BUSY 1

/-- A flash operation by its own command: GO with that OP. -/
def flashOp (t : Fin 256) (op : Nat) (v : Word) (s : Chip) : Chip :=
  whenSuper s 0 t Rf.CFG_FL_CTL_GO fun s => flashGo s t (putBits (putBits v 0 3 op) 16 1 1)

/-- FLASH_OP_DONE: the flash answers; a read delivers 64 bytes in 16 words. -/
def flashOpDone (ok : Bool) (data : List Word) (s : Chip) : Chip :=
  whenUp s 0 fun s =>
    if !s.flag 0 Rf.CFG_FL_CTL_BUSY then s
    else
      let s := s.setFld 0 Rf.CFG_FL_CTL_BUSY 0
      if !ok then s.setFld 0 Rf.CFG_FL_CTL_ERR 1
      else if s.fld 0 Rf.CFG_FL_CTL_OP = 1 then
        overAll (fun s i => s.setFld 0 (Rf.CFG_FL_DATA_DATA.at i) ((data.drop i).headD 0).toNat) s (range 0 16)
      else s

/-! ### Meanings -/

/-- CFG_LOAD_START. -/
def execCfgLoadStart (rec0 rec1 : List Byte) (xspi8 wrOk : Bool) (s : State) : Out :=
  act s fun s => cfgLoadStart rec0 rec1 xspi8 wrOk s
/-- CFG_LOAD. -/
def execCfgLoad (t : Fin 256) (v : Word) (s : State) : Out :=
  act s fun s => cfgLoad t (putBits v 0 1 1) s
/-- CFG_DATA_WRITE. -/
def execCfgDataWrite (t : Fin 256) (v : Word) (s : State) : Out :=
  act s fun s => cfgDataWrite t v s
/-- CFG_HEADER. -/
def execCfgHeader (hdr : List Byte) (s : State) : Out :=
  act s fun s => cfgHeader hdr s
/-- CFG_CHUNK. -/
def execCfgChunk (bytes : List Byte) (s : State) : Out :=
  act s fun s => cfgChunk bytes s
/-- CFG_SOURCE_LOST. -/
def execCfgSourceLost (quietMs : Nat) (s : State) : Out :=
  act s fun s => cfgSourceLost quietMs s
/-- CFG_FALLBACK. -/
def execCfgFallback (s : State) : Out :=
  act s fun s => cfgFallback s
/-- FLASH_READ. -/
def execFlashRead (t : Fin 256) (v : Word) (s : State) : Out :=
  act s fun s => flashOp t 1 v s
/-- FLASH_PROGRAM. -/
def execFlashProgram (t : Fin 256) (v : Word) (s : State) : Out :=
  act s fun s => flashOp t 2 v s
/-- FLASH_ERASE_4K. -/
def execFlashErase4k (t : Fin 256) (v : Word) (s : State) : Out :=
  act s fun s => flashOp t 3 v s
/-- FLASH_ERASE_64K. -/
def execFlashErase64k (t : Fin 256) (v : Word) (s : State) : Out :=
  act s fun s => flashOp t 4 v s
/-- FLASH_OP_DONE. -/
def execFlashOpDone (ok : Bool) (data : List Word) (s : State) : Out :=
  act s fun s => flashOpDone ok data s

end Sys2Proof.Machine
end

