-- ==== Sys2Proof/Machine/Bulk.lean ====
section
/-! DEFINITION. Ranges of lane memory and DRAM as movers and Pleat jobs use them: range checks, reads and writes of whole
runs of words (R20, R144, R353, R367, R373, R374). -/

namespace Sys2Proof.Machine

/-- Some block memory from the one of word `w` to the one of word `w + n - 1` is a FIFO. -/
def fifoAmong (s : Chip) (d : Fin 4) (w n : Nat) : Bool :=
  (range (w / 1024) ((w + n - 1) / 1024 - w / 1024 + 1)).any fun b => isFifo s d b

/-- The memory and first word of `n` words at a word-aligned lane offset, when tenant `t` may access all of them; the
Lining is open to some masters only (R20, R144, R353, R367, R373). -/
def laneRange (s : Chip) (d : Fin 4) (t : Fin 256) (wr lining : Bool) (off n : Nat) : Option (Mem × Nat) :=
  match laneAt off with
  | some (m, l) =>
    if off % 4 = 0 && decide (l / 4 + n ≤ memWords m) && (m != .lining || (lining && t == 0 && !keyWords s d (l / 4) n)) &&
        !(m == .bmem && wr && fifoAmong s d (l / 4) n) && permitted s d t wr off (4 * n) then
      some (m, l / 4)
    else none
  | none => none

/-- Tenant `t` may access `n` bytes of the DRAM window of die `d` (R20, R38, R144). -/
def dramRange (s : Chip) (d : Fin 4) (t : Fin 256) (wr : Bool) (off n : Nat) : Bool :=
  decide (off + n ≤ dramCap s d) && permitted s d t wr off n

/-- Every bank of `n` words from `w` is ON; the others wake (R361). -/
def banksReady (s : Chip) (d : Fin 4) (m : Mem) (w n : Nat) : Chip × Bool :=
  if m = .spad then
    let off := (range 0 32).filter fun k => bankHits w n k && !bankOn s d k
    (overAll (fun s k => wakeBank s d k) s off, off.isEmpty)
  else (s, true)

/-- One word of a run, read as an outside reader (R259, R367). -/
def readOne (s : Chip) (d : Fin 4) (m : Mem) (w mask : Nat) : Chip × ReadRes :=
  if m = .lining then readLining s d w mask .outside else readMem s d m w mask .outside

/-- Read `n` words from `w` on, up to the first poisoned one: the words read, and the poisoned word. -/
def readRun : Nat → Chip → Fin 4 → Mem → Nat → Chip × List Quadlane × Option Nat
  | 0, s, _, _, _ => (s, [], none)
  | n + 1, s, d, m, w =>
    let r := readOne s d m w 15
    match r.2 with
    | .val q _ =>
      let rest := readRun n r.1 d m (w + 1)
      (rest.1, q :: rest.2.1, rest.2.2)
    | _ => (r.1, [], some w)

/-- Some of `n` words from `w` is INGEST, and a write of it waits (R262). -/
def runWaits (s : Chip) (d : Fin 4) (m : Mem) (w n : Nat) : Bool :=
  (range w n).any fun i => (s.word d m i).tag == .ingest

/-- Write the lanes of `mask` of one word as a writer of R255. -/
def writeOne (s : Chip) (d : Fin 4) (m : Mem) (w mask : Nat) (q : Quadlane) : Chip :=
  if m = .lining then writeLining s d w mask q else (writeMem s d m w mask q .plain).1

/-- Write whole words from `w` on. -/
def writeRun : Chip → Fin 4 → Mem → Nat → List Quadlane → Chip
  | s, _, _, _, [] => s
  | s, d, m, w, q :: qs => writeRun (writeOne s d m w 15 q) d m (w + 1) qs

end Sys2Proof.Machine
end

