-- ==== Sys2Proof/Machine/Ports.lean ====
section
/-! DEFINITION. The fabric memory ports of a die: scratchpad ports and DRAM ports (R319, R321 to R324, R335, R337, R341 to
R343), with the meanings of their commands. -/

namespace Sys2Proof.Machine

/-- The grain of scratchpad port `p`. -/
def sportGrain (p : Nat) : Nat := 12 * (p % 8) + (if p < 8 then 1 else 10)

/-- The grain of DRAM port `q`. -/
def dportGrain (q : Nat) : Nat := q + 2

/-- The tenant a port acts for (R321): the owner of its region, or its TENANT field. -/
def portTenant (s : Chip) (d : Fin 4) (grain : Nat) (ten : Fld) : Fin 256 :=
  match regionOfGrain s d grain with
  | some r => regionOwner s d r
  | none => Fin.ofNat 256 (s.fld d ten)

/-- A port takes requests: it is enabled and its region is not isolated (R319, R335). -/
def portTakes (s : Chip) (d : Fin 4) (grain : Nat) (en : Fld) : Bool :=
  s.flag d en &&
    (match regionOfGrain s d grain with
     | some r => !s.flag d (Rf.CLK_REGION_CTL_ISOLATE.at r)
     | none => true)

/-- The requests that scratchpad port `p` holds. -/
def Chip.sportQ (s : Chip) (d : Fin 4) (p : Nat) : List PortReq := mapGet (fun _ => []) (s.d d).sports p

/-- Replace them; HELD shows how many there are. -/
def Chip.setSportQ (s : Chip) (d : Fin 4) (p : Nat) (q : List PortReq) : Chip :=
  (s.upd d fun x => { x with sports := mapPut (fun _ => []) x.sports p q }).setFld d (Rf.CLK_SPORT_HELD.at p) q.length

/-- SPORT_REQUEST (R322, R337): a port that holds 32 requests takes no more. -/
def sportRequest (d : Fin 4) (p : Nat) (q : PortReq) (s : Chip) : Chip :=
  whenUp s d fun s =>
    if portTakes s d (sportGrain p) (Rf.CLK_SPORT_EN.at p) && decide ((s.sportQ d p).length < 32) then
      s.setSportQ d p (s.sportQ d p ++ [q])
    else s

/-- A response leaves the port. -/
def sportAnswer (s : Chip) (d : Fin 4) (p : Nat) (r : Reply) : Chip :=
  { s.setSportQ d p ((s.sportQ d p).drop 1) with reply := r }

/-- The word that a scratchpad port may reach at a lane offset (R321, R322). -/
def sportWord (s : Chip) (d : Fin 4) (t : Fin 256) (q : PortReq) : Option (Mem × Nat) :=
  match laneAt q.lane with
  | some (m, l) => if (m = .spad ∨ m = .cst) ∧ l % 4 = 0 ∧ permitted s d t q.wr q.lane 4 then some (m, l / 4) else none
  | none => none

/-- The source of the access fault of a scratchpad port (R341). DEDUCED, log 93. -/
def sportSource (q : PortReq) : Nat :=
  match laneAt q.lane with
  | some (.spad, l) => memSource .spad (l / 4)
  | some (.cst, l) => memSource .cst (l / 4)
  | _ => 0x004

/-- SPORT_RESPONSE: the oldest request is served and answered (R322, R324, R341, R342); a read of a BASTED or INGEST
word, a write of an INGEST word and a bank that wakes leave it waiting. -/
def sportResponse (d : Fin 4) (p : Nat) (s : Chip) : Chip :=
  whenUp s d fun s =>
    match s.sportQ d p with
    | [] => s
    | q :: _ =>
      let t := portTenant s d (sportGrain p) (Rf.CLK_SPORT_TENANT.at p)
      match sportWord s d t q with
      | none => sportAnswer (accFault s d (sportSource q) t (d.val * 2 ^ 38 + q.lane)) d p .fault
      | some (m, w) =>
        if q.wr then
          let r := writeMem s d m w q.en q.data .plain
          if r.2 = .done then sportAnswer r.1 d p .none else r.1
        else
          let r := readMem s d m w 15 .far
          match r.2 with
          | .val v _ => sportAnswer r.1 d p (.lanes v)
          | .poison => sportAnswer (poisonFault r.1 d m w 0 t) d p .poison
          | .stall => r.1

/-! ### DRAM ports (R323, R341 to R343) -/

/-- The accesses of DRAM port `q` without a response. -/
def Chip.dportQ (s : Chip) (d : Fin 4) (q : Nat) : List PortRead := mapGet (fun _ => []) (s.d d).dports q

/-- Replace them; OUTSTANDING counts the reads. -/
def Chip.setDportQ (s : Chip) (d : Fin 4) (q : Nat) (l : List PortRead) : Chip :=
  (s.upd d fun x => { x with dports := mapPut (fun _ => []) x.dports q l }).setFld d (Rf.CLK_DPORT_OUTSTANDING.at q)
    (l.filter fun e => !e.wr).length

/-- The first byte that an enable mask of a 64-byte block names, and the bytes up to the last. -/
def enSpan (en : BitVec 64) : Nat × Nat :=
  let lo := lowBit 64 en.toNat
  let on := (range 0 64).filter fun i => bit en.toNat i
  (lo, on.getLastD 0 + 1 - lo)

/-- An access waits for its response. -/
def dportAdd (s : Chip) (d : Fin 4) (q : Nat) (e : PortRead) : Chip := s.setDportQ d q (s.dportQ d q ++ [e])

/-- DPORT_REQUEST: `en` enables bytes of the 64-byte block at `addr`, and `data` holds the block's bytes of a write.
The port's die checks the access, and the target die too (R144, R321). -/
def dportRequest (d : Fin 4) (q : Fin 8) (wr : Bool) (addr : BitVec 40) (en : BitVec 64) (data : List Byte) (s : Chip) :
    Chip :=
  whenUp s d fun s =>
    if !portTakes s d (dportGrain q.val) (Rf.CLK_DPORT_EN.at q.val) || en == 0 ||
        (!wr && decide (32 ≤ s.fld d (Rf.CLK_DPORT_OUTSTANDING.at q.val))) then s
    else
      let t := portTenant s d (dportGrain q.val) (Rf.CLK_DPORT_TENANT.at q.val)
      let span := enSpan en
      let a := addr.toNat / 64 * 64 + span.1
      let e : Fin 4 := Fin.ofNat 4 (a / 2 ^ 38)
      let off := a % 2 ^ 38
      let bytes := (data.drop span.1).take span.2
      if !permitted s d t wr off span.2 || (e == d && !dramRange s d t wr off span.2) then
        dportAdd (accFault s d (if off < 2 ^ 36 then 0x040 else 0x004) t a) d q.val
          { wr := wr, id := none, data := .fault, ten := t }
      else if e = d then
        if wr then dramStore s d off ((range 0 span.2).map fun i =>
          if bit en.toNat (span.1 + i) then some ((bytes.drop i).headD 0) else none)
        else
          let r := dramFetch s d off span.2
          match r.2 with
          | some bs => dportAdd r.1 d q.val { wr := false, id := none, data := .bytes bs, ten := t }
          | none => dportAdd (dramPoisonFault r.1 d off t) d q.val { wr := false, id := none, data := .poison, ten := t }
      else
        let op := if wr then ROp.bytesWrite off (en.toNat / 2 ^ span.1) bytes else ROp.bytesRead off span.2
        let s := { s with
          nextId := s.nextId + 1
          remotes := s.remotes ++ [{ id := s.nextId, die := d, target := e, init := .dport q, ten := t, op := op,
                                     issued := s.now d, basted := false }] }
        if wr then s else dportAdd s d q.val { wr := false, id := some (s.nextId - 1), data := .none, ten := t }

/-- DPORT_RESPONSE: the port returns the oldest access that waits, when its data or error flag has come. -/
def dportResponse (d : Fin 4) (q : Nat) (s : Chip) : Chip :=
  whenUp s d fun s =>
    match s.dportQ d q with
    | [] => s
    | e :: es =>
      let out := fun (r : Reply) => { s.setDportQ d q es with reply := r }
      match e.data with
      | .bytes l => out (.bytes l)
      | .poison => out .poison
      | .fault => out .fault
      | .word v => out (.word v)
      | .vec _ => out .fault
      | .none => s

/-! ### Meanings -/

/-- SPORT_REQUEST. -/
def execSportRequest (d : Fin 4) (p : Fin 16) (wr : Bool) (lane : BitVec 38) (en : BitVec 4) (data : Quadlane) (s : State) :
    Out :=
  act s fun s => sportRequest d p.val { wr := wr, lane := lane.toNat, en := en.toNat, data := data } s
/-- SPORT_RESPONSE. -/
def execSportResponse (d : Fin 4) (p : Fin 16) (s : State) : Out :=
  act s fun s => sportResponse d p.val s
/-- DPORT_REQUEST. -/
def execDportRequest (d : Fin 4) (q : Fin 8) (wr : Bool) (addr : BitVec 40) (en : BitVec 64) (data : List Byte)
    (s : State) : Out :=
  act s fun s => dportRequest d q wr addr en data s
/-- DPORT_RESPONSE. -/
def execDportResponse (d : Fin 4) (q : Fin 8) (s : State) : Out :=
  act s fun s => dportResponse d q.val s

end Sys2Proof.Machine
end

