-- ==== Sys2Proof/Machine/Reload.lean ====
section
/-! DEFINITION. Region reloads: their estimate, their acceptance in SLACK, the container's header and the steps of R320
(R320, R334, R749, R766, R780 to R784, R802), with the meanings of their commands but for the frames, which CfgCmds
writes. -/

namespace Sys2Proof.Machine

/-- The grains of a declared region: whole rows and columns between FIRST and LAST (R296, R316). -/
def regionGrains (s : Chip) (d : Fin 4) (r : Nat) : Nat :=
  let a := s.fld d (Rf.CLK_REGION_FIRST.at r)
  let b := s.fld d (Rf.CLK_REGION_LAST.at r)
  (b % 12 + 1 - a % 12) * (b / 12 + 1 - a / 12)

/-- The remote-access timeout in tq (R146). -/
def rtoTq (s : Chip) : Nat := 1000 * s.fld 0 Rf.YOKE_RTO_TIMEOUT

/-- The estimate of a reload in tq (R780). -/
def reloadEstimate (s : Chip) (d : Fin 4) (r : Nat) : Nat := 2000 + 32768 * regionGrains s d r + rtoTq s

/-- The end of the reservations accepted before now, as an offset of the tick (R781). -/
def reservedTo (s : Chip) (d : Fin 4) : Nat :=
  if reached s d (s.d d).reloadEnd then elapsed s d else ((s.d d).reloadEnd - (s.d d).tick.start).toNat

/-- A reload fits before the next tick start (R781, R794). -/
def reloadFits (s : Chip) (d : Fin 4) (r : Nat) : Bool := decide (reservedTo s d + reloadEstimate s d r ≤ spanP s d)

/-- The payload of the reload events (R802). -/
def reloadPay (r : Reload) : Nat := r.region + b2n r.darner * 64

/-- A container fails: RLDFAIL against the region's owner (R766). -/
def reloadFails (s : Chip) (d : Fin 4) (r : Reload) (cause : Nat) (incomplete : Bool) : Chip :=
  raiseT s d 0x230 K.RLDFAIL (regionOwner s d r.region) (r.region + cause * 2 ^ 8 + b2n incomplete * 2 ^ 12) false

/-- Bytes of a die's DRAM window that the engine of die `d` reads; none when they do not lie in installed DRAM, are
poisoned, or cannot be reached. -/
def engineRead (s : Chip) (d : Fin 4) (addr n : Nat) : Chip × Option (List Byte) :=
  let e : Fin 4 := Fin.ofNat 4 (addr / 2 ^ 38)
  let off := addr % 2 ^ 38
  if (e == d || reaches s d e) && up s e && decide (off + n ≤ dramCap s e) then dramFetch s e off n else (s, none)

/-- The cause that a container's header fails with (R749). DEDUCED, log 165. -/
def containerCause (s : Chip) (d : Fin 4) (r : Nat) (h : List Byte) : Option Nat :=
  if h.length ≠ 64 ∨ field h 0 4 ≠ 0x5352525A ∨ field h 4 2 ≠ 1 ∨ field h 7 1 ≠ d.val then some 1
  else if field h 6 1 ≠ s.fld 0 Rf.CFG_STAT_KEYSEL || !keyAdmitted s (field h 6 1) then some 3
  else if field h 8 1 ≠ r then some 11
  else if field h 0x10 8 ≠ s.fld64 d Rf.CFG_IMAGEID_LO_ID Rf.CFG_IMAGEID_HI_ID then some 12
  else none

/-- A reload begins: it checks its container, and isolates and resets its region (R320, R749, R782). -/
def reloadStart (s : Chip) (d : Fin 4) (r : Reload) : Chip :=
  let s := if r.darner then s.setFld d (Rf.DARNER_RLD_CTL_PENDING.at r.region) 0 else s
  let h := engineRead s d r.addr 64
  match containerCause h.1 d r.region (h.2.getD []) with
  | some c => reloadFails h.1 d r c false
  | none =>
    let s := (h.1.setFld d (Rf.CLK_REGION_CTL_ISOLATE.at r.region) 1).setFld d (Rf.CLK_REGION_CTL_RESET.at r.region) 1
    (s.setFld d (Rf.CLK_REGION_CTL_RELOADING.at r.region) 1).upd d fun x => { x with reload := some r }

/-- Accepted reloads that wait begin, one at a time, up to `n` of them. -/
def reloadsGo : Nat → Chip → Fin 4 → Chip
  | 0, s, _ => s
  | n + 1, s, d =>
    if (s.d d).reload.isSome then s
    else
      match (s.d d).reloadQ with
      | [] => s
      | r :: rs => reloadsGo n (reloadStart (s.upd d fun x => { x with reloadQ := rs }) d r) d

/-- Begin what can begin. -/
def reloadNext (s : Chip) (d : Fin 4) : Chip := reloadsGo (s.d d).reloadQ.length s d

/-- A reload is accepted: it reserves its estimate (R781). -/
def reloadAccept (s : Chip) (d : Fin 4) (r : Reload) : Chip :=
  let stop := (s.d d).tick.start + BitVec.ofNat 64 (reservedTo s d + reloadEstimate s d r.region)
  reloadNext (s.upd d fun x => { x with reloadQ := x.reloadQ ++ [r], reloadEnd := stop }) d

/-- The container of a Darner reload (R782). -/
def darnerReload (s : Chip) (d : Fin 4) (r : Nat) : Reload :=
  { region := r, darner := true
    addr := s.fld d (Rf.DARNER_RLD_ADDR_LO_ADDR.at r) * 64 + s.fld d (Rf.DARNER_RLD_ADDR_HI_ADDR.at r) * 2 ^ 32 }

/-- Region `r` of die `d` has a reload that waits or runs. -/
def reloadBusy (s : Chip) (d : Fin 4) (r : Nat) : Bool :=
  s.flag d (Rf.DARNER_RLD_CTL_PENDING.at r) || (s.d d).reloadQ.any (fun q => q.region == r) ||
    (match (s.d d).reload with
     | some q => q.region == r
     | none => false)

/-- The pending Darner reloads are judged in ascending region number (R781, R802). -/
def judgeDarner (s : Chip) (d : Fin 4) : Chip :=
  overAll (fun s r =>
    if !s.flag d (Rf.DARNER_RLD_CTL_PENDING.at r) || (s.d d).reloadQ.any (fun q => q.darner && q.region == r) then s
    else if reloadFits s d r then reloadAccept s d (darnerReload s d r)
    else if (s.d d).darner.told.contains r then s
    else
      let s := s.upd d fun x => { x with darner := { x.darner with told := r :: x.darner.told } }
      raise s d 0x230 K.RLDNOFIT 0 (reloadPay (darnerReload s d r))) s (range 0 64)

/-- A RELOAD is judged (R140, R781): the result code, 0 or NOFIT. -/
def judgeReload (s : Chip) (d : Fin 4) (r addr : Nat) : Chip × Nat :=
  if reloadFits s d r then (reloadAccept s d { region := r, darner := false, addr := addr }, 0) else (s, 12)

/-- A reload still runs at a tick start (R783, R802). -/
def reloadLate (s : Chip) (d : Fin 4) : Chip :=
  match (s.d d).reload with
  | some r =>
    if r.late then s
    else raise (s.upd d fun x => { x with reload := some { r with late := true } }) d 0x230 K.RLDLATE 0 (reloadPay r)
  | none => s

/-- SRST and a die's loss stop its reloads: the region that reloads stays incomplete (R334, R790, R799). -/
def reloadsStop (s : Chip) (d : Fin 4) : Chip :=
  let s := s.upd d fun x => { x with reload := none, reloadQ := [], darner := { x.darner with told := [] } }
  overAll (fun s r => s.setFld d (Rf.DARNER_RLD_CTL_PENDING.at r) 0) s (range 0 64)

/-- The ports of region `r` have completed what they accepted (R320). -/
def portsDrained (s : Chip) (d : Fin 4) (r : Nat) : Bool :=
  (range 0 16).all (fun p => regionOfGrain s d (sportGrain p) != some r || (s.sportQ d p).isEmpty) &&
    (range 0 8).all (fun q => regionOfGrain s d (dportGrain q) != some r || ((s.dportQ d q).isEmpty &&
      s.remotes.all fun a => a.die != d || a.served || (match a.init with
        | .dport p => p.val != q
        | _ => true)))

/-- REGION_DRAINED (R320). DEDUCED, log 91. -/
def regionDrained (d : Fin 4) (s : Chip) : Chip :=
  whenUp s d fun s =>
    match (s.d d).reload with
    | some r =>
      if portsDrained s d r.region then s.upd d fun x => { x with reload := some { r with drained := true } } else s
    | none => s

/-- REGION_ISOLATE_CLEAR: the reload ends (R320, R784, R802), and the next one begins. -/
def regionIsolateClear (d : Fin 4) (s : Chip) : Chip :=
  whenUp s d fun s =>
    match (s.d d).reload with
    | some r =>
      if r.written then
        let s := (s.setFld d (Rf.CLK_REGION_CTL_ISOLATE.at r.region) 0).upd d fun x => { x with reload := none }
        reloadNext (raise s d 0x230 K.RLDDONE (regionOwner s d r.region) (reloadPay r)) d
      else s
    | none => s

/-- REGION_DRAINED. -/
def execRegionDrained (d : Fin 4) (s : State) : Out :=
  act s fun s => regionDrained d s
/-- REGION_ISOLATE_CLEAR. -/
def execRegionIsolateClear (d : Fin 4) (s : State) : Out :=
  act s fun s => regionIsolateClear d s

end Sys2Proof.Machine
end

