-- ==== Sys2Proof/Machine/Darner.lean ====
section
/-! DEFINITION. The Darner: frame checks with the SECDED code and the frame CRC, the memory engines, and passes (R768 to
R776, R796 to R801), with the meanings of its commands. -/

namespace Sys2Proof.Machine

/-! ### The code of a frame word (R769, R770) -/

/-- The bits of a codeword as positions 1 to 38 that are not powers of two, in ascending order. -/
def dataPositions : List Nat :=
  (range 1 38).filter fun p => p != 1 && p != 2 && p != 4 && p != 8 && p != 16 && p != 32

/-- The position of stored bit `b` of a word: data bits 0 to 31, then c_0 to c_6; c_6 has none. -/
def bitPosition (b : Nat) : Nat :=
  if b < 32 then (dataPositions.drop b).headD 0 else if b < 38 then 2 ^ (b - 32) else 0

/-- The data bits of a word that a set of positions names, as a number. -/
def dataAt (p : Nat) : Nat := (dataPositions.findIdx? (· == p)).elim 0 (2 ^ ·)

/-- The check field of a frame word (R769). -/
def checkBits (w : Word) : Nat :=
  let syn := ((range 0 32).filter fun i => bit w.toNat i).foldl (fun a i => Nat.xor a (bitPosition i)) 0
  syn + b2n (parity 32 w.toNat != parity 6 syn) * 64

/-- What a decoder makes of a word with wrong bits `fs` (R769). -/
inductive WordErr
  | none
  /-- Corrected at a position; 0 is c_6. -/
  | one (pos : Nat)
  | bad
  deriving DecidableEq, Repr

/-- The decoder: syndrome and overall parity. -/
def wordErr (fs : List Nat) : WordErr :=
  let syn := fs.foldl (fun a b => Nat.xor a (bitPosition b)) 0
  let odd := fs.length % 2 = 1
  if syn = 0 then (if odd then .one 0 else .none) else if 38 < syn then .bad else if odd then .one syn else .bad

/-- The data bits that stay wrong in a word after its correction. -/
def wordDiff (fs : List Nat) : Nat :=
  let wrong := (fs.filter (· < 32)).foldl (fun a b => a + 2 ^ b) 0
  match wordErr fs with
  | .one p => Nat.xor wrong (dataAt p)
  | _ => wrong

/-- The wrong bits of word `w` of a frame, and of its CRC as word 40. -/
def upsetsIn (us : List Nat) (w : Nat) : List Nat := (us.filter fun u => u / 39 == w).map (· % 39)

/-- The CRC of R770 is linear: what wrong data bits add to it. -/
def crcDiff (us : List Nat) : Nat :=
  chkBytes 3 0 ((range 0 40).flatMap fun w => leBytes 4 (wordDiff (upsetsIn us w)))

/-- What a check of a frame finds (R771). -/
inductive FrameErr
  | none
  /-- Every word error is correctable and the CRC matches: the first wrong word and its position. -/
  | single (w pos : Nat)
  | multi
  deriving DecidableEq, Repr

/-- The check of a frame with wrong bits `us`. -/
def frameErr (us : List Nat) : FrameErr :=
  let crcBad := (upsetsIn us 40).foldl (fun a b => Nat.xor a (2 ^ b)) 0 != crcDiff us
  if crcBad || (range 0 40).any fun w => wordErr (upsetsIn us w) == .bad then .multi
  else
    match (range 0 40).find? fun w => wordErr (upsetsIn us w) != .none with
    | some w =>
      match wordErr (upsetsIn us w) with
      | .one p => .single w p
      | _ => .multi
    | none => .none

/-- Invert a stored bit: twice is not at all. -/
def toggle (us : List Nat) (u : Nat) : List Nat := if us.contains u then us.filter (· != u) else u :: us

/-! ### Frames -/

/-- The wrong bits of frame `f`. DESIGN CHOICE, log 172. -/
def Chip.upsetsAt (s : Chip) (d : Fin 4) (f : Nat) : List Nat := mapGet (fun _ => []) (s.d d).upsets f

/-- Replace them. -/
def Chip.setUpsets (s : Chip) (d : Fin 4) (f : Nat) (us : List Nat) : Chip :=
  s.upd d fun x => { x with upsets := mapPut (fun _ => []) x.upsets f us }

/-- Data word `w` of frame `f`. -/
def Chip.frameWord (s : Chip) (d : Fin 4) (f w : Nat) : Word := mapGet (fun _ => 0) (s.d d).frames (40 * f + w)

/-- Store it. -/
def Chip.setFrameWord (s : Chip) (d : Fin 4) (f w : Nat) (v : Word) : Chip :=
  s.upd d fun x => { x with frames := mapPut (fun _ => 0) x.frames (40 * f + w) v }

/-- Frame `f` lies in a region that reloads, or whose reload is incomplete (R772). -/
def frameReloads (s : Chip) (d : Fin 4) (f : Nat) : Bool :=
  match regionOfGrain s d (f / 2048) with
  | some r => s.flag d (Rf.CLK_REGION_CTL_RELOADING.at r)
  | none => false

/-! ### Passes (R772 to R774) -/

/-- Passes run on die `d`. -/
def passesRun (s : Chip) (d : Fin 4) : Bool := s.flag d Rf.DARNER_CTL_EN && s.fld 0 Rf.CFG_STAT_STATE == 2

/-- Change the Darner. -/
def Chip.onDarner (s : Chip) (d : Fin 4) (f : DarnerSt → DarnerSt) : Chip :=
  s.upd d fun x => { x with darner := f x.darner }

/-- A pass begins when none is in progress. -/
def passBegin (s : Chip) (d : Fin 4) : Chip :=
  if !passesRun s d || (s.d d).darner.active then s
  else
    let s := s.onDarner d fun x => { active := true, start := s.now d, told := x.told }
    (s.setFld d Rf.DARNER_POS_FRAME 0).setFld d Rf.DARNER_POS_ACTIVE 1

/-- Where no tick runs, passes run back to back. -/
def passIdle (s : Chip) (d : Fin 4) : Chip := if ticking s d then s else passBegin s d

/-- The Darner works now: in SLACK, or while ticks do not run (R773). -/
def darnerWorks (s : Chip) (d : Fin 4) : Bool :=
  passesRun s d && (s.d d).darner.active && (!ticking s d || (s.d d).tick.phase == .slack)

/-- The words of the memory part that each engine reads. -/
def engineWords (e : Nat) : Nat :=
  if e = 0 then memWords .bmem else if e = 1 then memWords .cst else memWords .spad + memWords .lining

/-- The first frame from `f` on that the pass checks; `n` bounds the search. -/
def nextFrame : Nat → Chip → Fin 4 → Nat → Nat
  | 0, _, _, f => f
  | n + 1, s, d, f =>
    if 196608 ≤ f then 196608
    else if frameReloads s d f then nextFrame n s d (2048 * (f / 2048 + 1))
    else f

/-- Show and store the position of the frame part. -/
def setFrame (s : Chip) (d : Fin 4) (f : Nat) : Chip :=
  (s.onDarner d fun x => { x with frame := f }).setFld d Rf.DARNER_POS_FRAME f

/-! ### Actions (R775, R776, R800, R801) -/

/-- Rewrite each wrong word of a frame with its corrected value. DEDUCED, log 171. -/
def fixFrame (s : Chip) (d : Fin 4) (f : Nat) (us : List Nat) : Chip :=
  let s := overAll (fun s w =>
    let fs := upsetsIn us w
    if wordErr fs = .none then s
    else s.setFrameWord d f w (s.frameWord d f w ^^^ BitVec.ofNat 32 (wordDiff fs))) s (range 0 40)
  s.setUpsets d f (us.filter fun u => wordErr (upsetsIn us (u / 39)) == .none || decide (40 ≤ u / 39))

/-- A multi-bit error in frame `f`. -/
def frameMulti (s : Chip) (d : Fin 4) (f : Nat) : Chip :=
  let count := fun (s : Chip) => s.addFld d Rf.DARNER_FR_MULTI_MULTI 1
  match regionOfGrain s d (f / 2048) with
  | some r =>
    if reloadBusy s d r then s
    else if s.flag d (Rf.DARNER_RLD_CTL_EN.at r) then
      let s := ((count s).setFld d (Rf.DARNER_RLD_CTL_PENDING.at r) 1).onDarner d fun x =>
        { x with told := x.told.filter (· != r) }
      raise s d 0x220 K.FRRELOAD (regionOwner s d r) (f + r * 2 ^ 18)
    else raise (count s) d 0x220 K.FRALARM 0 (f + r * 2 ^ 18)
  | none => raise (count s) d 0x220 K.FRALARM 0 (f + 2 ^ 24)

/-- DARNER_FRAME_CHECK: the next frame of the pass is checked; `flips` are the stored bits that have been upset in it since
it was last written or checked. The frame part pauses while a reload runs. DESIGN CHOICE, log 170. -/
def frameCheck (d : Fin 4) (flips : List Nat) (s : Chip) : Chip :=
  whenUp s d fun s =>
    let s := passIdle s d
    let f := nextFrame 97 s d (s.d d).darner.frame
    if !darnerWorks s d || (s.d d).reload.isSome then s
    else if 196608 ≤ f then setFrame s d 196608
    else
      let us := flips.foldl (fun us u => if u < 1576 then toggle us u else us) (s.upsetsAt d f)
      let s := s.setUpsets d f us
      let s := match frameErr us with
        | .none => s
        | .single w p =>
          raise ((fixFrame s d f us).addFld d Rf.DARNER_FR_CE_CE 1) d 0x220 K.FRCE 0 (f + w * 2 ^ 18 + p * 2 ^ 24)
        | .multi => frameMulti s d f
      setFrame s d (nextFrame 97 s d (f + 1))

/-- The word that engine `e` reads next. -/
def engineWord (x : DarnerSt) (e : Nat) : Mem × Nat :=
  if e = 0 then (.bmem, x.bmem)
  else if e = 1 then (.cst, x.cst)
  else if x.spad < memWords .spad then (.spad, x.spad) else (.lining, x.spad - memWords .spad)

/-- How many words engine `e` has passed. -/
def enginePos (x : DarnerSt) (e : Nat) : Nat := if e = 0 then x.bmem else if e = 1 then x.cst else x.spad

/-- Engine `e` has passed one more word. -/
def engineStep (x : DarnerSt) (e : Nat) : DarnerSt :=
  if e = 0 then { x with bmem := x.bmem + 1 }
  else if e = 1 then { x with cst := x.cst + 1 }
  else { x with spad := x.spad + 1 }

/-- The Darner reads word `i` of a memory (R773, R775, R798): a corrected lane is rewritten, an uncorrectable word takes
the poison pattern. -/
def scrubWord (s : Chip) (d : Fin 4) (m : Mem) (i : Nat) : Chip :=
  let w := s.word d m i
  if m = .spad ∧ (!bankOn s d (bankOf i) ∨ !w.written) then s.addFld d Rf.DARNER_SKIPPED_SKIPPED 1
  else if (m = .lining ∧ liningShut s d) ∨ w.poison ≠ 0 then s
  else
    match (range 0 4).find? fun k => decide (2 ≤ popCount 20 (laneFlips w k)) with
    | some k => (foundBadFrom s d 0x220 m i k).addFld d Rf.DARNER_MEM_UE_UE 1
    | none =>
      let n := ((range 0 4).filter fun k => laneFlips w k != 0).length
      let s := overAll (fun s k => corrLaneFrom s d 0x220 m i k w) s (range 0 4)
      (s.setWord d m i { s.word d m i with flips := 0 }).addFld d Rf.DARNER_MEM_CE_CE n

/-- DARNER_MEM_READ: memory engine `e` (0 block memories, 1 cluster stores, 2 scratchpad and Lining) reads its next
word. DEDUCED, log 98. -/
def memRead (d : Fin 4) (e : Fin 3) (s : Chip) : Chip :=
  whenUp s d fun s =>
    let s := passIdle s d
    let x := (s.d d).darner
    if !darnerWorks s d || decide (engineWords e.val ≤ enginePos x e.val) then s
    else
      let w := engineWord x e.val
      scrubWord (s.onDarner d fun x => engineStep x e.val) d w.1 w.2

/-- DARNER_PASS_END (R774). -/
def passEnd (d : Fin 4) (s : Chip) : Chip :=
  whenUp s d fun s =>
    let x := (s.d d).darner
    if !x.active || decide (nextFrame 97 s d x.frame < 196608) || (range 0 3).any fun e => decide (enginePos x e < engineWords e) then
      s
    else
      let us := (s.now d - x.start).toNat / 1000
      let s := (s.addFld d Rf.DARNER_PASSES_COUNT 1).setFld d Rf.DARNER_LASTPASS_US us
      passIdle ((s.onDarner d fun x => { told := x.told }).setReg d Rf.DARNER_POS_FRAME.key 0) d

/-- SRST clears the counters and abandons the pass (R790). -/
def passAbandon (s : Chip) (d : Fin 4) : Chip := s.onDarner d fun _ => {}

/-- DARNER_FRAME_CHECK. -/
def execDarnerFrameCheck (d : Fin 4) (flips : List Nat) (s : State) : Out :=
  act s fun s => frameCheck d flips s
/-- DARNER_MEM_READ. -/
def execDarnerMemRead (d : Fin 4) (e : Fin 3) (s : State) : Out :=
  act s fun s => memRead d e s
/-- DARNER_PASS_END. -/
def execDarnerPassEnd (d : Fin 4) (s : State) : Out :=
  act s fun s => passEnd d s

end Sys2Proof.Machine
end

