-- ==== Sys2Proof/Machine/Smb.lean ====
section
/-! DEFINITION. The SMBus controller of the host port (R174, R191). -/

namespace Sys2Proof.Machine

/-- A write of SMB_CTL: ignored during a transaction; GO with a PROT of 1 to 8 starts one.
DESIGN CHOICE, log 206. -/
def smbCtlWrite (s : Chip) (v : Word) : Chip :=
  if s.flag 0 Rf.HOST_SMB_STAT_BUSY then s
  else
    let s := s.setReg 0 Rf.HOST_SMB_CTL_ADDR.key (v &&& 0x00FF1FFF)
    let prot := getBits v 8 4
    if bit v.toNat 13 && decide (1 ≤ prot) && decide (prot ≤ 8) then s.setFld 0 Rf.HOST_SMB_STAT_BUSY 1 else s

/-- A write of SMB_DATA_n: ignored during a transaction. -/
def smbDataWrite (s : Chip) (n : Nat) (v : Word) : Chip :=
  if s.flag 0 Rf.HOST_SMB_STAT_BUSY then s else s.setFld 0 (Rf.HOST_SMB_DATA_DATA.at n) v.toNat

/-- A transaction of protocol `prot`, started by its own command: a write of SMB_CTL with GO and that PROT. -/
def smbStart (t : Fin 256) (prot : Nat) (v : Word) (s : Chip) : Chip :=
  whenGranted s 0 t Rf.HOST_SMB_CTL_GO fun s => smbCtlWrite s (putBits (putBits v 8 4 prot) 13 1 1)

/-- Bytes that a transaction of a protocol reads: receive byte, read byte, read word, block read. -/
def smbReads (prot : Nat) : Nat := if prot = 2 ∨ prot = 4 then 1 else if prot = 6 then 2 else if prot = 8 then 32 else 0

/-- Bytes placed in SMB_DATA, byte 4n in bits 7..0 of word n. -/
def smbPut (s : Chip) (i : Nat) : List Byte → Chip
  | [] => s
  | b :: bs => smbPut (s.setFld 0 { Rf.HOST_SMB_DATA_DATA.at (i / 4) with lo := i % 4 * 8, w := 8 } b.toNat) (i + 1) bs

/-- SMB_TRANSACTION_END: the transaction ends; `data` are the bytes that the target sent. -/
def smbEnd (nack pecerr : Bool) (data : List Byte) (s : Chip) : Chip :=
  whenUp s 0 fun s =>
    if !s.flag 0 Rf.HOST_SMB_STAT_BUSY then s
    else
      let prot := s.fld 0 Rf.HOST_SMB_CTL_PROT
      let got := if nack then [] else data.take (smbReads prot)
      let s := (s.setFld 0 Rf.HOST_SMB_STAT_BUSY 0).setFld 0 Rf.HOST_SMB_STAT_DONE 1
      let s := if nack then s.setFld 0 Rf.HOST_SMB_STAT_NACK 1 else s
      let s := if pecerr && !nack && s.flag 0 Rf.HOST_SMB_CTL_PEC && decide (0 < smbReads prot) then
          s.setFld 0 Rf.HOST_SMB_STAT_PECERR 1
        else s
      let s := if prot = 8 then s.setFld 0 Rf.HOST_SMB_STAT_COUNT got.length else s
      smbPut s 0 got

/-- SMB_TIMEOUT: the clock has been low for more than 35 ms. DEDUCED, log 207. -/
def smbTimeout (s : Chip) : Chip :=
  whenUp s 0 fun s =>
    if s.flag 0 Rf.HOST_SMB_STAT_BUSY then
      ((s.setFld 0 Rf.HOST_SMB_STAT_BUSY 0).setFld 0 Rf.HOST_SMB_STAT_DONE 1).setFld 0 Rf.HOST_SMB_STAT_TIMEOUT 1
    else s

/-! ### Meanings -/

/-- SMB_SEND_BYTE. -/
def execSmbSendByte (t : Fin 256) (v : Word) (s : State) : Out :=
  act s fun s => smbStart t 1 v s
/-- SMB_RECEIVE_BYTE. -/
def execSmbReceiveByte (t : Fin 256) (v : Word) (s : State) : Out :=
  act s fun s => smbStart t 2 v s
/-- SMB_WRITE_BYTE. -/
def execSmbWriteByte (t : Fin 256) (v : Word) (s : State) : Out :=
  act s fun s => smbStart t 3 v s
/-- SMB_READ_BYTE. -/
def execSmbReadByte (t : Fin 256) (v : Word) (s : State) : Out :=
  act s fun s => smbStart t 4 v s
/-- SMB_WRITE_WORD. -/
def execSmbWriteWord (t : Fin 256) (v : Word) (s : State) : Out :=
  act s fun s => smbStart t 5 v s
/-- SMB_READ_WORD. -/
def execSmbReadWord (t : Fin 256) (v : Word) (s : State) : Out :=
  act s fun s => smbStart t 6 v s
/-- SMB_BLOCK_WRITE. -/
def execSmbBlockWrite (t : Fin 256) (v : Word) (s : State) : Out :=
  act s fun s => smbStart t 7 v s
/-- SMB_BLOCK_READ. -/
def execSmbBlockRead (t : Fin 256) (v : Word) (s : State) : Out :=
  act s fun s => smbStart t 8 v s
/-- SMB_TRANSACTION_END. -/
def execSmbTransactionEnd (nack pecerr : Bool) (data : List Byte) (s : State) : Out :=
  act s fun s => smbEnd nack pecerr data s
/-- SMB_TIMEOUT. -/
def execSmbTimeout (s : State) : Out :=
  act s fun s => smbTimeout s

end Sys2Proof.Machine
end

