-- ==== Sys2Proof/Machine/Pleat.lean ====
section
/-! DEFINITION. Pleat's stream formats P0 to P3, set outputs and jobs (R511 to R548), and the meanings of the PLEAT
commands. -/

namespace Sys2Proof.Machine

/-! ### Streams (R516) -/

/-- A stream: its length in bits and its bits as a number, bit 0 least significant. -/
structure Stream where
  n : Nat := 0
  v : Nat := 0
  deriving DecidableEq, Repr

/-- A stream of fields (width and value), first field lowest. -/
def streamOf : List (Nat × Nat) → Stream
  | [] => {}
  | (w, v) :: fs =>
    let r := streamOf fs
    { n := w + r.n, v := v % 2 ^ w + 2 ^ w * r.v }

/-- `n` bits of a number from bit `b`. -/
def bitsAt (v b n : Nat) : Nat := v / 2 ^ b % 2 ^ n

/-- The words of a stream, the last padded with zeros. -/
def streamWords (x : Stream) : List Quadlane := (range 0 ((x.n + 55) / 56)).map fun i => BitVec.ofNat 56 (x.v / 2 ^ (56 * i))

/-- The bytes of a stream. -/
def streamBytes (x : Stream) : List Byte := leBytes ((x.n + 7) / 8) x.v

/-- The number that words spell, bit b in word b div 56. -/
def wordsNat : List Quadlane → Nat
  | [] => 0
  | q :: qs => q.toNat + 2 ^ 56 * wordsNat qs

/-! ### P1 (R521 to R524, R540) -/

/-- How P1 is asked for: mantissa bits, marks, and the floor rule of P1TRUNC. -/
structure P1 where
  m : Nat
  mark : Bool
  trunc : Bool
  deriving DecidableEq, Repr

/-- The mantissa bits of a code of M (R521, R549). -/
def mBits (code : Nat) : Nat := if code = 0 then 8 else if code = 1 then 10 else 12

/-- P1 of tenant `t` (R524). -/
def p1For (s : Chip) (t : Fin 256) (code : Nat) (mark : Bool) : P1 :=
  let tr := compatFor s t 3
  { m := if tr then 10 else mBits code, mark := mark, trunc := tr }

/-- The mantissa of a value at shift `k`, and whether it fits (R522, R523). -/
def p1Code (f : P1) (k : Nat) (x : Int) : Option Int :=
  if f.mark && x == -8192 then some (-(2 ^ (f.m - 1) : Int))
  else if f.mark && x == 8191 then some (2 ^ (f.m - 1) - 1 : Int)
  else
    let q := if f.trunc then x / 2 ^ k else roundEven x k
    let lo : Int := -(2 ^ (f.m - 1) : Int) + b2n f.mark
    let hi : Int := 2 ^ (f.m - 1) - 1 - b2n f.mark
    if lo ≤ q ∧ q ≤ hi then some q else none

/-- The smallest shift from `k`, in at most `n` trials, at which every value fits. -/
def p1Shift (f : P1) (xs : List Int) : Nat → Nat → Nat
  | 0, k => k
  | n + 1, k => if xs.all fun x => (p1Code f k x).isSome then k else p1Shift f xs n (k + 1)

/-- A block of 16 values. -/
def p1Block (f : P1) (xs : List Int) : List (Nat × Nat) :=
  let k := p1Shift f xs 7 0
  (3, k) :: xs.map fun x => (f.m, toBits f.m ((p1Code f k x).getD 0))

/-- The values in blocks of `n`; the first argument bounds the number of blocks. -/
def blocks : Nat → Nat → List Int → List (List Int)
  | 0, _, _ => []
  | b + 1, n, xs => if xs.isEmpty then [] else xs.take n :: blocks b n (xs.drop n)

/-- Zeros up to `n` values. -/
def padTo (n : Nat) (xs : List Int) : List Int := xs ++ List.replicate (n - xs.length) 0

/-- The value of a mantissa (R522, R523). -/
def p1Value (f : P1) (k : Nat) (q : Int) : Int :=
  if f.mark && q == -(2 ^ (f.m - 1) : Int) then -8192
  else if f.mark && q == (2 ^ (f.m - 1) - 1 : Int) then 8191
  else clampI (-8192 + b2n f.mark) (8191 - b2n f.mark) (q * 2 ^ k)

/-! ### P2 (R525 to R528, R539) -/

/-- The position of the highest 1 among the low `n` bits of `a`. -/
def topBit : Nat → Nat → Nat
  | 0, _ => 0
  | n + 1, a => if bit a n then n else topBit n a

/-- The code of a 28-bit value. -/
def p2Code (mark : Bool) (v : Int) : Nat :=
  if mark && v == -(2 ^ 27 : Int) then 2 ^ 15 + 31 * 1024
  else if mark && v == (2 ^ 27 - 1 : Int) then 31 * 1024
  else
    let a := v.natAbs
    let sign := b2n (decide (v < 0)) * 2 ^ 15
    if a < 1024 then sign + a
    else
      let n := topBit 28 a
      let t := (roundEven a (n - 10)).toNat
      if t = 2048 then sign + (n + 1 - 9) * 1024 else sign + (n - 9) * 1024 + (t - 1024)

/-- The value of a code; none when it is invalid (R527, R528). -/
def p2Value (mark : Bool) (c : Nat) : Option Int :=
  let e := c / 1024 % 32
  let m := c % 1024
  let neg := bit c 15
  let signed := fun (a : Nat) => if neg then -(a : Int) else (a : Int)
  if mark && e == 31 && m == 0 then some (if neg then -(2 ^ 27 : Int) else 2 ^ 27 - 1)
  else if 19 ≤ e then none
  else some (clampI (-(2 ^ 27 : Int)) (2 ^ 27 - 1) (signed (if e = 0 then m else (1024 + m) * 2 ^ (e - 1))))

/-! ### P3 (R529 to R531, R538) -/

/-- The mapped differences of a block. -/
def p3Diffs : Int → List Int → List Nat
  | _, [] => []
  | p, x :: xs =>
    let d := x - p
    (if 0 ≤ d then (2 * d).toNat else (-2 * d - 1).toNat) :: p3Diffs x xs

/-- C(k) of mapped differences (R531). -/
def p3Cost (us : List Nat) (k : Nat) : Nat := us.foldl (fun a u => a + (u / 2 ^ k + 1 + k)) 0

/-- The k with the least cost, the smaller on a tie. -/
def p3Best (us : List Nat) : Nat := ((range 1 13).foldl (fun b k => if p3Cost us k < p3Cost us b then k else b) 0)

/-- One block (R530, R531). -/
def p3Block (xs : List Int) : List (Nat × Nat) :=
  let us := p3Diffs 0 xs
  let k := p3Best us
  if 14 * xs.length < p3Cost us k then (8, 15) :: xs.map fun x => (14, toBits 14 x)
  else (8, k) :: us.flatMap fun u => [(u / 2 ^ k + 1, 2 ^ (u / 2 ^ k)), (k, u % 2 ^ k)]

/-- Zero bits from bit `b`, up to a bound. -/
def zeroRun : Nat → Nat → Nat → Nat
  | 0, _, _ => 0
  | n + 1, v, b => if bit v b then 0 else 1 + zeroRun n v (b + 1)

/-- The values of `n` coded differences from bit `b`, and the bit after them; none at a code of no 14-bit value. -/
def p3Values : Nat → Nat → Nat → Nat → Int → Option (List Int × Nat)
  | 0, _, _, b, _ => some ([], b)
  | n + 1, v, k, b, p =>
    let z := zeroRun 32768 v b
    let u := z * 2 ^ k + bitsAt v (b + z + 1) k
    let x : Int := if u % 2 = 0 then p + (u / 2 : Nat) else p - (u / 2 + 1 : Nat)
    if 32767 < z || decide (x < -8192) || decide (8191 < x) then none
    else match p3Values n v k (b + z + 1 + k) x with
      | some r => some (x :: r.1, r.2)
      | none => none

/-! ### Encoding and decoding whole streams -/

/-- The fields of values in a format (R520 to R531); `w` is the width of P0. -/
def encodeFields (fmt w : Nat) (f : P1) (mark : Bool) (xs : List Int) : List (Nat × Nat) :=
  match fmt with
  | 0 => xs.map fun x => (w, toBits w x)
  | 1 => (blocks xs.length 16 xs).flatMap fun b => p1Block f (padTo 16 b)
  | 2 => xs.map fun x => (16, p2Code mark x)
  | _ => (blocks xs.length 64 xs).flatMap p3Block

/-- A decoded stream: values, bits consumed, and the bit at which an invalid code or block starts. -/
structure Decd where
  vals : List Int
  used : Nat
  bad : Option Nat
  deriving DecidableEq, Repr

/-- Decode P0 or P2 fields of width `w`. -/
def decodeFixed (w : Nat) (val : Nat → Option Int) : Nat → Nat → Nat → Decd
  | 0, _, b => { vals := [], used := b, bad := none }
  | n + 1, v, b =>
    match val (bitsAt v b w) with
    | some x =>
      let r := decodeFixed w val n v (b + w)
      { r with vals := x :: r.vals }
    | none => { vals := [], used := b, bad := some b }

/-- Decode P1: the first argument bounds the number of blocks; `n` values remain. -/
def decodeP1 (f : P1) : Nat → Nat → Nat → Nat → Decd
  | 0, _, _, b => { vals := [], used := b, bad := none }
  | k + 1, n, v, b =>
    if n = 0 then { vals := [], used := b, bad := none }
    else
      let s := bitsAt v b 3
      let xs := (range 0 16).map fun i => p1Value f s (ofBits f.m (bitsAt v (b + 3 + f.m * i) f.m))
      let r := decodeP1 f k (n - min n 16) v (b + 3 + 16 * f.m)
      { r with vals := xs.take (min n 16) ++ r.vals }

/-- Decode P3: the first argument bounds the number of blocks; `n` values remain. -/
def decodeP3 : Nat → Nat → Nat → Nat → Decd
  | 0, _, _, b => { vals := [], used := b, bad := none }
  | k + 1, n, v, b =>
    if n = 0 then { vals := [], used := b, bad := none }
    else
      let h := bitsAt v b 8
      let m := min n 64
      let block := if h = 15 then
          some ((range 0 m).map fun i => ofBits 14 (bitsAt v (b + 8 + 14 * i) 14), b + 8 + 14 * m)
        else if h ≤ 13 then p3Values m v h (b + 8) 0
        else none
      match block with
      | some (xs, b') =>
        let r := decodeP3 k (n - m) v b'
        { r with vals := xs ++ r.vals }
      | none => { vals := [], used := b, bad := some b }

/-- Decode `n` values of a format; `w` is the width of P0 (14 or 28). DEDUCED, log 121. -/
def decodeStream (fmt w : Nat) (f : P1) (mark : Bool) (n v : Nat) : Decd :=
  match fmt with
  | 0 => decodeFixed w (fun c => some (ofBits w c)) n v 0
  | 1 => decodeP1 f n n v 0
  | 2 => decodeFixed 16 (p2Value mark) n v 0
  | _ => decodeP3 n n v 0

/-! ### Means and sums (R512 to R514) -/

/-- The k of a power of two up to 2^28. -/
def log2Of (n : Nat) : Option Nat := (range 0 29).find? fun k => n == 2 ^ k

/-- The mean of an entry at 2^k records (R512, R513). -/
def meanOf (k : Nat) (e : Quadlane) : Int :=
  if entryExcl e ≠ 0 then (if entryUnder e then -(2 ^ 27 : Int) else 2 ^ 27 - 1) else roundEven (entrySum e) k

/-- A mean narrowed to 14 bits (R513). -/
def narrow (v : Int) : Int := if v = -(2 ^ 27 : Int) then -8192 else if v = 2 ^ 27 - 1 then 8191 else ofBits 14 (toBits 14 v)

/-- The committed entries of set `k`. -/
def setEntries (s : Chip) (d : Fin 4) (k n : Nat) : List Quadlane := (range 0 n).map fun i => committedEntry s d k i

/-- The stream of a set's sums in P0 (R514, R515). -/
def sumStream (es : List Quadlane) : Stream := streamOf (es.map fun e => (56, e.toNat))

/-- The stream of means in a format. -/
def meanStream (fmt : Nat) (f : P1) (mark : Bool) (vs : List Int) : Stream :=
  streamOf (encodeFields fmt 28 f mark (if fmt = 1 ∨ fmt = 3 then vs.map narrow else vs))

/-! ### Where streams go (R515 to R517) -/

/-- A checked place for a stream. -/
inductive Place
  | lanes (m : Mem) (w : Nat)
  | bytes (off : Nat)
  deriving DecidableEq, Repr

/-- The place of `bits` bits at a device address on die `d`, when tenant `t` may access it (R517). -/
def streamPlace (s : Chip) (d : Fin 4) (t : Fin 256) (wr : Bool) (addr bits : Nat) : Option Place :=
  let off := addr % 2 ^ 38
  if addr / 2 ^ 38 ≠ d.val then none
  else if off < 0x1000000000 then
    (if dramRange s d t wr off ((bits + 7) / 8) then some (.bytes off) else none)
  else (laneRange s d t wr false off ((bits + 55) / 56)).map fun p => .lanes p.1 p.2

/-- The stream can be written now: no word waits and every bank is ON. -/
def placeReady (s : Chip) (d : Fin 4) (p : Place) (n : Nat) (wr : Bool) : Chip × Bool :=
  match p with
  | .lanes m w => if wr && runWaits s d m w n then (s, false) else banksReady s d m w n
  | .bytes _ => (s, true)

/-- Write a stream at a place. -/
def putStream (s : Chip) (d : Fin 4) (p : Place) (x : Stream) : Chip :=
  match p with
  | .lanes m w => writeRun s d m w (streamWords x)
  | .bytes off => dramStore s d off ((streamBytes x).map some)

/-! ### Set outputs (R511, R533, R534, R548) -/

/-- The reading of a mean by the calibration table of R484: exact where it is an integer of 28 bits, else an open
value. DESIGN CHOICE, log 123. -/
def calReading (open_ : Nat) (tab : List Word) (v : Int) : Int :=
  let x := (clampI (-8192) 8191 v + 8192).toNat
  let y := fun i => (tab[i]?.getD 0).toNat
  let num : Int := (y (x / 1024) : Int) * 1024 + ((y (x / 1024 + 1) : Int) - y (x / 1024)) * (x % 1024 : Nat)
  if num % 1024 = 0 ∧ num / 1024 < 2 ^ 27 then num / 1024 else ofBits 28 (Config.freeWord open_).toNat

/-- Readings in place of means; a mark stays. The counter of open choices advances with each. -/
def calAll (tab : List Word) : Nat → List Int → List Int
  | _, [] => []
  | c, v :: vs =>
    (if v = -(2 ^ 27 : Int) ∨ v = 2 ^ 27 - 1 then v else calReading c tab v) :: calAll tab (c + 1) vs

/-- The little-endian words of bytes; the first argument bounds their number. -/
def bytesWords : Nat → List Byte → List Word
  | 0, _ => []
  | n + 1, bs => if bs.isEmpty then [] else BitVec.ofNat 32 (leNat (bs.take 4)) :: bytesWords n (bs.drop 4)

/-- The stream of set `k`'s output. An output starts with 2^LOG2AVG records; none are left of them after a RESTART.
DESIGN CHOICE, log 116. -/
def setStream (s : Chip) (d : Fin 4) (k : Nat) : Chip × Stream :=
  let es := setEntries s d k (setLen s d k)
  let n := s.fld d (Rf.PLEAT_SET_STAT_RECORDS.at k)
  match log2Of (if n = 0 then 2 ^ s.fld d (Rf.PLEAT_SET_CFG_LOG2AVG.at k) else n) with
  | none => (s, sumStream es)
  | some l =>
    let mark := s.flag d (Rf.PLEAT_SET_CFG_MARK.at k)
    let f := p1For s (setTen s d k) (s.fld d (Rf.PLEAT_SET_CFG_M.at k)) mark
    let vs := es.map (meanOf l)
    let r := match (s.pset d k).cal with
      | some a =>
        let q := dramFetch s d a 68
        ({ q.1 with free := q.1.free + vs.length }, calAll (bytesWords 17 (q.2.getD [])) q.1.free vs)
      | none => (s, vs)
    (r.1, meanStream (s.fld d (Rf.PLEAT_SET_CFG_FORMAT.at k)) f mark r.2)

/-- The destination address of set `k`. -/
def setDst (s : Chip) (d : Fin 4) (k : Nat) : Nat :=
  s.fld d (Rf.PLEAT_SET_DST_LO_DST.at k) + 2 ^ 32 * s.fld d (Rf.PLEAT_SET_DST_HI_DST.at k)

/-- An output of set `k` is over: RECORDS returns to 0 and COMPLETE clears (R511). -/
def endOutput (s : Chip) (d : Fin 4) (k : Nat) : Chip :=
  let s := (s.onPleat d fun p => { p with outs := p.outs.filter fun i => i != k }).setFld d
    (Rf.PLEAT_SET_STAT_RECORDS.at k) 0
  releaseSet (s.setFld d (Rf.PLEAT_SET_STAT_COMPLETE.at k) 0) d k

/-- PLOUT (R548). DEDUCED, log 122. -/
def plout (s : Chip) (d : Fin 4) (k bits : Nat) : Chip :=
  raise s d 0x210 K.PLOUT (setTen s d k) (bits % 2 ^ 24 + k * 2 ^ 24)

/-- PLEAT_OUTPUT_END (R511, R514, R517, R518, R548): the output at the head of the engine ends; `bad` names an entry of the
committed half found uncorrectable. -/
def pleatOutputEnd (d : Fin 4) (bad : Option Nat) (s : Chip) : Chip :=
  whenUp s d fun s =>
    match (s.d d).pleat.outs.head?, (s.d d).pleat.run with
    | some k, none =>
      match bad with
      | some i =>
        plout (endOutput (sumFound s d k (halfBase s d k true + i) .bad) d k) d k 0
      | none =>
        let r := setStream s d k
        match streamPlace r.1 d (setTen s d k) true (setDst s d k) r.2.n with
        | none => plout (endOutput (accFault s d 0x210 (setTen s d k) (setDst s d k)) d k) d k 0
        | some p =>
          let q := placeReady r.1 d p ((r.2.n + 55) / 56) true
          if q.2 then plout (endOutput (putStream q.1 d p r.2) d k) d k r.2.n
          else { q.1 with free := s.free }
    | _, _ => s

/-! ### Set registers (R506, R543) -/

/-- The range of set `k` exceeds the store or overlaps that of another enabled set (R506). -/
def rangeBad (s : Chip) (d : Fin 4) (k : Nat) : Bool :=
  let lo := fun i => s.fld d (Rf.PLEAT_SET_BASE_BASE.at i)
  let hi := fun i => lo i + 2 * setLen s d i
  decide (1048576 < hi k) ||
    (range 0 16).any fun i => i != k && setOn s d i && decide (lo i < hi k) && decide (lo k < hi i)

/-- RESTART of set `k` (R543, R545, R549): an output of the set that is under way goes on to its end.
DEDUCED, log 115. -/
def restartSet (s : Chip) (d : Fin 4) (k : Nat) : Chip :=
  let s := discardSet s d k
  let s := (s.setFld d (Rf.PLEAT_SET_STAT_RECORDS.at k) 0).setFld d (Rf.PLEAT_SET_STAT_COMPLETE.at k) 0
  let lo := s.fld d (Rf.PLEAT_SET_BASE_BASE.at k)
  let s := if s.flag d (Rf.PLEAT_SET_STAT_ERROR.at k) then
      s.onPleat d fun p =>
        { p with sums := p.sums.filter fun e => decide (e.1 < lo) || decide (lo + 2 * setLen s d k ≤ e.1) }
    else s
  s.setFld d (Rf.PLEAT_SET_STAT_ERROR.at k) 0

/-- ENABLE of set `k` is written (R506, R509). -/
def enableSet (s : Chip) (d : Fin 4) (k : Nat) (v : Bool) : Chip :=
  if v then (if setOn s d k || rangeBad s d k then s else s.setFld d (Rf.PLEAT_SET_CTL_ENABLE.at k) 1)
  else discardSet (s.setFld d (Rf.PLEAT_SET_CTL_ENABLE.at k) 0) d k

/-- A write of PLEAT.SET_CTL_k. -/
def setCtlWrite (s : Chip) (d : Fin 4) (k : Nat) (v : Word) : Chip :=
  if 1 < d.val then s
  else
    let s := enableSet s d k (getBits v 0 1 == 1)
    if getBits v 1 1 = 1 then restartSet s d k else s

/-! ### Jobs (R515 to R519, R536, R546, R547) -/

/-- A job's parameters as its slot holds them. -/
structure JobPar where
  dec : Bool
  kind : Nat
  fmt : Nat
  m : Nat
  mark : Bool
  set : Nat
  ten : Fin 256
  count : Nat
  src : Nat
  dst : Nat
  deriving DecidableEq, Repr

/-- The parameters of slot `j`. -/
def jobPar (s : Chip) (d : Fin 4) (j : Nat) : JobPar :=
  { dec := s.flag d (Rf.PLEAT_JOB_CTL_DIR.at j), kind := s.fld d (Rf.PLEAT_JOB_CTL_KIND.at j)
    fmt := s.fld d (Rf.PLEAT_JOB_CTL_FORMAT.at j), m := s.fld d (Rf.PLEAT_JOB_CTL_M.at j)
    mark := s.flag d (Rf.PLEAT_JOB_CTL_MARK.at j), set := s.fld d (Rf.PLEAT_JOB_CTL_SET.at j)
    ten := Fin.ofNat 256 (s.fld d (Rf.PLEAT_JOB_CTL_TENANT.at j)), count := s.fld d (Rf.PLEAT_JOB_CNT_COUNT.at j)
    src := s.fld d (Rf.PLEAT_JOB_SRC_LO_SRC.at j) + 2 ^ 32 * s.fld d (Rf.PLEAT_JOB_SRC_HI_SRC.at j)
    dst := s.fld d (Rf.PLEAT_JOB_DST_LO_DST.at j) + 2 ^ 32 * s.fld d (Rf.PLEAT_JOB_DST_HI_DST.at j) }

/-- The slot's KIND, FORMAT and DIR form no row, its set is disabled or absent, or its COUNT is out of range (R515,
R536). DEDUCED, log 120. -/
def jobRange (s : Chip) (d : Fin 4) (p : JobPar) : Bool :=
  p.count == 0 || decide (262144 < p.count) ||
    (p.dec && decide (2 ≤ p.kind)) || (p.kind == 3 && p.fmt != 0) ||
    (p.fmt == 2 && p.kind != 1 && p.kind != 2) || ((p.fmt == 1 || p.fmt == 3) && p.kind != 0 && p.kind != 2) ||
    (decide (2 ≤ p.kind) && (!setOn s d p.set || decide (setLen s d p.set < p.count)))

/-- The signed values of the lanes of words. -/
def lanesInts (kind : Nat) (qs : List Quadlane) : List Int :=
  if kind = 0 then qs.flatMap fun q => (range 0 4).map fun k => ofBits 14 (getLane q k).toNat
  else qs.flatMap fun q => (range 0 2).map fun k => ofBits 28 (q.toNat / 2 ^ (28 * k))

/-- The lanes of values, by word: mask and content. -/
def intsWords (kind : Nat) : Nat → List Int → List (Nat × Quadlane)
  | 0, _ => []
  | n + 1, xs =>
    if xs.isEmpty then []
    else
      let per := if kind = 0 then 4 else 2
      let w := if kind = 0 then 14 else 28
      let mask := 2 ^ (min per xs.length * (w / 14)) - 1
      (mask, BitVec.ofNat 56 (streamOf ((xs.take per).map fun x => (w, toBits w x))).v) ::
        intsWords kind n (xs.drop per)

/-- Write words under their masks. -/
def writeMasked : Chip → Fin 4 → Mem → Nat → List (Nat × Quadlane) → Chip
  | s, _, _, _, [] => s
  | s, d, m, w, q :: qs => writeMasked (writeOne s d m w q.1 q.2) d m (w + 1) qs

/-- What the start of a job comes to. -/
inductive JobRes
  /-- The job cannot proceed yet. -/
  | wait
  /-- It runs and will end with this result and stream length. -/
  | ends (result bits : Nat)
  deriving DecidableEq, Repr

/-- The fields of a P1 or P3 stream come in whole blocks: values of complete blocks among `n`. -/
def wholeBlocks (fmt n : Nat) : Nat := if fmt = 1 then n / 16 * 16 else if fmt = 3 then n / 64 * 64 else n

/-- Words of lane memory that `n` values take. -/
def valueWords (kind n : Nat) : Nat := if kind = 0 then (n + 3) / 4 else (n + 1) / 2

/-- An encode job from lane memory. -/
def encodeLanes (s : Chip) (d : Fin 4) (p : JobPar) : Chip × JobRes :=
  let f := p1For s p.ten p.m p.mark
  let w := if p.kind = 0 then 14 else 28
  match laneRange s d p.ten false false (p.src % 2 ^ 38) (valueWords p.kind p.count) with
  | none => (accFault s d 0x210 p.ten p.src, .ends 2 0)
  | some (m, a) =>
    if p.src / 2 ^ 38 ≠ d.val then (accFault s d 0x210 p.ten p.src, .ends 2 0)
    else
      let b := banksReady s d m a (valueWords p.kind p.count)
      if !b.2 then (b.1, .wait)
      else
        let r := readRun (valueWords p.kind p.count) b.1 d m a
        let got := (lanesInts p.kind r.2.1).take p.count
        let vs := if r.2.2.isSome then got.take (wholeBlocks p.fmt got.length) else got
        let x := streamOf (encodeFields p.fmt w f p.mark vs)
        match streamPlace r.1 d p.ten true p.dst x.n with
        | none => (accFault s d 0x210 p.ten p.dst, .ends 2 0)
        | some q =>
          let o := placeReady r.1 d q ((x.n + 55) / 56) true
          if !o.2 then (o.1, .wait)
          else
            let s := putStream o.1 d q x
            match r.2.2 with
            | some i => (poisonFault s d m i 0 p.ten, .ends 3 x.n)
            | none => (s, .ends 1 x.n)

/-- An encode job from a set; `bad` names an entry found uncorrectable (R512 to R514, R545). -/
def encodeSet (s : Chip) (d : Fin 4) (p : JobPar) (bad : Option Nat) : Chip × JobRes :=
  let n := match bad with
    | some i => min i p.count
    | none => p.count
  let es := setEntries s d p.set n
  let l := log2Of (s.fld d (Rf.PLEAT_SET_STAT_RECORDS.at p.set))
  let x := match p.kind, l with
    | 2, some l =>
      let vs := es.map (meanOf l)
      meanStream p.fmt (p1For s p.ten p.m p.mark) p.mark
        (if bad.isSome then vs.take (wholeBlocks p.fmt vs.length) else vs)
    | _, _ => sumStream es
  match streamPlace s d p.ten true p.dst x.n with
  | none => (accFault s d 0x210 p.ten p.dst, .ends 2 0)
  | some q =>
    let o := placeReady s d q ((x.n + 55) / 56) true
    if !o.2 then (o.1, .wait)
    else
      let s := putStream o.1 d q x
      match bad with
      | some i => (sumFound s d p.set (halfBase s d p.set true + i) .bad, .ends 3 x.n)
      | none => (s, .ends (if p.kind = 2 ∧ l.isNone then 5 else 1) x.n)

/-- The most bits a stream of `n` values can take. -/
def maxBits (fmt w m n : Nat) : Nat :=
  if fmt = 0 then w * n else if fmt = 1 then (n + 15) / 16 * (3 + 16 * m) else if fmt = 2 then 16 * n
  else 14 * n + (n + 63) / 64 * 8

/-- What a word or a run of DRAM bytes holds for a decoder, with no effect of its own: poisoned data reads as zero. -/
def peekStream (s : Chip) (d : Fin 4) (addr bits : Nat) : Nat :=
  let off := addr % 2 ^ 38
  if off < 0x1000000000 then
    leNat (dramReadBytes s d off (min ((bits + 7) / 8) (dramCap s d - off)) []).2.1
  else match laneAt off with
    | some (m, l) =>
      wordsNat ((range (l / 4) (min ((bits + 55) / 56) (memWords m - l / 4))).map fun i =>
        match (readWord s d m i 15 .outside).2 with
        | .val q _ => q
        | _ => 0)
    | none => 0

/-- Read the stream's source: the good bits before any poison, and the poisoned word. -/
def readSource (s : Chip) (d : Fin 4) (p : Place) (bits : Nat) : Chip × Nat × Option (Mem × Nat) × Bool :=
  match p with
  | .lanes m w =>
    let r := readRun ((bits + 55) / 56) s d m w
    (r.1, 56 * r.2.1.length, r.2.2.map fun i => (m, i), false)
  | .bytes off =>
    let r := dramFetch s d off ((bits + 7) / 8)
    (r.1, if r.2.isSome then bits else 0, none, r.2.isNone)

/-- A decode job. -/
def decodeJob (s : Chip) (d : Fin 4) (p : JobPar) : Chip × JobRes :=
  let f := p1For s p.ten p.m p.mark
  let w := if p.kind = 0 then 14 else 28
  let all := decodeStream p.fmt w f p.mark p.count (peekStream s d p.src (maxBits p.fmt w f.m p.count))
  match streamPlace s d p.ten false p.src all.used with
  | none => (accFault s d 0x210 p.ten p.src, .ends 2 0)
  | some q =>
    match laneRange s d p.ten true false (p.dst % 2 ^ 38) (valueWords p.kind p.count) with
    | none => (accFault s d 0x210 p.ten p.dst, .ends 2 0)
    | some (m, a) =>
      if p.dst / 2 ^ 38 ≠ d.val then (accFault s d 0x210 p.ten p.dst, .ends 2 0)
      else
        let b := placeReady s d q ((all.used + 55) / 56) false
        let c := banksReady b.1 d m a (valueWords p.kind p.count)
        if !b.2 || !c.2 || runWaits s d m a (valueWords p.kind p.count) then (c.1, .wait)
        else
          let r := readSource c.1 d q all.used
          let poisoned := r.2.2.1.isSome || r.2.2.2
          let good := if poisoned then
              ((range 0 (all.vals.length + 1)).filter fun k =>
                decide ((decodeStream p.fmt w f p.mark k (peekStream s d p.src all.used)).used ≤ r.2.1)).length - 1
            else all.vals.length
          let s := writeMasked r.1 d m a (intsWords p.kind (good + 1) (all.vals.take good))
          match r.2.2.1, r.2.2.2, all.bad with
          | some (m', i), _, _ => (poisonFault s d m' i 0 p.ten, .ends 3 r.2.1)
          | none, true, _ => (dramPoisonFault s d (p.src % 2 ^ 38) p.ten, .ends 3 0)
          | none, false, some at_ =>
            (raise s d 0x210 K.PLBADCODE p.ten (min at_ 0xFFFFFFFF), .ends 4 all.used)
          | none, false, none => (s, .ends 1 all.used)

/-- Write PLEAT.JOB_CTL_j (R518, R536). -/
def jobCtlWrite (s : Chip) (d : Fin 4) (j : Nat) (v : Word) : Chip :=
  if s.flag d (Rf.PLEAT_JOB_STAT_BUSY.at j) then s
  else
    let m := if getBits v 5 2 = 3 then 2 else getBits v 5 2
    let s := s.setReg d (Rf.PLEAT_JOB_CTL_DIR.at j).key (putBits (v &&& 0x00FF0FFF) 5 2 m)
    if getBits v 31 1 = 1 then s.setFld d (Rf.PLEAT_JOB_STAT_BUSY.at j) 1 else s

/-- PLEAT_JOB_START (R518): the free engine starts the lowest busy slot; `bad` is as for an output.
DESIGN CHOICE, log 119. -/
def pleatJobStart (d : Fin 4) (bad : Option Nat) (s : Chip) : Chip :=
  whenUp s d fun s =>
    match (s.d d).pleat.run, (s.d d).pleat.outs, (range 0 4).find? fun j => s.flag d (Rf.PLEAT_JOB_STAT_BUSY.at j) with
    | none, [], some j =>
      let p := jobPar s d j
      let r := if jobRange s d p then (s, JobRes.ends 6 0)
        else if p.dec then decodeJob s d p
        else if 2 ≤ p.kind then encodeSet s d p bad
        else encodeLanes s d p
      match r.2 with
      | .wait => r.1
      | .ends res bits => r.1.onPleat d fun x => { x with run := some { slot := j, result := res, bits := bits } }
    | _, _, _ => s

/-- PLEAT_JOB_END (R516, R519, R536): the running job ends with its result, and commits it held go on. -/
def pleatJobEnd (d : Fin 4) (s : Chip) : Chip :=
  whenUp s d fun s =>
    match (s.d d).pleat.run with
    | none => s
    | some j =>
      let s := ((s.setFld d (Rf.PLEAT_JOB_STAT_BUSY.at j.slot) 0).setFld d (Rf.PLEAT_JOB_STAT_RESULT.at j.slot)
        j.result).setFld d (Rf.PLEAT_JOB_BITS_BITS.at j.slot) j.bits
      let s := s.onPleat d fun x => { x with run := none }
      overAll (fun s k => releaseSet s d k) s (range 0 16)

/-! ### Meanings -/

/-- PLEAT_SET_ENABLE: a write of PLEAT.SET_CTL_k. -/
def execPleatSetEnable (t : Fin 256) (d : Fin 4) (k : Fin 16) (v : Word) (s : State) : Out :=
  act s fun s => whenGranted s d t (Rf.PLEAT_SET_CTL_ENABLE.at k.val) fun s => setCtlWrite s d k.val v
/-- PLEAT_SET_RESTART. -/
def execPleatSetRestart (t : Fin 256) (d : Fin 4) (k : Fin 16) (s : State) : Out :=
  act s fun s => whenGranted s d t (Rf.PLEAT_SET_CTL_RESTART.at k.val) fun s =>
    if 1 < d.val then s else restartSet s d k.val
/-- PLEAT_JOB_GO: a write of PLEAT.JOB_CTL_j. -/
def execPleatJobGo (t : Fin 256) (d : Fin 4) (j : Fin 4) (v : Word) (s : State) : Out :=
  act s fun s => whenGranted s d t (Rf.PLEAT_JOB_CTL_GO.at j.val) fun s => jobCtlWrite s d j.val v
/-- PLEAT_JOB_START. -/
def execPleatJobStart (d : Fin 4) (bad : Option Nat) (s : State) : Out :=
  act s fun s => pleatJobStart d bad s
/-- PLEAT_JOB_END. -/
def execPleatJobEnd (d : Fin 4) (s : State) : Out :=
  act s fun s => pleatJobEnd d s

end Sys2Proof.Machine
end

