-- ==== Sys2Proof/Machine/Psense.lean ====
section
/-! DEFINITION. Panel sense (R475 to R482, R485, R491 to R493, R500), and the meanings of its commands. -/

namespace Sys2Proof.Machine

/-- Node `n` (R475: n = 40 × drive + sense). -/
def PsSt.node (p : PsSt) (n : Nat) : PNode := mapGet (fun _ => {}) p.nodes n

/-- Replace node `n`. -/
def PsSt.setNode (p : PsSt) (n : Nat) (x : PNode) : PsSt := { p with nodes := mapPut (fun _ => {}) p.nodes n x }

/-- The mean of `n` values with sum `i`, rounded half to even (R477, R478). -/
def meanEven (i : Int) (n : Nat) : Int :=
  let m : Int := n
  let q := i / m
  let r := 2 * (i % m)
  if r < m then q else if m < r then q + 1 else if q % 2 = 0 then q else q + 1

/-- Every node takes a new baseline over the next 32 scans (R477). -/
def recapture (s : Chip) : Chip :=
  { s.setFld 0 Rf.PSENSE_STAT_CAPTURING 1 with
    ps := { s.ps with
              capture := 32
              window := 0
              nodes := mapEach (fun _ => {}) (fun _ x =>
                { x with capSum := 0, low := [], since := none, held := false, delta := 0, sum := 0, quiet := true })
                s.ps.nodes } }

/-- PSENSE_EN_WRITE (R475, R477, R503): a write of PSENSE.CTL. -/
def psenseCtl (s : Chip) (v : Word) : Chip :=
  let was := s.flag 0 Rf.PSENSE_CTL_EN
  let on := getBits v 0 1 == 1
  let rate := clampN 1 240 (getBits v 8 8)
  let s := (s.setFld 0 Rf.PSENSE_CTL_EN (b2n on)).setFld 0 Rf.PSENSE_CTL_RATE rate
  let s := if on && !was then
      recapture { s with ps := { s.ps with rate := rate, frame := false, second := false } }
    else s
  if on && getBits v 1 1 == 1 then recapture s else s

/-- The scan period in tq at a rate (R475). -/
def scanPeriod (rate : Nat) : Nat := 1000000000 / rate

/-- The delta of a node (R476). -/
def nodeDelta (base raw : Int) : Int := clampI (-8191) 8190 (base - raw)

/-- One raw value of a baseline scan (R477); the last of the 32 sets the baseline. DESIGN CHOICE, log 113. -/
def captureNode (last : Bool) (x : PNode) (raw : Int) : PNode :=
  if last then { base := meanEven (x.capSum + raw) 32 } else { x with capSum := x.capSum + raw, delta := 0 }

/-- One raw value of an ordinary scan: touch, hold and the low count (R478, R479); the second is true when the baseline
is retaken, the third when the node becomes held. -/
def scanNode (s : Chip) (now : Time) (x : PNode) (raw : Int) : PNode × Bool × Bool :=
  let delta := nodeDelta x.base raw
  let touched := decide ((s.fld 0 Rf.PSENSE_THR_TOUCH : Int) ≤ delta)
  let since := if touched then (if x.since.isSome then x.since else some now) else none
  let held := match since with
    | some t => decide (s.fld 0 Rf.PSENSE_HELD_HELD * 1000000000 ≤ (now - t).toNat)
    | none => false
  let low := if delta ≤ -(s.fld 0 Rf.PSENSE_THR_NEG : Int) then raw :: x.low else []
  let y := { x with delta := delta, since := since, held := held, low := low, sum := x.sum + raw }
  if low.length = 4 then
    ({ y with base := meanEven (low.foldl (· + ·) 0) 4, low := [] }, true, held && !x.held)
  else (y, false, held && !x.held)

/-- The neighbours of node `n` in the 24 by 40 grid (R481). -/
def neighbours (n : Nat) : List Nat :=
  let r := n / 40
  let c := n % 40
  ((range 0 9).filterMap fun i =>
    let r' := r + i / 3
    let c' := c + i % 3
    if i ≠ 4 ∧ 1 ≤ r' ∧ r' ≤ 24 ∧ 1 ≤ c' ∧ c' ≤ 40 then some (40 * (r' - 1) + (c' - 1)) else none)

/-- Node `n` counts as untouched in this scan (R481). -/
def untouched (s : Chip) (n : Nat) : Bool :=
  let x := s.ps.node n
  decide (-(s.fld 0 Rf.PSENSE_THR_NEG : Int) < x.delta) && x.since.isNone &&
    (neighbours n).all fun m => (s.ps.node m).since.isNone

/-- Close or continue the drift window of a node (R481). -/
def driftNode (s : Chip) (ends : Bool) (n : Nat) (x : PNode) : PNode :=
  let quiet := x.quiet && untouched s n
  if ends then
    let base := if quiet then (if 16 * x.base < x.sum then x.base + 1 else if x.sum < 16 * x.base then x.base - 1 else x.base)
      else x.base
    { x with base := base, sum := 0, quiet := true }
  else { x with quiet := quiet }

/-- Scan the nodes: how many took a baseline, and the raises of PSHELD (R479, R500). -/
def scanNodes (now : Time) : Chip → Nat → List Int → Chip × Nat
  | s, _, [] => (s, 0)
  | s, n, raw :: rest =>
    let r := scanNode s now (s.ps.node n) raw
    let s := { s with ps := s.ps.setNode n r.1 }
    let s := if r.2.2 then raise s 0 0x020 K.PSHELD 0 n else s
    let q := scanNodes now s (n + 1) rest
    (q.1, q.2 + b2n r.2.1)

/-- Drift of every node after the scan. -/
def driftNodes (s : Chip) (ends : Bool) : List Nat → Chip
  | [] => s
  | n :: ns =>
    driftNodes { s with ps := s.ps.setNode n (driftNode s ends n (s.ps.node n)) } ends ns

/-- A baseline scan. -/
def captureNodes (last : Bool) : Chip → Nat → List Int → Chip
  | s, _, [] => s
  | s, n, raw :: rest =>
    captureNodes last { s with ps := s.ps.setNode n (captureNode last (s.ps.node n) raw) } (n + 1) rest

/-- PSENSE_SCAN (R475 to R481, R500, R907): the raw values of the scan that starts now. DEDUCED, log 114. -/
def psenseScan (raws : List Int) (s : Chip) : Chip :=
  whenUp s 0 fun s =>
    if !present s 0 0x0A || !s.flag 0 Rf.PSENSE_CTL_EN || !s.flag 0 Rf.PWR_RAIL_VPS || (s.now 0).toNat % scanPeriod s.ps.rate != 0 ||
        raws.length != 960 then s
    else
      let now := s.now 0
      let s := if s.ps.capture = 0 then
          let r := scanNodes now s 0 raws
          let s := if r.2 = 0 then r.1 else raise r.1 0 0x020 K.PSRECAP 0 r.2
          let ends := s.ps.window == 15
          let s := driftNodes s ends (range 0 960)
          { s with ps := { s.ps with window := if ends then 0 else s.ps.window + 1, retook := r.2 != 0 } }
        else
          let s := captureNodes (s.ps.capture == 1) s 0 raws
          { s with ps := { s.ps with capture := s.ps.capture - 1, retook := false } }
      { s with ps := { s.ps with rate := s.fld 0 Rf.PSENSE_CTL_RATE, scanStart := now, frame := true } }

/-- Bits `f 14i` to `f (14i + 13)` as lane `i`. -/
def bitLane (f : Nat → Bool) (i : Nat) : Lane :=
  BitVec.ofNat 14 (((range 0 14).map fun b => if f (14 * i + b) then 2 ^ b else 0).foldl (· + ·) 0)

/-- The words of a bitmap (R482). -/
def bitmapWords (f : Nat → Bool) : List Quadlane :=
  (range 0 18).map fun w => ofLanes (bitLane f (4 * w)) (bitLane f (4 * w + 1)) (bitLane f (4 * w + 2)) (bitLane f (4 * w + 3))

/-- Node `n` exists and is touched. -/
def isTouched (s : Chip) (n : Nat) : Bool := decide (n < 960) && (s.ps.node n).since.isSome

/-- Node `n` exists and is held. -/
def isHeld (s : Chip) (n : Nat) : Bool := decide (n < 960) && (s.ps.node n).held

/-- The 280 words of a frame (R482); the frame's scan is the one that the count reaches. -/
def frameWords (s : Chip) : List Quadlane :=
  let delta := fun n => BitVec.ofInt 14 (s.ps.node n).delta
  let touched := ((range 0 960).filter (isTouched s)).length
  let held := ((range 0 960).filter (isHeld s)).length
  (range 0 240).map (fun w => ofLanes (delta (4 * w)) (delta (4 * w + 1)) (delta (4 * w + 2)) (delta (4 * w + 3))) ++
    bitmapWords (isTouched s) ++ bitmapWords (isHeld s) ++
    [BitVec.ofNat 56 (s.fld 0 Rf.PSENSE_STAT_SCAN + s.fld 0 Rf.PSENSE_STAT_CAPTURING * 2 ^ 24 +
        b2n s.ps.retook * 2 ^ 25),
      BitVec.ofNat 56 (touched + held * 2 ^ 16), BitVec.ofNat 56 s.ps.scanStart.toNat, 0]

/-- Write the words of a frame, committed (R482). -/
def putFrame (s : Chip) (w : Nat) : List Quadlane → Chip
  | [] => s
  | q :: qs => putFrame (ingestWord (touchBank s 0 (bankOf w)) 0 w 15 q 0 false) (w + 1) qs

/-- PSENSE_FRAME (R482): the frame of the last scan is written; its banks wake first. -/
def psenseFrame (s : Chip) : Chip :=
  whenUp s 0 fun s =>
    if !s.ps.frame then s
    else
      let out := s.fld 0 Rf.PSENSE_OUT_OUT + (if s.ps.second then 280 else 0)
      let fits := fun w => decide (w < 524288)
      let ws := (range out 280).filter fits
      let asleep := ws.filter fun w => !bankOn s 0 (bankOf w)
      if !asleep.isEmpty then overAll (fun s w => if bankOn s 0 (bankOf w) then s else wakeBank s 0 (bankOf w)) s asleep
      else
        let touched := ((range 0 960).filter (isTouched s)).length
        let held := ((range 0 960).filter (isHeld s)).length
        let s := putFrame s out ((frameWords s).take ws.length)
        let s := s.setFld 0 Rf.PSENSE_STAT_SCAN (s.fld 0 Rf.PSENSE_STAT_SCAN + 1)
        let s := s.setFld 0 Rf.PSENSE_STAT_CAPTURING (b2n (s.ps.capture != 0))
        let s := s.setFld 0 Rf.PSENSE_STAT_BUF (b2n s.ps.second)
        let s := (s.setFld 0 Rf.PSENSE_COUNTS_TOUCHED touched).setFld 0 Rf.PSENSE_COUNTS_HELDN held
        { s with ps := { s.ps with frame := false, second := !s.ps.second } }

/-! ### Meanings -/

/-- PSENSE_EN_WRITE. -/
def execPsenseEnWrite (t : Fin 256) (v : Word) (s : State) : Out :=
  act s fun s => whenGranted s 0 t Rf.PSENSE_CTL_EN fun s => psenseCtl s v
/-- PSENSE_RECAPTURE: a write of PSENSE.CTL with RECAPTURE. -/
def execPsenseRecapture (t : Fin 256) (v : Word) (s : State) : Out :=
  act s fun s => whenGranted s 0 t Rf.PSENSE_CTL_RECAPTURE fun s => psenseCtl s v
/-- PSENSE_SCAN. -/
def execPsenseScan (raws : List Int) (s : State) : Out :=
  act s fun s => psenseScan raws s
/-- PSENSE_FRAME. -/
def execPsenseFrame (s : State) : Out :=
  act s fun s => psenseFrame s

end Sys2Proof.Machine
end

