-- ==== Sys2Proof/Machine/Events.lean ====
section
/-! DEFINITION. Event records at die 0: host memory and MSI-X vectors, rings, alarms, the always-on log and trace
(R77 to R85, R95, R96, R172, R865 to R870, R936 to R943), with the meanings of their commands. -/

namespace Sys2Proof.Machine

/-! ### Host memory and vectors (R172) -/

/-- The bytes of host memory with `bs` written from `a` on. -/
def hostPut : SMap (Option Byte) → Nat → List Byte → SMap (Option Byte)
  | m, _, [] => m
  | m, a, b :: bs => hostPut (mapPut (fun _ => none) m (a % 2 ^ 64) (some b)) (a + 1) bs

/-- The S9 writes bytes to host memory. -/
def Chip.hostWrite (s : Chip) (a : Nat) (bs : List Byte) : Chip := { s with hostMem := hostPut s.hostMem a bs }

/-- What an unlisted word of the MSI-X table reads as: every vector is masked, as PCI Express has it (PRESUMED).
PRESUMED, log 8. -/
def msixReset (k : Nat) : Word := if k % 4 = 3 then 1 else 0

/-- Word `k` of the MSI-X table. -/
def msixWord (s : Chip) (k : Nat) : Word := mapGet msixReset s.msix k

/-- Vector `v` is masked. -/
def vecMasked (s : Chip) (v : Nat) : Bool := getBits (msixWord s (4 * v + 3)) 0 1 == 1

/-- The message of vector `v`: its data word is written to its address. PRESUMED, log 33. -/
def sendVector (s : Chip) (v : Nat) : Chip :=
  { s.hostWrite ((msixWord s (4 * v)).toNat + 2 ^ 32 * (msixWord s (4 * v + 1)).toNat)
      (leBytes 4 (msixWord s (4 * v + 2)).toNat) with
    pba := mapPut (fun _ => false) s.pba v false }

/-- Signal vector `v`: a masked vector becomes pending (R172). -/
def signalVector (s : Chip) (v : Nat) : Chip :=
  if vecMasked s v then { s with pba := mapPut (fun _ => false) s.pba v true } else sendVector s v

/-- MSIX_VECTOR_UNMASK (R172). -/
def unmaskVector (s : Chip) (v : Nat) : Chip :=
  let k := 4 * v + 3
  let s := { s with msix := mapPut msixReset s.msix k (putBits (msixWord s k) 0 1 0) }
  if mapGet (fun _ => false) s.pba v then sendVector s v else s

/-! ### The bytes of a record (R77, R78) -/

/-- Bits 95 to 92 of a record. -/
def recFlags (r : Rec) (ovf : Bool) : Nat := b2n r.unc + b2n r.basted * 2 + b2n r.g2 * 4 + b2n ovf * 8

/-- The 128 bits of a record. -/
def recNum (r : Rec) (ovf : Bool) : Nat :=
  r.time.toNat + r.src % 2 ^ 12 * 2 ^ 64 + r.kind % 2 ^ 8 * 2 ^ 76 + r.ten.val * 2 ^ 84 + recFlags r ovf * 2 ^ 92 +
    r.pay.toNat * 2 ^ 96

/-- The 96 bits of a record (R78). -/
def recNum96 (r : Rec) (ovf : Bool) : Nat :=
  r.time.toNat % 2 ^ 48 + r.src % 2 ^ 12 * 2 ^ 48 + r.kind % 2 ^ 8 * 2 ^ 60 + r.ten.val * 2 ^ 68 +
    recFlags r ovf * 2 ^ 76 + r.pay.toNat % 2 ^ 16 * 2 ^ 80

/-! ### Rings (R81, R84, R85, R95, R96) -/

/-- The next record of ring `t` carries OVERFLOWED. -/
def ringOvf (s : Chip) (t : Fin 256) : Bool := mapGet (fun _ => false) s.overflowed t.val

/-- Note whether the next record of ring `t` carries OVERFLOWED. -/
def setOvf (s : Chip) (t : Fin 256) (b : Bool) : Chip :=
  { s with overflowed := mapPut (fun _ => false) s.overflowed t.val b }

/-- A record for ring `t` is discarded (R85). -/
def ringLose (s : Chip) (t : Fin 256) : Chip := setOvf (s.addFld 0 (Rf.EVT_RING_LOST_LOST.at t.val) 1) t true

/-- Write a record into ring `t`. An entry that does not lie in installed DRAM is discarded as for a full ring.
DESIGN CHOICE, log 32. -/
def ringWrite (s : Chip) (t : Fin 256) (r : Rec) : Chip :=
  let i := t.val
  let log := s.fld 0 (Rf.EVT_RING_CTL_LOG2SIZE.at i)
  let prod := s.fld 0 (Rf.EVT_RING_PROD_PROD.at i)
  let cons := s.fld 0 (Rf.EVT_RING_CONS_CONS.at i)
  let size := if compatFor s t 1 then 12 else 16
  let base := s.fld64 0 (Rf.EVT_RING_BASE_LO_BASE.at i) (Rf.EVT_RING_BASE_HI_BASE.at i)
  let bytes := leBytes size (if size = 12 then recNum96 r (ringOvf s t) else recNum r (ringOvf s t))
  let at_ := base + prod % 2 ^ log * size
  let inDram := s.flag 0 (Rf.EVT_RING_CTL_TARGET.at i)
  if !s.flag 0 (Rf.EVT_RING_CTL_ENABLE.at i) || (prod + 2 ^ 32 - cons) % 2 ^ 32 == 2 ^ log ||
      (inDram && decide (dramCap s 0 < at_ + size)) then
    ringLose s t
  else
    let s := if inDram then dramStore s 0 at_ (bytes.map some) else s.hostWrite at_ bytes
    (setOvf s t false).setFld 0 (Rf.EVT_RING_PROD_PROD.at i) (prod + 1)

/-- The rings that a record goes to (R931). -/
def ringsOf (r : Rec) : List (Fin 256) :=
  match kindRings r.kind with
  | .ten => [r.ten]
  | .sup => [0]
  | .both => if r.ten = 0 then [0] else [r.ten, 0]
  | .none => []

/-- Write a record into its rings. -/
def deliver (s : Chip) (r : Rec) : Chip := overAll (fun s t => ringWrite s t r) s (ringsOf r)

/-- `a` comes before `b` in the order of R80; records of one package have one package number. -/
def recBefore (a b : Rec) : Bool :=
  decide (a.time.toNat < b.time.toNat) || (a.time == b.time && decide (a.src < b.src))

/-- The records held with one more, in the order of R80: behind those of equal time and source. -/
def mergeIn (r : Rec) : List Rec → List Rec
  | [] => [r]
  | q :: qs => if recBefore r q then r :: q :: qs else q :: mergeIn r qs

/-! ### Trace (R867 to R870, R884) -/

/-- The trace ring takes a record (R870). -/
def traceRing (s : Chip) (r : Rec) : Chip :=
  let wp := s.fld 0 Rf.PLACKET_TR_RING_WP_WP
  let n := 2 ^ s.fld 0 Rf.PLACKET_TR_CTL_LOG2
  let at_ := s.fld64 0 Rf.PLACKET_TR_RING_BASE_LO_BASE Rf.PLACKET_TR_RING_BASE_HI_BASE % 2 ^ 38 + wp % n * 16
  if s.flag 0 Rf.PLACKET_TR_CTL_RINGSTOP && decide (n ≤ wp) then
    traceLost (s.setFld 0 Rf.PLACKET_TR_STAT_RINGFULL 1) false
  else if dramCap s 0 < at_ + 16 then traceLost s false
  else
    let s := dramStore s 0 at_ ((leBytes 16 (recNum r s.trace.overran)).map some)
    { s.setFld 0 Rf.PLACKET_TR_RING_WP_WP (wp + 1) with trace := { s.trace with overran := false } }

/-- The records that wait in the trace FIFO show in TR_STAT (R868). -/
def traceFill (s : Chip) : Chip := s.setFld 0 Rf.PLACKET_TR_STAT_FILL s.trace.fifo.length

/-- A traced record reaches the trace FIFO of die 0 (R868). The ring takes it at once; the port entry waits. -/
def traceRec (s : Chip) (r : Rec) : Chip :=
  let dest := s.fld 0 Rf.PLACKET_TR_CTL_DEST
  if dest = 0 then s
  else if 2048 ≤ s.trace.fifo.length then traceLost s (bit dest 0)
  else
    let s := if bit dest 1 then traceRing s r else s
    if bit dest 0 then
      traceFill { s with trace := { s.trace with fifo := s.trace.fifo ++ [r] } }
    else s

/-- An event record is traced (R867). -/
def traced (s : Chip) (r : Rec) : Bool :=
  bit (s.fld 0 (Rf.PLACKET_TR_KIND_KINDS.at (r.kind / 32))) (r.kind % 32) &&
    bit (s.fld 0 (Rf.PLACKET_TR_TEN_TENANTS.at (r.ten.val / 32))) (r.ten.val % 32)

/-- One packet of the trace port (R869), and whether it carried a record or was IDLE. -/
def tracePacket (k : TraceSt) : TraceSt × Bool :=
  if !k.started || 256 ≤ k.packets then
    ({ k with started := true, packets := 0, out := k.out ++ List.replicate 7 0xFF ++ [0x80] }, false)
  else
    match k.fifo with
    | [] => ({ k with out := k.out ++ [0x00] }, true)
    | e :: es =>
      if k.lostPort = 0 then
        ({ k with fifo := es, packets := k.packets + 1, out := k.out ++ 0xA5 :: leBytes 16 (recNum e false) }, true)
      else
        ({ k with lostPort := 0, packets := k.packets + 1,
                  out := k.out ++ 0xA6 :: leBytes 4 (min k.lostPort (2 ^ 32 - 1)) }, false)

/-- Packets up to the first that carries a record or is IDLE. DEDUCED, log 35. -/
def tracePackets : Nat → TraceSt → TraceSt
  | 0, k => k
  | n + 1, k =>
    let r := tracePacket k
    if r.2 then r.1 else tracePackets n r.1

/-- The trace pins are driven (R869, R895): the port is a destination, its clock runs, and die 0's pins are not off. -/
def tracePins (s : Chip) : Bool :=
  up s 0 && bit (s.fld 0 Rf.PLACKET_TR_CTL_DEST) 0 && s.fld 0 Rf.CFG_STAT_STATE == 2 &&
    netRuns s 0 (s.fld 0 Rf.PLACKET_TR_CTL_CLKNET)

/-- TRACE_PORT_SEND: the port sends the oldest record, with the SYNC and LOST packets due before it. -/
def tracePortSend (s : Chip) : Chip :=
  if tracePins s then traceFill { s with trace := tracePackets 5 { s.trace with out := [] } } else s

/-- TRLOST, at most once per tick (R884). -/
def traceTickStart (s : Chip) : Chip :=
  if s.trace.lostTick = 0 then s
  else raise { s with trace := { s.trace with lostTick := 0 } } 0 0x006 K.TRLOST 0 (min s.trace.lostTick (2 ^ 32 - 1))

/-! ### Records reach die 0 (R81, R83, R936, R939) -/

/-- Latch the alarm of a class D kind (R936, R943). -/
def latchAlarm (s : Chip) (k : Nat) : Chip :=
  let f := Rf.EVT_ALARM_KINDS.at (k / 32)
  let old := s.fld 0 f
  if bit old (k % 32) then s else signalVector (s.setFld 0 f (setBit old (k % 32))) 256

/-- Die 0 holds a record until TIME + W; a later one is written at once and counted (R81, R104).
DEDUCED, log 30. -/
def holdRecord (s : Chip) (r : Rec) : Chip :=
  let age := (s.now 0 - r.time).toNat
  if s.fld 0 Rf.EVT_MERGE_W < age ∧ age < 2 ^ 63 then deliver (s.addFld 0 Rf.EVT_LATE_LATE 1) r
  else { s with merge := mergeIn r s.merge }

/-- A record reaches die 0. -/
def arriveRecord (s : Chip) (r : Rec) : Chip :=
  if r.kind = K.STIM then traceRec s r
  else
    let s := if kindClass r.kind = .d then latchAlarm s r.kind else s
    let s := if kindLogged r.kind then logRecord s r else s
    let s := if traced s r then traceRec s r else s
    if ringsOf r = [] then s else holdRecord s r

/-- EVENT_RECORD: the oldest record on its way from die `d` reaches die 0. -/
def eventRecord (d : Fin 4) (s : Chip) : Chip :=
  if !alive s || !(d == 0 || reaches s d 0) then s
  else
    match (s.d d).fly with
    | r :: rs => arriveRecord (s.upd d fun x => { x with fly := rs }) r
    | [] => s

/-- RECORD_MERGE_RELEASE: the first record held has reached TIME + W. -/
def mergeRelease (s : Chip) : Chip :=
  match s.merge with
  | r :: rs =>
    if alive s && reached s 0 (r.time + BitVec.ofNat 64 (s.fld 0 Rf.EVT_MERGE_W)) then
      deliver { s with merge := rs } r
    else s
  | [] => s

/-- A write of RING_CTL_t (R95). -/
def ringCtlWrite (s : Chip) (i : Fin 256) (v : Word) : Chip :=
  let log := getBits v 0 5
  let bad := s.fld 0 (Rf.EVT_RING_BASE_LO_BASE.at i.val) % 64 ≠ 0 ∨ log < 4 ∨ 16 < log
  ((s.setFld 0 (Rf.EVT_RING_CTL_LOG2SIZE.at i.val) log).setFld 0 (Rf.EVT_RING_CTL_TARGET.at i.val)
    (getBits v 5 1)).setFld 0 (Rf.EVT_RING_CTL_ENABLE.at i.val) (if bad then 0 else getBits v 6 1)

/-- A supervisor's write of ALARM_i (R937). -/
def alarmWrite (s : Chip) (i : Nat) (v : Word) : Chip :=
  let f := Rf.EVT_ALARM_KINDS.at i
  s.setFld 0 f (Nat.land (s.fld 0 f) (0xFFFFFFFF - v.toNat))

/-- The always-on log is emptied (R939). -/
def aolEmpty (s : Chip) : Chip := { s with aol := [] }

/-- Word `w` of the log record that AOL_SEL names; zero when fewer records are held. -/
def aolWord (s : Chip) (w : Nat) : Word :=
  match (s.aol.drop (s.fld 0 Rf.EVT_AOL_SEL_ENTRY)).head? with
  | some r => BitVec.ofNat 32 (recNum r false / 2 ^ (32 * w))
  | none => 0

/-! ### Meanings -/

/-- EVENT_RECORD. -/
def execEventRecord (d : Fin 4) (s : State) : Out :=
  act s fun s => eventRecord d s
/-- RECORD_MERGE_RELEASE. -/
def execRecordMergeRelease (s : State) : Out :=
  act s fun s => mergeRelease s
/-- RING_ENABLE. -/
def execRingEnable (t i : Fin 256) (v : Word) (s : State) : Out :=
  act s fun s => whenGranted s 0 t (Rf.EVT_RING_CTL_ENABLE.at i.val) fun s => ringCtlWrite s i v
/-- ALARM_CLEAR. -/
def execAlarmClear (t : Fin 256) (i : Fin 8) (v : Word) (s : State) : Out :=
  act s fun s => whenSuper s 0 t (Rf.EVT_ALARM_KINDS.at i.val) fun s => alarmWrite s i.val v
/-- AOL_CLEAR. DEDUCED, log 31. -/
def execAolClear (t : Fin 256) (s : State) : Out :=
  act s fun s => whenSuper s 0 t Rf.EVT_AOL_CLR_CLR aolEmpty
/-- TRACE_PORT_SEND. -/
def execTracePortSend (s : State) : Out :=
  act s fun s => tracePortSend s
/-- MSIX_VECTOR_UNMASK. -/
def execMsixVectorUnmask (v : Fin 257) (s : State) : Out :=
  act s fun s => if alive s then unmaskVector s v.val else s

end Sys2Proof.Machine
end

