-- ==== Sys2Proof/Machine/Movers.lean ====
section
/-! DEFINITION. The mover channels of a die: range checks, moves in both directions, MOVE commands on channels 0 and 1 and
register-driven moves on channels 2 and 3 (R371 to R374, R377, R383), with the meanings of their commands. -/

namespace Sys2Proof.Machine

/-- The bytes of a word in the layout of a move (R372). -/
def moveSize (j : MoveJob) : Nat := if j.expanded then 8 else 7

/-- A word in the layout of a move. -/
def moveBytes (j : MoveJob) (q : Quadlane) : List Byte := if j.expanded then expandWord q else packWord q

/-- The word that bytes in the layout of a move spell. -/
def moveWord (j : MoveJob) (bs : List Byte) : Quadlane := if j.expanded then unexpandWord bs else unpackWord bs

/-- The move of channel `m` of die `d`. -/
def Chip.moveAt (s : Chip) (d : Fin 4) (m : Nat) : Option MoveJob := mapGet (fun _ => none) (s.d d).moves m

/-- Replace it. -/
def Chip.setMove (s : Chip) (d : Fin 4) (m : Nat) (j : Option MoveJob) : Chip :=
  s.upd d fun x => { x with moves := mapPut (fun _ => none) x.moves m j }

/-- The lane side of a move's range, when all of it may be accessed (R373, R383). -/
def moveLanes (s : Chip) (d : Fin 4) (j : MoveJob) : Option (Mem × Nat) :=
  if j.lane / 2 ^ 38 = d.val then laneRange s d j.ten (!j.out) true (j.lane % 2 ^ 38) j.len else none

/-- The byte side of a move's range may be accessed (R372, R373, R377). -/
def moveBytesOk (s : Chip) (d : Fin 4) (j : MoveJob) : Bool :=
  (!j.expanded || j.byte % 8 == 0) &&
    (j.cmd.isSome ||
      (j.byte / 2 ^ 38 == d.val && dramRange s d j.ten j.out (j.byte % 2 ^ 38) (j.len * moveSize j)))

/-- The source of the memory that a lane offset names, for an access fault. -/
def laneSource (off : Nat) : Nat :=
  match laneAt off with
  | some (m, l) => memSource m (l / 4)
  | none => 0x000

/-- A move ends with a result of MOV_STAT (1 OK, 2 ACCFLT, 3 POISON) after `done` words (R374, R392). -/
def moveEnd (s : Chip) (d : Fin 4) (m : Nat) (j : MoveJob) (result done : Nat) : Chip :=
  let s := s.setMove d m none
  let s := (s.setFld d (Rf.SPAD_MOV_STAT_BUSY.at m) 0).setFld d (Rf.SPAD_MOV_STAT_RESULT.at m) result
  let s := s.setFld d (Rf.SPAD_MOV_STAT_DONE.at m) done
  match j.cmd with
  | some (cid, irq) =>
    let s := s.setHost j.ten { s.host j.ten with moving := false }
    complete s j.ten
      { cid := cid, status := if result = 1 then 0 else if result = 2 then 6 else 4, die := d, detail := 0, irq := irq }
  | none => s

/-- The registers of channels 0 and 1 read the MOVE command in progress (R392). -/
def showMove (s : Chip) (d : Fin 4) (m : Nat) (j : MoveJob) : Chip :=
  let s := (s.setFld d (Rf.SPAD_MOV_LANE_LO_LANE.at m) (j.lane % 2 ^ 32)).setFld d (Rf.SPAD_MOV_LANE_HI_LANE.at m)
    (j.lane / 2 ^ 32)
  let s := (s.setFld d (Rf.SPAD_MOV_BYTE_LO_ADDR.at m) (j.byte % 2 ^ 32)).setFld d (Rf.SPAD_MOV_BYTE_HI_ADDR.at m)
    (j.byte / 2 ^ 32)
  let s := (s.setFld d (Rf.SPAD_MOV_LEN_WORDS.at m) j.len).setFld d (Rf.SPAD_MOV_CTL_DIR.at m) (b2n j.out)
  (s.setFld d (Rf.SPAD_MOV_CTL_LAYOUT.at m) (b2n j.expanded)).setFld d (Rf.SPAD_MOV_CTL_TENANT.at m) j.ten.val

/-- A move starts on channel `m`: a move of no words is over at once, and a range that fails moves nothing (R373,
R377). -/
def moveStart (s : Chip) (d : Fin 4) (m : Nat) (j : MoveJob) : Chip :=
  let s := if m < 2 then showMove s d m j else s
  if j.len = 0 then moveEnd s d m j 1 0
  else if (moveLanes s d j).isNone then
    moveEnd (accFault s d (laneSource (j.lane % 2 ^ 38)) j.ten j.lane) d m j 2 0
  else if !moveBytesOk s d j then
    moveEnd (accFault s d (if j.cmd.isSome then 0x007 else 0x040) j.ten j.byte) d m j 2 0
  else
    let s := (s.setFld d (Rf.SPAD_MOV_STAT_BUSY.at m) 1).setFld d (Rf.SPAD_MOV_STAT_RESULT.at m) 0
    (s.setFld d (Rf.SPAD_MOV_STAT_DONE.at m) 0).setMove d m (some j)

/-- MOVE commands that wait start on the channel whose turn it is, up to `n` of them (R371). -/
def movesGo : Nat → Chip → Fin 4 → Chip
  | 0, s, _ => s
  | n + 1, s, d =>
    match (s.d d).moveQ with
    | [] => s
    | j :: js =>
      let m := (s.d d).moveTurn
      if (s.moveAt d m).isSome then s
      else movesGo n (moveStart (s.upd d fun x => { x with moveQ := js, moveTurn := 1 - m }) d m j) d

/-- A MOVE command reaches its die. -/
def moveAdd (s : Chip) (d : Fin 4) (j : MoveJob) : Chip :=
  let s := s.upd d fun x => { x with moveQ := x.moveQ ++ [j] }
  movesGo (s.d d).moveQ.length s d

/-- The move that the registers of channel `m` describe. -/
def regMove (s : Chip) (d : Fin 4) (m : Nat) : MoveJob :=
  { ten := Fin.ofNat 256 (s.fld d (Rf.SPAD_MOV_CTL_TENANT.at m))
    cmd := none
    out := s.flag d (Rf.SPAD_MOV_CTL_DIR.at m)
    expanded := s.flag d (Rf.SPAD_MOV_CTL_LAYOUT.at m)
    lane := d.val * 2 ^ 38 + s.fld64 d (Rf.SPAD_MOV_LANE_LO_LANE.at m) (Rf.SPAD_MOV_LANE_HI_LANE.at m)
    byte := s.fld64 d (Rf.SPAD_MOV_BYTE_LO_ADDR.at m) (Rf.SPAD_MOV_BYTE_HI_ADDR.at m)
    len := s.fld d (Rf.SPAD_MOV_LEN_WORDS.at m) }

/-- A permitted write of MOV_CTL_m (R377, R392). -/
def movCtlWrite (s : Chip) (d : Fin 4) (m : Nat) (v : Word) : Chip :=
  if m < 2 || s.flag d (Rf.SPAD_MOV_STAT_BUSY.at m) then s
  else
    let s := (s.setFld d (Rf.SPAD_MOV_CTL_DIR.at m) (getBits v 0 1)).setFld d (Rf.SPAD_MOV_CTL_LAYOUT.at m) (getBits v 1 1)
    let s := s.setFld d (Rf.SPAD_MOV_CTL_TENANT.at m) (getBits v 8 8)
    if bit v.toNat 31 then moveStart s d m (regMove s d m) else s

/-- Words of `size` bytes read from DRAM, up to the first poisoned one: the bytes of each, and the offset of the poisoned
one. -/
def readDramWords : Nat → Chip → Fin 4 → Nat → Nat → Chip × List (List Byte) × Option Nat
  | 0, s, _, _, _ => (s, [], none)
  | n + 1, s, d, off, size =>
    let r := dramFetch s d off size
    match r.2 with
    | some bs =>
      let rest := readDramWords n r.1 d (off + size) size
      (rest.1, bs :: rest.2.1, rest.2.2)
    | none => (r.1, [], some off)

/-- The first `n` bytes of a list, and so on to its end. -/
def chunksOf : Nat → Nat → List Byte → List (List Byte)
  | 0, _, _ => []
  | k + 1, n, bs => bs.take n :: chunksOf k n (bs.drop n)

/-- A move from lane memory to bytes (R259, R374). -/
def moveOut (s : Chip) (d : Fin 4) (m : Nat) (j : MoveJob) (mem : Mem) (w : Nat) : Chip :=
  let r := readRun j.len s d mem w
  let bs := r.2.1.flatMap (moveBytes j)
  let s := if j.cmd.isSome then r.1.hostWrite j.byte bs else dramWriteBytes r.1 d (j.byte % 2 ^ 38) bs
  match r.2.2 with
  | some i => moveEnd (poisonFault s d mem i 0 j.ten) d m j 3 r.2.1.length
  | none => moveEnd s d m j 1 j.len

/-- A move from bytes to lane memory (R261, R262, R374). -/
def moveIn (s : Chip) (d : Fin 4) (m : Nat) (j : MoveJob) (mem : Mem) (w : Nat) (data : List Byte) : Chip :=
  let r := if j.cmd.isSome then (s, chunksOf j.len (moveSize j) data, none)
    else readDramWords j.len s d (j.byte % 2 ^ 38) (moveSize j)
  let s := writeRun r.1 d mem w (r.2.1.map (moveWord j))
  match r.2.2 with
  | some off => moveEnd (dramPoisonFault s d off j.ten) d m j 3 r.2.1.length
  | none => moveEnd s d m j 1 j.len

/-- MOVER_COMPLETE: channel `m` finishes its range or stops on poison. A write waits for INGEST words and for banks that
wake (R262, R361); `data` is what host memory holds for a move from it. -/
def moverComplete (d : Fin 4) (m : Nat) (data : List Byte) (s : Chip) : Chip :=
  whenUp s d fun s =>
    match s.moveAt d m with
    | none => s
    | some j =>
      match laneAt (j.lane % 2 ^ 38) with
      | none => s
      | some (mem, l) =>
        let w := l / 4
        let ready := banksReady s d mem w j.len
        if j.cmd.isSome && !(d == 0 || reaches s d 0) then s
        else if !ready.2 then ready.1
        else if j.out then movesGo (s.d d).moveQ.length (moveOut s d m j mem w) d
        else if runWaits s d mem w j.len || (j.cmd.isSome && data.length != j.len * moveSize j) then s
        else movesGo (s.d d).moveQ.length (moveIn s d m j mem w data) d

/-- MOVER_GO: a write of MOV_CTL_m. -/
def execMoverGo (t : Fin 256) (d : Fin 4) (m : Fin 4) (v : Word) (s : State) : Out :=
  act s fun s => whenGranted s d t (Rf.SPAD_MOV_CTL_GO.at m.val) fun s => movCtlWrite s d m.val v
/-- MOVER_COMPLETE. -/
def execMoverComplete (d : Fin 4) (m : Fin 4) (data : List Byte) (s : State) : Out :=
  act s fun s => moverComplete d m.val data s

end Sys2Proof.Machine
end

