-- ==== Sys2Proof/Machine/Placket.lean ====
section
/-! DEFINITION. Placket: access by lifecycle, halts, steps and cluster state, authentication and the trace settings
(R851 to R870, R874 to R885), with the meanings of their commands. The debug access port is in Debug. -/

namespace Sys2Proof.Machine

/-- Change die `d`'s Yoke. -/
def Chip.onYoke (s : Chip) (d : Fin 4) (f : YokeSt → YokeSt) : Chip := s.upd d fun x => { x with yoke := f x.yoke }

/-! ### Access (R855, R875) -/

/-- Debug is locked (R855). -/
def dbgLocked (s : Chip) : Bool := ((s.d 0).hem.lc == 2 && !authed s) || (s.d 0).hem.lc == 4

/-- The status codes of DBG_STAT. -/
def setDbgStatus (s : Chip) (d : Fin 4) (v : Nat) : Chip := s.setFld d Rf.PLACKET_DBG_STAT_STATUS v

/-- Status LOCKED. -/
abbrev stLocked : Nat := 5

/-- Status NOTHALTED. -/
abbrev stNotHalted : Nat := 7

/-- Run `k` for a PLACKET write of tenant `t` (R855, R875): only the supervisor's counts, and in a locked state the
access ends with status LOCKED. -/
def whenDebug (s : Chip) (d : Fin 4) (t : Fin 256) (f : Fld) (k : Chip → Chip) : Chip :=
  whenSuper s d t f fun s => if dbgLocked s then setDbgStatus s d stLocked else k s

/-! ### The Yoke (R861 to R863, R882) -/

/-- The Yoke of die `d` halts at its address. -/
def haltYoke (s : Chip) (d : Fin 4) (cause bp : Nat) : Chip :=
  let s := (s.onYoke d fun y => { y with halted := true, cause := cause, passBp := false, step := false }).upd d fun x =>
    { x with yHaltReq := none }
  raise s d 0x003 K.DBGHALT 0 ((s.d d).yoke.pc + cause * 2 ^ 14 + bp * 2 ^ 17)

/-- YHALT: the Yoke halts before its next instruction, at once when one is to issue. DEDUCED, log 47. -/
def yokeHalt (s : Chip) (d : Fin 4) : Chip :=
  let y := (s.d d).yoke
  if y.halted then s
  else if y.run && y.wait == .none then haltYoke s d 0 0
  else s.upd d fun x => { x with yHaltReq := if x.yHaltReq.isNone then some 0 else x.yHaltReq }

/-- YRESUME. -/
def yokeResume (s : Chip) (d : Fin 4) : Chip :=
  s.onYoke d fun y => if y.halted then { y with halted := false, cause := 0, passBp := true, step := false } else y

/-- YSTEP: acts only on a halted Yoke. -/
def yokeStep (s : Chip) (d : Fin 4) : Chip :=
  if (s.d d).yoke.halted then s.onYoke d fun y => { y with step := true } else setDbgStatus s d stNotHalted

/-- A write of YREG_i. -/
def yregWrite (s : Chip) (d : Fin 4) (i : Nat) (v : Word) : Chip :=
  if !(s.d d).yoke.halted then setDbgStatus s d stNotHalted
  else if i = 0 then s
  else s.onYoke d fun y => { y with l := mapPut (fun _ => 0) y.l i v }

/-- The word that YREG_i reads: zero unless the Yoke is halted. -/
def yregRead (s : Chip) (d : Fin 4) (i : Nat) : Chip × Word :=
  let y := (s.d d).yoke
  if y.halted then (s, if i = 0 then 0 else mapGet (fun _ => 0) y.l i) else (setDbgStatus s d stNotHalted, 0)

/-! ### Clusters (R861 to R863) -/

/-- The clusters of the set that CLH_SET holds; none when it is malformed (R134). -/
def clhSet (s : Chip) (d : Fin 4) : List (Fin 192) :=
  let first := s.fld d Rf.PLACKET_CLH_SET_FIRST
  let count := s.fld d Rf.PLACKET_CLH_SET_COUNT
  if first ≤ 191 ∧ 1 ≤ count ∧ first + count ≤ 192 then (setOf first count).map (Fin.ofNat 192) else []

/-- HALT of one cluster: an idle or stopping one is left. -/
def haltOne (s : Chip) (d : Fin 4) (c : Fin 192) : Chip :=
  if (s.cluster d c.val).st = .running then haltCluster s d c.val 0 0 else s

/-- RESUME of one cluster: a stopped program leaves it idle, or stopping while accesses are outstanding.
DEDUCED, log 66. -/
def resumeOne (s : Chip) (d : Fin 4) (c : Fin 192) : Chip :=
  let x := s.cluster d c.val
  if x.st ≠ .halted then s
  else if x.killed then s.setCluster d c.val { x with st := if x.xq.isEmpty then .idle else .stopping }
  else s.setCluster d c.val { x with st := .running, passBp := true }

/-- STEP of one cluster: acts only on a halted one. -/
def stepOne (s : Chip) (d : Fin 4) (c : Fin 192) : Chip :=
  if (s.cluster d c.val).st = .halted then stepCluster s d c else setDbgStatus s d stNotHalted

/-- FIRST and COUNT of a CLH_SET write are stored, and `f` acts on the clusters of the set. -/
def onSet (s : Chip) (d : Fin 4) (v : Word) (f : Chip → Fin 4 → Fin 192 → Chip) : Chip :=
  let s := (s.setFld d Rf.PLACKET_CLH_SET_FIRST (getBits v 0 8)).setFld d Rf.PLACKET_CLH_SET_COUNT (getBits v 8 8)
  overAll (fun s c => f s d c) s (clhSet s d)

/-! ### Cluster state through CLSEL (R862, R885) -/

/-- The words of CLDATA that a read of the selected item gives; none where the selection names no item. -/
def clItem (s : Chip) (d : Fin 4) (c cls i lane : Nat) : Option (List Nat) :=
  let x := s.cluster d c
  match cls with
  | 0 => if i < 32 then some [((x.vk i).get lane).toNat] else none
  | 1 => if i < 64 then some [((x.vk (64 + i)).get lane).toNat] else none
  | 2 =>
    if i < 8 then
      let a : AccLane := mapGet (fun _ => {}) x.acc (16 * i + lane)
      some [a.v.toNat % 2 ^ 32, a.v.toNat / 2 ^ 32, b2n a.u + b2n a.o * 2 + a.n % 2 ^ 14 * 2 ^ 16]
    else none
  | 3 => if i < 32 then some [(x.s i).toNat] else none
  | 4 => if i < 8 then some [x.p i] else none
  | 5 =>
    match i with
    | 0 => some [x.pc.toNat]
    | 1 => some [x.wb.toNat]
    | 2 => some [b2n x.mark]
    | 3 => some [b2n x.asat + b2n x.xerr * 2]
    | _ => none
  | 6 => let w := (istoreAt s d c i).toNat; some ((range 0 4).map fun k => w / 2 ^ (32 * k) % 2 ^ 32)
  | _ => none

/-- The cluster after a write of the selected item. -/
def clPut (x : Cluster) (cls i lane : Nat) (w : Nat → Nat) : Cluster :=
  let vec := fun (k : Nat) => { x with
    vec := mapPut (fun _ => vec0) x.vec k ((x.vk k).set lane (BitVec.ofNat 14 (w 0))) }
  match cls with
  | 0 => if i < 32 then vec i else x
  | 1 => if i < 64 then vec (64 + i) else x
  | 2 =>
    if i < 8 then
      { x with acc := mapPut (fun _ => {}) x.acc (16 * i + lane)
                        { v := BitVec.ofNat 56 (w 0 + w 1 * 2 ^ 32), u := bit (w 2) 0, o := bit (w 2) 1,
                          n := w 2 / 2 ^ 16 % 2 ^ 14 } }
    else x
  | 3 => if i < 32 then { x with sreg := mapPut (fun _ => 0) x.sreg i (BitVec.ofNat 28 (w 0)) } else x
  | 4 => if 1 ≤ i ∧ i < 8 then { x with preg := mapPut (fun _ => 0) x.preg i (BitVec.ofNat 16 (w 0)) } else x
  | 5 =>
    match i with
    | 0 => { x with pc := BitVec.ofNat 12 (w 0) }
    | 1 => { x with wb := BitVec.ofNat 6 (w 0) }
    | 2 => { x with mark := bit (w 0) 0 }
    | 3 => { x with asat := bit (w 0) 0, xerr := bit (w 0) 1 }
    | _ => x
  | _ => x

/-- The selection of CLSEL may be used: the cluster is halted, or idle for its instruction store. -/
def clReach (s : Chip) (d : Fin 4) (c cls : Nat) : Bool :=
  (s.cluster d c).st == .halted || (cls == 6 && (s.cluster d c).st == .idle)

/-- Store the selection of a CLSEL write. -/
def clSelect (s : Chip) (d : Fin 4) (v : Word) : Chip :=
  s.setReg d Rf.PLACKET_CLSEL_GO.key (BitVec.ofNat 32 (v.toNat % 2 ^ 27 + getBits v 28 2 * 2 ^ 28))

/-- A CLSEL operation with GO: reads into CLDATA, or writes from it. -/
def clselGo (s : Chip) (d : Fin 4) (wr : Bool) (v : Word) : Chip :=
  let s := clSelect s d v
  let c := getBits v 0 8
  let cls := getBits v 8 3
  let i := getBits v 11 12
  let lane := getBits v 23 4
  if 192 ≤ c then s
  else if !clReach s d c cls then setDbgStatus s d stNotHalted
  else if wr then
    let w := fun k => s.fld d (Rf.PLACKET_CLDATA_DATA.at k)
    if cls = 6 then
      putBundle s d c i (BitVec.ofNat 128 (w 0 + w 1 * 2 ^ 32 + w 2 * 2 ^ 64 + w 3 * 2 ^ 96))
    else s.setCluster d c (clPut (s.cluster d c) cls i lane w)
  else
    match clItem s d c cls i lane with
    | some ws => overAll (fun s p => s.setFld d (Rf.PLACKET_CLDATA_DATA.at p.1) p.2) s ((range 0 4).zip ws)
    | none => s

/-- A write of CLSEL: OP 1 reads, OP 2 writes, and no other acts. -/
def clselWrite (s : Chip) (d : Fin 4) (v : Word) : Chip :=
  let op := getBits v 28 2
  if bit v.toNat 31 && (op == 1 || op == 2) then clselGo s d (op == 2) v else clSelect s d v

/-! ### HALT_CTL and CLH_SET as registers -/

/-- A write of HALT_CTL. -/
def haltCtlWrite (s : Chip) (d : Fin 4) (v : Word) : Chip :=
  let s := (s.setFld d Rf.PLACKET_HALT_CTL_RSTHALT (getBits v 3 1)).setFld d Rf.PLACKET_HALT_CTL_XHALT (getBits v 4 1)
  let s := if d = 0 then s.setFld d Rf.PLACKET_HALT_CTL_TICKHOLD (getBits v 5 1) else s
  let s := if bit v.toNat 0 then yokeHalt s d else s
  let s := if bit v.toNat 1 then yokeResume s d else s
  if bit v.toNat 2 then yokeStep s d else s

/-- A write of CLH_SET. -/
def clhWrite (s : Chip) (d : Fin 4) (v : Word) : Chip :=
  let s := onSet s d v fun s d c =>
    let s := if bit v.toNat 16 then haltOne s d c else s
    if bit v.toNat 17 then resumeOne s d c else s
  if bit v.toNat 18 then onSet s d v stepOne else s

/-! ### Authentication (R856, R857, R879, R883) -/

/-- NEWCHAL: a new random challenge, eight open words. DESIGN CHOICE, log 186. -/
def authNewchal (s : Chip) : Chip :=
  let s' := overAll (fun s i => s.setFld 0 (Rf.PLACKET_AUTH_CHAL_CHAL.at i) (Config.freeWord (s.free + i)).toNat) s (range 0 8)
  { s' with free := s.free + 8 }.setFld 0 Rf.PLACKET_AUTH_STAT_CHALVALID 1

/-- The bytes of `n` registers of a family, byte 4n in bits 7..0 of word n. -/
def regBytes (s : Chip) (f : Fld) (n : Nat) : List Byte := (range 0 n).flatMap fun i => leBytes 4 (s.fld 0 (f.at i))

/-- The RESULT that an attempt ends with. -/
def authResult (s : Chip) : Nat :=
  if s.flag 0 Rf.PLACKET_AUTH_STAT_LOCKOUT || (s.d 0).hem.lc == 4 then 5
  else if !s.flag 0 Rf.PLACKET_AUTH_STAT_CHALVALID then 4
  else
    let key := regBytes s Rf.PLACKET_AUTH_KEY_KEY 24
    if rowsFailed s 8 || !hashProgrammed s || Config.sha256 key != hemKey s 8 then 2
    else if Config.ecdsaOk key (regBytes s Rf.PLACKET_AUTH_CHAL_CHAL 8 ++ [0x50, 0x4C, 0x4B, 0x54])
        (regBytes s Rf.PLACKET_AUTH_SIG_SIG 24) then 1
    else 3

/-- GO of AUTH_CTL. DEDUCED, log 187. -/
def authGo (s : Chip) : Chip :=
  if s.flag 0 Rf.PLACKET_AUTH_STAT_BUSY then s
  else
    { (s.setFld 0 Rf.PLACKET_AUTH_STAT_CHALVALID 0).setFld 0 Rf.PLACKET_AUTH_STAT_BUSY 1 with auth := some (authResult s) }

/-- AUTH_DONE: within 5 ms, RESULT reads the outcome. A refused attempt is not counted. -/
def authDone (s : Chip) : Chip :=
  match s.auth with
  | none => s
  | some r =>
    let s := { s with auth := none }.setFld 0 Rf.PLACKET_AUTH_STAT_BUSY 0 |>.setFld 0 Rf.PLACKET_AUTH_STAT_RESULT r
    if r = 1 then raise (s.setFld 0 Rf.PLACKET_AUTH_STAT_AUTHED 1) 0 0x000 K.DBGAUTH 0 0
    else
      let s := if r = 5 then s else s.addFld 0 Rf.PLACKET_AUTH_STAT_FAILS 1
      let n := s.fld 0 Rf.PLACKET_AUTH_STAT_FAILS
      let s := if 8 ≤ n then s.setFld 0 Rf.PLACKET_AUTH_STAT_LOCKOUT 1 else s
      raise s 0 0x000 K.DBGAUTHF 0 (r + n * 2 ^ 4)

/-! ### Trace settings (R868, R869, R876) -/

/-- DEST has changed: an entry leaves the FIFO when no destination waits for it, and the port stops without DEST. -/
def traceDest (s : Chip) : Chip :=
  if bit (s.fld 0 Rf.PLACKET_TR_CTL_DEST) 0 then s
  else traceFill { s with trace := { s.trace with fifo := [], started := false, packets := 0 } }

/-- A write of TR_CTL by tenant `t`. DESIGN CHOICE, log 34. -/
def traceCtlWrite (s : Chip) (t : Fin 256) (v : Word) : Chip :=
  let dest := getBits v 0 2
  let log := getBits v 8 5
  let f := nominalOf s 0 (s.net 0 (getBits v 2 4)).src
  let s := (s.setFld 0 Rf.PLACKET_TR_CTL_CLKNET (getBits v 2 4)).setFld 0 Rf.PLACKET_TR_CTL_RINGSTOP (getBits v 6 1)
  let s := if bit dest 0 && !f.atMost 400000 then refusedWrite s 0 t Rf.PLACKET_TR_CTL_DEST
    else traceDest (s.setFld 0 Rf.PLACKET_TR_CTL_DEST dest)
  if log < 10 ∨ 24 < log then refusedWrite s 0 t Rf.PLACKET_TR_CTL_LOG2 else s.setFld 0 Rf.PLACKET_TR_CTL_LOG2 log

/-- A write of the low word of the ring base (R876). -/
def traceBaseWrite (s : Chip) (t : Fin 256) (v : Word) : Chip :=
  if v.toNat % 64 = 0 then s.setFld 0 Rf.PLACKET_TR_RING_BASE_LO_BASE v.toNat
  else refusedWrite s 0 t Rf.PLACKET_TR_RING_BASE_LO_BASE

/-! ### The end of every halt (R852) -/

/-- Every halt on die `d` ends: a halted cluster becomes idle. -/
def endHalts (s : Chip) (d : Fin 4) : Chip :=
  s.upd d fun x =>
    { x with
      yHaltReq := none
      yoke := { x.yoke with halted := false, cause := 0, step := false, passBp := false }
      clusters := mapEach cluster0 (fun _ c =>
        if c.st = .halted then { c with st := .idle, xq := [], haltReq := none } else { c with haltReq := none })
        x.clusters }

/-! ### Meanings -/

/-- YOKE_HALT. -/
def execYokeHalt (t : Fin 256) (d : Fin 4) (s : State) : Out :=
  act s fun s => whenDebug s d t Rf.PLACKET_HALT_CTL_YHALT fun s => yokeHalt s d
/-- YOKE_RESUME. -/
def execYokeResume (t : Fin 256) (d : Fin 4) (s : State) : Out :=
  act s fun s => whenDebug s d t Rf.PLACKET_HALT_CTL_YRESUME fun s => yokeResume s d
/-- YOKE_STEP. -/
def execYokeStep (t : Fin 256) (d : Fin 4) (s : State) : Out :=
  act s fun s => whenDebug s d t Rf.PLACKET_HALT_CTL_YSTEP fun s => yokeStep s d
/-- CLUSTER_HALT. -/
def execClusterHalt (t : Fin 256) (d : Fin 4) (v : Word) (s : State) : Out :=
  act s fun s => whenDebug s d t Rf.PLACKET_CLH_SET_HALT fun s => onSet s d v haltOne
/-- CLUSTER_RESUME. -/
def execClusterResume (t : Fin 256) (d : Fin 4) (v : Word) (s : State) : Out :=
  act s fun s => whenDebug s d t Rf.PLACKET_CLH_SET_RESUME fun s => onSet s d v resumeOne
/-- CLUSTER_STEP. -/
def execClusterStep (t : Fin 256) (d : Fin 4) (v : Word) (s : State) : Out :=
  act s fun s => whenDebug s d t Rf.PLACKET_CLH_SET_STEP fun s => onSet s d v stepOne
/-- YREG_WRITE. -/
def execYregWrite (t : Fin 256) (d : Fin 4) (i : Fin 16) (v : Word) (s : State) : Out :=
  act s fun s => whenDebug s d t (Rf.PLACKET_YREG_L.at i.val) fun s => yregWrite s d i.val v
/-- CLSEL_READ. -/
def execClselRead (t : Fin 256) (d : Fin 4) (v : Word) (s : State) : Out :=
  act s fun s => whenDebug s d t Rf.PLACKET_CLSEL_GO fun s => clselGo s d false (putBits v 28 2 1)
/-- CLSEL_WRITE. -/
def execClselWrite (t : Fin 256) (d : Fin 4) (v : Word) (s : State) : Out :=
  act s fun s => whenDebug s d t Rf.PLACKET_CLSEL_GO fun s => clselGo s d true (putBits v 28 2 2)
/-- AUTH_NEWCHAL. -/
def execAuthNewchal (t : Fin 256) (s : State) : Out :=
  act s fun s => whenSuper s 0 t Rf.PLACKET_AUTH_CTL_NEWCHAL authNewchal
/-- AUTH_GO. -/
def execAuthGo (t : Fin 256) (s : State) : Out :=
  act s fun s => whenSuper s 0 t Rf.PLACKET_AUTH_CTL_GO authGo
/-- AUTH_DONE. -/
def execAuthDone (s : State) : Out :=
  act s fun s => whenUp s 0 authDone
/-- TRACE_CTL_WRITE. -/
def execTraceCtlWrite (t : Fin 256) (v : Word) (s : State) : Out :=
  act s fun s => whenDebug s 0 t Rf.PLACKET_TR_CTL_DEST fun s => traceCtlWrite s t v

end Sys2Proof.Machine
end

