-- ==== Sys2Proof/Machine/Yoke.lean ====
section
/-! DEFINITION. The Yoke: how an instruction issues, the operations that the ROM scheduler shares with it, and the meaning
of every instruction but LDR and STR (R114 to R140, R175 to R186). -/

namespace Sys2Proof.Machine

/-! ### Registers and result codes (R114, R124) -/

/-- Register l[A]; l0 reads 0. -/
def YokeSt.get (y : YokeSt) (A : Nat) : Word := if A = 0 then 0 else mapGet (fun _ => 0) y.l A

/-- The Yoke with l[D] written; writes to l0 are ignored. -/
def YokeSt.put (y : YokeSt) (D : Nat) (v : Word) : YokeSt :=
  if D = 0 then y else { y with l := mapPut (fun _ => 0) y.l D v }

/-- l[A] of die `d`'s Yoke. -/
def Chip.l (s : Chip) (d : Fin 4) (A : Nat) : Word := (s.d d).yoke.get A

/-- Write l[D]. -/
def Chip.setL (s : Chip) (d : Fin 4) (D : Nat) (v : Word) : Chip := s.onYoke d fun y => y.put D v

/-- Write a result code into l15. -/
def Chip.code (s : Chip) (d : Fin 4) (c : Nat) : Chip := s.setL d 15 (BitVec.ofNat 32 c)

/-- The tenant that a register names (R126). -/
def tenOf (v : Word) : Option (Fin 256) := if v.toNat < 256 then some (Fin.ofNat 256 v.toNat) else none

/-- The local source of the Yoke (R79). -/
abbrev yokeSrc : Nat := 0x003

/-! ### Issue (R115, R116, R118, R861, R862) -/

/-- The tick program of die `d` has an instruction to issue. -/
def yokeReady (s : Chip) (d : Fin 4) : Bool :=
  let y := (s.d d).yoke
  up s d && y.run && y.prog && ticking s d && y.wait == .none && (!y.halted || y.step)

/-- The breakpoint at the Yoke's address (R861, R885). -/
def yBreak (s : Chip) (d : Fin 4) : Option Nat :=
  (range 0 4).find? fun n =>
    s.flag d (Rf.PLACKET_YBP_EN.at n) && s.fld d (Rf.PLACKET_YBP_ADDR.at n) == (s.d d).yoke.pc

/-- An instruction has issued in a STEP: the Yoke halts again, at once or before the next instruction (R862). -/
def yStepped (s : Chip) (d : Fin 4) : Chip :=
  let y := (s.d d).yoke
  if y.run && y.wait == .none then haltYoke s d 1 0
  else (s.onYoke d fun y => { y with halted := false, step := false }).upd d fun x => { x with yHaltReq := some 1 }

/-- What an instruction does: the state after it, or none where it does not issue yet. `k` runs with the address already
moved to the next word. -/
def yGo (s : Chip) (d : Fin 4) (k : Chip → Chip × Bool) : Chip :=
  let y := (s.d d).yoke
  let r := k (s.onYoke d fun y => { y with pc := (y.pc + 1) % 16384, passBp := false })
  let s' := if r.2 then r.1 else r.1.onYoke d fun z => { z with pc := y.pc, passBp := y.passBp }
  if y.halted && r.2 then yStepped s' d else s'

/-- The Yoke of die `d` is about to issue an instruction: a halt that is asked for or a breakpoint stops it first. -/
def yIssue (d : Fin 4) (k : Chip → Chip × Bool) (s : Chip) : Chip :=
  if !yokeReady s d then s
  else if (s.d d).yoke.halted then yGo s d k
  else
    match (s.d d).yHaltReq with
    | some cause => haltYoke s d cause 0
    | none =>
      match if (s.d d).yoke.passBp then none else yBreak s d with
      | some n =>
        let s := haltYoke s d 2 n
        if s.flag d Rf.PLACKET_HALT_CTL_XHALT then crossTrigger s else s
      | none => yGo s d k

/-- An instruction that always issues. -/
def yPlain (d : Fin 4) (k : Chip → Chip) (s : Chip) : Chip := yIssue d (fun s => (k s, true)) s

/-! ### Control (R121, R123) -/

/-- Jump. -/
def yJump (s : Chip) (d : Fin 4) (T : Nat) : Chip := s.onYoke d fun y => { y with pc := T % 16384 }

/-- END: the tick program ends; its address stays. -/
def yEnds (s : Chip) (d : Fin 4) : Chip := s.onYoke d fun y => { y with run := false, pc := (y.pc + 16383) % 16384 }

/-- K sign-extended to a word (R121). -/
def sextK (K : BitVec 18) : Word := K.signExtend 32

/-- K zero-extended to a word (R121). -/
def zextK (K : BitVec 18) : Word := K.zeroExtend 32

/-- A branch. -/
def yBranch (s : Chip) (d : Fin 4) (c : Bool) (T : Nat) : Chip := if c then yJump s d T else s

/-! ### Time (R123, R175) -/

/-- WAITT: stall until the tick offset is at least `off`. -/
def yWait (s : Chip) (d : Fin 4) (off : Nat) : Chip :=
  if off ≤ elapsed s d then s else s.onYoke d fun y => { y with wait := .till off }

/-- WAITT_RESUME. DEDUCED, log 48. -/
def waittResume (d : Fin 4) (s : Chip) : Chip :=
  whenUp s d fun s =>
    match (s.d d).yoke.wait with
    | .till off => if off ≤ elapsed s d then s.onYoke d fun y => { y with wait := .none } else s
    | _ => s

/-- The values of RDT by F; an F above 3 names none and is an open value. DESIGN CHOICE, log 53. -/
def yRdtValue (s : Chip) (d : Fin 4) (F : Nat) : Word :=
  match F with
  | 0 => BitVec.ofNat 32 (elapsed s d)
  | 1 => BitVec.ofNat 32 (s.d d).tick.num.toNat
  | 2 => BitVec.ofNat 32 (s.now d).toNat
  | 3 => BitVec.ofNat 32 ((s.now d).toNat / 2 ^ 32)
  | _ => Config.freeWord s.free

/-- RDT. -/
def yRdt (s : Chip) (d : Fin 4) (D F : Nat) : Chip :=
  let v := yRdtValue s d F
  (if 3 < F then s.took else s).setL d D v

/-! ### Acquisition (R129 to R132, R185) -/

/-- ARM for a tenant: the result code (R451), or 16 while a bank of the descriptor is not ON (R361). -/
def armFor (s : Chip) (d : Fin 4) (lane : Nat) (t : Fin 256) (laser : Bool) : Chip × Nat :=
  let r := armCapture s d lane t laser
  (if r.2.code = 4 then absentFault r.1 d yokeSrc t r.2.unit r.2.feat d else r.1, r.2.code)

/-- FIRE on output `D`, charged to tenant `t` where the outputs are absent (R132, R185).
DESIGN CHOICE, log 51. -/
def fireFor (s : Chip) (d : Fin 4) (D edge width : Nat) (t : Fin 256) : Chip × Nat :=
  if d ≠ 0 ∨ !present s 0 8 then (absentFault s d yokeSrc t 8 0xFF d, 4)
  else if !feature s 0 2 then (absentFault s d yokeSrc t 8 2 d, 4)
  else if 3 < D then (s, 9)
  else firePulse s D edge width

/-- ACQST of channel `ch`: what is absent, if anything. -/
def acqstAbsent (s : Chip) (d : Fin 4) (ch : Nat) : Option Nat :=
  if !present s d 8 ∨ 9 < ch then some 0xFF
  else if ch < 2 ∧ !feature s d 0 then some 0
  else if 2 ≤ ch ∧ !feature s d 1 then some 1
  else none

/-- ACQST. -/
def yAcqst (s : Chip) (d : Fin 4) (D A : Nat) : Chip :=
  match acqstAbsent s d (s.l d A).toNat with
  | some feat => ((absentFault s d yokeSrc 0 8 feat d).setL d D 0).code d 4
  | none => (s.setL d D (acqstWord s d (s.l d A).toNat)).code d 0

/-! ### Dispatch (R133 to R136, R178, R179, R181, R186) -/

/-- The work queue of tenant `t` on die `d`. -/
def Chip.workOf (s : Chip) (d : Fin 4) (t : Fin 256) : List WorkItem := mapGet (fun _ => []) (s.d d).workq t.val

/-- Replace it. -/
def Chip.setWork (s : Chip) (d : Fin 4) (t : Fin 256) (q : List WorkItem) : Chip :=
  s.upd d fun x => { x with workq := mapPut (fun _ => []) x.workq t.val q }

/-- A cluster set value is well formed (R134): its first cluster and its count. -/
def clusterSet (v : Nat) : Option (Nat × Nat) :=
  let first := v % 256
  let count := v / 256 % 256
  if first ≤ 191 ∧ 1 ≤ count ∧ first + count ≤ 192 then some (first, count) else none

/-- Tenant `t` has a capture armed in this tick under a capture basis (R254). -/
def captureBasis (s : Chip) (d : Fin 4) (t : Fin 256) : Bool :=
  (s.d d).caps.any fun e => match e.2 with
    | some c => c.basis && c.ten == t && !c.abandoned && c.tickStart == (s.d d).tick.start && c.tick == (s.d d).tick.num
    | none => false

/-- The DEFER event of a refused reservation (R186, R210). -/
def deferEvent (s : Chip) (d : Fin 4) (t : Fin 256) (cid reason : Nat) : Chip :=
  raise s d yokeSrc K.DEFER t (cid + d.val * 2 ^ 16 + reason * 2 ^ 18)

/-- The checks of DISP before the work queue's (R133 steps 1 to 3). -/
def dispEarly (s : Chip) (d : Fin 4) (t : Fin 256) : Option Nat :=
  let phase := (s.d d).tick.phase
  if !tenEnabled s t then some 8
  else if tenFaulted s t then some 6
  else if phase ≠ .acquire ∧ phase ≠ .process then some 5
  else none

/-- Some cluster of a set is running or stopping; a halted one counts as running (R133, R863). -/
def setBusy (s : Chip) (d : Fin 4) (first count : Nat) : Bool :=
  (setOf first count).any fun c => (s.cluster d c).st != .idle

/-- An item starts on its set (R133 step 8). -/
def startItem (s : Chip) (d : Fin 4) (it : WorkItem) : Chip :=
  let id := (s.d d).items
  let pre := (s.d d).tick.phase == .acquire && captureBasis s d it.ten
  let s := s.upd d fun x =>
    { x with
      items := id + 1
      ran := x.ran ++ [{ id := id, item := it, left := it.count, status := 0, detail := 0, basted := false,
                         told := it.cmd.isNone, unpicking := false }] }
  overAll (fun s c => startCluster s d it id none pre c) s (setOf it.first it.count)

/-- An item is dispatched to a set (R133 steps 5 to 8, R135): the result code. -/
def dispItem (s : Chip) (d : Fin 4) (it : WorkItem) (set : Nat) (cid : Nat) : Chip × Nat :=
  match clusterSet set with
  | none => (s, 9)
  | some (first, count) =>
    if setBusy s d first count then (s, 3)
    else
      let r := dispReserve s d it.ten (correctedCost s d it.cost count)
      match r.2 with
      | some reason => (deferEvent r.1 d it.ten cid reason, 1)
      | none => (startItem r.1 d { it with first := first, count := count }, 0)

/-- The CID of an item. -/
def WorkItem.cid (it : WorkItem) : Nat := (it.cmd.getD (0, false)).1.toNat

/-- DISP for a tenant: the result code and the CID. -/
def dispFor (s : Chip) (d : Fin 4) (t : Fin 256) (set : Nat) : Chip × Nat × Nat :=
  match dispEarly s d t with
  | some c => (s, c, 0)
  | none =>
    match s.workOf d t with
    | [] => (s, 2, 0)
    | it :: rest =>
      let r := dispItem s d it set it.cid
      (if r.2 = 0 then r.1.setWork d t rest else r.1, r.2, it.cid)

/-- DISP. -/
def yDisp (s : Chip) (d : Fin 4) (D A B : Nat) : Chip :=
  match tenOf (s.l d A) with
  | none => s.code d 9
  | some t =>
    let r := dispFor s d t (s.l d B).toNat
    (if r.2.1 = 0 then r.1.setL d D (BitVec.ofNat 32 r.2.2) else r.1).code d r.2.1

/-! ### Verdicts and the ledger (R126, R137, R207 to R210, R230) -/

/-- STITCH and UNPICK. -/
def yVerdict (s : Chip) (d : Fin 4) (A : Nat) (stitch : Bool) : Chip :=
  match tenOf (s.l d A) with
  | none => s.code d 9
  | some t =>
    let r := verdict s d t stitch
    r.1.code d (if r.2 then 0 else 5)

/-- DRAW of `x` nJ for a tenant: the result code. -/
def drawFor (s : Chip) (d : Fin 4) (t : Fin 256) (x : Nat) : Chip × Nat :=
  if !tenEnabled s t then (s, 8)
  else if tenFaulted s t then (s, 6)
  else
    let r := drawReserve s d t x
    match r.2 with
    | some reason => (deferEvent r.1 d t 0xFFFF reason, 1)
    | none => (r.1, 0)

/-- DRAW. -/
def yDraw (s : Chip) (d : Fin 4) (A B : Nat) : Chip :=
  match tenOf (s.l d A) with
  | none => s.code d 9
  | some t =>
    let r := drawFor s d t (s.l d B).toNat
    r.1.code d r.2

/-- LEDGER. -/
def yLedger (s : Chip) (d : Fin 4) (D A F : Nat) : Chip :=
  s.setL d D (match tenOf (s.l d A) with
    | some t => ledgerFigure s d t F
    | none => 0)

/-! ### The scratchpad (R127, R128, R361, R778) -/

/-- The access fault of LDL and STL: tenant 0 is charged, and the program continues (R119). -/
def yLaneFault (s : Chip) (d : Fin 4) (lane : Nat) : Chip :=
  accFault s d yokeSrc 0 (d.val * 2 ^ 38 + 0x2000000000 + lane)

/-- A posted STR to another die has not completed: accesses complete in issue order (R127). -/
def yPosted (s : Chip) (d : Fin 4) : Bool :=
  s.remotes.any fun a => a.die == d && !a.abandoned && (match a.init with
    | .yoke _ => true
    | _ => false)

/-- LDL: it waits while the bank wakes. -/
def yLdl (s : Chip) (d : Fin 4) (D lane : Nat) : Chip × Bool :=
  if yPosted s d then (s, false)
  else if memWords .spad * 4 ≤ lane then (((yLaneFault s d lane).setL d D 0).code d 11, true)
  else
    let r := readMem s d .spad (lane / 4) (2 ^ (lane % 4)) .outside
    match r.2 with
    | .val q _ => ((r.1.setL d D ((getLane q (lane % 4)).signExtend 32)).code d 0, true)
    | .poison => (((poisonFault r.1 d .spad (lane / 4) (lane % 4) 0).setL d D 0).code d 11, true)
    | .stall => (r.1, false)

/-- STL: it waits while the bank wakes and for an INGEST word. -/
def yStl (s : Chip) (d : Fin 4) (D lane : Nat) : Chip × Bool :=
  if yPosted s d then (s, false)
  else if memWords .spad * 4 ≤ lane then ((yLaneFault s d lane).code d 11, true)
  else
    let r := writeMem s d .spad (lane / 4) (2 ^ (lane % 4)) (splatLane (BitVec.ofNat 14 (s.l d D).toNat)) .plain
    if r.2 = .done then (r.1.code d 0, true) else (r.1, false)

/-! ### Messages and service calls (R138, R139) -/

/-- SEND of a word to the mailbox of die `e`. Messages under way count against its 8 places.
DEDUCED, log 49. -/
def ySend (s : Chip) (d e : Fin 4) (v : Word) : Chip :=
  let y := (s.d e).yoke
  if e ≠ d ∧ !(up s e && reaches s d e) then s.code d 7
  else if 8 ≤ y.mail.length + y.mailFly.length then s.code d 3
  else if e = d then (s.onYoke d fun y => { y with mail := y.mail ++ [v] }).code d 0
  else (s.onYoke e fun y => { y with mailFly := y.mailFly ++ [v] }).code d 0

/-- MAILBOX_MESSAGE: the oldest message under way to die `d` arrives. -/
def mailArrive (d : Fin 4) (s : Chip) : Chip :=
  whenUp s d fun s => s.onYoke d fun y =>
    match y.mailFly with
    | v :: vs => if y.mail.length < 8 then { y with mail := y.mail ++ [v], mailFly := vs } else y
    | [] => y

/-- RECV. DEDUCED, log 50. -/
def yRecv (s : Chip) (d : Fin 4) (D : Nat) : Chip :=
  match (s.d d).yoke.mail with
  | v :: vs => ((s.onYoke d fun y => { y with mail := vs }).setL d D v).code d 0
  | [] => s.code d 2

/-- SVC ILKCLR: die 0 only. -/
def yIlkclr (s : Chip) (d : Fin 4) : Chip :=
  if d = 0 ∧ present s 0 9 then (ilkClear s).code d 0 else (absentFault s d yokeSrc 0 9 0xFF d).code d 4

/-! ### RELOAD (R140, R781) -/

/-- RELOAD: its operands are checked at issue; before SLACK it stalls, and in SLACK it is judged at once.
DEDUCED, log 52. -/
def yReload (s : Chip) (d : Fin 4) (a b : Nat) : Chip :=
  let r := a % 64
  let e : Fin 4 := Fin.ofNat 4 (a / 256)
  let addr := e.val * 2 ^ 38 + b * 64
  if a / 64 % 4 ≠ 0 ∨ a / 1024 ≠ 0 ∨ !s.flag d (Rf.CLK_REGION_VALID.at r) then s.code d 9
  else if !present s e 0x0F then (absentFault s d yokeSrc 0 0x0F 0xFF e).code d 4
  else if (s.d d).tick.phase = .slack then
    let q := judgeReload s d r addr
    q.1.code d q.2
  else s.onYoke d fun y => { y with wait := .slack r addr }

/-- A RELOAD that stalls is judged at the start of SLACK, after the Darner's reloads. -/
def reloadAtSlack (s : Chip) (d : Fin 4) : Chip :=
  match (s.d d).yoke.wait with
  | .slack r addr =>
    let q := judgeReload s d r addr
    (q.1.onYoke d fun y => { y with wait := .none }).code d q.2
  | _ => s

/-- An illegal opcode: YOKEFLT, and the program ends as if END had issued (R184). DEDUCED, log 56. -/
def yIllegal (s : Chip) (d : Fin 4) : Chip :=
  let s := yEnds s d
  raise s d yokeSrc K.YOKEFLT 0 (s.d d).yoke.pc

/-! ### Meanings -/

/-- NOP. -/
def execYNop (d : Fin 4) (s : State) : Out :=
  act s fun s => yPlain d (fun s => s) s
/-- END. -/
def execYEnd (d : Fin 4) (s : State) : Out :=
  act s fun s => yPlain d (fun s => yEnds s d) s
/-- J. -/
def execYJ (d : Fin 4) (T : BitVec 14) (s : State) : Out :=
  act s fun s => yPlain d (fun s => yJump s d T.toNat) s
/-- BEQ. -/
def execYBeq (d : Fin 4) (A B : Fin 16) (T : BitVec 14) (s : State) : Out :=
  act s fun s => yPlain d (fun s => yBranch s d (s.l d A.val == s.l d B.val) T.toNat) s
/-- BNE. -/
def execYBne (d : Fin 4) (A B : Fin 16) (T : BitVec 14) (s : State) : Out :=
  act s fun s => yPlain d (fun s => yBranch s d (s.l d A.val != s.l d B.val) T.toNat) s
/-- BLT: signed. -/
def execYBlt (d : Fin 4) (A B : Fin 16) (T : BitVec 14) (s : State) : Out :=
  act s fun s => yPlain d (fun s => yBranch s d ((s.l d A.val).slt (s.l d B.val)) T.toNat) s
/-- BGE: signed. -/
def execYBge (d : Fin 4) (A B : Fin 16) (T : BitVec 14) (s : State) : Out :=
  act s fun s => yPlain d (fun s => yBranch s d (!(s.l d A.val).slt (s.l d B.val)) T.toNat) s
/-- JL: l[D] takes the address of the next word. -/
def execYJl (d : Fin 4) (D : Fin 16) (T : BitVec 14) (s : State) : Out :=
  act s fun s => yPlain d (fun s => yJump (s.setL d D.val (BitVec.ofNat 32 (s.d d).yoke.pc)) d T.toNat) s
/-- JR. -/
def execYJr (d : Fin 4) (A : Fin 16) (s : State) : Out :=
  act s fun s => yPlain d (fun s => yJump s d (s.l d A.val).toNat) s
/-- ADD. -/
def execYAdd (d : Fin 4) (D A B : Fin 16) (s : State) : Out :=
  act s fun s => yPlain d (fun s => s.setL d D.val (s.l d A.val + s.l d B.val)) s
/-- SUB. -/
def execYSub (d : Fin 4) (D A B : Fin 16) (s : State) : Out :=
  act s fun s => yPlain d (fun s => s.setL d D.val (s.l d A.val - s.l d B.val)) s
/-- AND. -/
def execYAnd (d : Fin 4) (D A B : Fin 16) (s : State) : Out :=
  act s fun s => yPlain d (fun s => s.setL d D.val (s.l d A.val &&& s.l d B.val)) s
/-- OR. -/
def execYOr (d : Fin 4) (D A B : Fin 16) (s : State) : Out :=
  act s fun s => yPlain d (fun s => s.setL d D.val (s.l d A.val ||| s.l d B.val)) s
/-- XOR. -/
def execYXor (d : Fin 4) (D A B : Fin 16) (s : State) : Out :=
  act s fun s => yPlain d (fun s => s.setL d D.val (s.l d A.val ^^^ s.l d B.val)) s
/-- SHL by bits 4..0 of l[B]. -/
def execYShl (d : Fin 4) (D A B : Fin 16) (s : State) : Out :=
  act s fun s => yPlain d (fun s => s.setL d D.val (s.l d A.val <<< ((s.l d B.val).toNat % 32))) s
/-- SHR by bits 4..0 of l[B]. -/
def execYShr (d : Fin 4) (D A B : Fin 16) (s : State) : Out :=
  act s fun s => yPlain d (fun s => s.setL d D.val (s.l d A.val >>> ((s.l d B.val).toNat % 32))) s
/-- SRA by bits 4..0 of l[B]. -/
def execYSra (d : Fin 4) (D A B : Fin 16) (s : State) : Out :=
  act s fun s => yPlain d (fun s => s.setL d D.val ((s.l d A.val).sshiftRight ((s.l d B.val).toNat % 32))) s
/-- ADDI: K is sign-extended. -/
def execYAddi (d : Fin 4) (D A : Fin 16) (K : BitVec 18) (s : State) : Out :=
  act s fun s => yPlain d (fun s => s.setL d D.val (s.l d A.val + sextK K)) s
/-- ORI. -/
def execYOri (d : Fin 4) (D A : Fin 16) (K : BitVec 18) (s : State) : Out :=
  act s fun s => yPlain d (fun s => s.setL d D.val (s.l d A.val ||| zextK K)) s
/-- LUI. -/
def execYLui (d : Fin 4) (D : Fin 16) (K : BitVec 16) (s : State) : Out :=
  act s fun s => yPlain d (fun s => s.setL d D.val (BitVec.ofNat 32 (K.toNat * 65536))) s
/-- ANDI. -/
def execYAndi (d : Fin 4) (D A : Fin 16) (K : BitVec 18) (s : State) : Out :=
  act s fun s => yPlain d (fun s => s.setL d D.val (s.l d A.val &&& zextK K)) s
/-- WAITT. -/
def execYWaitt (d : Fin 4) (A : Fin 16) (K : BitVec 18) (s : State) : Out :=
  act s fun s => yPlain d (fun s => yWait s d ((s.l d A.val).toNat + K.toNat)) s
/-- WAITT_RESUME. -/
def execWaittResume (d : Fin 4) (s : State) : Out :=
  act s fun s => waittResume d s
/-- RDT. -/
def execYRdt (d : Fin 4) (D : Fin 16) (F : BitVec 14) (s : State) : Out :=
  act s fun s => yPlain d (fun s => yRdt s d D.val F.toNat) s
/-- ARM. -/
def execYArm (d : Fin 4) (A B : Fin 16) (F : BitVec 14) (s : State) : Out :=
  act s fun s => yIssue d (fun s =>
    match tenOf (s.l d B.val) with
    | none => (s.code d 9, true)
    | some t =>
      let r := armFor s d (s.l d A.val).toNat t (bit F.toNat 0)
      if r.2 = 16 then (r.1, false) else (r.1.code d r.2, true)) s
/-- FIRE. -/
def execYFire (d : Fin 4) (D A B : Fin 16) (s : State) : Out :=
  act s fun s => yPlain d (fun s =>
    let r := fireFor s d D.val (s.l d A.val).toNat (s.l d B.val).toNat 0
    r.1.code d r.2) s
/-- ACQST. -/
def execYAcqst (d : Fin 4) (D A : Fin 16) (s : State) : Out :=
  act s fun s => yPlain d (fun s => yAcqst s d D.val A.val) s
/-- DISP. -/
def execYDisp (d : Fin 4) (D A B : Fin 16) (s : State) : Out :=
  act s fun s => yPlain d (fun s => yDisp s d D.val A.val B.val) s
/-- STITCH. -/
def execYStitch (d : Fin 4) (A : Fin 16) (s : State) : Out :=
  act s fun s => yPlain d (fun s => yVerdict s d A.val true) s
/-- UNPICK. -/
def execYUnpick (d : Fin 4) (A : Fin 16) (s : State) : Out :=
  act s fun s => yPlain d (fun s => yVerdict s d A.val false) s
/-- DRAW. -/
def execYDraw (d : Fin 4) (A B : Fin 16) (s : State) : Out :=
  act s fun s => yPlain d (fun s => yDraw s d A.val B.val) s
/-- LEDGER. -/
def execYLedger (d : Fin 4) (D A : Fin 16) (F : BitVec 14) (s : State) : Out :=
  act s fun s => yPlain d (fun s => yLedger s d D.val A.val F.toNat) s
/-- LDL. -/
def execYLdl (d : Fin 4) (D A : Fin 16) (K : BitVec 18) (s : State) : Out :=
  act s fun s => yIssue d (fun s => yLdl s d D.val (s.l d A.val + sextK K).toNat) s
/-- STL. -/
def execYStl (d : Fin 4) (D A : Fin 16) (K : BitVec 18) (s : State) : Out :=
  act s fun s => yIssue d (fun s => yStl s d D.val (s.l d A.val + sextK K).toNat) s
/-- SEND. -/
def execYSend (d : Fin 4) (A B : Fin 16) (s : State) : Out :=
  act s fun s => yPlain d (fun s => ySend s d (Fin.ofNat 4 (s.l d A.val).toNat) (s.l d B.val)) s
/-- RECV. -/
def execYRecv (d : Fin 4) (D : Fin 16) (s : State) : Out :=
  act s fun s => yPlain d (fun s => yRecv s d D.val) s
/-- SVC WDOG: strict when bit 0 of l[A] is 1. -/
def execSvcWdog (d : Fin 4) (A : Fin 16) (s : State) : Out :=
  act s fun s => yPlain d (fun s => svcWdog (s.code d 0) d (bit (s.l d A.val).toNat 0)) s
/-- SVC EVENT. -/
def execSvcEvent (d : Fin 4) (A : Fin 16) (s : State) : Out :=
  act s fun s => yPlain d (fun s => (raise s d yokeSrc K.USER 0 (s.l d A.val).toNat).code d 0) s
/-- SVC NOTIFY. -/
def execSvcNotify (d : Fin 4) (A : Fin 16) (s : State) : Out :=
  act s fun s => yPlain d (fun s => (signalVector s ((s.l d A.val).toNat % 256)).code d 0) s
/-- SVC ILKCLR. -/
def execSvcIlkclr (d : Fin 4) (_A : Fin 16) (s : State) : Out :=
  act s fun s => yPlain d (fun s => yIlkclr s d) s
/-- RELOAD. -/
def execYReload (d : Fin 4) (A B : Fin 16) (s : State) : Out :=
  act s fun s => yPlain d (fun s => yReload s d (s.l d A.val).toNat (s.l d B.val).toNat) s
/-- YOKE_ILLEGAL_OPCODE. -/
def execYokeIllegalOpcode (d : Fin 4) (s : State) : Out :=
  act s fun s => yPlain d (fun s => yIllegal s d) s
/-- MAILBOX_MESSAGE. -/
def execMailboxMessage (d : Fin 4) (s : State) : Out :=
  act s fun s => mailArrive d s

end Sys2Proof.Machine
end

