-- ==== Sys2Proof/Machine/Queues.lean ====
section
/-! DEFINITION. A tenant's submission and completion queues, the descriptor check, and the NOP, RUN and MOVE commands
(R163 to R171, R182, R188). -/

namespace Sys2Proof.Machine

/-- The local source of the host port (R79). -/
abbrev hostSrc : Nat := 0x007

/-- The PCI Express link is up, and the device runs. -/
def linkUp (s : Chip) : Bool := alive s && s.flag 0 Rf.HOST_LINK_UP

/-! ### Descriptors (R167, R169) -/

/-- Word `i` of a descriptor. -/
def cmdWord (c : List Word) (i : Nat) : Nat := (c.getD i 0).toNat

/-- OPCODE. -/
def cmdOp (c : List Word) : Nat := cmdWord c 0 % 256
/-- DIE. -/
def cmdDie (c : List Word) : Fin 4 := Fin.ofNat 4 (cmdWord c 0 / 256)
/-- CID. -/
def cmdCid (c : List Word) : BitVec 16 := BitVec.ofNat 16 (cmdWord c 0 / 65536)
/-- IRQ. -/
def cmdIrq (c : List Word) : Bool := bit (cmdWord c 1) 0
/-- FENCE. -/
def cmdFence (c : List Word) : Bool := bit (cmdWord c 1) 1

/-- The bits of word `i` that an opcode uses. DEDUCED, log 69. -/
def usedBits (op i : Nat) : Nat :=
  if i = 0 then 0xFFFF03FF
  else if i = 1 then 3
  else
    match op with
    | 1 => if i = 2 then 0x0FFF0FFF else if i < 8 then 0xFFFFFFFF else 0
    | 2 => if i = 2 then 0xFFF else if i = 4 ∨ i = 5 then 0xFFFFFFFF else 0
    | 3 => if i = 2 then 0xF00 else 0
    | 4 => if i = 2 then 0xF00 else if i = 4 ∨ i = 5 then 0xFFFFFFFF else 0
    | 5 => if i = 2 then 3 else if i = 7 then 0xFF else if i = 4 ∨ i = 5 ∨ i = 6 ∨ i = 8 then 0xFFFFFFFF else 0
    | _ => 0

/-- The first word of a descriptor that fails the check of R169. -/
def badWord (c : List Word) : Option Nat :=
  if 5 < cmdOp c then some 0
  else (range 0 16).find? fun i => cmdWord c i != Nat.land (cmdWord c i) (usedBits (cmdOp c) i)

/-! ### Order and completion (R165, R167, R169) -/

/-- The completion of a descriptor's command. -/
def cmdCompl (c : List Word) (st det : Nat) : Compl :=
  { cid := cmdCid c, status := st, die := cmdDie c, detail := det, irq := cmdIrq c }

/-- The oldest fetched command of tenant `t` that may start: no MOVE of the tenant runs, and a FENCE waits until every
earlier command has completed. -/
def headCmd (s : Chip) (t : Fin 256) : Option (List Word) :=
  let x := s.host t
  match x.cmds with
  | c :: _ => if alive s && !x.moving && (!cmdFence c || x.open_ == 0) then some c else none
  | [] => none

/-- The oldest command of tenant `t` leaves the fetched ones and is open. -/
def openCmd (s : Chip) (t : Fin 256) : Chip :=
  let x := s.host t
  s.setHost t { x with cmds := x.cmds.tail, open_ := x.open_ + 1 }

/-- Descriptors that fail the check complete in their place, up to `n` of them (R169). -/
def badCmds : Nat → Chip → Fin 256 → Chip
  | 0, s, _ => s
  | n + 1, s, t =>
    match headCmd s t with
    | some c =>
      match badWord c with
      | some i => badCmds n (complete (openCmd s t) t (cmdCompl c 9 i)) t
      | none => s
    | none => s

/-- All of them. -/
def settleCmds (s : Chip) (t : Fin 256) : Chip := badCmds (s.host t).cmds.length s t

/-- The oldest command of tenant `t` starts when its opcode is `op`. A command of a tenant that is not enabled completes
DISABLED, and one for a die that does not run completes ABSENT for unit `unit`. DEDUCED, log 72. -/
def startCmd (s : Chip) (t : Fin 256) (op unit : Nat) (k : Chip → List Word → Chip) : Chip :=
  match headCmd s t with
  | some c =>
    if cmdOp c = op ∧ badWord c = none then
      let s := openCmd s t
      settleCmds (if !tenEnabled s t then complete s t (cmdCompl c 7 0)
        else if op ≠ 0 ∧ !up s (cmdDie c) then complete s t (cmdCompl c 1 (unit + 0xFF00))
        else k s c) t
    else s
  | none => s

/-! ### Queue registers and doorbells (R163, R164, R171, R182, R188) -/

/-- A rejected doorbell (R188). -/
def badDoorbell (s : Chip) (t : Fin 256) (v : Word) : Chip :=
  raise s 0 hostSrc K.BADDB t (t.val + v.toNat % 2 ^ 24 * 2 ^ 8)

/-- SQ_TAIL is written. -/
def sqTail (s : Chip) (t : Fin 256) (v : Word) : Chip :=
  let x := s.host t
  if !tenEnabled s t then s
  else if !x.sqEn || decide (2 ^ x.sqLog ≤ v.toNat) then badDoorbell s t v
  else s.setHost t { x with sqTail := v.toNat }

/-- CQ_HEAD is written. DESIGN CHOICE, log 67. -/
def cqHead (s : Chip) (t : Fin 256) (v : Word) : Chip :=
  let x := s.host t
  if !tenEnabled s t || !x.cqEn || decide (2 ^ x.cqLog ≤ v.toNat) then s
  else s.setHost t { x with cqHead := v.toNat }

/-- SQ_CTL is written. DEDUCED, log 68. -/
def sqCtl (s : Chip) (t : Fin 256) (v : Word) : Chip :=
  let x := s.host t
  let en := getBits v 4 1 == 1
  s.setHost t (if x.sqEn then { x with sqEn := en }
    else if en then { x with sqEn := true, sqHead := 0, sqTail := 0 }
    else { x with sqLog := clampN 4 12 (getBits v 0 4) })

/-- CQ_CTL is written. -/
def cqCtl (s : Chip) (t : Fin 256) (v : Word) : Chip :=
  let x := { s.host t with cqIrq := getBits v 5 1 == 1 }
  let en := getBits v 4 1 == 1
  s.setHost t (if x.cqEn then { x with cqEn := en }
    else if en then { x with cqEn := true, cqHead := 0, cqTail := 0, phase := true }
    else { x with cqLog := clampN 4 12 (getBits v 0 4) })

/-! ### Fetching and completion entries (R165, R168, R170 to R172) -/

/-- The work queue of a RUN command is full (R165). -/
def workFull (s : Chip) (t : Fin 256) (c : List Word) : Bool :=
  cmdOp c == 1 && decide (16 ≤ (s.workOf (cmdDie c) t).length)

/-- The S9 fetches from tenant `t`'s submission queue. DEDUCED, log 71. -/
def canFetch (s : Chip) (t : Fin 256) : Bool :=
  let x := s.host t
  linkUp s && x.sqEn && x.sqHead != x.sqTail && decide (x.compl.length < 64) && !x.cmds.any (workFull s t)

/-- COMMAND_FETCH: the next descriptor is read and checked. -/
def commandFetch (t : Fin 256) (desc : List Word) (s : Chip) : Chip :=
  if canFetch s t then
    let x := s.host t
    settleCmds (s.setHost t { x with sqHead := (x.sqHead + 1) % 2 ^ x.sqLog, cmds := x.cmds ++ [desc] }) t
  else s

/-- The sixteen bytes of a completion entry (R168). -/
def complBytes (c : Compl) (phase : Bool) : List Byte :=
  leBytes 4 (c.cid.toNat + c.status * 2 ^ 16 + c.die.val * 2 ^ 24) ++ leBytes 4 c.detail ++ leBytes 4 c.sqHead ++
    leBytes 4 (b2n phase)

/-- COMPLETION_WRITE: the oldest held completion is written when the queue has room. DEDUCED, log 74. -/
def completionWrite (t : Fin 256) (s : Chip) : Chip :=
  let x := s.host t
  match x.compl with
  | [] => s
  | c :: cs =>
    let next := (x.cqTail + 1) % 2 ^ x.cqLog
    if !linkUp s || !x.cqEn || next == x.cqHead then s
    else
      let s := s.hostWrite (x.cqBase.toNat + 16 * x.cqTail) (complBytes c x.phase)
      let s := s.setHost t { x with compl := cs, cqTail := next, phase := if next = 0 then !x.phase else x.phase }
      settleCmds (if c.irq && x.cqIrq then signalVector s t.val else s) t

/-! ### NOP, RUN and MOVE -/

/-- The work item of a RUN command (R133, R167). -/
def runItem (t : Fin 256) (c : List Word) : WorkItem :=
  { ten := t, cmd := some (cmdCid c, cmdIrq c), first := 0, count := 0, args := (range 4 4).map fun i => c.getD i 0,
    entry := BitVec.ofNat 12 (cmdWord c 2), unpick := BitVec.ofNat 12 (cmdWord c 2 / 65536), cost := cmdWord c 3 }

/-- RUN: the item enters the tenant's work queue on its die; while that is full, the command waits. -/
def cmdRun (s : Chip) (t : Fin 256) : Chip :=
  if ((s.host t).cmds.head?.map (workFull s t)).getD false && tenEnabled s t then s
  else startCmd s t 1 0x01 fun s c => s.setWork (cmdDie c) t (s.workOf (cmdDie c) t ++ [runItem t c])

/-- The move of a MOVE command (R167, R372). -/
def cmdMoveJob (t : Fin 256) (c : List Word) : MoveJob :=
  { ten := t, cmd := some (cmdCid c, cmdIrq c), out := bit (cmdWord c 2) 0, expanded := bit (cmdWord c 2) 1,
    lane := cmdWord c 6 + 2 ^ 32 * (cmdWord c 7 % 256), byte := cmdWord c 4 + 2 ^ 32 * cmdWord c 5, len := cmdWord c 8 }

/-- MOVE. DEDUCED, log 73. -/
def cmdMove (s : Chip) (t : Fin 256) : Chip :=
  startCmd s t 5 0x05 fun s c =>
    moveAdd (s.setHost t { s.host t with moving := true }) (cmdDie c) (cmdMoveJob t c)

/-! ### Meanings -/

/-- SQ_TAIL_WRITE. -/
def execSqTailWrite (t : Fin 256) (v : Word) (s : State) : Out :=
  act s fun s => whenUp s 0 fun s => sqTail s t v
/-- CQ_HEAD_WRITE. -/
def execCqHeadWrite (t : Fin 256) (v : Word) (s : State) : Out :=
  act s fun s => whenUp s 0 fun s => cqHead s t v
/-- QUEUE_ENABLE: a write of SQ_CTL or CQ_CTL. -/
def execQueueEnable (t : Fin 256) (cq : Bool) (v : Word) (s : State) : Out :=
  act s fun s => whenUp s 0 fun s => if cq then cqCtl s t v else sqCtl s t v
/-- COMMAND_FETCH. -/
def execCommandFetch (t : Fin 256) (desc : List Word) (s : State) : Out :=
  act s fun s => commandFetch t desc s
/-- NOP. -/
def execCmdNop (t : Fin 256) (s : State) : Out :=
  act s fun s => startCmd s t 0 0x01 fun s c => complete s t (cmdCompl c 0 0)
/-- RUN. -/
def execCmdRun (t : Fin 256) (s : State) : Out :=
  act s fun s => cmdRun s t
/-- MOVE. -/
def execCmdMove (t : Fin 256) (s : State) : Out :=
  act s fun s => cmdMove s t
/-- COMPLETION_WRITE. -/
def execCompletionWrite (t : Fin 256) (s : State) : Out :=
  act s fun s => completionWrite t s

end Sys2Proof.Machine
end

