-- ==== Sys2Proof/Machine/Recipes.lean ====
section
/-! DEFINITION. The recipe scheduler of the Yoke's ROM (R34, R149 to R155, R484, R533, R534, R609, R610): recipe commands
and what the scheduler does in a tick. -/

namespace Sys2Proof.Machine

/-! ### Parameter blocks (R152) -/

/-- Word `k` of the parameter block in force. -/
def RInst.w (r : RInst) (k : Nat) : Nat := (r.block.getD k 0).toNat

/-- The 40-bit result address. -/
def RInst.result (r : RInst) : Nat := r.w 2 + 2 ^ 32 * (r.w 3 % 256)

/-- The die and local channel of a device channel (R444). -/
def devChan (c : Nat) : Option (Nat × Nat) :=
  if c < 4 then some (c / 2, c % 2) else if c < 20 then some ((c - 4) / 8, 2 + (c - 4) % 8) else none

/-- The local channel of the instance. -/
def RInst.chan (r : RInst) : Nat := ((devChan (r.w 4)).getD (0, 0)).2

/-- The pulse output, and the bits that enable it and arm the laser. -/
def RInst.pulse (r : RInst) : Nat := r.w 6 % 4
/-- PULSE bit 2. -/
def RInst.fires (r : RInst) : Bool := bit (r.w 6) 2
/-- PULSE bit 3. -/
def RInst.laser (r : RInst) : Bool := bit (r.w 6) 3

/-- The edge of a step in 50 ps (R153, R155). -/
def RInst.edgeAt (r : RInst) (j : Nat) : Nat := r.w 7 + (if r.rcp = 2 then j * r.w 17 else 0)

/-- The local flows of the instance. -/
def RInst.flows (r : RInst) : List Nat := range (r.w 4 % 1024) (r.w 5)

/-- A block word names a recipe of R152 and version 1. -/
def blockNames (r : RInst) : Bool := r.w 0 % 256 == r.rcp && r.w 0 / 256 % 256 == 1 && decide (1 ≤ r.rcp ∧ r.rcp ≤ 7)

/-- Every word lies within the range that R152 gives it, and channels lie on die `d`. -/
def blockRange (d : Fin 4) (r : RInst) : Bool :=
  match r.rcp with
  | 1 | 2 =>
    ((devChan (r.w 4)).map Prod.fst == some d.val) && decide (1 ≤ r.w 5 ∧ r.w 5 ≤ 262144) && decide (r.w 9 ≤ 28) &&
      decide (r.w 10 ≤ 3) && (r.rcp == 1 || decide (1 ≤ r.w 18 ∧ r.w 18 ≤ 65536))
  | 5 =>
    decide (4 ≤ r.w 4) && ((devChan (r.w 4)).map Prod.fst == some d.val) && decide (1 ≤ r.w 5 ∧ r.w 5 ≤ 262144) &&
      decide (r.w 6 ≤ 28)
  | 6 => decide (1 ≤ r.w 4 ∧ r.w 4 ≤ 240)
  | _ => true

/-- The unit or feature that the recipe needs and die `d` lacks, as R43 lays out the payload's bits [15:0] (R34, R152). -/
def recipeNeeds (s : Chip) (d : Fin 4) (r : RInst) : Option Nat :=
  let unit := fun u => if present s d u then none else some (u + 0xFF00)
  match r.rcp with
  | 1 | 2 | 5 =>
    let f := if r.chan < 2 then 0 else 1
    if !present s d 8 then some (8 + 0xFF00)
    else if !feature s d f then some (8 + f * 256)
    else if r.rcp ≠ 5 ∧ (r.fires ∨ r.rcp = 2) ∧ !feature s d 2 then some (8 + 2 * 256)
    else if r.rcp ≠ 5 ∧ r.laser ∧ !present s d 9 then some (9 + 0xFF00)
    else none
  | 3 | 4 => ((unit 0x0C).or (unit 0x0D)).or (unit 0x0E)
  | 6 => unit 0x0A
  | _ => none

/-- The checks of R155 on TDR_STEP, under the active tick setting. -/
def tdrOk (s : Chip) (d : Fin 4) (r : RInst) : Bool :=
  let k := (s.d d).tick.set
  let e := r.edgeAt (r.w 18 - 1)
  decide (e < 2 ^ 31) && (!r.fires || (decide (e < k.p * 20) && decide (20 ≤ r.w 8 ∧ r.w 8 ≤ 400000))) &&
    decide (76 * 40 ≤ sampleAt r.chan e 0) && decide (sampleAt r.chan e (r.w 5 - 1) ≤ (k.a - 128) * 40) &&
    r.w 21 % 8 == 0 && decide ((maxBits (r.w 10) 28 10 (r.w 5) + 7) / 8 ≤ r.w 21)

/-- The checks of R610 on the flows of FLOW_GEN and FLOW_CHECK. -/
def flowsOk (s : Chip) (d : Fin 4) (r : RInst) : Bool :=
  (r.rcp != 3 || r.w 7 / 8 == d.val) && decide (1024 * d.val ≤ r.w 4 ∧ r.w 4 + r.w 5 ≤ 1024 * (d.val + 1)) &&
    r.flows.all fun f =>
      flowTen s d f == r.ten &&
        (if r.rcp = 3 then s.fld d (Rf.FLOW_SIZE_TLEN.at f) != 0 else s.fld d (Rf.FLOW_SIZE_SLOTS.at f) != 0)

/-- A block that the scheduler refuses: the status and detail (R34, R150, R155, R610).
DESIGN CHOICE, log 199. -/
def blockRefused (s : Chip) (d : Fin 4) (r : RInst) : Option (Nat × Nat) :=
  if !blockNames r || !blockRange d r then some (5, 0)
  else
    match recipeNeeds s d r with
    | some det => some (1, det)
    | none =>
      if (r.rcp = 2 ∧ !tdrOk s d r) ∨ ((r.rcp = 3 ∨ r.rcp = 4) ∧ !flowsOk s d r) then some (5, 0) else none

/-! ### Recipe commands (R34, R150, R151, R167) -/

/-- The instance that a RECIPE command describes. -/
def newInst (t : Fin 256) (c : List Word) (block : List Word) : RInst :=
  { ten := t, cid := cmdCid c, irq := cmdIrq c, rcp := cmdWord c 2 % 256, block := block }

/-- The instance number of a command. -/
def cmdInst (c : List Word) : Nat := cmdWord c 2 / 256 % 16

/-- RECIPE: `block` is the parameter block that the command names. DEDUCED, log 200. -/
def recipeStart (t : Fin 256) (block : List Word) (s : Chip) : Chip :=
  startCmd s t 2 0x01 fun s c =>
    let d := cmdDie c
    let r := newInst t c block
    if (s.d d).yoke.prog ∨ (s.inst d (cmdInst c)).isSome then complete s t (cmdCompl c 5 0)
    else
      match blockRefused s d r with
      | some (st, det) => complete s t (cmdCompl c st det)
      | none => s.setInst d (cmdInst c) (some r)

/-- The instance of tenant `t` that a command names. -/
def ownInst (s : Chip) (t : Fin 256) (c : List Word) : Option RInst :=
  match s.inst (cmdDie c) (cmdInst c) with
  | some r => if r.ten = t then some r else none
  | none => none

/-- RECIPE_STOP. -/
def recipeStop (t : Fin 256) (s : Chip) : Chip :=
  startCmd s t 3 0x01 fun s c =>
    match ownInst s t c with
    | some _ => complete (endInst s (cmdDie c) (cmdInst c) 8) t (cmdCompl c 0 0)
    | none => complete s t (cmdCompl c 5 0)

/-- RECIPE_UPDATE: the new block is taken at the instance's next tick; one that a RECIPE command would not accept is
refused. DESIGN CHOICE, log 201. -/
def recipeUpdate (t : Fin 256) (block : List Word) (s : Chip) : Chip :=
  startCmd s t 4 0x01 fun s c =>
    match ownInst s t c with
    | some r =>
      match blockRefused s (cmdDie c) { r with block := block } with
      | some (st, det) => complete s t (cmdCompl c st det)
      | none => complete (s.setInst (cmdDie c) (cmdInst c) (some { r with next := some block })) t (cmdCompl c 0 0)
    | none => complete s t (cmdCompl c 5 0)

/-! ### Tick start (R149, R155, R484, R533, R534, R609) -/

/-- The lowest sum-store base at which `n` entries overlap no other enabled set. -/
def freeBase (s : Chip) (d : Fin 4) (k n : Nat) : Option Nat :=
  let on := (range 0 16).filter fun i => i != k && setOn s d i
  let lo := fun i => s.fld d (Rf.PLEAT_SET_BASE_BASE.at i)
  let hi := fun i => lo i + 2 * setLen s d i
  let fits := fun b => decide (b + n ≤ 1048576) && on.all fun i => decide (hi i ≤ b) || decide (b + n ≤ lo i)
  ((0 :: on.map hi).filter fits).foldl (fun m b => match m with
    | some a => some (min a b)
    | none => some b) none

/-- Point the destination of set `k` at a device address. -/
def setDstTo (s : Chip) (d : Fin 4) (k a : Nat) : Chip :=
  (s.setFld d (Rf.PLEAT_SET_DST_LO_DST.at k) (a % 2 ^ 32)).setFld d (Rf.PLEAT_SET_DST_HI_DST.at k) (a / 2 ^ 32 % 256)

/-- Configure and enable set `i` for instance `i` (R533); false when no range fits. -/
def setupSet (s : Chip) (d : Fin 4) (i : Nat) (r : RInst) : Chip × Bool :=
  let log := if r.rcp = 5 then r.w 6 else r.w 9
  let s := restartSet (enableSet s d i false) d i
  let s := (s.setFld d (Rf.PLEAT_SET_CFG_CHAN.at i) r.chan).setFld d (Rf.PLEAT_SET_CFG_MARK.at i) 1
  let s := (s.setFld d (Rf.PLEAT_SET_CFG_VALIDONLY.at i) 1).setFld d (Rf.PLEAT_SET_CFG_AUTOOUT.at i) 1
  let s := (s.setFld d (Rf.PLEAT_SET_CFG_FORMAT.at i) (r.w 10)).setFld d (Rf.PLEAT_SET_CFG_M.at i) 1
  let s := (s.setFld d (Rf.PLEAT_SET_CFG_LOG2AVG.at i) log).setFld d (Rf.PLEAT_SET_CFG_TENANT.at i) r.ten.val
  let s := setDstTo (s.setFld d (Rf.PLEAT_SET_LEN_LENGTH.at i) (r.w 5)) d i r.result
  let s := s.setPset d i { s.pset d i with cal := if r.rcp = 5 then some (r.w 7) else none }
  match freeBase s d i (2 * r.w 5) with
  | some b => (enableSet (s.setFld d (Rf.PLEAT_SET_BASE_BASE.at i) b) d i true, true)
  | none => (s, false)

/-- FRAMES, REPEATS, LOST and CHKBAD of the instance's flows. -/
def flowCounts (s : Chip) (d : Fin 4) (r : RInst) : List Nat :=
  r.flows.flatMap fun f =>
    [s.fld d (Rf.FLOW_FRAMES_FRAMES.at f), s.fld d (Rf.FLOW_REPEATS_REPEATS.at f), s.fld d (Rf.FLOW_LOST_LOST.at f),
      s.fld d (Rf.FLOW_CHKBAD_CHKBAD.at f)]

/-- Enable a flow of FLOW_GEN or FLOW_CHECK (R609); a flow that R612 refuses stays disabled. -/
def enableFlow (s : Chip) (d : Fin 4) (r : RInst) (f : Nat) : Chip :=
  let v := s.reg d (Rf.FLOW_CTL_EN.at f).key
  let v := if r.rcp = 3 then putBits (putBits v 1 1 0) 2 3 (r.w 7) else putBits v 1 1 1
  flowCtlWrite s d 0 f (putBits v 0 1 1)

/-- PANEL_SCAN's settings (R484). -/
def panelSetup (s : Chip) (r : RInst) : Chip :=
  let a := r.result
  let l := a - 0x2000000000
  if 0x2000000000 ≤ a ∧ l % 4 = 0 ∧ l / 4 + 560 ≤ 524288 then
    let s := (s.setFld 0 Rf.PSENSE_THR_TOUCH (clampN 1 8190 (r.w 5))).setFld 0 Rf.PSENSE_HELD_HELD (clampN 1 3600 (r.w 6))
    psenseCtl (s.setFld 0 Rf.PSENSE_OUT_OUT (l / 4)) (BitVec.ofNat 32 (1 + r.w 4 * 256))
  else accFault s 0 yokeSrc r.ten a

/-- What an instance does when it reads its block: at its first tick, and again after RECIPE_UPDATE. Only the first tick
configures a set; FLOW_CHECK counts on from its last report while its flows stay the same. -/
def instSetup (s : Chip) (d : Fin 4) (i : Nat) (r : RInst) (first : Bool) : Chip :=
  match r.rcp with
  | 3 => overAll (fun s f => enableFlow s d r f) s r.flows
  | 4 =>
    let s := overAll (fun s f => enableFlow s d r f) s r.flows
    match s.inst d i with
    | some r => if r.prev.isEmpty then s.setInst d i (some { r with prev := flowCounts s d r }) else s
    | none => s
  | 6 => panelSetup s r
  | 7 => s
  | _ =>
    if first then
      let q := setupSet s d i r
      if q.2 then q.1.setInst d i (some { r with set := some i })
      else raiseT q.1 d 0x210 K.PLNOSPACE r.ten i false
    else s

/-- TDR_STEP moves to its next step when the output of the last one has ended (R155). -/
def instStep (s : Chip) (d : Fin 4) (i : Nat) (r : RInst) : Chip :=
  match r.set with
  | some k =>
    if r.rcp = 2 ∧ r.wait then
      let s := enableSet s d k false
      let s := setDstTo s d k ((r.result + (r.step + 1) * r.w 21) % 2 ^ 40)
      (enableSet s d k true).setInst d i (some { r with step := r.step + 1, wait := false })
    else s
  | none => s

/-- An instance at the start of a tick. DEDUCED, log 202. -/
def instTick (s : Chip) (d : Fin 4) (i : Nat) : Chip :=
  match s.inst d i with
  | none => s
  | some r =>
    let first := r.ticks == 0
    let fresh := first || r.next.isSome
    let old := r.flows
    let r := { r with block := r.next.getD r.block, next := none, ticks := r.ticks + 1, stage := 0, drawn := false }
    let r := if r.flows = old then r else { r with prev := [] }
    let s := s.setInst d i (some r)
    if fresh then instSetup (instStep s d i r) d i ((s.inst d i).getD r) first else instStep s d i r

/-- The ROM scheduler at a tick start (R149): the watchdog service, then the instances in ascending number. -/
def recipesTick (s : Chip) (d : Fin 4) : Chip :=
  if (s.d d).yoke.prog then s else overAll (fun s i => instTick s d i) (svcWdog s d false) (instsOf s d)

/-! ### Actions at tick offsets (R153 to R155, R484) -/

/-- The instance's set has a step output to make or under way: no capture is armed (R155). -/
def stepBusy (s : Chip) (d : Fin 4) (r : RInst) : Bool :=
  match r.set with
  | some k => r.rcp == 2 && (r.wait || s.flag d (Rf.PLEAT_SET_STAT_COMPLETE.at k) || (s.d d).pleat.outs.contains k)
  | none => true

/-- Words 0 to 3 of the capture descriptor (R450, R484). -/
def descWords (r : RInst) : List Nat :=
  [r.chan + b2n r.laser * 16 + b2n r.fires * 32 + r.pulse * 64 + 256 + 512, r.w 5 + r.w 19 * 2 ^ 20,
    r.edgeAt r.step + r.w 14 * 2 ^ 32, 0]

/-- Every value fits its field of the descriptor. -/
def descFits (r : RInst) : Bool :=
  decide (r.w 20 + 8 ≤ 524288) && decide (r.w 5 < 2 ^ 19) && decide (r.w 19 < 2 ^ 19) && decide (r.edgeAt r.step < 2 ^ 31) &&
    decide (r.w 14 < 2 ^ 19)

/-- Write descriptor words from scratchpad word `w` on; false while a write waits. -/
def putDesc : Chip → Fin 4 → Nat → List Nat → Chip × Bool
  | s, _, _, [] => (s, true)
  | s, d, w, v :: vs =>
    let r := writeMem s d .spad w 15 (BitVec.ofNat 56 v) .plain
    if r.2 = .done then putDesc r.1 d (w + 1) vs else (r.1, false)

/-- The ARM of ACQ_AVG and TDR_STEP: false while the descriptor cannot be written yet. -/
def instArm (s : Chip) (d : Fin 4) (r : RInst) : Chip × Bool :=
  if stepBusy s d r || !descFits r then (s, true)
  else
    let q := putDesc s d (r.w 20) (descWords r)
    if q.2 then ((armFor q.1 d (4 * r.w 20) r.ten r.laser).1, true) else q

/-- POWER_METER's capture, 64 tq after its ARM (R484). It has no descriptor in the scratchpad.
DEDUCED, log 203. -/
def meterArm (s : Chip) (d : Fin 4) (r : RInst) : Chip :=
  let c : Capture :=
    { ten := r.ten, ilkReq := false, pulseChk := false, pulse := 0, pleat := true, store := false, len := r.w 5, buf := 0,
      desc := 524288, start := (elapsed s d + 64) * 20, tol := 0, armedAt := elapsed s d, tick := (s.d d).tick.num,
      tickStart := (s.d d).tick.start, basis := feature s d 7 }
  let holds : Bool := match s.cap d r.chan with
    | some o => o.tickStart == c.tickStart && o.tick == c.tick
    | none => false
  if (s.d d).tick.phase ≠ .acquire ∨ tenFaulted s r.ten ∨
      ((s.d d).tick.set.a - 128) * 40 < sampleAt r.chan c.start (c.len - 1) ∨ holds ∨ !chanReady s d r.chan then s
  else s.setCap d r.chan (some c)

/-- DRAW, and FIRE when it succeeds. -/
def instDraw (s : Chip) (d : Fin 4) (i : Nat) (r : RInst) : Chip :=
  let q := drawFor s d r.ten (r.w 15)
  let ok := q.2 == 0
  let s := match q.1.inst d i with
    | some x => q.1.setInst d i (some { x with drawn := ok })
    | none => q.1
  if ok && r.fires then (fireFor s d r.pulse (r.edgeAt r.step) (r.w 8) r.ten).1 else s

/-- The work item of the instance's kernel (R154). -/
def kernelItem (s : Chip) (d : Fin 4) (r : RInst) : WorkItem :=
  { ten := r.ten, cmd := none, first := 0, count := 0, entry := BitVec.ofNat 12 (r.w 11),
    unpick := BitVec.ofNat 12 (r.w 11 / 65536), cost := r.w 13,
    args := [4 * r.w 19, r.w 5, if r.rcp = 1 then (s.d d).tick.num.toNat % 2 ^ 28 else r.step, 4 * r.w 20].map
      (BitVec.ofNat 32) }

/-- DISP of the kernel, skipped when the DRAW failed or ENTRY is 0xFFF. -/
def instDisp (s : Chip) (d : Fin 4) (i : Nat) (r : RInst) : Chip :=
  if !r.drawn || r.w 11 % 4096 == 0xFFF || (dispEarly s d r.ten).isSome then s
  else (dispItem s d (kernelItem s d r) (r.w 12) i).1

/-- The verdict at A: STITCH when the capture of this tick is VALID and the DRAW succeeded. -/
def instVerdict (s : Chip) (d : Fin 4) (r : RInst) : Chip :=
  let ok := match s.cap d r.chan with
    | some c => c.valid && c.ten == r.ten && c.desc == r.w 20 && c.tickStart == (s.d d).tick.start &&
        c.tick == (s.d d).tick.num
    | none => false
  (verdict s d r.ten (r.drawn && ok)).1

/-- An action of an instance is done in this tick. -/
def instDid (s : Chip) (d : Fin 4) (i k : Nat) : Chip :=
  match s.inst d i with
  | some r => s.setInst d i (some { r with stage := setBit r.stage k })
  | none => s

/-- The offset of each action of an instance: 0 ARM, 1 DRAW and FIRE, 2 DISP. -/
def instOffset (r : RInst) (k : Nat) : Nat := if k = 0 then 12 else if k = 1 then 20 else max 20 (r.w 16)

/-- Action `k` of instance `i`, once it is due. -/
def instAct (s : Chip) (d : Fin 4) (i k : Nat) : Chip :=
  match s.inst d i with
  | none => s
  | some r =>
    if r.ticks = 0 ∨ bit r.stage k ∨ elapsed s d < instOffset r k ∨ !(r.rcp = 1 ∨ r.rcp = 2 ∨ (r.rcp = 5 ∧ k = 0)) then s
    else if k = 0 then
      if r.rcp = 5 then instDid (meterArm s d r) d i 0
      else
        let q := instArm s d r
        if q.2 then instDid q.1 d i 0 else q.1
    else if k = 1 then instDid (instDraw s d i r) d i 1
    else if bit r.stage 1 then instDid (instDisp s d i r) d i 2
    else s

/-- The scheduler's actions that are due now, in ascending instance number. DEDUCED, log 23. -/
def recipesAct (s : Chip) (d : Fin 4) : Chip :=
  if up s d && ticking s d && !(s.d d).yoke.prog then
    overAll (fun s i => overAll (fun s k => instAct s d i k) s [0, 1, 2]) s (instsOf s d)
  else s

/-- What instance `i` does at offset A (R153, R277, R609). -/
def instAtA (s : Chip) (d : Fin 4) (i : Nat) : Chip :=
  match s.inst d i with
  | none => s
  | some r =>
    if r.ticks = 0 ∨ bit r.stage 3 then s
    else
      instDid (match r.rcp with
        | 1 | 2 => instVerdict s d r
        | 3 => overAll (fun s f => if s.flag d (Rf.FLOW_CTL_EN.at f) then txreqWrite s d f (BitVec.ofNat 32 (min (r.w 6) 65535))
                 else s) s r.flows
        | 4 => (verdict s d r.ten true).1
        | _ => s) d i 3

/-- The scheduler at offset A. -/
def recipesAtA (s : Chip) (d : Fin 4) : Chip :=
  if (s.d d).yoke.prog then s else overAll (fun s i => instAtA s d i) s (instsOf s d)

/-! ### The end of a tick (R151, R609, R610) -/

/-- FLOW_CHECK's report. DEDUCED, log 139; DESIGN CHOICE, log 205. -/
def flowReport (s : Chip) (d : Fin 4) (i : Nat) (r : RInst) : Chip :=
  let cur := flowCounts s d r
  let bs := (cur.zipIdx.map fun e => e.1 - r.prev.getD e.2 0).flatMap (leBytes 4)
  let e : Fin 4 := Fin.ofNat 4 (r.result / 2 ^ 38)
  let off := r.result % 2 ^ 38
  let s := s.setInst d i (some { r with prev := cur })
  if present s e 0x0F && dramRange s e r.ten true off bs.length then
    (if up s e then dramStore s e off (bs.map some) else s)
  else accFault s d yokeSrc r.ten r.result

/-- Instance `i` at the end of a tick: its report, and its end after TICKS ticks. DEDUCED, log 204. -/
def instEnd (s : Chip) (d : Fin 4) (i : Nat) : Chip :=
  match s.inst d i with
  | none => s
  | some r =>
    let s := if r.rcp = 4 ∧ 0 < r.ticks ∧ r.w 6 ≠ 0 ∧ r.ticks % r.w 6 = 0 then flowReport s d i r else s
    if 0 < r.ticks ∧ r.w 1 ≠ 0 ∧ r.w 1 ≤ r.ticks then endInst s d i 0 else s

/-- The scheduler at the start of SLACK. -/
def recipesEnd (s : Chip) (d : Fin 4) : Chip :=
  if (s.d d).yoke.prog then s else overAll (fun s i => instEnd s d i) s (instsOf s d)

/-- A set output of die `d` has ended: TDR_STEP's step is over (R155). -/
def recipeOutput (s : Chip) (d : Fin 4) (k : Nat) : Chip :=
  match s.inst d k with
  | some r =>
    if r.rcp = 2 ∧ r.set = some k then
      (if r.w 18 ≤ r.step + 1 then endInst s d k 0 else s.setInst d k (some { r with wait := true }))
    else s
  | none => s

/-- PLEAT_OUTPUT_END, with what the scheduler makes of it. -/
def outputEnd (d : Fin 4) (bad : Option Nat) (s : Chip) : Chip :=
  let s' := pleatOutputEnd d bad s
  match (s.d d).pleat.outs.head? with
  | some k => if (s'.d d).pleat.outs.contains k then s' else recipeOutput s' d k
  | none => s'

/-! ### Meanings -/

/-- RECIPE. -/
def execCmdRecipe (t : Fin 256) (block : List Word) (s : State) : Out :=
  act s fun s => recipeStart t block s
/-- RECIPE_STOP. -/
def execCmdRecipeStop (t : Fin 256) (s : State) : Out :=
  act s fun s => recipeStop t s
/-- RECIPE_UPDATE. -/
def execCmdRecipeUpdate (t : Fin 256) (block : List Word) (s : State) : Out :=
  act s fun s => recipeUpdate t block s
/-- PLEAT_OUTPUT_END. -/
def execPleatOutputEnd (d : Fin 4) (bad : Option Nat) (s : State) : Out :=
  act s fun s => outputEnd d bad s

end Sys2Proof.Machine
end

