-- ==== Sys2Proof/Machine/Tick.lean ====
section
/-! DEFINITION. The tick: settings, marks, tick start and the phases, the G2 overrun rule, skipped and missed ticks, and the
discipline of the time bases (R54 to R76, R86 to R111, R706, R707, R864). -/

namespace Sys2Proof.Machine

/-- Change die `d`'s tick. -/
def Chip.onTick (s : Chip) (d : Fin 4) (f : TickSt → TickSt) : Chip := s.upd d fun x => { x with tick := f x.tick }

/-- Change die `d`'s time base. -/
def Chip.onTb (s : Chip) (d : Fin 4) (f : TimeBase → TimeBase) : Chip := s.upd d fun x => { x with tb := f x.tb }

/-! ### Settings (R63, R64, R89, R90) -/

/-- RESULT for a tick setting: 1, or the first rule of R63 that fails. -/
def settingResult (s : Chip) (k : Setting) : Nat :=
  if k.p < 1000 ∨ 67108864 < k.p then 2
  else if k.s < k.a then 3
  else if k.p < k.s + 1256 then 4
  else if k.p ≤ rtoTq s then 5
  else 1

/-- The setting of tick `n`: of those accepted for `n` or an earlier tick, the last; else the active one. -/
def settingFor (s : Chip) (n : BitVec 48) : Setting :=
  s.settings.foldl (fun k e => if (n - e.1).toNat < 2 ^ 47 then e.2 else k) (s.d 0).tick.set

/-- The number of the next tick of die 0 (R65). -/
def nextNum (s : Chip) : BitVec 48 := if s.ticked then (s.d 0).tick.num + 1 else 0

/-- The first tick whose mark has not been sent. -/
def unmarked (s : Chip) : BitVec 48 :=
  match (s.d 0).tick.mark with
  | some m => m.num + 1
  | none => nextNum s

/-- APPLY (R63, R86, R89, R90). -/
def applySetting (s : Chip) : Chip :=
  let k : Setting := { p := s.fld 0 Rf.TIME_TICK_P_P, a := s.fld 0 Rf.TIME_TICK_A_A, s := s.fld 0 Rf.TIME_TICK_S_S }
  let r := settingResult s k
  let s := s.setFld 0 Rf.TIME_TICK_STATUS_RESULT r
  if r = 1 then { s with settings := s.settings ++ [(unmarked s, k)] } else s

/-! ### Marks (R66 to R69, R864) -/

/-- Die 0 sends a mark to every die it reaches, and holds it. -/
def sendMark (s : Chip) (m : Mark) : Chip :=
  overAll (fun s e => if reaches s 0 e then s.upd e fun x => { x with marks := x.marks ++ [m] } else s)
    (s.onTick 0 fun k => { k with mark := some m }) [1, 2, 3]

/-- A tick numbered `n` may start: ticks run, or the die follows die 0 into the tick that die 0 runs (R88, R706). -/
def tickAllowed (s : Chip) (n : BitVec 48) : Bool :=
  s.flag 0 Rf.TIME_TICK_CTL_RUN || follows s || (ticking s 0 && (s.d 0).tick.num == n)

/-- TICKHOLD skips the next tick: a halt is in force, and the package is its own tick master (R864).
DEDUCED, log 27. -/
def holdSkips (s : Chip) : Bool := s.flag 0 Rf.PLACKET_HALT_CTL_TICKHOLD && anyHalt s && !follows s

/-- The mark of the next tick, from the tick that runs or was last started. -/
def nextMark (s : Chip) : Mark :=
  let k := (s.d 0).tick
  let n := k.num + 1
  let set := settingFor s n
  { num := n, start := k.start + BitVec.ofNat 64 ((1 + k.skips) * k.set.p), p := set.p, a := set.a, s := set.s,
    skip := (k.extended && k.skips == 0) || holdSkips s }

/-- The next tick that starts, as far as the mark tells, begins an epoch: die 0 computes the caps (R220). -/
def capsFor (s : Chip) (n : BitVec 48) (skip : Bool) : Chip :=
  if !skip && beginsEpoch s n.toNat then sendCaps s else s

/-- Die 0 sends the next mark when it is the tick master, ticks run, and the mark is due. -/
def masterMark (s : Chip) : Chip :=
  let k := (s.d 0).tick
  if up s 0 && !follows s && s.flag 0 Rf.TIME_TICK_CTL_RUN && k.phase == .slack && k.marked && k.mark.isNone then
    let m := nextMark s
    let s := if k.extended then (if k.skips = 0 then capsFor s (m.num + 1) false else if k.skips = 1 then s
        else capsFor s m.num m.skip)
      else capsFor s m.num m.skip
    sendMark s m
  else s

/-- RUN is written (R87, R88). DEDUCED, log 24. -/
def runWrite (s : Chip) (on : Bool) : Chip :=
  let s := s.setFld 0 Rf.TIME_TICK_CTL_RUN (b2n on)
  if follows s then s
  else if !on then
    if ticking s 0 then s
    else { s with first := none, die := s.die.map fun x => { x with marks := [], tick := { x.tick with mark := none } } }
  else if ticking s 0 then masterMark s
  else
    let req := BitVec.ofNat 64 (s.fld64 0 Rf.TIME_TICK_START_LO_START Rf.TIME_TICK_START_HI_START)
    let soon := s.now 0 + 2000
    let t := if (req - soon).toNat < 2 ^ 63 then req else soon
    let n := nextNum s
    let k := settingFor s n
    sendMark { s with first := some t } { num := n, start := t, p := k.p, a := k.a, s := k.s, skip := false }

/-- A write of TIME.TICK_CTL. -/
def tickCtlWrite (s : Chip) (v : Word) : Chip :=
  let s := if getBits v 1 1 = 1 then applySetting s else s
  let on := getBits v 0 1 == 1
  if on == s.flag 0 Rf.TIME_TICK_CTL_RUN then s else runWrite s on

/-- Die `d` takes up a mark that says a tick is skipped: the tick is counted and never started. -/
def absorbSkip (s : Chip) (d : Fin 4) : Chip :=
  s.onTick d fun k =>
    match k.mark with
    | some m => if m.skip then { k with num := m.num, skips := k.skips + 1, mark := none } else k
    | none => k

/-- The tick of die `d` counts as missed (R68, R69, R108). -/
def missTick (s : Chip) (d : Fin 4) : Chip :=
  let k := (s.d d).tick
  let flag := fun r : Rec => if (r.time - k.start).toNat < 2 ^ 63 then { r with unc := true } else r
  let s := s.upd d fun x =>
    { x with tick := { k with missed := true, waiting := false }, fly := x.fly.map flag, heldRecs := x.heldRecs.map flag }
  let run := s.fld d Rf.TIME_TICK_MISS_RUNLEN
  let s := (s.addFld d Rf.TIME_TICK_MISS_MISSES 1).addFld d Rf.TIME_TICK_MISS_RUNLEN 1
  let s := raise s d 0x002 K.TICKMISS 0 (k.num.toNat % 2 ^ 32)
  if run = 2 then raise s d 0x002 K.TICKLOST 0 (k.num.toNat % 2 ^ 32) else s

/-- A mark reaches die `d` (R67, R68). -/
def takeMark (s : Chip) (d : Fin 4) (m : Mark) : Chip :=
  let k := (s.d d).tick
  if k.waiting && m.num == k.num then
    if m.start = k.start ∧ !m.skip ∧ elapsed s d ≤ 50 then
      (s.onTick d fun k => { k with waiting := false, set := { p := m.p, a := m.a, s := m.s } }).setFld d
        Rf.TIME_TICK_MISS_RUNLEN 0
    else missTick s d
  else if k.phase ≠ .idle ∧ ((m.num - k.num).toNat = 0 ∨ 2 ^ 47 ≤ (m.num - k.num).toNat) then s
  else (absorbSkip s d).onTick d fun k => { k with mark := some m }

/-- TICK_MARK: dies 1 to 3 take marks that die 0 sent; die 0 of a member package takes those of package 0, and passes them
on. -/
def tickMark (d : Fin 4) (m : Mark) (s : Chip) : Chip :=
  if d = 0 then
    if up s 0 && follows s then
      let s := overAll (fun s e => if reaches s 0 e then s.upd e fun x => { x with marks := x.marks ++ [m] } else s) s [1, 2, 3]
      takeMark s 0 m
    else s
  else if up s d && (s.d d).marks.contains m then
    takeMark (s.upd d fun x => { x with marks := x.marks.erase m }) d m
  else s

/-! ### Tick start (R67, R115, R118, R142, R861) -/

/-- The address at which the tick program stands: a stalled instruction has not been passed. -/
def yokeAddr (y : YokeSt) : Nat := if y.wait = .none then y.pc else (y.pc + 16383) % 16384

/-- The Yoke at a tick start: YOKEOVR when its program has not reached END, then the entry (R74, R110, R115, R118). -/
def yokeEntry (s : Chip) (d : Fin 4) : Chip :=
  let y := (s.d d).yoke
  let missed := y.prog && y.run
  let s := if missed then raise s d yokeSrc K.YOKEOVR 0 (yokeAddr y) else s
  let prog := s.flag d Rf.YOKE_CTL_MODE
  let s := s.onYoke d fun y =>
    { y with prog := prog, run := prog, pc := s.fld d Rf.YOKE_CTL_ENTRY, wait := .none, restarted := missed, fresh := false,
             passBp := false, step := false }
  let s := (s.setL d 1 (BitVec.ofNat 32 (s.d d).tick.num.toNat)).setL d 2 (BitVec.ofNat 32 (d.val + 4 * b2n missed))
  if prog && y.fresh && s.flag d Rf.PLACKET_HALT_CTL_RSTHALT && !y.halted then haltYoke s d 4 0 else s

/-- What die 0 does for the device at its tick start: faults of the last tick clear, settings take effect, and stopped dies
leave SYS.DIEMAP (R89, R142, R190, R697). -/
def deviceTickStart (s : Chip) : Chip :=
  let n := (s.d 0).tick.num
  let s := dropPulses s
  let s := overAll (fun s t => s.setFld 0 (Rf.YOKE_TEN_CTL_FAULTED.at t) 0) s (range 0 256)
  let map := (dies.filter fun d => bit (s.fld 0 Rf.SYS_DIEMAP_DIES) d.val && !(s.d d).stopped).map fun d => 2 ^ d.val
  let s := s.setFld 0 Rf.SYS_DIEMAP_DIES (map.foldl (· + ·) 0)
  let ctl := fun t => (s.reg 0 (Rf.YOKE_TEN_CTL_ENABLE.at t).key).toNat % 256 / 2 * 2
  let s :=
    { s with
      tenActive := (range 0 256).foldl (fun m t => mapPut (fun _ => 0xFC) m t (ctl t)) []
      settings := s.settings.filter fun e => decide (2 ^ 47 ≤ (n - e.1).toNat)
      ticked := true
      first := none }
  traceTickStart (reserveAtTick s)

/-- The ledger's epoch at die `d`'s tick start (R204, R205, R221). -/
def epochTickStart (s : Chip) (d : Fin 4) : Chip :=
  let n := (s.d d).tick.num.toNat
  let here := s.epochRuns && s.epochTick == n
  if here || beginsEpoch s n then
    let first := !s.epochRuns || (here && s.fld 0 Rf.LEDGER_EPOCH_NUM_NUM == 0)
    epochDie (if d = 0 then epochAdvance s n else s) d first
  else s

/-- What ends with the old tick at a tick start (R274, R290, R458, R605). -/
def oldTickEnds (s : Chip) (d : Fin 4) : Chip :=
  let s := if ticking s d then flowsTickEnd s d else s
  capturesAtStart (stopHandlers (basteSplit s d) d) d

/-- Die `d` starts tick `n` at time `start` with a setting; `waiting` when no mark told it to. -/
def startTick (s : Chip) (d : Fin 4) (n : BitVec 48) (start : Time) (k : Setting) (waiting : Bool) (fec : List Nat) : Chip :=
  let s := ledgerTickStart (oldTickEnds s d) d
  let s := s.onTick d fun _ => { set := k, start := start, num := n, phase := .acquire, waiting := waiting }
  let s := s.upd d fun x => { x with ran := [] }
  let s := if d = 0 then deviceTickStart s else s
  let s := fecCounts (linksTickStart (flowsTickStart (basteTickStart (epochTickStart s d) d) d) d) d fec
  reloadLate (recipesTick (yokeEntry s d) d) d

/-- Die `d` can start a tick now: none runs, or its SLACK does. -/
def tickOver (s : Chip) (d : Fin 4) : Bool := (s.d d).tick.phase == .idle || (s.d d).tick.phase == .slack

/-- TICK_START: the start time in the mark has come. A mark that says skip only counts its tick. -/
def tickStart (d : Fin 4) (fec : List Nat) (s : Chip) : Chip :=
  whenUp s d fun s =>
    match (s.d d).tick.mark with
    | none => s
    | some m =>
      if !reached s d m.start || !tickOver s d then s
      else if m.skip then (if d = 0 ∧ !follows s then s else absorbSkip s d)
      else if tickAllowed s m.num then
        (startTick s d m.num m.start { p := m.p, a := m.a, s := m.s } false fec).setFld d Rf.TIME_TICK_MISS_RUNLEN 0
      else s

/-- TICK_PREDICTED_START (R68): no mark for the coming tick is held at its predicted start. -/
def tickPredictedStart (d : Fin 4) (s : Chip) : Chip :=
  whenUp s d fun s =>
    let k := (s.d d).tick
    let skipped := max k.skips (b2n k.extended)
    let start := k.start + BitVec.ofNat 64 ((1 + skipped) * k.set.p)
    let n := k.num + 1 + BitVec.ofNat 48 (skipped - k.skips)
    if (d = 0 ∧ !follows s) ∨ k.mark.isSome ∨ k.phase ≠ .slack ∨ !reached s d start ∨ !tickAllowed s n then s
    else startTick s d n start k.set true []

/-- TICK_MARK_TIMEOUT (R68, R98): 51 tq after the predicted start. -/
def tickMarkTimeout (d : Fin 4) (s : Chip) : Chip :=
  whenUp s d fun s => if (s.d d).tick.waiting ∧ 51 ≤ elapsed s d then missTick s d else s

/-- SKIPPED_TICK_MARK (R75, R864): the predicted start of a skipped tick has come; die 0 counts it, raises TICKSKIP unless
the G2 rule has, and sends the next mark. -/
def skippedTickMark (s : Chip) : Chip :=
  whenUp s 0 fun s =>
    let k := (s.d 0).tick
    match k.mark with
    | some m =>
      if m.skip && !follows s && k.phase == .slack && reached s 0 m.start then
        let s := if k.extended ∧ k.skips = 0 then s else raise s 0 0x002 K.TICKSKIP 0 (m.num.toNat % 2 ^ 32)
        masterMark (absorbSkip s 0)
      else s
    | none => s

/-! ### Phases (R62, R70 to R76, R457) -/

/-- ACQUIRE_END. -/
def acquireEnd (d : Fin 4) (s : Chip) : Chip :=
  whenUp s d fun s =>
    let k := (s.d d).tick
    if k.phase = .acquire ∧ k.set.a ≤ elapsed s d then
      let s := capturesAtA (s.onTick d fun k => { k with phase := .process }) d
      recipesAtA (if d = 0 then disarmLaser s else s) d
    else s

/-- The clusters of die `d` whose programs overrun at S: those that have not ended, handlers apart.
DEDUCED, log 28. -/
def overrunners (s : Chip) (d : Fin 4) : List Nat :=
  ((s.d d).clusters.filter fun e => e.2.live && !e.2.handler).map Prod.fst

/-- A class T fault of the tenant is noted, and ends its recipe instances; its programs on the other dies stop at their own
S. -/
def noteFault (s : Chip) (t : Fin 256) : Chip :=
  overAll (fun s e => endInstsOf s e t 4) (s.setFld 0 (Rf.YOKE_TEN_CTL_FAULTED.at t.val) 1) dies

/-- The program of cluster `c` stops with OVERRUN (R71, R109). -/
def overrun (s : Chip) (d : Fin 4) (c : Nat) : Chip :=
  let x := s.cluster d c
  noteFault (raiseB (endProgram s d c true 2 0) d (rSource c) K.OVERRUN x.ten x.pc.toNat x.basted) x.ten

/-- STITCH begins on die `d`, counted from `t`. -/
def beginStitch (s : Chip) (d : Fin 4) (t : Time) : Chip :=
  basteStitchStart (s.onTick d fun k => { k with phase := .stitch, stitchAt := some t }) d

/-- The offset S of die `d`'s tick, plus `more`. -/
def stitchTime (s : Chip) (d : Fin 4) (more : Nat) : Time :=
  (s.d d).tick.start + BitVec.ofNat 64 ((s.d d).tick.set.s + more)

/-- Dies in a tick that has not begun STITCH. -/
def beforeStitch (s : Chip) : List (Fin 4) :=
  dies.filter fun d => up s d && ((s.d d).tick.phase == .acquire || (s.d d).tick.phase == .process)

/-- Die 0 decides on the reports of R75, once every die has made its own. DESIGN CHOICE, log 26. -/
def decideExtension (s : Chip) : Chip :=
  let ds := beforeStitch s
  if ds.any fun d => (s.d d).tick.report.isNone then s
  else if ds.any fun d => (s.d d).tick.report == some true then
    let s := overAll (fun s d => s.onTick d fun k => { k with extended := true }) s ds
    raiseG2 s 0 0x002 K.TICKSKIP 0 (((s.d 0).tick.num + 1).toNat % 2 ^ 32)
  else overAll (fun s d => beginStitch s d (stitchTime s d 0)) s ds

/-- STITCH_START. -/
def stitchStart (d : Fin 4) (s : Chip) : Chip :=
  whenUp s d fun s =>
    let k := (s.d d).tick
    if k.phase ≠ .process ∨ elapsed s d < k.set.s ∨ k.report.isSome then s
    else if bit s.compat 0 then
      decideExtension (s.onTick d fun k => { k with report := some (!(overrunners s d).isEmpty) })
    else beginStitch (overAll (fun s c => overrun s d c) s (overrunners s d)) d (stitchTime s d 0)

/-- EXTENDED_STITCH_START: in an extended tick the last program has ended. -/
def extendedStitchStart (s : Chip) : Chip :=
  whenUp s 0 fun s =>
    let ds := (beforeStitch s).filter fun d => (s.d d).tick.extended
    if ds.isEmpty || ds.any fun d => !(overrunners s d).isEmpty then s
    else overAll (fun s d => beginStitch s d (s.now d)) s ds

/-- EXTENSION_DEADLINE (R76, R103): programs still running at P + S stop. -/
def extensionDeadline (d : Fin 4) (s : Chip) : Chip :=
  whenUp s d fun s =>
    let k := (s.d d).tick
    if k.phase = .process ∧ k.report.isSome ∧ k.set.p + k.set.s ≤ elapsed s d then
      beginStitch (overAll (fun s c => overrun s d c) s (overrunners s d)) d (stitchTime s d k.set.p)
    else s

/-- SLACK_START (R62): STITCH has lasted 256 tq. -/
def slackStart (d : Fin 4) (s : Chip) : Chip :=
  whenUp s d fun s =>
    match (s.d d).tick.phase, (s.d d).tick.stitchAt with
    | .stitch, some t =>
      if (s.now d - t).toNat < 256 then s
      else
        let s := s.onTick d fun k => { k with phase := .slack, marked := true }
        let s := recipesEnd (handlersGo (reconcile s d) d) d
        let s := passBegin (reloadAtSlack (judgeDarner s d) d) d
        if d = 0 then masterMark s else s
    | _, _ => s

/-- Ticks have stopped, and the last one is over (R88). -/
def tickEnds (s : Chip) (d : Fin 4) : Chip :=
  let k := (s.d d).tick
  if k.phase = .slack ∧ spanP s d ≤ elapsed s d ∧ !tickAllowed s (k.num + 1) then
    (flowsTickEnd s d).onTick d fun k => { k with phase := .idle, mark := none }
  else s

/-! ### Time discipline (R55 to R61, R106, R107, R706, R707) -/

/-- The state of R59 and R60 after an exchange: `old` is the state before, `good` the exchanges in a row within 4 tq. -/
def skewState (old good : Nat) (a : Nat) : Nat :=
  if old = 2 ∧ good < 16 then 2 else if a ≤ 1 then 0 else if a ≤ 4 then 1 else 2

/-- A signed value as an 8-bit field saturated to ±127. -/
def skew8 (i : Int) : Nat := toBits 8 (clampI (-127) 127 i)

/-- A die of dies 1 to 3 exchanges time with die 0, whose time is `t0`. -/
def exchangeDie (s : Chip) (d : Fin 4) (t0 : Time) : Chip :=
  let b := (s.d d).tb
  if !b.taken then s.onTb d fun b => { b with now := t0, taken := true, owe := 0, good := 0 }
  else
    let skew := (b.now - t0).toInt
    let a := skew.natAbs
    let good := if a ≤ 4 then min 16 (b.good + 1) else 0
    let s := (s.setFld d Rf.TIME_STAT_STATE (skewState (s.fld d Rf.TIME_STAT_STATE) good a)).setFld d Rf.TIME_STAT_SKEW
      (skew8 skew)
    let s := s.onTb d fun b => { b with good := good, owe := -skew, alarmed := decide (64 < a) }
    if 64 < a ∧ !b.alarmed then
      raise s d 0x001 K.TIMESKEW 0 (toBits 32 (clampI (-2147483648) 2147483647 skew))
    else s

/-- Package 0 drops a member whose skew is above 64 tq (R707, R724). -/
def dropMember (s : Chip) (p : Fin 8) (skew : Int) : Chip :=
  let members := s.fld 0 Rf.SEAM_GRP_STAT_MEMBERS
  if bit members p.val ∧ 64 < skew.natAbs then
    raise (s.setFld 0 Rf.SEAM_GRP_STAT_MEMBERS (clrBit members p.val)) 0 0x038 K.GRPDROP 0
      (p.val + toBits 16 (clampI (-32768) 32767 skew) * 2 ^ 16)
  else s

/-- Die 0 exchanges time with the package `p` of its group: with package 0 as a member, and with a member as package 0. -/
def exchangeGroup (s : Chip) (p : Fin 8) (t0 : Time) : Chip :=
  let skew := (s.now 0 - t0).toInt
  if follows s && p == 0 then
    let a := skew.natAbs
    let good := if a ≤ 4 then min 16 ((s.d 0).tb.good + 1) else 0
    let st := skewState (if s.flag 0 Rf.SEAM_GRP_STAT_UNCERTAIN then 2 else 0) good a
    let s := (s.setFld 0 Rf.SEAM_GRP_STAT_SKEW (skew8 skew)).setFld 0 Rf.SEAM_GRP_STAT_UNCERTAIN (b2n (st == 2))
    s.onTb 0 fun b => { b with good := good, owe := -skew }
  else if groupOn s && s.fld 0 Rf.SEAM_GRP_CTL_PKG == 0 && p != 0 then dropMember s p (-skew)
  else s

/-- TIME_EXCHANGE. -/
def timeExchange (d : Fin 4) (grp : Option (Fin 8)) (t0 : Time) (s : Chip) : Chip :=
  whenUp s d fun s =>
    match grp with
    | none => if d ≠ 0 ∧ reaches s 0 d then exchangeDie s d t0 else s
    | some p => if d = 0 then exchangeGroup s p t0 else s

/-- Die 0 is to lock to TBREF. -/
def usesRef (s : Chip) : Bool := s.fld 0 Rf.TIME_CTL_SRC != 0 && !follows s

/-- TBREF_HOLDOVER (R58, R106). -/
def tbrefHoldover (s : Chip) : Chip :=
  whenUp s 0 fun s =>
    if usesRef s && !s.flag 0 Rf.TIME_STAT_HOLDOVER then
      raise ((s.setFld 0 Rf.TIME_STAT_HOLDOVER 1).setFld 0 Rf.TIME_STAT_REFLOCK 0) 0 0x001 K.REFLOSS 0 0
    else s

/-- TBREF_LOCK (R56, R58). -/
def tbrefLock (s : Chip) : Chip :=
  whenUp s 0 fun s =>
    if usesRef s then (s.setFld 0 Rf.TIME_STAT_REFLOCK 1).setFld 0 Rf.TIME_STAT_HOLDOVER 0 else s

/-- A write of TIME.CTL (R56, R91, R92): a new source starts lock afresh. DESIGN CHOICE, log 25. -/
def timeCtlWrite (s : Chip) (t : Fin 256) (v : Word) : Chip :=
  let src := getBits v 1 2
  let s := if src = s.fld 0 Rf.TIME_CTL_SRC then s
    else ((s.setFld 0 Rf.TIME_CTL_SRC src).setFld 0 Rf.TIME_STAT_REFLOCK 0).setFld 0 Rf.TIME_STAT_HOLDOVER 0
  if getBits v 0 1 = 0 then s
  else if s.ticked then refusedWrite s 0 t Rf.TIME_CTL_SET
  else s.onTb 0 fun b => { b with now := BitVec.ofNat 64 (s.fld64 0 Rf.TIME_SET_LO_SET Rf.TIME_SET_HI_SET) }

/-- One nominal tq of die `d`'s time base: it counts one, and slews by at most one tq in 256 (R54, R57). -/
def slewTq (b : TimeBase) : TimeBase :=
  if 256 ≤ b.since ∧ b.owe ≠ 0 then
    if 0 < b.owe then { b with now := b.now + 2, owe := b.owe - 1, since := 1 }
    else { b with owe := b.owe + 1, since := 1 }
  else { b with now := b.now + 1, since := min 256 (b.since + 1) }

/-! ### Meanings -/

/-- TIME_EXCHANGE. -/
def execTimeExchange (d : Fin 4) (grp : Option (Fin 8)) (t0 : BitVec 64) (s : State) : Out :=
  act s fun s => timeExchange d grp t0 s
/-- TBREF_HOLDOVER. -/
def execTbrefHoldover (s : State) : Out :=
  act s fun s => tbrefHoldover s
/-- TBREF_LOCK. -/
def execTbrefLock (s : State) : Out :=
  act s fun s => tbrefLock s
/-- TICK_START. -/
def execTickStart (d : Fin 4) (fec : List Nat) (s : State) : Out :=
  act s fun s => tickStart d fec s
/-- ACQUIRE_END. -/
def execAcquireEnd (d : Fin 4) (s : State) : Out :=
  act s fun s => acquireEnd d s
/-- STITCH_START. -/
def execStitchStart (d : Fin 4) (s : State) : Out :=
  act s fun s => stitchStart d s
/-- EXTENDED_STITCH_START. -/
def execExtendedStitchStart (s : State) : Out :=
  act s fun s => extendedStitchStart s
/-- EXTENSION_DEADLINE. -/
def execExtensionDeadline (d : Fin 4) (s : State) : Out :=
  act s fun s => extensionDeadline d s
/-- SLACK_START. -/
def execSlackStart (d : Fin 4) (s : State) : Out :=
  act s fun s => slackStart d s
/-- TICK_MARK. -/
def execTickMark (d : Fin 4) (m : Mark) (s : State) : Out :=
  act s fun s => tickMark d m s
/-- TICK_PREDICTED_START. -/
def execTickPredictedStart (d : Fin 4) (s : State) : Out :=
  act s fun s => tickPredictedStart d s
/-- TICK_MARK_TIMEOUT. -/
def execTickMarkTimeout (d : Fin 4) (s : State) : Out :=
  act s fun s => tickMarkTimeout d s
/-- TICK_APPLY: a write of TIME.TICK_CTL with APPLY set. -/
def execTickApply (t : Fin 256) (v : Word) (s : State) : Out :=
  act s fun s => whenGranted s 0 t Rf.TIME_TICK_CTL_APPLY fun s => tickCtlWrite s (putBits v 1 1 1)
/-- TICK_RUN_SET. -/
def execTickRunSet (t : Fin 256) (s : State) : Out :=
  act s fun s => whenGranted s 0 t Rf.TIME_TICK_CTL_RUN fun s => tickCtlWrite s 1
/-- TICK_RUN_CLEAR. -/
def execTickRunClear (t : Fin 256) (s : State) : Out :=
  act s fun s => whenGranted s 0 t Rf.TIME_TICK_CTL_RUN fun s => tickCtlWrite s 0
/-- TIME_SET: a write of TIME.CTL with SET set. -/
def execTimeSet (t : Fin 256) (v : Word) (s : State) : Out :=
  act s fun s => whenGranted s 0 t Rf.TIME_CTL_SET fun s => timeCtlWrite s t (putBits v 0 1 1)
/-- SKIPPED_TICK_MARK. -/
def execSkippedTickMark (s : State) : Out :=
  act s fun s => skippedTickMark s

end Sys2Proof.Machine
end

