-- ==== Sys2Proof/Machine/RegWrite.lean ====
section
/-! DEFINITION. A write that reaches a register: who may make it, and what each register does with it (R8, R14, R24 to
R28, R33, R45, and the register tables with the rules they name). -/

namespace Sys2Proof.Machine

/-! ### Registers and their access codes (R27, R28) -/

/-- The number of the register at `off` in a family of `count` registers `stride` bytes apart from `base`. -/
def nth (off base stride count : Nat) : Option Nat :=
  if base ≤ off ∧ (off - base) % stride = 0 ∧ (off - base) / stride < count then some ((off - base) / stride) else none

/-- The key of the register at `off` in the window of unit `u`: every register lies in the first MiB (R158). -/
def keyOf (u off : Nat) : Option Nat := if off < 1048576 then some (u * 1048576 + off) else none

/-- The register of unit `u` at `off`, on a die that has it. -/
def regOn (d : Fin 4) (u off : Nat) : Option RegSpec :=
  match keyOf u off with
  | some k => (regAt k).filter fun r => bit r.dies d.val
  | none => none

/-- One field after a write of `v` (R27). -/
def writeField (v old : Word) (f : FieldSpec) : Word :=
  let w := getBits v f.lo f.w
  let o := getBits old f.lo f.w
  match f.acc with
  | .rw | .wo => putBits old f.lo f.w w
  | .w1c => putBits old f.lo f.w (Nat.land o (2 ^ f.w - 1 - w))
  | .w1s => putBits old f.lo f.w (Nat.lor o w)
  | .ro | .rc => old

/-- A word after a write of `v`; reserved bits keep 0 (R28). -/
def writeFields (v : Word) : List FieldSpec → Word → Word
  | [], old => old
  | f :: fs, old => writeFields v fs (writeField v old f)

/-- A write of a register that has no behaviour of its own. -/
def plainWrite (s : Chip) (d : Fin 4) (u off : Nat) (v : Word) : Chip :=
  match regOn d u off with
  | some r => let k := u * 1048576 + off
              s.setReg d k (writeFields v r.fields (s.reg d k))
  | none => s

/-- A plain write of the bits that `m` names; the others are written 0. -/
def maskedWrite (s : Chip) (d : Fin 4) (u off : Nat) (v : Word) (m : Nat) : Chip :=
  plainWrite s d u off (BitVec.ofNat 32 (Nat.land v.toNat m))

/-- Bits of an ACQ, DRAM or CFG register that belong to a feature the die lacks: they read zero and ignore writes (R9). -/
def absentBits (s : Chip) (d : Fin 4) (u off : Nat) : Nat :=
  let all := 0xFFFFFFFF
  if u = 8 then
    let fast := if feature s d 0 then 0 else 1
    let slow := if feature s d 1 then 0 else 1
    if off = 0x4 ∨ off = 0x8 then 3 * fast + 4 * slow
    else if 0x40 ≤ off ∧ off < 0x48 then all * fast
    else if 0x48 ≤ off ∧ off < 0x68 then all * slow
    else if 0x100 ≤ off ∧ off < 0x150 ∧ !feature s d 2 then all
    else 0
  else if u = 0xF then (if off = 0xC ∧ !feature s d 4 then 1 else 0)
  else if u = 0x11 then (if 0x60 ≤ off ∧ off < 0xC0 ∧ !feature s d 5 then all else 0)
  else 0

/-! ### Who may write (R14, R45, R94, R117, R228, R278, R326, R376, R486, R611, R755, R836, R875, R942) -/

/-- Only the supervisor writes the register; a grant does not permit it. DEDUCED, log 19. -/
def superOnly (u off : Nat) : Bool :=
  u == 0x00 || (u == 0x01 && decide (0x40000 ≤ off)) || (u == 0x09 && (off == 0x4 || off == 0x8)) || u == 0x11 || u == 0x13 ||
    (u == 0x14 && off == 0x4) || u == 0x15 || u == 0x16 || (u == 0x18 && (decide (0x3000 ≤ off ∧ off < 0x3020) || off == 0x3108)) ||
    (u == 0x19 && (off == 0xC || off == 0x10)) || u == 0x1A

/-- Tenant `t` may write the register without a grant: its ring's consumer index, CONS and TXREQ of its flows, and RESET
of its regions. -/
def ownWrite (s : Chip) (d : Fin 4) (t : Fin 256) (u off : Nat) : Bool :=
  if u = 0x18 then d == 0 && off == 0x1010 + 32 * t.val
  else if u = 0x0D then
    decide (0x10000 ≤ off ∧ off < 0x20000) && (off % 64 == 0x10 || off % 64 == 0x14) && flowTen s d ((off - 0x10000) / 64) == t
  else if u = 0x04 then
    match nth off 0x500 4 64 with
    | some r => regionOwner s d r == t
    | none => false
  else false

/-- Tenant `t` may write the register at `off` of unit `u` on die `d`. -/
def mayWrite (s : Chip) (d : Fin 4) (t : Fin 256) (u off : Nat) : Bool :=
  t == 0 || (!superOnly u off && granted s d u t) || ownWrite s d t u off

/-! ### What each unit does with a write -/

/-- SYS (R14, R33, R36, R47, R50, R51). -/
def writeSys (s : Chip) (d : Fin 4) (t : Fin 256) (off : Nat) (v : Word) : Chip :=
  if off = 0xC then
    if s.ticked then nogrant s d t 0 off false else { s with compat := getBits v 0 6 }
  else if off = 0x400 then s
  else plainWrite s d 0 off v

/-- YOKE.RTO (R64, R147): below 4, or not below the active P or an accepted one, is refused.
DEDUCED, log 40. -/
def rtoWrite (s : Chip) (t : Fin 256) (v : Word) : Chip :=
  let n := getBits v 0 16
  let ps := (s.d 0).tick.set.p :: s.settings.map fun e => e.2.p
  if n < 4 || ps.any fun p => decide (p ≤ n * 1000) then refusedWrite s 0 t Rf.YOKE_RTO_TIMEOUT
  else s.setFld 0 Rf.YOKE_RTO_TIMEOUT n

/-- Word 1 of a region descriptor (R143): VALID stays 0 on a descriptor that fails. -/
def rdWrite (s : Chip) (d : Fin 4) (n : Nat) (v : Word) : Chip :=
  let s := plainWrite s d 1 (0x10004 + 16 * n) v
  let base := s.fld64 d (Rf.YOKE_RD0_BASE_LO.at n) (Rf.YOKE_RD1_BASE_HI.at n)
  let limit := s.fld64 d (Rf.YOKE_RD2_LIMIT_LO.at n) (Rf.YOKE_RD3_LIMIT_HI.at n)
  if descOk base limit then s else s.setFld d (Rf.YOKE_RD1_VALID.at n) 0

/-- YOKE (R64, R117, R118, R142, R143, R147, R190): tenant 0's ENABLE ignores writes. -/
def writeYoke (s : Chip) (d : Fin 4) (t : Fin 256) (off : Nat) (v : Word) : Chip :=
  if off = 0xC then (if d = 0 then rtoWrite s t v else s)
  else if off = 0x400 then maskedWrite s d 1 off v 0xFE
  else
    match nth off 0x10004 16 1024 with
    | some n => rdWrite s d n v
    | none => plainWrite s d 1 off v

/-- LEDGER (R199, R228, R229, R237, R241, R242, R249). -/
def writeLedger (s : Chip) (d : Fin 4) (off : Nat) (v : Word) : Chip :=
  if off = 0x4 then maskedWrite s d 2 off v (if d = 0 then 3 else 1)
  else if off = 0xC then plainWrite s d 2 off (BitVec.ofNat 32 (max 1 (getBits v 0 12)))
  else if off = 0x24 then (if d = 0 then resvHi s v else s)
  else if off = 0x28 then (if d = 0 then resvAdj s v else s)
  else if off = 0x50 then
    (s.setFld d Rf.LEDGER_THERM_CTL_THR (clampN 40 145 (getBits v 0 8))).setFld d Rf.LEDGER_THERM_CTL_HYST
      (max 1 (getBits v 8 4))
  else plainWrite s d 2 off v

/-- BASTE (R279, R294): a QUOTA above 4,096 stores 4,096. -/
def writeBaste (s : Chip) (d : Fin 4) (off : Nat) (v : Word) : Chip :=
  match nth off 0x800 4 256 with
  | some i => s.setFld d (Rf.BASTE_QUOTA_QUOTA.at i) (min 4096 (getBits v 0 13))
  | none => plainWrite s d 3 off v

/-- The divider registers of a PLL: M 0 stores 1 (R344). -/
def pllDivWrite (s : Chip) (d : Fin 4) (off : Nat) (v : Word) : Chip :=
  plainWrite s d 4 off (if getBits v 0 6 = 0 then putBits v 0 6 1 else v)

/-- The TENANT and EN fields of a fabric port: TENANT ignores writes on a port in a region (R344). -/
def portWrite (s : Chip) (d : Fin 4) (off grain : Nat) (v : Word) : Chip :=
  match regionOfGrain s d grain with
  | some _ => plainWrite s d 4 off (putBits v 0 8 (getBits (s.reg d (4 * 1048576 + off)) 0 8))
  | none => plainWrite s d 4 off v

/-- CLK (R305, R306, R314, R326 to R331, R344). -/
def writeClk (s : Chip) (d : Fin 4) (t : Fin 256) (off : Nat) (v : Word) : Chip :=
  if off = 0x4 then fabricResetWrite s d true v
  else if off = 0x8 then fabricResetWrite s d false v
  else
    match nth off 0x100 32 6, nth off 0x104 32 6, nth off 0x200 32 2, nth off 0x204 32 2 with
    | some k, _, _, _ => pllSrcWrite s d k v
    | _, some _, _, _ => pllDivWrite s d off v
    | _, _, some j, _ => pllSrcWrite s d (4 + j) v
    | _, _, _, some _ => pllDivWrite s d off v
    | _, _, _, _ =>
      match nth off 0x300 4 16, nth off 0x500 4 64, nth off 0x600 4 16, nth off 0x680 4 8 with
      | some g, _, _, _ => gselWrite s d t g v
      | _, some r, _, _ => regionCtl s d t r v
      | _, _, some p, _ => portWrite s d off (sportGrain p) v
      | _, _, _, some q => portWrite s d off (dportGrain q) v
      | _, _, _, _ => plainWrite s d 4 off v

/-- SPAD (R376 to R378, R392): the MOV registers of channels 0 and 1, and of a busy channel, ignore writes. -/
def writeSpad (s : Chip) (d : Fin 4) (off : Nat) (v : Word) : Chip :=
  if off = 0x10 then spadInject s d v
  else
    match nth off 0x100 4 32 with
    | some k => bankWrite s d k v
    | none =>
      if 0x1000 ≤ off ∧ off < 0x1080 then
        let m := (off - 0x1000) / 32
        if off % 32 = 0x14 then movCtlWrite s d m v
        else if m < 2 || s.flag d (Rf.SPAD_MOV_STAT_BUSY.at m) then s
        else plainWrite s d 5 off v
      else plainWrite s d 5 off v

/-- BMEM (R378, R393). -/
def writeBmem (s : Chip) (d : Fin 4) (off : Nat) (v : Word) : Chip :=
  if off = 0x10 then bmemInject s d v else plainWrite s d 6 off v

/-- RENTIK (R429, R443). -/
def writeRentik (s : Chip) (d : Fin 4) (off : Nat) (v : Word) : Chip :=
  if off = 0x4 then iloadCtl s d v else if off = 0x8 then iloadData s d v else plainWrite s d 7 off v

/-- ACQ (R449, R463, R501). -/
def writeAcq (s : Chip) (d : Fin 4) (off : Nat) (v : Word) : Chip :=
  let v := BitVec.ofNat 32 (Nat.land v.toNat (0xFFFFFFFF - absentBits s d 8 off))
  if off = 0x4 then acqCtl s d v else plainWrite s d 8 off v

/-- ILK (R472, R473, R502). DEDUCED, log 112. -/
def writeIlk (s : Chip) (off : Nat) (v : Word) : Chip :=
  if off = 0x4 then (if bit v.toNat 0 then ilkClear s else s) else if off = 0x8 then ilkTd s v else plainWrite s 0 9 off v

/-- PSENSE (R475, R477, R503): thresholds hold 1 to 8,190, and HELD 1 to 3,600. DESIGN CHOICE, log 107. -/
def writePsense (s : Chip) (off : Nat) (v : Word) : Chip :=
  if off = 0x4 then psenseCtl s v
  else if off = 0x8 then
    (s.setFld 0 Rf.PSENSE_THR_TOUCH (clampN 1 8190 (getBits v 0 14))).setFld 0 Rf.PSENSE_THR_NEG
      (clampN 1 8190 (getBits v 16 14))
  else if off = 0xC then s.setFld 0 Rf.PSENSE_HELD_HELD (clampN 1 3600 (getBits v 0 12))
  else plainWrite s 0 10 off v

/-- A configuration register of a set (R535, R549): ignored while the set is enabled. -/
def setCfgWrite (s : Chip) (d : Fin 4) (k off : Nat) (v : Word) : Chip :=
  if 1 < d.val || s.flag d (Rf.PLEAT_SET_CTL_ENABLE.at k) then s
  else
    let v := if off % 32 = 0 then
        let v := if getBits v 10 2 = 3 then putBits v 10 2 2 else v
        putBits v 12 5 (min 28 (getBits v 12 5))
      else v
    plainWrite s d 11 off v

/-- PLEAT (R535, R536, R543, R549): a busy job slot ignores writes. -/
def writePleat (s : Chip) (d : Fin 4) (off : Nat) (v : Word) : Chip :=
  if 0x100 ≤ off ∧ off < 0x300 then
    let k := (off - 0x100) / 32
    if off % 32 = 0x14 then setCtlWrite s d k v else setCfgWrite s d k off v
  else if 0x400 ≤ off ∧ off < 0x480 then
    let j := (off - 0x400) / 32
    if off % 32 = 0x14 then jobCtlWrite s d j v
    else if s.flag d (Rf.PLEAT_JOB_STAT_BUSY.at j) then s
    else plainWrite s d 11 off v
  else plainWrite s d 11 off v

/-- The registers of lane `k` at offset `o` of its block (R551, R552, R558, R559, R562, R569, R572, R573, R578, R590). -/
def writeLaneBlock (s : Chip) (d : Fin 4) (t : Fin 256) (k o : Nat) (v : Word) : Chip :=
  let off := 0x1000 + 0x100 * k + o
  let f : Fld := ⟨12, off, 0, 0, 32⟩
  let plain := fun (s : Chip) => plainWrite s d 12 off v
  if o = 0x00 then leadWrite s d t k f fun s => laneCtl s d k v
  else if o = 0x08 ∨ o = 0x10 then leadWrite s d t k f plain
  else if o = 0x0C then leadWrite s d t k f fun s => rateWrite s d k v
  else if o = 0x14 then leadWrite s d t k f fun s => modeWrite s d k v
  else if 0x90 ≤ o ∧ o < 0x9C then (if o = 0x90 then eyeWrite s d k v else plain s)
  else laneWrite s d t k f fun s =>
    if o = 0x18 then txfirWrite s d k v
    else if o = 0x1C then ctleWrite s d k v
    else if o = 0x20 then dfeCtl s d k v
    else if o = 0x80 then prbsWrite s d k v
    else
      match nth o 0x40 4 12 with
      | some i => dfeTap s d k (i + 1) v
      | none => plain s

/-- LANE. -/
def writeLane (s : Chip) (d : Fin 4) (t : Fin 256) (off : Nat) (v : Word) : Chip :=
  if 0x1000 ≤ off ∧ off < 0x1800 then writeLaneBlock s d t ((off - 0x1000) / 0x100) ((off - 0x1000) % 0x100) v
  else plainWrite s d 12 off v

/-- FLOW (R595, R600, R611 to R613, R627): BUF, SIZE and CVSTART ignore writes while the flow is enabled. -/
def writeFlow (s : Chip) (d : Fin 4) (t : Fin 256) (off : Nat) (v : Word) : Chip :=
  if 0x10000 ≤ off ∧ off < 0x20000 then
    let f := (off - 0x10000) / 64
    let o := off % 64
    if o = 0x00 then flowCtlWrite s d t f v
    else if o = 0x04 then aliveWrite s d f v
    else if o = 0x08 ∨ o = 0x0C ∨ o = 0x1C then
      if s.flag d (Rf.FLOW_CTL_EN.at f) then s else plainWrite s d 13 off v
    else if o = 0x14 then txreqWrite s d f v
    else if o = 0x18 then rvWrite s d f v
    else plainWrite s d 13 off v
  else plainWrite s d 13 off v

/-- CHK (R595, R614, R628). -/
def writeChk (s : Chip) (d : Fin 4) (t : Fin 256) (off : Nat) (v : Word) : Chip :=
  match nth off 0x1000 16 256, nth off 0x1008 16 256 with
  | some c, _ => chkCfgWrite s d t c v
  | _, some c => chkData s d c v
  | _, _ => plainWrite s d 14 off v

/-- DRAM (R629, R667, R688): GEOM, the masks and the timing registers are refused while EN is 1. -/
def writeDram (s : Chip) (d : Fin 4) (t : Fin 256) (off : Nat) (v : Word) : Chip :=
  if off = 0x4 then dramCtlWrite s d v
  else if off = 0xC ∨ (0x20 ≤ off ∧ off < 0x30) ∨ (0x80 ≤ off ∧ off < 0x94) then
    if s.flag d Rf.DRAM_CTL_EN then nogrant s d t 15 off false
    else
      let v := BitVec.ofNat 32 (Nat.land v.toNat (0xFFFFFFFF - absentBits s d 15 off))
      plainWrite s d 15 off (if off = 0xC ∧ getBits v 8 3 = 7 then putBits v 8 3 6 else v)
  else
    match nth off 0x100 16 16 with
    | some _ => plainWrite s d 15 off (putBits v 16 13 (clampN 1 4096 (getBits v 16 13)))
    | none => plainWrite s d 15 off v

/-- SEAM (R696, R704, R706, R709, R710, R725): RETRAIN, JOIN and LEAVE count only from the supervisor.
DEDUCED, log 153. -/
def writeSeam (s : Chip) (d : Fin 4) (t : Fin 256) (off : Nat) (v : Word) : Chip :=
  match nth off 0x100 64 4 with
  | some n =>
    if d ≠ 0 ∧ 2 ≤ n then s
    else
      let s := if bit v.toNat 0 then (if t = 0 then linkRetrain s d n else nogrant s d t 16 off false) else s
      if bit v.toNat 1 then linkInject s d n else s
  | none =>
    if off = 0x200 then
      if d ≠ 0 then s
      else
        let s := groupEnable s v
        let asks := bit v.toNat 9 || bit v.toNat 10
        if asks && t != 0 then nogrant s d t 16 off false
        else
          let s := if bit v.toNat 9 then groupJoin s else s
          if bit v.toNat 10 then groupLeave s else s
    else plainWrite s d 16 off v

/-- CFG (R728, R755, R756, R767, R792, R806). -/
def writeCfg (s : Chip) (d : Fin 4) (t : Fin 256) (off : Nat) (v : Word) : Chip :=
  if d ≠ 0 || absentBits s d 0x11 off != 0 then s
  else if off = 0x4 then cfgLoad t v s
  else if off = 0x18 then cfgDataWrite t v s
  else if off = 0x6C then flashGo s t v
  else plainWrite s d 17 off v

/-- DARNER (R772, R791, R805): EN of a region that the image has not declared stays 0. -/
def writeDarner (s : Chip) (d : Fin 4) (off : Nat) (v : Word) : Chip :=
  if off = 0x4 then passIdle (plainWrite s d 18 off v) d
  else
    match nth off 0x100 16 64 with
    | some r =>
      if bit v.toNat 0 && !s.flag d (Rf.CLK_REGION_VALID.at r) then s else plainWrite s d 18 off v
    | none => plainWrite s d 18 off v

/-- HEM (R818, R820, R848). -/
def writeHem (s : Chip) (d : Fin 4) (t : Fin 256) (off : Nat) (v : Word) : Chip :=
  if off = 0x3C then (if bit v.toNat 0 then hemProgram t d s else s)
  else if off = 0x40 then
    if d ≠ 0 then s
    else if bit v.toNat 31 then lcRequest t v s
    else s.setFld 0 Rf.HEM_LC_REQ_TARGET (getBits v 0 3)
  else plainWrite s d 19 off v

/-- LINING (R368, R394). -/
def writeLining' (s : Chip) (d : Fin 4) (off : Nat) (v : Word) : Chip :=
  if off = 0x4 then (if bit v.toNat 0 then liningWipe s else s) else plainWrite s d 20 off v

/-- WDOG (R828, R829, R850): PERIOD and PULSE hold at least 1; PULSE exists on die 0 only. -/
def writeWdog (s : Chip) (d : Fin 4) (t : Fin 256) (off : Nat) (v : Word) : Chip :=
  if off = 0x4 then wdogEnable t d v s
  else if off = 0x8 then s.setFld d Rf.WDOG_PERIOD_MS (max 1 (getBits v 0 16))
  else if off = 0xC then (if d = 0 then s.setFld 0 Rf.WDOG_PULSE_MS (max 1 (getBits v 0 8)) else s)
  else plainWrite s d 21 off v

/-- A debug access arrives at die `d`'s port, which serves one at a time (R858). -/
def dbgBegin (s : Chip) (d : Fin 4) (a : DbgAcc) : Chip :=
  if (s.d d).dbg.isSome then setDbgStatus s d 1
  else (s.upd d fun x => { x with dbg := some a }).setFld d Rf.PLACKET_DBG_STAT_BUSY 1

/-- A write of DBG_CMD: GO with OP 1 or 2 starts the access that the DBG registers describe (R858, R885). -/
def dbgCmdWrite (s : Chip) (d : Fin 4) (v : Word) : Chip :=
  let s := (s.setFld d Rf.PLACKET_DBG_CMD_OP (getBits v 0 2)).setFld d Rf.PLACKET_DBG_CMD_LANE (getBits v 2 1)
  let op := getBits v 0 2
  if bit v.toNat 31 && (op == 1 || op == 2) then
    dbgBegin s d
      { tap := false, wr := op == 2, lane := bit v.toNat 2
        addr := s.fld64 d Rf.PLACKET_DBG_ADDR_LO_ADDR Rf.PLACKET_DBG_ADDR_HI_ADDR
        data := BitVec.ofNat 56 (s.fld64 d Rf.PLACKET_DBG_DATA_LO_DATA Rf.PLACKET_DBG_DATA_HI_DATA) }
  else s

/-- PLACKET (R855, R856, R861 to R864, R868, R875, R876, R885): while debug is locked only the AUTH registers accept
writes. -/
def writePlacket (s : Chip) (d : Fin 4) (t : Fin 256) (off : Nat) (v : Word) : Chip :=
  if 0x600 ≤ off ∧ off < 0x710 then
    if off = 0x700 ∧ d = 0 then
      let s := if bit v.toNat 0 then authNewchal s else s
      if bit v.toNat 1 then authGo s else s
    else plainWrite s d 22 off v
  else if dbgLocked s then setDbgStatus s d stLocked
  else if off = 0x14 then dbgCmdWrite s d v
  else if off = 0x20 then haltCtlWrite s d v
  else if off = 0x24 then clhWrite (maskedWrite s d 22 off v 0xFFFF) d v
  else if off = 0xC0 then clselWrite s d v
  else if off = 0x500 then (if d = 0 then traceCtlWrite s t v else s)
  else if off = 0x50C then (if d = 0 then traceBaseWrite s t v else s)
  else
    match nth off 0x80 4 16 with
    | some i => yregWrite s d i v
    | none => plainWrite s d 22 off v

/-- HOST (R174, R191). -/
def writeHost (s : Chip) (off : Nat) (v : Word) : Chip :=
  if off = 0x100 then smbCtlWrite s v
  else
    match nth off 0x120 4 8 with
    | some n => smbDataWrite s n v
    | none => plainWrite s 0 23 off v

/-- EVT (R94, R95, R113, R937, R939, R947): MERGE below 256 stores 256. -/
def writeEvt (s : Chip) (d : Fin 4) (off : Nat) (v : Word) : Chip :=
  if d ≠ 0 then s
  else if off = 0x4 then s.setFld 0 Rf.EVT_MERGE_W (max 256 (getBits v 0 16))
  else if off = 0x3108 then (if bit v.toNat 0 then aolEmpty s else s)
  else
    match nth off 0x1008 32 256, nth off 0x3000 4 8 with
    | some i, _ => ringCtlWrite s (Fin.ofNat 256 i) v
    | _, some i => alarmWrite s i v
    | _, _ => plainWrite s 0 24 off v

/-- TIME (R56, R87, R90 to R92, R112, R113). -/
def writeTime (s : Chip) (d : Fin 4) (t : Fin 256) (off : Nat) (v : Word) : Chip :=
  if off = 0x14 then (if d = 0 then timeCtlWrite s t v else s)
  else if off = 0x2C then (if d = 0 then tickCtlWrite s v else s)
  else plainWrite s d 25 off v

/-- TAMPER (R821, R826, R836, R849). -/
def writeTamper (s : Chip) (d : Fin 4) (t : Fin 256) (off : Nat) (v : Word) : Chip :=
  if off = 0x4 then tamperEn t d v s
  else if off = 0xC then
    if d ≠ 0 then s
    else
      let s := if bit v.toNat 0 then bbkeyCommit t s else s
      if bit v.toNat 1 then bbkeyErase t s else s
  else if off = 0x4C then (if d = 0 ∧ bit v.toNat 0 then tamperLogClear t s else s)
  else
    match nth off 0x10 4 8 with
    | some n => if d = 0 then bbkeyWord s t n v else s
    | none => plainWrite s d 26 off v

/-- What unit `u` of die `d` does with a permitted write. -/
def unitWrite (s : Chip) (d : Fin 4) (t : Fin 256) (u off : Nat) (v : Word) : Chip :=
  match u with
  | 0x00 => writeSys s d t off v
  | 0x01 => writeYoke s d t off v
  | 0x02 => writeLedger s d off v
  | 0x03 => writeBaste s d off v
  | 0x04 => writeClk s d t off v
  | 0x05 => writeSpad s d off v
  | 0x06 => writeBmem s d off v
  | 0x07 => writeRentik s d off v
  | 0x08 => writeAcq s d off v
  | 0x09 => writeIlk s off v
  | 0x0A => writePsense s off v
  | 0x0B => writePleat s d off v
  | 0x0C => writeLane s d t off v
  | 0x0D => writeFlow s d t off v
  | 0x0E => writeChk s d t off v
  | 0x0F => writeDram s d t off v
  | 0x10 => writeSeam s d t off v
  | 0x11 => writeCfg s d t off v
  | 0x12 => writeDarner s d off v
  | 0x13 => writeHem s d t off v
  | 0x14 => writeLining' s d off v
  | 0x15 => writeWdog s d t off v
  | 0x16 => writePlacket s d t off v
  | 0x17 => writeHost s off v
  | 0x18 => writeEvt s d off v
  | 0x19 => writeTime s d t off v
  | 0x1A => writeTamper s d t off v
  | _ => plainWrite s d u off v

/-- A write of tenant `t` reaches the window of unit `u` on die `d` at `off` (R8, R45): one to a register that the die
does not have is ignored, and one without the right to it is ignored and logged. DESIGN CHOICE, log 18. -/
def regWrite (s : Chip) (d : Fin 4) (t : Fin 256) (u off : Nat) (v : Word) : Chip :=
  if !present s d u then s
  else if !mayWrite s d t u off then nogrant s d t u off false
  else if (regOn d u off).isSome then unitWrite s d t u off v
  else s

end Sys2Proof.Machine
end

