-- ==== Sys2Proof/Machine/RegRead.lean ====
section
/-! DEFINITION. A read that reaches a register: who may make it, what the register shows, and what the read does to it
(R8, R14, R16, R25, R27, R45 to R47, R93, and the register tables with the rules they name). -/

namespace Sys2Proof.Machine

/-! ### Who may read (R14, R16, R45, R94, R228, R278, R442, R456, R611, R755, R836, R928) -/

/-- A register of unit `u` that every tenant may read. -/
def openRead (d : Fin 4) (u off : Nat) : Bool :=
  off == 0 ||
    (match u with
    | 0x00 => off == 4 || off == 8
    | 0x02 => decide (0x60 ≤ off ∧ off < 0x80)
    | 0x07 => decide (0x1000 ≤ off ∧ off < 0x1700)
    | 0x08 => decide (0x40 ≤ off ∧ off < 0x68)
    | 0x0A => off == 0x14
    | 0x0B => decide (0x100 ≤ off ∧ off < 0x300 ∧ off % 32 = 0x18) || decide (0x400 ≤ off ∧ off < 0x480 ∧ off % 32 = 0x18)
    | 0x0C => decide (0x1000 ≤ off ∧ off < 0x1800 ∧ off % 256 = 4)
    | 0x0F => off == 8 || off == 0x10
    | 0x11 => off == 8 || off == 0x28 || off == 0x2C
    | 0x13 => off == 4
    | 0x15 => off == 0x10
    | 0x18 => d == 0 && (decide (0x3000 ≤ off ∧ off < 0x3020) || decide (0x3400 ≤ off ∧ off < 0x3800))
    | 0x19 => off == 4 || off == 8 || decide (0x20 ≤ off ∧ off < 0x50)
    | 0x1B => off == 4 || off == 0xC
    | _ => false)

/-- A register of tenant `t`'s own that it may read without a grant. -/
def ownRead (s : Chip) (d : Fin 4) (t : Fin 256) (u off : Nat) : Bool :=
  match u with
  | 0x02 => decide (0x1000 + 16 * t.val ≤ off ∧ off < 0x1010 + 16 * t.val)
  | 0x03 => off == 0x800 + 4 * t.val || off == 0xC00 + 4 * t.val
  | 0x0D => decide (0x10000 ≤ off ∧ off < 0x20000) && flowTen s d ((off - 0x10000) / 64) == t
  | 0x18 => d == 0 && (off == 0x100C + 32 * t.val || off == 0x1014 + 32 * t.val)
  | _ => false

/-- Tenant `t` may read the register at `off` of unit `u` on die `d`. -/
def mayRead (s : Chip) (d : Fin 4) (t : Fin 256) (u off : Nat) : Bool :=
  t == 0 || granted s d u t || openRead d u off || ownRead s d t u off

/-! ### What each unit shows -/

/-- The word with field `f` showing `v`. -/
def Fld.show (f : Fld) (v : Nat) (w : Word) : Word := putBits w f.lo f.w v

/-- The low or high word of a number. -/
def half (n : Nat) (hi : Bool) : Word := BitVec.ofNat 32 (if hi then n / 2 ^ 32 else n)

/-- The number that the bits of a list spell, bit 0 first. -/
def bitsNat : List Bool → Nat
  | [] => 0
  | b :: bs => b2n b + 2 * bitsNat bs

/-- SYS.CAP_1 of die `d` (R49). -/
def cap1 (s : Chip) (d : Fin 4) : Nat :=
  bitsNat ((range 0 8).map (feature s d)) + d.val * 2 ^ 16 + (s.d d).hem.variant % 4 * 2 ^ 20 +
    (s.d d).hem.grade % 2 * 2 ^ 22

/-- SYS (R33, R48 to R51). -/
def showSys (s : Chip) (d : Fin 4) (off : Nat) (w : Word) : Word :=
  if off = 4 then BitVec.ofNat 32 (bitsNat ((range 0 28).map (present s d)))
  else if off = 8 then BitVec.ofNat 32 (cap1 s d)
  else if off = 0xC then BitVec.ofNat 32 (s.compat % 64 + b2n s.g2pin * 2 ^ 31)
  else if off = 0x400 then 0x0FFFFFFF
  else w

/-- YOKE (R142, R190). -/
def showYoke (s : Chip) (d : Fin 4) (off : Nat) (w : Word) : Word :=
  if off = 8 then
    let y := (s.d d).yoke
    let waits := match y.wait with
      | .till _ | .slack _ _ => true
      | _ => false
    Rf.YOKE_STAT_PC.show (yokeAddr y) (Rf.YOKE_STAT_RUNNING.show (b2n y.run) (Rf.YOKE_STAT_WAITING.show (b2n waits)
      (Rf.YOKE_STAT_RESTARTED.show (b2n y.restarted) 0)))
  else if off = 0x400 then putBits w 0 1 1
  else w

/-- LEDGER (R195, R199, R203, R249). -/
def showLedger (s : Chip) (d : Fin 4) (off : Nat) (w : Word) : Word :=
  if off = 0x20 then half s.reservoir false
  else if off = 0x24 then BitVec.ofNat 32 (s.reservoir / 2 ^ 32 % 256)
  else if off = 0x140 then half (s.led d).energy.toNat false
  else if off = 0x144 then half (s.led d).energy.toNat true
  else
    match nth off 0x1004 16 256 with
    | some t => BitVec.ofNat 32 (toBits 32 (clampI (-(2 ^ 31 : Int)) ((2 ^ 31 : Int) - 1) (balOf s d (Fin.ofNat 256 t))))
    | none => w

/-- BASTE (R278, R294). -/
def showBaste (s : Chip) (d : Fin 4) (off : Nat) (w : Word) : Word :=
  if off = 8 then
    Rf.BASTE_STAT_SHADOW_USED.show (shadowUsed s d) (Rf.BASTE_STAT_BUF_USED.show (bufUsed s d)
      (Rf.BASTE_STAT_RESOLVING.show (b2n (resolving s d)) 0))
  else if off = 0xC then
    Rf.BASTE_HWM_SHADOW_HWM.show (max (s.fld d Rf.BASTE_HWM_SHADOW_HWM) (shadowUsed s d))
      (Rf.BASTE_HWM_BUF_HWM.show (max (s.fld d Rf.BASTE_HWM_BUF_HWM) (bufUsed s d)) 0)
  else
    match nth off 0xC00 4 256 with
    | some i =>
      let t := Fin.ofNat 256 i
      (Rf.BASTE_TEN_STAT_ACTIVE.at i).show (b2n ((holders s d).contains t))
        ((Rf.BASTE_TEN_STAT_HELD.at i).show (shadowHeld s d t) w)
    | none => w

/-- The TENANT that a port register reads (R322, R344): the owner of the region that the port lies in. -/
def showPort (s : Chip) (d : Fin 4) (grain : Nat) (n : Nat) (w : Word) : Word :=
  let w := putBits w 16 6 n
  match regionOfGrain s d grain with
  | some r => putBits w 0 8 (regionOwner s d r).val
  | none => w

/-- CLK (R322, R323, R344). -/
def showClk (s : Chip) (d : Fin 4) (off : Nat) (w : Word) : Word :=
  match nth off 0x600 4 16, nth off 0x680 4 8 with
  | some p, _ => showPort s d (sportGrain p) (s.sportQ d p).length w
  | _, some q => showPort s d (dportGrain q) (s.dportQ d q).length w
  | _, _ => w

/-- BMEM (R353, R393). -/
def showBmem (s : Chip) (d : Fin 4) (off : Nat) (w : Word) : Word :=
  match nth off 0x1000 4 1536 with
  | some b =>
    let w := (Rf.BMEM_MODE_FIFO.at b).show (b2n (isFifo s d b)) ((Rf.BMEM_MODE_LAT2.at b).show (b2n (isLat2 s d b)) w)
    if isFifo s d b then w else (Rf.BMEM_MODE_COUNT.at b).show 0 w
  | none => w

/-- CL_STAT of a cluster (R443). -/
def clStat (x : Cluster) : Word :=
  let st := match x.st with
    | .idle => 0
    | .running => 1
    | .stopping => 2
    | .halted => 3
  BitVec.ofNat 32 (st + x.ten.val * 2 ^ 8 + b2n x.mark * 2 ^ 16 + b2n x.basted * 2 ^ 17 + b2n x.asat * 2 ^ 18 +
    b2n x.xerr * 2 ^ 19 + x.xq.length % 16 * 2 ^ 20)

/-- RENTIK (R443). -/
def showRentik (s : Chip) (d : Fin 4) (off : Nat) (w : Word) : Word :=
  match nth off 0x1000 4 192, nth off 0x1400 4 192 with
  | some c, _ => clStat (s.cluster d c)
  | _, some c => BitVec.ofNat 32 ((s.cluster d c).pc.toNat + (s.cluster d c).entry.toNat * 2 ^ 16)
  | _, _ => w

/-- ACQ (R129, R456, R465, R501). -/
def showAcq (s : Chip) (d : Fin 4) (off : Nat) (w : Word) : Word :=
  if off = 8 then
    Rf.ACQ_STAT_ARMED.show (armedBits s d) (if adcRails s d then w else Rf.ACQ_STAT_READY.show 0 w)
  else
    match nth off 0x40 4 10, nth off 0x140 4 4 with
    | some c, _ => acqstWord s d c
    | _, some k => if d = 0 then (Rf.ACQ_PULSE_STAT_QUEUED.at k).show (queuedPulses s k) w else 0
    | _, _ => w

/-- CHK (R614, R628). -/
def showChk (s : Chip) (d : Fin 4) (off : Nat) (w : Word) : Word :=
  match nth off 0x100C 16 256 with
  | some c => BitVec.ofNat 32 (chkResult s d c)
  | none => w

/-- DRAM (R631, R645, R655, R688). -/
def showDram (s : Chip) (d : Fin 4) (off : Nat) (w : Word) : Word :=
  if off = 8 then Rf.DRAM_STAT_MERGE_USED.show (s.d d).dram.merge.length w
  else if off = 0x10 then BitVec.ofNat 32 (dramCap s d / 2 ^ 30)
  else
    match nth off 0x104 16 16 with
    | some p => BitVec.ofNat 32 (portTokens s d p % 2 ^ 25)
    | none => w

/-- The far end of a link: a die, or bits [1:0] of a package number (R704, R725). -/
def linkPeer (s : Chip) (d : Fin 4) (n : Nat) : Nat :=
  if n < 2 then (peerDie d n).val
  else
    let size := s.fld 0 Rf.SEAM_GRP_CTL_SIZE_M1 + 1
    (s.fld 0 Rf.SEAM_GRP_CTL_PKG + (if n = 2 then 1 else size - 1)) % size % 4

/-- SEAM (R693, R694, R708, R725). -/
def showSeam (s : Chip) (d : Fin 4) (off : Nat) (w : Word) : Word :=
  if off = 4 then BitVec.ofNat 32 (routeWord s d)
  else if d ≠ 0 ∧ 0x180 ≤ off ∧ off < 0x200 then 0
  else
    match nth off 0x104 64 4, nth off 0x110 64 4 with
    | some n, _ =>
      let x := s.link d n
      if hasLink s d n then
        BitVec.ofNat 32 (x.st + linkPeer s d n * 4 + b2n (x.replay || decide (0 < x.fails)) * 16 + min x.unacked 64 * 256)
      else 3
    | _, some n => BitVec.ofNat 32 (min (recentRetries s d (s.link d n)).length 31)
    | _, _ => w

/-- CFG (R756, R767): the state of the load is the device's. -/
def showCfg (s : Chip) (d : Fin 4) (off : Nat) (w : Word) : Word :=
  if off = 8 then
    if d = 0 then Rf.CFG_STAT_DATARDY.show (b2n (dataReady s)) w else BitVec.ofNat 32 (s.fld 0 Rf.CFG_STAT_STATE)
  else w

/-- The data of a row as HEM.RD shows it: key rows read 0 (R848). -/
def hemShown (s : Chip) (d : Fin 4) : Nat :=
  let r := s.fld d Rf.HEM_RD_ROW_ROW
  if 8 ≤ r ∧ r ≤ 15 then 0 else (hemRow (s.d d).hem r).toNat

/-- HEM (R848). -/
def showHem (s : Chip) (d : Fin 4) (off : Nat) (w : Word) : Word :=
  if off = 0x24 then half (hemShown s d) false
  else if off = 0x28 then half (hemShown s d) true
  else if off = 0x2C then BitVec.ofNat 32 (b2n ((s.d d).hem.failed.contains (s.fld d Rf.HEM_RD_ROW_ROW)))
  else w

/-- WDOG (R828 to R834, R850). -/
def showWdog (s : Chip) (d : Fin 4) (off : Nat) (w : Word) : Word :=
  if off = 0xC then (if d = 0 then w else 0)
  else if off = 0x10 then
    Rf.WDOG_STAT_RUNNING.show (b2n (s.d d).wdog.running) (Rf.WDOG_STAT_OPEN.show (b2n (wdogIsOpen s d))
      (Rf.WDOG_STAT_PAUSED.show (b2n (wdogPaused s)) (Rf.WDOG_STAT_PULSING.show (b2n (d == 0 && s.wdout.isSome)) 0)))
  else if off = 0x14 then BitVec.ofNat 32 (wdogCount s d % 2 ^ 26)
  else if off = 0x18 then BitVec.ofNat 32 (wdogOpen s d % 2 ^ 26)
  else w

/-- PLACKET (R882, R885). -/
def showPlacket (s : Chip) (d : Fin 4) (off : Nat) (w : Word) : Word :=
  if off = 0x20 ∧ d ≠ 0 then putBits w 5 1 0
  else if off = 0x28 then
    let y := (s.d d).yoke
    BitVec.ofNat 32 (b2n y.halted + y.cause % 8 * 2 + yokeAddr y % 2 ^ 14 * 2 ^ 16)
  else if off = 0x504 then Rf.PLACKET_TR_STAT_FILL.show s.trace.fifo.length w
  else w

/-- EVT (R939, R947). -/
def showEvt (s : Chip) (off : Nat) (w : Word) : Word :=
  if off = 0x3100 then Rf.EVT_AOL_STAT_ENTRIES.show s.aol.length w
  else
    match nth off 0x3110 4 4 with
    | some i => aolWord s i
    | none => w

/-- TIME (R54, R89, R112, R113): on dies 1 to 3 the pending setting reads as the active one. -/
def showTime (s : Chip) (d : Fin 4) (off : Nat) (w : Word) : Word :=
  let k := (s.d d).tick
  if off = 4 then half (s.now d).toNat false
  else if off = 8 then half (s.now d).toNat true
  else if off = 0x18 then (if d = 0 then Rf.TIME_STAT_STATE.show 0 w else w)
  else if off = 0x20 then (if d = 0 then w else BitVec.ofNat 32 k.set.p)
  else if off = 0x24 then (if d = 0 then w else BitVec.ofNat 32 k.set.a)
  else if off = 0x28 then (if d = 0 then w else BitVec.ofNat 32 k.set.s)
  else if off = 0x30 then
    if d = 0 then
      Rf.TIME_TICK_STATUS_RUNNING.show (b2n (ticking s 0)) (Rf.TIME_TICK_STATUS_PENDING.show (b2n (!s.settings.isEmpty))
        (Rf.TIME_TICK_STATUS_EXTENDED.show (b2n k.extended) w))
    else 0
  else if off = 0x34 then half k.num.toNat false
  else if off = 0x38 then half k.num.toNat true
  else if off = 0x44 then half k.start.toNat false
  else if off = 0x48 then half k.start.toNat true
  else w

/-- TAMPER (R825 to R827, R849). -/
def showTamper (s : Chip) (d : Fin 4) (off : Nat) (w : Word) : Word :=
  if off = 4 ∨ off = 8 then w
  else if d ≠ 0 then 0
  else if off = 0x40 then s.vbat.seconds
  else if off = 0x44 then BitVec.ofNat 32 (s.vbat.log.length + s.vbat.ovf % 256 * 256)
  else
    match nth off 0x50 4 4 with
    | some i => tamperLogWord s (s.fld 0 Rf.TAMPER_LOG_SEL_ENTRY) i
    | none => w

/-- What the register at `off` of unit `u` shows, `w` being the stored word. -/
def unitShow (s : Chip) (d : Fin 4) (u off : Nat) (w : Word) : Word :=
  match u with
  | 0x00 => showSys s d off w
  | 0x01 => showYoke s d off w
  | 0x02 => showLedger s d off w
  | 0x03 => showBaste s d off w
  | 0x04 => showClk s d off w
  | 0x06 => showBmem s d off w
  | 0x07 => showRentik s d off w
  | 0x08 => showAcq s d off w
  | 0x09 => if off = 0x14 then BitVec.ofNat 32 (min (s.ilk.disc / 1000) (2 ^ 19 - 1)) else w
  | 0x0D => if off = 0xC0 then BitVec.ofNat 32 (sfFree s d) else w
  | 0x0E => showChk s d off w
  | 0x0F => showDram s d off w
  | 0x10 => showSeam s d off w
  | 0x11 => showCfg s d off w
  | 0x13 => showHem s d off w
  | 0x15 => showWdog s d off w
  | 0x16 => showPlacket s d off w
  | 0x17 => if off = 4 then BitVec.ofNat 32 ((s.d 0).hem.vendor % 65536 + 0x5339 * 65536) else w
  | 0x18 => showEvt s off w
  | 0x19 => showTime s d off w
  | 0x1A => showTamper s d off w
  | 0x1B => if off = 0xC then Rf.PWR_VREQ_MV.show (vreqMv s d) w else w
  | _ => w

/-! ### What a read does -/

/-- The word with write-only fields read as 0 (R27). -/
def maskWo : List FieldSpec → Word → Word
  | [], w => w
  | f :: fs, w => maskWo fs (if f.acc = .wo then putBits w f.lo f.w 0 else w)

/-- The stored word after a read: fields that a read clears hold 0 (R27). -/
def clearRc : List FieldSpec → Word → Word
  | [], w => w
  | f :: fs, w => clearRc fs (if f.acc = .rc then putBits w f.lo f.w 0 else w)

/-- The HI register that a read of the LO register at `off` latches (R27, R93, R249, R590). -/
def hiOf (u off : Nat) : Option Nat :=
  if u = 0x19 ∧ (off = 4 ∨ off = 0x34) then some (off + 4)
  else if u = 2 ∧ off = 0x140 then some 0x144
  else if u = 12 ∧ (nth off 0x1088 256 8).isSome then some (off + 4)
  else none

/-- Set or release the latch of the HI register at key `k`. DESIGN CHOICE, log 41. -/
def Chip.setLatch (s : Chip) (d : Fin 4) (k : Nat) (v : Option Word) : Chip :=
  s.upd d fun x => { x with latch := mapPut (fun _ => none) x.latch k v }

/-- What the latch of the HI register at key `k` holds. -/
def Chip.latchAt (s : Chip) (d : Fin 4) (k : Nat) : Option Word := mapGet (fun _ => none) (s.d d).latch k

/-- A counter of which the model leaves the value open (contention at banks, engines and ports): a free value of at most
`n`. -/
def openCount (s : Chip) (n : Nat) : Chip × Word :=
  (s.took, BitVec.ofNat 32 ((Config.freeWord s.free).toNat % (n + 1)))

/-- A register that reads as its table says. -/
def commonRead (s : Chip) (d : Fin 4) (u off : Nat) (r : RegSpec) : Chip × Word :=
  let k := u * 1048576 + off
  let shown := unitShow s d u off (s.reg d k)
  let val := BitVec.ofNat 32 (Nat.land (maskWo r.fields shown).toNat (0xFFFFFFFF - absentBits s d u off))
  match s.latchAt d k with
  | some v => (s.setLatch d k none, v)
  | none =>
    let s := s.setReg d k (clearRc r.fields (s.reg d k))
    match hiOf u off with
    | some h =>
      let hk := u * 1048576 + h
      let hv := unitShow s d u h (s.reg d hk)
      let s := s.setLatch d hk (some hv)
      (if u = 12 then s.setReg d hk 0 else s, val)
    | none => (s, val)

/-- The counters of contention for a bank, an engine or a port, whose timing the model leaves out (R392, R628, R688).
DESIGN CHOICE, log 46. -/
def openCounter (u off : Nat) : Option Nat :=
  if u = 5 ∧ (nth off 0x200 4 32).isSome then some 0xFFFFFFFF
  else if u = 14 ∧ off = 4 then some 64
  else if u = 15 ∧ (nth off 0x108 16 16).isSome then some 0xFFFFFFFF
  else none

/-- PLACKET (R855, R862): while debug is locked its registers but the AUTH ones and DBG_STAT read 0. -/
def placketRead (s : Chip) (d : Fin 4) (off : Nat) (r : RegSpec) : Chip × Word :=
  let open_ := decide (0x600 ≤ off ∧ off < 0x710) || off == 0x18
  if dbgLocked s && !open_ then (setDbgStatus s d stLocked, 0)
  else
    match nth off 0x80 4 16 with
    | some i => yregRead s d i
    | none => commonRead s d 22 off r

/-- A read of a DFE tap of lane `k` (R562): a read of tap 1 latches the others. -/
def dfeRead (s : Chip) (d : Fin 4) (k t : Nat) : Chip × Word :=
  if t = 1 then
    let n := s.fld d (tapF k 1)
    ({ dfeSnapshot s d k with reply := s.reply }, BitVec.ofNat 32 n)
  else
    let r := dfeTapRead s d k t
    (r.1, BitVec.ofNat 32 r.2)

/-- A permitted read of a register that the die has. -/
def unitRead (s : Chip) (d : Fin 4) (u off : Nat) (r : RegSpec) : Chip × Word :=
  match openCounter u off with
  | some n => openCount s n
  | none =>
    if u = 22 then placketRead s d off r
    else if u = 12 ∧ 0x1000 ≤ off ∧ off < 0x1800 then
      let k := (off - 0x1000) / 256
      match nth ((off - 0x1000) % 256) 0x40 4 12 with
      | some i => dfeRead s d k (i + 1)
      | none => commonRead s d 12 off r
    else commonRead s d u off r

/-- UNIT.ID of unit `u` (R25). -/
def unitId (u : Nat) : Word := BitVec.ofNat 32 (u * 2 ^ 24 + 0x01 * 2 ^ 16 + 0x5339)

/-- The three registers of the pending setting, which read as the active one on dies 1 to 3 (R112). -/
def activeSetting (d : Fin 4) (u off : Nat) : Bool :=
  d != 0 && u == 0x19 && (off == 0x20 || off == 0x24 || off == 0x28)

/-- A read by tenant `t` reaches the window of unit `u` on die `d` at `off` (R8, R45): an absent unit or register reads
zero; one without the right to it reads zero and is logged. DESIGN CHOICE, log 17. -/
def regRead (s : Chip) (d : Fin 4) (t : Fin 256) (u off : Nat) : Chip × Word :=
  if !present s d u then (s, 0)
  else if !mayRead s d t u off then (nogrant s d t u off true, 0)
  else if off = 0 then (s, unitId u)
  else if activeSetting d u off then (s, unitShow s d u off 0)
  else
    match regOn d u off with
    | some r => unitRead s d u off r
    | none => (s, 0)

end Sys2Proof.Machine
end

