-- ==== Sys2Proof/Machine/YokeMem.lean ====
section
/-! DEFINITION. Register accesses of the Yoke, and accesses to another die: what the target does with them, what their
answer does at the initiator, and the timeout (R127, R128, R143 to R148, R161, R187, R343, R412, R417, R418, R441, R653,
R698). -/

namespace Sys2Proof.Machine

/-! ### The host lane window at its die (R159, R160, R367, R389) -/

/-- The offset of each region of the lane window (R18, R159). -/
def laneRegion (r : Nat) : Nat :=
  if r = 0 then 0x2000000000 else if r = 1 then 0x2100000000 else if r = 2 then 0x2200000000 else 0x3E00000000

/-- The memory and first lane of `n` bytes at offset `off` of die `e`'s part of the window; none is an access fault. -/
def hostLanesAt (s : Chip) (e : Fin 4) (wr : Bool) (off n : Nat) : Option (Mem × Nat) :=
  if off % 2 ≠ 0 ∨ n % 2 ≠ 0 ∨ n = 0 ∨ 2 ^ 24 < off % 2 ^ 24 + n then none
  else
    let base := laneRegion (off / 2 ^ 24 % 4)
    let l := off % 2 ^ 24 / 2
    match laneAt (base + l), laneAt (base + l + n / 2 - 1) with
    | some (m, i), some (m', j) =>
      let words := j / 4 - i / 4 + 1
      if m ≠ m' then none
      else if m = .lining ∧ (1 < (s.d 0).hem.lc ∨ keyWords s e (i / 4) words) then none
      else if m = .bmem && wr && fifoAmong s e (i / 4) words then none
      else some (m, i)
    | _, _ => none

/-- The lanes of the word at lane `l` that the next `k` lanes take: how many, and their mask. -/
def laneSpan (l k : Nat) : Nat × Nat := (min k (4 - l % 4), (2 ^ min k (4 - l % 4) - 1) * 2 ^ (l % 4))

/-- Read `k` lanes from lane `l`, in at most `n` words; none while a bank wakes. -/
def hostReadLanes : Nat → Chip → Fin 4 → Mem → Nat → Nat → Chip × Option (List Byte)
  | 0, s, _, _, _, _ => (s, some [])
  | n + 1, s, e, m, l, k =>
    if k = 0 then (s, some [])
    else
      let p := laneSpan l k
      let r := readOne s e m (l / 4) p.2
      let out := match r.2 with
        | .val q _ => some ((range (l % 4) p.1).flatMap fun i => leBytes 2 (lane16 (getLane q i)))
        | .poison => some ((range 0 p.1).flatMap fun _ => leBytes 2 0xE000)
        | .stall => none
      match out with
      | none => (r.1, none)
      | some bs =>
        let rest := hostReadLanes n r.1 e m (l + p.1) (k - p.1)
        (rest.1, rest.2.map fun more => bs ++ more)

/-- Write lanes from lane `l` on; false while a bank wakes or an INGEST word waits (R262). -/
def hostWriteLanes : Nat → Chip → Fin 4 → Mem → Nat → List Byte → Chip × Bool
  | 0, s, _, _, _, _ => (s, true)
  | n + 1, s, e, m, l, bs =>
    if bs.isEmpty then (s, true)
    else
      let p := laneSpan l (bs.length / 2)
      let q := unexpandWord ((range 0 (l % 4)).flatMap (fun _ => [0, 0]) ++ bs.take (2 * p.1) ++ [0, 0, 0, 0, 0, 0, 0, 0])
      let r := if m = .lining then (writeLining s e (l / 4) p.2 q, WriteRes.done) else writeMem s e m (l / 4) p.2 q .plain
      if r.2 = .done then hostWriteLanes n r.1 e m (l + p.1) (bs.drop (2 * p.1)) else (r.1, false)

/-! ### LDR and STR (R127, R128) -/

/-- The offset of the register region of a die (R18). -/
abbrev regBase : Nat := 0x3F00000000

/-- A register address, as an offset in the register region, names a word of a unit's window (R24, R25). -/
def regAddrOk (off : Nat) : Bool := off % 4 == 0 && decide (off / 2 ^ 24 < 28)

/-- A new remote access of die `d`. -/
def remoteAdd (s : Chip) (d e : Fin 4) (init : RInit) (t : Fin 256) (op : ROp) (basted : Bool) : Chip :=
  { s with
    nextId := s.nextId + 1
    remotes := s.remotes ++ [{ id := s.nextId, die := d, target := e, init := init, ten := t, op := op,
                               issued := s.now d, basted := basted }] }

/-- The access fault of LDR or STR. DESIGN CHOICE, log 39. -/
def yRegFault (s : Chip) (d : Fin 4) (a : Word) : Chip :=
  accFault s d yokeSrc 0 (a.toNat / 2 ^ 30 * 2 ^ 38 + regBase + a.toNat % 2 ^ 30)

/-- LDR from effective address `a`: one to another die stalls the Yoke. DEDUCED, log 55. -/
def yLdr (s : Chip) (d : Fin 4) (D : Nat) (a : Word) : Chip × Bool :=
  let e : Fin 4 := Fin.ofNat 4 (a.toNat / 2 ^ 30)
  let off := a.toNat % 2 ^ 30
  if yPosted s d then (s, false)
  else if !regAddrOk off then (((yRegFault s d a).setL d D 0).code d 11, true)
  else if e = d then
    let r := regRead s d 0 (off / 2 ^ 24) (off % 2 ^ 24)
    ((r.1.setL d D r.2).code d 0, true)
  else
    let id := s.nextId
    let s := remoteAdd s d e (.yoke (some (Fin.ofNat 16 D))) 0 (.regRead off 4) false
    (s.onYoke d fun y => { y with wait := .remote id }, true)

/-- STR to effective address `a`: one to another die is posted. DEDUCED, log 54. -/
def yStr (s : Chip) (d : Fin 4) (D : Nat) (a : Word) : Chip × Bool :=
  let e : Fin 4 := Fin.ofNat 4 (a.toNat / 2 ^ 30)
  let off := a.toNat % 2 ^ 30
  if yPosted s d then (s, false)
  else if !regAddrOk off then ((yRegFault s d a).code d 11, true)
  else if e = d then ((regWrite s d 0 (off / 2 ^ 24) (off % 2 ^ 24) (s.l d D)).code d 0, true)
  else (remoteAdd s d e (.yoke none) 0 (.regWrite off 4 (s.l d D)) false, true)

/-! ### A remote access at its target -/

/-- The event source and the initiator kind of a remote access (R79, R187, R343). -/
def initSource : RInit → Nat × Nat
  | .yoke _ => (yokeSrc, 0)
  | .host _ _ => (hostSrc, 1)
  | .rentik c _ => (rSource c.val, 2)
  | .dport _ => (0x040, 3)

/-- Two accesses come from one master. -/
def sameMaster (a b : RAcc) : Bool :=
  a.die == b.die &&
    (match a.init, b.init with
    | .yoke _, .yoke _ => true
    | .host _ _, .host _ _ => true
    | .rentik c _, .rentik c' _ => c == c'
    | .dport q, .dport q' => q == q'
    | _, _ => false)

/-- The first step of the space that an access touches, and how many. -/
def ROp.span : ROp → Nat × Nat
  | .regRead off n => (regBase + off, n)
  | .regWrite off n _ => (regBase + off, n)
  | .vecRead off f => (off, if f = 0 then 16 else layoutSize f)
  | .vecWrite off f _ _ => (off, if f = 0 then 16 else layoutSize f)
  | .bytesRead off n => (off, n)
  | .bytesWrite off _ data => (off, data.length)
  | .laneRead off n => (2 ^ 39 + off, n)
  | .laneWrite off data => (2 ^ 39 + off, data.length)

/-- An access writes. -/
def ROp.writes : ROp → Bool
  | .regWrite _ _ _ | .vecWrite _ _ _ _ | .bytesWrite _ _ _ | .laneWrite _ _ => true
  | _ => false

/-- Two accesses overlap. -/
def ROp.overlaps (a b : ROp) : Bool :=
  decide (a.span.1 < b.span.1 + b.span.2) && decide (b.span.1 < a.span.1 + a.span.2)

/-- An earlier access of the same master to an overlapping address has not been served: accesses to one address take
effect in issue order (R127, R323, R418). DEDUCED, log 36. -/
def servedLater (s : Chip) (a : RAcc) : Bool :=
  s.remotes.any fun b => decide (b.id < a.id) && b.target == a.target && !b.served && sameMaster a b && a.op.overlaps b.op

/-- Access `a` is served, with what it obtained. -/
def markServed (s : Chip) (a : RAcc) (x : RData) : Chip :=
  { s with remotes := s.remotes.map fun b => if b.id == a.id then { b with served := true, data := x } else b }

/-- Bytes that the target's DRAM does not have. -/
def dramBeyond (s : Chip) (e : Fin 4) (off n : Nat) : Bool := decide (dramCap s e < off + n)

/-- An XLD at its target (R417, R440). -/
def serveVecRead (s : Chip) (a : RAcc) (off f : Nat) : Chip :=
  let e := a.target
  match xPlace s e off f with
  | some (.lanes m l) =>
    let r := readVec s e m l .far vec0 false (vecWords l 0xFFFF)
    match r.2 with
    | .val v _ => markServed r.1 a (.vec v)
    | .bad m w => markServed (poisonFault r.1 e m w 0 a.ten a.basted) a .poison
    | _ => r.1
  | some (.dram o) =>
    let r := dramFetch s e o (layoutSize f)
    match r.2 with
    | some bs => markServed r.1 a (.bytes bs)
    | none => markServed (dramPoisonFault r.1 e o a.ten a.basted) a .poison
  | none => markServed (accFault s a.die (initSource a.init).1 a.ten (e.val * 2 ^ 38 + off) a.basted) a .fault

/-- An XST at its target (R262, R417). -/
def serveVecWrite (s : Chip) (a : RAcc) (off f mask : Nat) (v : Vec) : Chip :=
  let e := a.target
  match xPlace s e off f with
  | some (.lanes m l) =>
    let r := writeVec s e m l (.prog a.ten false) v (vecWords l mask)
    match r.2 with
    | .val _ _ => markServed r.1 a .none
    | _ => r.1
  | some (.dram o) =>
    let old := (dramReadBytes s e o (layoutSize f) []).2.1
    markServed (dramStore s e o (vecBytes f mask v old)) a .none
  | none => markServed (accFault s a.die (initSource a.init).1 a.ten (e.val * 2 ^ 38 + off) a.basted) a .fault

/-- A DRAM port's access at its target (R323, R803). -/
def servePort (s : Chip) (a : RAcc) : Chip :=
  let e := a.target
  match a.op with
  | .bytesRead off n =>
    if dramBeyond s e off n then markServed (accFault s a.die 0x040 a.ten (e.val * 2 ^ 38 + off)) a .fault
    else
      let r := dramFetch s e off n
      match r.2 with
      | some bs => markServed r.1 a (.bytes bs)
      | none => markServed (dramPoisonFault r.1 e off a.ten) a .poison
  | .bytesWrite off en data =>
    if dramBeyond s e off data.length then markServed (accFault s a.die 0x040 a.ten (e.val * 2 ^ 38 + off)) a .fault
    else
      markServed (dramStore s e off ((range 0 data.length).map fun i =>
        if bit en i then some ((data.drop i).headD 0) else none)) a .none
  | _ => s

/-- A register access at its target. -/
def serveReg (s : Chip) (a : RAcc) : Chip :=
  match a.op with
  | .regRead off _ =>
    let r := regRead s a.target a.ten (off / 2 ^ 24) (off % 2 ^ 24)
    markServed r.1 a (.word r.2)
  | .regWrite off _ v => markServed (regWrite s a.target a.ten (off / 2 ^ 24) (off % 2 ^ 24) v) a .none
  | _ => s

/-- A host lane access at its target; a fault's payload is the offset in the lane window (R934). -/
def serveLanes (s : Chip) (a : RAcc) : Chip :=
  let e := a.target
  let bad := fun (off : Nat) => markServed (accFault s a.die hostSrc a.ten (e.val * 2 ^ 26 + off)) a .fault
  match a.op with
  | .laneRead off n =>
    match hostLanesAt s e false off n with
    | none => bad off
    | some (m, l) =>
      let r := hostReadLanes (n / 2) s e m l (n / 2)
      match r.2 with
      | some bs => markServed r.1 a (.bytes bs)
      | none => r.1
  | .laneWrite off data =>
    match hostLanesAt s e true off data.length with
    | none => bad off
    | some (m, l) =>
      let r := hostWriteLanes (data.length / 2) s e m l data
      if r.2 then markServed r.1 a .none else r.1
  | _ => s

/-- An access reaches its target die, and is served there, even if it has been abandoned (R653). -/
def serve (s : Chip) (a : RAcc) : Chip :=
  match a.op with
  | .regRead _ _ | .regWrite _ _ _ => serveReg s a
  | .vecRead off f => serveVecRead s a off f
  | .vecWrite off f mask v => serveVecWrite s a off f mask v
  | .bytesRead _ _ | .bytesWrite _ _ _ => servePort s a
  | .laneRead _ _ | .laneWrite _ _ => serveLanes s a

/-- The access with number `id`, when `p` holds of it. -/
def Chip.remote (s : Chip) (id : Nat) : Option RAcc := s.remotes.find? fun a => a.id == id

/-- A request that `wr` says to be a write arrives at its target (R698): both dies run and the Seam joins them. -/
def requestArrives (wr : Bool) (id : Nat) (s : Chip) : Chip :=
  match s.remote id with
  | some a =>
    if a.op.writes == wr && !a.served && up s a.target && reaches s a.die a.target && !servedLater s a then serve s a else s
  | none => s

/-! ### Its answer (R148) -/

/-- Access `a` is over. -/
def dropRemote (s : Chip) (a : RAcc) : Chip := { s with remotes := s.remotes.filter fun b => b.id != a.id }

/-- The Yoke of die `d` stops waiting for access `id`. -/
def yWaits (s : Chip) (d : Fin 4) (id : Nat) : Bool := (s.d d).yoke.wait == .remote id

/-- The answer to LDR or STR: `v` is what a load obtained, and `c` the result code. -/
def yAnswer (s : Chip) (d : Fin 4) (id : Nat) (dst : Option (Fin 16)) (v : Word) (c : Nat) : Chip :=
  match dst with
  | some D =>
    if yWaits s d id then ((s.onYoke d fun y => { y with wait := .none }).setL d D.val v).code d c else s
  | none => s.code d c

/-- The vector that an XLD obtained, with the tenant's own buffered writes over it (R260). DEDUCED, log 63. -/
def xldData (s : Chip) (d : Fin 4) (t : Fin 256) (x : XAcc) (r : RData) : Vec :=
  match r with
  | .vec v => overBufferLanes s d t x.addr v
  | .bytes bs => bytesVec x.f (overBuffer s d t x.addr bs)
  | _ => vec0

/-- An X access of cluster `c` is answered; earlier accesses to an overlapping address come first (R418). -/
def xAnswer (s : Chip) (a : RAcc) (c : Fin 192) : Chip :=
  let x := s.cluster a.die c.val
  match x.xq.find? fun b => b.id == a.id with
  | none => dropRemote s a
  | some b =>
    if ((x.xq.takeWhile fun q => q.id != a.id).any (xOverlap b)) then s
    else
      let y := match a.data with
        | .poison | .fault => { x with xq := x.xq.filter fun q => q.id != b.id }
        | r => finishX x b (xldData s a.die a.ten b r)
      dropRemote (s.setCluster a.die c.val y) a

/-- The answer to a host read (R161, R173). -/
def hostReply (spi : Bool) : RData → Reply
  | .word v => .word v
  | .bytes l => .bytes l
  | .fault => if spi then .fault else .word 0
  | _ => .none

/-- The bytes of an answer that a fault makes all-zero. -/
def zeroReply (op : ROp) (spi : Bool) : Reply :=
  match op with
  | .laneRead _ n => .bytes (List.replicate n 0)
  | .regRead _ _ => if spi then .fault else .word 0
  | _ => .none

/-- READ_RESPONSE (R148): the answer of a served access returns to its master; one that comes after the timeout is logged
as LATE. -/
def readResponse (id : Nat) (s : Chip) : Chip :=
  match s.remote id with
  | some a =>
    if !a.served || !up s a.die || !reaches s a.target a.die then s
    else if a.abandoned then
      let k := initSource a.init
      raise (dropRemote s a) a.die k.1 K.LATE a.ten (a.target.val + k.2 * 4)
    else
      match a.init with
      | .yoke dst =>
        match a.data with
        | .word v => yAnswer (dropRemote s a) a.die id dst v 0
        | .fault => yAnswer (dropRemote s a) a.die id dst 0 11
        | _ => yAnswer (dropRemote s a) a.die id dst 0 0
      | .host _ spi =>
        { dropRemote s a with
          reply := if a.data = .fault then zeroReply a.op spi else hostReply spi a.data }
      | .rentik c _ => xAnswer s a c
      | .dport q =>
        (dropRemote s a).setDportQ a.die q.val
          ((s.dportQ a.die q.val).map fun e => if e.id == some id then { e with data := a.data } else e)
  | none => s

/-! ### The timeout (R148, R161, R187, R343, R441) -/

/-- What an abandoned access leaves at its master. -/
def abandonAt (s : Chip) (a : RAcc) : Chip :=
  match a.init with
  | .yoke dst => yAnswer s a.die a.id dst 0 7
  | .host _ spi => { s with reply := zeroReply a.op spi }
  | .rentik c _ =>
    let x := s.cluster a.die c.val
    match x.xq.find? fun b => b.id == a.id with
    | some b =>
      let y := finishX x { b with mask := 0xFFFF } vec0
      s.setCluster a.die c.val { y with xerr := true, fenceBad := true }
    | none => s
  | .dport q =>
    s.setDportQ a.die q.val ((s.dportQ a.die q.val).map fun e => if e.id == some a.id then { e with data := .fault } else e)

/-- The timeout of a remote access has expired. -/
def rtoDue (s : Chip) (a : RAcc) : Bool := decide (rtoTq s ≤ (s.now a.die - a.issued).toNat)

/-- REMOTE_ACCESS_TIMEOUT. DEDUCED, log 38. -/
def remoteTimeout (id : Nat) (s : Chip) : Chip :=
  match s.remote id with
  | some a =>
    if a.abandoned || !up s a.die || !rtoDue s a then s
    else
      let k := initSource a.init
      let s := { s with remotes := s.remotes.map fun b => if b.id == id then { b with abandoned := true } else b }
      abandonAt (raise s a.die k.1 K.RTIMEOUT a.ten (a.target.val + k.2 * 4)) a
  | none => s

/-! ### Meanings -/

/-- LDR. -/
def execYLdr (d : Fin 4) (D A : Fin 16) (K : BitVec 18) (s : State) : Out :=
  act s fun s => yIssue d (fun s => yLdr s d D.val (s.l d A.val + sextK K)) s
/-- STR. -/
def execYStr (d : Fin 4) (D A : Fin 16) (K : BitVec 18) (s : State) : Out :=
  act s fun s => yIssue d (fun s => yStr s d D.val (s.l d A.val + sextK K)) s
/-- REMOTE_READ_REQUEST. -/
def execRemoteReadRequest (id : Nat) (s : State) : Out :=
  act s fun s => requestArrives false id s
/-- REMOTE_WRITE. -/
def execRemoteWrite (id : Nat) (s : State) : Out :=
  act s fun s => requestArrives true id s
/-- READ_RESPONSE. DEDUCED, log 37. -/
def execReadResponse (id : Nat) (s : State) : Out :=
  act s fun s => readResponse id s
/-- REMOTE_ACCESS_TIMEOUT. -/
def execRemoteAccessTimeout (id : Nat) (s : State) : Out :=
  act s fun s => remoteTimeout id s

end Sys2Proof.Machine
end

