-- ==== Sys2Proof/Machine/CfgCmds.lean ====
section
/-! DEFINITION. The commands of a configuration stream on every die, forwarding, the release at T, and the frames of a
region reload (R736 to R748, R320, R749, R759), with the meanings of their rows. -/

namespace Sys2Proof.Machine

/-! ### Data of FRAMEWRITE and LOADMEM (R738, R739) -/

/-- The number that 32-bit words spell, the first word lowest. -/
def words32 : List Word → Nat
  | [] => 0
  | w :: ws => w.toNat + 2 ^ 32 * words32 ws

/-- The first `n` 32-bit words of a number. -/
def nat32 : Nat → Nat → List Word
  | 0, _ => []
  | n + 1, v => BitVec.ofNat 32 v :: nat32 n (v / 2 ^ 32)

/-- The number that 14-bit values spell, the first value lowest. -/
def lanes14 : List Int → Nat
  | [] => 0
  | x :: xs => toBits 14 x + 2 ^ 14 * lanes14 xs

/-- The first `n` words of lane memory that a number holds. -/
def nat56 : Nat → Nat → List Quadlane
  | 0, _ => []
  | n + 1, v => BitVec.ofNat 56 v :: nat56 n (v / 2 ^ 56)

/-- Words of a P3 stream that decode to exactly `n` values; none when they do not (R738). -/
def p3Words (n : Nat) (ws : List Word) : Option (List Int) :=
  let v := words32 ws
  let r := decodeP3 n n v 0
  if r.bad.isSome ∨ r.vals.length ≠ n ∨ 32 * ws.length < r.used ∨ r.used + 32 ≤ 32 * ws.length ∨ v / 2 ^ r.used ≠ 0 then
    none
  else some r.vals

/-- The data words of `n` frames (R738). -/
def frameData (n : Nat) (cmp : Bool) (data : List Word) : Option (List Word) :=
  if !cmp then (if data.length = 40 * n then some data else none)
  else
    match p3Words ((1280 * n + 13) / 14) data with
    | some xs => if lanes14 xs / 2 ^ (1280 * n) = 0 then some (nat32 (40 * n) (lanes14 xs)) else none
    | none => none

/-- The `n` words of lane memory that LOADMEM carries (R739). -/
def memData (n : Nat) (cmp : Bool) (data : List Word) : Option (List Quadlane) :=
  if !cmp then
    (if data.length = (7 * n + 3) / 4 ∧ words32 data / 2 ^ (56 * n) = 0 then some (nat56 n (words32 data)) else none)
  else (p3Words (4 * n) data).map fun xs => nat56 n (lanes14 xs)

/-! ### The commands on a die -/

/-- Change a die's engine. -/
def Chip.onEngine (s : Chip) (d : Fin 4) (f : CfgDie → CfgDie) : Chip := s.upd d fun x => { x with cfg := f x.cfg }

/-- What a command leaves: the state, and the cause it fails with, 0 for none. -/
abbrev Ran := Chip × Nat

/-- The grains of the rectangle from `a` to `b` (R316, R747). -/
def inRect (a b g : Nat) : Bool :=
  decide (a % 12 ≤ g % 12) && decide (g % 12 ≤ b % 12) && decide (a / 12 ≤ g / 12) && decide (g / 12 ≤ b / 12)

/-- Grain `g` lies in the declared rectangle of region `r`. -/
def inRegion (s : Chip) (d : Fin 4) (r g : Nat) : Bool :=
  inRect (s.fld d (Rf.CLK_REGION_FIRST.at r)) (s.fld d (Rf.CLK_REGION_LAST.at r)) g

/-- Write the words of frames from `f` on; every frame written gets its own check bits and CRC.
DEDUCED, log 16. -/
def putFrames (s : Chip) (d : Fin 4) (f : Nat) (ws : List Word) : Chip :=
  let s := overAll (fun s (e : Nat × Word) => s.upd d fun x => { x with frames := mapPut (fun _ => 0) x.frames (40 * f + e.1) e.2 })
    s ((range 0 ws.length).zip ws)
  overAll (fun s i => s.setUpsets d (f + i) []) s (range 0 (ws.length / 40))

/-- FRAMEWRITE on die `d` (R738, R747, R748). -/
def frameWrite (s : Chip) (d : Fin 4) (n : Nat) (cmp : Bool) (data : List Word) : Ran :=
  let f := (s.d d).cfg.fptr
  if 196608 < f + n then (s, 7)
  else
    match frameData n cmp data with
    | none => (s, 7)
    | some ws =>
      let grains := range (f / 2048) ((f + n - 1) / 2048 + 1 - f / 2048)
      let bad := match (s.d d).cfg.sec with
        | some r => grains.any fun g => !inRegion s d r g
        | none => grains.any fun g => (regionOfGrain s d g).isSome
      if bad then (s, 11)
      else
        ((putFrames s d f ws).onEngine d fun c => { c with fptr := f + n, framed := c.framed || c.sec.isNone }, 0)

/-- The memory of LOADMEM's region field. -/
def regionMem (region : Fin 4) : Mem :=
  match region with
  | 0 => .spad
  | 1 => .cst
  | 2 => .bmem
  | 3 => .lining

/-- LOADMEM on die `d` (R735, R739, R748). DEDUCED, log 163. -/
def memLoad (s : Chip) (d : Fin 4) (region : Fin 4) (n : Nat) (cmp : Bool) (lane : Nat) (data : List Word) : Ran :=
  let m : Mem := regionMem region
  let w := lane / 4
  let bmems := range (w / 1024) ((w + n - 1) / 1024 + 1 - w / 1024)
  if lane % 4 ≠ 0 ∨ memWords m < w + n then (s, 7)
  else if (match (s.d d).cfg.sec with
      | some r => m != Mem.bmem || bmems.any fun b => !inRegion s d r (b / 16)
      | none => false) then (s, 11)
  else if (m = Mem.lining ∧ s.fld 0 Rf.CFG_STAT_KEYSEL = 0) || (m == Mem.lining && keyWords s d w n) ||
      (m == Mem.bmem && bmems.any fun b => isFifo s d b) then (s, 7)
  else
    match memData n cmp data with
    | none => (s, 7)
    | some qs =>
      (overAll (fun s (e : Nat × Quadlane) =>
        if m = Mem.lining then writeLining s d (w + e.1) 15 e.2 else rawWrite s d m (w + e.1) 15 e.2) s
        ((range 0 qs.length).zip qs), 0)

/-- LOADCODE with TARGET 0 on die `d` (R134, R426, R740). -/
def codeRentik (s : Chip) (d : Fin 4) (set : Nat) (image : List Word) : Ran :=
  let w := fun i => image.getD i 0
  let first := set % 256
  let count := set / 256
  let entries := getBits (w 1) 16 8
  let n := getBits (w 2) 0 13
  let base := getBits (w 3) 0 12
  if count < 1 ∨ 192 < first + count ∨ (w 0).toNat ≠ 0x4B544E52 ∨ getBits (w 1) 0 8 ≠ 1 ∨ entries < 1 ∨ 64 < entries ∨
      n < 1 ∨ 4096 < base + n ∨ image.length ≠ 8 + 3 * entries + 4 * n then (s, 7)
  else if crc32c ((image.drop 8).flatMap fun x => leBytes 4 x.toNat) ≠ (w 7).toNat then (s, 8)
  else
    let code := image.drop (8 + 3 * entries)
    (overAll (fun s c => overAll (fun s i =>
        putBundle s d c (base + i) (BitVec.ofNat 128 (words32 ((code.drop (4 * i)).take 4)))) s (range 0 n)) s
      (setOf first count), 0)

/-- LOADCODE with TARGET 1 on die `d` (R740). -/
def codeYoke (s : Chip) (d : Fin 4) (a : Nat) (words : List Word) : Ran :=
  if 16384 < a + words.length then (s, 7)
  else
    (overAll (fun s (e : Nat × Word) => s.setFld d (Rf.YOKE_IMEM_INSN.at (a + e.1)) e.2.toNat) s
      ((range 0 words.length).zip words), 0)

/-- REGWRITE on die `d` (R741). -/
def streamWrite (s : Chip) (d : Fin 4) (u off : Nat) (v : Word) : Ran :=
  if !regAddrOk (u * 2 ^ 24 + off) then (s, 7)
  else if u = 0x11 then (s, 0)
  else if d = 0 ∧ u = Rf.TIME_TICK_CTL_RUN.unit ∧ off = Rf.TIME_TICK_CTL_RUN.off ∧ bit v.toNat 0 then
    (s.onCfg fun c => { c with runs := c.runs ++ [v] }, 0)
  else (regWrite s d 0 u off v, 0)

/-- REGIONBEGIN of a full stream on die `d` (R316, R747). -/
def regionDeclare (s : Chip) (d : Fin 4) (r a b : Nat) : Ran :=
  let e := (s.d d).cfg
  if 96 ≤ a ∨ 96 ≤ b then (s, 7)
  else if b % 12 < a % 12 ∨ b / 12 < a / 12 ∨ e.framed ∨ e.decl.contains r ∨
      [0, 11, 84, 95].any (inRect a b) ∨ (range 0 96).any (fun g => inRect a b g && (regionOfGrain s d g).isSome) then
    (s, 11)
  else
    let s := (s.setFld d (Rf.CLK_REGION_FIRST.at r) a).setFld d (Rf.CLK_REGION_LAST.at r) b
    ((s.setFld d (Rf.CLK_REGION_VALID.at r) 1).onEngine d fun c => { c with sec := some r, decl := r :: c.decl }, 0)

/-- The condition of a POLL (R742), read with the rights of the supervisor. -/
def pollHolds (s : Chip) (d : Fin 4) (u off : Nat) (mask v : Word) : Chip × Bool :=
  let r := regRead s d 0 u off
  (r.1, r.2 &&& mask == v)

/-- REQUIRE: one read decides (R742). -/
def requireHolds (s : Chip) (d : Fin 4) (u off : Nat) (mask v : Word) : Ran :=
  if !regAddrOk (u * 2 ^ 24 + off) then (s, 7)
  else
    let r := pollHolds s d u off mask v
    (r.1, if r.2 then 0 else 10)

/-- IMAGEID on die `d` (R744). -/
def imageId (s : Chip) (d : Fin 4) (lo hi : Word) : Ran :=
  let s := s.onEngine d fun c => { c with ids := c.ids + 1 }
  if 1 < (s.d d).cfg.ids then (s, 12)
  else
    let s := (s.setFld d Rf.CFG_IMAGEID_LO_ID lo.toNat).setFld d Rf.CFG_IMAGEID_HI_ID hi.toNat
    (s, if s.fld64 d Rf.CFG_IMAGEID_LO_ID Rf.CFG_IMAGEID_HI_ID = s.fld64 0 Rf.CFG_IMAGEID_LO_ID Rf.CFG_IMAGEID_HI_ID then 0
      else 12)

/-- The engine of die `d` executes a command addressed to it (R737 to R748). -/
def runOn (s : Chip) (d : Fin 4) (i : Instr) : Ran :=
  match i with
  | .cFrameaddr f => if f.toNat < 196608 then (s.onEngine d fun c => { c with fptr := f.toNat }, 0) else (s, 7)
  | .cFramewrite n cmp data => frameWrite s d n cmp data
  | .cRegwrite u off v => streamWrite s d u.val (4 * off.toNat) v
  | .cRegionbegin r a b => regionDeclare s d r.val a.toNat b.toNat
  | .cRegionend r => if (s.d d).cfg.sec = some r.val then (s.onEngine d fun c => { c with sec := none }, 0) else (s, 7)
  | .cWait us => (s.onEngine d fun c => { c with wait := some (.till (s.now d + BitVec.ofNat 64 (1000 * us.toNat))) }, 0)
  | .cWaitPoll us u off mask v =>
    if !regAddrOk (u.val * 2 ^ 24 + 4 * off.toNat) then (s, 7)
    else
      (s.onEngine d fun c =>
        { c with wait := some (.poll (s.now d + BitVec.ofNat 64 (1000 * us.toNat)) (u.val * 1048576 + 4 * off.toNat)
          mask v) }, 0)
  | .cWaitRequire _ u off mask v => requireHolds s d u.val (4 * off.toNat) mask v
  | .cImageid lo hi => imageId s d lo hi
  | .cLoadmem region n cmp lane data => memLoad s d region n cmp lane.toNat data
  | .cLoadcodeRentik set image => codeRentik s d set.toNat image
  | .cLoadcodeYoke a words => codeYoke s d a.toNat words
  | _ => (s, 0)

/-- The load fails with the cause of a command that die `d` executed. -/
def ranOut (d : Fin 4) (r : Ran) : Chip := if r.2 = 0 then r.1 else cfgEndIf r.1 d r.2

/-! ### The stream at die 0 (R736, R743 to R746) -/

/-- A command that may stand inside a region section (R748). DEDUCED, log 160. -/
def inSection (i : Instr) : Bool :=
  match i with
  | .cFrameaddr _ | .cFramewrite _ _ _ | .cLoadmem _ _ _ _ _ | .cCheck _ | .cWait _ | .cWaitPoll _ _ _ _ _
  | .cWaitRequire _ _ _ _ _ | .cRegionend _ => true
  | _ => false

/-- The words of a command that dies 1 to 3 queue (R737, R745). -/
def wordsIn (i : Instr) : Nat :=
  match i with
  | .cFramewrite _ cmp data => 1 + b2n cmp + data.length
  | .cRegwrite _ _ _ => 2
  | .cWaitPoll _ _ _ _ _ | .cWaitRequire _ _ _ _ _ => 4
  | .cImageid _ _ => 3
  | .cLoadmem _ _ cmp _ data => 2 + b2n cmp + data.length
  | .cLoadcodeRentik _ image => 1 + image.length
  | .cLoadcodeYoke _ words => 2 + words.length
  | _ => 1

/-- The words that wait at a die. -/
def queuedWords : List Instr → Nat
  | [] => 0
  | i :: is => wordsIn i + queuedWords is

/-- The first `n` words leave the stream, and the running CRC takes them (R743). DEDUCED, log 159. -/
def streamTake (s : Chip) (n : Nat) (restart : Bool) : Chip :=
  s.onCfg fun c =>
    { c with
      words := c.words.drop n
      crc := chkBytes 1 (if restart then chkInit 1 else c.crc) ((c.words.take n).flatMap fun w => leBytes 4 w.toNat) }

/-- Some die has stopped or cannot be reached, once the links have been checked (R701, R745).
DEDUCED, log 162. -/
def loadLost (s : Chip) : Bool := s.cfg.checked && dies.any fun e => (s.d e).stopped || (e != 0 && !reaches s 0 e)

/-- The first die that R744 finds at fault. -/
def imageIdBad (s : Chip) : Option (Fin 4) :=
  dies.find? fun e => (s.d e).cfg.ids != 1 ||
    s.fld64 e Rf.CFG_IMAGEID_LO_ID Rf.CFG_IMAGEID_HI_ID != s.fld64 0 Rf.CFG_IMAGEID_LO_ID Rf.CFG_IMAGEID_HI_ID

/-- END (R744, R746, R748). -/
def streamEnd (s : Chip) (n : Nat) : Chip :=
  if !s.cfg.last || s.cfg.open_ || s.cfg.words.length != n then cfgFail s 0 7
  else if dies.any fun e => !(s.d e).cfg.q.isEmpty || (s.d e).cfg.wait.isSome then s
  else
    let s := streamTake s n false
    if Config.sha256 s.cfg.body ≠ s.cfg.digest then cfgFail s 0 13
    else
      match imageIdBad s with
      | some e => cfgFail s e 12
      | none =>
        (if s.fld 0 Rf.CFG_STAT_KEYSEL = 0 then s else zeroKey s).onCfg fun c => { c with release := some (s.now 0 + 2000) }

/-- Die 0 takes the next command of the stream, which is `i` in `n` words. -/
def streamStep (s : Chip) (i : Instr) (n : Nat) : Chip :=
  let d := s.cfg.die
  if s.cfg.open_ && !inSection i then cfgFail s d 7
  else
    match i with
    | .cSync => checkNext ((streamTake s n true).onCfg fun c => { c with synced := true, die := 0 })
    | .cDie e =>
      if e ≠ 0 ∧ (s.d 0).cfg.ids = 0 then cfgFail s 0 12
      else checkNext ((streamTake s n false).onCfg fun c => { c with die := e })
    | .cCheck v => if chkFinal 1 s.cfg.crc = v.toNat then checkNext (streamTake s n false) else cfgFail s 0 8
    | .cEnd => streamEnd s n
    | _ =>
      let q := (s.d d).cfg.q
      if d ≠ 0 ∧ !q.isEmpty ∧ 4096 < queuedWords q + wordsIn i then s
      else
        let open_ := match i with
          | .cRegionbegin _ _ _ => true
          | .cRegionend _ => false
          | _ => s.cfg.open_
        let s := (streamTake s n false).onCfg fun c => { c with open_ := open_ }
        let s := if d = 0 then ranOut 0 (runOn s 0 i) else s.onEngine d fun c => { c with q := c.q ++ [i] }
        checkNext s

/-- A command of the stream: die 0 takes it when the stream spells it next and nothing holds die 0's engine. -/
def cfgStep (i : Instr) (s : Chip) : Chip :=
  whenUp s 0 fun s =>
    if !cfgLoading s || !s.cfg.header || s.cfg.release.isSome then s
    else if loadLost s then cfgFail s 0 15
    else if (s.d 0).cfg.wait.isSome then s
    else
      match cfgDecode s.cfg.words with
      | .cmd j n => if j = i then streamStep s i n else s
      | _ => s

/-- CONFIG_FORWARD: die `d` executes the next command forwarded to it (R745). -/
def configForward (d : Fin 4) (s : Chip) : Chip :=
  whenUp s 0 fun s =>
    if !cfgLoading s then s
    else if loadLost s then cfgFail s 0 15
    else if (s.d d).cfg.wait.isSome then s
    else
      match (s.d d).cfg.q with
      | [] => s
      | i :: is => ranOut d (runOn (s.onEngine d fun c => { c with q := is }) d i)

/-- WAIT_ELAPSED (R742). -/
def waitElapsed (d : Fin 4) (s : Chip) : Chip :=
  whenUp s d fun s =>
    match (s.d d).cfg.wait with
    | some (.till t) => if reached s d t then s.onEngine d fun c => { c with wait := none } else s
    | _ => s

/-- WAIT_POLL_READ: at exactly the WAIT time a condition that holds still counts (R742, R759).
DEDUCED, log 161. -/
def waitPollRead (d : Fin 4) (s : Chip) : Chip :=
  whenUp s d fun s =>
    match (s.d d).cfg.wait with
    | some (.poll t key mask v) =>
      let r := pollHolds s d (key / 1048576) (key % 1048576) mask v
      if r.2 && (!reached s d t || s.now d == t) then r.1.onEngine d fun c => { c with wait := none }
      else if reached s d t then cfgEndIf r.1 d 9
      else r.1
    | _ => s

/-- CFG_RELEASE (R741, R746, R765, R772, R829). DESIGN CHOICE, log 168. -/
def cfgRelease (s : Chip) : Chip :=
  whenUp s 0 fun s =>
    match s.cfg.release with
    | none => s
    | some t =>
      if !cfgLoading s || !reached s 0 t then s
      else if loadLost s then cfgFail s 0 15
      else
        let us := t.toNat / 1000 % 2 ^ 32
        let runs := s.cfg.runs
        let s := (s.setFld 0 Rf.CFG_STAT_STATE 2).setFld 0 Rf.CFG_LOADTIME_US us
        let s := s.onCfg fun c => { c with started := false, release := none, runs := [] }
        let s := overAll (fun s d => s.upd d fun x => { x with fabRst := false }) s dies
        let s := if (s.d 0).hem.lc = 2 then overAll wdogStart s dies else s
        let s := raise s 0 0x230 K.CFGDONE 0 us
        let s := overAll (fun s v => regWrite s 0 0 Rf.TIME_TICK_CTL_RUN.unit Rf.TIME_TICK_CTL_RUN.off v) s runs
        overAll passIdle s dies

/-! ### The frames of a region reload (R320, R749) -/

/-- The command words of a container's body: `k` bounds the records; `at_` is the offset of the next one and `idx` its
index. None when a record cannot be read or breaks R733 or R734. -/
def containerWords : Nat → Chip → Fin 4 → Nat → Nat → Nat → Nat → Chip × Option (List Byte)
  | 0, s, _, _, _, _, _ => (s, none)
  | k + 1, s, d, addr, len, at_, idx =>
    let h := engineRead s d (addr + 64 + at_) 16
    match h.2 with
    | none => (h.1, none)
    | some hd =>
      let n := field hd 12 4 % 2 ^ 13
      let b := engineRead h.1 d (addr + 64 + at_) (32 + n)
      match b.2 with
      | none => (b.1, none)
      | some bs =>
        match chunkText b.1 bs len at_ idx with
        | none => (b.1, none)
        | some (text, true) => (b.1, some text)
        | some (text, false) =>
          let r := containerWords k b.1 d addr len (at_ + 32 + n) (idx + 1)
          (r.1, r.2.map fun t => text ++ t)

/-- Where the commands of a container stand. -/
inductive SecAt | start | synced | inside | closed
  deriving DecidableEq, Repr

/-- Execute the commands of a container for region `r`: SYNC, one section with the region's rectangle, END (R749). The
first argument bounds the commands. A plain WAIT takes no time here, and a POLL is read once. -/
def runSection : Nat → Chip → Fin 4 → Nat → SecAt → Nat → List Word → Ran
  | 0, s, _, _, _, _, _ => (s, 7)
  | k + 1, s, d, r, at_, crc, ws =>
    match cfgDecode ws with
    | .cmd i n =>
      let crc' := chkBytes 1 crc ((ws.take n).flatMap fun w => leBytes 4 w.toNat)
      let rest := ws.drop n
      match at_, i with
      | .start, .cSync => runSection k s d r .synced crc' rest
      | .synced, .cRegionbegin r' a b =>
        if r'.val ≠ r ∨ a.toNat ≠ s.fld d (Rf.CLK_REGION_FIRST.at r) ∨ b.toNat ≠ s.fld d (Rf.CLK_REGION_LAST.at r) then
          (s, 11)
        else runSection k (s.onEngine d fun c => { c with sec := some r }) d r .inside crc' rest
      | .inside, .cRegionend r' => if r'.val = r then runSection k s d r .closed crc' rest else (s, 7)
      | .inside, .cCheck v => if chkFinal 1 crc = v.toNat then runSection k s d r .inside crc' rest else (s, 8)
      | .inside, .cWait _ => runSection k s d r .inside crc' rest
      | .inside, .cWaitPoll _ u off mask v =>
        let x := requireHolds s d u.val (4 * off.toNat) mask v
        if x.2 = 0 then runSection k x.1 d r .inside crc' rest else (x.1, if x.2 = 10 then 9 else x.2)
      | .inside, i =>
        if !inSection i then (s, 7)
        else
          let x := runOn s d i
          if x.2 = 0 then runSection k x.1 d r .inside crc' rest else x
      | .closed, .cEnd => (s, if rest.isEmpty then 0 else 7)
      | _, _ => (s, 7)
    | _ => (s, 7)

/-- Write the region of a container: the cause it fails with, or 0. DESIGN CHOICE, log 164. -/
def reloadBody (s : Chip) (d : Fin 4) (q : Reload) : Ran :=
  let h := engineRead s d q.addr 64
  match h.2 with
  | none => (h.1, 6)
  | some hd =>
    let len := field hd 12 4
    let b := containerWords (len / 36 + 1) h.1 d q.addr len 0 0
    match b.2 with
    | none => (b.1, 6)
    | some bs =>
      let ws := wordsOf bs
      let old := (b.1.d d).cfg
      let r := runSection (ws.length + 1) (b.1.onEngine d fun _ => {}) d q.region .start (chkInit 1) ws
      (r.1.onEngine d fun _ => old, r.2)

/-- RELOAD_FRAMES_DONE: the frames and block memories are written and RELOADING and RESET clear, or the container fails
and the region stays incomplete (R320, R749, R766). -/
def reloadFramesDone (d : Fin 4) (s : Chip) : Chip :=
  whenUp s d fun s =>
    match (s.d d).reload with
    | some q =>
      if !q.drained || q.written then s
      else
        let r := reloadBody s d q
        if r.2 = 0 then
          let s := (r.1.setFld d (Rf.CLK_REGION_CTL_RELOADING.at q.region) 0).setFld d (Rf.CLK_REGION_CTL_RESET.at q.region) 0
          s.upd d fun x => { x with reload := some { q with written := true } }
        else reloadNext ((reloadFails r.1 d q r.2 true).upd d fun x => { x with reload := none }) d
    | none => s

/-! ### Meanings -/

/-- SYNC. -/
def execCSync (s : State) : Out :=
  act s fun s => cfgStep .cSync s
/-- DIE. -/
def execCDie (d : Fin 4) (s : State) : Out :=
  act s fun s => cfgStep (.cDie d) s
/-- FRAMEADDR. -/
def execCFrameaddr (frame : BitVec 18) (s : State) : Out :=
  act s fun s => cfgStep (.cFrameaddr frame) s
/-- FRAMEWRITE. -/
def execCFramewrite (N : Nat) (cmp : Bool) (data : List Word) (s : State) : Out :=
  act s fun s => cfgStep (.cFramewrite N cmp data) s
/-- REGWRITE. -/
def execCRegwrite (unit : Fin 32) (off4 : BitVec 18) (v : Word) (s : State) : Out :=
  act s fun s => cfgStep (.cRegwrite unit off4 v) s
/-- REGIONBEGIN. -/
def execCRegionbegin (r : Fin 64) (first last : BitVec 7) (s : State) : Out :=
  act s fun s => cfgStep (.cRegionbegin r first last) s
/-- REGIONEND. -/
def execCRegionend (r : Fin 64) (s : State) : Out :=
  act s fun s => cfgStep (.cRegionend r) s
/-- CHECK. -/
def execCCheck (crc : Word) (s : State) : Out :=
  act s fun s => cfgStep (.cCheck crc) s
/-- WAIT. -/
def execCWait (us : BitVec 20) (s : State) : Out :=
  act s fun s => cfgStep (.cWait us) s
/-- WAIT with POLL. -/
def execCWaitPoll (us : BitVec 20) (unit : Fin 32) (off4 : BitVec 18) (mask v : Word) (s : State) : Out :=
  act s fun s => cfgStep (.cWaitPoll us unit off4 mask v) s
/-- WAIT with POLL and REQUIRE. -/
def execCWaitRequire (us : BitVec 20) (unit : Fin 32) (off4 : BitVec 18) (mask v : Word) (s : State) : Out :=
  act s fun s => cfgStep (.cWaitRequire us unit off4 mask v) s
/-- IMAGEID. -/
def execCImageid (lo hi : Word) (s : State) : Out :=
  act s fun s => cfgStep (.cImageid lo hi) s
/-- LOADMEM. -/
def execCLoadmem (region : Fin 4) (N : Nat) (cmp : Bool) (lane : Word) (data : List Word) (s : State) : Out :=
  act s fun s => cfgStep (.cLoadmem region N cmp lane data) s
/-- LOADCODE for Rentik clusters. -/
def execCLoadcodeRentik (set : BitVec 16) (image : List Word) (s : State) : Out :=
  act s fun s => cfgStep (.cLoadcodeRentik set image) s
/-- LOADCODE for the Yoke. -/
def execCLoadcodeYoke (addr : BitVec 14) (words : List Word) (s : State) : Out :=
  act s fun s => cfgStep (.cLoadcodeYoke addr words) s
/-- END. -/
def execCEnd (s : State) : Out :=
  act s fun s => cfgStep .cEnd s
/-- WAIT_ELAPSED. -/
def execWaitElapsed (d : Fin 4) (s : State) : Out :=
  act s fun s => waitElapsed d s
/-- WAIT_POLL_READ. -/
def execWaitPollRead (d : Fin 4) (s : State) : Out :=
  act s fun s => waitPollRead d s
/-- CONFIG_FORWARD. -/
def execConfigForward (d : Fin 4) (s : State) : Out :=
  act s fun s => configForward d s
/-- CFG_RELEASE. -/
def execCfgRelease (s : State) : Out :=
  act s fun s => cfgRelease s
/-- RELOAD_FRAMES_DONE. -/
def execReloadFramesDone (d : Fin 4) (s : State) : Out :=
  act s fun s => reloadFramesDone d s

end Sys2Proof.Machine
end

