-- ==== Sys2Proof/Machine/Debug.lean ====
section
/-! DEFINITION. The debug access port and the TAP (R703, R851 to R860, R871 to R873), with the meanings of their
commands. -/

namespace Sys2Proof.Machine

/-! ### The debug access port (R858 to R860) -/

/-- What a debug access obtains: a status code, the BASTED mark and the data, or a wait for an INGEST word (R860). -/
inductive DbgRes
  | done (status : Nat) (basted : Bool) (data : BitVec 56)
  | wait
  deriving DecidableEq, Repr

/-- Run `k` with the debug domain's view of the die: it answers in its own window even while the die is held in reset or
has stopped (R851, R853). -/
def inDebugDomain (s : Chip) (d : Fin 4) (k : Chip → Chip) : Chip :=
  let stop := s.stop
  let off := (s.d d).stopped
  let s := k ({ s with stop := {} }.upd d fun x => { x with stopped := false })
  { s with stop := stop }.upd d fun x => { x with stopped := off }

/-- A debug access to a register of die `d` (R24, R853, R860); `off` is the offset in the register region. -/
def dbgReg (s : Chip) (d : Fin 4) (wr : Bool) (off : Nat) (data : BitVec 56) : Chip × DbgRes :=
  let u := off / 2 ^ 24
  if !regAddrOk off then (s, .done 2 false 0)
  else if u ≠ 0x16 && !vcorePresent s d then (s, .done 6 false 0)
  else if wr then
    let k := fun s => regWrite s d 0 u (off % 2 ^ 24) (BitVec.ofNat 32 data.toNat)
    (if u = 0x16 then inDebugDomain s d k else k s, .done 0 false data)
  else
    let r := regRead s d 0 u (off % 2 ^ 24)
    (r.1, .done 0 false (BitVec.ofNat 56 r.2.toNat))

/-- A debug access to lane memory: a word, or one lane when `one` (R353, R735, R855, R860).
DEDUCED, log 185. -/
def dbgLanes (s : Chip) (d : Fin 4) (wr one : Bool) (off : Nat) (data : BitVec 56) : Chip × DbgRes :=
  match laneAt off with
  | none => (s, .done 2 false 0)
  | some (m, l) =>
    let w := l / 4
    if (!one && l % 4 != 0) || (m == Mem.lining && (decide (1 < (s.d 0).hem.lc) || keyWords s d w 1)) ||
        (m == Mem.bmem && wr && fifoAmong s d w 1) then (s, .done 2 false 0)
    else if m == Mem.spad && !bankOn s d (bankOf w) then (s, .done 4 false 0)
    else
      let mask := if one then 2 ^ (l % 4) else 15
      let s := if m = Mem.spad then touchBank s d (bankOf w) else s
      if wr then
        let q := if one then splatLane (BitVec.ofNat 14 data.toNat) else data
        let r := if m = Mem.lining then (writeLining s d w mask q, WriteRes.done) else writeWord s d m w mask q .plain
        (r.1, if r.2 = .stall then .wait else .done 0 false data)
      else
        let r := if m = Mem.lining then readLining s d w mask .debug else readWord s d m w mask .debug
        match r.2 with
        | .val q b => (r.1, .done 0 b (if one then BitVec.ofNat 56 (getLane q (l % 4)).toNat else q))
        | _ => (r.1, .done 3 false 0)

/-- A debug access to DRAM, through regulator port 5 (R859, R860). -/
def dbgDram (s : Chip) (d : Fin 4) (wr : Bool) (off : Nat) (data : BitVec 56) : Chip × DbgRes :=
  if off % 4 ≠ 0 || dramBeyond s d off 4 then (s, .done 2 false 0)
  else if wr then (dramStore s d off ((leBytes 4 data.toNat).map some), .done 0 false data)
  else
    let r := dramFetch s d off 4
    match r.2 with
    | some bs => (r.1, .done 0 false (BitVec.ofNat 56 (leNat bs)))
    | none => (r.1, .done 3 false 0)

/-- The access that the debug port of die `d` holds (R853, R858, R860). -/
def dbgServe (s : Chip) (d : Fin 4) (a : DbgAcc) : Chip × DbgRes :=
  let off := a.addr % 2 ^ 38
  if a.addr / 2 ^ 38 ≠ d.val then (s, .done 2 false 0)
  else if regBase ≤ off then dbgReg s d a.wr (off - regBase) a.data
  else if !vcorePresent s d then (s, .done 6 false 0)
  else if off < 2 ^ 36 then dbgDram s d a.wr off a.data
  else dbgLanes s d a.wr a.lane off a.data

/-- DEBUG_ACCESS_DONE: the access ends with its status, unless it still waits (R858, R860, R873, R885). A register
operation that the debug block ends with a status of its own keeps that status. DEDUCED, log 182. -/
def debugAccessDone (d : Fin 4) (s : Chip) : Chip :=
  match (s.d d).dbg with
  | none => s
  | some a =>
    if !vaonUp s then s
    else
      let r := dbgServe (setDbgStatus s d 0) d a
      match r.2 with
      | .wait => setDbgStatus r.1 d 1
      | .done st b data =>
        let s := r.1
        let st := if st = 0 then s.fld d Rf.PLACKET_DBG_STAT_STATUS else st
        let s := (setDbgStatus s d st).setFld d Rf.PLACKET_DBG_STAT_BASTED (b2n b)
        let s := s.setFld d Rf.PLACKET_DBG_STAT_BUSY 0
        let s := if a.tap || a.wr then s
          else (s.setFld d Rf.PLACKET_DBG_DATA_LO_DATA (data.toNat % 2 ^ 32)).setFld d Rf.PLACKET_DBG_DATA_HI_DATA
            (data.toNat / 2 ^ 32)
        s.upd d fun x => { x with dbg := none, tap := { x.tap with addr := a.addr, data := data, basted := b, status := st } }

/-- DEBUG_READ and DEBUG_WRITE: DBG_CMD is written with GO and OP 1 or 2 (R855, R858, R875).
DEDUCED, log 184. -/
def debugGo (t : Fin 256) (d : Fin 4) (op : Nat) (v : Word) (s : Chip) : Chip :=
  whenDebug s d t Rf.PLACKET_DBG_CMD_GO fun s => dbgCmdWrite s d (putBits (putBits v 0 2 op) 31 1 1)

/-! ### The TAP (R703, R871 to R873) -/

/-- Change a die's TAP. -/
def Chip.onTap (s : Chip) (d : Fin 4) (f : TapSt → TapSt) : Chip := s.upd d fun x => { x with tap := f x.tap }

/-- Run `k` while the chain works (R703). DEDUCED, log 183. -/
def whenTap (s : Chip) (k : Chip → Chip) : Chip := if vaonUp s then k s else s

/-- Instruction `code` is selected on die `d`; in a locked state it acts as BYPASS unless it is IDCODE, BYPASS or SAMPLE
(R855, R871). -/
def tapSelect (s : Chip) (d : Fin 4) (code : Nat) : Chip :=
  s.onTap d fun x =>
    { x with ir := if dbgLocked s && code != 0x004 && code != 0xFFF && code != 0x002 then 0xFFF else code }

/-- TAP_RESET: Test-Logic-Reset selects IDCODE on every die. -/
def tapReset (s : Chip) : Chip := whenTap s fun s => overAll (fun s d => tapSelect s d 0x004) s dies

/-- The cells of a die's boundary register (R915). -/
def boundaryCells (d : Fin 4) : Nat := if d = 0 then 755 else 620

/-- TAP_SAMPLE: the boundary register captures the pins. DEDUCED, log 189. -/
def tapSample (d : Fin 4) (pins : List Bool) (s : Chip) : Chip :=
  whenTap s fun s =>
    (tapSelect s d 0x002).onTap d fun x => { x with cells := (range 0 (boundaryCells d)).map fun i => pins.getD i false }

/-- The IDCODE of die `d` (R872). -/
def idcode (d : Fin 4) : Word := BitVec.ofNat 32 (1 + 0x35A * 2 + (0x5390 + d.val) * 2 ^ 12 + 2 ^ 28)

/-- TAP_IDCODE: the data register holds the die's IDCODE. -/
def tapIdcode (d : Fin 4) (s : Chip) : Chip :=
  whenTap s fun s => { tapSelect s d 0x004 with reply := .word (idcode d) }

/-- DBGACC with OP 1 or 2 (R854, R858, R873): an access that finds the port busy reads status BUSY. -/
def tapDbgacc (d : Fin 4) (addr : BitVec 40) (lane wr : Bool) (data : BitVec 56) (s : Chip) : Chip :=
  whenTap s fun s =>
    let s := tapSelect s d 0x008
    if (s.d d).tap.ir = 0x008 then
      let s := if (s.d d).dbg.isSome then s.onTap d fun x => { x with status := 1 } else s
      dbgBegin s d { tap := true, wr := wr, lane := lane, addr := addr.toNat, data := data }
    else s

/-- CFGDATA: Update-DR of die 0 delivers one word of a JTAG load; dies 1 to 3 act as in BYPASS (R726, R871). -/
def tapCfgdata (d : Fin 4) (v : Word) (s : Chip) : Chip :=
  whenTap s fun s =>
    let s := tapSelect s d (if d = 0 then 0x020 else 0xFFF)
    if (s.d d).tap.ir = 0x020 then whenUp s 0 fun s => jtagWord s v else s

/-! ### Meanings -/

/-- DEBUG_READ. -/
def execDebugRead (t : Fin 256) (d : Fin 4) (v : Word) (s : State) : Out :=
  act s fun s => debugGo t d 1 v s
/-- DEBUG_WRITE. -/
def execDebugWrite (t : Fin 256) (d : Fin 4) (v : Word) (s : State) : Out :=
  act s fun s => debugGo t d 2 v s
/-- DEBUG_ACCESS_DONE. -/
def execDebugAccessDone (d : Fin 4) (s : State) : Out :=
  act s fun s => debugAccessDone d s
/-- TAP_RESET. -/
def execTapReset (s : State) : Out :=
  act s fun s => tapReset s
/-- TAP_EXTEST. -/
def execTapExtest (d : Fin 4) (s : State) : Out :=
  act s fun s => whenTap s fun s => tapSelect s d 0x000
/-- TAP_SAMPLE. -/
def execTapSample (d : Fin 4) (pins : List Bool) (s : State) : Out :=
  act s fun s => tapSample d pins s
/-- TAP_IDCODE. -/
def execTapIdcode (d : Fin 4) (s : State) : Out :=
  act s fun s => tapIdcode d s
/-- TAP_DBGACC_READ. -/
def execTapDbgaccRead (d : Fin 4) (addr : BitVec 40) (lane : Bool) (s : State) : Out :=
  act s fun s => tapDbgacc d addr lane false 0 s
/-- TAP_DBGACC_WRITE. -/
def execTapDbgaccWrite (d : Fin 4) (addr : BitVec 40) (lane : Bool) (data : BitVec 56) (s : State) : Out :=
  act s fun s => tapDbgacc d addr lane true data s
/-- TAP_CFGDATA. -/
def execTapCfgdata (d : Fin 4) (v : Word) (s : State) : Out :=
  act s fun s => tapCfgdata d v s
/-- TAP_HIGHZ. -/
def execTapHighz (d : Fin 4) (s : State) : Out :=
  act s fun s => whenTap s fun s => tapSelect s d 0x040
/-- TAP_CLAMP. -/
def execTapClamp (d : Fin 4) (s : State) : Out :=
  act s fun s => whenTap s fun s => tapSelect s d 0x080
/-- TAP_BYPASS. -/
def execTapBypass (d : Fin 4) (s : State) : Out :=
  act s fun s => whenTap s fun s => tapSelect s d 0xFFF

end Sys2Proof.Machine
end

