-- ==== Sys2Proof/Machine/Host.lean ====
section
/-! DEFINITION. How accesses reach registers and memories from outside: register accesses by device address, BAR0 and its
tenant pages, the MSI-X table, the lane window, the host SPI target, the rows that name one register, and the drain of the
Basting buffer (R14, R24, R33, R44, R93, R117, R143, R147, R158 to R163, R172, R173, R271, R562, R590, R831, R934). -/

namespace Sys2Proof.Machine

/-! ### Tenant pages (R163, R171, R182) -/

/-- A write of the register at `o` of tenant `t`'s page. DEDUCED, log 44. -/
def pageWrite (s : Chip) (t : Fin 256) (o : Nat) (v : Word) : Chip :=
  let x := s.host t
  let hi := fun (b : BitVec 64) => BitVec.ofNat 64 (b.toNat % 2 ^ 32 + v.toNat * 2 ^ 32)
  let lo := fun (b : BitVec 64) (n : Nat) => BitVec.ofNat 64 (b.toNat / 2 ^ 32 * 2 ^ 32 + v.toNat / n * n)
  if o = 0x000 then (if x.sqEn then s else s.setHost t { x with sqBase := lo x.sqBase 64 })
  else if o = 0x004 then (if x.sqEn then s else s.setHost t { x with sqBase := hi x.sqBase })
  else if o = 0x008 then sqCtl s t v
  else if o = 0x00C then sqTail s t v
  else if o = 0x020 then (if x.cqEn then s else s.setHost t { x with cqBase := lo x.cqBase 16 })
  else if o = 0x024 then (if x.cqEn then s else s.setHost t { x with cqBase := hi x.cqBase })
  else if o = 0x028 then cqCtl s t v
  else if o = 0x02C then cqHead s t v
  else if o = 0x100 then (if t = 0 then wdogSvcWrite s v else nogrant s 0 t 0x17 0x100 false)
  else s

/-- What the register at `o` of tenant `t`'s page reads. -/
def pageRead (s : Chip) (t : Fin 256) (o : Nat) : Word :=
  let x := s.host t
  if o = 0x000 then half x.sqBase.toNat false
  else if o = 0x004 then half x.sqBase.toNat true
  else if o = 0x008 then BitVec.ofNat 32 (x.sqLog + b2n x.sqEn * 16)
  else if o = 0x00C then BitVec.ofNat 32 x.sqTail
  else if o = 0x010 then BitVec.ofNat 32 x.sqHead
  else if o = 0x020 then half x.cqBase.toNat false
  else if o = 0x024 then half x.cqBase.toNat true
  else if o = 0x028 then BitVec.ofNat 32 (x.cqLog + b2n x.cqEn * 16 + b2n x.cqIrq * 32)
  else if o = 0x02C then BitVec.ofNat 32 x.cqHead
  else if o = 0x030 then BitVec.ofNat 32 x.cqTail
  else if o = 0x040 then BitVec.ofNat 32 (b2n (tenEnabled s t) + b2n (tenFaulted s t) * 2)
  else 0

/-! ### BAR0 (R158) -/

/-- What a BAR0 offset names. -/
inductive BarPlace
  /-- The window of a unit. -/
  | win (d : Fin 4) (u off : Nat)
  | page (t : Fin 256) (o : Nat)
  /-- A word of the MSI-X table, and one of the pending-bit array. -/
  | table (k : Nat)
  | pba (k : Nat)
  | bad
  deriving DecidableEq, Repr

/-- The place that offset `off` of BAR0 names. -/
def barPlace (off : Nat) : BarPlace :=
  if off < 0x8000000 then
    if off / 2 ^ 20 % 32 < 28 then .win (Fin.ofNat 4 (off / 2 ^ 25)) (off / 2 ^ 20 % 32) (off % 2 ^ 20) else .bad
  else if off < 0x8100000 then .page (Fin.ofNat 256 (off / 4096)) (off % 4096)
  else if off < 0x8100000 + 257 * 16 then .table ((off - 0x8100000) / 4)
  else if 0x8102000 ≤ off ∧ off < 0x8102000 + 40 then .pba ((off - 0x8102000) / 4)
  else .bad

/-- The tenant as which an access acts. -/
def BarPlace.tenant : BarPlace → Fin 256
  | .page t _ => t
  | _ => 0

/-- The access fault of a host access: the payload is the offset (R934). DEDUCED, log 42. -/
def hostFault (s : Chip) (t : Fin 256) (off : Nat) : Chip := accFault s 0 hostSrc t off

/-- A write of word `k` of the MSI-X table: a vector that becomes unmasked sends what is pending (R172). -/
def tableWrite (s : Chip) (k : Nat) (v : Word) : Chip :=
  if k % 4 = 3 then
    if bit v.toNat 0 then { s with msix := mapPut msixReset s.msix k 1 } else unmaskVector s (k / 4)
  else { s with msix := mapPut msixReset s.msix k v }

/-- Word `k` of the pending-bit array. -/
def pbaWord (s : Chip) (k : Nat) : Word :=
  BitVec.ofNat 32 (bitsNat ((range (32 * k) 32).map fun v => mapGet (fun _ => false) s.pba v))

/-- A host write of `bytes` bytes at `off` of BAR0. -/
def barWrite (s : Chip) (spi : Bool) (off bytes : Nat) (v : Word) : Chip :=
  let p := barPlace off
  if bytes ≠ 4 ∨ off % 4 ≠ 0 ∨ 2 ^ 28 ≤ off then hostFault s p.tenant off
  else
    match p with
    | .win d u o =>
      if d = 0 then regWrite s 0 0 u o v
      else remoteAdd s 0 d (.host 0 spi) 0 (.regWrite (u * 2 ^ 24 + o) 4 v) false
    | .page t o => pageWrite s t o v
    | .table k => tableWrite s k v
    | .pba _ => s
    | .bad => hostFault s 0 off

/-- A host read of `bytes` bytes at `off` of BAR0; one of dies 1 to 3 is answered when its response comes. -/
def barRead (s : Chip) (spi : Bool) (off bytes : Nat) : Chip :=
  let p := barPlace off
  let bad := fun (s : Chip) => { s with reply := if spi then .fault else .word 0 }
  let say := fun (s : Chip) (v : Word) => { s with reply := .word v }
  if bytes ≠ 4 ∨ off % 4 ≠ 0 ∨ 2 ^ 28 ≤ off then bad (hostFault s p.tenant off)
  else
    match p with
    | .win d u o =>
      if d = 0 then
        let r := regRead s 0 0 u o
        say r.1 r.2
      else { remoteAdd s 0 d (.host 0 spi) 0 (.regRead (u * 2 ^ 24 + o) 4) false with reply := .none }
    | .page t o => say s (pageRead s t o)
    | .table k => say s (if spi then 0 else msixWord s k)
    | .pba k => say s (if spi then 0 else pbaWord s k)
    | .bad => bad (hostFault s 0 off)

/-! ### Device addresses (R18, R24, R25, R44) -/

/-- The window and offset that a device address names, for an access of `bytes` bytes; none is an access fault. -/
def devPlace (addr : BitVec 40) (bytes : Nat) : Option (Nat × Nat) :=
  let off := addr.toNat % 2 ^ 38
  if bytes = 4 ∧ regBase ≤ off ∧ regAddrOk (off - regBase) then some ((off - regBase) / 2 ^ 24, (off - regBase) % 2 ^ 24)
  else none

/-- The die that a device address names (R18). -/
def addrDie (addr : BitVec 40) : Fin 4 := Fin.ofNat 4 (addr.toNat / 2 ^ 38)

/-- REGISTER_WRITE. -/
def registerWrite (a : RegAddr) (bytes : Nat) (v : Word) (s : Chip) : Chip :=
  match a with
  | .dev t addr =>
    let d := addrDie addr
    whenUp s d fun s =>
      match devPlace addr bytes with
      | some p => regWrite s d t p.1 p.2 v
      | none => accFault s d 0x000 t addr.toNat
  | .bar0 off => if linkUp s then barWrite s false off.toNat bytes v else s

/-- REGISTER_READ. -/
def registerRead (a : RegAddr) (bytes : Nat) (s : Chip) : Chip :=
  match a with
  | .dev t addr =>
    let d := addrDie addr
    whenUp s d fun s =>
      match devPlace addr bytes with
      | some p =>
        let r := regRead s d t p.1 p.2
        { r.1 with reply := .word r.2 }
      | none => { accFault s d 0x000 t addr.toNat with reply := .word 0 }
  | .bar0 off => if linkUp s then barRead s false off.toNat bytes else s

/-- A write of one named register by tenant `t`. -/
def namedWrite (s : Chip) (d : Fin 4) (t : Fin 256) (u off : Nat) (v : Word) : Chip :=
  whenUp s d fun s => regWrite s d t u off v

/-- A read of one named register by tenant `t`. -/
def namedRead (s : Chip) (d : Fin 4) (t : Fin 256) (u off : Nat) : Chip :=
  whenUp s d fun s =>
    let r := regRead s d t u off
    { r.1 with reply := .word r.2 }

/-- PRBS_BITS_READ (R590): the checker's counts come with the read. -/
def prbsRead (t : Fin 256) (d : Fin 4) (k : Fin 8) (bits : BitVec 64) (errs : Nat) (s : Chip) : Chip :=
  let off := 0x1088 + 0x100 * k.val
  whenUp s d fun s =>
    if !present s d 12 then { s with reply := .word 0 }
    else if mayRead s d t 12 off then prbsBitsRead s d k.val bits errs
    else { nogrant s d t 12 off true with reply := .word 0 }

/-! ### The lane window (R159, R160) -/

/-- HOST_LANE_READ: a read of die 0 is answered at once, or waits while a bank wakes; one of dies 1 to 3 travels. -/
def hostLaneRead (off : BitVec 28) (bytes : Nat) (s : Chip) : Chip :=
  let d : Fin 4 := Fin.ofNat 4 (off.toNat / 2 ^ 26)
  let o := off.toNat % 2 ^ 26
  if !linkUp s then s
  else if d ≠ 0 then { remoteAdd s 0 d (.host 0 false) 0 (.laneRead o bytes) false with reply := .none }
  else
    match hostLanesAt s 0 false o bytes with
    | none => { hostFault s 0 off.toNat with reply := .bytes (List.replicate bytes 0) }
    | some (m, l) =>
      let r := hostReadLanes (bytes / 2) s 0 m l (bytes / 2)
      { r.1 with
        reply := match r.2 with
          | some bs => .bytes bs
          | none => .none }

/-- HOST_LANE_WRITE. -/
def hostLaneWrite (off : BitVec 28) (data : List Byte) (s : Chip) : Chip :=
  let d : Fin 4 := Fin.ofNat 4 (off.toNat / 2 ^ 26)
  let o := off.toNat % 2 ^ 26
  if !linkUp s then s
  else if d ≠ 0 then remoteAdd s 0 d (.host 0 false) 0 (.laneWrite o data) false
  else
    match hostLanesAt s 0 true o data.length with
    | none => hostFault s 0 off.toNat
    | some (m, l) => (hostWriteLanes (data.length / 2) s 0 m l data).1

/-! ### Host SPI (R173) -/

/-- A write of the host SPI port is pending. -/
def spiPending (s : Chip) : Bool :=
  s.remotes.any fun a => a.init == .host 0 true && a.op.writes && !a.abandoned

/-- The status byte. -/
def spiStatus (s : Chip) : Byte :=
  BitVec.ofNat 8 (b2n (spiPending s) + b2n ((range 0 8).any fun i => s.fld 0 (Rf.EVT_ALARM_KINDS.at i) != 0) * 2 +
    b2n (s.flag 0 Rf.HOST_LINK_UP) * 4)

/-! ### The drain of the Basting buffer (R257, R271) -/

/-- One committed entry of die `d` is made to its target; none while the write waits there (R262, R361).
DESIGN CHOICE, log 84. -/
def drainEntry (s : Chip) (d : Fin 4) (b : BufEntry) : Option Chip × Chip :=
  let addr := match b.w with
    | .dram a _ => a
    | .lane a _ _ => a
    | .reg a _ => a
  let e := addrDie (BitVec.ofNat 40 addr)
  let off := addr % 2 ^ 38
  if e ≠ d && !(up s e && reaches s d e) then (some s, s)
  else
    match b.w with
    | .dram _ data => (some (if dramBeyond s e off data.length then s else dramStore s e off data), s)
    | .lane _ mask q =>
      match laneAt off with
      | some (m, l) =>
        if m = .lining then (some (writeLining s e (l / 4) mask q), s)
        else
          let r := writeMem s e m (l / 4) mask q (.prog b.ten false)
          if r.2 = .done then (some r.1, s) else (none, r.1)
      | none => (some s, s)
    | .reg _ v => (some (regWrite s e b.ten ((off - regBase) / 2 ^ 24) (off % 2 ^ 24) v), s)

/-- BASTE_DRAIN_ENTRY (R271): the oldest committed entry leaves the buffer of die `d`. -/
def basteDrain (d : Fin 4) (s : Chip) : Chip :=
  whenUp s d fun s =>
    match (s.d d).baste.drain with
    | [] => s
    | b :: bs =>
      match drainEntry s d b with
      | (some s', _) => s'.onBaste d fun x => { x with drain := bs }
      | (none, s') => s'

/-! ### Meanings -/

/-- REGISTER_WRITE. -/
def execRegisterWrite (a : RegAddr) (bytes : Nat) (v : Word) (s : State) : Out :=
  act s fun s => registerWrite a bytes v s
/-- REGISTER_READ. -/
def execRegisterRead (a : RegAddr) (bytes : Nat) (s : State) : Out :=
  act s fun s => registerRead a bytes s
/-- SYS_COMPAT_WRITE. -/
def execSysCompatWrite (t : Fin 256) (d : Fin 4) (v : Word) (s : State) : Out :=
  act s fun s => namedWrite s d t 0 0xC v
/-- SYS_GRANT_WRITE. -/
def execSysGrantWrite (t : Fin 256) (d : Fin 4) (i : Fin 256) (v : Word) (s : State) : Out :=
  act s fun s => namedWrite s d t 0 (0x400 + 4 * i.val) v
/-- TIME_NOW_READ: of NOW_LO, or of TICK_NUM_LO when `tick`. -/
def execTimeNowRead (t : Fin 256) (d : Fin 4) (tick : Bool) (s : State) : Out :=
  act s fun s => namedRead s d t 0x19 (if tick then 0x34 else 4)
/-- YOKE_IMEM_WRITE. -/
def execYokeImemWrite (t : Fin 256) (d : Fin 4) (i : BitVec 14) (v : Word) (s : State) : Out :=
  act s fun s => namedWrite s d t 1 (0x40000 + 4 * i.toNat) v
/-- YOKE_RTO_WRITE. -/
def execYokeRtoWrite (t : Fin 256) (v : Word) (s : State) : Out :=
  act s fun s => namedWrite s 0 t 1 0xC v
/-- RD_VALID_WRITE. -/
def execRdValidWrite (t : Fin 256) (d : Fin 4) (n : Fin 1024) (v : Word) (s : State) : Out :=
  act s fun s => namedWrite s d t 1 (0x10004 + 16 * n.val) v
/-- DFE_SNAPSHOT_READ. -/
def execDfeSnapshotRead (t : Fin 256) (d : Fin 4) (k : Fin 8) (s : State) : Out :=
  act s fun s => namedRead s d t 12 (0x1040 + 0x100 * k.val)
/-- PRBS_BITS_READ. -/
def execPrbsBitsRead (t : Fin 256) (d : Fin 4) (k : Fin 8) (bits : BitVec 64) (errs : Nat) (s : State) : Out :=
  act s fun s => prbsRead t d k bits errs s
/-- HOST_WDOG_SERVICE: a write of WDOG_SVC on tenant page `t`. -/
def execHostWdogService (t : Fin 256) (v : Word) (s : State) : Out :=
  act s fun s => if alive s then pageWrite s t 0x100 v else s
/-- HOST_LANE_READ. -/
def execHostLaneRead (off : BitVec 28) (bytes : Nat) (s : State) : Out :=
  act s fun s => hostLaneRead off bytes s
/-- HOST_LANE_WRITE. -/
def execHostLaneWrite (off : BitVec 28) (data : List Byte) (s : State) : Out :=
  act s fun s => hostLaneWrite off data s
/-- HSPI_WRITE: performed after HSPI_CS_N rises. -/
def execHspiWrite (off v : Word) (s : State) : Out :=
  act s fun s => if alive s then barWrite s true off.toNat 4 v else s
/-- HSPI_READ. -/
def execHspiRead (off : Word) (s : State) : Out :=
  act s fun s => if alive s then barRead s true off.toNat 4 else s
/-- HSPI_STATUS. -/
def execHspiStatus (s : State) : Out :=
  act s fun s => if alive s then { s with reply := .bytes [spiStatus s] } else s
/-- BASTE_DRAIN_ENTRY. -/
def execBasteDrainEntry (d : Fin 4) (s : State) : Out :=
  act s fun s => basteDrain d s

end Sys2Proof.Machine
end

