-- ==== Sys2Proof/Machine/Power.lean ====
section
/-! DEFINITION. Resets, stops and rails: PORN, SRST, PERST_N, DBG_PORN, the always-on domain, brown-out, the rails of
PWR.RAIL and the PCI Express link (R31, R227, R277, R314, R427, R474, R483, R532, R609, R663, R753, R790, R833, R851,
R852, R874, R895 to R910, R918 to R930, R939), with the meanings of their commands. -/

namespace Sys2Proof.Machine

/-! ### PORN (R55, R427, R663, R851, R903, R904) -/

/-- A die as PORN leaves it: its fuses, the rails it shows, the debug domain and the registers that PORN does not reset
stay; the contents of its DRAM are lost. DEDUCED, log 194. -/
def pornDie (x : DieSt) : DieSt :=
  { regs := resetRegs (fun _ => false) (fun r => r != Rst.none) x.regs
    hem := x.hem
    dram := { gen := x.dram.gen + 1 }
    dbg := x.dbg
    tap := x.tap }

/-- What PORN resets on the device. The interlock state, the VBAT domain, the always-on log, a WDOUT pulse and trace
stay. -/
def pornAll (s : Chip) : Chip :=
  let s := { s with
    die := s.die.map pornDie
    compat := 0
    ticked := false
    first := none
    settings := []
    merge := []
    overflowed := []
    resolve := {}
    lcMove := none
    hostSvc := false
    remotes := []
    tenActive := []
    reservoir := 0
    reservoirRem := 0
    epochTick := 0
    epochE := 64
    epochRuns := false
    pulses := []
    ps := {}
    hosts := []
    cfg := {}
    auth := none
    msix := []
    pba := []
    reply := .none }
  s.setFld 0 Rf.ILK_STAT_LASEN 0

/-- The reset sequence that PORN release starts (R31, R726, R754, R813, R824, R846). -/
def pornStart (g2 : Bool) (bootsel : Fin 4) (found : List HemFinding) (s : Chip) : Chip :=
  let s := { pornAll s with stop := {}, g2pin := g2, compat := if g2 then 0x3F else 0 }
  let s := senseAll s found
  let s := (s.setFld 0 Rf.CFG_STAT_BOOTSEL bootsel.val).setFld 0 Rf.CFG_STAT_STATE (b2n (bootsel == 0))
  if s.vbat.offEvent then
    let w2 := match s.vbat.log with
      | e :: _ => e.w2.toNat % 2 ^ 11
      | [] => 0
    raise { s with vbat := { s.vbat with offEvent := false } } 0 0x242 K.TAMPER 0 (w2 + 2 ^ 11)
  else s

/-- The core rails, VAUX and VAON are in range on every die (R903). -/
def coreRails (s : Chip) : Bool :=
  dies.all fun d => s.flag d Rf.PWR_RAIL_VCORE && s.flag d Rf.PWR_RAIL_VAUX && s.flag d Rf.PWR_RAIL_VAON

/-- The S9 is held in reset (R903). -/
def holdReset (s : Chip) : Chip := { pornAll s with stop := { held := true } }

/-- PORN_FALL: PORN is low for `ns` ns (R904). DESIGN CHOICE, log 190. -/
def pornFall (ns : Nat) (s : Chip) : Chip :=
  let open_ := decide (1000 < ns ∧ ns < 10000)
  let acts := decide (10000 ≤ ns) || (open_ && Config.freeBool s.free)
  let s := if open_ then s.took else s
  if acts then holdReset s else s

/-- PORN_RELEASE: PORN has been high, and the rails in range, for 1 ms (R903, R920). DEDUCED, log 195. -/
def pornRelease (g2 : Bool) (bootsel : Fin 4) (found : List HemFinding) (s : Chip) : Chip :=
  if s.stop.held && coreRails s then pornStart g2 bootsel found s else s

/-! ### SRST (R905 and the reset rules of each unit) -/

/-- A lane-memory word that SRST untags (R277); the spec does not say whether a basted word keeps its basted value, or a
VOID word its stored one: `keep` decides. DESIGN CHOICE, log 191. -/
def untag (keep : Bool) (w : MWord) : MWord :=
  let w' := { w with tag := Tag.committed, ten := 0, shadow := none, overwritten := false }
  match w.tag, w.shadow with
  | .basted, some sh => if keep then w' else { w' with data := sh.data, poison := sh.poison, written := sh.written, flips := 0 }
  | .void, _ => if keep then w' else { w' with data := markWord, poison := 0, flips := 0 }
  | _, _ => w'

/-- A cluster that SRST makes idle (R427): its registers keep their values until a program starts. -/
def idleCluster (x : Cluster) : Cluster := { vec := x.vec, acc := x.acc, sreg := x.sreg, preg := x.preg }

/-- A die as SRST leaves it. DEDUCED, log 192. -/
def srstDie (keep : Bool) (x : DieSt) : DieSt :=
  let mem := mapEach word0 (fun _ w => untag keep w)
  { x with
    regs := resetRegs (fun _ => false) (fun r => r == .srst) x.regs
    tick := {}
    heldRecs := []
    spad := mem x.spad
    cst := mem x.cst
    bmem := mem x.bmem
    lining := mem x.lining
    baste := {}
    clusters := mapEach cluster0 (fun _ c => idleCluster c) x.clusters
    iload := []
    iloadEnd := false
    ran := []
    runCyc := []
    yHaltReq := none
    stimHeld := []
    ledger := { energy := x.ledger.energy, unsent := x.ledger.unsent, sentAt := x.ledger.sentAt, totals := x.ledger.totals }
    caps := []
    ingestQ := []
    flows := []
    flowNext := []
    sfq := []
    pleat := { sums := x.pleat.sums }
    workq := []
    domRun := []
    latch := []
    yoke := {}
    insts := []
    moveQ := []
    moveTurn := 0
    moves := []
    sports := []
    dports := []
    marks := [] }

/-- A load that SRST ends begins again at SRST's end, with the attempt count at 0 (R753). -/
def srstLoad (s : Chip) : Chip :=
  if s.fld 0 Rf.CFG_STAT_STATE = 1 then
    let boot := bootsel s
    let checked := s.cfg.checked
    let s := if s.fld 0 Rf.CFG_STAT_KEYSEL = 0 then s else zeroKey s
    let s := cfgClear s
    let s := { s with cfg := { checked := checked } }
    let s := s.upd 0 fun x => { x with regs := resetRegs (fun k => k / 1048576 != 0x11) (fun r => r == .porn) x.regs }
    (s.setFld 0 Rf.CFG_STAT_BOOTSEL boot).setFld 0 Rf.CFG_STAT_STATE (b2n (boot == 0))
  else s

/-- SRST takes effect. -/
def srstBegin (s : Chip) : Chip :=
  let s := overAll fenceFlush s dies
  let s := overAll (fun s d => passAbandon (reloadsStop s d) d) s dies
  let keep := Config.freeBool s.free
  let s := (disarmLaser s.took)
  let s := { s with die := s.die.map (srstDie keep) }
  let s := { s with
    compat := if s.g2pin then 0x3F else 0
    ticked := false
    first := none
    settings := []
    overflowed := []
    resolve := {}
    remotes := []
    tenActive := []
    epochTick := 0
    epochE := 64
    epochRuns := false
    pulses := []
    hosts := []
    stop := { s.stop with srst := true } }
  srstLoad ((s.setFld 0 Rf.TIME_STAT_REFLOCK 0).setFld 0 Rf.TIME_STAT_HOLDOVER 0)

/-- SRST_N_FALL: SRST_N is low for `ns` ns (R905). DEDUCED, log 193. -/
def srstNFall (ns : Nat) (s : Chip) : Chip :=
  if !alive s then s
  else
    let open_ := decide (100 < ns ∧ ns < 1000)
    let acts := decide (1000 ≤ ns) || (open_ && Config.freeBool s.free)
    let s := if open_ then s.took else s
    if acts then srstBegin s else s

/-- SRST_END: 10 µs after SRST_N rises (R790, R905). -/
def srstEnd (s : Chip) : Chip :=
  if s.stop.srst then overAll passIdle { s with stop := { s.stop with srst := false } } dies else s

/-! ### PERST_N and the PCI Express link (R906) -/

/-- The link goes down. -/
def linkDown (s : Chip) : Chip := s.setReg 0 Rf.HOST_LINK_UP.key 0

/-- A remote access that a PCI Express link reset leaves: all but the host's own over that link. -/
def keptOnLink (a : RAcc) : Bool :=
  match a.init with
  | .host _ spi => spi
  | _ => true

/-- PERST_N_ASSERT (R172, R906): requests in flight on the link are discarded. -/
def perstNAssert (s : Chip) : Chip :=
  { linkDown s with
    perst := true
    msix := []
    pba := []
    remotes := s.remotes.filter keptOnLink }

/-- PERST_N_RELEASE: the link may train (R906). -/
def perstNRelease (s : Chip) : Chip := { s with perst := false }

/-- PCIE_LINK_UP: training ends, unless PERST_N is low or VHOST is out of range (R191, R906, R907). -/
def pcieLinkUp (width : BitVec 3) (speed : BitVec 2) (s : Chip) : Chip :=
  let w := width.toNat
  if !alive s || s.perst || !s.flag 0 Rf.PWR_RAIL_VHOST || (w != 1 && w != 2 && w != 4) || speed.toNat == 0 then s
  else ((s.setFld 0 Rf.HOST_LINK_WIDTH w).setFld 0 Rf.HOST_LINK_SPEED speed.toNat).setFld 0 Rf.HOST_LINK_UP 1

/-! ### The debug domain (R851, R852, R874, R881) -/

/-- The debug domain of every die is reset: the access that waits is abandoned. DEDUCED, log 188. -/
def debugReset (s : Chip) : Chip :=
  let s := overAll endHalts s dies
  let one := fun (x : DieSt) =>
    { x with regs := resetRegs (fun k => k / 1048576 != 0x16) (fun r => r == Rst.none) x.regs, dbg := none, tap := {} }
  let s := { s with die := s.die.map one }
  let s := (s.setFld 0 Rf.PLACKET_AUTH_STAT_AUTHED 0).setFld 0 Rf.PLACKET_AUTH_STAT_CHALVALID 0
  { s.setFld 0 Rf.PLACKET_AUTH_STAT_BUSY 0 with trace := {}, auth := none }

/-! ### The always-on domain (R474, R822, R825, R896, R930, R939) -/

/-- A bit of PWR.RAIL on die `d`. -/
def railBit (s : Chip) (d : Fin 4) (b : Nat) : Bool := bit (s.reg d Rf.PWR_RAIL_VCORE.key).toNat b

/-- Write it. -/
def setRail (s : Chip) (d : Fin 4) (b : Nat) (ok : Bool) : Chip :=
  s.setReg d Rf.PWR_RAIL_VCORE.key (putBits (s.reg d Rf.PWR_RAIL_VCORE.key) b 1 (b2n ok))

/-- The VBAT domain loses its contents (R825). -/
def vbatLost (s : Chip) : Chip :=
  { s with vbat := { vaonAbsent := s.vbat.vaonAbsent } }.upd 0 fun x =>
    { x with regs := resetRegs (fun k => k / 1048576 != 0x1A) (fun r => r == Rst.none) x.regs }

/-- The tamper registers of a die when VAON is lost: bit 0 of die 0 lies in the VBAT domain (R822). -/
def tamperLost (s : Chip) (d : Fin 4) : Chip :=
  let m := if d = 0 then 1 else 0
  let off := s.fld d Rf.TAMPER_STAT_OFFTRIP
  let s := s.setFld d Rf.TAMPER_EN_EN (Nat.land (s.fld d Rf.TAMPER_EN_EN) m)
  let s := s.setFld d Rf.TAMPER_STAT_ACTIVE (Nat.land (s.fld d Rf.TAMPER_STAT_ACTIVE) m)
  let s := s.setFld d Rf.TAMPER_STAT_TRIPPED (Nat.land (s.fld d Rf.TAMPER_STAT_TRIPPED) m)
  (s.setFld d Rf.TAMPER_STAT_HELD 0).setFld d Rf.TAMPER_STAT_OFFTRIP (if d = 0 then off else 0)

/-- VAON_LOSS; `vbat` says whether VBAT is present. -/
def vaonLoss (vbat : Bool) (s : Chip) : Chip :=
  let s := debugReset (holdReset s)
  let s := (aolEmpty { s with wdout := none, vbat := { s.vbat with vaonAbsent := true } }).setFld 0
    Rf.EVT_AOL_STAT_OVF 0
  let s := s.upd 0 fun x =>
    { x with regs := resetRegs (fun k => k / 1048576 != 0x09 && k != Rf.PWR_BOSTAT_COUNT.key) (fun r => r == Rst.none) x.regs }
  let s := overAll tamperLost { s with ilk := {} } dies
  let s := overAll (fun s d => setRail s d 2 false) s dies
  let s := setRail s 0 3 vbat
  if vbat then s else vbatLost s

/-- VAON_POWER_UP: the interlock takes its state from its inputs (R468, R474). -/
def vaonPowerUp (aSafe bSafe : Bool) (s : Chip) : Chip :=
  if !s.vbat.vaonAbsent then s
  else
    let s := overAll (fun s d => setRail s d 2 true) { s with vbat := { s.vbat with vaonAbsent := false }, ilk := {} } dies
    ilkMove (setSafe s aSafe bSafe) aSafe bSafe

/-! ### Brown-out (R908 to R910, R920 to R923, R927) -/

/-- BROWNOUT_DIP on die `d`: VAUX when `aux`, else VCORE, at `mv` mV for `ns` ns. -/
def brownoutDip (d : Fin 4) (aux : Bool) (ns mv : Nat) (s : Chip) : Chip :=
  if s.stop.held || s.stop.brownout then s
  else
    let always := decide (200 < ns ∧ mv < if aux then 1550 else 605)
    let never := decide (ns ≤ 120 ∨ (if aux then 1600 else 635) < mv)
    let open_ := !always && !never
    let acts := always || (open_ && Config.freeBool s.free)
    let s := if open_ then s.took else s
    if !acts then s
    else
      let s := s.addFld 0 Rf.PWR_BOSTAT_COUNT 1
      let s := (s.setFld 0 Rf.PWR_BOSTAT_DIE d.val).setFld 0 Rf.PWR_BOSTAT_RAIL (b2n aux)
      overAll dramLose (fatalStop s d 0x005 K.BROWNOUT (d.val + b2n aux * 4 + s.fld 0 Rf.PWR_BOSTAT_COUNT * 2 ^ 16)
        fun x => { x with brownout := true }) dies

/-- BROWNOUT_RESTART (R910, R920, R922). -/
def brownoutRestart (g2 : Bool) (bootsel : Fin 4) (found : List HemFinding) (s : Chip) : Chip :=
  if s.stop.brownout && !s.stop.held && !s.stop.thermal && coreRails s then pornStart g2 bootsel found s else s

/-! ### The end of the WDOUT pulse (R833, R924) -/

/-- WDOUT_PULSE_END: after a watchdog fatal stop the S9 resets as at PORN release, unless another stop or PORN holds it.
DEDUCED, log 180. -/
def wdoutPulseEnd (found : List HemFinding) (g2 : Bool) (bootsel : Fin 4) (s : Chip) : Chip :=
  if s.wdout ≠ some 0 then s
  else
    let s := { s with wdout := none }
    if !s.stop.wdog then s
    else if s.stop.held || s.stop.thermal || s.stop.brownout then { s with stop := { s.stop with wdog := false } }
    else pornStart g2 bootsel found s

/-! ### Rails (R631, R903, R907, R928) -/

/-- The rails of PWR.RAIL that die `d` has (R930). -/
def hasRail (d : Fin 4) (b : Nat) : Bool :=
  if b = 3 ∨ b = 10 ∨ b = 11 then d == 0 else if b = 8 ∨ b = 9 then decide (d.val ≤ 1) else decide (b < 16)

/-- The effects of a rail that leaves its range (R903, R907). VAON holds the S9 in reset. A dip of VCORE or VAUX of a
running S9 falls under R908, so that here it shows in PWR.RAIL alone, and bars a release (R903, R926; DEDUCED).
DEDUCED, log 20. -/
def railLost (s : Chip) (d : Fin 4) (b : Nat) : Chip :=
  if b = 2 then holdReset s
  else if b = 3 then (if s.vbat.vaonAbsent then vbatLost s else s)
  else if b = 4 ∨ b = 5 then
    if s.flag d Rf.DRAM_STAT_READY || s.flag d Rf.DRAM_CTL_EN then
      (((dramLose s d).setFld d Rf.DRAM_CTL_EN 0).setFld d Rf.DRAM_STAT_READY 0).setFld d Rf.DRAM_STAT_BUSY 0
    else s
  else if b = 6 ∨ b = 7 then lanesOff s d
  else if b = 11 then linkDown s
  else s

/-- The effects of a rail that returns to its range. -/
def railBack (s : Chip) (d : Fin 4) (b : Nat) : Chip :=
  if (b = 6 ∨ b = 7) && laneRails s d then lanesBack s d else s

/-- RAIL_CHANGE: VAUX and VAON are rails of the whole device. -/
def railChange (d : Fin 4) (b : Nat) (ok : Bool) (s : Chip) : Chip :=
  if !hasRail d b || railBit s d b == ok then s
  else
    let s := if b = 1 ∨ b = 2 then overAll (fun s e => setRail s e b ok) s dies else setRail s d b ok
    let s := s.upd d fun x =>
      { x with
        railAt := mapPut (fun _ => 0) x.railAt b x.tb.now
        railTold := mapPut (fun _ => 0) x.railTold b (if ok then mapGet (fun _ => 0) x.railTold b
          else clrBit (mapGet (fun _ => 0) x.railTold b) 1) }
    if ok then railBack s d b else railLost s d b

/-- The flags of rail `b`. -/
def railFlags (s : Chip) (d : Fin 4) (b : Nat) : Nat := mapGet (fun _ => 0) (s.d d).railTold b

/-- Replace them. -/
def setRailFlags (s : Chip) (d : Fin 4) (b v : Nat) : Chip :=
  s.upd d fun x => { x with railTold := mapPut (fun _ => 0) x.railTold b v }

/-- The tq since rail `b` changed. -/
def railAge (s : Chip) (d : Fin 4) (b : Nat) : Nat := (s.now d - mapGet (fun _ => 0) (s.d d).railAt b).toNat

/-- RAIL_LOW_TIMEOUT (R928). DEDUCED, log 196. -/
def railLowTimeout (d : Fin 4) (b : Nat) (s : Chip) : Chip :=
  whenUp s d fun s =>
    if b < 4 || !hasRail d b || railBit s d b || bit (railFlags s d b) 1 || decide (railAge s d b < 10000) then s
    else
      let s := setRailFlags s d b 3
      raise (s.setFld d Rf.PWR_RAILLOW_LOW (setBit (s.fld d Rf.PWR_RAILLOW_LOW) (b - 4))) d 0x005 K.RAILLOW 0 b

/-- RAIL_OK_TIMEOUT (R928). -/
def railOkTimeout (d : Fin 4) (b : Nat) (s : Chip) : Chip :=
  whenUp s d fun s =>
    if b < 4 || !hasRail d b || !railBit s d b || !bit (railFlags s d b) 0 || decide (railAge s d b < 1000000) then s
    else raise (setRailFlags s d b 0) d 0x005 K.RAILOK 0 b

/-! ### Meanings -/

/-- PORN_FALL. -/
def execPornFall (ns : Nat) (s : State) : Out :=
  act s fun s => pornFall ns s
/-- PORN_RELEASE. -/
def execPornRelease (g2 : Bool) (bootsel : Fin 4) (found : List HemFinding) (s : State) : Out :=
  act s fun s => pornRelease g2 bootsel found s
/-- SRST_N_FALL. -/
def execSrstNFall (ns : Nat) (s : State) : Out :=
  act s fun s => srstNFall ns s
/-- SRST_END. -/
def execSrstEnd (s : State) : Out :=
  act s fun s => srstEnd s
/-- PERST_N_ASSERT. -/
def execPerstNAssert (s : State) : Out :=
  act s fun s => perstNAssert s
/-- PERST_N_RELEASE. -/
def execPerstNRelease (s : State) : Out :=
  act s fun s => perstNRelease s
/-- PCIE_LINK_UP. -/
def execPcieLinkUp (width : BitVec 3) (speed : BitVec 2) (s : State) : Out :=
  act s fun s => pcieLinkUp width speed s
/-- DBG_PORN. -/
def execDbgPorn (s : State) : Out :=
  act s fun s => debugReset s
/-- VAON_POWER_UP. -/
def execVaonPowerUp (aSafe bSafe : Bool) (s : State) : Out :=
  act s fun s => vaonPowerUp aSafe bSafe s
/-- VAON_LOSS. -/
def execVaonLoss (vbat : Bool) (s : State) : Out :=
  act s fun s => vaonLoss vbat s
/-- BROWNOUT_DIP. -/
def execBrownoutDip (d : Fin 4) (aux : Bool) (ns mv : Nat) (s : State) : Out :=
  act s fun s => brownoutDip d aux ns mv s
/-- BROWNOUT_RESTART. -/
def execBrownoutRestart (found : List HemFinding) (g2 : Bool) (bootsel : Fin 4) (s : State) : Out :=
  act s fun s => brownoutRestart g2 bootsel found s
/-- WDOUT_PULSE_END. -/
def execWdoutPulseEnd (found : List HemFinding) (g2 : Bool) (bootsel : Fin 4) (s : State) : Out :=
  act s fun s => wdoutPulseEnd found g2 bootsel s
/-- RAIL_CHANGE. DESIGN CHOICE, log 209. -/
def execRailChange (d : Fin 4) (bit : Fin 16) (ok : Bool) (s : State) : Out :=
  act s fun s => railChange d bit.val ok s
/-- RAIL_LOW_TIMEOUT. -/
def execRailLowTimeout (d : Fin 4) (bit : Fin 16) (s : State) : Out :=
  act s fun s => railLowTimeout d bit.val s
/-- RAIL_OK_TIMEOUT. -/
def execRailOkTimeout (d : Fin 4) (bit : Fin 16) (s : State) : Out :=
  act s fun s => railOkTimeout d bit.val s

end Sys2Proof.Machine
end

