-- ==== Sys2Proof/Machine/Rentik.lean ====
section
/-! DEFINITION. The meanings of the Rentik commands. Each instruction command is the issue, by cluster `c` of die `d`, of a
bundle that holds that one operation under guard `g`, with NOP in the other slots. -/

namespace Sys2Proof.Machine

/-- RENTIK_NOP. -/
def execRNop (d : Fin 4) (c : Fin 192) (s : State) : Out :=
  act s fun s => issue d c {} s

/-- LDV. -/
def execRLdv (d : Fin 4) (c : Fin 192) (g : Fin 8) (R : BitVec 7) (A : Fin 32) (K : BitVec 12) (s : State) : Out :=
  act s fun s => issue d c { mg := g.val, m := .ld false R.toNat A.val K.toInt } s

/-- LDVP. DEDUCED, log 59. -/
def execRLdvp (d : Fin 4) (c : Fin 192) (g : Fin 8) (R : BitVec 7) (A : Fin 32) (K : BitVec 12) (s : State) : Out :=
  act s fun s => issue d c { mg := g.val, m := .ld true R.toNat A.val K.toInt } s

/-- STV. -/
def execRStv (d : Fin 4) (c : Fin 192) (g : Fin 8) (R : BitVec 7) (A : Fin 32) (K : BitVec 12) (s : State) : Out :=
  act s fun s => issue d c { mg := g.val, m := .st false R.toNat A.val K.toInt } s

/-- STVP. -/
def execRStvp (d : Fin 4) (c : Fin 192) (g : Fin 8) (R : BitVec 7) (A : Fin 32) (K : BitVec 12) (s : State) : Out :=
  act s fun s => issue d c { mg := g.val, m := .st true R.toNat A.val K.toInt } s

/-- LDS. DEDUCED, log 61. -/
def execRLds (d : Fin 4) (c : Fin 192) (g : Fin 8) (R : Fin 32) (A : Fin 32) (K : BitVec 12) (s : State) : Out :=
  act s fun s => issue d c { mg := g.val, m := .lds R.val A.val K.toInt } s

/-- STS. -/
def execRSts (d : Fin 4) (c : Fin 192) (g : Fin 8) (R : Fin 32) (A : Fin 32) (K : BitVec 12) (s : State) : Out :=
  act s fun s => issue d c { mg := g.val, m := .sts R.val A.val K.toInt } s

/-- GETL. DEDUCED, log 60. -/
def execRGetl (d : Fin 4) (c : Fin 192) (g : Fin 8) (R : Fin 32) (X : BitVec 7) (L : Fin 16) (s : State) : Out :=
  act s fun s => issue d c { mg := g.val, m := .getl R.val X.toNat L.val } s

/-- PUTL. -/
def execRPutl (d : Fin 4) (c : Fin 192) (g : Fin 8) (R : BitVec 7) (A : Fin 32) (L : Fin 16) (s : State) : Out :=
  act s fun s => issue d c { mg := g.val, m := .putl R.toNat A.val L.val } s

/-- XLD. -/
def execRXld (d : Fin 4) (c : Fin 192) (g : Fin 8) (R : BitVec 7) (A : Fin 32) (F : Fin 4) (s : State) : Out :=
  act s fun s => issue d c { mg := g.val, m := .xld R.toNat A.val F.val } s

/-- XST. -/
def execRXst (d : Fin 4) (c : Fin 192) (g : Fin 8) (R : BitVec 7) (A : Fin 32) (F : Fin 4) (s : State) : Out :=
  act s fun s => issue d c { mg := g.val, m := .xst R.toNat A.val F.val } s

/-- FENCE. -/
def execRFence (d : Fin 4) (c : Fin 192) (g : Fin 8) (K : Fin 8) (s : State) : Out :=
  act s fun s => issue d c { mg := g.val, m := .fence K.val } s

/-- MAC. -/
def execRMac (d : Fin 4) (c : Fin 192) (g : Fin 8) (A : Fin 8) (X : BitVec 7) (Y : BitVec 7) (s : State) : Out :=
  act s fun s => issue d c { v0g := g.val, v0 := .mac false false false none A.val X.toNat Y.toNat } s

/-- MACZ. -/
def execRMacz (d : Fin 4) (c : Fin 192) (g : Fin 8) (A : Fin 8) (X : BitVec 7) (Y : BitVec 7) (s : State) : Out :=
  act s fun s => issue d c { v0g := g.val, v0 := .mac false true false none A.val X.toNat Y.toNat } s

/-- MSU. -/
def execRMsu (d : Fin 4) (c : Fin 192) (g : Fin 8) (A : Fin 8) (X : BitVec 7) (Y : BitVec 7) (s : State) : Out :=
  act s fun s => issue d c { v0g := g.val, v0 := .mac true false false none A.val X.toNat Y.toNat } s

/-- MACB. -/
def execRMacb (d : Fin 4) (c : Fin 192) (g : Fin 8) (A : Fin 8) (X : BitVec 7) (Y : BitVec 7) (L : Fin 16) (s : State) : Out :=
  act s fun s => issue d c { v0g := g.val, v0 := .mac false false false (some L.val) A.val X.toNat Y.toNat } s

/-- MACBZ. -/
def execRMacbz (d : Fin 4) (c : Fin 192) (g : Fin 8) (A : Fin 8) (X : BitVec 7) (Y : BitVec 7) (L : Fin 16) (s : State) : Out :=
  act s fun s => issue d c { v0g := g.val, v0 := .mac false true false (some L.val) A.val X.toNat Y.toNat } s

/-- TAPM. -/
def execRTapm (d : Fin 4) (c : Fin 192) (g : Fin 8) (A : Fin 8) (X : BitVec 7) (Y : BitVec 7) (L : Fin 16) (s : State) : Out :=
  act s fun s => issue d c { v0g := g.val, v0 := .mac false false true (some L.val) A.val X.toNat Y.toNat } s

/-- TAPMZ. -/
def execRTapmz (d : Fin 4) (c : Fin 192) (g : Fin 8) (A : Fin 8) (X : BitVec 7) (Y : BitVec 7) (L : Fin 16) (s : State) : Out :=
  act s fun s => issue d c { v0g := g.val, v0 := .mac false true true (some L.val) A.val X.toNat Y.toNat } s

/-- AADD. -/
def execRAadd (d : Fin 4) (c : Fin 192) (g : Fin 8) (A : Fin 8) (X : BitVec 7) (s : State) : Out :=
  act s fun s => issue d c { v0g := g.val, v0 := .aadd A.val X.toNat } s

/-- ACLR. -/
def execRAclr (d : Fin 4) (c : Fin 192) (g : Fin 8) (A : Fin 8) (s : State) : Out :=
  act s fun s => issue d c { v0g := g.val, v0 := .aclr A.val } s

/-- V_ADD. -/
def execRVadd (d : Fin 4) (c : Fin 192) (g : Fin 8) (D : BitVec 7) (X : BitVec 7) (Y : BitVec 7) (s : State) : Out :=
  act s fun s => issue d c { v1g := g.val, v1 := .two .add D.toNat X.toNat Y.toNat } s

/-- V_SUB. -/
def execRVsub (d : Fin 4) (c : Fin 192) (g : Fin 8) (D : BitVec 7) (X : BitVec 7) (Y : BitVec 7) (s : State) : Out :=
  act s fun s => issue d c { v1g := g.val, v1 := .two .sub D.toNat X.toNat Y.toNat } s

/-- MIN. -/
def execRMin (d : Fin 4) (c : Fin 192) (g : Fin 8) (D : BitVec 7) (X : BitVec 7) (Y : BitVec 7) (s : State) : Out :=
  act s fun s => issue d c { v1g := g.val, v1 := .two .min D.toNat X.toNat Y.toNat } s

/-- MAX. -/
def execRMax (d : Fin 4) (c : Fin 192) (g : Fin 8) (D : BitVec 7) (X : BitVec 7) (Y : BitVec 7) (s : State) : Out :=
  act s fun s => issue d c { v1g := g.val, v1 := .two .max D.toNat X.toNat Y.toNat } s

/-- V_AND. -/
def execRVand (d : Fin 4) (c : Fin 192) (g : Fin 8) (D : BitVec 7) (X : BitVec 7) (Y : BitVec 7) (s : State) : Out :=
  act s fun s => issue d c { v1g := g.val, v1 := .two .and D.toNat X.toNat Y.toNat } s

/-- V_OR. -/
def execRVor (d : Fin 4) (c : Fin 192) (g : Fin 8) (D : BitVec 7) (X : BitVec 7) (Y : BitVec 7) (s : State) : Out :=
  act s fun s => issue d c { v1g := g.val, v1 := .two .or D.toNat X.toNat Y.toNat } s

/-- V_XOR. -/
def execRVxor (d : Fin 4) (c : Fin 192) (g : Fin 8) (D : BitVec 7) (X : BitVec 7) (Y : BitVec 7) (s : State) : Out :=
  act s fun s => issue d c { v1g := g.val, v1 := .two .xor D.toNat X.toNat Y.toNat } s

/-- ABS. -/
def execRAbs (d : Fin 4) (c : Fin 192) (g : Fin 8) (D : BitVec 7) (X : BitVec 7) (s : State) : Out :=
  act s fun s => issue d c { v1g := g.val, v1 := .abs D.toNat X.toNat } s

/-- SHLI. -/
def execRShli (d : Fin 4) (c : Fin 192) (g : Fin 8) (D : BitVec 7) (X : BitVec 7) (n : Fin 16) (s : State) : Out :=
  act s fun s => issue d c { v1g := g.val, v1 := .shift .shl D.toNat X.toNat n.val } s

/-- SRAI. -/
def execRSrai (d : Fin 4) (c : Fin 192) (g : Fin 8) (D : BitVec 7) (X : BitVec 7) (n : Fin 16) (s : State) : Out :=
  act s fun s => issue d c { v1g := g.val, v1 := .shift .sra D.toNat X.toNat n.val } s

/-- SRAR. -/
def execRSrar (d : Fin 4) (c : Fin 192) (g : Fin 8) (D : BitVec 7) (X : BitVec 7) (n : Fin 16) (s : State) : Out :=
  act s fun s => issue d c { v1g := g.val, v1 := .shift .srar D.toNat X.toNat n.val } s

/-- MOV. -/
def execRMov (d : Fin 4) (c : Fin 192) (g : Fin 8) (D : BitVec 7) (X : BitVec 7) (s : State) : Out :=
  act s fun s => issue d c { v1g := g.val, v1 := .mov D.toNat X.toNat } s

/-- BCST. -/
def execRBcst (d : Fin 4) (c : Fin 192) (g : Fin 8) (D : BitVec 7) (X : BitVec 7) (L : Fin 16) (s : State) : Out :=
  act s fun s => issue d c { v1g := g.val, v1 := .bcst D.toNat X.toNat L.val } s

/-- SPLAT. -/
def execRSplat (d : Fin 4) (c : Fin 192) (g : Fin 8) (D : BitVec 7) (S : Fin 32) (s : State) : Out :=
  act s fun s => issue d c { v1g := g.val, v1 := .splat D.toNat S.val } s

/-- CLT. -/
def execRClt (d : Fin 4) (c : Fin 192) (g : Fin 8) (E : Fin 8) (X : BitVec 7) (Y : BitVec 7) (s : State) : Out :=
  act s fun s => issue d c { v1g := g.val, v1 := .cmp .lt E.val X.toNat Y.toNat } s

/-- CEQ. -/
def execRCeq (d : Fin 4) (c : Fin 192) (g : Fin 8) (E : Fin 8) (X : BitVec 7) (Y : BitVec 7) (s : State) : Out :=
  act s fun s => issue d c { v1g := g.val, v1 := .cmp .eq E.val X.toNat Y.toNat } s

/-- CMK. -/
def execRCmk (d : Fin 4) (c : Fin 192) (g : Fin 8) (E : Fin 8) (X : BitVec 7) (s : State) : Out :=
  act s fun s => issue d c { v1g := g.val, v1 := .cmp .mk E.val X.toNat X.toNat } s

/-- ACCN. -/
def execRAccn (d : Fin 4) (c : Fin 192) (g : Fin 8) (D : BitVec 7) (E : Fin 8) (SH : Fin 64) (s : State) : Out :=
  act s fun s => issue d c { v1g := g.val, v1 := .accn D.toNat E.val SH.val } s

/-- ACCC. -/
def execRAccc (d : Fin 4) (c : Fin 192) (g : Fin 8) (D : BitVec 7) (E : Fin 8) (s : State) : Out :=
  act s fun s => issue d c { v1g := g.val, v1 := .accc D.toNat E.val } s

/-- DIVS. -/
def execRDivs (d : Fin 4) (c : Fin 192) (g : Fin 8) (E : Fin 8) (X : BitVec 7) (Y : BitVec 7) (first : Bool) (s : State) : Out :=
  act s fun s => issue d c { v1g := g.val, v1 := .divs E.val X.toNat Y.toNat first } s

/-- DIVF. -/
def execRDivf (d : Fin 4) (c : Fin 192) (g : Fin 8) (D : BitVec 7) (E : Fin 8) (X : BitVec 7) (Y : BitVec 7) (s : State) : Out :=
  act s fun s => issue d c { v1g := g.val, v1 := .divf D.toNat E.val X.toNat Y.toNat } s

/-- S_ADD. -/
def execRSadd (d : Fin 4) (c : Fin 192) (g : Fin 8) (D : Fin 32) (A : Fin 32) (B : Fin 32) (s : State) : Out :=
  act s fun s => issue d c { sg := g.val, sop := .alu .add D.val A.val B.val } s

/-- S_SUB. -/
def execRSsub (d : Fin 4) (c : Fin 192) (g : Fin 8) (D : Fin 32) (A : Fin 32) (B : Fin 32) (s : State) : Out :=
  act s fun s => issue d c { sg := g.val, sop := .alu .sub D.val A.val B.val } s

/-- S_AND. -/
def execRSand (d : Fin 4) (c : Fin 192) (g : Fin 8) (D : Fin 32) (A : Fin 32) (B : Fin 32) (s : State) : Out :=
  act s fun s => issue d c { sg := g.val, sop := .alu .and D.val A.val B.val } s

/-- S_OR. -/
def execRSor (d : Fin 4) (c : Fin 192) (g : Fin 8) (D : Fin 32) (A : Fin 32) (B : Fin 32) (s : State) : Out :=
  act s fun s => issue d c { sg := g.val, sop := .alu .or D.val A.val B.val } s

/-- S_XOR. -/
def execRSxor (d : Fin 4) (c : Fin 192) (g : Fin 8) (D : Fin 32) (A : Fin 32) (B : Fin 32) (s : State) : Out :=
  act s fun s => issue d c { sg := g.val, sop := .alu .xor D.val A.val B.val } s

/-- S_SHL. -/
def execRSshl (d : Fin 4) (c : Fin 192) (g : Fin 8) (D : Fin 32) (A : Fin 32) (B : Fin 32) (s : State) : Out :=
  act s fun s => issue d c { sg := g.val, sop := .alu .shl D.val A.val B.val } s

/-- S_SHR. -/
def execRSshr (d : Fin 4) (c : Fin 192) (g : Fin 8) (D : Fin 32) (A : Fin 32) (B : Fin 32) (s : State) : Out :=
  act s fun s => issue d c { sg := g.val, sop := .alu .shr D.val A.val B.val } s

/-- S_ADDI. -/
def execRSaddi (d : Fin 4) (c : Fin 192) (g : Fin 8) (D : Fin 32) (A : Fin 32) (K : BitVec 14) (s : State) : Out :=
  act s fun s => issue d c { sg := g.val, sop := .addi D.val A.val K.toInt } s

/-- LI. -/
def execRLi (d : Fin 4) (c : Fin 192) (g : Fin 8) (D : Fin 32) (K : BitVec 19) (s : State) : Out :=
  act s fun s => issue d c { sg := g.val, sop := .li D.val K.toInt } s

/-- LIH. -/
def execRLih (d : Fin 4) (c : Fin 192) (g : Fin 8) (D : Fin 32) (K : BitVec 14) (s : State) : Out :=
  act s fun s => issue d c { sg := g.val, sop := .lih D.val K.toNat } s

/-- SLT. -/
def execRSlt (d : Fin 4) (c : Fin 192) (g : Fin 8) (D : Fin 8) (A : Fin 32) (B : Fin 32) (s : State) : Out :=
  act s fun s => issue d c { sg := g.val, sop := .slt D.val A.val B.val } s

/-- SEQ. -/
def execRSeq (d : Fin 4) (c : Fin 192) (g : Fin 8) (D : Fin 8) (A : Fin 32) (B : Fin 32) (s : State) : Out :=
  act s fun s => issue d c { sg := g.val, sop := .seq D.val A.val B.val } s

/-- SPRED. -/
def execRSpred (d : Fin 4) (c : Fin 192) (g : Fin 8) (D : Fin 8) (K : BitVec 16) (s : State) : Out :=
  act s fun s => issue d c { sg := g.val, sop := .spred D.val K.toNat } s

/-- BR. -/
def execRBr (d : Fin 4) (c : Fin 192) (g : Fin 8) (T : BitVec 12) (s : State) : Out :=
  act s fun s => issue d c { sg := g.val, sop := .br T.toNat } s

/-- BZ. -/
def execRBz (d : Fin 4) (c : Fin 192) (g : Fin 8) (A : Fin 32) (T : BitVec 12) (s : State) : Out :=
  act s fun s => issue d c { sg := g.val, sop := .bz A.val T.toNat } s

/-- BNZ. -/
def execRBnz (d : Fin 4) (c : Fin 192) (g : Fin 8) (A : Fin 32) (T : BitVec 12) (s : State) : Out :=
  act s fun s => issue d c { sg := g.val, sop := .bnz A.val T.toNat } s

/-- LOOP. -/
def execRLoop (d : Fin 4) (c : Fin 192) (g : Fin 8) (A : Fin 32) (T : BitVec 12) (s : State) : Out :=
  act s fun s => issue d c { sg := g.val, sop := .loop A.val T.toNat } s

/-- LOOPW. -/
def execRLoopw (d : Fin 4) (c : Fin 192) (g : Fin 8) (A : Fin 32) (T : BitVec 12) (s : State) : Out :=
  act s fun s => issue d c { sg := g.val, sop := .loopw A.val T.toNat } s

/-- SETWB. -/
def execRSetwb (d : Fin 4) (c : Fin 192) (g : Fin 8) (K : BitVec 6) (s : State) : Out :=
  act s fun s => issue d c { sg := g.val, sop := .setwb K.toNat } s

/-- MODE. -/
def execRMode (d : Fin 4) (c : Fin 192) (g : Fin 8) (K : Bool) (s : State) : Out :=
  act s fun s => issue d c { sg := g.val, sop := .mode K } s

/-- S_RDT. -/
def execRSrdt (d : Fin 4) (c : Fin 192) (g : Fin 8) (D : Fin 32) (K : Fin 4) (s : State) : Out :=
  act s fun s => issue d c { sg := g.val, sop := .rdt D.val K.val } s

/-- S_STIM. -/
def execRSstim (d : Fin 4) (c : Fin 192) (g : Fin 8) (A : Fin 32) (K : Fin 32) (s : State) : Out :=
  act s fun s => issue d c { sg := g.val, sop := .stim A.val K.val } s

/-- DONE. -/
def execRDone (d : Fin 4) (c : Fin 192) (g : Fin 8) (s : State) : Out :=
  act s fun s => issue d c { sg := g.val, sop := .done } s

/-- ILOAD_CTL_WRITE (R428, R429). -/
def execIloadCtlWrite (t : Fin 256) (d : Fin 4) (v : Word) (s : State) : Out :=
  act s fun s => whenGranted s d t Rf.RENTIK_ILOAD_CTL_FIRST fun s => iloadCtl s d v

/-- ILOAD_DATA_WRITE (R428, R429). -/
def execIloadDataWrite (t : Fin 256) (d : Fin 4) (v : Word) (s : State) : Out :=
  act s fun s => whenGranted s d t Rf.RENTIK_ILOAD_DATA_DATA fun s => iloadData s d v

/-- X_ACCESS_COMPLETE. -/
def execXAccessComplete (d : Fin 4) (c : Fin 192) (i : Nat) (s : State) : Out :=
  act s fun s => xAccessComplete d c i s

end Sys2Proof.Machine
end

