-- ==== Sys2Proof/Machine/Dispatch.lean ====
section
/-! DEFINITION. The dispatch: one arm per command of the table, each one direct call of that command's meaning. -/

namespace Sys2Proof.Machine

/-- The effect of a command on everything but the queue. -/
def exec (i : Instr) (s : State) : Host.Outcome State Fault Refusal :=
  match i with
  | .cSync => Sys2Proof.Machine.execCSync s
  | .cDie d => Sys2Proof.Machine.execCDie d s
  | .cFrameaddr frame => Sys2Proof.Machine.execCFrameaddr frame s
  | .cFramewrite N cmp data => Sys2Proof.Machine.execCFramewrite N cmp data s
  | .cRegwrite unit off4 v => Sys2Proof.Machine.execCRegwrite unit off4 v s
  | .cRegionbegin r first last => Sys2Proof.Machine.execCRegionbegin r first last s
  | .cRegionend r => Sys2Proof.Machine.execCRegionend r s
  | .cCheck crc => Sys2Proof.Machine.execCCheck crc s
  | .cWait us => Sys2Proof.Machine.execCWait us s
  | .cWaitPoll us unit off4 mask v => Sys2Proof.Machine.execCWaitPoll us unit off4 mask v s
  | .cWaitRequire us unit off4 mask v => Sys2Proof.Machine.execCWaitRequire us unit off4 mask v s
  | .cImageid lo hi => Sys2Proof.Machine.execCImageid lo hi s
  | .cLoadmem region N cmp lane data => Sys2Proof.Machine.execCLoadmem region N cmp lane data s
  | .cLoadcodeRentik set image => Sys2Proof.Machine.execCLoadcodeRentik set image s
  | .cLoadcodeYoke addr words => Sys2Proof.Machine.execCLoadcodeYoke addr words s
  | .cEnd => Sys2Proof.Machine.execCEnd s
  | .pornFall ns => Sys2Proof.Machine.execPornFall ns s
  | .pornRelease g2 bootsel found => Sys2Proof.Machine.execPornRelease g2 bootsel found s
  | .srstNFall ns => Sys2Proof.Machine.execSrstNFall ns s
  | .srstEnd => Sys2Proof.Machine.execSrstEnd s
  | .perstNAssert => Sys2Proof.Machine.execPerstNAssert s
  | .dbgPorn => Sys2Proof.Machine.execDbgPorn s
  | .vaonPowerUp aSafe bSafe => Sys2Proof.Machine.execVaonPowerUp aSafe bSafe s
  | .registerWrite a bytes v => Sys2Proof.Machine.execRegisterWrite a bytes v s
  | .sysCompatWrite t d v => Sys2Proof.Machine.execSysCompatWrite t d v s
  | .sysGrantWrite t d n v => Sys2Proof.Machine.execSysGrantWrite t d n v s
  | .timeExchange d grp t0 => Sys2Proof.Machine.execTimeExchange d grp t0 s
  | .tbrefHoldover => Sys2Proof.Machine.execTbrefHoldover s
  | .tbrefLock => Sys2Proof.Machine.execTbrefLock s
  | .tickStart d fec => Sys2Proof.Machine.execTickStart d fec s
  | .acquireEnd d => Sys2Proof.Machine.execAcquireEnd d s
  | .stitchStart d => Sys2Proof.Machine.execStitchStart d s
  | .extendedStitchStart => Sys2Proof.Machine.execExtendedStitchStart s
  | .extensionDeadline d => Sys2Proof.Machine.execExtensionDeadline d s
  | .slackStart d => Sys2Proof.Machine.execSlackStart d s
  | .tickMark d m => Sys2Proof.Machine.execTickMark d m s
  | .tickPredictedStart d => Sys2Proof.Machine.execTickPredictedStart d s
  | .tickMarkTimeout d => Sys2Proof.Machine.execTickMarkTimeout d s
  | .tickApply t v => Sys2Proof.Machine.execTickApply t v s
  | .tickRunSet t => Sys2Proof.Machine.execTickRunSet t s
  | .tickRunClear t => Sys2Proof.Machine.execTickRunClear t s
  | .timeSet t v => Sys2Proof.Machine.execTimeSet t v s
  | .timeNowRead t d tick => Sys2Proof.Machine.execTimeNowRead t d tick s
  | .ringEnable t n v => Sys2Proof.Machine.execRingEnable t n v s
  | .eventRecord d => Sys2Proof.Machine.execEventRecord d s
  | .recordMergeRelease => Sys2Proof.Machine.execRecordMergeRelease s
  | .yNop d => Sys2Proof.Machine.execYNop d s
  | .yEnd d => Sys2Proof.Machine.execYEnd d s
  | .yJ d T => Sys2Proof.Machine.execYJ d T s
  | .yBeq d A B T => Sys2Proof.Machine.execYBeq d A B T s
  | .yBne d A B T => Sys2Proof.Machine.execYBne d A B T s
  | .yBlt d A B T => Sys2Proof.Machine.execYBlt d A B T s
  | .yBge d A B T => Sys2Proof.Machine.execYBge d A B T s
  | .yJl d D T => Sys2Proof.Machine.execYJl d D T s
  | .yJr d A => Sys2Proof.Machine.execYJr d A s
  | .yAdd d D A B => Sys2Proof.Machine.execYAdd d D A B s
  | .ySub d D A B => Sys2Proof.Machine.execYSub d D A B s
  | .yAnd d D A B => Sys2Proof.Machine.execYAnd d D A B s
  | .yOr d D A B => Sys2Proof.Machine.execYOr d D A B s
  | .yXor d D A B => Sys2Proof.Machine.execYXor d D A B s
  | .yShl d D A B => Sys2Proof.Machine.execYShl d D A B s
  | .yShr d D A B => Sys2Proof.Machine.execYShr d D A B s
  | .ySra d D A B => Sys2Proof.Machine.execYSra d D A B s
  | .yAddi d D A K => Sys2Proof.Machine.execYAddi d D A K s
  | .yOri d D A K => Sys2Proof.Machine.execYOri d D A K s
  | .yLui d D K => Sys2Proof.Machine.execYLui d D K s
  | .yAndi d D A K => Sys2Proof.Machine.execYAndi d D A K s
  | .yWaitt d A K => Sys2Proof.Machine.execYWaitt d A K s
  | .waittResume d => Sys2Proof.Machine.execWaittResume d s
  | .yRdt d D F => Sys2Proof.Machine.execYRdt d D F s
  | .yArm d A B F => Sys2Proof.Machine.execYArm d A B F s
  | .yFire d D A B => Sys2Proof.Machine.execYFire d D A B s
  | .yAcqst d D A => Sys2Proof.Machine.execYAcqst d D A s
  | .yDisp d D A B => Sys2Proof.Machine.execYDisp d D A B s
  | .yStitch d A => Sys2Proof.Machine.execYStitch d A s
  | .yUnpick d A => Sys2Proof.Machine.execYUnpick d A s
  | .yDraw d A B => Sys2Proof.Machine.execYDraw d A B s
  | .yLedger d D A F => Sys2Proof.Machine.execYLedger d D A F s
  | .yLdr d D A K => Sys2Proof.Machine.execYLdr d D A K s
  | .yStr d D A K => Sys2Proof.Machine.execYStr d D A K s
  | .yLdl d D A K => Sys2Proof.Machine.execYLdl d D A K s
  | .yStl d D A K => Sys2Proof.Machine.execYStl d D A K s
  | .ySend d A B => Sys2Proof.Machine.execYSend d A B s
  | .yRecv d D => Sys2Proof.Machine.execYRecv d D s
  | .svcWdog d A => Sys2Proof.Machine.execSvcWdog d A s
  | .svcEvent d A => Sys2Proof.Machine.execSvcEvent d A s
  | .svcNotify d A => Sys2Proof.Machine.execSvcNotify d A s
  | .svcIlkclr d A => Sys2Proof.Machine.execSvcIlkclr d A s
  | .yReload d A B => Sys2Proof.Machine.execYReload d A B s
  | .yokeIllegalOpcode d => Sys2Proof.Machine.execYokeIllegalOpcode d s
  | .mailboxMessage d => Sys2Proof.Machine.execMailboxMessage d s
  | .remoteReadRequest id => Sys2Proof.Machine.execRemoteReadRequest id s
  | .remoteWrite id => Sys2Proof.Machine.execRemoteWrite id s
  | .readResponse id => Sys2Proof.Machine.execReadResponse id s
  | .remoteAccessTimeout id => Sys2Proof.Machine.execRemoteAccessTimeout id s
  | .yokeImemWrite t d n v => Sys2Proof.Machine.execYokeImemWrite t d n v s
  | .yokeRtoWrite t v => Sys2Proof.Machine.execYokeRtoWrite t v s
  | .rdValidWrite t d n v => Sys2Proof.Machine.execRdValidWrite t d n v s
  | .sqTailWrite t v => Sys2Proof.Machine.execSqTailWrite t v s
  | .cqHeadWrite t v => Sys2Proof.Machine.execCqHeadWrite t v s
  | .queueEnable t cq v => Sys2Proof.Machine.execQueueEnable t cq v s
  | .commandFetch t desc => Sys2Proof.Machine.execCommandFetch t desc s
  | .cmdNop t => Sys2Proof.Machine.execCmdNop t s
  | .cmdRun t => Sys2Proof.Machine.execCmdRun t s
  | .cmdRecipe t block => Sys2Proof.Machine.execCmdRecipe t block s
  | .cmdRecipeStop t => Sys2Proof.Machine.execCmdRecipeStop t s
  | .cmdRecipeUpdate t block => Sys2Proof.Machine.execCmdRecipeUpdate t block s
  | .cmdMove t => Sys2Proof.Machine.execCmdMove t s
  | .completionWrite t => Sys2Proof.Machine.execCompletionWrite t s
  | .hostWdogService t v => Sys2Proof.Machine.execHostWdogService t v s
  | .hostLaneRead off bytes => Sys2Proof.Machine.execHostLaneRead off bytes s
  | .hostLaneWrite off data => Sys2Proof.Machine.execHostLaneWrite off data s
  | .hspiWrite off v => Sys2Proof.Machine.execHspiWrite off v s
  | .hspiRead off => Sys2Proof.Machine.execHspiRead off s
  | .hspiStatus => Sys2Proof.Machine.execHspiStatus s
  | .smbSendByte t v => Sys2Proof.Machine.execSmbSendByte t v s
  | .smbReceiveByte t v => Sys2Proof.Machine.execSmbReceiveByte t v s
  | .smbWriteByte t v => Sys2Proof.Machine.execSmbWriteByte t v s
  | .smbReadByte t v => Sys2Proof.Machine.execSmbReadByte t v s
  | .smbWriteWord t v => Sys2Proof.Machine.execSmbWriteWord t v s
  | .smbReadWord t v => Sys2Proof.Machine.execSmbReadWord t v s
  | .smbBlockWrite t v => Sys2Proof.Machine.execSmbBlockWrite t v s
  | .smbBlockRead t v => Sys2Proof.Machine.execSmbBlockRead t v s
  | .smbTransactionEnd nack pecerr data => Sys2Proof.Machine.execSmbTransactionEnd nack pecerr data s
  | .smbTimeout => Sys2Proof.Machine.execSmbTimeout s
  | .energySample d ch => Sys2Proof.Machine.execEnergySample d ch s
  | .energyTotal d => Sys2Proof.Machine.execEnergyTotal d s
  | .energyReportTimer d => Sys2Proof.Machine.execEnergyReportTimer d s
  | .resvHiWrite t v => Sys2Proof.Machine.execResvHiWrite t v s
  | .resvAdjWrite t v => Sys2Proof.Machine.execResvAdjWrite t v s
  | .dieCap d => Sys2Proof.Machine.execDieCap d s
  | .capWindowEnd d => Sys2Proof.Machine.execCapWindowEnd d s
  | .sensorUpdate d temps => Sys2Proof.Machine.execSensorUpdate d temps s
  | .thermalStep d => Sys2Proof.Machine.execThermalStep d s
  | .thermalTrip d junction => Sys2Proof.Machine.execThermalTrip d junction s
  | .basteReport d => Sys2Proof.Machine.execBasteReport d s
  | .basteReportMsg d => Sys2Proof.Machine.execBasteReportMsg d s
  | .basteOutcomeSend => Sys2Proof.Machine.execBasteOutcomeSend s
  | .basteReportTimeout => Sys2Proof.Machine.execBasteReportTimeout s
  | .basteOutcome d => Sys2Proof.Machine.execBasteOutcome d s
  | .basteApply d => Sys2Proof.Machine.execBasteApply d s
  | .basteDrainEntry d => Sys2Proof.Machine.execBasteDrainEntry d s
  | .shadowWriteback d bad => Sys2Proof.Machine.execShadowWriteback d bad s
  | .pllEnable t d k v => Sys2Proof.Machine.execPllEnable t d k v s
  | .pllFracWrite t d k v => Sys2Proof.Machine.execPllFracWrite t d k v s
  | .pllLock d k => Sys2Proof.Machine.execPllLock d k s
  | .pllUnlock d k => Sys2Proof.Machine.execPllUnlock d k s
  | .jcSourceLoss d j => Sys2Proof.Machine.execJcSourceLoss d j s
  | .ckinMeasure d k khz => Sys2Proof.Machine.execCkinMeasure d k khz s
  | .ckinLost d k quiet => Sys2Proof.Machine.execCkinLost d k quiet s
  | .gselWrite t d g v => Sys2Proof.Machine.execGselWrite t d g v s
  | .clockSwitchComplete d g => Sys2Proof.Machine.execClockSwitchComplete d g s
  | .fabricResetRelease d g => Sys2Proof.Machine.execFabricResetRelease d g s
  | .regionResetWrite t d r v => Sys2Proof.Machine.execRegionResetWrite t d r v s
  | .regionDrained d => Sys2Proof.Machine.execRegionDrained d s
  | .reloadFramesDone d => Sys2Proof.Machine.execReloadFramesDone d s
  | .regionIsolateClear d => Sys2Proof.Machine.execRegionIsolateClear d s
  | .sportRequest d p wr lane en data => Sys2Proof.Machine.execSportRequest d p wr lane en data s
  | .sportResponse d p => Sys2Proof.Machine.execSportResponse d p s
  | .dportRequest d q wr addr en data => Sys2Proof.Machine.execDportRequest d q wr addr en data s
  | .dportResponse d q => Sys2Proof.Machine.execDportResponse d q s
  | .bmemPortAccess d b portB wr word en data => Sys2Proof.Machine.execBmemPortAccess d b portB wr word en data s
  | .bmemFifoWrite d b data => Sys2Proof.Machine.execBmemFifoWrite d b data s
  | .bmemFifoRead d b => Sys2Proof.Machine.execBmemFifoRead d b s
  | .bankReqWrite t d k v => Sys2Proof.Machine.execBankReqWrite t d k v s
  | .bankStateDone d k => Sys2Proof.Machine.execBankStateDone d k s
  | .bankWakeDone d k => Sys2Proof.Machine.execBankWakeDone d k s
  | .ingestWrite d c sample severe sumRead => Sys2Proof.Machine.execIngestWrite d c sample severe sumRead s
  | .liningWipe t d => Sys2Proof.Machine.execLiningWipe t d s
  | .liningWipeDone d => Sys2Proof.Machine.execLiningWipeDone d s
  | .moverGo t d m v => Sys2Proof.Machine.execMoverGo t d m v s
  | .moverComplete d m data => Sys2Proof.Machine.execMoverComplete d m data s
  | .spadInjectWrite t d v => Sys2Proof.Machine.execSpadInjectWrite t d v s
  | .bmemInjectWrite t d v => Sys2Proof.Machine.execBmemInjectWrite t d v s
  | .rNop d c => Sys2Proof.Machine.execRNop d c s
  | .rLdv d c g R A K => Sys2Proof.Machine.execRLdv d c g R A K s
  | .rLdvp d c g R A K => Sys2Proof.Machine.execRLdvp d c g R A K s
  | .rStv d c g R A K => Sys2Proof.Machine.execRStv d c g R A K s
  | .rStvp d c g R A K => Sys2Proof.Machine.execRStvp d c g R A K s
  | .rLds d c g R A K => Sys2Proof.Machine.execRLds d c g R A K s
  | .rSts d c g R A K => Sys2Proof.Machine.execRSts d c g R A K s
  | .rGetl d c g R X L => Sys2Proof.Machine.execRGetl d c g R X L s
  | .rPutl d c g R A L => Sys2Proof.Machine.execRPutl d c g R A L s
  | .rXld d c g R A F => Sys2Proof.Machine.execRXld d c g R A F s
  | .rXst d c g R A F => Sys2Proof.Machine.execRXst d c g R A F s
  | .rFence d c g K => Sys2Proof.Machine.execRFence d c g K s
  | .rMac d c g A X Y => Sys2Proof.Machine.execRMac d c g A X Y s
  | .rMacz d c g A X Y => Sys2Proof.Machine.execRMacz d c g A X Y s
  | .rMsu d c g A X Y => Sys2Proof.Machine.execRMsu d c g A X Y s
  | .rMacb d c g A X Y L => Sys2Proof.Machine.execRMacb d c g A X Y L s
  | .rMacbz d c g A X Y L => Sys2Proof.Machine.execRMacbz d c g A X Y L s
  | .rTapm d c g A X Y L => Sys2Proof.Machine.execRTapm d c g A X Y L s
  | .rTapmz d c g A X Y L => Sys2Proof.Machine.execRTapmz d c g A X Y L s
  | .rAadd d c g A X => Sys2Proof.Machine.execRAadd d c g A X s
  | .rAclr d c g A => Sys2Proof.Machine.execRAclr d c g A s
  | .rVadd d c g D X Y => Sys2Proof.Machine.execRVadd d c g D X Y s
  | .rVsub d c g D X Y => Sys2Proof.Machine.execRVsub d c g D X Y s
  | .rMin d c g D X Y => Sys2Proof.Machine.execRMin d c g D X Y s
  | .rMax d c g D X Y => Sys2Proof.Machine.execRMax d c g D X Y s
  | .rAbs d c g D X => Sys2Proof.Machine.execRAbs d c g D X s
  | .rVand d c g D X Y => Sys2Proof.Machine.execRVand d c g D X Y s
  | .rVor d c g D X Y => Sys2Proof.Machine.execRVor d c g D X Y s
  | .rVxor d c g D X Y => Sys2Proof.Machine.execRVxor d c g D X Y s
  | .rShli d c g D X n => Sys2Proof.Machine.execRShli d c g D X n s
  | .rSrai d c g D X n => Sys2Proof.Machine.execRSrai d c g D X n s
  | .rSrar d c g D X n => Sys2Proof.Machine.execRSrar d c g D X n s
  | .rMov d c g D X => Sys2Proof.Machine.execRMov d c g D X s
  | .rBcst d c g D X L => Sys2Proof.Machine.execRBcst d c g D X L s
  | .rSplat d c g D S => Sys2Proof.Machine.execRSplat d c g D S s
  | .rClt d c g E X Y => Sys2Proof.Machine.execRClt d c g E X Y s
  | .rCeq d c g E X Y => Sys2Proof.Machine.execRCeq d c g E X Y s
  | .rCmk d c g E X => Sys2Proof.Machine.execRCmk d c g E X s
  | .rAccn d c g D E SH => Sys2Proof.Machine.execRAccn d c g D E SH s
  | .rAccc d c g D E => Sys2Proof.Machine.execRAccc d c g D E s
  | .rDivs d c g E X Y first => Sys2Proof.Machine.execRDivs d c g E X Y first s
  | .rDivf d c g D E X Y => Sys2Proof.Machine.execRDivf d c g D E X Y s
  | .rSadd d c g D A B => Sys2Proof.Machine.execRSadd d c g D A B s
  | .rSsub d c g D A B => Sys2Proof.Machine.execRSsub d c g D A B s
  | .rSand d c g D A B => Sys2Proof.Machine.execRSand d c g D A B s
  | .rSor d c g D A B => Sys2Proof.Machine.execRSor d c g D A B s
  | .rSxor d c g D A B => Sys2Proof.Machine.execRSxor d c g D A B s
  | .rSshl d c g D A B => Sys2Proof.Machine.execRSshl d c g D A B s
  | .rSshr d c g D A B => Sys2Proof.Machine.execRSshr d c g D A B s
  | .rSaddi d c g D A K => Sys2Proof.Machine.execRSaddi d c g D A K s
  | .rLi d c g D K => Sys2Proof.Machine.execRLi d c g D K s
  | .rLih d c g D K => Sys2Proof.Machine.execRLih d c g D K s
  | .rSlt d c g D A B => Sys2Proof.Machine.execRSlt d c g D A B s
  | .rSeq d c g D A B => Sys2Proof.Machine.execRSeq d c g D A B s
  | .rSpred d c g D K => Sys2Proof.Machine.execRSpred d c g D K s
  | .rBr d c g T => Sys2Proof.Machine.execRBr d c g T s
  | .rBz d c g A T => Sys2Proof.Machine.execRBz d c g A T s
  | .rBnz d c g A T => Sys2Proof.Machine.execRBnz d c g A T s
  | .rLoop d c g A T => Sys2Proof.Machine.execRLoop d c g A T s
  | .rLoopw d c g A T => Sys2Proof.Machine.execRLoopw d c g A T s
  | .rSetwb d c g K => Sys2Proof.Machine.execRSetwb d c g K s
  | .rMode d c g K => Sys2Proof.Machine.execRMode d c g K s
  | .rSrdt d c g D K => Sys2Proof.Machine.execRSrdt d c g D K s
  | .rSstim d c g A K => Sys2Proof.Machine.execRSstim d c g A K s
  | .rDone d c g => Sys2Proof.Machine.execRDone d c g s
  | .iloadCtlWrite t d v => Sys2Proof.Machine.execIloadCtlWrite t d v s
  | .iloadDataWrite t d v => Sys2Proof.Machine.execIloadDataWrite t d v s
  | .acqCtlWrite t d v => Sys2Proof.Machine.execAcqCtlWrite t d v s
  | .converterReady d n => Sys2Proof.Machine.execConverterReady d n s
  | .captureDone d c => Sys2Proof.Machine.execCaptureDone d c s
  | .pulseEdge k => Sys2Proof.Machine.execPulseEdge k s
  | .pulseEnd k => Sys2Proof.Machine.execPulseEnd k s
  | .pmonEdge k at50 => Sys2Proof.Machine.execPmonEdge k at50 s
  | .pmonWindowExpire k => Sys2Proof.Machine.execPmonWindowExpire k s
  | .ilkSample a b => Sys2Proof.Machine.execIlkSample a b s
  | .ilkUnsafe chB ns => Sys2Proof.Machine.execIlkUnsafe chB ns s
  | .ilkDiscrepancyTimeout => Sys2Proof.Machine.execIlkDiscrepancyTimeout s
  | .ilkClearWrite t => Sys2Proof.Machine.execIlkClearWrite t s
  | .ilkTdWrite t v => Sys2Proof.Machine.execIlkTdWrite t v s
  | .psenseEnWrite t v => Sys2Proof.Machine.execPsenseEnWrite t v s
  | .psenseRecapture t v => Sys2Proof.Machine.execPsenseRecapture t v s
  | .psenseScan raws => Sys2Proof.Machine.execPsenseScan raws s
  | .psenseFrame => Sys2Proof.Machine.execPsenseFrame s
  | .pleatOutputEnd d bad => Sys2Proof.Machine.execPleatOutputEnd d bad s
  | .pleatSetEnable t d k v => Sys2Proof.Machine.execPleatSetEnable t d k v s
  | .pleatSetRestart t d k => Sys2Proof.Machine.execPleatSetRestart t d k s
  | .pleatJobGo t d j v => Sys2Proof.Machine.execPleatJobGo t d j v s
  | .pleatJobStart d bad => Sys2Proof.Machine.execPleatJobStart d bad s
  | .pleatJobEnd d => Sys2Proof.Machine.execPleatJobEnd d s
  | .laneReqWrite t d k v => Sys2Proof.Machine.execLaneReqWrite t d k v s
  | .laneApply t d k v lref0 lref1 => Sys2Proof.Machine.execLaneApply t d k v lref0 lref1 s
  | .laneStateDone d k => Sys2Proof.Machine.execLaneStateDone d k s
  | .laneDemand d k sd => Sys2Proof.Machine.execLaneDemand d k sd s
  | .laneLockLoss d k sdFell => Sys2Proof.Machine.execLaneLockLoss d k sdFell s
  | .lanePllUnlock d k => Sys2Proof.Machine.execLanePllUnlock d k s
  | .dfeAdapt d k accs => Sys2Proof.Machine.execDfeAdapt d k accs s
  | .dfeTapWrite t d k tap v => Sys2Proof.Machine.execDfeTapWrite t d k tap v s
  | .dfeReset t d k => Sys2Proof.Machine.execDfeReset t d k s
  | .dfeSnapshotRead t d k => Sys2Proof.Machine.execDfeSnapshotRead t d k s
  | .txfirWrite t d k v => Sys2Proof.Machine.execTxfirWrite t d k v s
  | .ctleWrite t d k v => Sys2Proof.Machine.execCtleWrite t d k v s
  | .prbsBitsRead t d k bits errs => Sys2Proof.Machine.execPrbsBitsRead t d k bits errs s
  | .eyeScanGo t d k v => Sys2Proof.Machine.execEyeScanGo t d k v s
  | .eyeScanDone d k errs => Sys2Proof.Machine.execEyeScanDone d k errs s
  | .pcsHiber d k => Sys2Proof.Machine.execPcsHiber d k s
  | .flowTxreqWrite t d f v => Sys2Proof.Machine.execFlowTxreqWrite t d f v s
  | .flowTxFrame d k => Sys2Proof.Machine.execFlowTxFrame d k s
  | .flowRxFrame d k f start stop data => Sys2Proof.Machine.execFlowRxFrame d k f start stop data s
  | .flowEnable t d f v => Sys2Proof.Machine.execFlowEnable t d f v s
  | .flowRvWrite t d f v => Sys2Proof.Machine.execFlowRvWrite t d f v s
  | .flowAliveWrite t d f v => Sys2Proof.Machine.execFlowAliveWrite t d f v s
  | .chkDataWrite t d c v => Sys2Proof.Machine.execChkDataWrite t d c v s
  | .chkRestart t d c => Sys2Proof.Machine.execChkRestart t d c s
  | .chkAlgWrite t d c v => Sys2Proof.Machine.execChkAlgWrite t d c v s
  | .dramRead d port off bytes errs => Sys2Proof.Machine.execDramRead d port off bytes errs s
  | .dramWrite d port off data => Sys2Proof.Machine.execDramWrite d port off data s
  | .mergeFlush d g errs => Sys2Proof.Machine.execMergeFlush d g errs s
  | .regulatorRefill d => Sys2Proof.Machine.execRegulatorRefill d s
  | .refreshDue d rank bank rtQueued => Sys2Proof.Machine.execRefreshDue d rank bank rtQueued s
  | .mr4Poll d c0 c1 => Sys2Proof.Machine.execMr4Poll d c0 c1 s
  | .retrainDue d ok rank => Sys2Proof.Machine.execRetrainDue d ok rank s
  | .patrolRead d errs => Sys2Proof.Machine.execPatrolRead d errs s
  | .dramInit t d => Sys2Proof.Machine.execDramInit t d s
  | .dramInitDone d ok rank => Sys2Proof.Machine.execDramInitDone d ok rank s
  | .dramClear t d => Sys2Proof.Machine.execDramClear t d s
  | .dramClearDone d => Sys2Proof.Machine.execDramClearDone d s
  | .dramFence t d => Sys2Proof.Machine.execDramFence t d s
  | .dramSelfRefresh t d => Sys2Proof.Machine.execDramSelfRefresh t d s
  | .dramSrExit d => Sys2Proof.Machine.execDramSrExit d s
  | .dramEnable t d => Sys2Proof.Machine.execDramEnable t d s
  | .dramMarkWrite t d v => Sys2Proof.Machine.execDramMarkWrite t d v s
  | .linkTrainingDone d n ok lat => Sys2Proof.Machine.execLinkTrainingDone d n ok lat s
  | .flitReceive d n m => Sys2Proof.Machine.execFlitReceive d n m s
  | .flitCrcFail d n => Sys2Proof.Machine.execFlitCrcFail d n s
  | .flitAck d n lack nak => Sys2Proof.Machine.execFlitAck d n lack nak s
  | .linkRetryTimeout d n => Sys2Proof.Machine.execLinkRetryTimeout d n s
  | .linkRetrain t d n => Sys2Proof.Machine.execLinkRetrain t d n s
  | .linkInject t d n => Sys2Proof.Machine.execLinkInject t d n s
  | .groupEnable t v => Sys2Proof.Machine.execGroupEnable t v s
  | .groupJoin t => Sys2Proof.Machine.execGroupJoin t s
  | .joinRequest p started image size => Sys2Proof.Machine.execJoinRequest p started image size s
  | .groupLeave t => Sys2Proof.Machine.execGroupLeave t s
  | .cfgLoadStart rec0 rec1 xspi8 wrOk => Sys2Proof.Machine.execCfgLoadStart rec0 rec1 xspi8 wrOk s
  | .cfgLoad t v => Sys2Proof.Machine.execCfgLoad t v s
  | .cfgDataWrite t v => Sys2Proof.Machine.execCfgDataWrite t v s
  | .cfgHeader hdr => Sys2Proof.Machine.execCfgHeader hdr s
  | .cfgChunk bytes => Sys2Proof.Machine.execCfgChunk bytes s
  | .cfgSourceLost quietMs => Sys2Proof.Machine.execCfgSourceLost quietMs s
  | .waitElapsed d => Sys2Proof.Machine.execWaitElapsed d s
  | .waitPollRead d => Sys2Proof.Machine.execWaitPollRead d s
  | .configForward d => Sys2Proof.Machine.execConfigForward d s
  | .cfgRelease => Sys2Proof.Machine.execCfgRelease s
  | .cfgFallback => Sys2Proof.Machine.execCfgFallback s
  | .darnerFrameCheck d flips => Sys2Proof.Machine.execDarnerFrameCheck d flips s
  | .darnerMemRead d e => Sys2Proof.Machine.execDarnerMemRead d e s
  | .darnerPassEnd d => Sys2Proof.Machine.execDarnerPassEnd d s
  | .flashRead t v => Sys2Proof.Machine.execFlashRead t v s
  | .flashProgram t v => Sys2Proof.Machine.execFlashProgram t v s
  | .flashErase4k t v => Sys2Proof.Machine.execFlashErase4k t v s
  | .flashErase64k t v => Sys2Proof.Machine.execFlashErase64k t v s
  | .flashOpDone ok data => Sys2Proof.Machine.execFlashOpDone ok data s
  | .lifecycleTransition t v => Sys2Proof.Machine.execLifecycleTransition t v s
  | .lcRowProgrammed ok => Sys2Proof.Machine.execLcRowProgrammed ok s
  | .hemProgram t d => Sys2Proof.Machine.execHemProgram t d s
  | .hemProgramDone d ok => Sys2Proof.Machine.execHemProgramDone d ok s
  | .tamperTrip d src ns => Sys2Proof.Machine.execTamperTrip d src ns s
  | .tamperEnWrite t d v => Sys2Proof.Machine.execTamperEnWrite t d v s
  | .bbkeyCommit t => Sys2Proof.Machine.execBbkeyCommit t s
  | .bbkeyErase t => Sys2Proof.Machine.execBbkeyErase t s
  | .tamperLogClear t => Sys2Proof.Machine.execTamperLogClear t s
  | .wdogEnable t d v => Sys2Proof.Machine.execWdogEnable t d v s
  | .wdogWindowOpen d => Sys2Proof.Machine.execWdogWindowOpen d s
  | .wdogExpire d => Sys2Proof.Machine.execWdogExpire d s
  | .wdoutPulseEnd found g2 bootsel => Sys2Proof.Machine.execWdoutPulseEnd found g2 bootsel s
  | .debugRead t d v => Sys2Proof.Machine.execDebugRead t d v s
  | .debugWrite t d v => Sys2Proof.Machine.execDebugWrite t d v s
  | .debugAccessDone d => Sys2Proof.Machine.execDebugAccessDone d s
  | .yokeHalt t d => Sys2Proof.Machine.execYokeHalt t d s
  | .yokeResume t d => Sys2Proof.Machine.execYokeResume t d s
  | .yokeStep t d => Sys2Proof.Machine.execYokeStep t d s
  | .clusterHalt t d v => Sys2Proof.Machine.execClusterHalt t d v s
  | .clusterResume t d v => Sys2Proof.Machine.execClusterResume t d v s
  | .clusterStep t d v => Sys2Proof.Machine.execClusterStep t d v s
  | .yregWrite t d n v => Sys2Proof.Machine.execYregWrite t d n v s
  | .clselRead t d v => Sys2Proof.Machine.execClselRead t d v s
  | .clselWrite t d v => Sys2Proof.Machine.execClselWrite t d v s
  | .authNewchal t => Sys2Proof.Machine.execAuthNewchal t s
  | .authGo t => Sys2Proof.Machine.execAuthGo t s
  | .authDone => Sys2Proof.Machine.execAuthDone s
  | .traceCtlWrite t v => Sys2Proof.Machine.execTraceCtlWrite t v s
  | .tapReset => Sys2Proof.Machine.execTapReset s
  | .tapExtest d => Sys2Proof.Machine.execTapExtest d s
  | .tapSample d pins => Sys2Proof.Machine.execTapSample d pins s
  | .tapIdcode d => Sys2Proof.Machine.execTapIdcode d s
  | .tapDbgaccRead d addr lane => Sys2Proof.Machine.execTapDbgaccRead d addr lane s
  | .tapDbgaccWrite d addr lane data => Sys2Proof.Machine.execTapDbgaccWrite d addr lane data s
  | .tapCfgdata d v => Sys2Proof.Machine.execTapCfgdata d v s
  | .tapHighz d => Sys2Proof.Machine.execTapHighz d s
  | .tapClamp d => Sys2Proof.Machine.execTapClamp d s
  | .tapBypass d => Sys2Proof.Machine.execTapBypass d s
  | .railChange d bit ok => Sys2Proof.Machine.execRailChange d bit ok s
  | .railLowTimeout d bit => Sys2Proof.Machine.execRailLowTimeout d bit s
  | .railOkTimeout d bit => Sys2Proof.Machine.execRailOkTimeout d bit s
  | .brownoutDip d aux ns mv => Sys2Proof.Machine.execBrownoutDip d aux ns mv s
  | .brownoutRestart found g2 bootsel => Sys2Proof.Machine.execBrownoutRestart found g2 bootsel s
  | .alarmClear t n v => Sys2Proof.Machine.execAlarmClear t n v s
  | .aolClear t => Sys2Proof.Machine.execAolClear t s
  | .tamperConditionEnd d src => Sys2Proof.Machine.execTamperConditionEnd d src s
  | .vaonLoss vbat => Sys2Proof.Machine.execVaonLoss vbat s
  | .perstNRelease => Sys2Proof.Machine.execPerstNRelease s
  | .pcieLinkUp width speed => Sys2Proof.Machine.execPcieLinkUp width speed s
  | .msixVectorUnmask v => Sys2Proof.Machine.execMsixVectorUnmask v s
  | .registerRead a bytes => Sys2Proof.Machine.execRegisterRead a bytes s
  | .laneCdrLock d k => Sys2Proof.Machine.execLaneCdrLock d k s
  | .lanePllRelock d k => Sys2Proof.Machine.execLanePllRelock d k s
  | .prbsCheckerLock d k lock bits errs => Sys2Proof.Machine.execPrbsCheckerLock d k lock bits errs s
  | .pcsBlockLock d k lock => Sys2Proof.Machine.execPcsBlockLock d k lock s
  | .tracePortSend => Sys2Proof.Machine.execTracePortSend s
  | .skippedTickMark => Sys2Proof.Machine.execSkippedTickMark s
  | .clusterQuiet d c => Sys2Proof.Machine.execClusterQuiet d c s
  | .xAccessComplete d c n => Sys2Proof.Machine.execXAccessComplete d c n s

end Sys2Proof.Machine
end

