-- ==== Sys2Proof/Machine/Idle.lean ====
section
/-! DEFINITION. What the block does in one tq in which no command waits: its clocks count, and what is due without a
command of its own happens (R57, R467, R825, R828, R832; R66, R88, R149 to R155, R167, R745). -/

namespace Sys2Proof.Machine

/-- Every running die's time base advances (R54, R57). DESIGN CHOICE, log 21. -/
def timeTq (s : Chip) : Chip :=
  if alive s then { s with die := s.die.map fun x => if x.stopped then x else { x with tb := slewTq x.tb } } else s

/-- VBTIME counts while VBAT or VAON is present (R825). -/
def vbatTq (s : Chip) : Chip :=
  if s.vbat.vaonAbsent && !railBit s 0 3 then s
  else
    let v := s.vbat
    { s with vbat := if v.part + 1 < 1000000000 then { v with part := v.part + 1 }
                     else { v with part := 0, seconds := v.seconds + 1 } }

/-- The WDOUT pulse runs (R832, R924). -/
def wdoutTq (s : Chip) : Chip :=
  if s.vbat.vaonAbsent then s else { s with wdout := s.wdout.map fun n => n - 1 }

/-- The clocks of the block after one more tq. -/
def clocksTq (s : Chip) : Chip := wdoutTq (vbatTq (ilkTq (wdogTq (timeTq s))))

/-- The tenants that hold host queues. -/
def hostTenants (s : Chip) : List (Fin 256) := s.hosts.map fun e => Fin.ofNat 256 e.1

/-- What a running die does of itself: its ROM scheduler acts, and a tick without a successor ends. -/
def dieDue (s : Chip) (d : Fin 4) : Chip := if up s d then tickEnds (recipesAct s d) d else s

/-- What is due without a command of its own. DESIGN CHOICE, log 22. -/
def dueNow (s : Chip) : Chip :=
  if alive s then
    let s := overAll dieDue s dies
    let s := masterMark (overAll settleCmds s (hostTenants s))
    if cfgLoading s && loadLost s then cfgFail s 0 15 else s
  else s

/-- One tq in which no command waits. DESIGN CHOICE, log 13. -/
def idle (s : Chip) : Chip := dueNow (clocksTq s)

end Sys2Proof.Machine
end

