-- ==== Sys2Proof/Machine/Pins.lean ====
section
/-! DEFINITION. The pins: the ball grid (R886 to R893), the boundary register (R915), and what the S9 does with each pin
in a state (R467, R703, R833, R871, R894 to R898, R907, R937). No command reads them: they are the outputs of a state. -/

namespace Sys2Proof.Machine

/-! ### Balls (R886 to R892) -/

/-- The supplies. -/
inductive Supply where
  | gnd | vaux | vaon | vbat | vddq | vdd2 | vlane | vlaneh | vadc | vadcl | vps | vhost
  | vcore (d : Nat)
  | vio (b : Nat)
  deriving DecidableEq, Repr

/-- The net of a ball. `n` marks the second ball of a pair: N, or C of a DRAM pair. -/
inductive Ball where
  | supply (v : Supply)
  | io (b i : Nat)
  | ltx (d k : Nat) (n : Bool)
  | lrx (d k : Nat) (n : Bool)
  | lref (d k : Nat) (n : Bool)
  | ddq (d b i : Nat)
  | ddqs (d b : Nat) (n : Bool)
  | ddmi (d b : Nat)
  | dck (d : Nat) (n : Bool)
  | dcke (d r : Nat)
  | dcs (d r : Nat)
  | dca (d i : Nat)
  | dreset (d : Nat)
  | dzq (d : Nat)
  | ckin (d k : Nat) (n : Bool)
  | htx (i : Nat) (n : Bool)
  | hrx (i : Nat) (n : Bool)
  | hrefclk (n : Bool)
  | tbref (n : Bool)
  | pulse (k : Nat) (n : Bool)
  | pmon (k : Nat) (n : Bool)
  | fadc (d c : Nat) (n : Bool)
  | sadc (d j : Nat)
  | porn | srstN | perstN | dbgPorn | g2mode
  | bootsel (i : Nat)
  | wdout | tamperN | alertN | cfgDone | cfgErr | ilkA | ilkB | lasenA | lasenB
  | hspiCsN | hspiSck | hspiMosi | hspiMiso | smbClk | smbDat
  | xspiCsN | xspiSck | xspiDqs | xspiResetN
  | xspiD (i : Nat)
  | traceClk
  | traceD (i : Nat)
  | tck | tms | tdi | tdo
  | psTx (i : Nat)
  | psRx (i : Nat)
  deriving DecidableEq, Repr

/-- The letters of row index `r`, 1 to 42 (R887). -/
def rowLetters (r : Nat) : String :=
  let one := ["A", "B", "C", "D", "E", "F", "G", "H", "J", "K", "L", "M", "N", "P", "T", "U", "V", "W", "Y"]
  if r ≤ 19 then one.getD (r - 1) "" else if r ≤ 38 then "A" ++ one.getD (r - 20) "" else "B" ++ one.getD (r - 39) ""

/-- The name of the ball at row index `r` and column `c` (R886). -/
def ballName (r c : Nat) : String := rowLetters r ++ toString c

/-- A supply ball. -/
def Supply.at (v : Supply) : Ball := .supply v

/-- The corner column of the I/O region of die `d` (R889). -/
def cornerBall (d r : Nat) : Ball :=
  let row : List Supply :=
    if d = 0 then [.vaon, .vaon, .vbat, .vps, .vps, .vhost]
    else if d = 1 then [.vadc, .vadc, .vadcl, .vadcl, .vaon, .gnd]
    else [.vaon, .vaon, .gnd, .gnd, .gnd, .gnd]
  (row.getD r .gnd).at

/-- Local row `r` and column `x` of bank `b` (R889). -/
def bankBall (b r x : Nat) : Ball :=
  if x = 2 then (if r % 2 = 0 then (Supply.vio b).at else Supply.gnd.at) else .io b (4 * r + if x < 2 then x else x - 1)

/-- The I/O region of die `d` (R889). -/
def ioBall (d row c : Nat) : Ball :=
  let r := if d < 2 then row - 1 else 42 - row
  if d % 2 = 0 then (if c = 1 then cornerBall d r else bankBall (4 * d + (c - 2) / 5) r ((c - 2) % 5))
  else if c = 42 then cornerBall d r else bankBall (4 * d + (c - 22) / 5) r ((c - 22) % 5)

/-- The lane region of die `d` (R890). -/
def laneBall (d row c : Nat) : Ball :=
  let u := if d < 2 then row - 7 else 36 - row
  let v := if d % 2 = 0 then c - 1 else 42 - c
  if u = 0 ∨ u = 12 ∨ u = 13 then (Supply.vcore d).at
  else if u ≤ 8 then
    if v = 0 ∨ v = 3 then Supply.gnd.at else if v < 3 then .ltx d (u - 1) (v == 2) else .lrx d (u - 1) (v == 5)
  else if u = 9 then
    if v = 0 ∨ v = 3 then Supply.gnd.at else if v < 3 then .lref d 0 (v == 2) else .lref d 1 (v == 5)
  else if u = 10 then Supply.vlane.at
  else if u = 11 then Supply.vlaneh.at
  else if v < 3 then Supply.vaux.at else Supply.vdd2.at

/-- The DRAM region of die `d` (R891). -/
def dramBall (d row c : Nat) : Ball :=
  let w := if d < 2 then row - 7 else 36 - row
  let x := if d % 2 = 0 then c - 7 else 36 - c
  if w ≤ 9 then
    if x = 0 ∨ x = 14 then Supply.gnd.at
    else if x ≤ 4 then .ddq d w (x - 1)
    else if x ≤ 6 then .ddqs d w (x == 6)
    else if x = 7 ∨ x = 13 then Supply.vddq.at
    else if x ≤ 11 then .ddq d w (x - 4)
    else .ddmi d w
  else if x ≤ 1 then .dck d (x == 1)
  else if x ≤ 3 then .dcke d (x - 2)
  else if x ≤ 5 then .dcs d (x - 4)
  else if x ≤ 11 then .dca d (x - 6)
  else if x = 12 then .dreset d
  else if x = 13 then .dzq d
  else Supply.gnd.at

/-- Balls 108 to 132 of the centre region (R892). -/
def controlBalls : List Ball :=
  [Ball.porn, Ball.srstN, Ball.perstN, Ball.dbgPorn, Ball.g2mode, Ball.bootsel 0, Ball.bootsel 1, Ball.wdout,
    Ball.tamperN, Ball.alertN, Ball.cfgDone, Ball.cfgErr, Ball.ilkA, Ball.ilkB, Ball.lasenA, Ball.lasenB,
    Ball.hspiCsN, Ball.hspiSck, Ball.hspiMosi, Ball.hspiMiso, Ball.smbClk, Ball.smbDat, Ball.xspiCsN, Ball.xspiSck,
    Ball.xspiDqs]

/-- The ball at position `p` of the centre region (R892). -/
def centreBall (p : Nat) : Ball :=
  let n := p % 2 == 1
  if p < 64 then .ckin (p / 16) (p % 16 / 2) n
  else if p < 72 then .htx ((p - 64) / 2) n
  else if p < 80 then .hrx ((p - 72) / 2) n
  else if p < 82 then .hrefclk n
  else if p < 84 then .tbref n
  else if p < 92 then .pulse ((p - 84) / 2) n
  else if p < 100 then .pmon ((p - 92) / 2) n
  else if p < 108 then .fadc ((p - 100) / 4) ((p - 100) % 4 / 2) n
  else if p < 133 then controlBalls.getD (p - 108) Supply.gnd.at
  else if p < 141 then .xspiD (p - 133)
  else if p = 141 then .xspiResetN
  else if p = 142 then .traceClk
  else if p < 151 then .traceD (p - 143)
  else if p < 155 then [Ball.tck, Ball.tms, Ball.tdi, Ball.tdo].getD (p - 151) Supply.gnd.at
  else if p < 179 then .psTx (p - 155)
  else if p < 219 then .psRx (p - 179)
  else if p < 235 then .sadc ((p - 219) / 8) ((p - 219) % 8)
  else if p < 237 then Supply.vadc.at
  else if p < 239 then Supply.vadcl.at
  else Supply.gnd.at

/-- The die on whose quarter of the grid a ball outside the centre region lies (R888). -/
def quarter (row c : Nat) : Nat := (if row ≤ 21 then 0 else 2) + if c ≤ 21 then 0 else 1

/-- The net of the ball at row index `row` and column `c` (R888). -/
def ballAt (row c : Nat) : Ball :=
  let d := quarter row c
  if row ≤ 6 ∨ 37 ≤ row then ioBall d row c
  else if c ≤ 6 ∨ 37 ≤ c then laneBall d row c
  else if 18 ≤ row ∧ row ≤ 25 then centreBall (30 * (row - 18) + (c - 7))
  else dramBall d row c

/-- The grid in ascending order of row index, then column. -/
def balls : List Ball := (range 1 42).flatMap fun row => (range 1 42).map fun c => ballAt row c

/-- The die that owns a signal (R300, R892); TCK and TMS reach every die. -/
def Ball.die : Ball → Nat
  | .io b _ => b / 4
  | .ltx d _ _ | .lrx d _ _ | .lref d _ _ | .ddq d _ _ | .ddqs d _ _ | .ddmi d _ | .dck d _ | .dcke d _ | .dcs d _
  | .dca d _ | .dreset d | .dzq d | .ckin d _ _ | .fadc d _ _ | .sadc d _ => d
  | .tdo => 3
  | _ => 0

/-! ### The boundary register (R915) -/

/-- What a boundary cell does. -/
inductive Cell where
  | input | output | enable | observe
  deriving DecidableEq, Repr

/-- The boundary cells of a ball, those of a pair on its first ball (R915). DEDUCED, log 208. -/
def Ball.cells : Ball → List Cell
  | .io _ _ | .ddq _ _ _ | .ddqs _ _ false | .ddmi _ _ | .xspiDqs | .xspiD _ | .smbClk | .smbDat =>
    [.input, .output, .enable]
  | .dck _ false | .dcke _ _ | .dcs _ _ | .dca _ _ | .dreset _ | .hspiMiso | .wdout | .alertN | .cfgDone | .cfgErr
  | .xspiCsN | .xspiSck | .xspiResetN | .traceClk | .traceD _ | .psTx _ => [.output, .enable]
  | .ckin _ _ false | .tbref false | .pmon _ false | .g2mode | .bootsel _ | .tamperN | .ilkA | .ilkB | .hspiCsN
  | .hspiSck | .hspiMosi => [.input]
  | .pulse _ false | .lasenA | .lasenB => [.observe]
  | _ => []

/-- The boundary register of die `d`, cell 0 first (R915). -/
def boundary (d : Nat) : List (Ball × Cell) :=
  (balls.filter fun b => b.die == d).flatMap fun b => b.cells.map fun c => (b, c)

/-- The value of a ball's cell `c` in the boundary register of its die. -/
def boundaryCell (s : Chip) (b : Ball) (c : Cell) : Bool :=
  (s.d (Fin.ofNat 4 b.die)).tap.cells.getD ((boundary b.die).findIdx fun x => x == (b, c)) false

/-! ### What the S9 does with a pin -/

/-- A pin is driven low or high, is an open-drain pin released, is high-impedance, carries what its unit or the image
gives it, or is none that the S9 drives. -/
inductive Drive where
  | low | high | released | highZ | unit | none
  deriving DecidableEq, Repr

/-- The bit of PWR.RAIL that shows the function rail of a pin (R889 to R891, R894, R930). -/
def Ball.rail : Ball → Option Nat
  | .io b _ => some (12 + b % 4)
  | .ltx _ _ _ | .lrx _ _ _ | .lref _ _ _ => some 6
  | .ddq _ _ _ | .ddqs _ _ _ | .ddmi _ _ | .dck _ _ | .dcke _ _ | .dcs _ _ | .dca _ _ | .dzq _ => some 4
  | .dreset _ => some 5
  | .htx _ _ | .hrx _ _ | .hrefclk _ => some 11
  | .fadc _ _ _ | .sadc _ _ => some 8
  | .psTx _ | .psRx _ => some 10
  | _ => none

/-- The rails that supply a pin are in range (R895, R907); lanes need VLANE and VLANEH. -/
def pinPowered (s : Chip) (b : Ball) : Bool :=
  let d := Fin.ofNat 4 b.die
  match b.rail with
  | some 6 => railBit s d 6 && railBit s d 7
  | some r => railBit s d r
  | none => true

/-- The unit or feature of a pin is present (R4, R8, R9, R898). -/
def pinPresent (s : Chip) (b : Ball) : Bool :=
  let d := Fin.ofNat 4 b.die
  match b with
  | .ltx _ _ _ | .lrx _ _ _ | .lref _ _ _ => present s d 0x0C
  | .ddq _ _ _ | .ddqs _ _ _ | .ddmi _ _ | .dck _ _ | .dcke _ _ | .dcs _ _ | .dca _ _ | .dreset _ | .dzq _ =>
    present s d 0x0F
  | .pulse _ _ | .pmon _ _ => feature s 0 2
  | .fadc _ _ _ => feature s d 0
  | .sadc _ _ => feature s d 1
  | .ilkA | .ilkB | .lasenA | .lasenB => present s 0 0x09
  | .psTx _ | .psRx _ => present s 0 0x0A
  | .xspiCsN | .xspiSck | .xspiDqs | .xspiResetN | .xspiD _ => feature s 0 5
  | .wdout | .tamperN | .alertN | .cfgDone | .cfgErr => feature s 0 6
  | _ => true

/-- A class F stop is in force (R895). -/
def fatalStopped (s : Chip) : Bool := s.stop.brownout || s.stop.thermal || s.stop.wdog

/-- The conditions of R895 but for configuration: a supply is absent, the S9 is held in reset, a class F stop or a stop
of the pin's die is in force. -/
def pinStopped (s : Chip) (b : Ball) : Bool :=
  !pinPowered s b || s.stop.held || !coreRails s || fatalStopped s || (s.d (Fin.ofNat 4 b.die)).stopped

/-- Configuration is in progress or has failed (R895): the release time of R746 has not come. -/
def unreleased (s : Chip) : Bool := s.fld 0 Rf.CFG_STAT_STATE != 2

/-- The pins that R895 switches off while the S9 is not configured. -/
def Ball.offUnconfigured : Ball → Bool
  | .io _ _ | .pulse _ _ | .lasenA | .lasenB | .traceClk | .traceD _ | .psTx _ | .wdout => true
  | _ => false

/-- The other pins that R895 names. -/
def Ball.offStopped : Ball → Bool
  | .ddq _ _ _ | .ddqs _ _ _ | .ddmi _ _ | .dck _ _ | .dcke _ _ | .dcs _ _ | .dca _ _ | .dreset _ | .ltx _ _ _ | .htx _ _
  | .hspiMiso | .xspiCsN | .xspiSck | .xspiDqs | .xspiResetN | .xspiD _ | .tdo => true
  | _ => false

/-- The pins that the S9 drives: those of R895, and the open-drain pins (R894). -/
def Ball.driven (b : Ball) : Bool :=
  b.offUnconfigured || b.offStopped || b == .alertN || b == .cfgDone || b == .cfgErr || b == .smbClk || b == .smbDat

/-- The pin is in the off state of R895, or belongs to an absent unit or feature (R898). -/
def pinOff (s : Chip) (b : Ball) : Bool :=
  !pinPresent s b || ((b.offUnconfigured || b.offStopped) && pinStopped s b) || (b.offUnconfigured && unreleased s)

/-- An open-drain pin. -/
def openDrain (low : Bool) : Drive := if low then .low else .released

/-- ALERT_N is driven low (R896, R937). -/
def alertLow (s : Chip) : Bool :=
  vaonUp s && (fatalStopped s || (range 0 8).any fun i => s.fld 0 (Rf.EVT_ALARM_KINDS.at i) != 0)

/-- CFG_DONE is driven low (R750, R896): it is released exactly while user I/O are enabled. -/
def cfgDoneLow (s : Chip) : Bool := vaonUp s && (unreleased s || s.stop.held || fatalStopped s)

/-- CFG_ERR is driven low (R701, R750, R896). -/
def cfgErrLow (s : Chip) : Bool := vaonUp s && (s.fld 0 Rf.CFG_STAT_STATE == 3 || s.fld 0 Rf.CFG_STAT_STATE == 4)

/-- EXTEST or CLAMP is selected on the pin's die (R871). -/
def pinTested (s : Chip) (b : Ball) : Bool :=
  let ir := (s.d (Fin.ofNat 4 b.die)).tap.ir
  vaonUp s && (ir == 0x000 || ir == 0x080)

/-- A pin under EXTEST or CLAMP, from its output and enable cells (R871, R915). DEDUCED, log 208. -/
def testDrive (s : Chip) (b : Ball) : Drive :=
  let v := boundaryCell s b .output
  match b with
  | .smbClk | .smbDat | .alertN | .cfgDone | .cfgErr => openDrain (boundaryCell s b .enable && !v)
  | _ => if boundaryCell s b .enable then (if v then .high else .low) else .highZ

/-- WDOUT: its active level during the pulse, high-impedance before and after it (R832, R833). -/
def wdoutDrive (s : Chip) : Drive :=
  if s.wdout.isSome then (if bit (s.d 0).hem.control 14 then .high else .low) else .highZ

/-- LASEN_A, or LASEN_B with `b`: laser-off unless the outputs are enabled and no boundary test runs (R467, R871). -/
def lasenDrive (s : Chip) (b : Bool) : Drive :=
  let on := s.flag 0 Rf.ILK_STAT_LASEN && !pinTested s .lasenA
  if on == b then .low else .high

/-- What the S9 does with a pin that is not off and not under a boundary test. -/
def pinNormal (s : Chip) (b : Ball) : Drive :=
  match b with
  | .alertN => openDrain (alertLow s)
  | .cfgDone => openDrain (cfgDoneLow s)
  | .cfgErr => openDrain (cfgErrLow s)
  | .wdout => wdoutDrive s
  | .lasenA => lasenDrive s false
  | .lasenB => lasenDrive s true
  | .traceClk | .traceD _ => if tracePins s then .unit else .highZ
  | _ => .unit

/-- What the S9 does with a pin (R467, R833, R871, R895 to R898, R937). The off state goes before a boundary test, and a
pin without an output cell takes no part in one. DEDUCED, log 208. -/
def pinDrive (s : Chip) (b : Ball) : Drive :=
  let hasCell := b.cells.contains .output
  if !b.driven then .none
  else if b = .wdout ∧ s.wdout.isSome ∧ pinPresent s b then wdoutDrive s
  else if pinOff s b then .highZ
  else if hasCell && vaonUp s && (s.d (Fin.ofNat 4 b.die)).tap.ir == 0x040 then .highZ
  else if hasCell && pinTested s b then testDrive s b
  else if (match b with | .pulse _ _ => pinTested s b | _ => false) then .highZ
  else pinNormal s b

end Sys2Proof.Machine
end

