-- ==== Sys2Proof/WellFormed.lean ====
section
/-! DEFINITION. Which commands are well formed: operands whose range their type does not already fix. -/

namespace Sys2Proof

/-- A list of `n` things. -/
def sized {α : Type} (n : Nat) (l : List α) : Bool := l.length == n

/-- The command's operands are in range. A command that carries no operand beyond its types is well formed. -/
def Instr.wf (i : Instr) : Bool :=
  match i with
  | .cFrameaddr f => decide (f.toNat < 196608)
  | .cFramewrite n cmp data => decide (1 ≤ n) && decide (n ≤ 4096) && (cmp || sized (40 * n) data)
  | .cRegionbegin _ a b => decide (a.toNat < 96) && decide (b.toNat < 96)
  | .cLoadmem _ n cmp _ data => decide (1 ≤ n) && decide (n ≤ 524288) && (cmp || sized ((7 * n + 3) / 4) data)
  | .cLoadcodeRentik _ image => decide (8 ≤ image.length)
  | .commandFetch _ desc => sized 16 desc
  | .cmdRecipe _ block => sized 16 block
  | .cmdRecipeUpdate _ block => sized 16 block
  | .energySample _ ch => sized 11 ch
  | .sensorUpdate _ temps => sized 8 temps
  | .psenseScan raws => sized 960 raws && raws.all fun r => decide (-8192 ≤ r) && decide (r ≤ 8191)
  | .cfgLoadStart r0 r1 _ _ => sized 64 r0 && sized 64 r1
  | .cfgHeader hdr => sized 512 hdr
  | .flashOpDone ok data => !ok || data.isEmpty || sized 16 data
  | .darnerFrameCheck _ flips => flips.all fun b => decide (b < 1576)
  | .tapSample d pins => sized (if d = 0 then 755 else 620) pins
  | _ => true

end Sys2Proof
end

