-- ==== Sys2Proof/Certificates/Slice0/Obligations.lean ====
section
/-! DEFINITION. The statements for the provers. -/

namespace Sys2Proof.Says

open Sys2Proof.Machine

/-- Command `c` answers a next state: the S9 becomes `k`, and the queue stays. -/
def Gives (c : Instr) (s : State) (k : Chip) : Prop := exec c s = .next { s with chip := k }

/-- Command `c` answers a next state in which the S9 has property `P`, and the queue stays. -/
def Reaches (c : Instr) (s : State) (P : Chip → Prop) : Prop := ∃ k, Gives c s k ∧ P k

/-! ### Frames: which parts of the S9 a command leaves alone -/

/-- Every register but those of `keys` on die `d` holds the word it held. -/
def RegsKept (s k : Chip) (d : Fin 4) (keys : List Nat) : Prop :=
  ∀ e j, (e ≠ d ∨ j ∉ keys) → k.reg e j = s.reg e j

/-- Every lane memory, DRAM, and cluster of every die is as it was. -/
def StoresKept (s k : Chip) : Prop :=
  ∀ e, (k.d e).spad = (s.d e).spad ∧ (k.d e).cst = (s.d e).cst ∧ (k.d e).bmem = (s.d e).bmem ∧
    (k.d e).lining = (s.d e).lining ∧ (k.d e).dram = (s.d e).dram ∧ (k.d e).clusters = (s.d e).clusters ∧
    (k.d e).istore = (s.d e).istore

end Sys2Proof.Says

open Sys2Proof Sys2Proof.Machine Sys2Proof.Says

/-! ### The queue and the step -/

/-- A step with command `c` in front is `c` on the state with the rest of the queue. -/
def Obligations.StepRunsFrontCommand : Prop :=
  ∀ (c : Instr) (rest : List Instr) (k : Chip),
    step { chip := k, pending := c :: rest } = exec c { chip := k, pending := rest }

/-- Every command answers a next state with the same queue: none faults and none is refused. R54, R57: on an empty
queue one tq passes: the time base of every die that runs counts on, and every other stays. -/
def Obligations.CommandsLeaveTheQueueAndIdleCountsTime : Prop :=
  (∀ (c : Instr) (s : State), ∃ k, exec c s = .next { chip := k, pending := s.pending }) ∧
  (∀ (d : Fin 4) (s : State), s.pending = [] →
     ∃ k, step s = .next { chip := k, pending := [] } ∧
       (k.d d).tb = if up s.chip d then slewTq (s.chip.d d).tb else (s.chip.d d).tb)

/-! ### The Yoke -/

namespace Sys2Proof.Says

/-- The Yoke of die `d` issues its next instruction: it runs its tick program, does not stall, is not halted, and no halt
that is asked for and no breakpoint stops it first (R115, R116, R118, R861). -/
abbrev YokeIssues (s : Chip) (d : Fin 4) : Prop :=
  yokeReady s d = true ∧ (s.d d).yoke.halted = false ∧ (s.d d).yHaltReq = none ∧
    ((s.d d).yoke.passBp = true ∨ yBreak s d = none)

/-- The S9 after the Yoke of die `d` has issued an instruction that changed the Yoke by `f` and nothing else. `f` sees the
address already moved to the next word. -/
def yokeAfter (s : Chip) (d : Fin 4) (f : YokeSt → YokeSt) : Chip :=
  s.upd d fun x => { x with yoke := f { x.yoke with pc := (x.yoke.pc + 1) % 16384, passBp := false } }

end Sys2Proof.Says

/-- R123: ADD to ANDI, NOP and RDT write l[D] as the table says, move to the next word, and change nothing else. R114:
l0 reads 0 and a write to it is ignored; any other register reads what was written last, and a write leaves the
others alone. -/
def Obligations.YokeArithmeticWritesItsDestination : Prop :=
  (∀ (d : Fin 4) (D A B : Fin 16) (K : BitVec 18) (K16 : BitVec 16) (s : State), YokeIssues s.chip d →
     let a := s.chip.l d A.val
     let b := s.chip.l d B.val
     let w := fun v : Word => yokeAfter s.chip d fun y => y.put D.val v
     Gives (.yNop d) s (yokeAfter s.chip d id) ∧
     Gives (.yAdd d D A B) s (w (a + b)) ∧ Gives (.ySub d D A B) s (w (a - b)) ∧
     Gives (.yAnd d D A B) s (w (a &&& b)) ∧ Gives (.yOr d D A B) s (w (a ||| b)) ∧
     Gives (.yXor d D A B) s (w (a ^^^ b)) ∧
     Gives (.yShl d D A B) s (w (a <<< (b.toNat % 32))) ∧ Gives (.yShr d D A B) s (w (a >>> (b.toNat % 32))) ∧
     Gives (.ySra d D A B) s (w (a.sshiftRight (b.toNat % 32))) ∧
     Gives (.yAddi d D A K) s (w (a + K.signExtend 32)) ∧ Gives (.yOri d D A K) s (w (a ||| K.zeroExtend 32)) ∧
     Gives (.yAndi d D A K) s (w (a &&& K.zeroExtend 32)) ∧
     Gives (.yLui d D K16) s (w (BitVec.ofNat 32 (K16.toNat * 65536))) ∧
     Gives (.yRdt d D 0) s (w (BitVec.ofNat 32 (elapsed s.chip d))) ∧
     Gives (.yRdt d D 1) s (w (BitVec.ofNat 32 (s.chip.d d).tick.num.toNat)) ∧
     Gives (.yRdt d D 2) s (w (BitVec.ofNat 32 (s.chip.now d).toNat)) ∧
     Gives (.yRdt d D 3) s (w (BitVec.ofNat 32 ((s.chip.now d).toNat / 2 ^ 32)))) ∧
  (∀ (y : YokeSt) (v : Word), y.get 0 = 0 ∧ y.put 0 v = y ∧
     ∀ D A : Fin 16, D ≠ 0 → (y.put D.val v).get A.val = if A = D then v else y.get A.val)

/-- R123: jumps and branches move to T when they are taken and to the next word otherwise; END and an illegal opcode
end the program at their own address; WAITT stalls only before its offset. Nothing else changes. R123: a Yoke that
WAITT stalls goes on once the tick offset is reached; before that it stays. R184: an illegal opcode ends the tick
program as END does and raises YOKEFLT with the address of the word. -/
def Obligations.YokeControlMovesWaitsAndEnds : Prop :=
  (∀ (d : Fin 4) (D A B : Fin 16) (T : BitVec 14) (K : BitVec 18) (s : State), YokeIssues s.chip d →
     let a := s.chip.l d A.val
     let b := s.chip.l d B.val
     let jump := yokeAfter s.chip d fun y => { y with pc := T.toNat }
     let fall := yokeAfter s.chip d id
     let off := a.toNat + K.toNat
     Gives (.yJ d T) s jump ∧
     Gives (.yBeq d A B T) s (if a = b then jump else fall) ∧
     Gives (.yBne d A B T) s (if a = b then fall else jump) ∧
     Gives (.yBlt d A B T) s (if a.toInt < b.toInt then jump else fall) ∧
     Gives (.yBge d A B T) s (if a.toInt < b.toInt then fall else jump) ∧
     Gives (.yJl d D T) s (yokeAfter s.chip d fun y => { y.put D.val (BitVec.ofNat 32 y.pc) with pc := T.toNat }) ∧
     Gives (.yJr d A) s (yokeAfter s.chip d fun y => { y with pc := a.toNat % 2 ^ 14 }) ∧
     ((s.chip.d d).yoke.pc < 2 ^ 14 →
       Gives (.yEnd d) s (yokeAfter s.chip d fun y => { y with run := false, pc := (s.chip.d d).yoke.pc })) ∧
     Gives (.yWaitt d A K) s
       (if off ≤ elapsed s.chip d then fall else yokeAfter s.chip d fun y => { y with wait := .till off })) ∧
  (∀ (d : Fin 4) (off : Nat) (s : State), up s.chip d = true → (s.chip.d d).yoke.wait = .till off →
     Gives (.waittResume d) s
       (if off ≤ elapsed s.chip d then s.chip.upd d fun x => { x with yoke := { x.yoke with wait := .none } } else s.chip)) ∧
  (∀ (d : Fin 4) (s : State), YokeIssues s.chip d → (s.chip.d d).yoke.pc < 2 ^ 14 →
     Reaches (.yokeIllegalOpcode d) s fun k =>
       (k.d d).yoke = { (s.chip.d d).yoke with run := false, passBp := false } ∧
       (k.d d).fly = (s.chip.d d).fly ++ [mkRec s.chip d 0x003 K.YOKEFLT 0 (s.chip.d d).yoke.pc false false] ∧
       StoresKept s.chip k ∧ RegsKept s.chip k 0 [(Rf.EVT_KCOUNT_COUNT.at K.YOKEFLT).key])

/-- R138: SEND to this die's mailbox puts the word behind the others; RECV takes the oldest; SEND to a full mailbox
sends nothing; a message under way to a die with room arrives. -/
def Obligations.MailboxIsFirstInFirstOut : Prop :=
  ∀ (d : Fin 4) (A B D : Fin 16) (s : State) (v : Word) (vs : List Word), YokeIssues s.chip d →
    let y := (s.chip.d d).yoke
    let say := fun (c : Word) (q : List Word) => yokeAfter s.chip d fun y => ({ y with mail := q } : YokeSt).put 15 c
    (s.chip.l d A.val).toNat % 4 = d.val →
    (y.mail.length + y.mailFly.length < 8 → Gives (.ySend d A B) s (say 0 (y.mail ++ [s.chip.l d B.val]))) ∧
    (8 ≤ y.mail.length → Gives (.ySend d A B) s (say 3 y.mail)) ∧
    (y.mail = [] → Gives (.yRecv d D) s (say 2 [])) ∧
    (y.mail = v :: vs →
      Gives (.yRecv d D) s
        (yokeAfter s.chip d fun y => (({ y with mail := vs } : YokeSt).put D.val v).put 15 0)) ∧
    (y.mailFly = v :: vs → y.mail.length < 8 →
      Gives (.mailboxMessage d) s
        (s.chip.upd d fun x => { x with yoke := { x.yoke with mail := x.yoke.mail ++ [v], mailFly := vs } }))

namespace Sys2Proof.Says

/-- After the command l15 holds result code `c`, and l[D] the value `v` (l0 keeps 0, and l15 the code). -/
def Loads (k : Chip) (d : Fin 4) (D : Fin 16) (v : Word) (c : Nat) : Prop :=
  k.l d 15 = BitVec.ofNat 32 c ∧ (D ≠ 0 → D ≠ 15 → k.l d D.val = v)

/-- The S9 after an instruction that has only reported result code `c`. -/
def reports (s : Chip) (d : Fin 4) (c : Nat) : Chip := yokeAfter s d fun y => y.put 15 (BitVec.ofNat 32 c)

end Sys2Proof.Says

/-- R126: a register value above 255 names no tenant: ARM, DISP, STITCH, UNPICK and DRAW report RANGE and do nothing
else, and LEDGER writes 0 into l[D]. -/
def Obligations.TenantValueAbove255IsRange : Prop :=
  ∀ (d : Fin 4) (D A B : Fin 16) (F : BitVec 14) (s : State), YokeIssues s.chip d →
    (255 < (s.chip.l d B.val).toNat → Gives (.yArm d A B F) s (reports s.chip d 9)) ∧
    (255 < (s.chip.l d A.val).toNat →
      Gives (.yDisp d D A B) s (reports s.chip d 9) ∧ Gives (.yStitch d A) s (reports s.chip d 9) ∧
      Gives (.yUnpick d A) s (reports s.chip d 9) ∧ Gives (.yDraw d A B) s (reports s.chip d 9) ∧
      Gives (.yLedger d D A F) s (yokeAfter s.chip d fun y => y.put D.val 0))

/-- R131, R132: FIRE of a pulse in range on die 0 places it and reports OK; one too soon reports LATE; one out of
range reports RANGE; on dies 1 to 3 it reports ABSENT. R124, R130, R451: an ARM whose checks pass arms a capture
of the named tenant in this tick and reports OK; one outside ACQUIRE reports PHASE and does nothing else. R129:
ACQST of a channel that is there loads its status word. -/
def Obligations.PulsesAndCapturesReportTheirResult : Prop :=
  (∀ (d : Fin 4) (D A B : Fin 16) (s : State), YokeIssues s.chip d →
     let edge := (s.chip.l d A.val).toNat
     let width := (s.chip.l d B.val).toNat
     let x := s.chip.d 0
     let inRange := D.val < 4 ∧ edge < x.tick.set.p * 20 ∧ 20 ≤ width ∧ width ≤ 400000 ∧
       overlapsPulse s.chip D.val x.tick.start edge = false
     let there := present s.chip 0 8 = true ∧ feature s.chip 0 2 = true
     (d ≠ 0 → Reaches (.yFire d D A B) s fun k => k.l d 15 = 4) ∧
     (d = 0 → there → ¬ inRange → Gives (.yFire d D A B) s (reports s.chip d 9)) ∧
     (d = 0 → there → inRange → edge < (elapsed s.chip 0 + 64) * 20 → Gives (.yFire d D A B) s (reports s.chip d 10)) ∧
     (d = 0 → there → inRange → (elapsed s.chip 0 + 64) * 20 ≤ edge → queuedPulses s.chip D.val < 16 →
       Gives (.yFire d D A B) s
         { reports s.chip d 0 with
           pulses := mapPut (fun _ => []) s.chip.pulses D.val
             (s.chip.pulsesOf D.val ++ [{ tickStart := x.tick.start, tick := x.tick.num, edge := edge, width := width }]) })) ∧
  (∀ (d : Fin 4) (D A B : Fin 16) (F : BitVec 14) (t : Fin 256) (s : State), YokeIssues s.chip d →
     let s1 := yokeAfter s.chip d id
     let arm := armCapture s1 d (s.chip.l d A.val).toNat t (bit F.toNat 0)
     let ch := (s.chip.l d A.val).toNat
     ((s.chip.l d B.val).toNat = t.val → (s.chip.d d).tick.phase ≠ .acquire →
       Gives (.yArm d A B F) s (reports s.chip d 5)) ∧
     ((s.chip.l d B.val).toNat = t.val → arm.2.code = 0 →
       Reaches (.yArm d A B F) s fun k =>
         k.l d 15 = 0 ∧ ∃ c x, c < 10 ∧ k.cap d c = some x ∧ x.ten = t ∧ x.isDone = false) ∧
     (acqstAbsent s.chip d ch = none →
       Gives (.yAcqst d D A) s (yokeAfter s.chip d fun y => (y.put D.val (acqstWord s.chip d ch)).put 15 0)))

/-- R133, R137, R206 to R209: DISP of the item at the head of a tenant's queue that passes every check takes it off the
queue and loads its CID; STITCH and UNPICK record the verdict while it counts and report PHASE after; an accepted DRAW
reserves. -/
def Obligations.WorkInstructionsActForTenant : Prop :=
  ∀ (d : Fin 4) (D A B : Fin 16) (F : BitVec 14) (t : Fin 256) (s : State) (it : WorkItem) (rest : List WorkItem)
    (first count : Nat), YokeIssues s.chip d → (s.chip.l d A.val).toNat = t.val →
    let s1 := yokeAfter s.chip d id
    let b := (s.chip.l d B.val).toNat
    let counts := (s.chip.d d).tick.phase ≠ .slack ∧ sinceStitch s.chip d 32 = false
    (dispEarly s.chip d t = none → s.chip.workOf d t = it :: rest → clusterSet b = some (first, count) →
      setBusy s.chip d first count = false →
      (dispReserve s1 d t (correctedCost s.chip d it.cost count)).2 = none →
      Reaches (.yDisp d D A B) s fun k => Loads k d D (BitVec.ofNat 32 it.cid) 0 ∧ k.workOf d t = rest) ∧
    (dispEarly s.chip d t = none → s.chip.workOf d t = [] → Gives (.yDisp d D A B) s (reports s.chip d 2)) ∧
    (counts → Reaches (.yStitch d A) s fun k => k.l d 15 = 0 ∧ t ∈ (k.d d).baste.stitchV) ∧
    (counts → Reaches (.yUnpick d A) s fun k => k.l d 15 = 0 ∧ t ∈ (k.d d).baste.unpickV) ∧
    (¬ counts → Gives (.yStitch d A) s (reports s.chip d 5) ∧ Gives (.yUnpick d A) s (reports s.chip d 5)) ∧
    (tenEnabled s.chip t = true → tenFaulted s.chip t = false → refusal s.chip d t b = none →
      Reaches (.yDraw d A B) s fun k =>
        k.l d 15 = 0 ∧ (k.led d).resvd = (s.chip.led d).resvd + b ∧ balOf k d t = clampBal (balOf s.chip d t - b)) ∧
    Gives (.yLedger d D A F) s (yokeAfter s.chip d fun y => y.put D.val (ledgerFigure s1 d t F.toNat))

/-- R123, R125, R127, R128: a load obtains what its address holds and reports OK, and one with an access fault writes 0
into l[D]; a store puts the value and reports OK; an access to another die is sent and the Yoke waits for a load's
answer. -/
def Obligations.YokeMemoryAccessLoadsAndStores : Prop :=
  ∀ (d : Fin 4) (D A : Fin 16) (K : BitVec 18) (s : State), YokeIssues s.chip d → yPosted s.chip d = false →
    let s1 := yokeAfter s.chip d id
    let a := s.chip.l d A.val + K.signExtend 32
    let e := Fin.ofNat 4 (a.toNat / 2 ^ 30)
    let off := a.toNat % 2 ^ 30
    let lane := a.toNat
    (regAddrOk off = false → Reaches (.yLdr d D A K) s fun k => Loads k d D 0 11) ∧
    (regAddrOk off = false → Reaches (.yStr d D A K) s fun k => k.l d 15 = 11) ∧
    (regAddrOk off = true → e = d →
      Reaches (.yLdr d D A K) s fun k => Loads k d D (regRead s1 d 0 (off / 2 ^ 24) (off % 2 ^ 24)).2 0) ∧
    (regAddrOk off = true → e = d →
      Gives (.yStr d D A K) s ((regWrite s1 d 0 (off / 2 ^ 24) (off % 2 ^ 24) (s.chip.l d D.val)).code d 0)) ∧
    (regAddrOk off = true → e ≠ d →
      Reaches (.yLdr d D A K) s fun k =>
        (k.d d).yoke.wait = .remote s.chip.nextId ∧ k.remotes.length = s.chip.remotes.length + 1 ∧
          k.nextId = s.chip.nextId + 1) ∧
    (regAddrOk off = true → e ≠ d →
      Reaches (.yStr d D A K) s fun k =>
        (k.d d).yoke = (s1.d d).yoke ∧ k.remotes.length = s.chip.remotes.length + 1 ∧ k.nextId = s.chip.nextId + 1) ∧
    (2097152 ≤ lane → Reaches (.yLdl d D A K) s fun k => Loads k d D 0 11) ∧
    (2097152 ≤ lane → Reaches (.yStl d D A K) s fun k => k.l d 15 = 11) ∧
    (∀ q b, lane < 2097152 → (readMem s1 d .spad (lane / 4) (2 ^ (lane % 4)) .outside).2 = .val q b →
      Reaches (.yLdl d D A K) s fun k => Loads k d D ((getLane q (lane % 4)).signExtend 32) 0) ∧
    (let w := writeMem s1 d .spad (lane / 4) (2 ^ (lane % 4)) (splatLane (BitVec.ofNat 14 (s.chip.l d D.val).toNat)) .plain
     lane < 2097152 → w.2 = .done → Gives (.yStl d D A K) s (w.1.code d 0))

/-- R139, R140: SVC WDOG in an open window restarts the count; SVC EVENT sends a USER record with the value of l[A];
SVC NOTIFY leaves a masked vector pending; SVC ILKCLR is ABSENT on dies 1 to 3, and on die 0 ends a latched FAULT
after both channels have been safe for the time it takes; RELOAD with bad fields or without a region reports RANGE,
and otherwise waits for SLACK. -/
def Obligations.ServiceCallsAndReloadTakeEffect : Prop :=
  ∀ (d : Fin 4) (A B : Fin 16) (s : State), YokeIssues s.chip d →
    let a := (s.chip.l d A.val).toNat
    let b := (s.chip.l d B.val).toNat
    let e := Fin.ofNat 4 (a / 256)
    (wdogIsOpen s.chip d = true →
      Reaches (.svcWdog d A) s fun k => k.l d 15 = 0 ∧ (k.d d).wdog.count = 0 ∧ (k.d d).wdog.running = true) ∧
    Reaches (.svcEvent d A) s (fun k => k.l d 15 = 0 ∧
      (k.d d).fly = (s.chip.d d).fly ++ [mkRec s.chip d 0x003 K.USER 0 a false false]) ∧
    Reaches (.svcNotify d A) s (fun k => k.l d 15 = 0 ∧
      (vecMasked s.chip (a % 256) = true → mapGet (fun _ => false) k.pba (a % 256) = true)) ∧
    (d ≠ 0 → Reaches (.svcIlkclr d A) s fun k => k.l d 15 = 4) ∧
    (d = 0 → present s.chip 0 9 = true → ilkState s.chip = 3 → 100002000 ≤ s.chip.ilk.safe →
      Reaches (.svcIlkclr d A) s fun k => k.l 0 15 = 0 ∧ ilkState k = 1 ∧ k.ilk.disc = 0) ∧
    (a / 64 % 4 ≠ 0 ∨ a / 1024 ≠ 0 ∨ s.chip.flag d (Rf.CLK_REGION_VALID.at (a % 64)) = false →
      Gives (.yReload d A B) s (reports s.chip d 9)) ∧
    (a / 64 % 4 = 0 → a / 1024 = 0 → s.chip.flag d (Rf.CLK_REGION_VALID.at (a % 64)) = true →
      present s.chip e 0x0F = true → (s.chip.d d).tick.phase ≠ .slack →
      Gives (.yReload d A B) s
        (yokeAfter s.chip d fun y => { y with wait := .slack (a % 64) (e.val * 2 ^ 38 + b * 64) }))

/-- R146, R148: a request that arrives is served; its answer ends the wait of the Yoke with the word and code OK; at the
timeout the access is abandoned, the Yoke reports TIMEOUT and RTIMEOUT is raised. -/
def Obligations.RemoteAccessServedAnsweredOrAbandoned : Prop :=
  ∀ (s : State) (a : RAcc) (off n : Nat) (v : Word) (D : Fin 16), s.chip.remote a.id = some a →
    let r := regRead s.chip a.target a.ten (off / 2 ^ 24) (off % 2 ^ 24)
    (a.served = false → up s.chip a.target = true → reaches s.chip a.die a.target = true →
      servedLater s.chip a = false → a.op = .regRead off n →
      Gives (.remoteReadRequest a.id) s (markServed r.1 a (.word r.2))) ∧
    (a.served = false → up s.chip a.target = true → reaches s.chip a.die a.target = true →
      servedLater s.chip a = false → a.op = .regWrite off n v →
      Gives (.remoteWrite a.id) s
        (markServed (regWrite s.chip a.target a.ten (off / 2 ^ 24) (off % 2 ^ 24) v) a .none)) ∧
    (a.served = true → up s.chip a.die = true → reaches s.chip a.target a.die = true → a.abandoned = false →
      a.init = .yoke (some D) → a.data = .word v → (s.chip.d a.die).yoke.wait = .remote a.id →
      Reaches (.readResponse a.id) s fun k =>
        Loads k a.die D v 0 ∧ (k.d a.die).yoke.wait = .none ∧ ∀ b ∈ k.remotes, b.id ≠ a.id) ∧
    (a.abandoned = false → up s.chip a.die = true → rtoDue s.chip a = true → a.init = .yoke (some D) →
      (s.chip.d a.die).yoke.wait = .remote a.id →
      Reaches (.remoteAccessTimeout a.id) s fun k =>
        Loads k a.die D 0 7 ∧ (k.d a.die).yoke.wait = .none ∧
          ∃ r ∈ (k.d a.die).fly, r.kind = K.RTIMEOUT ∧ r.ten = a.ten)

/-! ### Time and the tick -/

namespace Sys2Proof.Says

/-- RESULT of R63 for a setting: 1, or the code of the first condition that fails. -/
def settingCode (p a st rtoUs : Nat) : Nat :=
  if ¬ (1000 ≤ p ∧ p ≤ 67108864) then 2
  else if ¬ a ≤ st then 3
  else if ¬ st + 256 + 1000 ≤ p then 4
  else if ¬ 1000 * rtoUs < p then 5
  else 1

/-- Tenant `t` may write the registers of unit `u` on die `d`, and the die runs. -/
abbrev MayWrite (s : Chip) (d : Fin 4) (u : Nat) (t : Fin 256) : Prop := up s d = true ∧ granted s d u t = true

/-- Die `d` has sent a record of kind `kind` for tenant `t` towards die 0. -/
abbrev Sent (k : Chip) (d : Fin 4) (kind : Nat) (t : Fin 256) : Prop :=
  ∃ r ∈ (k.d d).fly, r.kind = kind ∧ r.ten = t ∧ r.time = k.now d

end Sys2Proof.Says

/-- R63: APPLY accepts a tick setting exactly when every condition of R63 holds; RESULT says which fails, and only an
accepted setting is kept for a coming tick. -/
def Obligations.TickSettingAcceptedExactlyByItsRule : Prop :=
  ∀ (t : Fin 256) (v : Word) (s : State), MayWrite s.chip 0 0x19 t →
    getBits v 0 1 = s.chip.fld 0 Rf.TIME_TICK_CTL_RUN →
    let p := s.chip.fld 0 Rf.TIME_TICK_P_P
    let a := s.chip.fld 0 Rf.TIME_TICK_A_A
    let st := s.chip.fld 0 Rf.TIME_TICK_S_S
    let r := settingCode p a st (s.chip.fld 0 Rf.YOKE_RTO_TIMEOUT)
    Gives (.tickApply t v) s
      { s.chip.setFld 0 Rf.TIME_TICK_STATUS_RESULT r with
        settings := if r = 1 then s.chip.settings ++ [(unmarked s.chip, { p := p, a := a, s := st })]
          else s.chip.settings }

/-- R87, R88, R91: RUN set while no tick runs schedules the first tick at the later of START and 2,000 tq from now;
RUN cleared in a tick changes RUN alone; TIME.SET is taken before the first tick, and refused and logged after it.
R58: with TBREF selected, loss of the reference puts die 0 into holdover with REFLOSS, without a jump of its time
base; lock ends holdover. -/
def Obligations.RunTimeAndHoldoverTakeEffect : Prop :=
  (∀ (t : Fin 256) (v : Word) (s : State), MayWrite s.chip 0 0x19 t →
     let now := s.chip.now 0
     let req := BitVec.ofNat 64 (s.chip.fld64 0 Rf.TIME_TICK_START_LO_START Rf.TIME_TICK_START_HI_START)
     let first := if (req - (now + 2000)).toNat < 2 ^ 63 then req else now + 2000
     let set := BitVec.ofNat 64 (s.chip.fld64 0 Rf.TIME_SET_LO_SET Rf.TIME_SET_HI_SET)
     (s.chip.fld 0 Rf.TIME_TICK_CTL_RUN = 0 → follows s.chip = false → ticking s.chip 0 = false →
       Reaches (.tickRunSet t) s fun k =>
         k.fld 0 Rf.TIME_TICK_CTL_RUN = 1 ∧ k.first = some first ∧
           ∃ m, (k.d 0).tick.mark = some m ∧ m.start = first ∧ m.num = nextNum s.chip ∧ m.skip = false) ∧
     (s.chip.fld 0 Rf.TIME_TICK_CTL_RUN = 1 → ticking s.chip 0 = true →
       Gives (.tickRunClear t) s (s.chip.setFld 0 Rf.TIME_TICK_CTL_RUN 0)) ∧
     (getBits v 1 2 = s.chip.fld 0 Rf.TIME_CTL_SRC → s.chip.ticked = false →
       Gives (.timeSet t v) s (s.chip.upd 0 fun x => { x with tb := { x.tb with now := set } })) ∧
     (getBits v 1 2 = s.chip.fld 0 Rf.TIME_CTL_SRC → s.chip.ticked = true →
       Reaches (.timeSet t v) s fun k => (k.d 0).tb = (s.chip.d 0).tb ∧ Sent k 0 K.NOGRANT t)) ∧
  (∀ s : State, up s.chip 0 = true → s.chip.fld 0 Rf.TIME_CTL_SRC ≠ 0 → follows s.chip = false →
     (s.chip.fld 0 Rf.TIME_STAT_HOLDOVER = 0 →
       Reaches .tbrefHoldover s fun k =>
         k.fld 0 Rf.TIME_STAT_HOLDOVER = 1 ∧ k.fld 0 Rf.TIME_STAT_REFLOCK = 0 ∧ Sent k 0 K.REFLOSS 0 ∧
           (k.d 0).tb = (s.chip.d 0).tb) ∧
     Reaches .tbrefLock s fun k =>
       k.fld 0 Rf.TIME_STAT_REFLOCK = 1 ∧ k.fld 0 Rf.TIME_STAT_HOLDOVER = 0 ∧ (k.d 0).tb = (s.chip.d 0).tb)

/-- R55, R57, R59: a die's first exchange takes die 0's time; a later one leaves the count, and owes the skew with the
sign turned; above 64 tq it raises TIMESKEW unless that excursion has been reported. R57: in one tq of its own
clock a time base counts one, and one more or one less only when it owes a correction and has not corrected in the
last 256 counts. -/
def Obligations.DieTimeFollowsDieZeroBySlew : Prop :=
  (∀ (d : Fin 4) (t0 : BitVec 64) (s : State), d ≠ 0 → up s.chip d = true → reaches s.chip 0 d = true →
     let b := (s.chip.d d).tb
     let skew := (b.now - t0).toInt
     (b.taken = false →
       Gives (.timeExchange d none t0) s
         (s.chip.upd d fun x => { x with tb := { b with now := t0, taken := true, owe := 0, good := 0 } })) ∧
     (b.taken = true →
       Reaches (.timeExchange d none t0) s fun k =>
         (k.d d).tb.now = b.now ∧ (k.d d).tb.owe = -skew ∧
           (skew.natAbs ≤ 1 → s.chip.fld d Rf.TIME_STAT_STATE ≠ 2 → k.fld d Rf.TIME_STAT_STATE = 0) ∧
           (4 < skew.natAbs → k.fld d Rf.TIME_STAT_STATE = 2) ∧
           (64 < skew.natAbs → b.alarmed = false → Sent k d K.TIMESKEW 0))) ∧
  (∀ b : TimeBase,
     ((slewTq b).now = b.now + 1 ∨ ((slewTq b).now = b.now + 2 ∧ 0 < b.owe ∧ 256 ≤ b.since) ∨
       ((slewTq b).now = b.now ∧ b.owe < 0 ∧ 256 ≤ b.since)) ∧
     ((slewTq b).now ≠ b.now + 1 → (slewTq b).since = 1))

/-- R62, R71, R75, R76: the phases follow one another at A, S and S + 256; in an extended tick STITCH begins when the last
program has ended, and at P + S at the latest. -/
def Obligations.TickPhasesFollowTheirOffsets : Prop :=
  ∀ (d : Fin 4) (s : State), up s.chip d = true →
    let k0 := (s.chip.d d).tick
    let at_ := fun (n : Nat) => k0.start + BitVec.ofNat 64 n
    (k0.phase = .acquire → k0.set.a ≤ elapsed s.chip d →
      Reaches (.acquireEnd d) s fun k => (k.d d).tick.phase = .process ∧ (k.d d).tick.num = k0.num) ∧
    (k0.phase = .process → k0.set.s ≤ elapsed s.chip d → k0.report = none → bit s.chip.compat 0 = false →
      Reaches (.stitchStart d) s fun k =>
        (k.d d).tick.phase = .stitch ∧ (k.d d).tick.stitchAt = some (at_ k0.set.s) ∧ (k.d d).baste.reported = false) ∧
    (k0.phase = .process → k0.report.isSome = true → k0.set.p + k0.set.s ≤ elapsed s.chip d →
      Reaches (.extensionDeadline d) s fun k =>
        (k.d d).tick.phase = .stitch ∧ (k.d d).tick.stitchAt = some (at_ (k0.set.s + k0.set.p))) ∧
    (up s.chip 0 = true → d ∈ (beforeStitch s.chip).filter (fun e => (s.chip.d e).tick.extended) →
      (∀ e ∈ beforeStitch s.chip, (s.chip.d e).tick.extended = true → overrunners s.chip e = []) →
      Reaches .extendedStitchStart s fun k =>
        (k.d d).tick.phase = .stitch ∧ (k.d d).tick.stitchAt = some (s.chip.now d)) ∧
    (∀ t, k0.phase = .stitch → k0.stitchAt = some t → 256 ≤ (s.chip.now d - t).toNat →
      Reaches (.slackStart d) s fun k => (k.d d).tick.phase = .slack ∧ (k.d d).tick.num = k0.num)

/-- R66 to R68: a mark that die 0 sent is held by the die it reaches; without one, 51 tq after the predicted start the
tick is missed, with TICKMISS. R67, R115: a die starts the tick of the mark it holds when its time base reaches
the start in the mark: ACQUIRE begins with the mark's number and setting, and the Yoke stands at ENTRY with l1 and
l2 loaded. R68: a die without a mark starts the next tick at its predicted start with the setting of the last.
R75, R864: at the predicted start of a skipped tick die 0 counts it and never starts it; a skip that TICKHOLD made
raises TICKSKIP. -/
def Obligations.TicksStartFromTheirMarks : Prop :=
  (∀ (d : Fin 4) (m : Mark) (s : State), d ≠ 0 → up s.chip d = true →
     let k0 := (s.chip.d d).tick
     (m ∈ (s.chip.d d).marks → k0.mark = none → k0.waiting = false →
       (k0.phase = .idle ∨ 0 < (m.num - k0.num).toNat ∧ (m.num - k0.num).toNat < 2 ^ 47) →
       Gives (.tickMark d m) s
         (s.chip.upd d fun x => { x with marks := x.marks.erase m, tick := { x.tick with mark := some m } })) ∧
     (k0.waiting = true → 51 ≤ elapsed s.chip d →
       Reaches (.tickMarkTimeout d) s fun k =>
         (k.d d).tick.missed = true ∧ (k.d d).tick.waiting = false ∧ (k.d d).tick.num = k0.num ∧ Sent k d K.TICKMISS 0)) ∧
  (∀ (d : Fin 4) (m : Mark) (fec : List Nat) (s : State), up s.chip d = true → (s.chip.d d).tick.mark = some m →
     reached s.chip d m.start = true → ((s.chip.d d).tick.phase = .idle ∨ (s.chip.d d).tick.phase = .slack) →
     m.skip = false → tickAllowed s.chip m.num = true → (s.chip.d d).yoke.run = false →
     Reaches (.tickStart d fec) s fun k =>
       (k.d d).tick.phase = .acquire ∧ (k.d d).tick.num = m.num ∧ (k.d d).tick.start = m.start ∧
       (k.d d).tick.set = { p := m.p, a := m.a, s := m.s } ∧
       (k.d d).yoke.pc = s.chip.fld d Rf.YOKE_CTL_ENTRY ∧ k.l d 1 = BitVec.ofNat 32 m.num.toNat ∧
       k.l d 2 = BitVec.ofNat 32 d.val ∧ ∀ A, 3 ≤ A → k.l d A = s.chip.l d A) ∧
  (∀ (d : Fin 4) (s : State), d ≠ 0 → up s.chip d = true →
     let k0 := (s.chip.d d).tick
     k0.mark = none → k0.phase = .slack → k0.extended = false → k0.skips = 0 →
     reached s.chip d (k0.start + BitVec.ofNat 64 k0.set.p) = true → tickAllowed s.chip (k0.num + 1) = true →
     Reaches (.tickPredictedStart d) s fun k =>
       (k.d d).tick.phase = .acquire ∧ (k.d d).tick.num = k0.num + 1 ∧ (k.d d).tick.set = k0.set ∧
       (k.d d).tick.start = k0.start + BitVec.ofNat 64 k0.set.p ∧ (k.d d).tick.waiting = true) ∧
  (∀ (m : Mark) (s : State), up s.chip 0 = true → (s.chip.d 0).tick.mark = some m → m.skip = true →
     follows s.chip = false → (s.chip.d 0).tick.phase = .slack → reached s.chip 0 m.start = true →
     Reaches .skippedTickMark s fun k =>
       (k.d 0).tick.num = m.num ∧ (k.d 0).tick.phase = .slack ∧ (k.d 0).tick.start = (s.chip.d 0).tick.start ∧
         ((s.chip.d 0).tick.extended = false → Sent k 0 K.TICKSKIP 0))

/-! ### Event records, alarms and trace -/

/-- R81, R931: the oldest record on its way from a die reaches die 0; one of a plain kind that is neither logged nor
traced waits there in the order of R80 while it is at most W old, and one of class D latches its alarm bit. R80:
the records held at die 0 stay in the order of time and then of source. R81, R85: the first record held is
released at TIME + W: into a ring with room it is written at PROD, which advances; for a ring that is disabled or
full it is discarded and counted, and the next record carries OVERFLOWED. -/
def Obligations.RecordsTravelInOrderToTheirRing : Prop :=
  (∀ (d : Fin 4) (r : Rec) (rs : List Rec) (s : State), alive s.chip = true →
     (d = 0 ∨ reaches s.chip d 0 = true) → (s.chip.d d).fly = r :: rs → r.kind ≠ K.STIM →
     (kindClass r.kind ≠ .d → kindLogged r.kind = false → traced s.chip r = false → ringsOf r ≠ [] →
       (s.chip.now 0 - r.time).toNat ≤ s.chip.fld 0 Rf.EVT_MERGE_W →
       Gives (.eventRecord d) s
         { s.chip.upd d fun x => { x with fly := rs } with merge := mergeIn r s.chip.merge }) ∧
     (kindClass r.kind = .d → r.kind < 256 →
       Reaches (.eventRecord d) s fun k => bit (k.fld 0 (Rf.EVT_ALARM_KINDS.at (r.kind / 32))) (r.kind % 32) = true)) ∧
  (∀ (r : Rec) (qs : List Rec),
     qs.Pairwise (fun a b => recBefore b a = false) → (mergeIn r qs).Pairwise (fun a b => recBefore b a = false)) ∧
  (∀ (r : Rec) (rs : List Rec) (t : Fin 256) (s : State), alive s.chip = true → s.chip.merge = r :: rs →
     reached s.chip 0 (r.time + BitVec.ofNat 64 (s.chip.fld 0 Rf.EVT_MERGE_W)) = true → ringsOf r = [t] →
     let f := fun (f : Fld) => s.chip.fld 0 (f.at t.val)
     let prod := f Rf.EVT_RING_PROD_PROD
     let log := f Rf.EVT_RING_CTL_LOG2SIZE
     let full := (prod + 2 ^ 32 - f Rf.EVT_RING_CONS_CONS) % 2 ^ 32 = 2 ^ log
     let base := f Rf.EVT_RING_BASE_LO_BASE + 2 ^ 32 * f Rf.EVT_RING_BASE_HI_BASE
     (f Rf.EVT_RING_CTL_ENABLE = 0 ∨ full →
       Gives .recordMergeRelease s (ringLose { s.chip with merge := rs } t)) ∧
     (f Rf.EVT_RING_CTL_ENABLE = 1 → ¬ full → f Rf.EVT_RING_CTL_TARGET = 0 → compatFor s.chip t 1 = false →
       base + 16 * 2 ^ 16 < 2 ^ 64 → log ≤ 16 →
       Reaches .recordMergeRelease s fun k =>
         k.fld 0 (Rf.EVT_RING_PROD_PROD.at t.val) = (prod + 1) % 2 ^ 32 ∧ k.merge = rs ∧ ringOvf k t = false ∧
         ∀ i < 16, mapGet (fun _ => none) k.hostMem (base + prod % 2 ^ log * 16 + i) =
           some (BitVec.ofNat 8 (recNum r (ringOvf s.chip t) / 2 ^ (8 * i)))))

/-- R95, R172, R937, R939: a ring is enabled when its base is aligned and its size in range, and stays disabled
otherwise; only the supervisor clears alarm bits, each by writing 1; clearing the always-on log empties it;
unmasking a pending vector sends it. R869: the trace port sends the oldest traced record as 0xA5 and its sixteen
bytes. -/
def Obligations.EventRegistersAndTraceTakeEffect : Prop :=
  (∀ (t i : Fin 256) (n : Fin 8) (w : Fin 257) (v : Word) (s : State),
     let bad := s.chip.fld 0 (Rf.EVT_RING_BASE_LO_BASE.at i.val) % 64 ≠ 0 ∨ getBits v 0 5 < 4 ∨ 16 < getBits v 0 5
     let alarm := Rf.EVT_ALARM_KINDS.at n.val
     (MayWrite s.chip 0 0x18 t →
       Reaches (.ringEnable t i v) s fun k =>
         (bad → k.fld 0 (Rf.EVT_RING_CTL_ENABLE.at i.val) = 0) ∧
         (¬ bad → k.fld 0 (Rf.EVT_RING_CTL_ENABLE.at i.val) = getBits v 6 1 ∧
           k.fld 0 (Rf.EVT_RING_CTL_LOG2SIZE.at i.val) = getBits v 0 5)) ∧
     (up s.chip 0 = true →
       Reaches (.alarmClear 0 n v) s fun k =>
         (∀ b < 32, bit (k.fld 0 alarm) b = (bit (s.chip.fld 0 alarm) b && !bit v.toNat b)) ∧
           RegsKept s.chip k 0 [alarm.key]) ∧
     (up s.chip 0 = true → t ≠ 0 →
       Reaches (.alarmClear t n v) s fun k => k.fld 0 alarm = s.chip.fld 0 alarm ∧ Sent k 0 K.NOGRANT t) ∧
     (up s.chip 0 = true →
       Reaches (.aolClear 0) s fun k => k.aol = [] ∧ k.fld 0 Rf.EVT_AOL_STAT_OVF = s.chip.fld 0 Rf.EVT_AOL_STAT_OVF) ∧
     (alive s.chip = true → mapGet (fun _ => false) s.chip.pba w.val = true →
       Reaches (.msixVectorUnmask w) s fun k =>
         vecMasked k w.val = false ∧ mapGet (fun _ => false) k.pba w.val = false)) ∧
  (∀ (e : Rec) (es : List Rec) (s : State), tracePins s.chip = true → s.chip.trace.started = true →
     s.chip.trace.packets < 256 → s.chip.trace.fifo = e :: es → s.chip.trace.lostPort = 0 →
     Reaches .tracePortSend s fun k =>
       k.trace.out = 0xA5 :: leBytes 16 (recNum e false) ∧ k.trace.fifo = es ∧
         k.fld 0 Rf.PLACKET_TR_STAT_FILL = es.length % 2 ^ 12)

/-! ### Registers, grants and the host -/

namespace Sys2Proof.Says

/-- Device address of offset `off` in the window of unit `u` on die `d` (R18, R24). -/
def devAddr (d : Fin 4) (u off : Nat) : BitVec 40 := BitVec.ofNat 40 (d.val * 2 ^ 38 + 0x3F00000000 + u * 2 ^ 24 + off)

end Sys2Proof.Says

/-- R8, R45, R46: by device address a write or read of an absent unit does nothing and reads 0; without the right to
it, it does nothing but log NOGRANT, and reads 0. R44: a register access by device address that is misaligned, too
wide, or names no window is an access fault of the tenant, with the address as its payload. -/
def Obligations.UnpermittedAccessesHaveNoEffect : Prop :=
  (∀ (d : Fin 4) (t : Fin 256) (u off : Nat) (v : Word) (s : State), u < 28 → off < 2 ^ 24 → off % 4 = 0 →
     up s.chip d = true →
     (present s.chip d u = false →
       Gives (.registerWrite (.dev t (devAddr d u off)) 4 v) s s.chip ∧
       Gives (.registerRead (.dev t (devAddr d u off)) 4) s { s.chip with reply := .word 0 }) ∧
     (present s.chip d u = true → mayWrite s.chip d t u off = false →
       Gives (.registerWrite (.dev t (devAddr d u off)) 4 v) s (nogrant s.chip d t u off false)) ∧
     (present s.chip d u = true → mayRead s.chip d t u off = false →
       Gives (.registerRead (.dev t (devAddr d u off)) 4) s { nogrant s.chip d t u off true with reply := .word 0 }) ∧
     RegsKept s.chip (nogrant s.chip d t u off false) 0 [(Rf.EVT_KCOUNT_COUNT.at K.NOGRANT).key] ∧
     StoresKept s.chip (nogrant s.chip d t u off false)) ∧
  (∀ (t : Fin 256) (addr : BitVec 40) (bytes : Nat) (v : Word) (s : State), up s.chip (addrDie addr) = true →
     devPlace addr bytes = none →
     Gives (.registerWrite (.dev t addr) bytes v) s (accFault s.chip (addrDie addr) 0 t addr.toNat) ∧
     Gives (.registerRead (.dev t addr) bytes) s
       { accFault s.chip (addrDie addr) 0 t addr.toNat with reply := .word 0 } ∧
     (accFault s.chip (addrDie addr) 0 t addr.toNat).fld 0 (Rf.YOKE_TEN_CTL_FAULTED.at t.val) = 1)

/-- R14, R33, R47, R117, R143: SYS.COMPAT takes a write of the supervisor before the first tick only; grants and Yoke
instructions are written by the supervisor only, and a refused write is logged; a remote descriptor is valid after
a write only when its range is one that a descriptor may have. R64, R147: a value below 4, or whose time is not
below the active P, is refused and logged, and the old timeout stays; another is taken. -/
def Obligations.SupervisorSettingsTakeWrites : Prop :=
  (∀ (d : Fin 4) (t n : Fin 256) (i : BitVec 14) (q : Fin 1024) (v : Word) (s : State), up s.chip d = true →
     (s.chip.ticked = false → Gives (.sysCompatWrite 0 d v) s { s.chip with compat := getBits v 0 6 }) ∧
     (s.chip.ticked = true →
       Reaches (.sysCompatWrite 0 d v) s fun k => k.compat = s.chip.compat ∧ Sent k d K.NOGRANT 0) ∧
     (t ≠ 0 → Reaches (.sysCompatWrite t d v) s fun k => k.compat = s.chip.compat ∧ Sent k d K.NOGRANT t) ∧
     (n ≠ 0 →
       Reaches (.sysGrantWrite 0 d n v) s fun k =>
         k.fld d (Rf.SYS_GRANT_UNITS.at n.val) = getBits v 0 28 ∧
           RegsKept s.chip k d [(Rf.SYS_GRANT_UNITS.at n.val).key]) ∧
     (t ≠ 0 →
       Reaches (.sysGrantWrite t d n v) s fun k =>
         k.fld d (Rf.SYS_GRANT_UNITS.at n.val) = s.chip.fld d (Rf.SYS_GRANT_UNITS.at n.val) ∧ Sent k d K.NOGRANT t) ∧
     (Gives (.yokeImemWrite 0 d i v) s (s.chip.setReg d (1048576 + 0x40000 + 4 * i.toNat) v)) ∧
     (t ≠ 0 →
       Reaches (.yokeImemWrite t d i v) s fun k =>
         k.reg d (1048576 + 0x40000 + 4 * i.toNat) = s.chip.reg d (1048576 + 0x40000 + 4 * i.toNat) ∧
           Sent k d K.NOGRANT t) ∧
     (Reaches (.rdValidWrite 0 d q v) s fun k =>
       k.fld d (Rf.YOKE_RD1_VALID.at q.val) = 1 → descOk
         (k.fld64 d (Rf.YOKE_RD0_BASE_LO.at q.val) (Rf.YOKE_RD1_BASE_HI.at q.val))
         (k.fld64 d (Rf.YOKE_RD2_LIMIT_LO.at q.val) (Rf.YOKE_RD3_LIMIT_HI.at q.val)) = true)) ∧
  (∀ (v : Word) (s : State), up s.chip 0 = true → s.chip.settings = [] →
     let n := getBits v 0 16
     (4 ≤ n → n * 1000 < (s.chip.d 0).tick.set.p → Gives (.yokeRtoWrite 0 v) s (s.chip.setFld 0 Rf.YOKE_RTO_TIMEOUT n)) ∧
     (n < 4 ∨ (s.chip.d 0).tick.set.p ≤ n * 1000 →
       Reaches (.yokeRtoWrite 0 v) s fun k =>
         k.fld 0 Rf.YOKE_RTO_TIMEOUT = s.chip.fld 0 Rf.YOKE_RTO_TIMEOUT ∧ Sent k 0 K.NOGRANT 0))

/-! ### Host queues -/

/-- R163, R164, R171, R188: a doorbell in range of an enabled queue is taken, another is ignored and logged; enabling
a queue starts it at entry 0, and its size is taken while it is disabled. R165, R167 to R169: a descriptor is
fetched; a malformed one completes with BADCMD and the number of its first bad word; NOP completes at once; RUN
puts its item behind the tenant's others; MOVE takes a free channel. R168, R170: the oldest completion is written
to the queue while it has room: its bytes, the next place, and PHASE, which turns at the end of the queue; a full
queue takes nothing. -/
def Obligations.HostQueuesStartAndCompleteCommands : Prop :=
  (∀ (t : Fin 256) (v : Word) (s : State), up s.chip 0 = true →
     let x := s.chip.host t
     let log := clampN 4 12 (getBits v 0 4)
     (tenEnabled s.chip t = true → x.sqEn = true → v.toNat < 2 ^ x.sqLog →
       Gives (.sqTailWrite t v) s (s.chip.setHost t { x with sqTail := v.toNat })) ∧
     (tenEnabled s.chip t = true → (x.sqEn = false ∨ 2 ^ x.sqLog ≤ v.toNat) →
       Reaches (.sqTailWrite t v) s fun k => k.host t = x ∧ Sent k 0 K.BADDB t) ∧
     (tenEnabled s.chip t = true → x.cqEn = true → v.toNat < 2 ^ x.cqLog →
       Gives (.cqHeadWrite t v) s (s.chip.setHost t { x with cqHead := v.toNat })) ∧
     (x.sqEn = false → getBits v 4 1 = 1 →
       Gives (.queueEnable t false v) s (s.chip.setHost t { x with sqEn := true, sqHead := 0, sqTail := 0 })) ∧
     (x.sqEn = false → getBits v 4 1 = 0 →
       Gives (.queueEnable t false v) s (s.chip.setHost t { x with sqLog := log })) ∧
     (x.cqEn = false → getBits v 4 1 = 1 →
       Gives (.queueEnable t true v) s
         (s.chip.setHost t { x with cqEn := true, cqHead := 0, cqTail := 0, phase := true,
                                    cqIrq := getBits v 5 1 == 1 }))) ∧
  (∀ (t : Fin 256) (c : List Word) (s : State) (i : Nat),
     let x := s.chip.host t
     let d := cmdDie c
     let j := cmdMoveJob t c
     let ready := headCmd s.chip t = some c ∧ badWord c = none ∧ tenEnabled s.chip t = true ∧ x.cmds = [c] ∧
       up s.chip d = true
     (canFetch s.chip t = true → x.cmds = [] → badWord c = none →
       Gives (.commandFetch t c) s
         (s.chip.setHost t { x with sqHead := (x.sqHead + 1) % 2 ^ x.sqLog, cmds := [c] })) ∧
     (canFetch s.chip t = true → x.cmds = [] → badWord c = some i → x.moving = false →
       (cmdFence c = true → x.open_ = 0) →
       Reaches (.commandFetch t c) s fun k =>
         ∃ q ∈ (k.host t).compl, q.cid = cmdCid c ∧ q.status = 9 ∧ q.detail = i) ∧
     (ready → cmdOp c = 0 →
       Reaches (.cmdNop t) s fun k =>
         (k.host t).cmds = [] ∧ ∃ q ∈ (k.host t).compl, q.cid = cmdCid c ∧ q.status = 0) ∧
     (ready → cmdOp c = 1 → (s.chip.workOf d t).length < 16 →
       Reaches (.cmdRun t) s fun k =>
         k.workOf d t = s.chip.workOf d t ++ [runItem t c] ∧ (k.host t).cmds = [] ∧ (k.host t).open_ = x.open_ + 1) ∧
     (ready → cmdOp c = 5 → (s.chip.d d).moveQ = [] → s.chip.moveAt d (s.chip.d d).moveTurn = none →
       (s.chip.d d).moveTurn < 2 → 0 < j.len → (moveLanes s.chip d j).isSome = true → moveBytesOk s.chip d j = true →
       Reaches (.cmdMove t) s fun k =>
         k.moveAt d (s.chip.d d).moveTurn = some j ∧ k.flag d (Rf.SPAD_MOV_STAT_BUSY.at (s.chip.d d).moveTurn) = true ∧
           (k.host t).moving = true)) ∧
  (∀ (t : Fin 256) (q : Compl) (qs : List Compl) (s : State), linkUp s.chip = true →
     let x := s.chip.host t
     let next := (x.cqTail + 1) % 2 ^ x.cqLog
     x.compl = q :: qs → x.cqEn = true →
     (next ≠ x.cqHead → x.cmds = [] → q.irq = false →
       Gives (.completionWrite t) s
         ((s.chip.hostWrite (x.cqBase.toNat + 16 * x.cqTail)
             (leBytes 4 (q.cid.toNat + q.status * 2 ^ 16 + q.die.val * 2 ^ 24) ++ leBytes 4 q.detail ++
               leBytes 4 q.sqHead ++ leBytes 4 (if x.phase then 1 else 0))).setHost t
           { x with compl := qs, cqTail := next, phase := if next = 0 then !x.phase else x.phase })) ∧
     (next = x.cqHead → Gives (.completionWrite t) s s.chip))

/-! ### SMBus -/

/-- R27, R93: a read of NOW_LO answers the low word of the time base and latches the high word for the read of NOW_HI.
R158, R159, R173: an access of the host that fits its window reaches it; one of dies 1 to 3 is sent there; one
that does not fit is an access fault and reads 0. R174, R191: a transaction starts when none runs, with the
protocol of its command; it ends with DONE and its error bits, and one whose clock stays low ends with TIMEOUT. -/
def Obligations.HostReadsAndWritesReachTheirTarget : Prop :=
  (∀ (d : Fin 4) (tick : Bool) (s : State), up s.chip d = true →
     let off := if tick then 0x34 else 4
     let key := 0x19 * 1048576 + off
     let val := if tick then (s.chip.d d).tick.num.toNat else (s.chip.now d).toNat
     s.chip.latchAt d key = none →
     Reaches (.timeNowRead 0 d tick) s fun k =>
       k.reply = .word (BitVec.ofNat 32 val) ∧ k.latchAt d (key + 4) = some (BitVec.ofNat 32 (val / 2 ^ 32))) ∧
  (∀ (u off bytes : Nat) (v w : Word) (b : BitVec 28) (data : List Byte) (s : State),
     u < 28 → off < 2 ^ 20 → off % 4 = 0 → linkUp s.chip = true →
     let bar := u * 2 ^ 20 + off
     let o := b.toNat % 2 ^ 26
     Gives (.registerWrite (.bar0 (BitVec.ofNat 28 bar)) 4 v) s (regWrite s.chip 0 0 u off v) ∧
     (let r := regRead s.chip 0 0 u off
      Gives (.registerRead (.bar0 (BitVec.ofNat 28 bar)) 4) s { r.1 with reply := .word r.2 } ∧
      Gives (.hspiRead (BitVec.ofNat 32 bar)) s { r.1 with reply := .word r.2 }) ∧
     Gives (.hspiWrite (BitVec.ofNat 32 bar) v) s (regWrite s.chip 0 0 u off v) ∧
     (2 ^ 28 ≤ w.toNat → Reaches (.hspiRead w) s fun k => k.reply = .fault) ∧
     Gives .hspiStatus s { s.chip with reply := .bytes [spiStatus s.chip] } ∧
     (b.toNat < 2 ^ 26 → hostLanesAt s.chip 0 false o bytes = none →
       Reaches (.hostLaneRead b bytes) s fun k => k.reply = .bytes (List.replicate bytes 0)) ∧
     (∀ m l bs, b.toNat < 2 ^ 26 → hostLanesAt s.chip 0 false o bytes = some (m, l) →
       (hostReadLanes (bytes / 2) s.chip 0 m l (bytes / 2)).2 = some bs →
       Reaches (.hostLaneRead b bytes) s fun k => k.reply = .bytes bs) ∧
     (∀ m l, b.toNat < 2 ^ 26 → hostLanesAt s.chip 0 true o data.length = some (m, l) →
       Gives (.hostLaneWrite b data) s (hostWriteLanes (data.length / 2) s.chip 0 m l data).1) ∧
     (2 ^ 26 ≤ b.toNat →
       Reaches (.hostLaneWrite b data) s fun k => k.remotes.length = s.chip.remotes.length + 1)) ∧
  (∀ (t : Fin 256) (v : Word) (nack pecerr : Bool) (data : List Byte) (s : State),
     let starts := fun (c : Instr) (prot : Nat) => Reaches c s fun k =>
       k.fld 0 Rf.HOST_SMB_STAT_BUSY = 1 ∧ k.fld 0 Rf.HOST_SMB_CTL_PROT = prot ∧
         k.fld 0 Rf.HOST_SMB_CTL_ADDR = getBits v 0 7 ∧ k.fld 0 Rf.HOST_SMB_CTL_CMD = getBits v 16 8
     (MayWrite s.chip 0 0x17 t → s.chip.fld 0 Rf.HOST_SMB_STAT_BUSY = 0 →
       starts (.smbSendByte t v) 1 ∧ starts (.smbReceiveByte t v) 2 ∧ starts (.smbWriteByte t v) 3 ∧
       starts (.smbReadByte t v) 4 ∧ starts (.smbWriteWord t v) 5 ∧ starts (.smbReadWord t v) 6 ∧
       starts (.smbBlockWrite t v) 7 ∧ starts (.smbBlockRead t v) 8) ∧
     (MayWrite s.chip 0 0x17 t → s.chip.fld 0 Rf.HOST_SMB_STAT_BUSY = 1 → Gives (.smbSendByte t v) s s.chip) ∧
     (up s.chip 0 = true → s.chip.fld 0 Rf.HOST_SMB_STAT_BUSY = 1 →
       (Reaches (.smbTransactionEnd nack pecerr data) s fun k =>
         k.fld 0 Rf.HOST_SMB_STAT_BUSY = 0 ∧ k.fld 0 Rf.HOST_SMB_STAT_DONE = 1 ∧
           (nack = true → k.fld 0 Rf.HOST_SMB_STAT_NACK = 1)) ∧
       Reaches .smbTimeout s fun k =>
         k.fld 0 Rf.HOST_SMB_STAT_BUSY = 0 ∧ k.fld 0 Rf.HOST_SMB_STAT_DONE = 1 ∧
           k.fld 0 Rf.HOST_SMB_STAT_TIMEOUT = 1))

/-! ### The energy ledger and thermal control -/

/-- R192, R195, R197: a sample at a whole µs adds its metered channels to ENERGY and to what is owed to die 0; a total
that reaches die 0 leaves the queue, and the timer sends one while ticks do not run. R199: RESV_HI loads the
reservoir from both halves and discards the totals on their way; RESV_ADJ adds a signed number, held between 0 and
2^40 - 1. -/
def Obligations.EnergyAndReservoirAreCounted : Prop :=
  (∀ (d : Fin 4) (ch : List Nat) (e : Nat) (es : List Nat) (s : State), up s.chip d = true →
     let l := s.chip.led d
     let sum := sampleSum d 0 (ch.take 11)
     ((s.chip.now d).toNat % 1000 = 0 →
       Reaches (.energySample d ch) s fun k =>
         (k.led d).energy = l.energy + BitVec.ofNat 64 sum ∧ (k.led d).unsent = l.unsent + sum ∧
           (k.led d).bal = l.bal) ∧
     (ticking s.chip d = false → (s.chip.now d).toNat % 65536 = 0 →
       Gives (.energyReportTimer d) s
         (s.chip.upd d fun x => { x with ledger := { x.ledger with
           totals := x.ledger.totals ++ [x.ledger.unsent], unsent := 0, sentAt := s.chip.now d } })) ∧
     (up s.chip 0 = true → l.totals = e :: es → resvEn s.chip = false →
       Gives (.energyTotal d) s (s.chip.upd d fun x => { x with ledger := { x.ledger with totals := es } })) ∧
     (up s.chip 0 = true → l.totals = e :: es → resvEn s.chip = true → 0 < s.chip.reservoir →
       Reaches (.energyTotal d) s fun k =>
         k.reservoir * 1000 + k.reservoirRem = s.chip.reservoir * 1000 + s.chip.reservoirRem - e)) ∧
  (∀ (t : Fin 256) (v : Word) (s : State), MayWrite s.chip 0 2 t →
     (Reaches (.resvHiWrite t v) s fun k =>
       k.reservoir = s.chip.fld 0 Rf.LEDGER_RESV_LO_RESV + 2 ^ 32 * getBits v 0 8 ∧ k.reservoirRem = 0 ∧
         ∀ d, (k.led d).totals = []) ∧
     (Reaches (.resvAdjWrite t v) s fun k =>
       k.reservoir = (min (2 ^ 40 - 1) (max 0 ((s.chip.reservoir : Int) + v.toInt))).toNat ∧
         k.reservoirRem = s.chip.reservoirRem ∧ ∀ d, (k.led d).totals = (s.chip.led d).totals))

/-- R207 to R209, R244: a request that no check refuses is taken from the balance and counted; one refused leaves
every balance and reservation as it was. R221 to R223, R225, R226: a cap on its way arrives; a cap window ends
with the next level and a new window; at THR the die halves its rate, and again after 1 ms; at 160 degrees it
stops the device. -/
def Obligations.ReservationsCapsAndThermalSteps : Prop :=
  (∀ (s : Chip) (d : Fin 4) (t : Fin 256) (x : Nat),
     (refusal s d t x = none →
       (reserve s d t x).2 = none ∧ balOf (reserve s d t x).1 d t = clampBal (balOf s d t - x) ∧
         ((reserve s d t x).1.led d).resvd = (s.led d).resvd + x) ∧
     (∀ r, refusal s d t x = some r →
       (reserve s d t x).2 = some r ∧ ((reserve s d t x).1.led d).bal = (s.led d).bal ∧
         ((reserve s d t x).1.led d).resvd = (s.led d).resvd ∧ ((reserve s d t x).1.led d).rt = (s.led d).rt)) ∧
  (∀ (d : Fin 4) (temps : List (BitVec 12)) (junction : Int) (c : Nat) (t0 : Time) (s : State), up s.chip d = true →
     let l := s.chip.led d
     let level := s.chip.fld d Rf.LEDGER_STAT_CAPLEVEL
     (l.capSent = some c →
       Gives (.dieCap d) s
         (s.chip.upd d fun x => { x with ledger := { x.ledger with capSent := none, capNew := some c } })) ∧
     ((s.chip.now d).toNat % 64000 = 0 →
       Reaches (.capWindowEnd d) s fun k =>
         (k.led d).win = 0 ∧
           k.fld d Rf.LEDGER_STAT_CAPLEVEL = nextLevel (dieCapMw s.chip d) l.win level % 2 ^ Rf.LEDGER_STAT_CAPLEVEL.w) ∧
     (temps.length = 8 →
       Reaches (.sensorUpdate d temps) s fun k =>
         (∀ i (h : i < temps.length), k.fld d (Rf.LEDGER_TEMP_TEMP.at i) = temps[i].toNat) ∧
           (thrQ s.chip d ≤ highestTemp k d → s.chip.fld d Rf.LEDGER_STAT_THERMDIV = 0 →
             k.fld d Rf.LEDGER_STAT_THERMDIV = 1)) ∧
     (s.chip.fld d Rf.LEDGER_STAT_THERMDIV = 1 → l.hot = some t0 → 1000000 ≤ (s.chip.now d - t0).toNat →
       Reaches (.thermalStep d) s fun k => k.fld d Rf.LEDGER_STAT_THERMDIV = 2) ∧
     (160 ≤ junction →
       Reaches (.thermalTrip d junction) s fun k =>
         k.stop.thermal = true ∧ alive k = false ∧ k.aol.length ≤ max s.chip.aol.length 32) ∧
     (junction < 156 → Gives (.thermalTrip d junction) s s.chip))

/-! ### Basting -/

/-- R267: the combined outcome stitches a tenant exactly when its reason mask is empty, and a reason that any die has
reported against it is in the mask. R271, R272: what a resolution makes of a word of the tenant: stitched, it is
committed and keeps its data; unpicked, it has its committed value again, and an INGEST word is VOID. Words of
other tenants stay as they are. -/
def Obligations.StitchKeepsAndUnpickRestores : Prop :=
  (∀ (s : Chip) (v : Verdict), v ∈ combine s →
     (v.stitch = true ↔ v.reasons = 0) ∧
     (∀ d rep, s.resolve.got.get d = some rep → ∀ r ∈ rep.tens, r.ten = v.ten → r.reasons ≠ 0 → v.stitch = false)) ∧
  (∀ (t : Fin 256) (w : MWord) (sh : Shadow), w.ten = t →
     (w.tag = .basted → (stitchWord t w).tag = .committed ∧ (stitchWord t w).data = w.data) ∧
     (w.tag = .ingest → (stitchWord t w).tag = .committed ∧ (stitchWord t w).data = w.data ∧
       (unpickWord t w).tag = .void) ∧
     (w.tag = .basted → w.shadow = some sh →
       (unpickWord t w).data = sh.data ∧ (unpickWord t w).written = sh.written ∧
         (unpickWord t w).tag = if sh.void then .void else .committed) ∧
     (∀ u, w.ten ≠ u → stitchWord u w = w ∧ unpickWord u w = w))

/-- R268, R269: at S + 32 a die reports once; die 0 gathers the reports; with all of them it sends one outcome, which
each die takes. R269, R271, R272: the outcome is applied once, from S + 96 on; write-back frees one shadow entry
at a time; a drained entry of DRAM leaves the buffer; a quiet cluster is idle. -/
def Obligations.BasteOutcomeIsReachedAndAppliedOnce : Prop :=
  (∀ (d : Fin 4) (r : Report) (v : List Verdict) (s : State), up s.chip d = true → up s.chip 0 = true →
     let b := (s.chip.d d).baste
     (b.reported = false → sinceStitch s.chip d 32 = true → d ≠ 0 →
       Gives (.basteReport d) s
         (s.chip.upd d fun x => { x with baste := { x.baste with reported := true, report := some (reportOf s.chip d) } })) ∧
     (b.reported = false → sinceStitch s.chip d 32 = true → d = 0 →
       Reaches (.basteReport d) s fun k =>
         k.resolve.got.get 0 = some (reportOf s.chip 0) ∧ (k.d 0).baste.reported = true) ∧
     (sinceStitch s.chip d 32 = false → Gives (.basteReport d) s s.chip) ∧
     (b.report = some r → s.chip.resolve.late.get d = false →
       Reaches (.basteReportMsg d) s fun k => k.resolve.got.get d = some r ∧ (k.d d).baste.report = none) ∧
     (s.chip.resolve.outcome = none → (s.chip.d 0).baste.outcome = none → sinceStitch s.chip 0 64 = true →
       (∀ e, heardOf s.chip e = true) →
       Reaches .basteOutcomeSend s fun k =>
         k.resolve.outcome = some (combine s.chip) ∧ (k.d 0).baste.outcome = some (combine s.chip) ∧
           ∀ e, e ≠ 0 → (k.d e).baste.sent = some (combine s.chip)) ∧
     (s.chip.resolve.outcome = none → (s.chip.d 0).baste.outcome = none → sinceStitch s.chip 0 192 = true →
       heardOf s.chip d = false →
       Reaches .basteReportTimeout s fun k => k.resolve.late.get d = true ∧ Sent k 0 K.BSTLATE 0) ∧
     (b.sent = some v →
       Gives (.basteOutcome d) s
         (s.chip.upd d fun x => { x with baste := { x.baste with sent := none, outcome := some v } }))) ∧
  (∀ (d : Fin 4) (c : Fin 192) (vs : List Verdict) (e : Mem × Nat × Fin 256) (es : List (Mem × Nat × Fin 256))
     (b : BufEntry) (bs : List BufEntry) (s : State), up s.chip d = true →
     let x := (s.chip.d d).baste
     (x.outcome = some vs → x.applied = false → sinceStitch s.chip d 96 = true →
       Reaches (.basteApply d) s fun k => (k.d d).baste.applied = true) ∧
     (x.applied = true → Gives (.basteApply d) s s.chip) ∧
     (x.back = e :: es →
       Gives (.shadowWriteback d false) s (s.chip.upd d fun y => { y with baste := { y.baste with back := es } })) ∧
     (x.drain = b :: bs → (∃ a data, b.w = .dram a data ∧ addrDie (BitVec.ofNat 40 a) = d) →
       Reaches (.basteDrainEntry d) s fun k => (k.d d).baste.drain = bs) ∧
     ((s.chip.cluster d c.val).st = .stopping → (s.chip.cluster d c.val).xq = [] → (s.chip.d d).ran = [] →
       Reaches (.clusterQuiet d c) s fun k => (k.cluster d c.val).st = .idle))

/-! ### Clocks, regions, fabric ports and lane memories -/

/-- R304 to R306, R327, R329, R330, R339: a PLL that is enabled takes its settings when its limits hold, and locks; one
that unlocks says so; a lost source of a jitter-cleaning PLL is left for the other, or held over; a network without its
source goes to its backup under AUTO and stops otherwise, and a switch ends on the wanted source. -/
def Obligations.PllsAndNetworksFollowTheirSources : Prop :=
  ∀ (t : Fin 256) (d : Fin 4) (k : Fin 6) (j : Fin 2) (i : Fin 8) (g : Fin 16) (v : Word) (khz : BitVec 20) (quiet : Nat)
    (s : State), MayWrite s.chip d 4 t →
    let c := s.chip
    let en := c.setReg d (pllEnF k.val).key (v &&& 0x8000003F)
    let p := c.pll d (4 + j.val)
    let onB := c.flag d (Rf.CLK_JC_STAT_ACTIVE_B.at j.val)
    let active := if onB then p.srcB else p.src
    let other := if onB then p.src else p.srcB
    let src := getBits v 0 6
    let back := getBits v 8 6
    let gOk := gselCode src = true ∧ gselCode back = true ∧ (nominalOf c d src).atMost 650000 = true ∧
      (nominalOf c d back).atMost 650000 = true
    (k.val < 4 → getBits v 31 1 = 1 → c.flag d (pllEnF k.val) = false →
      Gives (.pllEnable t d k v) s
        (if pllOk en d k.val (pllTake en d k.val) then
          (en.setFld d (pllBadF k.val) 0).setPll d k.val (pllTake en d k.val)
         else en.setFld d (pllBadF k.val) 1)) ∧
    Gives (.pllFracWrite t d k v) s (c.setFld d (pllFracF k.val) (getBits v 0 24)) ∧
    ((c.pll d k.val).on = true → c.flag d (pllLockF k.val) = false →
      Reaches (.pllLock d k) s fun x => x.flag d (pllLockF k.val) = true ∧ (x.d d).plls = (c.d d).plls) ∧
    (c.flag d (pllLockF k.val) = true →
      Reaches (.pllUnlock d k) s fun x =>
        x.flag d (pllLockF k.val) = false ∧ x.flag d (pllUnlF k.val) = true ∧ Sent x d K.PLLUNLK 0) ∧
    (p.on = true → srcRuns c d active = false → c.flag d (Rf.CLK_JC_SRC_AUTO.at j.val) = true →
      srcRuns c d other = true →
      Gives (.jcSourceLoss d j) s
        ((c.setFld d (Rf.CLK_JC_STAT_ACTIVE_B.at j.val) (b2n !onB)).setFld d (Rf.CLK_JC_STAT_HOLDOVER.at j.val) 0)) ∧
    (p.on = true → srcRuns c d active = false →
      (c.flag d (Rf.CLK_JC_SRC_AUTO.at j.val) = false ∨ srcRuns c d other = false) →
      Gives (.jcSourceLoss d j) s (c.setFld d (Rf.CLK_JC_STAT_HOLDOVER.at j.val) 1)) ∧
    (Reaches (.ckinMeasure d i khz) s fun x =>
      x.fld d (Rf.CLK_CKIN_FREQ_FREQ.at i.val) = khz.toNat ∧
        (khz ≠ 0 → bit (x.fld d Rf.CLK_CKIN_STAT_PRESENT) i.val = true)) ∧
    (512 ≤ quiet → bit (c.fld d Rf.CLK_CKIN_STAT_PRESENT) i.val = true →
      Reaches (.ckinLost d i quiet) s fun x =>
        bit (x.fld d Rf.CLK_CKIN_STAT_PRESENT) i.val = false ∧ bit (x.fld d Rf.CLK_CKIN_STAT_LOST) i.val = true) ∧
    (quiet < 512 → Gives (.ckinLost d i quiet) s c) ∧
    (c.flag d (Rf.CLK_GSEL_AUTO.at g.val) = true → c.flag d (Rf.CLK_GSEL_ON_BACKUP.at g.val) = false →
      srcRuns c d (c.fld d (Rf.CLK_GSEL_BACKUP.at g.val)) = true →
      (netLost c d g.val).flag d (Rf.CLK_GSEL_ON_BACKUP.at g.val) = true ∧ Sent (netLost c d g.val) d K.CKSWITCH 0) ∧
    (c.flag d (Rf.CLK_GSEL_AUTO.at g.val) = false →
      (netLost c d g.val).flag d (Rf.CLK_GSEL_STOPPED.at g.val) = true ∧ Sent (netLost c d g.val) d K.CKSTOP 0) ∧
    (gOk →
      Gives (.gselWrite t d g v) s
        ((c.setReg d (Rf.CLK_GSEL_SRC.at g.val).key (v &&& 0x0000FF3F)).setNet d g.val
          { c.net d g.val with sw := true, force := getBits v 16 1 == 1 })) ∧
    (¬ gOk → Reaches (.gselWrite t d g v) s fun x => Sent x d K.NOGRANT t ∧ x.net d g.val = c.net d g.val) ∧
    ((c.net d g.val).sw = true → (c.net d g.val).force = true →
      Gives (.clockSwitchComplete d g) s
        ((c.setNet d g.val { src := netWant c d g.val }).setFld d (Rf.CLK_GSEL_STOPPED.at g.val)
          (b2n (netWant c d g.val != 63 && !srcRuns c d (netWant c d g.val)))))

/-- R313, R315, R319, R320, R326, R784: a domain on a running network leaves reset; the owner of a region without a grant
changes RESET alone; a reload drains its ports, writes the region, and ends by lifting the isolation. -/
def Obligations.RegionsResetAndReload : Prop :=
  ∀ (t : Fin 256) (d : Fin 4) (g : Fin 16) (r : Fin 64) (v : Word) (q : Reload) (s : State), up s.chip d = true →
    let c := s.chip
    let isolate := Rf.CLK_REGION_CTL_ISOLATE.at r.val
    let reset := Rf.CLK_REGION_CTL_RESET.at r.val
    let isoval := Rf.CLK_REGION_CTL_ISOVAL.at r.val
    let busy := c.flag d (Rf.CLK_REGION_CTL_RELOADING.at r.val)
    (domainReset c d g.val = false → netRuns c d g.val = true →
      Gives (.fabricResetRelease d g) s
        (c.upd d fun x => { x with domRun := mapPut (fun _ => false) x.domRun g.val true })) ∧
    (domainReset c d g.val = true → Gives (.fabricResetRelease d g) s c) ∧
    (granted c d 4 t = true → busy = false →
      Gives (.regionResetWrite t d r v) s
        (((c.setFld d isolate (getBits v 0 1)).setFld d reset (getBits v 1 1)).setFld d isoval (getBits v 2 1))) ∧
    (granted c d 4 t = true → busy = true → Gives (.regionResetWrite t d r v) s (c.setFld d isoval (getBits v 2 1))) ∧
    (granted c d 4 t = false → regionOwner c d r.val = t → busy = false →
      Gives (.regionResetWrite t d r v) s (c.setFld d reset (getBits v 1 1))) ∧
    (granted c d 4 t = false → regionOwner c d r.val ≠ t →
      Gives (.regionResetWrite t d r v) s (refusedWrite c d t reset)) ∧
    ((c.d d).reload = some q → portsDrained c d q.region = true →
      Gives (.regionDrained d) s (c.upd d fun x => { x with reload := some { q with drained := true } })) ∧
    ((c.d d).reload = some q → portsDrained c d q.region = false → Gives (.regionDrained d) s c) ∧
    ((c.d d).reload = some q → q.drained = true → q.written = false → (reloadBody c d q).2 = 0 → q.region < 64 →
      Reaches (.reloadFramesDone d) s fun x =>
        x.fld d (Rf.CLK_REGION_CTL_RELOADING.at q.region) = 0 ∧ x.fld d (Rf.CLK_REGION_CTL_RESET.at q.region) = 0 ∧
          (x.d d).reload = some { q with written := true }) ∧
    ((c.d d).reload = some q → q.written = true → (c.d d).reloadQ = [] → q.region < 64 →
      Reaches (.regionIsolateClear d) s fun x =>
        x.fld d (Rf.CLK_REGION_CTL_ISOLATE.at q.region) = 0 ∧ (x.d d).reload = none ∧
          Sent x d K.RLDDONE (regionOwner c d q.region))

/-- R371 to R374, R377: a register move in range starts on its channel; a channel that has finished an outward move
reads idle with what it moved. R321 to R324, R335, R337: a scratchpad port holds up to 32 requests and serves the
oldest; a DRAM port takes requests while it is open, and returns its oldest access. -/
def Obligations.MoversAndFabricPortsServeInOrder : Prop :=
  (∀ (t : Fin 256) (d : Fin 4) (m : Fin 4) (v : Word) (data : List Byte) (s : State), MayWrite s.chip d 5 t →
     2 ≤ m.val → s.chip.flag d (Rf.SPAD_MOV_STAT_BUSY.at m.val) = false →
     let s1 := ((s.chip.setFld d (Rf.SPAD_MOV_CTL_DIR.at m.val) (getBits v 0 1)).setFld d
       (Rf.SPAD_MOV_CTL_LAYOUT.at m.val) (getBits v 1 1)).setFld d (Rf.SPAD_MOV_CTL_TENANT.at m.val) (getBits v 8 8)
     let j := regMove s1 d m.val
     (bit v.toNat 31 = false → Gives (.moverGo t d m v) s s1) ∧
     (bit v.toNat 31 = true → 0 < j.len → (moveLanes s1 d j).isSome = true → moveBytesOk s1 d j = true →
       Reaches (.moverGo t d m v) s fun k =>
         k.moveAt d m.val = some j ∧ k.flag d (Rf.SPAD_MOV_STAT_BUSY.at m.val) = true) ∧
     (∀ q mem l r, s.chip.moveAt d m.val = some q → q.cmd = none → q.out = true →
       laneAt (q.lane % 2 ^ 38) = some (mem, l) → banksReady s.chip d mem (l / 4) q.len = (r, true) →
       (s.chip.d d).moveQ = [] → (readRun q.len r d mem (l / 4)).2.2 = none →
       Reaches (.moverComplete d m data) s fun k =>
         k.moveAt d m.val = none ∧ k.flag d (Rf.SPAD_MOV_STAT_BUSY.at m.val) = false)) ∧
  (∀ (d : Fin 4) (p : Fin 16) (q : Fin 8) (wr : Bool) (lane : BitVec 38) (en : BitVec 4) (data : BitVec 56)
     (addr : BitVec 40) (den : BitVec 64) (bytes : List Byte) (r : PortReq) (rs : List PortReq) (e : PortRead)
     (es : List PortRead) (s : State), up s.chip d = true →
     let c := s.chip
     let new : PortReq := { wr := wr, lane := lane.toNat, en := en.toNat, data := data }
     let t := portTenant c d (sportGrain p.val) (Rf.CLK_SPORT_TENANT.at p.val)
     let open_ := portTakes c d (sportGrain p.val) (Rf.CLK_SPORT_EN.at p.val)
     (open_ = true → (c.sportQ d p.val).length < 32 →
       Gives (.sportRequest d p wr lane en data) s (c.setSportQ d p.val (c.sportQ d p.val ++ [new]))) ∧
     ((open_ = false ∨ 32 ≤ (c.sportQ d p.val).length) → Gives (.sportRequest d p wr lane en data) s c) ∧
     (c.sportQ d p.val = r :: rs → sportWord c d t r = none →
       Reaches (.sportResponse d p) s fun k =>
         k.sportQ d p.val = rs ∧ k.reply = .fault ∧ k.fld 0 (Rf.YOKE_TEN_CTL_FAULTED.at t.val) = 1) ∧
     (∀ m w, c.sportQ d p.val = r :: rs → sportWord c d t r = some (m, w) → r.wr = true →
       (writeMem c d m w r.en r.data .plain).2 = .done →
       Reaches (.sportResponse d p) s fun k =>
         k.sportQ d p.val = rs ∧ k.reply = .none ∧ k.word d m w = (writeMem c d m w r.en r.data .plain).1.word d m w) ∧
     (∀ m w x b, c.sportQ d p.val = r :: rs → sportWord c d t r = some (m, w) → r.wr = false →
       (readMem c d m w 15 .far).2 = .val x b →
       Reaches (.sportResponse d p) s fun k => k.sportQ d p.val = rs ∧ k.reply = .lanes x) ∧
     ((portTakes c d (dportGrain q.val) (Rf.CLK_DPORT_EN.at q.val) = false ∨ den = 0) →
       Gives (.dportRequest d q wr addr den bytes) s c) ∧
     (let a := addr.toNat / 64 * 64 + (enSpan den).1
      let ten := portTenant c d (dportGrain q.val) (Rf.CLK_DPORT_TENANT.at q.val)
      portTakes c d (dportGrain q.val) (Rf.CLK_DPORT_EN.at q.val) = true → den ≠ 0 →
      c.fld d (Rf.CLK_DPORT_OUTSTANDING.at q.val) < 32 →
      permitted c d ten false (a % 2 ^ 38) (enSpan den).2 = true → a / 2 ^ 38 ≠ d.val →
      Reaches (.dportRequest d q false addr den bytes) s fun k =>
        k.remotes.length = c.remotes.length + 1 ∧
          k.dportQ d q.val = c.dportQ d q.val ++ [{ wr := false, id := some c.nextId, data := .none, ten := ten }]) ∧
     (∀ l, c.dportQ d q.val = e :: es → e.data = .bytes l →
       Gives (.dportResponse d q) s { c.setDportQ d q.val es with reply := .bytes l }) ∧
     (c.dportQ d q.val = e :: es → e.data = .none → Gives (.dportResponse d q) s c))

/-- R350 to R353, R360, R361, R368, R369, R376, R378, R391: a block memory port writes the lanes enabled and reads a
word; a FIFO takes words up to 1,024, gives the oldest, and shows overflow and underflow; a bank goes through its
transition to the state asked for, and loses its words in the state that keeps none; an injection register takes its
fields; a wipe empties the Lining and says so. -/
def Obligations.LaneMemoryCommandsAct : Prop :=
  ∀ (t : Fin 256) (d : Fin 4) (b : Fin 1536) (portB : Bool) (w : Fin 1024) (en : BitVec 4) (data : BitVec 56)
    (k : Fin 32) (v : Word) (s : State), up s.chip d = true →
    let c := s.chip
    let i := 1024 * b.val + w.val
    let n := c.fld d (Rf.BMEM_MODE_COUNT.at b.val)
    let f := fifoAt c d b.val
    let dest := mapGet (fun _ => 0) (c.d d).bankTo k.val
    let req := if getBits v 0 2 = 3 then 0 else getBits v 0 2
    (isFifo c d b.val = false →
      Gives (.bmemPortAccess d b portB true w en data) s (writeWord c d .bmem i en.toNat data .plain).1) ∧
    (∀ q y, isFifo c d b.val = false → (readWord c d .bmem i 15 .far).2 = .val q y →
      Reaches (.bmemPortAccess d b portB false w en data) s fun x => x.reply = .lanes q) ∧
    (isFifo c d b.val = true → n < 1024 →
      Reaches (.bmemFifoWrite d b data) s fun x => x.fld d (Rf.BMEM_MODE_COUNT.at b.val) = n + 1) ∧
    (isFifo c d b.val = true → 1024 ≤ n →
      Gives (.bmemFifoWrite d b data) s (c.setFld d (Rf.BMEM_MODE_OVERFLOW.at b.val) 1)) ∧
    (isFifo c d b.val = true → n = 0 →
      Gives (.bmemFifoRead d b) s
        { c.setFld d (Rf.BMEM_MODE_UNDERFLOW.at b.val) 1 with reply := .lanes f.last }) ∧
    (∀ q y, isFifo c d b.val = true → 0 < n → (readWord c d .bmem (1024 * b.val + f.head) 15 .far).2 = .val q y →
      Reaches (.bmemFifoRead d b) s fun x =>
        x.reply = .lanes q ∧ x.fld d (Rf.BMEM_MODE_COUNT.at b.val) = n - 1 ∧
          fifoAt x d b.val = { head := (f.head + 1) % 1024, last := q }) ∧
    (granted c d 5 t = true → c.fld d (Rf.SPAD_BANK_STATE.at k.val) ≠ req →
      (c.fld d (Rf.SPAD_BANK_STATE.at k.val) = 0 → bankCovered c d k.val = false) →
      Reaches (.bankReqWrite t d k v) s fun x =>
        x.fld d (Rf.SPAD_BANK_REQ.at k.val) = req ∧ x.fld d (Rf.SPAD_BANK_STATE.at k.val) = 3 ∧
          mapGet (fun _ => 0) (x.d d).bankTo k.val = req) ∧
    (c.fld d (Rf.SPAD_BANK_STATE.at k.val) = 3 → dest = 1 →
      Gives (.bankStateDone d k) s (c.setFld d (Rf.SPAD_BANK_STATE.at k.val) 1)) ∧
    (c.fld d (Rf.SPAD_BANK_STATE.at k.val) = 3 → dest = 2 →
      Reaches (.bankStateDone d k) s fun x =>
        x.fld d (Rf.SPAD_BANK_STATE.at k.val) = 2 ∧
          ∀ j, (x.word d .spad j) = if j % 32 = k.val then {} else c.word d .spad j) ∧
    (c.fld d (Rf.SPAD_BANK_STATE.at k.val) = 3 → dest = 0 → (c.d d).ingestQ = [] →
      Gives (.bankWakeDone d k) s (c.setFld d (Rf.SPAD_BANK_STATE.at k.val) 0)) ∧
    (granted c d 5 t = true →
      Reaches (.spadInjectWrite t d v) s fun x =>
        x.fld d Rf.SPAD_INJECT_MASK = getBits v 0 20 ∧ x.fld d Rf.SPAD_INJECT_LANE = getBits v 20 2 ∧
          x.fld d Rf.SPAD_INJECT_ARM = getBits v 31 1 ∧ StoresKept c x) ∧
    (granted c d 6 t = true →
      Reaches (.bmemInjectWrite t d v) s fun x =>
        x.fld d Rf.BMEM_INJECT_MASK = getBits v 0 20 ∧ x.fld d Rf.BMEM_INJECT_LANE = getBits v 20 2 ∧
          x.fld d Rf.BMEM_INJECT_ARM = getBits v 31 1 ∧ StoresKept c x) ∧
    (cfgLoading c = false →
      Reaches (.liningWipe 0 d) s fun x => ∀ e, x.fld e Rf.LINING_STAT_WIPING = 1) ∧
    (t ≠ 0 → Gives (.liningWipe t d) s (refusedWrite c d t Rf.LINING_CTL_WIPE)) ∧
    (c.flag d Rf.LINING_STAT_WIPING = true →
      Reaches (.liningWipeDone d) s fun x =>
        (x.d d).lining = [] ∧ x.fld d Rf.LINING_STAT_WIPING = 0 ∧ x.fld d Rf.LINING_STAT_WIPED = 1 ∧ Sent x d K.LINWIPE 0)

/-! ### Configuration -/

namespace Sys2Proof.Says

/-- The first word of a stream command: opcode `op` over the operand bits `b` (R736). -/
def cmdWord (op b : Nat) : Word := BitVec.ofNat 32 (op * 2 ^ 24 + b)

/-- Words that stand behind their own count. -/
def countedWords (cmp : Bool) (ws : List Word) : List Word := if cmp then BitVec.ofNat 32 ws.length :: ws else ws

/-- The words that spell a command of the configuration stream, from the table of R737 and the layouts of R738 to R744. -/
def streamWords (i : Instr) : List Word :=
  match i with
  | .cSync => [cmdWord 0x01 0x5AC3E1]
  | .cDie d => [cmdWord 0x02 d.val]
  | .cFrameaddr f => [cmdWord 0x03 f.toNat]
  | .cFramewrite n cmp data => cmdWord 0x04 (n + b2n cmp * 2 ^ 16) :: countedWords cmp data
  | .cRegwrite u off v => [cmdWord 0x05 (u.val * 2 ^ 18 + off.toNat), v]
  | .cRegionbegin r a b => [cmdWord 0x06 (r.val + a.toNat * 2 ^ 6 + b.toNat * 2 ^ 13)]
  | .cRegionend r => [cmdWord 0x07 r.val]
  | .cCheck crc => [cmdWord 0x08 0, crc]
  | .cWait us => [cmdWord 0x09 us.toNat]
  | .cWaitPoll us u off mask v => [cmdWord 0x09 (us.toNat + 2 ^ 23), cmdWord 0 (u.val * 2 ^ 18 + off.toNat), mask, v]
  | .cWaitRequire us u off mask v =>
    [cmdWord 0x09 (us.toNat + 2 ^ 22 + 2 ^ 23), cmdWord 0 (u.val * 2 ^ 18 + off.toNat), mask, v]
  | .cImageid lo hi => [cmdWord 0x0A 0, lo, hi]
  | .cLoadmem region n cmp lane data =>
    cmdWord 0x0B (n + b2n cmp * 2 ^ 20 + region.val * 2 ^ 21) :: lane :: countedWords cmp data
  | .cLoadcodeYoke a ws => cmdWord 0x0C (a.toNat + 2 ^ 23) :: countedWords true ws
  | .cLoadcodeRentik set image => cmdWord 0x0C set.toNat :: image
  | .cEnd => [cmdWord 0x0D 0]
  | _ => []

/-- The words of a command that counts its own fit the count: at most 2^32 - 1 of them, and a Rentik image is as long as
its header says (R426). -/
def streamFits (i : Instr) : Prop :=
  match i with
  | .cFramewrite _ _ data => data.length < 2 ^ 32
  | .cLoadmem _ _ _ _ data => data.length < 2 ^ 32
  | .cLoadcodeYoke _ ws => ws.length < 2 ^ 32
  | .cLoadcodeRentik _ image => imageLen image = image.length
  | _ => True

/-- Command `i`, in `n` words, stands next in the stream of a load that goes on. -/
abbrev StreamNext (s : Chip) (i : Instr) (n : Nat) : Prop :=
  up s 0 = true ∧ cfgLoading s = true ∧ s.cfg.header = true ∧ s.cfg.release = none ∧ loadLost s = false ∧
    (s.d 0).cfg.wait = none ∧ (s.cfg.open_ = true → inSection i = true) ∧ cfgDecode s.cfg.words = .cmd i n

/-- The words behind the next `n` can follow them. -/
abbrev StreamGoesOn (s : Chip) (n : Nat) : Prop := badNext { s.cfg with words := s.cfg.words.drop n } = false

/-- The load has failed with cause `c`. -/
abbrev LoadFailed (k : Chip) (c : Nat) : Prop := k.fld 0 Rf.CFG_STAT_STATE = 3 ∧ k.fld 0 Rf.CFG_STAT_CAUSE = c

/-- A load has begun from source `src`. -/
abbrev LoadBegun (k : Chip) (src : Nat) : Prop :=
  k.fld 0 Rf.CFG_STAT_STATE = 1 ∧ k.cfg.started = true ∧ k.cfg.src = src ∧ k.cfg.header = false ∧ k.cfg.words = []

end Sys2Proof.Says

/-- R736 to R744: the words of every well-formed command of the stream, with whatever follows them, decode to that command
with every operand, and to its number of words. -/
def Obligations.StreamWordsDecodeToTheirCommand : Prop :=
  ∀ (i : Instr) (rest : List Word), i.wf = true → streamWords i ≠ [] → streamFits i →
    cfgDecode (streamWords i ++ rest) = .cmd i (streamWords i).length

/-- R737 to R748: each command of the stream that stands next and passes its checks, addressed to die 0, does what
its row says: it selects a die, moves the frame pointer, writes frames, registers, memory or code, opens and closes a
region section, waits or polls, checks the running CRC (failing the load on a mismatch), takes the image number, and
ends the load. A command addressed to another die waits there, and CONFIG_FORWARD runs the oldest one. -/
def Obligations.StreamCommandsTakeEffect : Prop :=
  ∀ (n : Nat) (s : State),
    let c := s.chip
    let next := fun (i : Instr) => StreamNext c i n ∧ StreamGoesOn c n
    let at0 := fun (i : Instr) => next i ∧ c.cfg.die = 0
    let t := streamTake c n false
    let eng := fun (f : CfgDie → CfgDie) => t.onEngine 0 f
    let x := (c.d 0).cfg
    (StreamNext c .cSync n → Reaches .cSync s fun k => k.cfg.synced = true ∧ k.cfg.die = 0) ∧
    (∀ d, next (.cDie d) → (d = 0 ∨ x.ids ≠ 0) → Gives (.cDie d) s (t.onCfg fun y => { y with die := d })) ∧
    (∀ f, at0 (.cFrameaddr f) → f.toNat < 196608 →
      Gives (.cFrameaddr f) s (eng fun y => { y with fptr := f.toNat })) ∧
    (∀ m cmp data ws, at0 (.cFramewrite m cmp data) → frameData m cmp data = some ws → x.fptr + m ≤ 196608 →
      x.sec = none → (∀ g, g < 96 → regionOfGrain c 0 g = none) →
      Reaches (.cFramewrite m cmp data) s fun k =>
        (k.d 0).cfg.fptr = x.fptr + m ∧
          ∀ i, i < ws.length → mapGet (fun _ => 0) (k.d 0).frames (40 * x.fptr + i) = ws.getD i 0) ∧
    (∀ u off v, at0 (.cRegwrite u off v) → regAddrOk (u.val * 2 ^ 24 + 4 * off.toNat) = true → u.val ≠ 0x11 →
      u.val ≠ Rf.TIME_TICK_CTL_RUN.unit → (regWrite t 0 0 u.val (4 * off.toNat) v).cfg = t.cfg →
      Gives (.cRegwrite u off v) s (regWrite t 0 0 u.val (4 * off.toNat) v)) ∧
    (∀ r a b, at0 (.cRegionbegin r a b) → a.toNat < 96 → b.toNat < 96 → a.toNat % 12 ≤ b.toNat % 12 →
      a.toNat / 12 ≤ b.toNat / 12 → x.framed = false → r.val ∉ x.decl →
      (∀ g, g < 96 → inRect a.toNat b.toNat g = true → g ∉ [0, 11, 84, 95] ∧ regionOfGrain c 0 g = none) →
      Reaches (.cRegionbegin r a b) s fun k =>
        k.fld 0 (Rf.CLK_REGION_FIRST.at r.val) = a.toNat ∧ k.fld 0 (Rf.CLK_REGION_LAST.at r.val) = b.toNat ∧
          k.flag 0 (Rf.CLK_REGION_VALID.at r.val) = true ∧ (k.d 0).cfg.sec = some r.val ∧ k.cfg.open_ = true) ∧
    (∀ r, at0 (.cRegionend r) → x.sec = some r.val →
      Reaches (.cRegionend r) s fun k => (k.d 0).cfg.sec = none ∧ k.cfg.open_ = false ∧ (k.d 0).frames = (c.d 0).frames) ∧
    (∀ v, next (.cCheck v) → v.toNat = chkFinal 1 c.cfg.crc → Gives (.cCheck v) s t) ∧
    (∀ v, StreamNext c (.cCheck v) n → v.toNat ≠ chkFinal 1 c.cfg.crc →
      Reaches (.cCheck v) s fun k => LoadFailed k 8) ∧
    (∀ us, at0 (.cWait us) →
      Gives (.cWait us) s
        (eng fun y => { y with wait := some (.till (c.now 0 + BitVec.ofNat 64 (1000 * us.toNat))) })) ∧
    (∀ us u off m v, at0 (.cWaitPoll us u off m v) → regAddrOk (u.val * 2 ^ 24 + 4 * off.toNat) = true →
      Reaches (.cWaitPoll us u off m v) s fun k =>
        (k.d 0).cfg.wait =
          some (.poll (c.now 0 + BitVec.ofNat 64 (1000 * us.toNat)) (u.val * 1048576 + 4 * off.toNat) m v)) ∧
    (∀ us u off m v, at0 (.cWaitRequire us u off m v) → regAddrOk (u.val * 2 ^ 24 + 4 * off.toNat) = true →
      let r := regRead t 0 0 u.val (4 * off.toNat)
      r.1.cfg = t.cfg → cfgLoading r.1 = true →
      (r.2 &&& m = v → Gives (.cWaitRequire us u off m v) s r.1) ∧
      (r.2 &&& m ≠ v → Reaches (.cWaitRequire us u off m v) s fun k => LoadFailed k 10)) ∧
    (∀ lo hi, at0 (.cImageid lo hi) → x.ids = 0 →
      Reaches (.cImageid lo hi) s fun k =>
        (k.d 0).cfg.ids = 1 ∧ k.fld 0 Rf.CFG_IMAGEID_LO_ID = lo.toNat ∧ k.fld 0 Rf.CFG_IMAGEID_HI_ID = hi.toNat) ∧
    (∀ (region : Fin 4) m cmp lane data qs, at0 (.cLoadmem region m cmp lane data) → region.val < 2 →
      lane.toNat % 4 = 0 → lane.toNat / 4 + m ≤ memWords (regionMem region) → x.sec = none →
      memData m cmp data = some qs →
      Reaches (.cLoadmem region m cmp lane data) s fun k =>
        ∀ i, i < qs.length → (k.word 0 (regionMem region) (lane.toNat / 4 + i)).data = qs.getD i 0) ∧
    (∀ set image, at0 (.cLoadcodeRentik set image) → (codeRentik t 0 set.toNat image).2 = 0 →
      Reaches (.cLoadcodeRentik set image) s fun k =>
        ∀ m i, set.toNat % 256 ≤ m → m < set.toNat % 256 + set.toNat / 256 → i < getBits (image.getD 2 0) 0 13 →
          mapGet (istoreDflt k 0) (k.d 0).istore (4096 * m + (getBits (image.getD 3 0) 0 12 + i)) =
            BitVec.ofNat 128
              (words32 (((image.drop (8 + 3 * getBits (image.getD 1 0) 16 8)).drop (4 * i)).take 4))) ∧
    (∀ (a : BitVec 14) ws, at0 (.cLoadcodeYoke a ws) → a.toNat + ws.length ≤ 16384 →
      Reaches (.cLoadcodeYoke a ws) s fun k =>
        ∀ i, i < ws.length → k.fld 0 (Rf.YOKE_IMEM_INSN.at (a.toNat + i)) = (ws.getD i 0).toNat) ∧
    (StreamNext c .cEnd n → c.cfg.last = true → c.cfg.open_ = false → c.cfg.words.length = n →
      (∀ d, (c.d d).cfg.q = [] ∧ (c.d d).cfg.wait = none) → Config.sha256 c.cfg.body = c.cfg.digest →
      imageIdBad c = none →
      Reaches .cEnd s fun k => k.cfg.release = some (c.now 0 + 2000) ∧ k.cfg.words = []) ∧
    (∀ (d : Fin 4) i is, up c 0 = true → cfgLoading c = true → loadLost c = false → (c.d d).cfg.wait = none →
      (c.d d).cfg.q = i :: is →
      Gives (.configForward d) s (ranOut d (runOn (c.onEngine d fun y => { y with q := is }) d i))) ∧
    (∀ (d : Fin 4) f, d ≠ 0 → next (.cFrameaddr f) → c.cfg.die = d → (c.d d).cfg.q = [] →
      Gives (.cFrameaddr f) s (t.onEngine d fun y => { y with q := [.cFrameaddr f] })) ∧
    (∀ (d : Fin 4) (tm : Time), up c d = true → (c.d d).cfg.wait = some (.till tm) →
      Gives (.waitElapsed d) s (if reached c d tm then c.onEngine d fun y => { y with wait := none } else c)) ∧
    (∀ (d : Fin 4) (tm : Time) key m v, up c d = true → (c.d d).cfg.wait = some (.poll tm key m v) →
      reached c d tm = false →
      let r := regRead c d 0 (key / 1048576) (key % 1048576)
      Gives (.waitPollRead d) s
        (if r.2 &&& m = v then r.1.onEngine d fun y => { y with wait := none } else r.1))

/-- R726 to R735, R746, R750, R751, R755, R756, R787, R792: a load begins, takes its header and its records, is released or
fails, and may be tried again; the boot flash is read, programmed and erased. -/
def Obligations.LoadsBeginAndEnd : Prop :=
  ∀ (v : Word) (rec0 rec1 hdr bs : List Byte) (xspi8 wrOk : Bool) (data : List Word) (s : State),
    up s.chip 0 = true →
    let c := s.chip
    let cause := c.fld 0 Rf.CFG_STAT_CAUSE
    let state := c.fld 0 Rf.CFG_STAT_STATE
    let flash := fun (i : Instr) (op step : Nat) =>
      ((state = 2 ∨ state = 3) → bootsel c = 0 → c.flag 0 Rf.CFG_FL_CTL_BUSY = false →
        Reaches i s fun k =>
          (c.fld 0 Rf.CFG_FL_ADDR_ADDR % step = 0 →
            k.fld 0 Rf.CFG_FL_CTL_BUSY = 1 ∧ k.fld 0 Rf.CFG_FL_CTL_OP = op) ∧
          (c.fld 0 Rf.CFG_FL_ADDR_ADDR % step ≠ 0 →
            k.fld 0 Rf.CFG_FL_CTL_BUSY = 0 ∧ k.fld 0 Rf.CFG_FL_CTL_ERR = 1))
    (c.cfg.checked = true → c.cfg.started = false → bootsel c = 0 → state = 1 → feature c 0 5 = true →
      (bootRec rec0 = none → bootRec rec1 = none →
        Reaches (.cfgLoadStart rec0 rec1 xspi8 wrOk) s fun k => LoadBegun k 0 ∧ k.fld 0 Rf.CFG_STAT_SLOT = 0) ∧
      (∀ r, bootRec rec0 = some r → bootRec rec1 = none → r.state = 3 →
        Reaches (.cfgLoadStart rec0 rec1 xspi8 wrOk) s fun k => LoadBegun k 0 ∧ k.fld 0 Rf.CFG_STAT_SLOT = r.slot % 2) ∧
      (∀ r, bootRec rec0 = none → bootRec rec1 = some r → r.state = 2 → r.trials = 3 → r.slot ≤ 1 →
        Reaches (.cfgLoadStart rec0 rec1 xspi8 wrOk) s fun k =>
          LoadBegun k 0 ∧ k.fld 0 Rf.CFG_STAT_SLOT = 1 - r.slot ∧ k.fld 0 Rf.CFG_BOOTREC_FELLBACK = 1 ∧
            Sent k 0 K.TRIALFALL 0)) ∧
    ((state = 0 ∨ state = 3) → bootsel c ≠ 3 →
      Reaches (.cfgLoad 0 v) s fun k => LoadBegun k (1 + getBits v 1 1)) ∧
    ((state = 1 ∨ state = 2) → Reaches (.cfgLoad 0 v) s fun k => Sent k 0 K.NOGRANT 0 ∧ k.cfg = c.cfg) ∧
    (dataReady c = true →
      Gives (.cfgDataWrite 0 v) s (c.onCfg fun y => { y with bytes := y.bytes ++ leBytes 4 v.toNat })) ∧
    (dataReady c = false → Gives (.cfgDataWrite 0 v) s (refusedWrite c 0 0 Rf.CFG_DATA_DATA)) ∧
    (cfgLoading c = true → c.cfg.header = false → c.cfg.src < 2 →
      (∀ n, headerCause c hdr = some n → Reaches (.cfgHeader hdr) s fun k => LoadFailed k n) ∧
      (headerCause c hdr = none → field hdr 6 1 = 0 →
        Reaches (.cfgHeader hdr) s fun k =>
          k.cfg.header = true ∧ k.cfg.bodyLen = field hdr 8 4 ∧
            k.cfg.digest = BitVec.ofNat 256 (field hdr 0x10 32) ∧ k.fld 0 Rf.CFG_STAT_KEYSEL = 0)) ∧
    (cfgLoading c = true → c.cfg.header = true → c.cfg.body.length < c.cfg.bodyLen → c.cfg.src < 2 →
      c.cfg.last = false →
      (∀ text last, chunkText c bs c.cfg.bodyLen c.cfg.body.length c.cfg.recs = some (text, last) → c.cfg.words ≠ [] →
        Reaches (.cfgChunk bs) s fun k =>
          k.cfg.words = c.cfg.words ++ wordsOf text ∧ k.cfg.body = c.cfg.body ++ bs ∧
            k.cfg.recs = c.cfg.recs + 1 ∧ k.cfg.last = last) ∧
      (chunkText c bs c.cfg.bodyLen c.cfg.body.length c.cfg.recs = none →
        Reaches (.cfgChunk bs) s fun k => LoadFailed k 6)) ∧
    (∀ ms, cfgLoading c = true → (c.cfg.src = 1 ∨ c.cfg.src = 2) → 2000 ≤ ms →
      Reaches (.cfgSourceLost ms) s fun k => LoadFailed k 15 ∧ Sent k 0 K.CFGFAIL 0) ∧
    (∀ tm, cfgLoading c = true → c.cfg.release = some tm → reached c 0 tm = true → loadLost c = false →
      c.cfg.runs = [] → (c.d 0).hem.lc ≠ 2 →
      Reaches .cfgRelease s fun k =>
        k.fld 0 Rf.CFG_STAT_STATE = 2 ∧ Sent k 0 K.CFGDONE 0 ∧ ∀ d, (k.d d).fabRst = false) ∧
    (bootsel c = 0 → state = 3 → c.flag 0 Rf.CFG_STAT_FALLBACK = false → c.cfg.src = 0 → cause ≠ 14 →
      Reaches .cfgFallback s fun k =>
        LoadBegun k 0 ∧ k.fld 0 Rf.CFG_STAT_SLOT = 1 - c.fld 0 Rf.CFG_STAT_SLOT ∧ k.fld 0 Rf.CFG_STAT_FALLBACK = 1) ∧
    flash (.flashRead 0 v) 1 64 ∧ flash (.flashProgram 0 v) 2 64 ∧ flash (.flashErase4k 0 v) 3 4096 ∧
    flash (.flashErase64k 0 v) 4 65536 ∧
    (c.flag 0 Rf.CFG_FL_CTL_BUSY = true →
      (Reaches (.flashOpDone false data) s fun k =>
        k.fld 0 Rf.CFG_FL_CTL_BUSY = 0 ∧ k.fld 0 Rf.CFG_FL_CTL_ERR = 1) ∧
      (c.fld 0 Rf.CFG_FL_CTL_OP ≠ 1 → Gives (.flashOpDone true data) s (c.setFld 0 Rf.CFG_FL_CTL_BUSY 0)) ∧
      (c.fld 0 Rf.CFG_FL_CTL_OP = 1 → data.length = 16 →
        Reaches (.flashOpDone true data) s fun k =>
          k.fld 0 Rf.CFG_FL_CTL_BUSY = 0 ∧
            ∀ i, i < 16 → k.fld 0 (Rf.CFG_FL_DATA_DATA.at i) = (data.getD i 0).toNat))

/-! ### Rentik -/

namespace Sys2Proof.Says

/-- Cluster `c` of die `d` issues its next bundle, which names the vector operands `codes`: its program runs and its first
8 cycles have passed, no halt is asked for and no breakpoint stops it, the codes name registers, and no XLD into one of
them is outstanding (R397, R404, R410, R861). -/
abbrev ClusterIssues (s : Chip) (d : Fin 4) (c : Fin 192) (codes : List Nat) : Prop :=
  let x := s.cluster d c.val
  up s d = true ∧ x.st = .running ∧ 8000 ≤ cyclesOf s d x ∧ x.haltReq = none ∧
    (x.passBp = true ∨ rBreak s d c.val x.pc.toNat = none) ∧ (∀ v ∈ codes, vecCode v = true) ∧
    ∀ a ∈ x.xq, a.store = false → a.reg ∉ codes.map (vkey x)

/-- The S9 after cluster `c` of die `d` has issued a bundle that made the register writes `ws` and nothing else. -/
def clusterDid (s : Chip) (d : Fin 4) (c : Fin 192) (ws : List Wr) : Chip :=
  let x := s.cluster d c.val
  s.setCluster d c.val (ws.foldl (fun y w => w.apply y) { x with pc := x.pc + 1, passBp := false })

/-- The writes of accumulator lanes under a mask, with ASAT where one saturates (R399, R414). -/
def accWrites (A : Fin 8) (mask : Nat) (f : Nat → AccLane × Bool) : List Wr :=
  (lanesOn mask).map (fun j => Wr.acc A.val j (f j).1) ++ if (lanesOn mask).any fun j => (f j).2 then [.asat] else []

end Sys2Proof.Says

/-- R395 to R397, R414: a write of a register under a mask changes the lanes of the mask and no other register; p0
reads 0xFFFF whatever is written. R400, R401, R421: without MARK a lane result saturates to -8,192 to 8,191, with
it to -8,191 to 8,190; with MARK an input that is a mark makes the result a mark, -8,192 when one input is that;
and rounding is half to even. -/
def Obligations.RentikResultsStayInTheirFormats : Prop :=
  (∀ (x : Cluster) (k k' mask v : Nat) (u : Vec) (a : AccLane) (A B : Fin 8) (i j : Fin 16) (n m : Fin 32)
     (w : BitVec 28) (e f : Fin 8),
     (((Wr.vec k mask u).apply x).vk k).get j.val = (if bit mask j.val then u.get j.val else (x.vk k).get j.val) ∧
     (k' ≠ k → ((Wr.vec k mask u).apply x).vk k' = x.vk k') ∧
     ((Wr.acc A.val i.val a).apply x).a B.val j.val = (if A = B ∧ i = j then a else x.a B.val j.val) ∧
     ((Wr.s n.val w).apply x).s m.val = (if n = m then w else x.s m.val) ∧
     ((Wr.p e.val mask v).apply x).p 0 = 0xFFFF ∧
     (e ≠ 0 → mask < 2 ^ 16 → v < 2 ^ 16 →
       bit (((Wr.p e.val mask v).apply x).p e.val) j.val =
         if bit mask j.val then bit v j.val else bit (x.p e.val) j.val) ∧
     (f ≠ e → ((Wr.p e.val mask v).apply x).p f.val = x.p f.val)) ∧
  (∀ (f : Int → Int → Int) (a b : Lane) (i : Int) (n : Nat),
     (satLane false i).toInt = max (-8192) (min 8191 i) ∧ (satLane true i).toInt = max (-8191) (min 8190 i) ∧
     arith2 false f a b = satLane false (f a.toInt b.toInt) ∧
     (isMark a = false → isMark b = false → arith2 true f a b = satLane true (f a.toInt b.toInt)) ∧
     ((a = 0x2000 ∨ b = 0x2000) → arith2 true f a b = 0x2000) ∧
     (a ≠ 0x2000 → b ≠ 0x2000 → (a = 0x1FFF ∨ b = 0x1FFF) → arith2 true f a b = 0x1FFF) ∧
     (2 * (i - 2 ^ n * roundEven i n)).natAbs ≤ 2 ^ n ∧
     ((2 * (i - 2 ^ n * roundEven i n)).natAbs = 2 ^ n → 0 < n → roundEven i n % 2 = 0) ∧
     (sat56 i).1.toInt = max (-(2 ^ 55)) (min (2 ^ 55 - 1) i) ∧
     ((sat56 i).2 = true ↔ (sat56 i).1.toInt ≠ i))

/-- R414, R422, R425: under lane 0 of its guard an S-slot operation writes what the table says; without it, it moves to
the next bundle only. Nothing else changes. -/
def Obligations.RentikScalarOperationsTakeEffect : Prop :=
  ∀ (d : Fin 4) (c : Fin 192) (g E : Fin 8) (D A B K5 : Fin 32) (K14 : BitVec 14) (K19 : BitVec 19) (K16 : BitVec 16)
    (K6 : BitVec 6) (m : Bool) (T : BitVec 12) (s : State), ClusterIssues s.chip d c [] →
    let x := s.chip.cluster d c.val
    let on := bit (x.p g.val) 0
    let a := x.s A.val
    let b := x.s B.val
    let n := b.toNat % 32
    let does := fun (i : Instr) (ws : List Wr) => Gives i s (clusterDid s.chip d c (if on then ws else []))
    let sets := fun (i : Instr) (v : BitVec 28) => does i [.s D.val v]
    let goes := fun (i : Instr) (p : Bool) => does i (if p then [.pc T.toNat] else [])
    let all := fun (p : Bool) => if p then 0xFFFF else 0
    Gives (.rNop d c) s (clusterDid s.chip d c []) ∧
    sets (.rSadd d c g D A B) (a + b) ∧ sets (.rSsub d c g D A B) (a - b) ∧ sets (.rSand d c g D A B) (a &&& b) ∧
    sets (.rSor d c g D A B) (a ||| b) ∧ sets (.rSxor d c g D A B) (a ^^^ b) ∧
    sets (.rSshl d c g D A B) (if 28 ≤ n then 0 else a <<< n) ∧
    sets (.rSshr d c g D A B) (if 28 ≤ n then 0 else a >>> n) ∧
    sets (.rSaddi d c g D A K14) (a + K14.signExtend 28) ∧ sets (.rLi d c g D K19) (K19.signExtend 28) ∧
    sets (.rLih d c g D K14) (BitVec.ofNat 28 (K14.toNat * 2 ^ 14 + (x.s D.val).toNat % 2 ^ 14)) ∧
    does (.rSlt d c g E A B) [.p E.val 0xFFFF (all (a.slt b))] ∧
    does (.rSeq d c g E A B) [.p E.val 0xFFFF (all (a == b))] ∧
    does (.rSpred d c g E K16) [.p E.val 0xFFFF K16.toNat] ∧
    goes (.rBr d c g T) true ∧ goes (.rBz d c g A T) (a == 0) ∧ goes (.rBnz d c g A T) (a != 0) ∧
    does (.rLoop d c g A T) (.s A.val (a - 1) :: if a - 1 = 0 then [] else [.pc T.toNat]) ∧
    (let n0 := a.toNat % 2 ^ 14
     let e0 := a.toNat / 2 ^ 14
     let n := n0 - 1
     let e := if n0 = 0 then e0 - 1 else e0
     does (.rLoopw d c g A T)
       ([.wb (x.wb - 1), .p 6 0xFFFF (x.p 5), .p 5 0xFFFF (x.p 4), .p 4 0xFFFF (x.p 3), .p 3 0xFFFF (x.p 2),
         .p 2 0xFFFF (x.p 1), .p 1 0xFFFF (all (decide (0 < n))), .s A.val (BitVec.ofNat 28 (e * 2 ^ 14 + n))] ++
         if n = 0 ∧ e = 0 then [] else [.pc T.toNat])) ∧
    does (.rSetwb d c g K6) [.wb K6] ∧ does (.rMode d c g m) [.mark m] ∧
    sets (.rSrdt d c g D 0) (BitVec.ofNat 28 (min (elapsed s.chip d) (2 ^ 28 - 1))) ∧
    sets (.rSrdt d c g D 1) (BitVec.ofNat 28 (cyclesOf s.chip d x / 1000)) ∧
    sets (.rSrdt d c g D 2) (BitVec.ofNat 28 (s.chip.d d).tick.num.toNat) ∧
    (on = false ∨ bit (s.chip.fld d (Rf.PLACKET_STIM_EN_PORTS.at x.ten.val)) K5.val = false →
      Gives (.rSstim d c g A K5) s (clusterDid s.chip d c [])) ∧
    (on = true → bit (s.chip.fld d (Rf.PLACKET_STIM_EN_PORTS.at x.ten.val)) K5.val = true → x.basted = false →
      Reaches (.rSstim d c g A K5) s fun k => ∃ r, (k.d d).fly = (s.chip.d d).fly ++ [r] ∧
        r.kind = K.STIM ∧ r.ten = x.ten ∧ r.src = d.val * 1024 + 0x300 + K5.val ∧ r.pay = BitVec.ofNat 32 a.toNat) ∧
    (on = false → Gives (.rDone d c g) s (clusterDid s.chip d c [])) ∧
    (on = true → Reaches (.rDone d c g) s fun k =>
      (k.cluster d c.val).st = .stopping ∧ (k.cluster d c.val).killed = false ∧ (k.cluster d c.val).vec = x.vec)

/-- R399 to R401, R414, R419 to R421, R423, R424: under the lanes of its guard a V0- or V1-slot operation writes what the
tables say, and nothing else changes but the PC; an operation on a register with an XLD outstanding waits. -/
def Obligations.RentikVectorOperationsTakeEffect : Prop :=
  ∀ (d : Fin 4) (c : Fin 192) (g A : Fin 8) (D X Y : BitVec 7) (L n : Fin 16) (S : Fin 32) (SH : Fin 64) (first : Bool)
    (s : State),
    let x := s.chip.cluster d c.val
    let mask := x.p g.val
    let lx := fun j => (x.v X.toNat).get j
    let ly := fun j => (x.v Y.toNat).get j
    let acc := fun j => x.a A.val j
    let does := fun (codes : List (BitVec 7)) (i : Instr) (ws : List Wr) =>
      (ClusterIssues s.chip d c (codes.map BitVec.toNat) → Gives i s (clusterDid s.chip d c ws))
    let puts := fun (f : Nat → Lane) => [Wr.vec (vkey x D.toNat) mask (Lanes.ofFn f)]
    let two := fun (i : Instr) (f : Lane → Lane → Lane) => does [D, X, Y] i (puts fun j => f (lx j) (ly j))
    let one := fun (i : Instr) (f : Lane → Lane) => does [D, X] i (puts fun j => f (lx j))
    let arith := fun (f : Int → Int) (a : Lane) => arith2 x.mark (fun p _ => f p) a a
    let macs := fun (neg zero : Bool) (y : Nat → Lane) => accWrites A mask fun j => macLane x.mark neg zero (acc j) (lx j) (y j)
    let push := if X.toNat < 127 then [Wr.vec (vkey x (X.toNat + 1)) mask (x.v X.toNat)] else []
    let tapCodes := if X.toNat < 127 then [X, Y, X + 1] else [X, Y]
    does [X, Y] (.rMac d c g A X Y) (macs false false ly) ∧
    does [X, Y] (.rMacz d c g A X Y) (macs false true ly) ∧
    does [X, Y] (.rMsu d c g A X Y) (macs true false ly) ∧
    does [X, Y] (.rMacb d c g A X Y L) (macs false false fun _ => ly L.val) ∧
    does [X, Y] (.rMacbz d c g A X Y L) (macs false true fun _ => ly L.val) ∧
    (64 ≤ X.toNat → does tapCodes (.rTapm d c g A X Y L) (macs false false (fun _ => ly L.val) ++ push)) ∧
    (64 ≤ X.toNat → does tapCodes (.rTapmz d c g A X Y L) (macs false true (fun _ => ly L.val) ++ push)) ∧
    does [X] (.rAadd d c g A X) (accWrites A mask fun j => aaddLane x.mark (acc j) (lx j)) ∧
    does [] (.rAclr d c g A) (accWrites A mask fun _ => ({}, false)) ∧
    two (.rVadd d c g D X Y) (arith2 x.mark fun a b => a + b) ∧ two (.rVsub d c g D X Y) (arith2 x.mark fun a b => a - b) ∧
    two (.rMin d c g D X Y) (arith2 x.mark min) ∧ two (.rMax d c g D X Y) (arith2 x.mark max) ∧
    two (.rVand d c g D X Y) (fun a b => a &&& b) ∧ two (.rVor d c g D X Y) (fun a b => a ||| b) ∧
    two (.rVxor d c g D X Y) (fun a b => a ^^^ b) ∧
    one (.rAbs d c g D X) (arith fun p => p.natAbs) ∧ one (.rShli d c g D X n) (arith fun p => p * 2 ^ n.val) ∧
    one (.rSrai d c g D X n) (arith fun p => p / 2 ^ n.val) ∧ one (.rSrar d c g D X n) (arith fun p => roundEven p n.val) ∧
    one (.rMov d c g D X) id ∧
    does [D, X] (.rBcst d c g D X L) (puts fun _ => lx L.val) ∧
    does [D] (.rSplat d c g D S) (puts fun _ => satLane x.mark (x.s S.val).toInt) ∧
    does [X, Y] (.rClt d c g A X Y) [.p A.val mask (maskOf fun j => (lx j).slt (ly j))] ∧
    does [X, Y] (.rCeq d c g A X Y) [.p A.val mask (maskOf fun j => lx j == ly j)] ∧
    does [X] (.rCmk d c g A X) [.p A.val mask (maskOf fun j => isMark (lx j))] ∧
    (SH.val ≤ 42 → does [D] (.rAccn d c g D A SH) (puts fun j => accnLane x.mark SH.val (acc j))) ∧
    does [D] (.rAccc d c g D A) (puts fun j => BitVec.ofNat 14 (acc j).n) ∧
    (ClusterIssues s.chip d c [X.toNat, Y.toNat] →
      Gives (.rDivs d c g A X Y first) s
        { clusterDid s.chip d c ((lanesOn mask).map fun j =>
            Wr.acc A.val j { acc j with v := divStep (divOpen s.chip j) (acc j).v (lx j) (ly j) first })
          with free := s.chip.free + 33 }) ∧
    (let r := fun j => divEnd x.mark (acc j).v (lx j) (ly j)
     does [D, X, Y] (.rDivf d c g D A X Y)
       (puts (fun j => (r j).1) ++ (lanesOn mask).map (fun j => Wr.acc A.val j { acc j with v := (r j).2.1 }) ++
         [.p 7 mask (maskOf fun j => (r j).2.2)])) ∧
    (∀ w ∈ x.xq, w.store = false → w.reg = vkey x X.toNat → ClusterIssues s.chip d c [] → vecCode X.toNat = true →
      vecCode D.toNat = true → Gives (.rMov d c g D X) s s.chip) ∧
    (ClusterIssues s.chip d c [] → vecCode D.toNat = false → x.basted = false →
      Reaches (.rMov d c g D X) s fun k =>
        Sent k d K.RILLEGAL x.ten ∧ k.fld 0 (Rf.YOKE_TEN_CTL_FAULTED.at x.ten.val) = 1 ∧
          (k.cluster d c.val).vec = x.vec)

/-- R414, R416 to R418, R428, R429: a local load takes the lanes of its guard from the cluster store and a local
store puts them there, with the post-increment where the form has one, and touches no other word; GETL and PUTL move
a lane; XLD and XST start an access; FENCE waits for all of them and says whether one failed; an access completes
once nothing before it overlaps; ILOAD writes the bundle of four words into every cluster named. -/
def Obligations.RentikMemoryOperationsTakeEffect : Prop :=
  ∀ (d : Fin 4) (c : Fin 192) (g E : Fin 8) (R : BitVec 7) (S A : Fin 32) (K : BitVec 12) (L : Fin 16) (F : Fin 4)
    (t : Fin 256) (v : Word) (s : State),
    let x := s.chip.cluster d c.val
    let mask := x.p g.val
    let at_ := fun (post : Bool) => (x.s A.val).toInt + if post then 0 else K.toInt
    let lane0 := fun (w : Int) => c.val * 32768 + 4 * w.toNat
    let reads := fun (w : Int) (m : Nat) => readVec s.chip d .cst (lane0 w) (.prog x.ten) vec0 false (vecWords (lane0 w) m)
    let loads := fun (i : Instr) (post : Bool) => ∀ u b,
      (ClusterIssues s.chip d c [R.toNat] → mask ≠ 0 → cstOk x c.val false (at_ post) 4 16 = true →
        (reads (at_ post) mask).2 = .val u b →
        Reaches i s fun k =>
          (∀ j, j < 16 → ((k.cluster d c.val).v R.toNat).get j = if bit mask j then u.get j else (x.v R.toNat).get j) ∧
            (k.cluster d c.val).s A.val = (if post then x.s A.val + K.signExtend 28 else x.s A.val) ∧
            (k.cluster d c.val).pc = x.pc + 1)
    let stores := fun (i : Instr) (post : Bool) =>
      let w := at_ post
      let word := fun q => c.val * 8192 + w.toNat + q
      (ClusterIssues s.chip d c [R.toNat] → mask ≠ 0 → cstOk x c.val true w 4 16 = true →
        writesBasted s.chip d x = false → (∀ q < 4, (s.chip.word d .cst (word q)).tag = .committed) →
        Reaches i s fun k =>
          (∀ q < 4, ∀ l < 4, getLane (k.word d .cst (word q)).data l =
            if bit mask (4 * q + l) then (x.v R.toNat).get (4 * q + l) else getLane (s.chip.word d .cst (word q)).data l) ∧
          (∀ i, (i < word 0 ∨ word 4 ≤ i) → k.word d .cst i = s.chip.word d .cst i) ∧
          (k.cluster d c.val).s A.val = (if post then x.s A.val + K.signExtend 28 else x.s A.val))
    loads (.rLdv d c g R A K) false ∧ loads (.rLdvp d c g R A K) true ∧
    stores (.rStv d c g R A K) false ∧ stores (.rStvp d c g R A K) true ∧
    (∀ u b, ClusterIssues s.chip d c [] → bit mask 0 = true → cstOk x c.val false (at_ false) 1 2 = true →
      (reads (at_ false) 3).2 = .val u b →
      Reaches (.rLds d c g S A K) s fun k =>
        (k.cluster d c.val).s S.val = BitVec.ofNat 28 ((u.get 0).toNat + (u.get 1).toNat * 2 ^ 14)) ∧
    (let w := at_ false
     let i := c.val * 8192 + w.toNat
     ClusterIssues s.chip d c [] → bit mask 0 = true → cstOk x c.val true w 1 2 = true →
     writesBasted s.chip d x = false → (s.chip.word d .cst i).tag = .committed →
     Reaches (.rSts d c g S A K) s fun k =>
       getLane (k.word d .cst i).data 0 = BitVec.ofNat 14 (x.s S.val).toNat ∧
       getLane (k.word d .cst i).data 1 = BitVec.ofNat 14 ((x.s S.val).toNat / 2 ^ 14) ∧
       getLane (k.word d .cst i).data 2 = getLane (s.chip.word d .cst i).data 2 ∧
       getLane (k.word d .cst i).data 3 = getLane (s.chip.word d .cst i).data 3 ∧
       ∀ j, j ≠ i → k.word d .cst j = s.chip.word d .cst j) ∧
    (ClusterIssues s.chip d c [R.toNat] →
      Gives (.rGetl d c g S R L) s
        (clusterDid s.chip d c (if bit mask L.val then [.s S.val (((x.v R.toNat).get L.val).signExtend 28)] else []))) ∧
    (ClusterIssues s.chip d c [R.toNat] →
      Gives (.rPutl d c g R A L) s
        (clusterDid s.chip d c
          (if bit mask L.val then
            [.vec (vkey x R.toNat) (2 ^ L.val) (Lanes.ofFn fun _ => satLane x.mark (x.s A.val).toInt)]
           else []))) ∧
    (∀ m l u b, ClusterIssues s.chip d c [R.toNat] → mask ≠ 0 → x.xq.length < 8 → A.val ≠ 31 → F.val ≠ 3 →
      xCheck s.chip d x.ten (xAddr x A.val) F.val false false = .ok d (.lanes m l) →
      (readVec s.chip d m l (.prog x.ten) vec0 false (vecWords l mask)).2 = .val u b →
      Reaches (.rXld d c g R A F) s fun k =>
        (k.cluster d c.val).xq = x.xq ++ [XAcc.mk s.chip.nextId false (vkey x R.toNat) mask (xAddr x A.val) F.val u false] ∧
          k.nextId = s.chip.nextId + 1) ∧
    (∀ e p, ClusterIssues s.chip d c [R.toNat] → mask ≠ 0 → x.xq.length < 8 → A.val ≠ 31 → F.val ≠ 3 → e ≠ d →
      writesBasted s.chip d x = false → xCheck s.chip d x.ten (xAddr x A.val) F.val true false = .ok e p →
      Reaches (.rXst d c g R A F) s fun k =>
        (k.cluster d c.val).xq = x.xq ++ [XAcc.mk s.chip.nextId true 0 mask (xAddr x A.val) F.val vec0 true] ∧
          k.remotes.length = s.chip.remotes.length + 1) ∧
    (ClusterIssues s.chip d c [] → bit mask 0 = true → x.xq = [] →
      Reaches (.rFence d c g E) s fun k =>
        (k.cluster d c.val).fenceBad = false ∧
          (E ≠ 0 → (k.cluster d c.val).p E.val = if x.fenceBad then 0 else 0xFFFF)) ∧
    (ClusterIssues s.chip d c [] → bit mask 0 = true → x.xq ≠ [] → Gives (.rFence d c g E) s s.chip) ∧
    (∀ i a as, up s.chip d = true → x.xq.drop i = a :: as → a.remote = false →
      (x.xq.take i).any (xOverlap a) = false →
      Gives (.xAccessComplete d c i) s (s.chip.setCluster d c.val (finishX x a a.data))) ∧
    (MayWrite s.chip d 7 t →
      Reaches (.iloadCtlWrite t d v) s fun k =>
        k.fld d Rf.RENTIK_ILOAD_CTL_FIRST = getBits v 0 8 ∧ k.fld d Rf.RENTIK_ILOAD_CTL_COUNT = getBits v 8 8 ∧
          k.fld d Rf.RENTIK_ILOAD_STAT_NEXT = getBits v 16 12 ∧ (k.d d).iload = []) ∧
    (MayWrite s.chip d 7 t → (s.chip.d d).iload.length < 3 →
      Gives (.iloadDataWrite t d v) s (s.chip.upd d fun y => { y with iload := y.iload ++ [v] })) ∧
    (∀ w0 w1 w2, MayWrite s.chip d 7 t → (s.chip.d d).iload = [w0, w1, w2] → iloadOk s.chip d = true →
      (s.chip.d d).iloadEnd = false → x.st = .idle → s.chip.fld d Rf.RENTIK_ILOAD_CTL_FIRST ≤ c.val →
      c.val < s.chip.fld d Rf.RENTIK_ILOAD_CTL_FIRST + s.chip.fld d Rf.RENTIK_ILOAD_CTL_COUNT →
      Reaches (.iloadDataWrite t d v) s fun k =>
        istoreAt k d c.val (s.chip.fld d Rf.RENTIK_ILOAD_STAT_NEXT) =
          BitVec.ofNat 128 (w0.toNat + w1.toNat * 2 ^ 32 + w2.toNat * 2 ^ 64 + v.toNat * 2 ^ 96))

/-! ### Acquisition, pulses, the interlock and panel sense -/

/-- R449, R452 to R455, R457, R459, R494: the converters are enabled and become ready; a sample of a capture is taken
when its instant has come; the capture is done when its header is written. R463 to R465, R490, R498: a placed
pulse rises and falls at its edges; a PMON edge in its window is seen, and a window without one is missed. -/
def Obligations.CapturesAndPulsesFollowTheirInstants : Prop :=
  (∀ (t : Fin 256) (d : Fin 4) (i : Fin 3) (ch : Fin 10) (v : Word) (x : BitVec 14) (severe : Bool) (sumRead : Nat)
     (cap : Capture) (s : State), up s.chip d = true →
     let c := s.chip
     let en := if i = 0 then c.flag d Rf.ACQ_CTL_FAST_EN_0 && feature c d 0
       else if i = 1 then c.flag d Rf.ACQ_CTL_FAST_EN_1 && feature c d 0
       else c.flag d Rf.ACQ_CTL_SLOW_EN && feature c d 1
     let taking := c.cap d ch.val = some cap ∧ cap.isDone = false ∧ cap.abandoned = false
     (granted c d 8 t = true →
       Reaches (.acqCtlWrite t d v) s fun k =>
         k.fld d Rf.ACQ_CTL_FAST_EN_0 = getBits v 0 1 ∧ k.fld d Rf.ACQ_CTL_FAST_EN_1 = getBits v 1 1 ∧
           k.fld d Rf.ACQ_CTL_SLOW_EN = getBits v 2 1 ∧ k.fld d Rf.ACQ_CTL_RCVMARK = getBits v 3 1 ∧
           ∀ b < 3, getBits v b 1 = 0 → bit (k.fld d Rf.ACQ_STAT_READY) b = false) ∧
     Gives (.converterReady d i) s
       (if en then c.setFld d Rf.ACQ_STAT_READY (setBit (c.fld d Rf.ACQ_STAT_READY) i.val) else c) ∧
     (taking → cap.n < cap.len → offset25 c d cap.tickStart < sampleAt ch.val cap.start cap.n →
       Gives (.ingestWrite d ch x severe sumRead) s c) ∧
     (taking → cap.n < cap.len → sampleAt ch.val cap.start cap.n ≤ offset25 c d cap.tickStart → 2 ≤ ch.val →
       cap.pleat = false →
       Reaches (.ingestWrite d ch x severe sumRead) s fun k => ∃ q, k.cap d ch.val = some q ∧ q.n = cap.n + 1 ∧
         q.got = x :: cap.got ∧ q.under = cap.under + b2n (x == 0x2000) ∧ q.overCnt = cap.overCnt + b2n (x == 0x1FFF)) ∧
     (taking → cap.n < cap.len → sampleAt ch.val cap.start cap.n ≤ offset25 c d cap.tickStart → ch.val < 2 →
       cap.pleat = false → cap.run = none → cap.recv = none → isMark x = false →
       Reaches (.ingestWrite d ch x severe sumRead) s fun k => ∃ q, k.cap d ch.val = some q ∧ q.n = cap.n + 1 ∧
         q.got = x :: cap.got ∧ q.rcv = cap.rcv) ∧
     (taking → cap.len ≤ cap.n → fifoFill c d ch.val = 0 →
       (∀ w ∈ headerPlace cap, bankOn c d (bankOf w) = true) →
       Reaches (.captureDone d ch) s fun k => ∃ q, k.cap d ch.val = some q ∧ q.isDone = true ∧
         q.ilkOk = (!cap.ilkReq || !cap.ilkBad) ∧
         q.rangeOk = decide (cap.under + cap.overCnt + cap.rcv ≤ cap.tol)) ∧
     (taking → cap.n < cap.len → Gives (.captureDone d ch) s c)) ∧
  (∀ (k : Fin 4) (at50 : Nat) (p : Pulse) (ps : List Pulse) (s : State), up s.chip 0 = true →
     s.chip.pulsesOf k.val = p :: ps →
     let now := offset50 s.chip p
     let win := s.chip.fld 0 (Rf.ACQ_PULSE_CTL_WIN.at k.val)
     (p.rose = false → p.edge ≤ now → Gives (.pulseEdge k) s (setPulses s.chip k.val ({ p with rose := true } :: ps))) ∧
     (p.rose = true → p.fell = false → p.edge + p.width ≤ now →
       Gives (.pulseEnd k) s (setPulses s.chip k.val ({ p with fell := true } :: ps))) ∧
     (p.seen = false → p.missed = false → p.edge ≤ at50 → at50 ≤ p.edge + win →
       Gives (.pmonEdge k at50) s (setPulses s.chip k.val ({ p with seen := true } :: ps))) ∧
     (p.seen = false → p.missed = false → p.edge + win < now →
       Reaches (.pmonWindowExpire k) s fun x =>
         x.pulsesOf k.val = { p with missed := true } :: ps ∧ x.fld 0 (Rf.ACQ_PULSE_STAT_MISSED.at k.val) = 1 ∧
           Sent x 0 K.PMISS 0))

/-- R468 to R473, R486, R499: the laser is enabled only with both channels safe; a channel that turns unsafe drops it; a
discrepancy that lasts latches FAULT, which only an accepted clear ends; T_D stays between 1 and its ceiling. -/
def Obligations.InterlockDropsAndLatches : Prop :=
  ∀ (t : Fin 256) (a b : Bool) (chB : Bool) (ns : Nat) (v : Word) (s : State), ilkRuns s.chip = true →
    let c := s.chip
    let lasen := fun (k : Chip) => k.fld 0 Rf.ILK_STAT_LASEN
    (ilkState c = 1 → 10000 ≤ c.ilk.safe → c.flag 0 Rf.ILK_STAT_ARMED = true → c.ilk.block = false → alive c = true →
      Reaches (.ilkSample true true) s fun k => lasen k = 1 ∧ ilkState k = 1) ∧
    ((a = false ∨ b = false) →
      Reaches (.ilkSample a b) s fun k =>
        lasen k = 0 ∧ k.ilk.safe = 0 ∧ (lasen c = 1 → alive c = true → Sent k 0 K.ILKUNSAFE 0)) ∧
    (ilkState c < 2 →
      (Reaches (.ilkSample a a) s fun k => ilkState k = b2n a) ∧ Reaches (.ilkSample a !a) s fun k => ilkState k = 2) ∧
    (ilkState c = 3 → Reaches (.ilkSample a b) s fun k => ilkState k = 3 ∧ lasen k = 0) ∧
    (50 ≤ ns → Reaches (.ilkUnsafe chB ns) s fun k => lasen k = 0 ∧ k.ilk.safe = 0) ∧
    (ilkState c = 2 → discLimit c + 2000 ≤ c.ilk.disc → alive c = true →
      Reaches .ilkDiscrepancyTimeout s fun k => ilkState k = 3 ∧ lasen k = 0 ∧ Sent k 0 K.ILKFAULT 0) ∧
    (c.ilk.disc + 2000 ≤ discLimit c → Gives .ilkDiscrepancyTimeout s c) ∧
    (up c 0 = true → ilkState c = 3 → 100002000 ≤ c.ilk.safe →
      Reaches (.ilkClearWrite 0) s fun k =>
        ilkState k = 1 ∧ k.fld 0 Rf.ILK_STAT_CLEARED = 1 ∧ k.ilk.block = true ∧ Sent k 0 K.ILKCLEAR 0) ∧
    (up c 0 = true → (ilkState c ≠ 3 ∨ c.ilk.safe < 99998000) →
      Reaches (.ilkClearWrite 0) s fun k =>
        ilkState k = ilkState c ∧ k.fld 0 Rf.ILK_STAT_REFUSED = 1 ∧ Sent k 0 K.ILKCLRREF 0) ∧
    (up c 0 = true →
      Gives (.ilkTdWrite 0 v) s
        (c.setFld 0 Rf.ILK_TD_TD
          (if getBits v 0 9 = 0 then 1 else min (getBits v 0 9) (c.fld 0 Rf.ILK_CEIL_CEIL)))) ∧
    (up c 0 = true → t ≠ 0 →
      Gives (.ilkTdWrite t v) s (refusedWrite c 0 t Rf.ILK_TD_TD) ∧
      Gives (.ilkClearWrite t) s (refusedWrite c 0 t Rf.ILK_CTL_CLEAR))

/-- R475 to R479, R482, R503: panel sense begins with 32 baseline scans; an ordinary scan gives every node its delta and
its touch; a frame is written to OUT or OUT + 280 in turn. -/
def Obligations.PanelSenseScansAndWritesFrames : Prop :=
  ∀ (t : Fin 256) (v : Word) (raws : List Int) (s : State), MayWrite s.chip 0 0x0A t →
    let c := s.chip
    let scans := c.flag 0 Rf.PSENSE_CTL_EN = true ∧ c.flag 0 Rf.PWR_RAIL_VPS = true ∧
      (c.now 0).toNat % (1000000000 / c.ps.rate) = 0 ∧ raws.length = 960
    let out := c.fld 0 Rf.PSENSE_OUT_OUT + (if c.ps.second then 280 else 0)
    (getBits v 0 1 = 1 → c.flag 0 Rf.PSENSE_CTL_EN = false →
      Reaches (.psenseEnWrite t v) s fun k =>
        k.fld 0 Rf.PSENSE_CTL_EN = 1 ∧ k.fld 0 Rf.PSENSE_CTL_RATE = clampN 1 240 (getBits v 8 8) ∧
          k.ps.rate = clampN 1 240 (getBits v 8 8) ∧ k.ps.capture = 32 ∧ k.fld 0 Rf.PSENSE_STAT_CAPTURING = 1) ∧
    (getBits v 0 1 = 1 → getBits v 1 1 = 1 →
      Reaches (.psenseRecapture t v) s fun k => k.ps.capture = 32 ∧ k.fld 0 Rf.PSENSE_STAT_CAPTURING = 1) ∧
    (getBits v 0 1 = 0 → Reaches (.psenseEnWrite t v) s fun k => k.fld 0 Rf.PSENSE_CTL_EN = 0 ∧ k.ps = c.ps) ∧
    (scans → 1 < c.ps.capture →
      Reaches (.psenseScan raws) s fun k => k.ps.capture = c.ps.capture - 1 ∧ k.ps.frame = true) ∧
    (scans → c.ps.capture = 1 →
      Reaches (.psenseScan raws) s fun k => k.ps.capture = 0 ∧
        ∀ n (h : n < raws.length), (k.ps.node n).base = meanEven ((c.ps.node n).capSum + raws[n]) 32) ∧
    (scans → c.ps.capture = 0 →
      Reaches (.psenseScan raws) s fun k => k.ps.frame = true ∧
        ∀ n (h : n < raws.length), (k.ps.node n).delta = nodeDelta (c.ps.node n).base raws[n] ∧
          ((k.ps.node n).since.isSome = true ↔ (c.fld 0 Rf.PSENSE_THR_TOUCH : Int) ≤ (k.ps.node n).delta)) ∧
    (c.ps.frame = true → (∀ b < 32, bankOn c 0 b = true) → out + 280 ≤ 524288 →
      Reaches .psenseFrame s fun k => k.ps.frame = false ∧ k.ps.second = !c.ps.second ∧
        k.fld 0 Rf.PSENSE_STAT_SCAN = (c.fld 0 Rf.PSENSE_STAT_SCAN + 1) % 2 ^ 24 ∧
        ∀ i < 280, (k.word 0 .spad (out + i)).data = (frameWords c).getD i 0)

/-! ### Pleat, serial lanes, flows and check-value units -/

/-- R506, R509, R511, R518, R519, R536, R543: a set is enabled when its range is good, and disabling or restarting it
discards its working half; a job waits in its slot, takes its result when it starts and shows it when it ends; an output
ends with PLOUT. -/
def Obligations.SetsAndJobsFollowTheirControls : Prop :=
  ∀ (t : Fin 256) (d : Fin 4) (k : Fin 16) (j : Fin 4) (v : Word) (bad : Option Nat) (n res bits : Nat) (run : PJob)
    (s : State), up s.chip d = true →
    let c := s.chip
    let busy := fun i : Nat => c.flag d (Rf.PLEAT_JOB_STAT_BUSY.at i)
    let works := granted c d 11 t = true ∧ d.val ≤ 1
    let waits := (c.d d).pleat.run = none ∧ (c.d d).pleat.outs = [] ∧ busy j.val = true ∧ ∀ i < j.val, busy i = false
    let p := jobPar c d j.val
    let starts := fun x : Chip => x.onPleat d fun y => { y with run := some { slot := j.val, result := res, bits := bits } }
    (works → v = 1 → setOn c d k.val = false → rangeBad c d k.val = false →
      Gives (.pleatSetEnable t d k v) s (c.setFld d (Rf.PLEAT_SET_CTL_ENABLE.at k.val) 1)) ∧
    (works → v = 1 → rangeBad c d k.val = true → Gives (.pleatSetEnable t d k v) s c) ∧
    (works → v = 0 →
      Reaches (.pleatSetEnable t d k v) s fun x => setOn x d k.val = false ∧ (x.pset d k.val).chan = none) ∧
    (works →
      Reaches (.pleatSetRestart t d k) s fun x =>
        x.fld d (Rf.PLEAT_SET_STAT_RECORDS.at k.val) = 0 ∧ x.fld d (Rf.PLEAT_SET_STAT_COMPLETE.at k.val) = 0 ∧
          x.fld d (Rf.PLEAT_SET_STAT_ERROR.at k.val) = 0 ∧ (x.pset d k.val).chan = none) ∧
    (granted c d 11 t = true → busy j.val = true → Gives (.pleatJobGo t d j v) s c) ∧
    (granted c d 11 t = true → busy j.val = false → getBits v 31 1 = 1 →
      Reaches (.pleatJobGo t d j v) s fun x =>
        x.fld d (Rf.PLEAT_JOB_STAT_BUSY.at j.val) = 1 ∧
          (jobPar x d j.val) = { p with
            dec := getBits v 0 1 == 1, kind := getBits v 1 2, fmt := getBits v 3 2, m := min (getBits v 5 2) 2,
            mark := getBits v 7 1 == 1, set := getBits v 8 4, ten := Fin.ofNat 256 (getBits v 16 8) }) ∧
    (waits → jobRange c d p = true → res = 6 → bits = 0 → Gives (.pleatJobStart d bad) s (starts c)) ∧
    (waits → jobRange c d p = false → p.dec = true → ∀ x, decodeJob c d p = (x, .ends res bits) →
      Gives (.pleatJobStart d bad) s (starts x)) ∧
    (waits → jobRange c d p = false → p.dec = false → 2 ≤ p.kind → ∀ x, encodeSet c d p bad = (x, .ends res bits) →
      Gives (.pleatJobStart d bad) s (starts x)) ∧
    (waits → jobRange c d p = false → p.dec = false → p.kind < 2 → ∀ x, encodeLanes c d p = (x, .ends res bits) →
      Gives (.pleatJobStart d bad) s (starts x)) ∧
    ((c.d d).pleat.run = some run → run.slot < 4 → run.result < 8 → run.bits < 2 ^ 24 →
      Reaches (.pleatJobEnd d) s fun x =>
        (x.d d).pleat.run = none ∧ x.fld d (Rf.PLEAT_JOB_STAT_BUSY.at run.slot) = 0 ∧
          x.fld d (Rf.PLEAT_JOB_STAT_RESULT.at run.slot) = run.result ∧
          x.fld d (Rf.PLEAT_JOB_BITS_BITS.at run.slot) = run.bits) ∧
    ((c.d d).pleat.run = none → (c.d d).pleat.outs.head? = some n → bad = none →
      let r := setStream c d n
      ∀ q, streamPlace r.1 d (setTen c d n) true (setDst c d n) r.2.n = some q →
        (placeReady r.1 d q ((r.2.n + 55) / 56) true).2 = true →
        Reaches (.pleatOutputEnd d bad) s fun x => ∃ ten, Sent x d K.PLOUT ten)

/-- R551, R552, R564 to R569, R575, R578, R586, R587: a request takes a lane towards its state, or waits for the
transition under way; demand wakes a sleeping lane; APPLY shows the first check that fails and takes its settings only
when none does; loss of lock and of the PLL is shown and recorded. -/
def Obligations.LanesMoveBetweenPowerStates : Prop :=
  ∀ (t : Fin 256) (d : Fin 4) (k : Fin 8) (v : Word) (lref0 lref1 : BitVec 20) (sd : Bool) (s : State),
    up s.chip d = true →
    let c := s.chip
    let st := laneState c d k.val
    let lead := groupLead c d k.val = k.val
    let f := fun (x : Chip) (g : Fld) => x.fld d (g.at k.val)
    let writes := granted c d 12 t = true ∧ seamLane c d k.val = false ∧ lead
    (writes → getBits v 31 1 = 0 →
      Reaches (.laneReqWrite t d k v) s fun x =>
        f x Rf.LANE_CTL_REQ = getBits v 0 2 ∧ f x Rf.LANE_CTL_AUTOWAKE = getBits v 2 1 ∧
          f x Rf.LANE_CTL_SDWAKE = getBits v 3 1 ∧ f x Rf.LANE_CTL_CAPDEEP = getBits v 4 1 ∧
          (4 ≤ st → laneState x d k.val = st ∧ (x.lane d k.val).pend = some (getBits v 0 2)) ∧
          (st = 0 → getBits v 0 2 = 3 → laneState x d k.val = 5 ∧ (x.lane d k.val).toSt = 3)) ∧
    (writes → 8 ≤ f c Rf.LANE_PROFILE_PROFILE →
      Reaches (.laneApply t d k v lref0 lref1) s fun x =>
        f x Rf.LANE_STAT_RESULT = 6 ∧ (x.lane d k.val).set = (c.lane d k.val).set) ∧
    (writes →
      Reaches (.laneApply t d k v lref0 lref1) s fun x =>
        x.fld d (Rf.LANE_LREF_FREQ_FREQ.at 0) = lref0.toNat ∧ x.fld d (Rf.LANE_LREF_FREQ_FREQ.at 1) = lref1.toNat ∧
          1 ≤ f x Rf.LANE_STAT_RESULT ∧ f x Rf.LANE_STAT_RESULT ≤ 7 ∧
          (x.lane d k.val).set =
            if f x Rf.LANE_STAT_RESULT = 1 then askedSet c d k.val else (c.lane d k.val).set) ∧
    (4 ≤ st → (c.lane d k.val).pend = none → (c.lane d k.val).toSt ≤ 3 →
      Reaches (.laneStateDone d k) s fun x => laneState x d k.val = (c.lane d k.val).toSt) ∧
    (lead → st = 0 → sd = false →
      Gives (.laneDemand d k sd) s (c.setLane d k.val { c.lane d k.val with work := true })) ∧
    (lead → st = 1 → f c Rf.LANE_CTL_AUTOWAKE = 1 → f c Rf.LANE_CTL_SDWAKE = 1 → laneRails c d = true →
      Reaches (.laneDemand d k sd) s fun x =>
        laneState x d k.val = 4 ∧ (x.lane d k.val).toSt = 0 ∧ Sent x d K.LNWAKE 0) ∧
    (st ≤ 1 → f c Rf.LANE_STAT_LOCK = 1 →
      Reaches (.laneLockLoss d k sd) s fun x => f x Rf.LANE_STAT_LOCK = 0 ∧ Sent x d K.LNLOS 0) ∧
    (st ≤ 1 → Reaches (.laneCdrLock d k) s fun x => f x Rf.LANE_STAT_LOCK = 1 ∧ f x Rf.LANE_STAT_SD = 1) ∧
    (f c Rf.LANE_STAT_PLLLOCK = 1 →
      Reaches (.lanePllUnlock d k) s fun x => f x Rf.LANE_STAT_PLLLOCK = 0 ∧ Sent x d K.LNPLL 0) ∧
    (f c Rf.LANE_STAT_PLLLOCK = 0 → Gives (.lanePllUnlock d k) s c) ∧
    (st ≤ 1 → Gives (.lanePllRelock d k) s (c.setFld d (Rf.LANE_STAT_PLLLOCK.at k.val) 1))

/-- R558 to R563, R570, R572, R573, R588 to R590: equaliser settings take writes within their ranges; a DFE window moves
each tap one step along the sign of its sum; the checker, the eye scan and the PCS show what the line did. -/
def Obligations.EqualisersAndCheckersFollowTheLine : Prop :=
  ∀ (t : Fin 256) (d : Fin 4) (k : Fin 8) (tap : Fin 12) (v : Word) (accs : List Int) (lock : Bool) (bits : BitVec 64)
    (errs : Nat) (s : State), up s.chip d = true →
    let c := s.chip
    let f := fun (x : Chip) (g : Fld) => x.fld d (g.at k.val)
    let writes := granted c d 12 t = true ∧ seamLane c d k.val = false
    let pcs := lanePcs c d (groupLead c d k.val)
    let lead := groupLead c d k.val
    (writes →
      Gives (.dfeTapWrite t d k tap v) s
        (c.setFld d (tapF k.val (tap.val + 1)) (v.toNat % 2 ^ tapBits (tap.val + 1)))) ∧
    (writes → Reaches (.dfeReset t d k) s fun x => tapVal x d k.val (tap.val + 1) = 0) ∧
    (f c Rf.LANE_DFE_CTL_FREEZE = 0 → laneState c d k.val ≤ 1 → f c Rf.LANE_STAT_LOCK = 1 → lanePcs c d k.val ≠ 6 →
      let old := tapVal c d k.val (tap.val + 1)
      let acc := (accs.drop tap.val).headD 0
      let m : Int := 2 ^ (tapBits (tap.val + 1) - 1)
      Reaches (.dfeAdapt d k accs) s fun x =>
        tapVal x d k.val (tap.val + 1) =
          if 0 < acc ∧ old < m - 1 then old + 1 else if acc < 0 ∧ -m < old then old - 1 else old) ∧
    (f c Rf.LANE_DFE_CTL_FREEZE = 1 → Gives (.dfeAdapt d k accs) s c) ∧
    (granted c d 12 t = true →
      Reaches (.dfeSnapshotRead t d k) s fun x =>
        x.reply = .word (BitVec.ofNat 32 (c.fld d (tapF k.val 1))) ∧
          (x.lane d k.val).snap = (range 2 11).map fun i => (i, c.fld d (tapF k.val i))) ∧
    (writes → (12 < getBits v 0 4 ∨ 20 < getBits v 8 5 ∨ 20 < getBits v 0 4 + getBits v 8 5) →
      Gives (.txfirWrite t d k v) s (c.setFld d (Rf.LANE_STAT_FIRBAD.at k.val) 1)) ∧
    (writes → getBits v 0 4 ≤ 12 → getBits v 8 5 ≤ 20 → getBits v 0 4 + getBits v 8 5 ≤ 20 →
      Reaches (.txfirWrite t d k v) s fun x =>
        f x Rf.LANE_TXFIR_PRE = getBits v 0 4 ∧ f x Rf.LANE_TXFIR_POST = getBits v 8 5 ∧
          f x Rf.LANE_TXFIR_SWING = getBits v 16 4) ∧
    (writes → Gives (.ctleWrite t d k v) s (c.setFld d (Rf.LANE_CTLE_PEAK.at k.val) (min (getBits v 0 6) 36))) ∧
    (granted c d 12 t = true → f c Rf.LANE_EYE_STAT_BUSY = 1 → Gives (.eyeScanGo t d k v) s c) ∧
    (granted c d 12 t = true → f c Rf.LANE_EYE_STAT_BUSY = 0 → getBits v 31 1 = 1 →
      Reaches (.eyeScanGo t d k v) s fun x =>
        f x Rf.LANE_EYE_STAT_BUSY = 1 ∧ f x Rf.LANE_EYE_H = getBits v 0 6 ∧ f x Rf.LANE_EYE_V = getBits v 8 7 ∧
          f x Rf.LANE_EYE_EYE = getBits v 16 2 ∧ f x Rf.LANE_EYE_DWELL = clampN 10 40 (getBits v 24 6)) ∧
    (f c Rf.LANE_EYE_STAT_BUSY = 1 →
      Reaches (.eyeScanDone d k errs) s fun x =>
        f x Rf.LANE_EYE_STAT_BUSY = 0 ∧ f x Rf.LANE_EYE_ERR_ERR = min errs (2 ^ 32 - 1)) ∧
    (1 ≤ pcs → pcs ≤ 5 → c.fld d (Rf.LANE_STAT_HIBER.at lead) = 0 → lead < 8 →
      Reaches (.pcsHiber d k) s fun x => x.fld d (Rf.LANE_STAT_HIBER.at lead) = 1 ∧ Sent x d K.PCSHIBER 0) ∧
    (1 ≤ pcs → pcs ≤ 5 → c.fld d (Rf.LANE_STAT_LOCK.at lead) = 1 →
      Gives (.pcsBlockLock d k lock) s
        ((c.setFld d (Rf.LANE_STAT_PCSLOCK.at lead) (b2n lock)).setFld d (Rf.LANE_STAT_HIBER.at lead) 0)) ∧
    (f c Rf.LANE_PRBS_RXPAT ≠ 0 → f c Rf.LANE_STAT_LOCK = 1 →
      Reaches (.prbsCheckerLock d k lock bits errs) s fun x =>
        f x Rf.LANE_PRBS_RXLOCK = b2n lock ∧
          f x Rf.LANE_PRBS_ERR_ERR =
            if f c Rf.LANE_PRBS_RXLOCK = 1 then min (f c Rf.LANE_PRBS_ERR_ERR + errs) (2 ^ 32 - 1)
            else f c Rf.LANE_PRBS_ERR_ERR) ∧
    (granted c d 12 t = true →
      Reaches (.prbsBitsRead t d k bits errs) s fun x =>
        f x Rf.LANE_PRBS_BITS_LO_BITS = 0 ∧ f x Rf.LANE_PRBS_BITS_HI_BITS = 0 ∧
          x.reply = .word (BitVec.ofNat 32 (f c Rf.LANE_PRBS_BITS_LO_BITS +
            if f c Rf.LANE_PRBS_RXLOCK = 1 then bits.toNat else 0)))

/-- R592 to R602, R611 to R614: frames asked for are counted and sent from their template; a received frame is counted,
and dropped when it is too long for its slot; a flow takes its settings while it is disabled and gives up its pending
frames when it is disabled; check values take data, INIT and writes. -/
def Obligations.FlowsSendReceiveAndCheck : Prop :=
  ∀ (t : Fin 256) (d : Fin 4) (k : Fin 8) (f : Fin 1024) (u : Fin 256) (n : Nat) (v : Word) (start stop : BitVec 64)
    (data body : List Byte) (s : State), up s.chip d = true → present s.chip d 13 = true →
    let c := s.chip
    let g := fun (x : Chip) (h : Fld) => x.fld d (h.at f.val)
    let c1 := laneDemand c d k.val false
    let plain := c.fld d (Rf.FLOW_CTL_CMODE.at n) = 0 ∧ c.fld d (Rf.FLOW_CTL_ALIVE_EN.at n) = 0
    let sent := fun x : Chip => x.reply = .bytes body ∧
      x.fld d (Rf.FLOW_TXREQ_PENDING.at n) = c.fld d (Rf.FLOW_TXREQ_PENDING.at n) - 1 ∧
      x.fld d (Rf.FLOW_FRAMES_FRAMES.at n) = min (c.fld d (Rf.FLOW_FRAMES_FRAMES.at n) + 1) (2 ^ 32 - 1)
    let turn := nextTxFlow c d k.val = some n ∧ laneState c1 d (groupLead c1 d k.val) = 0
    let takes := 16400 ≤ sfFree c d ∧ g c Rf.FLOW_CTL_EN = 1 ∧ g c Rf.FLOW_CTL_DIR = 1 ∧ g c Rf.FLOW_CTL_LANE = k.val
    let slotw := g c Rf.FLOW_SIZE_SLOTW
    let chk := granted c d 14 t = true
    (flowOwned c d t f.val = true →
      Gives (.flowTxreqWrite t d f v) s (c.addFld d (Rf.FLOW_TXREQ_PENDING.at f.val) (getBits v 0 16))) ∧
    (flowOwned c d t f.val = false → Reaches (.flowTxreqWrite t d f v) s fun x => Sent x d K.NOGRANT t) ∧
    (nextTxFlow c d k.val = none → Gives (.flowTxFrame d k) s c) ∧
    (turn → plain → (c.flow d n).ready = some body → Reaches (.flowTxFrame d k) s sent) ∧
    (turn → plain → (c.flow d n).ready = none → templateBasted c1 d n = false →
      (template c1 d n).2 = .bytes body → Reaches (.flowTxFrame d k) s sent) ∧
    (turn → (c.flow d n).ready = none → templateBasted c1 d n = true →
      Reaches (.flowTxFrame d k) s fun x =>
        (x.flow d n).held = true ∧ x.fld d (Rf.FLOW_TXREQ_PENDING.at n) = c.fld d (Rf.FLOW_TXREQ_PENDING.at n)) ∧
    (16400 ≤ sfFree c d → g c Rf.FLOW_CTL_EN = 0 →
      Reaches (.flowRxFrame d k f start stop data) s fun x =>
        x.fld d (Rf.FLOW_UNK_UNK.at k.val) = min (c.fld d (Rf.FLOW_UNK_UNK.at k.val) + 1) (2 ^ 32 - 1)) ∧
    (takes →
      Reaches (.flowRxFrame d k f start stop data) s fun x =>
        g x Rf.FLOW_FRAMES_FRAMES = min (g c Rf.FLOW_FRAMES_FRAMES + 1) (2 ^ 32 - 1)) ∧
    (takes → g c Rf.FLOW_CTL_CMODE = 0 → 7 * (slotw - 1) < data.length →
      Reaches (.flowRxFrame d k f start stop data) s fun x =>
        g x Rf.FLOW_DROPS_DROPS = min (g c Rf.FLOW_DROPS_DROPS + 1) (2 ^ 32 - 1) ∧
          g x Rf.FLOW_PTR_PROD = g c Rf.FLOW_PTR_PROD) ∧
    (granted c d 13 t = true →
      (g c Rf.FLOW_CTL_EN = 1 → getBits v 0 1 = 1 → Gives (.flowEnable t d f v) s c) ∧
      (g c Rf.FLOW_CTL_EN = 1 → getBits v 0 1 = 0 →
        Reaches (.flowEnable t d f v) s fun x =>
          g x Rf.FLOW_CTL_EN = 0 ∧ g x Rf.FLOW_TXREQ_PENDING = 0 ∧ (x.flow d f.val).held = false) ∧
      (g c Rf.FLOW_CTL_EN = 0 → 6 ≤ getBits v 8 3 → Reaches (.flowEnable t d f v) s fun x => Sent x d K.NOGRANT t) ∧
      (g c Rf.FLOW_CTL_EN = 0 → getBits v 8 3 < 6 → getBits v 0 1 = 0 →
        Reaches (.flowEnable t d f v) s fun x =>
          g x Rf.FLOW_CTL_EN = 0 ∧ g x Rf.FLOW_CTL_LANE = getBits v 2 3 ∧ g x Rf.FLOW_CTL_ALG = getBits v 8 3 ∧
            g x Rf.FLOW_CTL_CMODE = min (getBits v 6 2) 2 ∧ g x Rf.FLOW_CTL_TENANT = getBits v 16 8) ∧
      Reaches (.flowRvWrite t d f v) s (fun x => g x Rf.FLOW_RV_RV = v.toNat ∧ flowRv x d f.val = v.toNat) ∧
      Gives (.flowAliveWrite t d f v) s (c.setReg d (Rf.FLOW_ALIVE_AOFF.at f.val).key (v &&& 0x01FF3FFF))) ∧
    (chk →
      let alg := c.fld d (Rf.CHK_CFG_ALG.at u.val)
      let nb := c.fld d (Rf.CHK_CFG_NBYTES.at u.val)
      let rv := c.fld d (Rf.CHK_RV_RV.at u.val)
      Gives (.chkDataWrite t d u v) s
        (c.setFld d (Rf.CHK_RV_RV.at u.val) (chkBytes alg rv (leBytes (if nb = 0 then 4 else nb) v.toNat))) ∧
      Gives (.chkRestart t d u) s (c.setFld d (Rf.CHK_RV_RV.at u.val) (chkInit alg)) ∧
      (getBits v 0 3 < 6 →
        Reaches (.chkAlgWrite t d u v) s fun x =>
          x.fld d (Rf.CHK_CFG_ALG.at u.val) = getBits v 0 3 ∧ x.fld d (Rf.CHK_RV_RV.at u.val) = chkInit (getBits v 0 3)) ∧
      (6 ≤ getBits v 0 3 → Reaches (.chkAlgWrite t d u v) s fun x => Sent x d K.NOGRANT t))

/-! ### DRAM and the Seam -/

/-- R38, R643 to R647, R650, R662, R670: a write of a whole granule is stored and a read answers what is stored; a
poisoned granule answers poison; an offset outside installed memory is an access fault; a channel in self-refresh holds
the request and leaves self-refresh; a merge entry of age 512 is flushed. -/
def Obligations.DramRequestsReadWhatWasWritten : Prop :=
  ∀ (d : Fin 4) (port : Fin 16) (off : BitVec 38) (n g : Nat) (data : List Byte) (errs : List Nat) (s : State),
    up s.chip d = true →
    let c := s.chip
    let x := (c.d d).dram
    let gran := physOf c d off.toNat / 16
    let served := channelFree c d = true ∧ portOn c d port.val = false ∧ x.held = [] ∧ off.toNat % 16 = 0 ∧
      off.toNat + 16 ≤ dramCap c d
    (served → data.length = 16 → Gives (.dramWrite d port off data) s (writeGran c d gran data)) ∧
    (data.length = 16 → granBytes (writeGran c d gran data) d gran = data ∧
      granPoisoned (writeGran c d gran data) d gran = false) ∧
    (served → chipkill c d = false → (∀ e ∈ x.merge, e.gran ≠ gran) →
      Gives (.dramRead d port off 16 []) s { c with reply := .bytes (granBytes c d gran) }) ∧
    (served → chipkill c d = true → granPoisoned c d gran = false → granOpen c d gran = false →
      (∀ e ∈ x.merge, e.gran ≠ gran) →
      Gives (.dramRead d port off 16 []) s { c with reply := .bytes (granBytes c d gran) }) ∧
    (served → chipkill c d = true → granPoisoned c d gran = true → (∀ e ∈ x.merge, e.gran ≠ gran) →
      Gives (.dramRead d port off 16 errs) s { c with reply := .poison }) ∧
    (dramCap c d < off.toNat + n →
      Reaches (.dramRead d port off n errs) s fun k => k.reply = .fault ∧ Sent k d K.ACCFLT 0) ∧
    (dramCap c d < off.toNat + data.length → Reaches (.dramWrite d port off data) s fun k => Sent k d K.ACCFLT 0) ∧
    (off.toNat + data.length ≤ dramCap c d → c.fld d Rf.DRAM_STAT_IN_SR = 1 →
      Reaches (.dramWrite d port off data) s fun k =>
        k.fld d Rf.DRAM_CTL_SR = 0 ∧ (k.d d).dram.held = x.held ++ [.mk port.val true off.toNat data.length data []]) ∧
    ((∃ e ∈ x.merge, e.gran = g ∧ 512 ≤ entryAge c d e) →
      Reaches (.mergeFlush d g errs) s fun k => ∀ m ∈ (k.d d).dram.merge, m.gran / 8 ≠ g / 8) ∧
    ((∀ e ∈ x.merge, e.gran = g → entryAge c d e < 512) → Gives (.mergeFlush d g errs) s c)

/-- R655, R657, R658, R660, R661, R672, R677, R679, R686, R687: refill at each multiple of 64 tq, refresh, the refresh
codes, retraining and patrol scrub. R644, R647, R659, R662, R667 to R669, R675, R686: initialisation, clearing,
the fence, self-refresh, enabling and the mark take effect as the control register says. -/
def Obligations.DramControlAndUpkeepTakeEffect : Prop :=
  (∀ (d : Fin 4) (rank : Fin 2) (bank : Fin 8) (c0 c1 : BitVec 3) (p : Fin 16) (ok queued : Bool) (errs : List Nat)
     (s : State), up s.chip d = true →
     let c := s.chip
     let x := (c.d d).dram
     let w := c.reg d (Rf.DRAM_REG_CTL_EN.at p.val).key
     let ceil := getBits w 16 13 * 8000
     let bankNo := 8 * rank.val + bank.val
     let waits := mapGet (fun _ => 0) x.waiting bankNo + 1
     let two := c.fld d Rf.DRAM_GEOM_RANKS2 = 1
     let trains := c.fld d Rf.DRAM_CTL_EN = 1 ∧ channelFree c d = true ∧ retrainNeeded c d = true ∧
       (ticking c d = false ∨ (c.d d).tick.phase = .slack)
     let trained := c.onDram d fun y => { y with trainAt := c.now d, trainTemp := highestTemp c d }
     let scrubs := chipkill c d = true ∧ c.fld d Rf.DRAM_PATROL_HOURS ≠ 0 ∧ c.fld d Rf.DRAM_STAT_CLEARED = 1 ∧
       c.fld d Rf.DRAM_CTL_EN = 1 ∧ channelFree c d = true
     ((c.now d).toNat % 64 ≠ 0 → Gives (.regulatorRefill d) s c) ∧
     ((c.now d).toNat % 64 = 0 → x.held = [] →
       Reaches (.regulatorRefill d) s fun k =>
         portWord k d p.val = w ∧
           portTokens k d p.val =
             if getBits w 31 1 = 0 then ceil
             else if portOn c d p.val then min ceil (portTokens c d p.val + 128 * getBits w 0 16) else ceil) ∧
     Reaches (.refreshDue d rank bank queued) s (fun k =>
       mapGet (fun _ => 0) (k.d d).dram.waiting bankNo = if queued then (if 8 ≤ waits then 7 else waits) else 0) ∧
     Reaches (.mr4Poll d c0 c1) s (fun k =>
       k.fld d Rf.DRAM_STAT_MULT =
         (if two then max (refreshMult c0.toNat) (refreshMult c1.toNat) else refreshMult c0.toNat) ∧
       (x.code0 ≠ c0.toNat → 6 ≤ c0.toNat → Sent k d K.DRHOT 0)) ∧
     (¬ trains → Gives (.retrainDue d ok rank) s c) ∧
     (trains → ok = true → Gives (.retrainDue d ok rank) s trained) ∧
     (trains → ok = false → Reaches (.retrainDue d ok rank) s fun k => Sent k d K.DRTRAIN 0 ∧ (k.d d).dram = (trained.d d).dram) ∧
     (¬ scrubs → Gives (.patrolRead d errs) s c) ∧
     (scrubs →
       Reaches (.patrolRead d errs) s fun k =>
         (k.d d).dram.patrol = if (x.patrol + 1) * 128 < dramCap c d then x.patrol + 1 else 0)) ∧
  (∀ (t : Fin 256) (d : Fin 4) (ok : Bool) (rank : Fin 2) (v : Word) (i : Nat) (s : State), MayWrite s.chip d 15 t →
     let c := s.chip
     let x := (c.d d).dram
     let f := fun h : Fld => c.fld d h
     let idle := f Rf.DRAM_STAT_BUSY = 0
     let off := f Rf.DRAM_CTL_EN = 0
     let good := bit c.compat 5 = true ∨ masksOk c d = true
     (¬ idle ∨ ¬ off → Gives (.dramInit t d) s c) ∧
     (idle → off →
       Reaches (.dramInit t d) s fun k =>
         k.fld d Rf.DRAM_STAT_BUSY = 1 ∧ k.fld d Rf.DRAM_STAT_READY = 0 ∧ k.fld d Rf.DRAM_STAT_CLEARED = 0 ∧
           (k.d d).dram.cells = [] ∧ (k.d d).dram.merge = []) ∧
     (¬ idle → f Rf.DRAM_STAT_READY = 0 → ok = true → dramRails c d = true →
       Reaches (.dramInitDone d ok rank) s fun k => k.fld d Rf.DRAM_STAT_BUSY = 0 ∧ k.fld d Rf.DRAM_STAT_READY = 1) ∧
     (¬ idle → f Rf.DRAM_STAT_READY = 0 → ok = false →
       Reaches (.dramInitDone d ok rank) s fun k =>
         k.fld d Rf.DRAM_STAT_BUSY = 0 ∧ k.fld d Rf.DRAM_STAT_RESULT = 4 ∧ Sent k d K.DRTRAIN 0) ∧
     (idle → ¬ off → Gives (.dramClear t d) s (c.setFld d Rf.DRAM_STAT_BUSY 1)) ∧
     (¬ idle → f Rf.DRAM_STAT_READY = 1 → x.held = [] →
       Reaches (.dramClearDone d) s fun k =>
         k.fld d Rf.DRAM_STAT_BUSY = 0 ∧ k.fld d Rf.DRAM_STAT_CLEARED = 1 ∧ cellAt (k.d d).dram d i = 0 ∧
           granPoisoned k d i = false) ∧
     Reaches (.dramFence t d) s (fun k => (k.d d).dram.merge = []) ∧
     (f Rf.DRAM_STAT_IN_SR = 0 →
       Reaches (.dramSelfRefresh t d) s fun k =>
         k.fld d Rf.DRAM_STAT_IN_SR = 1 ∧ k.fld d Rf.DRAM_CTL_SR = 1 ∧ (k.d d).dram.merge = []) ∧
     (f Rf.DRAM_STAT_IN_SR = 1 → f Rf.DRAM_CTL_SR = 0 → x.held = [] →
       Gives (.dramSrExit d) s (c.setFld d Rf.DRAM_STAT_IN_SR 0)) ∧
     (off → f Rf.DRAM_STAT_READY = 0 → Gives (.dramEnable t d) s (c.setFld d Rf.DRAM_STAT_RESULT 2)) ∧
     (off → f Rf.DRAM_STAT_READY = 1 → ¬ good → Gives (.dramEnable t d) s (c.setFld d Rf.DRAM_STAT_RESULT 3)) ∧
     (off → f Rf.DRAM_STAT_READY = 1 → good →
       Reaches (.dramEnable t d) s fun k => k.fld d Rf.DRAM_CTL_EN = 1 ∧ k.fld d Rf.DRAM_STAT_RESULT = 1) ∧
     Reaches (.dramMarkWrite t d v) s fun k =>
       k.fld d Rf.DRAM_MARK_CHIP = getBits v 0 4 ∧ k.fld d Rf.DRAM_MARK_VALID = getBits v 4 1)

/-- R691 to R696, R709, R710, R713, R719: a link that ends its training is up or failed; a good flit advances the
sequence, a bad one counts towards failure; an acknowledgement releases the flits it covers; only the supervisor
retrains a failed link. R704 to R707, R709, R710, R717, R724: enabling a group claims lanes 0 and 1, and package 0
becomes its first member; package 0 judges a request to join in the order of R706; joining and leaving change the
membership. -/
def Obligations.SeamLinksAndGroupsFollowTheirEvents : Prop :=
  (∀ (t : Fin 256) (d n : Fin 4) (lat : BitVec 16) (lack : BitVec 8) (nak : Bool) (s : State),
     up s.chip d = true → hasLink s.chip d n.val = true →
     let c := s.chip
     let x := c.link d n.val
     let hears := linkHears c d n.val = true
     let takes := hears ∧ senderStalls c d n.val = false ∧ retryLate c d n.val = false
     let near := (recentRetries c d x).length
     let oldest := x.lseq - BitVec.ofNat 8 x.unacked
     let released := (lack + 1 - oldest).toNat
     (x.st ≠ 1 → Gives (.linkTrainingDone d n true lat) s c) ∧
     (x.st = 1 →
       Reaches (.linkTrainingDone d n true lat) s fun k =>
         (k.link d n.val).st = 0 ∧ k.fld d (Rf.SEAM_LAT_LAT.at n.val) = lat.toNat) ∧
     (x.st = 1 → Reaches (.linkTrainingDone d n false lat) s fun k => (k.link d n.val).st = 2) ∧
     (takes → (n.val < 2 → (c.link (peerDie d n.val) (1 - n.val)).inject = false) →
       Reaches (.flitReceive d n none) s fun k =>
         (k.link d n.val).expect = x.expect + 1 ∧ (k.link d n.val).fails = 0 ∧
           k.fld d (Rf.SEAM_FLITS_FLITS.at n.val) = min (c.fld d (Rf.SEAM_FLITS_FLITS.at n.val) + 1) (2 ^ 32 - 1)) ∧
     (takes → x.fails < 8 → near < 16 →
       Reaches (.flitCrcFail d n) s fun k => (k.link d n.val).fails = x.fails + 1 ∧ (k.link d n.val).expect = x.expect) ∧
     (takes → (8 ≤ x.fails ∨ 16 ≤ near) → Reaches (.flitCrcFail d n) s fun k => (k.link d n.val).st = 2) ∧
     (hears →
       Reaches (.flitAck d n lack nak) s fun k =>
         (k.link d n.val).unacked = if released ≤ x.unacked then x.unacked - released else x.unacked) ∧
     (hears → retryLate c d n.val = true → Reaches (.linkRetryTimeout d n) s fun k => (k.link d n.val).st = 2) ∧
     (retryLate c d n.val = false → Gives (.linkRetryTimeout d n) s c) ∧
     (x.st = 2 → (∀ e ∈ linkEnds d n.val, up c e.1 = true) →
       Reaches (.linkRetrain 0 d n) s fun k => ∀ e ∈ linkEnds d n.val, (k.link e.1 e.2).st = 1 ∧ (k.link e.1 e.2).again = true) ∧
     (t ≠ 0 → Reaches (.linkRetrain t d n) s fun k => k.link d n.val = x ∧ Sent k d K.NOGRANT t) ∧
     (granted c d 16 t = true → Gives (.linkInject t d n) s (c.setLink d n.val { x with inject := true }))) ∧
  (∀ (t : Fin 256) (v : Word) (p size : Fin 8) (started : Bool) (image time : BitVec 64) (n : Fin 4) (s : State),
     up s.chip 0 = true →
     let c := s.chip
     let f := fun (k : Chip) (h : Fld) => k.fld 0 h
     let own := f c Rf.SEAM_GRP_CTL_PKG
     let judge := groupOn c = true ∧ own = 0 ∧ p ≠ 0
     let reason := if started then 6
       else if image.toNat ≠ c.fld64 0 Rf.CFG_IMAGEID_LO_ID Rf.CFG_IMAGEID_HI_ID then 2
       else if bit (f c Rf.SEAM_GRP_STAT_MEMBERS) p.val then 3
       else if size.val ≠ f c Rf.SEAM_GRP_CTL_SIZE_M1 then 4 else 1
     (granted c 0 16 t = true → groupOn c = false → getBits v 8 1 = 1 → getBits v 4 3 ≠ 0 →
       Reaches (.groupEnable t v) s fun k =>
         groupOn k = true ∧ seamLane k 0 0 = true ∧ seamLane k 0 1 = true ∧ f k Rf.SEAM_GRP_CTL_PKG = getBits v 0 3 ∧
           (getBits v 0 3 = 0 → f k Rf.SEAM_GRP_STAT_STATE = 2 ∧ f k Rf.SEAM_GRP_STAT_MEMBERS = 1)) ∧
     (granted c 0 16 t = true → groupOn c = true → getBits v 8 1 = 0 →
       Reaches (.groupEnable t v) s fun k =>
         groupOn k = false ∧ seamLane k 0 0 = false ∧ seamLane k 0 1 = false ∧ f k Rf.SEAM_GRP_STAT_STATE = 0 ∧
           f k Rf.SEAM_GRP_STAT_MEMBERS = 0) ∧
     (groupOn c = true → own ≠ 0 → f c Rf.SEAM_GRP_STAT_STATE ≠ 2 →
       Gives (.groupJoin 0) s
         (if (c.link 0 2).st ≠ 0 ∧ (c.link 0 3).st ≠ 0 then c.setFld 0 Rf.SEAM_GRP_STAT_RESULT 5
          else c.setFld 0 Rf.SEAM_GRP_STAT_STATE 1)) ∧
     (judge → reason = 1 →
       Reaches (.joinRequest p started image size) s fun k =>
         bit (f k Rf.SEAM_GRP_STAT_MEMBERS) p.val = true ∧ Sent k 0 K.GRPJOIN 0) ∧
     (judge → reason ≠ 1 →
       Reaches (.joinRequest p started image size) s fun k =>
         f k Rf.SEAM_GRP_STAT_MEMBERS = f c Rf.SEAM_GRP_STAT_MEMBERS ∧
           ∃ r ∈ (k.d 0).fly, r.kind = K.GRPREF ∧ r.pay = BitVec.ofNat 32 (p.val + reason * 16)) ∧
     (follows c = true →
       Reaches (.groupLeave 0) s fun k => f k Rf.SEAM_GRP_STAT_STATE = 0 ∧ f k Rf.SEAM_GRP_STAT_MEMBERS = 0) ∧
     (follows c = false → Gives (.groupLeave 0) s c) ∧
     (2 ≤ n.val → linkHears c 0 n.val = true → retryLate c 0 n.val = false → own ≠ 0 →
       f c Rf.SEAM_GRP_STAT_STATE = 1 →
       Reaches (.flitReceive 0 n (some (.accept time))) s fun k =>
         f k Rf.SEAM_GRP_STAT_STATE = 2 ∧ k.now 0 = time ∧ ∃ r ∈ (k.d 0).fly, r.kind = K.GRPJOIN))

/-! ### Recipes, the Darner, fuses, tamper and the watchdog -/

/-- R34, R150, R151, R167: RECIPE starts an instance that its block allows; RECIPE_STOP ends it with STOPPED; RECIPE_UPDATE
gives it its next block; a refused block completes with the reason. -/
def Obligations.RecipeCommandsStartStopAndUpdate : Prop :=
  ∀ (t : Fin 256) (c block : List Word) (r : RInst) (s : State),
    let x := s.chip
    let d := cmdDie c
    let n := cmdInst c
    let ready := headCmd x t = some c ∧ badWord c = none ∧ tenEnabled x t = true ∧ (x.host t).cmds = [c] ∧ up x d = true
    let told := fun (k : Chip) (cid : BitVec 16) (st : Nat) => ∃ q ∈ (k.host t).compl, q.cid = cid ∧ q.status = st
    (ready → cmdOp c = 2 → (x.d d).yoke.prog = false → x.inst d n = none → blockRefused x d (newInst t c block) = none →
      Reaches (.cmdRecipe t block) s fun k => k.inst d n = some (newInst t c block)) ∧
    (ready → cmdOp c = 2 → ((x.d d).yoke.prog = true ∨ x.inst d n ≠ none) →
      Reaches (.cmdRecipe t block) s fun k => k.inst d n = x.inst d n ∧ told k (cmdCid c) 5) ∧
    (ready → cmdOp c = 2 → (x.d d).yoke.prog = false → x.inst d n = none →
      ∀ st det, blockRefused x d (newInst t c block) = some (st, det) →
      Reaches (.cmdRecipe t block) s fun k => k.inst d n = none ∧ told k (cmdCid c) st) ∧
    (ready → cmdOp c = 3 → x.inst d n = some r → r.ten = t →
      Reaches (.cmdRecipeStop t) s fun k => k.inst d n = none ∧ told k r.cid 8 ∧ told k (cmdCid c) 0) ∧
    (ready → cmdOp c = 3 → x.inst d n = none → Reaches (.cmdRecipeStop t) s fun k => told k (cmdCid c) 5) ∧
    (ready → cmdOp c = 4 → x.inst d n = some r → r.ten = t → blockRefused x d { r with block := block } = none →
      Reaches (.cmdRecipeUpdate t block) s fun k =>
        k.inst d n = some { r with next := some block } ∧ told k (cmdCid c) 0)

/-- R769: the frame code corrects every single wrong bit of a word and finds every two. R771 to R776: a frame check
corrects a single error and counts it, alarms on a multiple error outside every region, and goes to the next
frame; each memory engine reads its next word; a pass that has covered everything is counted. -/
def Obligations.DarnerCodeAndPassesCorrectErrors : Prop :=
  (∀ a b : Fin 39, wordErr [] = .none ∧ wordErr [a.val] = .one (bitPosition a.val) ∧ wordDiff [a.val] = 0 ∧
     (a ≠ b → wordErr [a.val, b.val] = .bad)) ∧
  (∀ (d : Fin 4) (flips : List Nat) (e : Fin 3) (w p : Nat) (s : State), up s.chip d = true → darnerWorks s.chip d = true →
     let c := s.chip
     let x := (c.d d).darner
     let f := nextFrame 97 c d x.frame
     let us := flips.foldl (fun us u => if u < 1576 then toggle us u else us) (c.upsetsAt d f)
     let checks := (c.d d).reload = none ∧ f < 196608
     let after := fun k : Chip => (k.d d).darner.frame = nextFrame 97 c d (f + 1)
     let one := fun (h : Fld) => min (c.fld d h + 1) (2 ^ h.w - 1)
     let ended := 196608 ≤ f ∧ ∀ i < 3, engineWords i ≤ enginePos x i
     (checks → frameErr us = .none →
       Reaches (.darnerFrameCheck d flips) s fun k => after k ∧ k.upsetsAt d f = us ∧ (k.d d).frames = (c.d d).frames) ∧
     (checks → frameErr us = .single w p →
       Reaches (.darnerFrameCheck d flips) s fun k =>
         after k ∧ k.fld d Rf.DARNER_FR_CE_CE = one Rf.DARNER_FR_CE_CE ∧ Sent k d K.FRCE 0) ∧
     (checks → frameErr us = .multi → regionOfGrain c d (f / 2048) = none →
       Reaches (.darnerFrameCheck d flips) s fun k =>
         after k ∧ k.fld d Rf.DARNER_FR_MULTI_MULTI = one Rf.DARNER_FR_MULTI_MULTI ∧ Sent k d K.FRALARM 0) ∧
     ((c.d d).reload ≠ none → Gives (.darnerFrameCheck d flips) s c) ∧
     (engineWords e.val ≤ enginePos x e.val → Gives (.darnerMemRead d e) s c) ∧
     (enginePos x e.val < engineWords e.val →
       Reaches (.darnerMemRead d e) s fun k => enginePos (k.d d).darner e.val = enginePos x e.val + 1) ∧
     (¬ ended → Gives (.darnerPassEnd d) s c) ∧
     (ended →
       Reaches (.darnerPassEnd d) s fun k => k.fld d Rf.DARNER_PASSES_COUNT = one Rf.DARNER_PASSES_COUNT))

/-- R808, R818 to R820, R843, R845: a lifecycle transition that is refused changes nothing and is logged; an accepted one
programs the rows in turn; a row is programmed once, and its result shown. -/
def Obligations.FusesProgramOnceAndLifecycleOnlyRises : Prop :=
  ∀ (d e : Fin 4) (ok : Bool) (v : Word) (m : LcMove) (r : Nat) (w : BitVec 64) (s : State),
    up s.chip 0 = true → up s.chip d = true →
    let c := s.chip
    let h := (c.d d).hem
    let target := getBits v 0 3
    let lc := (c.d 0).hem.lc
    let busy := c.lcMove ≠ none ∨ ∃ i : Fin 4, (c.d i).hem.prog ≠ none
    let refused := busy ∨ 4 < target ∨ (target ≤ lc ∧ c.fld 0 Rf.CFG_STAT_STATE ≠ 4) ∨
      (3 ≤ target ∧ lc = 2 ∧ authed c = false)
    let row := c.fld d Rf.HEM_PROG_ROW_ROW
    let data := BitVec.ofNat 64 (c.fld64 d Rf.HEM_PROG_LO_DATA Rf.HEM_PROG_HI_DATA)
    let closed := hemRow h row ≠ 0 ∨ row ∈ h.broken ∨ rowOpen h.lc row = false
    (refused →
      Reaches (.lifecycleTransition 0 v) s fun k =>
        k.lcMove = c.lcMove ∧ (∀ i, (k.d i).hem = (c.d i).hem) ∧ Sent k 0 K.NOGRANT 0) ∧
    (¬ busy → lc < target → target ≤ 4 → (target < 3 ∨ lc ≠ 2 ∨ authed c = true) → lcNext c target = some e →
      Reaches (.lifecycleTransition 0 v) s fun k =>
        k.lcMove = some { target := target, old := lc, die := e } ∧ k.fld 0 Rf.HEM_STAT_LCBUSY = 1 ∧
          (3 ≤ target → k.vbat.keyValid = false ∧ k.vbat.key = 0)) ∧
    (c.lcMove = none → Gives (.lcRowProgrammed ok) s c) ∧
    (c.lcMove = some m → lcNext c m.target = some e →
      let n := lcReached c e + 2
      Reaches (.lcRowProgrammed ok) s fun k =>
        hemRow (k.d e).hem n = lcPattern n ∧ (∀ i j, (i ≠ e ∨ j ≠ n) → hemRow (k.d i).hem j = hemRow (c.d i).hem j) ∧
          (ok = false → Sent k e K.HEMPROG 0)) ∧
    (c.lcMove = some m → lcNext c m.target = none →
      Reaches (.lcRowProgrammed ok) s fun k =>
        k.lcMove = none ∧ (∀ i, (k.d i).hem.lc = max (c.d i).hem.lc m.target) ∧ Sent k 0 K.LCCHANGE 0) ∧
    (h.prog = none → closed → Gives (.hemProgram 0 d) s (c.setFld d Rf.HEM_STAT_PROGRESULT 2)) ∧
    (h.prog = none → ¬ closed →
      Reaches (.hemProgram 0 d) s fun k =>
        (k.d d).hem = { h with prog := some (row, data) } ∧ k.fld d Rf.HEM_STAT_PROGBUSY = 1) ∧
    (h.prog ≠ none → Gives (.hemProgram 0 d) s c) ∧
    (h.prog = some (r, w) →
      Reaches (.hemProgramDone d ok) s fun k =>
        hemRow (k.d d).hem r = w ∧ (k.d d).hem.prog = none ∧ k.fld d Rf.HEM_STAT_PROGBUSY = 0 ∧
          k.fld d Rf.HEM_STAT_PROGRESULT = (if ok then 1 else 3) ∧
          (ok = false → r ∈ (k.d d).hem.broken ∧ Sent k d K.HEMPROG 0))

/-- R821 to R827, R836, R846: a condition that begins on an enabled source trips it, logs it and destroys the key where the
fuses say so; enables are only added; the key is committed once and can be erased, and in SCRAPPED neither; the log is
cleared only in DEVELOP. -/
def Obligations.TamperTripsAreLoggedAndKeyGuarded : Prop :=
  ∀ (d : Fin 4) (src : Fin 4) (ns : Nat) (v : Word) (s : State), up s.chip 0 = true → up s.chip d = true →
    let c := s.chip
    let b := c.vbat
    let act := c.fld d Rf.TAMPER_STAT_ACTIVE
    let begins := (src = 0 → d = 0 ∧ 10000 ≤ ns) ∧ b.vaonAbsent = false ∧ bit act src.val = false
    let scrapped := (c.d 0).hem.lc = 4
    (begins →
      Reaches (.tamperTrip d src ns) s fun k =>
        bit (k.fld d Rf.TAMPER_STAT_ACTIVE) src.val = true ∧
          (bit (c.fld d Rf.TAMPER_EN_EN) src.val = false → k.vbat = b) ∧
          (bit (c.fld d Rf.TAMPER_EN_EN) src.val = true →
            bit (k.fld d Rf.TAMPER_STAT_TRIPPED) src.val = true ∧ k.fld d Rf.TAMPER_STAT_HELD = 1 ∧
              k.vbat.log.length = min 16 (b.log.length + 1) ∧ k.vbat.seq = b.seq + 1 ∧
              (bit (c.d 0).hem.control 17 = true → k.vbat.keyValid = false ∧ k.vbat.key = 0) ∧ Sent k d K.TAMPER 0)) ∧
    (src = 0 → ns ≤ 2000 → Gives (.tamperTrip d src ns) s c) ∧
    (bit act src.val = true → 10000 ≤ ns → Gives (.tamperTrip d src ns) s c) ∧
    Reaches (.tamperConditionEnd d src) s (fun k =>
      k.fld d Rf.TAMPER_STAT_ACTIVE = clrBit act src.val ∧ k.vbat = b ∧
        k.fld d Rf.TAMPER_STAT_TRIPPED = c.fld d Rf.TAMPER_STAT_TRIPPED) ∧
    Reaches (.tamperEnWrite 0 d v) s (fun k =>
      k.fld d Rf.TAMPER_EN_EN =
        Nat.lor (c.fld d Rf.TAMPER_EN_EN) (if d = 0 then getBits v 0 4 else 2 * getBits v 1 3)) ∧
    (b.keyValid = false → ¬ scrapped →
      Reaches (.bbkeyCommit 0) s fun k =>
        k.vbat = { b with keyValid := true } ∧ k.fld 0 Rf.TAMPER_KEYCTL_KEYVALID = 1) ∧
    ((b.keyValid = true ∨ scrapped) → Reaches (.bbkeyCommit 0) s fun k => k.vbat = b ∧ Sent k 0 K.NOGRANT 0) ∧
    (¬ scrapped → Reaches (.bbkeyErase 0) s fun k => k.vbat = { b with key := 0, keyValid := false }) ∧
    (scrapped → Reaches (.bbkeyErase 0) s fun k => k.vbat = b ∧ Sent k 0 K.NOGRANT 0) ∧
    ((c.d 0).hem.lc = 1 → Gives (.tamperLogClear 0) s { c with vbat := { b with log := [], ovf := 0 } }) ∧
    ((c.d 0).hem.lc ≠ 1 → Reaches (.tamperLogClear 0) s fun k => k.vbat = b ∧ Sent k 0 K.NOGRANT 0)

/-- R828 to R834, R836, R838, R840: the watchdog starts once and is not stopped; the host sequence serves every open
window; expiry pulses WDOUT and stops the device, or only raises WDEXPIRE where the fuses say so, at the lowest-numbered
die whose count has run out. -/
def Obligations.WatchdogIsServedOrExpires : Prop :=
  ∀ (t : Fin 256) (d : Fin 4) (v : Word) (s : State), up s.chip d = true → up s.chip 0 = true →
    let c := s.chip
    let x := (c.d d).wdog
    let period := max 1 (c.fld d Rf.WDOG_PERIOD_MS)
    let due := x.running = true ∧ wdogFull c d ≤ wdogCount c d
    let first := wdogFirst c d
    (getBits v 0 1 = 0 → Gives (.wdogEnable 0 d v) s c) ∧
    (getBits v 0 1 = 1 → x.running = true → Gives (.wdogEnable 0 d v) s (c.setFld d Rf.WDOG_CTL_EN 1)) ∧
    (getBits v 0 1 = 1 → x.running = false →
      Reaches (.wdogEnable 0 d v) s fun k =>
        (k.d d).wdog = { x with running := true, count := 0, period := period } ∧ k.fld d Rf.WDOG_STAT_RUNNING = 1) ∧
    Gives (.wdogWindowOpen d) s (c.setFld d Rf.WDOG_STAT_OPEN
      (b2n (x.running && decide (wdogOpen c d ≤ wdogCount c d) && decide (wdogCount c d < wdogFull c d)))) ∧
    (¬ due → Gives (.wdogExpire d) s c) ∧
    (due → bit (c.d 0).hem.control 15 = true →
      Reaches (.wdogExpire d) s fun k =>
        Sent k first K.WDEXPIRE 0 ∧ alive k = true ∧ (∀ e, (k.d e).wdog.count = 0) ∧ k.wdout.isSome = true) ∧
    (due → bit (c.d 0).hem.control 15 = false →
      Reaches (.wdogExpire d) s fun k =>
        alive k = false ∧ k.stop.wdog = true ∧ k.wdout.isSome = true ∧ k.fld 0 Rf.ILK_STAT_LASEN = 0 ∧
          (∃ a, k.aol.head? = some a ∧ a.kind = K.WDEXPIRE ∧ a.time = c.now first)) ∧
    (t ≠ 0 → Reaches (.hostWdogService t v) s fun k => Sent k 0 K.NOGRANT t) ∧
    (c.hostSvc = false → v = 0x5A17 → Gives (.hostWdogService 0 v) s { c with hostSvc := true }) ∧
    (v ≠ 0x5A17 → (v ≠ 0xA5E8 ∨ c.hostSvc = false) →
      Reaches (.hostWdogService 0 v) s fun k =>
        k.hostSvc = false ∧ Sent k 0 K.WDBADSVC 0 ∧
          k.fld 0 Rf.WDOG_BADSVC_BAD = min (c.fld 0 Rf.WDOG_BADSVC_BAD + 1) (2 ^ 32 - 1)) ∧
    (c.hostSvc = true → v = 0xA5E8 → (∀ e, (c.d e).wdog.running = true → wdogIsOpen c e = true) →
      (∀ e, (c.d e).stopped = false ∧ wdogJoins c e true = false) →
      Reaches (.hostWdogService 0 v) s fun k =>
        k.hostSvc = false ∧ ∀ e, (c.d e).wdog.running = true →
          (k.d e).wdog.count = 0 ∧ k.fld e Rf.WDOG_SVCS_SVCS = min (c.fld e Rf.WDOG_SVCS_SVCS + 1) (2 ^ 32 - 1))

/-! ### Placket, the TAP, resets and rails -/

/-- R855, R861 to R863, R882, R885: halts take effect before the next instruction, and resume and step act on a halted
unit only; registers of a halted unit are read and written through the selection; otherwise the status reads NOTHALTED. -/
def Obligations.HaltsStepAndShowState : Prop :=
  ∀ (d : Fin 4) (i : Fin 16) (cl : Fin 192) (v : Word) (ws : List Nat) (s : State),
    up s.chip d = true → dbgLocked s.chip = false →
    let c := s.chip
    let y := (c.d d).yoke
    let x := c.cluster d cl.val
    let status := fun k : Chip => k.fld d Rf.PLACKET_DBG_STAT_STATUS
    let only := getBits v 0 8 = cl.val ∧ getBits v 8 8 = 1
    let sel := getBits v 0 8 = cl.val
    let cls := getBits v 8 3
    let data := fun j => c.fld d (Rf.PLACKET_CLDATA_DATA.at j)
    (y.halted = false → y.run = true → y.wait = .none →
      Reaches (.yokeHalt 0 d) s fun k => (k.d d).yoke.halted = true ∧ (k.d d).yoke.pc = y.pc ∧ Sent k d K.DBGHALT 0) ∧
    (y.halted = false → (y.run = false ∨ y.wait ≠ .none) →
      Reaches (.yokeHalt 0 d) s fun k => (k.d d).yoke = y ∧ (k.d d).yHaltReq ≠ none) ∧
    (y.halted = true →
      Reaches (.yokeResume 0 d) s (fun k => (k.d d).yoke.halted = false ∧ (k.d d).yoke.passBp = true) ∧
      Reaches (.yokeStep 0 d) s (fun k => (k.d d).yoke = { y with step := true }) ∧
      Reaches (.yregWrite 0 d i v) s (fun k => i ≠ 0 → k.l d i.val = v) ∧
      (i = 0 → Gives (.yregWrite 0 d i v) s c)) ∧
    (y.halted = false →
      Gives (.yokeResume 0 d) s c ∧ Gives (.yokeStep 0 d) s (setDbgStatus c d stNotHalted) ∧
      Gives (.yregWrite 0 d i v) s (setDbgStatus c d stNotHalted)) ∧
    (only → x.st = .running →
      Reaches (.clusterHalt 0 d v) s fun k => (k.cluster d cl.val).st = .halted ∧ Sent k d K.DBGHALT 0) ∧
    (only → x.st = .halted → x.killed = false →
      Reaches (.clusterResume 0 d v) s fun k => k.cluster d cl.val = { x with st := .running, passBp := true }) ∧
    (only → x.st ≠ .halted →
      Reaches (.clusterStep 0 d v) s fun k => k.cluster d cl.val = x ∧ status k = 7) ∧
    (only → x.st = .halted → x.killed = false →
      Reaches (.clusterStep 0 d v) s fun k => (k.cluster d cl.val).st ≠ .running) ∧
    (sel → clReach c d cl.val cls = false →
      Reaches (.clselRead 0 d v) s (fun k => status k = 7) ∧ Reaches (.clselWrite 0 d v) s fun k => status k = 7) ∧
    (sel → clReach c d cl.val cls = true → clItem c d cl.val cls (getBits v 11 12) (getBits v 23 4) = some ws →
      Reaches (.clselRead 0 d v) s fun k =>
        ∀ j < 4, ∀ w, ws[j]? = some w → k.fld d (Rf.PLACKET_CLDATA_DATA.at j) = w % 2 ^ 32) ∧
    (sel → clReach c d cl.val cls = true → cls ≠ 6 →
      Reaches (.clselWrite 0 d v) s fun k =>
        k.cluster d cl.val = clPut x cls (getBits v 11 12) (getBits v 23 4) data) ∧
    (sel → clReach c d cl.val cls = true → cls = 6 →
      Reaches (.clselWrite 0 d v) s fun k =>
        istoreAt k d cl.val (getBits v 11 12) =
          BitVec.ofNat 128 (data 0 + data 1 * 2 ^ 32 + data 2 * 2 ^ 64 + data 3 * 2 ^ 96))

/-- R855 to R860, R868, R879, R883: a challenge is used once; authentication shows its result, and eight failures lock
it out; a debug access waits in the port and ends with its status; while debug is locked an access only reads
LOCKED; trace takes its settings. R703, R855, R871 to R873: an instruction is selected on a die of the chain, and
acts as BYPASS while debug is locked unless it is IDCODE, SAMPLE or BYPASS; without VAON the chain does nothing. -/
def Obligations.DebugAndTapFollowTheirLock : Prop :=
  (∀ (t : Fin 256) (d : Fin 4) (v : Word) (a : DbgAcc) (r : Nat) (s : State), up s.chip 0 = true → up s.chip d = true →
     let c := s.chip
     let f := fun (k : Chip) (h : Fld) => k.fld 0 h
     let free := (c.d d).dbg = none
     let out := setDbgStatus c d stLocked
     Reaches (.authNewchal 0) s (fun k =>
       f k Rf.PLACKET_AUTH_STAT_CHALVALID = 1 ∧
         ∀ i < 8, f k (Rf.PLACKET_AUTH_CHAL_CHAL.at i) = (Config.freeWord (c.free + i)).toNat) ∧
     (f c Rf.PLACKET_AUTH_STAT_BUSY = 0 →
       Reaches (.authGo 0) s fun k =>
         k.auth = some (authResult c) ∧ f k Rf.PLACKET_AUTH_STAT_BUSY = 1 ∧ f k Rf.PLACKET_AUTH_STAT_CHALVALID = 0) ∧
     (f c Rf.PLACKET_AUTH_STAT_BUSY = 1 → Gives (.authGo 0) s c) ∧
     (c.auth = some 1 →
       Reaches .authDone s fun k =>
         k.auth = none ∧ authed k = true ∧ f k Rf.PLACKET_AUTH_STAT_RESULT = 1 ∧ Sent k 0 K.DBGAUTH 0) ∧
     (c.auth = some r → 2 ≤ r → r ≤ 4 →
       let n := min (f c Rf.PLACKET_AUTH_STAT_FAILS + 1) 15
       Reaches .authDone s fun k =>
         authed k = authed c ∧ f k Rf.PLACKET_AUTH_STAT_RESULT = r ∧ f k Rf.PLACKET_AUTH_STAT_FAILS = n ∧
           (8 ≤ n → f k Rf.PLACKET_AUTH_STAT_LOCKOUT = 1) ∧ Sent k 0 K.DBGAUTHF 0) ∧
     (c.auth = none → Gives .authDone s c) ∧
     (dbgLocked c = true →
       Gives (.debugRead 0 d v) s out ∧ Gives (.debugWrite 0 d v) s out ∧ Gives (.yokeHalt 0 d) s out ∧
       Gives (.clusterHalt 0 d v) s out ∧ Gives (.clselRead 0 d v) s out ∧ Gives (.clselWrite 0 d v) s out ∧
       Gives (.traceCtlWrite 0 v) s (setDbgStatus c 0 stLocked)) ∧
     (t ≠ 0 →
       Reaches (.debugRead t d v) s (fun k => Sent k d K.NOGRANT t ∧ (k.d d).dbg = (c.d d).dbg) ∧
       Reaches (.authGo t) s (fun k => Sent k 0 K.NOGRANT t ∧ k.auth = c.auth)) ∧
     (dbgLocked c = false → free →
       Reaches (.debugRead 0 d v) s (fun k => k.fld d Rf.PLACKET_DBG_STAT_BUSY = 1 ∧
         ∃ q, (k.d d).dbg = some q ∧ q.wr = false ∧ q.tap = false) ∧
       Reaches (.debugWrite 0 d v) s (fun k => k.fld d Rf.PLACKET_DBG_STAT_BUSY = 1 ∧
         ∃ q, (k.d d).dbg = some q ∧ q.wr = true ∧ q.tap = false)) ∧
     (free → Gives (.debugAccessDone d) s c) ∧
     (c.vbat.vaonAbsent = false → (c.d d).dbg = some a → a.addr / 2 ^ 38 ≠ d.val →
       Reaches (.debugAccessDone d) s fun k =>
         (k.d d).dbg = none ∧ k.fld d Rf.PLACKET_DBG_STAT_BUSY = 0 ∧ k.fld d Rf.PLACKET_DBG_STAT_STATUS = 2) ∧
     (dbgLocked c = false → getBits v 0 2 = 0 → 10 ≤ getBits v 8 5 → getBits v 8 5 ≤ 24 →
       Reaches (.traceCtlWrite 0 v) s fun k =>
         f k Rf.PLACKET_TR_CTL_DEST = 0 ∧ f k Rf.PLACKET_TR_CTL_LOG2 = getBits v 8 5 ∧
           f k Rf.PLACKET_TR_CTL_CLKNET = getBits v 2 4 ∧ k.trace.fifo = [])) ∧
  (∀ (d : Fin 4) (addr : BitVec 40) (lane : Bool) (data : BitVec 56) (pins : List Bool) (v : Word) (s : State),
     let c := s.chip
     let ir := fun (code : Nat) (k : Chip) => (k.d d).tap.ir = if dbgLocked c then 0xFFF else code
     let works := c.vbat.vaonAbsent = false
     (works →
       Reaches .tapReset s (fun k => ∀ e, (k.d e).tap.ir = 4) ∧ Reaches (.tapExtest d) s (ir 0x000) ∧
       Reaches (.tapHighz d) s (ir 0x040) ∧ Reaches (.tapClamp d) s (ir 0x080) ∧ Reaches (.tapBypass d) s (ir 0xFFF) ∧
       Reaches (.tapIdcode d) s (fun k => (k.d d).tap.ir = 4 ∧ k.reply = .word (0x1539_06B5 + BitVec.ofNat 32 (d.val * 4096))) ∧
       Reaches (.tapSample d pins) s (fun k =>
         (k.d d).tap.ir = 2 ∧ (k.d d).tap.cells = (range 0 (boundaryCells d)).map fun i => pins.getD i false) ∧
       (d ≠ 0 → Reaches (.tapCfgdata d v) s fun k => (k.d d).tap.ir = 0xFFF ∧ k.cfg = c.cfg)) ∧
     (works → dbgLocked c = false → up c 0 = true →
       Reaches (.tapCfgdata 0 v) s fun k => k.cfg = (jtagWord (tapSelect c 0 0x020) v).cfg) ∧
     (works → dbgLocked c = false → (c.d d).dbg = none →
       Reaches (.tapDbgaccRead d addr lane) s (fun k =>
         (k.d d).dbg = some { tap := true, wr := false, lane := lane, addr := addr.toNat, data := 0 }) ∧
       Reaches (.tapDbgaccWrite d addr lane data) s (fun k =>
         (k.d d).dbg = some { tap := true, wr := true, lane := lane, addr := addr.toNat, data := data })) ∧
     (works → dbgLocked c = true →
       Reaches (.tapDbgaccRead d addr lane) s (fun k => (k.d d).dbg = (c.d d).dbg) ∧
       Reaches (.tapDbgaccWrite d addr lane data) s fun k => (k.d d).dbg = (c.d d).dbg) ∧
     (c.vbat.vaonAbsent = true →
       Gives .tapReset s c ∧ Gives (.tapExtest d) s c ∧ Gives (.tapIdcode d) s c ∧ Gives (.tapSample d pins) s c ∧
       Gives (.tapDbgaccRead d addr lane) s c ∧ Gives (.tapCfgdata d v) s c))

/-- R903 to R906: PORN holds the device in reset and its release starts it; SRST ends ticks, programs and basting and
its end lets passes run; PERST_N takes the link down and lets it train again. R467, R832, R833, R895, R896, R937:
in a class F stop or in reset every pin that R895 names is high-impedance but WDOUT in its pulse, and until the
image is released so are the user I/O and the pins that go with them; WDOUT has its active level in the pulse
alone; ALERT_N, CFG_DONE and CFG_ERR follow their causes; the laser outputs have their enabled levels only while
LASEN is 1. Which goes first, an off state or a boundary test, is the model's reading (log 208). -/
def Obligations.ResetsReleaseTheDeviceAndItsPins : Prop :=
  (∀ (ns : Nat) (g2 : Bool) (bootsel d : Fin 4) (found : List HemFinding) (width : BitVec 3) (speed : BitVec 2) (m : Mem)
     (i : Nat) (s : State),
     let c := s.chip
     let kept := fun k : Chip => k.vbat = c.vbat ∧ k.aol = c.aol ∧ k.ilk = c.ilk ∧ k.trace = c.trace ∧ k.free = c.free
     (10000 ≤ ns →
       Reaches (.pornFall ns) s fun k =>
         alive k = false ∧ k.stop.held = true ∧ k.fld 0 Rf.ILK_STAT_LASEN = 0 ∧ k.hosts = [] ∧ k.remotes = [] ∧
           (k.d d).yoke = {} ∧ (k.d d).clusters = [] ∧ (k.d d).tick.phase = .idle ∧ (k.d d).hem = (c.d d).hem ∧
           (k.d d).dram.cells = [] ∧ kept k) ∧
     (ns ≤ 1000 → Gives (.pornFall ns) s c) ∧
     (c.stop.held = true → coreRails c = true →
       Reaches (.pornRelease g2 bootsel found) s fun k =>
         alive k = true ∧ k.g2pin = g2 ∧ k.compat = (if g2 then 63 else 0) ∧
           k.fld 0 Rf.CFG_STAT_BOOTSEL = bootsel.val ∧ k.fld 0 Rf.CFG_STAT_STATE = b2n (bootsel == 0)) ∧
     ((c.stop.held = false ∨ coreRails c = false) → Gives (.pornRelease g2 bootsel found) s c) ∧
     (alive c = true → 1000 ≤ ns →
       Reaches (.srstNFall ns) s fun k =>
         k.stop.srst = true ∧ alive k = true ∧ (k.d d).tick.phase = .idle ∧ (k.d d).yoke.run = false ∧ k.hosts = [] ∧
           k.remotes = [] ∧ (k.word d m i).tag = .committed ∧ (k.cluster d i).st = .idle ∧
           k.fld 0 Rf.ILK_STAT_LASEN = 0) ∧
     ((alive c = false ∨ ns ≤ 100) → Gives (.srstNFall ns) s c) ∧
     (c.stop.srst = true → Reaches .srstEnd s fun k => k.stop.srst = false ∧ k.vbat = c.vbat) ∧
     (c.stop.srst = false → Gives .srstEnd s c) ∧
     Reaches .perstNAssert s (fun k =>
       k.perst = true ∧ k.fld 0 Rf.HOST_LINK_UP = 0 ∧ k.msix = [] ∧ k.hosts = c.hosts ∧ StoresKept c k) ∧
     Gives .perstNRelease s { c with perst := false } ∧
     (c.perst = true → Gives (.pcieLinkUp width speed) s c) ∧
     (c.perst = false → alive c = true → c.fld 0 Rf.PWR_RAIL_VHOST = 1 → width.toNat ∈ [1, 2, 4] → speed ≠ 0 →
       Reaches (.pcieLinkUp width speed) s fun k =>
         k.fld 0 Rf.HOST_LINK_UP = 1 ∧ k.fld 0 Rf.HOST_LINK_WIDTH = width.toNat ∧
           k.fld 0 Rf.HOST_LINK_SPEED = speed.toNat) ∧
     Reaches .dbgPorn s (fun k =>
       authed k = false ∧ k.trace = {} ∧ (k.d d).yoke.halted = false ∧ (k.d d).dbg = none ∧ (k.d d).tap = {} ∧
         (k.cluster d i).st ≠ .halted)) ∧
  (∀ (b : Ball) (s : State),
     let c := s.chip
     let plain := (c.d 0).tap.ir ∉ [0x000, 0x040, 0x080] ∧ feature c 0 6 = true ∧ c.vbat.vaonAbsent = false
     ((fatalStopped c = true ∨ c.stop.held = true) → (b.offUnconfigured = true ∨ b.offStopped = true) → b ≠ .wdout →
       pinDrive c b = .highZ) ∧
     (c.fld 0 Rf.CFG_STAT_STATE ≠ 2 → b.offUnconfigured = true → b ≠ .wdout → pinDrive c b = .highZ) ∧
     (feature c 0 6 = true → c.wdout ≠ none →
       pinDrive c .wdout = if (c.d 0).hem.control.testBit 14 then .high else .low) ∧
     (c.wdout = none → (c.d 0).tap.ir ∉ [0x000, 0x080] → pinDrive c .wdout = .highZ) ∧
     (plain →
       (pinDrive c .alertN = .low ↔
         (fatalStopped c = true ∨ ∃ i < 8, c.fld 0 (Rf.EVT_ALARM_KINDS.at i) ≠ 0)) ∧
       (pinDrive c .cfgDone = .released ↔ c.fld 0 Rf.CFG_STAT_STATE = 2 ∧ alive c = true) ∧
       (pinDrive c .cfgErr = .low ↔ c.fld 0 Rf.CFG_STAT_STATE = 3 ∨ c.fld 0 Rf.CFG_STAT_STATE = 4)) ∧
     ((pinDrive c .lasenA = .high ∨ pinDrive c .lasenB = .low) → c.flag 0 Rf.ILK_STAT_LASEN = true ∧ alive c = true))

/-- R474, R825, R833, R896, R907 to R910, R922, R924, R928, R930: loss of the always-on rail empties its domain and
holds the S9, and power-up gives the interlock the state of its two channels; a deep dip of a core rail stops the S9
and is recorded, and it restarts once its rails are back; the end of a WDOUT pulse restarts an S9 that the watchdog
alone has stopped; a rail that leaves its range takes down what it feeds, RAILLOW follows after 10 µs and RAILOK
after 1 ms. That VCORE or VAUX out of range stops a running S9 only by a dip of R908 is the model's reading (log 20). -/
def Obligations.RailsAndBrownoutStopTheDevice : Prop :=
  ∀ (d : Fin 4) (b : Fin 16) (ok aux vbat aSafe bSafe g2 : Bool) (ns mv : Nat) (bootsel : Fin 4)
    (found : List HemFinding) (s : State),
    let c := s.chip
    let x := c.stop
    let f := fun (k : Chip) (h : Fld) => k.fld d h
    let other := x.held = true ∨ x.thermal = true ∨ x.brownout = true
    Reaches (.vaonLoss vbat) s (fun k =>
      k.vbat.vaonAbsent = true ∧ k.aol = [] ∧ k.stop.held = true ∧ k.wdout = none ∧
        (vbat = true → k.vbat.key = c.vbat.key ∧ k.vbat.log = c.vbat.log ∧ k.vbat.seconds = c.vbat.seconds) ∧
        (vbat = false → k.vbat.key = 0 ∧ k.vbat.log = [])) ∧
    (c.vbat.vaonAbsent = false → Gives (.vaonPowerUp aSafe bSafe) s c) ∧
    (c.vbat.vaonAbsent = true →
      Reaches (.vaonPowerUp aSafe bSafe) s fun k =>
        k.vbat.vaonAbsent = false ∧ ilkState k = (if aSafe = bSafe then b2n aSafe else 2) ∧
          k.fld 0 Rf.ILK_STAT_A_SAFE = b2n aSafe ∧ k.fld 0 Rf.ILK_STAT_B_SAFE = b2n bSafe) ∧
    (x.held = false → x.brownout = false → 200 < ns → mv < 605 →
      Reaches (.brownoutDip d aux ns mv) s fun k =>
        alive k = false ∧ k.stop.brownout = true ∧ k.fld 0 Rf.PWR_BOSTAT_DIE = d.val ∧
          k.fld 0 Rf.PWR_BOSTAT_RAIL = b2n aux ∧ (k.d d).dram.cells = [] ∧ k.fld 0 Rf.ILK_STAT_LASEN = 0 ∧
          k.fld 0 Rf.PWR_BOSTAT_COUNT = min (c.fld 0 Rf.PWR_BOSTAT_COUNT + 1) 65535) ∧
    ((ns ≤ 120 ∨ 1600 < mv) → Gives (.brownoutDip d aux ns mv) s c) ∧
    (x.brownout = true → x.held = false → x.thermal = false → coreRails c = true →
      Reaches (.brownoutRestart found g2 bootsel) s fun k => alive k = true ∧ k.fld 0 Rf.CFG_STAT_BOOTSEL = bootsel.val) ∧
    (x.brownout = false → Gives (.brownoutRestart found g2 bootsel) s c) ∧
    (c.wdout ≠ some 0 → Gives (.wdoutPulseEnd found g2 bootsel) s c) ∧
    (c.wdout = some 0 → x.wdog = true → ¬ other →
      Reaches (.wdoutPulseEnd found g2 bootsel) s fun k => alive k = true ∧ k.wdout = none) ∧
    (c.wdout = some 0 → x.wdog = false → Gives (.wdoutPulseEnd found g2 bootsel) s { c with wdout := none }) ∧
    ((hasRail d b.val = false ∨ railBit c d b.val = ok) → Gives (.railChange d b ok) s c) ∧
    (hasRail d b.val = true → railBit c d b.val ≠ ok → 3 < b.val →
      Reaches (.railChange d b ok) s fun k =>
        railBit k d b.val = ok ∧ k.stop = x ∧
          (ok = false → (b = 4 ∨ b = 5) → f k Rf.DRAM_STAT_READY = 0 ∧ f k Rf.DRAM_CTL_EN = 0) ∧
          (ok = false → b = 11 → k.fld 0 Rf.HOST_LINK_UP = 0) ∧
          (ok = false → (b = 6 ∨ b = 7) → ∀ i < 8, laneState k d i = 3)) ∧
    (railBit c d 2 = true → b = 2 → Reaches (.railChange d b false) s fun k => alive k = false ∧ k.stop.held = true) ∧
    (railBit c d b.val = true → b.val < 2 →
      Reaches (.railChange d b false) s fun k => k.stop = x ∧ coreRails k = false) ∧
    (up c d = true → 4 ≤ b.val → hasRail d b.val = true → railBit c d b.val = false →
      bit (railFlags c d b.val) 1 = false → 10000 ≤ railAge c d b.val →
      Reaches (.railLowTimeout d b) s fun k =>
        bit (f k Rf.PWR_RAILLOW_LOW) (b.val - 4) = true ∧ Sent k d K.RAILLOW 0) ∧
    (railAge c d b.val < 10000 → Gives (.railLowTimeout d b) s c) ∧
    (up c d = true → 4 ≤ b.val → hasRail d b.val = true → railBit c d b.val = true →
      bit (railFlags c d b.val) 0 = true → 1000000 ≤ railAge c d b.val →
      Reaches (.railOkTimeout d b) s fun k => Sent k d K.RAILOK 0) ∧
    (railAge c d b.val < 1000000 → Gives (.railOkTimeout d b) s c)

/-! ### Frames, the invariant and the state after reset -/

namespace Sys2Proof.Says

/-- Beside registers and records under way, `k` holds what `s` holds. -/
def OnlyRegs (s k : Chip) : Prop :=
  (∀ e, k.d e = { s.d e with regs := (k.d e).regs, fly := (k.d e).fly }) ∧ k = { s with die := k.die }

/-- A register of the counts of records by kind, on die 0. -/
def KindCount (e : Fin 4) (j : Nat) : Prop := e = 0 ∧ ∃ n, j = (Rf.EVT_KCOUNT_COUNT.at n).key

/-- The die and the registers that a register command may write; none for a command that is not of this kind. -/
def writesOnly : Instr → Option (Fin 4 × List Nat)
  | .dramMarkWrite _ d _ => some (d, [Rf.DRAM_MARK_CHIP.key])
  | .dramEnable _ d => some (d, [Rf.DRAM_CTL_EN.key, Rf.DRAM_STAT_RESULT.key])
  | .dramClear _ d => some (d, [Rf.DRAM_STAT_BUSY.key])
  | .txfirWrite _ d k _ => some (d, [(Rf.LANE_STAT_FIRBAD.at k.val).key, (Rf.LANE_TXFIR_PRE.at k.val).key])
  | .ctleWrite _ d k _ => some (d, [(Rf.LANE_CTLE_PEAK.at k.val).key])
  | .dfeTapWrite _ d k tap _ => some (d, [(tapF k.val (tap.val + 1)).key])
  | .dfeReset _ d k => some (d, (range 1 12).map fun t => (tapF k.val t).key)
  | .dfeAdapt d k _ => some (d, (range 1 12).map fun t => (tapF k.val t).key)
  | .eyeScanGo _ d k _ => some (d, [(Rf.LANE_EYE_H.at k.val).key, (Rf.LANE_EYE_STAT_BUSY.at k.val).key])
  | .eyeScanDone d k _ => some (d, [(Rf.LANE_EYE_STAT_BUSY.at k.val).key, (Rf.LANE_EYE_ERR_ERR.at k.val).key])
  | .lanePllUnlock d k => some (d, [(Rf.LANE_STAT_PLLLOCK.at k.val).key])
  | .lanePllRelock d k => some (d, [(Rf.LANE_STAT_PLLLOCK.at k.val).key])
  | .prbsCheckerLock d k _ _ _ =>
    some (d, [Rf.LANE_PRBS_RXLOCK, Rf.LANE_PRBS_ERR_ERR, Rf.LANE_PRBS_BITS_LO_BITS, Rf.LANE_PRBS_BITS_HI_BITS].map
      fun f => (f.at k.val).key)
  | .flowTxreqWrite _ d f _ => some (d, [(Rf.FLOW_TXREQ_PENDING.at f.val).key])
  | .flowAliveWrite _ d f _ => some (d, [(Rf.FLOW_ALIVE_AOFF.at f.val).key])
  | .chkDataWrite _ d c _ => some (d, [(Rf.CHK_RV_RV.at c.val).key])
  | .chkRestart _ d c => some (d, [(Rf.CHK_RV_RV.at c.val).key])
  | .chkAlgWrite _ d c _ => some (d, [(Rf.CHK_CFG_ALG.at c.val).key, (Rf.CHK_RV_RV.at c.val).key])
  | .wdogWindowOpen d => some (d, [Rf.WDOG_STAT_OPEN.key])
  | .converterReady d _ => some (d, [Rf.ACQ_STAT_READY.key])
  | .groupJoin _ => some (0, [Rf.SEAM_GRP_STAT_STATE.key])
  | .pllFracWrite _ d k _ => some (d, [(pllFracF k.val).key])
  | .pleatJobGo _ d j _ => some (d, [(Rf.PLEAT_JOB_CTL_DIR.at j.val).key, (Rf.PLEAT_JOB_STAT_BUSY.at j.val).key])
  | .spadInjectWrite _ d _ => some (d, [Rf.SPAD_INJECT_MASK.key])
  | .bmemInjectWrite _ d _ => some (d, [Rf.BMEM_INJECT_MASK.key])
  | _ => none

/-- A command that has no effect on lane memories, DRAM, clusters or instruction stores. -/
def leavesStores : Instr → Bool
  | .waittResume _ | .tbrefHoldover | .tbrefLock
  | .dramMarkWrite .. | .dramEnable .. | .dramClear .. | .lanePllUnlock .. | .lanePllRelock .. | .txfirWrite ..
  | .ctleWrite .. | .dfeTapWrite .. | .dfeReset .. | .dfeAdapt .. | .dfeSnapshotRead .. | .eyeScanGo .. | .eyeScanDone ..
  | .pcsHiber .. | .pcsBlockLock .. | .prbsCheckerLock .. | .prbsBitsRead .. | .flowTxreqWrite .. | .flowRvWrite ..
  | .flowAliveWrite .. | .chkDataWrite .. | .chkRestart .. | .chkAlgWrite .. | .wdogEnable .. | .wdogWindowOpen _
  | .wdogExpire _ | .hostWdogService .. | .hemProgram .. | .hemProgramDone .. | .tamperConditionEnd .. | .tamperEnWrite ..
  | .bbkeyCommit _ | .bbkeyErase _ | .tamperLogClear _ | .tapReset | .tapExtest _ | .tapSample .. | .tapIdcode _
  | .tapHighz _ | .tapClamp _ | .tapBypass _ | .tapDbgaccRead .. | .tapDbgaccWrite .. | .yokeHalt .. | .yokeResume ..
  | .yokeStep .. | .yregWrite .. | .authNewchal _ | .authGo _ | .authDone | .traceCtlWrite .. | .perstNAssert
  | .perstNRelease | .pcieLinkUp .. | .railLowTimeout .. | .railOkTimeout .. | .linkInject .. | .linkRetrain ..
  | .flitAck .. | .groupJoin _ | .groupLeave _ | .joinRequest .. | .ilkSample .. | .ilkUnsafe .. | .ilkTdWrite ..
  | .ilkClearWrite _ | .converterReady .. | .pulseEdge _ | .pulseEnd _ | .pmonEdge .. | .pmonWindowExpire _
  | .pllFracWrite .. | .pleatJobGo .. | .spadInjectWrite .. | .bmemInjectWrite .. => true
  | _ => false

/-- The invariant: every register file, lane memory and DRAM of a die is in its one canonical form, and the two logs hold
at most as many entries as their memories have. -/
abbrev Inv (s : State) : Prop :=
  (∀ d, mapWf regReset (s.chip.d d).regs = true ∧ mapWf word0 (s.chip.d d).spad = true ∧
    mapWf word0 (s.chip.d d).cst = true ∧ mapWf word0 (s.chip.d d).bmem = true ∧
    mapWf word0 (s.chip.d d).lining = true ∧ mapWf (fun _ => none) (s.chip.d d).dram.cells = true) ∧
  s.chip.aol.length ≤ 32 ∧ s.chip.vbat.log.length ≤ 16

end Sys2Proof.Says

/-- A register command that answers a next state changes no register but its own and, where it is refused and logged, the
counts of records; no memory, buffer, engine or other state changes. -/
def Obligations.RegisterCommandsChangeOnlyTheirRegisters : Prop :=
  ∀ (c : Instr) (d : Fin 4) (keys : List Nat) (s : State) (k : Chip), writesOnly c = some (d, keys) → Gives c s k →
    OnlyRegs s.chip k ∧ ∀ e j, k.reg e j ≠ s.chip.reg e j → (e = d ∧ j ∈ keys) ∨ KindCount e j

/-- The named commands leave every lane memory, DRAM, cluster and instruction store as it was. -/
def Obligations.ControlCommandsLeaveStoresAlone : Prop :=
  ∀ (c : Instr) (s : State) (k : Chip), leavesStores c = true → Gives c s k → StoresKept s.chip k

/-- Every step keeps the canonical form of the register files, lane memories and DRAM, and the bounds of the logs. -/
def Obligations.StepKeepsCanonicalForm : Prop :=
  ∀ s s' : State, Inv s → step s = .next s' → Inv s'

/-- R141, R190, R939 and the Reset columns: the state after reset holds the invariant; no command waits, no tick or tick
program runs, the always-on log is empty and every tenant but 0 is disabled; every register but those that the fuses, the
rails and the load source decide holds the reset value of its table. The reset values that the tables do not give are the
model's (log 3), and so are the fuses, the rails and BOOTSEL of this state (log 2). -/
def Obligations.ResetHoldsInvariantAndTableValues : Prop :=
  let r := State.reset
  let c := r.chip
  let told := [Rf.ILK_CEIL_CEIL.key, Rf.CFG_STAT_STATE.key, Rf.HEM_UNITEN_UNITEN.key, Rf.HEM_FEATEN_FEATEN.key,
    Rf.PWR_RAIL_VCORE.key]
  Inv r ∧ r.pending = [] ∧ c.aol = [] ∧ alive c = true ∧ c.fld 0 Rf.YOKE_RTO_TIMEOUT = 10 ∧
    (∀ t : Fin 256, t ≠ 0 → tenEnabled c t = false) ∧ tenEnabled c 0 = true ∧
    ∀ d : Fin 4, up c d = true ∧ (c.d d).tick.phase = .idle ∧ (c.d d).yoke.run = false ∧ (c.d d).spad = [] ∧
      (c.d d).dram.cells = [] ∧ ∀ j, j ∉ told → c.reg d j = regReset j
end

