-- ==== Sys2Proof/Laws/Bits.lean ====
section
/-! SUPPORT. The laws of bit fields: a field reads the value put into it, and the other bits of the word stay. -/

namespace Sys2Proof.Machine

/-- A word cut at bits `lo` and `lo + n`: the bits below, the field and the bits above. -/
theorem word_cut (x lo n : Nat) :
    x = x % 2 ^ lo + x / 2 ^ lo % 2 ^ n * 2 ^ lo + x / 2 ^ (lo + n) * 2 ^ (lo + n) := by
  have h1 := Nat.div_add_mod x (2 ^ lo)
  have h2 := Nat.div_add_mod (x / 2 ^ lo) (2 ^ n)
  have h3 : x / 2 ^ lo / 2 ^ n = x / 2 ^ (lo + n) := by rw [Nat.div_div_eq_div_mul, pow_add]
  rw [h3] at h2
  have h4 : 2 ^ (lo + n) = 2 ^ lo * 2 ^ n := pow_add ..
  rw [h4] at h2 ⊢
  calc x = 2 ^ lo * (x / 2 ^ lo) + x % 2 ^ lo := h1.symm
    _ = 2 ^ lo * (2 ^ n * (x / (2 ^ lo * 2 ^ n)) + x / 2 ^ lo % 2 ^ n) + x % 2 ^ lo := by rw [h2]
    _ = _ := by ring

/-- The number a word holds after a field is put. -/
theorem toNat_putBits (w : Word) (lo n v : Nat) (h : lo + n ≤ 32) :
    (putBits w lo n v).toNat =
      w.toNat % 2 ^ lo + v % 2 ^ n * 2 ^ lo + w.toNat / 2 ^ (lo + n) * 2 ^ (lo + n) := by
  have hc := word_cut w.toNat lo n
  have hw : w.toNat < 2 ^ 32 := w.isLt
  have hv : v % 2 ^ n < 2 ^ n := Nat.mod_lt _ (by positivity)
  have ha : w.toNat % 2 ^ lo < 2 ^ lo := Nat.mod_lt _ (by positivity)
  have h4 : 2 ^ (lo + n) = 2 ^ lo * 2 ^ n := pow_add ..
  have h32 : 2 ^ 32 = 2 ^ (lo + n) * 2 ^ (32 - (lo + n)) := by rw [← pow_add]; congr 1; omega
  have hq : w.toNat / 2 ^ (lo + n) < 2 ^ (32 - (lo + n)) :=
    Nat.div_lt_of_lt_mul (by rw [← h32]; exact hw)
  unfold putBits getBits
  rw [BitVec.toNat_ofNat]
  set a := w.toNat % 2 ^ lo
  set b := w.toNat / 2 ^ lo % 2 ^ n
  set c := w.toNat / 2 ^ (lo + n)
  have he : w.toNat - b * 2 ^ lo + v % 2 ^ n * 2 ^ lo = a + v % 2 ^ n * 2 ^ lo + c * 2 ^ (lo + n) := by omega
  rw [he]
  apply Nat.mod_eq_of_lt
  have h5 : v % 2 ^ n * 2 ^ lo + 2 ^ lo ≤ 2 ^ lo * 2 ^ n := by
    calc v % 2 ^ n * 2 ^ lo + 2 ^ lo = (v % 2 ^ n + 1) * 2 ^ lo := by ring
      _ ≤ 2 ^ n * 2 ^ lo := Nat.mul_le_mul_right _ hv
      _ = 2 ^ lo * 2 ^ n := Nat.mul_comm ..
  have h6 : c * 2 ^ (lo + n) + 2 ^ (lo + n) ≤ 2 ^ 32 := by
    rw [h32]
    calc c * 2 ^ (lo + n) + 2 ^ (lo + n) = (c + 1) * 2 ^ (lo + n) := by ring
      _ ≤ 2 ^ (32 - (lo + n)) * 2 ^ (lo + n) := Nat.mul_le_mul_right _ hq
      _ = 2 ^ (lo + n) * 2 ^ (32 - (lo + n)) := Nat.mul_comm ..
  omega

theorem field_of_sum (a b c lo n : Nat) (ha : a < 2 ^ lo) (hb : b < 2 ^ n) :
    (a + b * 2 ^ lo + c * 2 ^ (lo + n)) / 2 ^ lo % 2 ^ n = b := by
  have h : a + b * 2 ^ lo + c * 2 ^ (lo + n) = a + 2 ^ lo * (b + 2 ^ n * c) := by rw [pow_add]; ring
  rw [h, Nat.add_mul_div_left _ _ (by positivity), Nat.div_eq_of_lt ha, Nat.zero_add, Nat.add_mul_mod_self_left,
    Nat.mod_eq_of_lt hb]

/-- A field reads the low bits of what was put into it. -/
theorem getBits_putBits_same (w : Word) (lo n v : Nat) (h : lo + n ≤ 32) :
    getBits (putBits w lo n v) lo n = v % 2 ^ n := by
  unfold getBits
  rw [toNat_putBits w lo n v h]
  exact field_of_sum _ _ _ _ _ (Nat.mod_lt _ (by positivity)) (Nat.mod_lt _ (by positivity))

/-- Bit `i` of a number, as division says it. -/
theorem testBit_eq (x i : Nat) : x.testBit i = decide (x / 2 ^ i % 2 = 1) := Nat.testBit_eq_decide_div_mod_eq ..

theorem getBits_testBit (w : Word) (lo n i : Nat) :
    (getBits w lo n).testBit i = (decide (i < n) && w.toNat.testBit (lo + i)) := by
  unfold getBits
  rw [Nat.testBit_mod_two_pow, Nat.testBit_div_two_pow, Nat.add_comm]

/-- A bit outside the field stays. -/
theorem putBits_testBit_ne (w : Word) (lo n v i : Nat) (h : lo + n ≤ 32) (hi : i < lo ∨ lo + n ≤ i) :
    (putBits w lo n v).toNat.testBit i = w.toNat.testBit i := by
  have hc := word_cut w.toNat lo n
  rw [toNat_putBits w lo n v h]
  have ha : w.toNat % 2 ^ lo < 2 ^ lo := Nat.mod_lt _ (by positivity)
  have hb : w.toNat / 2 ^ lo % 2 ^ n < 2 ^ n := Nat.mod_lt _ (by positivity)
  have hv : v % 2 ^ n < 2 ^ n := Nat.mod_lt _ (by positivity)
  have low : ∀ b, b < 2 ^ n → w.toNat % 2 ^ lo + b * 2 ^ lo < 2 ^ (lo + n) := by
    intro b hb'
    rw [pow_add]
    calc w.toNat % 2 ^ lo + b * 2 ^ lo < 2 ^ lo + b * 2 ^ lo := by omega
      _ = 2 ^ lo * (b + 1) := by ring
      _ ≤ 2 ^ lo * 2 ^ n := Nat.mul_le_mul_left _ hb'
  rcases hi with hi | hi
  · conv_rhs => rw [← Nat.mod_add_div w.toNat (2 ^ lo)]
    have e1 : w.toNat % 2 ^ lo + v % 2 ^ n * 2 ^ lo + w.toNat / 2 ^ (lo + n) * 2 ^ (lo + n) =
        w.toNat % 2 ^ lo + 2 ^ lo * (v % 2 ^ n + 2 ^ n * (w.toNat / 2 ^ (lo + n))) := by rw [pow_add]; ring
    rw [e1, Nat.add_comm, Nat.add_comm (w.toNat % 2 ^ lo), Nat.testBit_two_pow_mul_add _ ha,
      Nat.testBit_two_pow_mul_add _ ha]
    simp [hi]
  · conv_rhs => rw [hc]
    have e1 : ∀ b, w.toNat % 2 ^ lo + b * 2 ^ lo + w.toNat / 2 ^ (lo + n) * 2 ^ (lo + n) =
        2 ^ (lo + n) * (w.toNat / 2 ^ (lo + n)) + (w.toNat % 2 ^ lo + b * 2 ^ lo) := by intro b; ring
    rw [e1, e1, Nat.testBit_two_pow_mul_add _ (low _ hv), Nat.testBit_two_pow_mul_add _ (low _ hb)]
    simp [Nat.not_lt.mpr hi]

/-- A field that does not meet the one written reads as before. -/
theorem getBits_putBits_ne (w : Word) {lo n lo' n' : Nat} (v : Nat) (h : lo + n ≤ 32)
    (hd : lo' + n' ≤ lo ∨ lo + n ≤ lo') : getBits (putBits w lo n v) lo' n' = getBits w lo' n' := by
  apply Nat.eq_of_testBit_eq
  intro i
  rw [getBits_testBit, getBits_testBit]
  by_cases hi : i < n'
  · rw [putBits_testBit_ne w lo n v (lo' + i) h (by omega)]
  · simp [hi]

/-! ### Single bits of numbers -/

theorem bit_eq_testBit (n i : Nat) : bit n i = n.testBit i := by
  rw [Nat.testBit_eq_decide_div_mod_eq]; unfold bit; by_cases h : n / 2 ^ i % 2 = 1 <;> simp [h]

end Sys2Proof.Machine
end

