-- ==== Sys2Proof/Laws/Data.lean ====
section
/-! SUPPORT. The laws of the plain containers: what a sparse map reads after a write, that its canonical form is kept, and
what the four dies read after one is replaced. -/

namespace Sys2Proof.Machine

section maps
variable {α : Type}

theorem mapGet_mapErase_same (dflt : Nat → α) (m : SMap α) (k : Nat) : mapGet dflt (mapErase m k) k = dflt k := by
  induction m with
  | nil => rfl
  | cons e m ih =>
    obtain ⟨k', v⟩ := e
    by_cases h : k' = k <;> simp [mapErase, mapGet, h, ih]

theorem mapGet_mapErase_ne (dflt : Nat → α) (m : SMap α) {k j : Nat} (h : j ≠ k) :
    mapGet dflt (mapErase m k) j = mapGet dflt m j := by
  induction m with
  | nil => rfl
  | cons e m ih =>
    obtain ⟨k', v⟩ := e
    by_cases hk : k' = k
    · subst hk; simp [mapErase, mapGet, ih, Ne.symm h]
    · simp [mapErase, mapGet, hk, ih]

theorem mapGet_mapInsert_ne (dflt : Nat → α) (m : SMap α) {k j : Nat} (v : α) (h : j ≠ k) :
    mapGet dflt (mapInsert m k v) j = mapGet dflt m j := by
  induction m with
  | nil => simp [mapInsert, mapGet, Ne.symm h]
  | cons e m ih =>
    obtain ⟨k', v'⟩ := e
    by_cases hk : k < k' <;> simp [mapInsert, mapGet, hk, ih, Ne.symm h]

theorem mapGet_mapInsert_erased (dflt : Nat → α) (m : SMap α) (k : Nat) (v : α) :
    mapGet dflt (mapInsert (mapErase m k) k v) k = v := by
  induction m with
  | nil => simp [mapErase, mapInsert, mapGet]
  | cons e m ih =>
    obtain ⟨k', v'⟩ := e
    by_cases hk : k' = k
    · simpa [mapErase, hk] using ih
    · by_cases hl : k < k' <;> simp [mapErase, mapInsert, mapGet, hk, hl, ih]

theorem mapErase_keys (m : SMap α) (k : Nat) : ∀ e ∈ mapErase m k, e.1 ≠ k := by
  induction m with
  | nil => simp [mapErase]
  | cons e m ih =>
    obtain ⟨k', v⟩ := e
    by_cases hk : k' = k
    · simpa [mapErase, hk] using ih
    · simp only [mapErase, hk, if_false, List.mem_cons]
      rintro e (rfl | he)
      · exact hk
      · exact ih e he

variable [DecidableEq α]

/-- A key reads the value written to it. -/
@[simp] theorem mapGet_mapPut_same (dflt : Nat → α) (m : SMap α) (k : Nat) (v : α) :
    mapGet dflt (mapPut dflt m k v) k = v := by
  unfold mapPut
  split
  · rw [mapGet_mapErase_same]; exact (by assumption : v = dflt k).symm
  · exact mapGet_mapInsert_erased dflt m k v

/-- Every other key reads as before. -/
theorem mapGet_mapPut_ne (dflt : Nat → α) (m : SMap α) {k j : Nat} (v : α) (h : j ≠ k) :
    mapGet dflt (mapPut dflt m k v) j = mapGet dflt m j := by
  unfold mapPut
  split
  · exact mapGet_mapErase_ne dflt m h
  · rw [mapGet_mapInsert_ne _ _ _ h, mapGet_mapErase_ne _ _ h]

/-- What a map reads after a write, at any key. -/
theorem mapGet_mapPut (dflt : Nat → α) (m : SMap α) (k j : Nat) (v : α) :
    mapGet dflt (mapPut dflt m k v) j = if j = k then v else mapGet dflt m j := by
  split
  · rename_i h; subst h; simp
  · exact mapGet_mapPut_ne dflt m v ‹_›

theorem mapFrom_mono (dflt : Nat → α) {b c : Nat} (h : c ≤ b) (m : SMap α) (hm : mapFrom dflt b m = true) :
    mapFrom dflt c m = true := by
  cases m with
  | nil => rfl
  | cons e m =>
    obtain ⟨k, v⟩ := e
    simp only [mapFrom, Bool.and_eq_true, decide_eq_true_eq] at hm ⊢
    exact ⟨⟨Nat.le_trans h hm.1.1, hm.1.2⟩, hm.2⟩

theorem mapFrom_mapErase (dflt : Nat → α) (m : SMap α) (k b : Nat) (hm : mapFrom dflt b m = true) :
    mapFrom dflt b (mapErase m k) = true := by
  induction m generalizing b with
  | nil => rfl
  | cons e m ih =>
    obtain ⟨k', v⟩ := e
    simp only [mapFrom, Bool.and_eq_true, decide_eq_true_eq] at hm
    by_cases hk : k' = k
    · simp only [mapErase, hk, if_true]
      exact ih b (mapFrom_mono dflt (by omega) m hm.2)
    · simp only [mapErase, hk, if_false, mapFrom, Bool.and_eq_true, decide_eq_true_eq]
      exact ⟨hm.1, ih _ hm.2⟩

theorem mapFrom_mapInsert (dflt : Nat → α) (m : SMap α) {k b : Nat} {v : α} (hv : v ≠ dflt k) (hb : b ≤ k)
    (hk : ∀ e ∈ m, e.1 ≠ k) (hm : mapFrom dflt b m = true) : mapFrom dflt b (mapInsert m k v) = true := by
  induction m generalizing b with
  | nil => simp [mapInsert, mapFrom, hv, hb]
  | cons e m ih =>
    obtain ⟨k', v'⟩ := e
    simp only [mapFrom, Bool.and_eq_true, decide_eq_true_eq] at hm
    have hne : k' ≠ k := hk (k', v') (by simp)
    by_cases hl : k < k'
    · simp only [mapInsert, hl, if_true, mapFrom, Bool.and_eq_true, decide_eq_true_eq]
      exact ⟨⟨hb, hv⟩, ⟨hl, hm.1.2⟩, hm.2⟩
    · simp only [mapInsert, hl, if_false, mapFrom, Bool.and_eq_true, decide_eq_true_eq]
      exact ⟨hm.1, ih (by omega) (fun e he => hk e (by simp [he])) hm.2⟩

/-- A write keeps the canonical form. -/
theorem mapWf_mapPut (dflt : Nat → α) (m : SMap α) (k : Nat) (v : α) (hm : mapWf dflt m = true) :
    mapWf dflt (mapPut dflt m k v) = true := by
  unfold mapPut
  split
  · exact mapFrom_mapErase dflt m k 0 hm
  · exact mapFrom_mapInsert dflt _ ‹_› (Nat.zero_le k) (mapErase_keys m k) (mapFrom_mapErase dflt m k 0 hm)

theorem mapFrom_mapEach (dflt : Nat → α) (f : Nat → α → α) (m : SMap α) (b : Nat) (hm : mapFrom dflt b m = true) :
    mapFrom dflt b (mapEach dflt f m) = true := by
  induction m generalizing b with
  | nil => rfl
  | cons e m ih =>
    obtain ⟨k, v⟩ := e
    simp only [mapFrom, Bool.and_eq_true, decide_eq_true_eq] at hm
    by_cases h : f k v = dflt k
    · simp only [mapEach, h, if_true]
      exact mapFrom_mono dflt (by omega) _ (ih _ hm.2)
    · simp only [mapEach, h, if_false, mapFrom, Bool.and_eq_true, decide_eq_true_eq]
      exact ⟨⟨hm.1.1, by simpa using h⟩, ih _ hm.2⟩

/-- A change of every entry keeps the canonical form. -/
theorem mapWf_mapEach (dflt : Nat → α) (f : Nat → α → α) (m : SMap α) (hm : mapWf dflt m = true) :
    mapWf dflt (mapEach dflt f m) = true := mapFrom_mapEach dflt f m 0 hm

end maps

section quads
variable {α β : Type}

@[simp] theorem Quad.get_set_same (q : Quad α) (d : Fin 4) (v : α) : (q.set d v).get d = v := by
  fin_cases d <;> rfl

theorem Quad.get_set_ne (q : Quad α) {d e : Fin 4} (v : α) (h : e ≠ d) : (q.set d v).get e = q.get e := by
  fin_cases d <;> fin_cases e <;> first | rfl | exact absurd rfl h

@[simp] theorem Quad.set_get (q : Quad α) (d : Fin 4) : q.set d (q.get d) = q := by
  fin_cases d <;> rfl

@[simp] theorem Quad.set_set (q : Quad α) (d : Fin 4) (v w : α) : (q.set d v).set d w = q.set d w := by
  fin_cases d <;> rfl

@[simp] theorem Quad.get_map (f : α → β) (q : Quad α) (d : Fin 4) : (q.map f).get d = f (q.get d) := by
  fin_cases d <;> rfl

@[simp] theorem Quad.get_all (v : α) (d : Fin 4) : (Quad.all v).get d = v := by
  fin_cases d <;> rfl

end quads

end Sys2Proof.Machine
end

