-- ==== Sys2Proof/Laws/State.lean ====
section
/-! SUPPORT. What a read of the state answers after a named update: one lemma for each field and each update. -/

namespace Sys2Proof.Machine

/-! ### Dies -/

@[simp] theorem Chip.d_upd_same (s : Chip) (d : Fin 4) (f : DieSt → DieSt) : (s.upd d f).d d = f (s.d d) := by
  simp [Chip.d, Chip.upd]

theorem Chip.d_upd_ne (s : Chip) {d e : Fin 4} (f : DieSt → DieSt) (h : e ≠ d) : (s.upd d f).d e = s.d e := by
  simp [Chip.d, Chip.upd, Quad.get_set_ne _ _ h]

/-- What die `e` is after a change of die `d`. -/
theorem Chip.d_upd (s : Chip) (d e : Fin 4) (f : DieSt → DieSt) :
    (s.upd d f).d e = if e = d then f (s.d d) else s.d e := by
  split
  · rename_i h; subst h; simp
  · exact Chip.d_upd_ne s f ‹_›

/-- Two changes of one die are one. -/
theorem Chip.upd_upd (s : Chip) (d : Fin 4) (f g : DieSt → DieSt) : (s.upd d f).upd d g = s.upd d fun x => g (f x) := by
  simp [Chip.upd]

/-- Two changes of the queue or of the S9 do not meet. -/
@[simp] theorem act_pending (s : State) (f : Chip → Chip) : act s f = .next ⟨f s.chip, s.pending⟩ := rfl

@[simp] theorem Chip.compat_upd (s : Chip) (d : Fin 4) (f : DieSt → DieSt) : (s.upd d f).compat = s.compat := rfl
@[simp] theorem Chip.g2pin_upd (s : Chip) (d : Fin 4) (f : DieSt → DieSt) : (s.upd d f).g2pin = s.g2pin := rfl
@[simp] theorem Chip.ticked_upd (s : Chip) (d : Fin 4) (f : DieSt → DieSt) : (s.upd d f).ticked = s.ticked := rfl
@[simp] theorem Chip.first_upd (s : Chip) (d : Fin 4) (f : DieSt → DieSt) : (s.upd d f).first = s.first := rfl
@[simp] theorem Chip.settings_upd (s : Chip) (d : Fin 4) (f : DieSt → DieSt) : (s.upd d f).settings = s.settings := rfl
@[simp] theorem Chip.merge_upd (s : Chip) (d : Fin 4) (f : DieSt → DieSt) : (s.upd d f).merge = s.merge := rfl
@[simp] theorem Chip.overflowed_upd (s : Chip) (d : Fin 4) (f : DieSt → DieSt) : (s.upd d f).overflowed = s.overflowed := rfl
@[simp] theorem Chip.aol_upd (s : Chip) (d : Fin 4) (f : DieSt → DieSt) : (s.upd d f).aol = s.aol := rfl
@[simp] theorem Chip.resolve_upd (s : Chip) (d : Fin 4) (f : DieSt → DieSt) : (s.upd d f).resolve = s.resolve := rfl
@[simp] theorem Chip.vbat_upd (s : Chip) (d : Fin 4) (f : DieSt → DieSt) : (s.upd d f).vbat = s.vbat := rfl
@[simp] theorem Chip.lcMove_upd (s : Chip) (d : Fin 4) (f : DieSt → DieSt) : (s.upd d f).lcMove = s.lcMove := rfl
@[simp] theorem Chip.wdout_upd (s : Chip) (d : Fin 4) (f : DieSt → DieSt) : (s.upd d f).wdout = s.wdout := rfl
@[simp] theorem Chip.hostSvc_upd (s : Chip) (d : Fin 4) (f : DieSt → DieSt) : (s.upd d f).hostSvc = s.hostSvc := rfl
@[simp] theorem Chip.stop_upd (s : Chip) (d : Fin 4) (f : DieSt → DieSt) : (s.upd d f).stop = s.stop := rfl
@[simp] theorem Chip.remotes_upd (s : Chip) (d : Fin 4) (f : DieSt → DieSt) : (s.upd d f).remotes = s.remotes := rfl
@[simp] theorem Chip.nextId_upd (s : Chip) (d : Fin 4) (f : DieSt → DieSt) : (s.upd d f).nextId = s.nextId := rfl
@[simp] theorem Chip.tenActive_upd (s : Chip) (d : Fin 4) (f : DieSt → DieSt) : (s.upd d f).tenActive = s.tenActive := rfl
@[simp] theorem Chip.reservoir_upd (s : Chip) (d : Fin 4) (f : DieSt → DieSt) : (s.upd d f).reservoir = s.reservoir := rfl
@[simp] theorem Chip.reservoirRem_upd (s : Chip) (d : Fin 4) (f : DieSt → DieSt) : (s.upd d f).reservoirRem = s.reservoirRem := rfl
@[simp] theorem Chip.epochTick_upd (s : Chip) (d : Fin 4) (f : DieSt → DieSt) : (s.upd d f).epochTick = s.epochTick := rfl
@[simp] theorem Chip.epochE_upd (s : Chip) (d : Fin 4) (f : DieSt → DieSt) : (s.upd d f).epochE = s.epochE := rfl
@[simp] theorem Chip.epochRuns_upd (s : Chip) (d : Fin 4) (f : DieSt → DieSt) : (s.upd d f).epochRuns = s.epochRuns := rfl
@[simp] theorem Chip.pulses_upd (s : Chip) (d : Fin 4) (f : DieSt → DieSt) : (s.upd d f).pulses = s.pulses := rfl
@[simp] theorem Chip.ilk_upd (s : Chip) (d : Fin 4) (f : DieSt → DieSt) : (s.upd d f).ilk = s.ilk := rfl
@[simp] theorem Chip.ps_upd (s : Chip) (d : Fin 4) (f : DieSt → DieSt) : (s.upd d f).ps = s.ps := rfl
@[simp] theorem Chip.hosts_upd (s : Chip) (d : Fin 4) (f : DieSt → DieSt) : (s.upd d f).hosts = s.hosts := rfl
@[simp] theorem Chip.cfg_upd (s : Chip) (d : Fin 4) (f : DieSt → DieSt) : (s.upd d f).cfg = s.cfg := rfl
@[simp] theorem Chip.trace_upd (s : Chip) (d : Fin 4) (f : DieSt → DieSt) : (s.upd d f).trace = s.trace := rfl
@[simp] theorem Chip.auth_upd (s : Chip) (d : Fin 4) (f : DieSt → DieSt) : (s.upd d f).auth = s.auth := rfl
@[simp] theorem Chip.perst_upd (s : Chip) (d : Fin 4) (f : DieSt → DieSt) : (s.upd d f).perst = s.perst := rfl
@[simp] theorem Chip.msix_upd (s : Chip) (d : Fin 4) (f : DieSt → DieSt) : (s.upd d f).msix = s.msix := rfl
@[simp] theorem Chip.pba_upd (s : Chip) (d : Fin 4) (f : DieSt → DieSt) : (s.upd d f).pba = s.pba := rfl
@[simp] theorem Chip.reply_upd (s : Chip) (d : Fin 4) (f : DieSt → DieSt) : (s.upd d f).reply = s.reply := rfl
@[simp] theorem Chip.hostMem_upd (s : Chip) (d : Fin 4) (f : DieSt → DieSt) : (s.upd d f).hostMem = s.hostMem := rfl
@[simp] theorem Chip.free_upd (s : Chip) (d : Fin 4) (f : DieSt → DieSt) : (s.upd d f).free = s.free := rfl

/-! ### Register words -/

/-- A register reads the word stored in it. -/
@[simp] theorem Chip.reg_setReg_same (s : Chip) (d : Fin 4) (k : Nat) (v : Word) : (s.setReg d k v).reg d k = v := by
  simp [Chip.reg, Chip.setReg]

/-- What a register reads after a register is stored. -/
theorem Chip.reg_setReg (s : Chip) (d e : Fin 4) (k j : Nat) (v : Word) :
    (s.setReg d k v).reg e j = if e = d ∧ j = k then v else s.reg e j := by
  by_cases h : e = d
  · subst h; by_cases hj : j = k <;> simp [Chip.reg, Chip.setReg, mapGet_mapPut, hj]
  · simp [Chip.reg, Chip.setReg, Chip.d_upd_ne _ _ h, h]

/-- Another die's register reads as before. -/
theorem Chip.reg_setReg_ne (s : Chip) {d e : Fin 4} {k j : Nat} (v : Word) (h : e ≠ d ∨ j ≠ k) :
    (s.setReg d k v).reg e j = s.reg e j := by
  rw [Chip.reg_setReg, if_neg]; tauto

/-- A change of a die that leaves its register file alone leaves every register alone. -/
theorem Chip.reg_upd (s : Chip) (d e : Fin 4) (k : Nat) (f : DieSt → DieSt) (h : ∀ x, (f x).regs = x.regs) :
    (s.upd d f).reg e k = s.reg e k := by
  by_cases he : e = d
  · subst he; simp [Chip.reg, h]
  · simp [Chip.reg, Chip.d_upd_ne _ _ he]

@[simp] theorem Chip.compat_setReg (s : Chip) (d : Fin 4) (k : Nat) (v : Word) : (s.setReg d k v).compat = s.compat := rfl
@[simp] theorem Chip.g2pin_setReg (s : Chip) (d : Fin 4) (k : Nat) (v : Word) : (s.setReg d k v).g2pin = s.g2pin := rfl
@[simp] theorem Chip.ticked_setReg (s : Chip) (d : Fin 4) (k : Nat) (v : Word) : (s.setReg d k v).ticked = s.ticked := rfl
@[simp] theorem Chip.first_setReg (s : Chip) (d : Fin 4) (k : Nat) (v : Word) : (s.setReg d k v).first = s.first := rfl
@[simp] theorem Chip.settings_setReg (s : Chip) (d : Fin 4) (k : Nat) (v : Word) : (s.setReg d k v).settings = s.settings := rfl
@[simp] theorem Chip.merge_setReg (s : Chip) (d : Fin 4) (k : Nat) (v : Word) : (s.setReg d k v).merge = s.merge := rfl
@[simp] theorem Chip.overflowed_setReg (s : Chip) (d : Fin 4) (k : Nat) (v : Word) : (s.setReg d k v).overflowed = s.overflowed := rfl
@[simp] theorem Chip.aol_setReg (s : Chip) (d : Fin 4) (k : Nat) (v : Word) : (s.setReg d k v).aol = s.aol := rfl
@[simp] theorem Chip.resolve_setReg (s : Chip) (d : Fin 4) (k : Nat) (v : Word) : (s.setReg d k v).resolve = s.resolve := rfl
@[simp] theorem Chip.vbat_setReg (s : Chip) (d : Fin 4) (k : Nat) (v : Word) : (s.setReg d k v).vbat = s.vbat := rfl
@[simp] theorem Chip.lcMove_setReg (s : Chip) (d : Fin 4) (k : Nat) (v : Word) : (s.setReg d k v).lcMove = s.lcMove := rfl
@[simp] theorem Chip.wdout_setReg (s : Chip) (d : Fin 4) (k : Nat) (v : Word) : (s.setReg d k v).wdout = s.wdout := rfl
@[simp] theorem Chip.hostSvc_setReg (s : Chip) (d : Fin 4) (k : Nat) (v : Word) : (s.setReg d k v).hostSvc = s.hostSvc := rfl
@[simp] theorem Chip.stop_setReg (s : Chip) (d : Fin 4) (k : Nat) (v : Word) : (s.setReg d k v).stop = s.stop := rfl
@[simp] theorem Chip.remotes_setReg (s : Chip) (d : Fin 4) (k : Nat) (v : Word) : (s.setReg d k v).remotes = s.remotes := rfl
@[simp] theorem Chip.nextId_setReg (s : Chip) (d : Fin 4) (k : Nat) (v : Word) : (s.setReg d k v).nextId = s.nextId := rfl
@[simp] theorem Chip.tenActive_setReg (s : Chip) (d : Fin 4) (k : Nat) (v : Word) : (s.setReg d k v).tenActive = s.tenActive := rfl
@[simp] theorem Chip.reservoir_setReg (s : Chip) (d : Fin 4) (k : Nat) (v : Word) : (s.setReg d k v).reservoir = s.reservoir := rfl
@[simp] theorem Chip.reservoirRem_setReg (s : Chip) (d : Fin 4) (k : Nat) (v : Word) : (s.setReg d k v).reservoirRem = s.reservoirRem := rfl
@[simp] theorem Chip.epochTick_setReg (s : Chip) (d : Fin 4) (k : Nat) (v : Word) : (s.setReg d k v).epochTick = s.epochTick := rfl
@[simp] theorem Chip.epochE_setReg (s : Chip) (d : Fin 4) (k : Nat) (v : Word) : (s.setReg d k v).epochE = s.epochE := rfl
@[simp] theorem Chip.epochRuns_setReg (s : Chip) (d : Fin 4) (k : Nat) (v : Word) : (s.setReg d k v).epochRuns = s.epochRuns := rfl
@[simp] theorem Chip.pulses_setReg (s : Chip) (d : Fin 4) (k : Nat) (v : Word) : (s.setReg d k v).pulses = s.pulses := rfl
@[simp] theorem Chip.ilk_setReg (s : Chip) (d : Fin 4) (k : Nat) (v : Word) : (s.setReg d k v).ilk = s.ilk := rfl
@[simp] theorem Chip.ps_setReg (s : Chip) (d : Fin 4) (k : Nat) (v : Word) : (s.setReg d k v).ps = s.ps := rfl
@[simp] theorem Chip.hosts_setReg (s : Chip) (d : Fin 4) (k : Nat) (v : Word) : (s.setReg d k v).hosts = s.hosts := rfl
@[simp] theorem Chip.cfg_setReg (s : Chip) (d : Fin 4) (k : Nat) (v : Word) : (s.setReg d k v).cfg = s.cfg := rfl
@[simp] theorem Chip.trace_setReg (s : Chip) (d : Fin 4) (k : Nat) (v : Word) : (s.setReg d k v).trace = s.trace := rfl
@[simp] theorem Chip.auth_setReg (s : Chip) (d : Fin 4) (k : Nat) (v : Word) : (s.setReg d k v).auth = s.auth := rfl
@[simp] theorem Chip.perst_setReg (s : Chip) (d : Fin 4) (k : Nat) (v : Word) : (s.setReg d k v).perst = s.perst := rfl
@[simp] theorem Chip.msix_setReg (s : Chip) (d : Fin 4) (k : Nat) (v : Word) : (s.setReg d k v).msix = s.msix := rfl
@[simp] theorem Chip.pba_setReg (s : Chip) (d : Fin 4) (k : Nat) (v : Word) : (s.setReg d k v).pba = s.pba := rfl
@[simp] theorem Chip.reply_setReg (s : Chip) (d : Fin 4) (k : Nat) (v : Word) : (s.setReg d k v).reply = s.reply := rfl
@[simp] theorem Chip.hostMem_setReg (s : Chip) (d : Fin 4) (k : Nat) (v : Word) : (s.setReg d k v).hostMem = s.hostMem := rfl
@[simp] theorem Chip.free_setReg (s : Chip) (d : Fin 4) (k : Nat) (v : Word) : (s.setReg d k v).free = s.free := rfl
@[simp] theorem Chip.compat_setFld (s : Chip) (d : Fin 4) (f : Fld) (v : Nat) : (s.setFld d f v).compat = s.compat := rfl
@[simp] theorem Chip.g2pin_setFld (s : Chip) (d : Fin 4) (f : Fld) (v : Nat) : (s.setFld d f v).g2pin = s.g2pin := rfl
@[simp] theorem Chip.ticked_setFld (s : Chip) (d : Fin 4) (f : Fld) (v : Nat) : (s.setFld d f v).ticked = s.ticked := rfl
@[simp] theorem Chip.first_setFld (s : Chip) (d : Fin 4) (f : Fld) (v : Nat) : (s.setFld d f v).first = s.first := rfl
@[simp] theorem Chip.settings_setFld (s : Chip) (d : Fin 4) (f : Fld) (v : Nat) : (s.setFld d f v).settings = s.settings := rfl
@[simp] theorem Chip.merge_setFld (s : Chip) (d : Fin 4) (f : Fld) (v : Nat) : (s.setFld d f v).merge = s.merge := rfl
@[simp] theorem Chip.overflowed_setFld (s : Chip) (d : Fin 4) (f : Fld) (v : Nat) : (s.setFld d f v).overflowed = s.overflowed := rfl
@[simp] theorem Chip.aol_setFld (s : Chip) (d : Fin 4) (f : Fld) (v : Nat) : (s.setFld d f v).aol = s.aol := rfl
@[simp] theorem Chip.resolve_setFld (s : Chip) (d : Fin 4) (f : Fld) (v : Nat) : (s.setFld d f v).resolve = s.resolve := rfl
@[simp] theorem Chip.vbat_setFld (s : Chip) (d : Fin 4) (f : Fld) (v : Nat) : (s.setFld d f v).vbat = s.vbat := rfl
@[simp] theorem Chip.lcMove_setFld (s : Chip) (d : Fin 4) (f : Fld) (v : Nat) : (s.setFld d f v).lcMove = s.lcMove := rfl
@[simp] theorem Chip.wdout_setFld (s : Chip) (d : Fin 4) (f : Fld) (v : Nat) : (s.setFld d f v).wdout = s.wdout := rfl
@[simp] theorem Chip.hostSvc_setFld (s : Chip) (d : Fin 4) (f : Fld) (v : Nat) : (s.setFld d f v).hostSvc = s.hostSvc := rfl
@[simp] theorem Chip.stop_setFld (s : Chip) (d : Fin 4) (f : Fld) (v : Nat) : (s.setFld d f v).stop = s.stop := rfl
@[simp] theorem Chip.remotes_setFld (s : Chip) (d : Fin 4) (f : Fld) (v : Nat) : (s.setFld d f v).remotes = s.remotes := rfl
@[simp] theorem Chip.nextId_setFld (s : Chip) (d : Fin 4) (f : Fld) (v : Nat) : (s.setFld d f v).nextId = s.nextId := rfl
@[simp] theorem Chip.tenActive_setFld (s : Chip) (d : Fin 4) (f : Fld) (v : Nat) : (s.setFld d f v).tenActive = s.tenActive := rfl
@[simp] theorem Chip.reservoir_setFld (s : Chip) (d : Fin 4) (f : Fld) (v : Nat) : (s.setFld d f v).reservoir = s.reservoir := rfl
@[simp] theorem Chip.reservoirRem_setFld (s : Chip) (d : Fin 4) (f : Fld) (v : Nat) : (s.setFld d f v).reservoirRem = s.reservoirRem := rfl
@[simp] theorem Chip.epochTick_setFld (s : Chip) (d : Fin 4) (f : Fld) (v : Nat) : (s.setFld d f v).epochTick = s.epochTick := rfl
@[simp] theorem Chip.epochE_setFld (s : Chip) (d : Fin 4) (f : Fld) (v : Nat) : (s.setFld d f v).epochE = s.epochE := rfl
@[simp] theorem Chip.epochRuns_setFld (s : Chip) (d : Fin 4) (f : Fld) (v : Nat) : (s.setFld d f v).epochRuns = s.epochRuns := rfl
@[simp] theorem Chip.pulses_setFld (s : Chip) (d : Fin 4) (f : Fld) (v : Nat) : (s.setFld d f v).pulses = s.pulses := rfl
@[simp] theorem Chip.ilk_setFld (s : Chip) (d : Fin 4) (f : Fld) (v : Nat) : (s.setFld d f v).ilk = s.ilk := rfl
@[simp] theorem Chip.ps_setFld (s : Chip) (d : Fin 4) (f : Fld) (v : Nat) : (s.setFld d f v).ps = s.ps := rfl
@[simp] theorem Chip.hosts_setFld (s : Chip) (d : Fin 4) (f : Fld) (v : Nat) : (s.setFld d f v).hosts = s.hosts := rfl
@[simp] theorem Chip.cfg_setFld (s : Chip) (d : Fin 4) (f : Fld) (v : Nat) : (s.setFld d f v).cfg = s.cfg := rfl
@[simp] theorem Chip.trace_setFld (s : Chip) (d : Fin 4) (f : Fld) (v : Nat) : (s.setFld d f v).trace = s.trace := rfl
@[simp] theorem Chip.auth_setFld (s : Chip) (d : Fin 4) (f : Fld) (v : Nat) : (s.setFld d f v).auth = s.auth := rfl
@[simp] theorem Chip.perst_setFld (s : Chip) (d : Fin 4) (f : Fld) (v : Nat) : (s.setFld d f v).perst = s.perst := rfl
@[simp] theorem Chip.msix_setFld (s : Chip) (d : Fin 4) (f : Fld) (v : Nat) : (s.setFld d f v).msix = s.msix := rfl
@[simp] theorem Chip.pba_setFld (s : Chip) (d : Fin 4) (f : Fld) (v : Nat) : (s.setFld d f v).pba = s.pba := rfl
@[simp] theorem Chip.reply_setFld (s : Chip) (d : Fin 4) (f : Fld) (v : Nat) : (s.setFld d f v).reply = s.reply := rfl
@[simp] theorem Chip.hostMem_setFld (s : Chip) (d : Fin 4) (f : Fld) (v : Nat) : (s.setFld d f v).hostMem = s.hostMem := rfl
@[simp] theorem Chip.free_setFld (s : Chip) (d : Fin 4) (f : Fld) (v : Nat) : (s.setFld d f v).free = s.free := rfl

/-- A die after a register is stored: only its register file differs. -/
theorem Chip.d_setReg (s : Chip) (d e : Fin 4) (k : Nat) (v : Word) :
    (s.setReg d k v).d e = { s.d e with regs := ((s.setReg d k v).d e).regs } := by
  by_cases h : e = d
  · subst h; simp [Chip.setReg]
  · simp [Chip.setReg, Chip.d_upd_ne _ _ h]

@[simp] theorem Chip.tb_of_setReg (s : Chip) (d e : Fin 4) (k : Nat) (v : Word) :
    ((s.setReg d k v).d e).tb = (s.d e).tb := by rw [Chip.d_setReg]
@[simp] theorem Chip.tick_of_setReg (s : Chip) (d e : Fin 4) (k : Nat) (v : Word) :
    ((s.setReg d k v).d e).tick = (s.d e).tick := by rw [Chip.d_setReg]
@[simp] theorem Chip.fly_of_setReg (s : Chip) (d e : Fin 4) (k : Nat) (v : Word) :
    ((s.setReg d k v).d e).fly = (s.d e).fly := by rw [Chip.d_setReg]
@[simp] theorem Chip.heldRecs_of_setReg (s : Chip) (d e : Fin 4) (k : Nat) (v : Word) :
    ((s.setReg d k v).d e).heldRecs = (s.d e).heldRecs := by rw [Chip.d_setReg]
@[simp] theorem Chip.hem_of_setReg (s : Chip) (d e : Fin 4) (k : Nat) (v : Word) :
    ((s.setReg d k v).d e).hem = (s.d e).hem := by rw [Chip.d_setReg]
@[simp] theorem Chip.wdog_of_setReg (s : Chip) (d e : Fin 4) (k : Nat) (v : Word) :
    ((s.setReg d k v).d e).wdog = (s.d e).wdog := by rw [Chip.d_setReg]
@[simp] theorem Chip.spad_of_setReg (s : Chip) (d e : Fin 4) (k : Nat) (v : Word) :
    ((s.setReg d k v).d e).spad = (s.d e).spad := by rw [Chip.d_setReg]
@[simp] theorem Chip.cst_of_setReg (s : Chip) (d e : Fin 4) (k : Nat) (v : Word) :
    ((s.setReg d k v).d e).cst = (s.d e).cst := by rw [Chip.d_setReg]
@[simp] theorem Chip.bmem_of_setReg (s : Chip) (d e : Fin 4) (k : Nat) (v : Word) :
    ((s.setReg d k v).d e).bmem = (s.d e).bmem := by rw [Chip.d_setReg]
@[simp] theorem Chip.lining_of_setReg (s : Chip) (d e : Fin 4) (k : Nat) (v : Word) :
    ((s.setReg d k v).d e).lining = (s.d e).lining := by rw [Chip.d_setReg]
@[simp] theorem Chip.bankTo_of_setReg (s : Chip) (d e : Fin 4) (k : Nat) (v : Word) :
    ((s.setReg d k v).d e).bankTo = (s.d e).bankTo := by rw [Chip.d_setReg]
@[simp] theorem Chip.bankUsed_of_setReg (s : Chip) (d e : Fin 4) (k : Nat) (v : Word) :
    ((s.setReg d k v).d e).bankUsed = (s.d e).bankUsed := by rw [Chip.d_setReg]
@[simp] theorem Chip.baste_of_setReg (s : Chip) (d e : Fin 4) (k : Nat) (v : Word) :
    ((s.setReg d k v).d e).baste = (s.d e).baste := by rw [Chip.d_setReg]
@[simp] theorem Chip.dram_of_setReg (s : Chip) (d e : Fin 4) (k : Nat) (v : Word) :
    ((s.setReg d k v).d e).dram = (s.d e).dram := by rw [Chip.d_setReg]
@[simp] theorem Chip.clusters_of_setReg (s : Chip) (d e : Fin 4) (k : Nat) (v : Word) :
    ((s.setReg d k v).d e).clusters = (s.d e).clusters := by rw [Chip.d_setReg]
@[simp] theorem Chip.istore_of_setReg (s : Chip) (d e : Fin 4) (k : Nat) (v : Word) :
    ((s.setReg d k v).d e).istore = (s.d e).istore := by rw [Chip.d_setReg]
@[simp] theorem Chip.istZero_of_setReg (s : Chip) (d e : Fin 4) (k : Nat) (v : Word) :
    ((s.setReg d k v).d e).istZero = (s.d e).istZero := by rw [Chip.d_setReg]
@[simp] theorem Chip.iload_of_setReg (s : Chip) (d e : Fin 4) (k : Nat) (v : Word) :
    ((s.setReg d k v).d e).iload = (s.d e).iload := by rw [Chip.d_setReg]
@[simp] theorem Chip.iloadEnd_of_setReg (s : Chip) (d e : Fin 4) (k : Nat) (v : Word) :
    ((s.setReg d k v).d e).iloadEnd = (s.d e).iloadEnd := by rw [Chip.d_setReg]
@[simp] theorem Chip.ran_of_setReg (s : Chip) (d e : Fin 4) (k : Nat) (v : Word) :
    ((s.setReg d k v).d e).ran = (s.d e).ran := by rw [Chip.d_setReg]
@[simp] theorem Chip.items_of_setReg (s : Chip) (d e : Fin 4) (k : Nat) (v : Word) :
    ((s.setReg d k v).d e).items = (s.d e).items := by rw [Chip.d_setReg]
@[simp] theorem Chip.runCyc_of_setReg (s : Chip) (d e : Fin 4) (k : Nat) (v : Word) :
    ((s.setReg d k v).d e).runCyc = (s.d e).runCyc := by rw [Chip.d_setReg]
@[simp] theorem Chip.yHaltReq_of_setReg (s : Chip) (d e : Fin 4) (k : Nat) (v : Word) :
    ((s.setReg d k v).d e).yHaltReq = (s.d e).yHaltReq := by rw [Chip.d_setReg]
@[simp] theorem Chip.stimHeld_of_setReg (s : Chip) (d e : Fin 4) (k : Nat) (v : Word) :
    ((s.setReg d k v).d e).stimHeld = (s.d e).stimHeld := by rw [Chip.d_setReg]
@[simp] theorem Chip.ledger_of_setReg (s : Chip) (d e : Fin 4) (k : Nat) (v : Word) :
    ((s.setReg d k v).d e).ledger = (s.d e).ledger := by rw [Chip.d_setReg]
@[simp] theorem Chip.caps_of_setReg (s : Chip) (d e : Fin 4) (k : Nat) (v : Word) :
    ((s.setReg d k v).d e).caps = (s.d e).caps := by rw [Chip.d_setReg]
@[simp] theorem Chip.ingestQ_of_setReg (s : Chip) (d e : Fin 4) (k : Nat) (v : Word) :
    ((s.setReg d k v).d e).ingestQ = (s.d e).ingestQ := by rw [Chip.d_setReg]
@[simp] theorem Chip.fifos_of_setReg (s : Chip) (d e : Fin 4) (k : Nat) (v : Word) :
    ((s.setReg d k v).d e).fifos = (s.d e).fifos := by rw [Chip.d_setReg]
@[simp] theorem Chip.flows_of_setReg (s : Chip) (d e : Fin 4) (k : Nat) (v : Word) :
    ((s.setReg d k v).d e).flows = (s.d e).flows := by rw [Chip.d_setReg]
@[simp] theorem Chip.flowNext_of_setReg (s : Chip) (d e : Fin 4) (k : Nat) (v : Word) :
    ((s.setReg d k v).d e).flowNext = (s.d e).flowNext := by rw [Chip.d_setReg]
@[simp] theorem Chip.sfq_of_setReg (s : Chip) (d e : Fin 4) (k : Nat) (v : Word) :
    ((s.setReg d k v).d e).sfq = (s.d e).sfq := by rw [Chip.d_setReg]
@[simp] theorem Chip.pleat_of_setReg (s : Chip) (d e : Fin 4) (k : Nat) (v : Word) :
    ((s.setReg d k v).d e).pleat = (s.d e).pleat := by rw [Chip.d_setReg]
@[simp] theorem Chip.workq_of_setReg (s : Chip) (d e : Fin 4) (k : Nat) (v : Word) :
    ((s.setReg d k v).d e).workq = (s.d e).workq := by rw [Chip.d_setReg]
@[simp] theorem Chip.plls_of_setReg (s : Chip) (d e : Fin 4) (k : Nat) (v : Word) :
    ((s.setReg d k v).d e).plls = (s.d e).plls := by rw [Chip.d_setReg]
@[simp] theorem Chip.nets_of_setReg (s : Chip) (d e : Fin 4) (k : Nat) (v : Word) :
    ((s.setReg d k v).d e).nets = (s.d e).nets := by rw [Chip.d_setReg]
@[simp] theorem Chip.lanes_of_setReg (s : Chip) (d e : Fin 4) (k : Nat) (v : Word) :
    ((s.setReg d k v).d e).lanes = (s.d e).lanes := by rw [Chip.d_setReg]
@[simp] theorem Chip.fabRst_of_setReg (s : Chip) (d e : Fin 4) (k : Nat) (v : Word) :
    ((s.setReg d k v).d e).fabRst = (s.d e).fabRst := by rw [Chip.d_setReg]
@[simp] theorem Chip.domRun_of_setReg (s : Chip) (d e : Fin 4) (k : Nat) (v : Word) :
    ((s.setReg d k v).d e).domRun = (s.d e).domRun := by rw [Chip.d_setReg]
@[simp] theorem Chip.latch_of_setReg (s : Chip) (d e : Fin 4) (k : Nat) (v : Word) :
    ((s.setReg d k v).d e).latch = (s.d e).latch := by rw [Chip.d_setReg]
@[simp] theorem Chip.links_of_setReg (s : Chip) (d e : Fin 4) (k : Nat) (v : Word) :
    ((s.setReg d k v).d e).links = (s.d e).links := by rw [Chip.d_setReg]
@[simp] theorem Chip.cfg_of_setReg (s : Chip) (d e : Fin 4) (k : Nat) (v : Word) :
    ((s.setReg d k v).d e).cfg = (s.d e).cfg := by rw [Chip.d_setReg]
@[simp] theorem Chip.frames_of_setReg (s : Chip) (d e : Fin 4) (k : Nat) (v : Word) :
    ((s.setReg d k v).d e).frames = (s.d e).frames := by rw [Chip.d_setReg]
@[simp] theorem Chip.upsets_of_setReg (s : Chip) (d e : Fin 4) (k : Nat) (v : Word) :
    ((s.setReg d k v).d e).upsets = (s.d e).upsets := by rw [Chip.d_setReg]
@[simp] theorem Chip.yoke_of_setReg (s : Chip) (d e : Fin 4) (k : Nat) (v : Word) :
    ((s.setReg d k v).d e).yoke = (s.d e).yoke := by rw [Chip.d_setReg]
@[simp] theorem Chip.insts_of_setReg (s : Chip) (d e : Fin 4) (k : Nat) (v : Word) :
    ((s.setReg d k v).d e).insts = (s.d e).insts := by rw [Chip.d_setReg]
@[simp] theorem Chip.darner_of_setReg (s : Chip) (d e : Fin 4) (k : Nat) (v : Word) :
    ((s.setReg d k v).d e).darner = (s.d e).darner := by rw [Chip.d_setReg]
@[simp] theorem Chip.reload_of_setReg (s : Chip) (d e : Fin 4) (k : Nat) (v : Word) :
    ((s.setReg d k v).d e).reload = (s.d e).reload := by rw [Chip.d_setReg]
@[simp] theorem Chip.reloadQ_of_setReg (s : Chip) (d e : Fin 4) (k : Nat) (v : Word) :
    ((s.setReg d k v).d e).reloadQ = (s.d e).reloadQ := by rw [Chip.d_setReg]
@[simp] theorem Chip.reloadEnd_of_setReg (s : Chip) (d e : Fin 4) (k : Nat) (v : Word) :
    ((s.setReg d k v).d e).reloadEnd = (s.d e).reloadEnd := by rw [Chip.d_setReg]
@[simp] theorem Chip.moveQ_of_setReg (s : Chip) (d e : Fin 4) (k : Nat) (v : Word) :
    ((s.setReg d k v).d e).moveQ = (s.d e).moveQ := by rw [Chip.d_setReg]
@[simp] theorem Chip.moveTurn_of_setReg (s : Chip) (d e : Fin 4) (k : Nat) (v : Word) :
    ((s.setReg d k v).d e).moveTurn = (s.d e).moveTurn := by rw [Chip.d_setReg]
@[simp] theorem Chip.moves_of_setReg (s : Chip) (d e : Fin 4) (k : Nat) (v : Word) :
    ((s.setReg d k v).d e).moves = (s.d e).moves := by rw [Chip.d_setReg]
@[simp] theorem Chip.sports_of_setReg (s : Chip) (d e : Fin 4) (k : Nat) (v : Word) :
    ((s.setReg d k v).d e).sports = (s.d e).sports := by rw [Chip.d_setReg]
@[simp] theorem Chip.dports_of_setReg (s : Chip) (d e : Fin 4) (k : Nat) (v : Word) :
    ((s.setReg d k v).d e).dports = (s.d e).dports := by rw [Chip.d_setReg]
@[simp] theorem Chip.dbg_of_setReg (s : Chip) (d e : Fin 4) (k : Nat) (v : Word) :
    ((s.setReg d k v).d e).dbg = (s.d e).dbg := by rw [Chip.d_setReg]
@[simp] theorem Chip.tap_of_setReg (s : Chip) (d e : Fin 4) (k : Nat) (v : Word) :
    ((s.setReg d k v).d e).tap = (s.d e).tap := by rw [Chip.d_setReg]
@[simp] theorem Chip.marks_of_setReg (s : Chip) (d e : Fin 4) (k : Nat) (v : Word) :
    ((s.setReg d k v).d e).marks = (s.d e).marks := by rw [Chip.d_setReg]
@[simp] theorem Chip.railAt_of_setReg (s : Chip) (d e : Fin 4) (k : Nat) (v : Word) :
    ((s.setReg d k v).d e).railAt = (s.d e).railAt := by rw [Chip.d_setReg]
@[simp] theorem Chip.railTold_of_setReg (s : Chip) (d e : Fin 4) (k : Nat) (v : Word) :
    ((s.setReg d k v).d e).railTold = (s.d e).railTold := by rw [Chip.d_setReg]
@[simp] theorem Chip.stopped_of_setReg (s : Chip) (d e : Fin 4) (k : Nat) (v : Word) :
    ((s.setReg d k v).d e).stopped = (s.d e).stopped := by rw [Chip.d_setReg]
@[simp] theorem Chip.tb_of_setFld (s : Chip) (d e : Fin 4) (f : Fld) (v : Nat) :
    ((s.setFld d f v).d e).tb = (s.d e).tb := Chip.tb_of_setReg ..
@[simp] theorem Chip.tick_of_setFld (s : Chip) (d e : Fin 4) (f : Fld) (v : Nat) :
    ((s.setFld d f v).d e).tick = (s.d e).tick := Chip.tick_of_setReg ..
@[simp] theorem Chip.fly_of_setFld (s : Chip) (d e : Fin 4) (f : Fld) (v : Nat) :
    ((s.setFld d f v).d e).fly = (s.d e).fly := Chip.fly_of_setReg ..
@[simp] theorem Chip.heldRecs_of_setFld (s : Chip) (d e : Fin 4) (f : Fld) (v : Nat) :
    ((s.setFld d f v).d e).heldRecs = (s.d e).heldRecs := Chip.heldRecs_of_setReg ..
@[simp] theorem Chip.hem_of_setFld (s : Chip) (d e : Fin 4) (f : Fld) (v : Nat) :
    ((s.setFld d f v).d e).hem = (s.d e).hem := Chip.hem_of_setReg ..
@[simp] theorem Chip.wdog_of_setFld (s : Chip) (d e : Fin 4) (f : Fld) (v : Nat) :
    ((s.setFld d f v).d e).wdog = (s.d e).wdog := Chip.wdog_of_setReg ..
@[simp] theorem Chip.spad_of_setFld (s : Chip) (d e : Fin 4) (f : Fld) (v : Nat) :
    ((s.setFld d f v).d e).spad = (s.d e).spad := Chip.spad_of_setReg ..
@[simp] theorem Chip.cst_of_setFld (s : Chip) (d e : Fin 4) (f : Fld) (v : Nat) :
    ((s.setFld d f v).d e).cst = (s.d e).cst := Chip.cst_of_setReg ..
@[simp] theorem Chip.bmem_of_setFld (s : Chip) (d e : Fin 4) (f : Fld) (v : Nat) :
    ((s.setFld d f v).d e).bmem = (s.d e).bmem := Chip.bmem_of_setReg ..
@[simp] theorem Chip.lining_of_setFld (s : Chip) (d e : Fin 4) (f : Fld) (v : Nat) :
    ((s.setFld d f v).d e).lining = (s.d e).lining := Chip.lining_of_setReg ..
@[simp] theorem Chip.bankTo_of_setFld (s : Chip) (d e : Fin 4) (f : Fld) (v : Nat) :
    ((s.setFld d f v).d e).bankTo = (s.d e).bankTo := Chip.bankTo_of_setReg ..
@[simp] theorem Chip.bankUsed_of_setFld (s : Chip) (d e : Fin 4) (f : Fld) (v : Nat) :
    ((s.setFld d f v).d e).bankUsed = (s.d e).bankUsed := Chip.bankUsed_of_setReg ..
@[simp] theorem Chip.baste_of_setFld (s : Chip) (d e : Fin 4) (f : Fld) (v : Nat) :
    ((s.setFld d f v).d e).baste = (s.d e).baste := Chip.baste_of_setReg ..
@[simp] theorem Chip.dram_of_setFld (s : Chip) (d e : Fin 4) (f : Fld) (v : Nat) :
    ((s.setFld d f v).d e).dram = (s.d e).dram := Chip.dram_of_setReg ..
@[simp] theorem Chip.clusters_of_setFld (s : Chip) (d e : Fin 4) (f : Fld) (v : Nat) :
    ((s.setFld d f v).d e).clusters = (s.d e).clusters := Chip.clusters_of_setReg ..
@[simp] theorem Chip.istore_of_setFld (s : Chip) (d e : Fin 4) (f : Fld) (v : Nat) :
    ((s.setFld d f v).d e).istore = (s.d e).istore := Chip.istore_of_setReg ..
@[simp] theorem Chip.istZero_of_setFld (s : Chip) (d e : Fin 4) (f : Fld) (v : Nat) :
    ((s.setFld d f v).d e).istZero = (s.d e).istZero := Chip.istZero_of_setReg ..
@[simp] theorem Chip.iload_of_setFld (s : Chip) (d e : Fin 4) (f : Fld) (v : Nat) :
    ((s.setFld d f v).d e).iload = (s.d e).iload := Chip.iload_of_setReg ..
@[simp] theorem Chip.iloadEnd_of_setFld (s : Chip) (d e : Fin 4) (f : Fld) (v : Nat) :
    ((s.setFld d f v).d e).iloadEnd = (s.d e).iloadEnd := Chip.iloadEnd_of_setReg ..
@[simp] theorem Chip.ran_of_setFld (s : Chip) (d e : Fin 4) (f : Fld) (v : Nat) :
    ((s.setFld d f v).d e).ran = (s.d e).ran := Chip.ran_of_setReg ..
@[simp] theorem Chip.items_of_setFld (s : Chip) (d e : Fin 4) (f : Fld) (v : Nat) :
    ((s.setFld d f v).d e).items = (s.d e).items := Chip.items_of_setReg ..
@[simp] theorem Chip.runCyc_of_setFld (s : Chip) (d e : Fin 4) (f : Fld) (v : Nat) :
    ((s.setFld d f v).d e).runCyc = (s.d e).runCyc := Chip.runCyc_of_setReg ..
@[simp] theorem Chip.yHaltReq_of_setFld (s : Chip) (d e : Fin 4) (f : Fld) (v : Nat) :
    ((s.setFld d f v).d e).yHaltReq = (s.d e).yHaltReq := Chip.yHaltReq_of_setReg ..
@[simp] theorem Chip.stimHeld_of_setFld (s : Chip) (d e : Fin 4) (f : Fld) (v : Nat) :
    ((s.setFld d f v).d e).stimHeld = (s.d e).stimHeld := Chip.stimHeld_of_setReg ..
@[simp] theorem Chip.ledger_of_setFld (s : Chip) (d e : Fin 4) (f : Fld) (v : Nat) :
    ((s.setFld d f v).d e).ledger = (s.d e).ledger := Chip.ledger_of_setReg ..
@[simp] theorem Chip.caps_of_setFld (s : Chip) (d e : Fin 4) (f : Fld) (v : Nat) :
    ((s.setFld d f v).d e).caps = (s.d e).caps := Chip.caps_of_setReg ..
@[simp] theorem Chip.ingestQ_of_setFld (s : Chip) (d e : Fin 4) (f : Fld) (v : Nat) :
    ((s.setFld d f v).d e).ingestQ = (s.d e).ingestQ := Chip.ingestQ_of_setReg ..
@[simp] theorem Chip.fifos_of_setFld (s : Chip) (d e : Fin 4) (f : Fld) (v : Nat) :
    ((s.setFld d f v).d e).fifos = (s.d e).fifos := Chip.fifos_of_setReg ..
@[simp] theorem Chip.flows_of_setFld (s : Chip) (d e : Fin 4) (f : Fld) (v : Nat) :
    ((s.setFld d f v).d e).flows = (s.d e).flows := Chip.flows_of_setReg ..
@[simp] theorem Chip.flowNext_of_setFld (s : Chip) (d e : Fin 4) (f : Fld) (v : Nat) :
    ((s.setFld d f v).d e).flowNext = (s.d e).flowNext := Chip.flowNext_of_setReg ..
@[simp] theorem Chip.sfq_of_setFld (s : Chip) (d e : Fin 4) (f : Fld) (v : Nat) :
    ((s.setFld d f v).d e).sfq = (s.d e).sfq := Chip.sfq_of_setReg ..
@[simp] theorem Chip.pleat_of_setFld (s : Chip) (d e : Fin 4) (f : Fld) (v : Nat) :
    ((s.setFld d f v).d e).pleat = (s.d e).pleat := Chip.pleat_of_setReg ..
@[simp] theorem Chip.workq_of_setFld (s : Chip) (d e : Fin 4) (f : Fld) (v : Nat) :
    ((s.setFld d f v).d e).workq = (s.d e).workq := Chip.workq_of_setReg ..
@[simp] theorem Chip.plls_of_setFld (s : Chip) (d e : Fin 4) (f : Fld) (v : Nat) :
    ((s.setFld d f v).d e).plls = (s.d e).plls := Chip.plls_of_setReg ..
@[simp] theorem Chip.nets_of_setFld (s : Chip) (d e : Fin 4) (f : Fld) (v : Nat) :
    ((s.setFld d f v).d e).nets = (s.d e).nets := Chip.nets_of_setReg ..
@[simp] theorem Chip.lanes_of_setFld (s : Chip) (d e : Fin 4) (f : Fld) (v : Nat) :
    ((s.setFld d f v).d e).lanes = (s.d e).lanes := Chip.lanes_of_setReg ..
@[simp] theorem Chip.fabRst_of_setFld (s : Chip) (d e : Fin 4) (f : Fld) (v : Nat) :
    ((s.setFld d f v).d e).fabRst = (s.d e).fabRst := Chip.fabRst_of_setReg ..
@[simp] theorem Chip.domRun_of_setFld (s : Chip) (d e : Fin 4) (f : Fld) (v : Nat) :
    ((s.setFld d f v).d e).domRun = (s.d e).domRun := Chip.domRun_of_setReg ..
@[simp] theorem Chip.latch_of_setFld (s : Chip) (d e : Fin 4) (f : Fld) (v : Nat) :
    ((s.setFld d f v).d e).latch = (s.d e).latch := Chip.latch_of_setReg ..
@[simp] theorem Chip.links_of_setFld (s : Chip) (d e : Fin 4) (f : Fld) (v : Nat) :
    ((s.setFld d f v).d e).links = (s.d e).links := Chip.links_of_setReg ..
@[simp] theorem Chip.cfg_of_setFld (s : Chip) (d e : Fin 4) (f : Fld) (v : Nat) :
    ((s.setFld d f v).d e).cfg = (s.d e).cfg := Chip.cfg_of_setReg ..
@[simp] theorem Chip.frames_of_setFld (s : Chip) (d e : Fin 4) (f : Fld) (v : Nat) :
    ((s.setFld d f v).d e).frames = (s.d e).frames := Chip.frames_of_setReg ..
@[simp] theorem Chip.upsets_of_setFld (s : Chip) (d e : Fin 4) (f : Fld) (v : Nat) :
    ((s.setFld d f v).d e).upsets = (s.d e).upsets := Chip.upsets_of_setReg ..
@[simp] theorem Chip.yoke_of_setFld (s : Chip) (d e : Fin 4) (f : Fld) (v : Nat) :
    ((s.setFld d f v).d e).yoke = (s.d e).yoke := Chip.yoke_of_setReg ..
@[simp] theorem Chip.insts_of_setFld (s : Chip) (d e : Fin 4) (f : Fld) (v : Nat) :
    ((s.setFld d f v).d e).insts = (s.d e).insts := Chip.insts_of_setReg ..
@[simp] theorem Chip.darner_of_setFld (s : Chip) (d e : Fin 4) (f : Fld) (v : Nat) :
    ((s.setFld d f v).d e).darner = (s.d e).darner := Chip.darner_of_setReg ..
@[simp] theorem Chip.reload_of_setFld (s : Chip) (d e : Fin 4) (f : Fld) (v : Nat) :
    ((s.setFld d f v).d e).reload = (s.d e).reload := Chip.reload_of_setReg ..
@[simp] theorem Chip.reloadQ_of_setFld (s : Chip) (d e : Fin 4) (f : Fld) (v : Nat) :
    ((s.setFld d f v).d e).reloadQ = (s.d e).reloadQ := Chip.reloadQ_of_setReg ..
@[simp] theorem Chip.reloadEnd_of_setFld (s : Chip) (d e : Fin 4) (f : Fld) (v : Nat) :
    ((s.setFld d f v).d e).reloadEnd = (s.d e).reloadEnd := Chip.reloadEnd_of_setReg ..
@[simp] theorem Chip.moveQ_of_setFld (s : Chip) (d e : Fin 4) (f : Fld) (v : Nat) :
    ((s.setFld d f v).d e).moveQ = (s.d e).moveQ := Chip.moveQ_of_setReg ..
@[simp] theorem Chip.moveTurn_of_setFld (s : Chip) (d e : Fin 4) (f : Fld) (v : Nat) :
    ((s.setFld d f v).d e).moveTurn = (s.d e).moveTurn := Chip.moveTurn_of_setReg ..
@[simp] theorem Chip.moves_of_setFld (s : Chip) (d e : Fin 4) (f : Fld) (v : Nat) :
    ((s.setFld d f v).d e).moves = (s.d e).moves := Chip.moves_of_setReg ..
@[simp] theorem Chip.sports_of_setFld (s : Chip) (d e : Fin 4) (f : Fld) (v : Nat) :
    ((s.setFld d f v).d e).sports = (s.d e).sports := Chip.sports_of_setReg ..
@[simp] theorem Chip.dports_of_setFld (s : Chip) (d e : Fin 4) (f : Fld) (v : Nat) :
    ((s.setFld d f v).d e).dports = (s.d e).dports := Chip.dports_of_setReg ..
@[simp] theorem Chip.dbg_of_setFld (s : Chip) (d e : Fin 4) (f : Fld) (v : Nat) :
    ((s.setFld d f v).d e).dbg = (s.d e).dbg := Chip.dbg_of_setReg ..
@[simp] theorem Chip.tap_of_setFld (s : Chip) (d e : Fin 4) (f : Fld) (v : Nat) :
    ((s.setFld d f v).d e).tap = (s.d e).tap := Chip.tap_of_setReg ..
@[simp] theorem Chip.marks_of_setFld (s : Chip) (d e : Fin 4) (f : Fld) (v : Nat) :
    ((s.setFld d f v).d e).marks = (s.d e).marks := Chip.marks_of_setReg ..
@[simp] theorem Chip.railAt_of_setFld (s : Chip) (d e : Fin 4) (f : Fld) (v : Nat) :
    ((s.setFld d f v).d e).railAt = (s.d e).railAt := Chip.railAt_of_setReg ..
@[simp] theorem Chip.railTold_of_setFld (s : Chip) (d e : Fin 4) (f : Fld) (v : Nat) :
    ((s.setFld d f v).d e).railTold = (s.d e).railTold := Chip.railTold_of_setReg ..
@[simp] theorem Chip.stopped_of_setFld (s : Chip) (d e : Fin 4) (f : Fld) (v : Nat) :
    ((s.setFld d f v).d e).stopped = (s.d e).stopped := Chip.stopped_of_setReg ..

end Sys2Proof.Machine
end

