-- ==== Sys2Proof/Laws/Ops.lean ====
section
/-! SUPPORT. What the shared operations do, said once: fields after a field is stored, event records, refusals and the
gates of the register meanings. -/

namespace Sys2Proof.Machine

/-! ### Fields -/

/-- A field reads the low bits of what was stored in it. -/
theorem Chip.fld_setFld_same (s : Chip) (d : Fin 4) (f : Fld) (v : Nat) (h : f.lo + f.w ≤ 32) :
    (s.setFld d f v).fld d f = v % 2 ^ f.w := by
  simp [Chip.fld, Chip.setFld, getBits_putBits_same _ _ _ _ h]

/-- A field of another register, or of another die, reads as before. -/
theorem Chip.fld_setFld_ne (s : Chip) {d e : Fin 4} {f g : Fld} (v : Nat) (h : e ≠ d ∨ g.key ≠ f.key) :
    (s.setFld d f v).fld e g = s.fld e g := by
  simp only [Chip.fld, Chip.setFld, Chip.reg_setReg_ne s _ h]

/-- A field of the same register that does not meet the stored one reads as before. -/
theorem Chip.fld_setFld_disjoint (s : Chip) (d : Fin 4) {f g : Fld} (v : Nat) (hk : g.key = f.key) (h : f.lo + f.w ≤ 32)
    (hd : g.lo + g.w ≤ f.lo ∨ f.lo + f.w ≤ g.lo) : (s.setFld d f v).fld d g = s.fld d g := by
  simp only [Chip.fld, Chip.setFld, hk, Chip.reg_setReg_same]
  exact getBits_putBits_ne _ _ h hd

/-- Storing a field changes one register of one die. -/
theorem Chip.reg_setFld_ne (s : Chip) {d e : Fin 4} (f : Fld) {k : Nat} (v : Nat) (h : e ≠ d ∨ k ≠ f.key) :
    (s.setFld d f v).reg e k = s.reg e k := Chip.reg_setReg_ne s _ h

/-- A counter field changes one register of one die. -/
theorem Chip.reg_addFld_ne (s : Chip) {d e : Fin 4} (f : Fld) {k : Nat} (n : Nat) (h : e ≠ d ∨ k ≠ f.key) :
    (s.addFld d f n).reg e k = s.reg e k := Chip.reg_setFld_ne s f _ h

/-- A counter field holds the sum, or its greatest value. -/
theorem Chip.fld_addFld_same (s : Chip) (d : Fin 4) (f : Fld) (n : Nat) (h : f.lo + f.w ≤ 32) :
    (s.addFld d f n).fld d f = min (s.fld d f + n) (2 ^ f.w - 1) := by
  rw [Chip.addFld, Chip.fld_setFld_same _ _ _ _ h]
  apply Nat.mod_eq_of_lt
  have : 0 < 2 ^ f.w := by positivity
  omega

/-! ### Records -/

/-- A record sent towards die 0 changes the count of its kind and no other register. -/
theorem reg_sendRec (s : Chip) (d e : Fin 4) (r : Rec) {k : Nat} (h : e ≠ 0 ∨ k ≠ (Rf.EVT_KCOUNT_COUNT.at r.kind).key) :
    (sendRec s d r).reg e k = s.reg e k := by
  have : (sendRec s d r).reg e k = (countKind s r.kind).reg e k := by
    simp only [sendRec, Chip.reg, Chip.d_upd]
    split <;> simp_all
  rw [this]
  exact Chip.reg_addFld_ne s _ _ h

/-- The records on their way from a die after one is sent from die `d`. -/
theorem fly_sendRec (s : Chip) (d e : Fin 4) (r : Rec) :
    ((sendRec s d r).d e).fly = if e = d then (s.d d).fly ++ [r] else (s.d e).fly := by
  simp only [sendRec, Chip.d_upd, countKind, Chip.addFld]
  split <;> simp

/-- An event raised changes the count of its kind and no other register. -/
theorem reg_raise (s : Chip) (d e : Fin 4) (src kind : Nat) (t : Fin 256) (pay : Nat) {k : Nat}
    (h : e ≠ 0 ∨ k ≠ (Rf.EVT_KCOUNT_COUNT.at kind).key) : (raise s d src kind t pay).reg e k = s.reg e k :=
  reg_sendRec s d e _ h

/-- An event raised joins the records on their way from its die. -/
theorem fly_raise (s : Chip) (d e : Fin 4) (src kind : Nat) (t : Fin 256) (pay : Nat) :
    ((raise s d src kind t pay).d e).fly =
      if e = d then (s.d d).fly ++ [mkRec s d src kind t pay false false] else (s.d e).fly := fly_sendRec ..

/-- The always-on log holds 32 entries (R939). -/
theorem aol_logRecord_le (s : Chip) (r : Rec) (h : s.aol.length ≤ 32) : (logRecord s r).aol.length ≤ 32 := by
  unfold logRecord
  split
  · simpa using ‹_›
  · simp only [List.length_cons, List.length_take]; omega

/-! ### Gates -/

/-- A gate passes, ignores the write, or logs a refusal. -/
theorem whenGranted_cases (s : Chip) (d : Fin 4) (t : Fin 256) (f : Fld) (k : Chip → Chip) :
    (up s d = true ∧ granted s d f.unit t = true ∧ whenGranted s d t f k = k s) ∨
    (up s d = true ∧ present s d f.unit = true ∧ granted s d f.unit t = false ∧
      whenGranted s d t f k = refusedWrite s d t f) ∨
    ((up s d = false ∨ present s d f.unit = false) ∧ whenGranted s d t f k = s) := by
  unfold whenGranted
  cases hu : up s d <;> cases hp : present s d f.unit <;> cases hg : granted s d f.unit t <;> simp_all [granted]

/-- A gate of the supervisor's passes, ignores the write, or logs a refusal. -/
theorem whenSuper_cases (s : Chip) (d : Fin 4) (t : Fin 256) (f : Fld) (k : Chip → Chip) :
    (up s d = true ∧ present s d f.unit = true ∧ t = 0 ∧ whenSuper s d t f k = k s) ∨
    (up s d = true ∧ present s d f.unit = true ∧ t ≠ 0 ∧ whenSuper s d t f k = refusedWrite s d t f) ∨
    ((up s d = false ∨ present s d f.unit = false) ∧ whenSuper s d t f k = s) := by
  unfold whenSuper
  cases hu : up s d <;> cases hp : present s d f.unit <;> by_cases ht : t = 0 <;> simp_all

/-- A meaning of a die that does not run does nothing. -/
theorem whenUp_cases (s : Chip) (d : Fin 4) (k : Chip → Chip) :
    (up s d = true ∧ whenUp s d k = k s) ∨ (up s d = false ∧ whenUp s d k = s) := by
  unfold whenUp; cases h : up s d <;> simp

/-- The supervisor holds every grant (R13). -/
theorem granted_zero (s : Chip) (d : Fin 4) (u : Nat) : granted s d u 0 = present s d u := by simp [granted]

/-- What holds at the start and survives `f` holds after `f` has run over a list. -/
theorem overAll_keeps {α : Type} (P : Chip → Prop) (f : Chip → α → Chip) (h : ∀ s a, P s → P (f s a)) (s : Chip)
    (l : List α) (hs : P s) : P (overAll f s l) := by
  induction l generalizing s with
  | nil => exact hs
  | cons a l ih => exact ih _ (h s a hs)

/-- A meaning built with `act` answers a next state with the same queue. -/
theorem act_next {s t : State} {f : Chip → Chip} : act s f = .next t ↔ t = ⟨f s.chip, s.pending⟩ := by
  rw [act_pending]
  constructor
  · intro h; cases h; rfl
  · rintro rfl; rfl

end Sys2Proof.Machine
end

