-- ==== Sys2Proof/Laws/Memory.lean ====
section
/-! SUPPORT. The laws of the memories: what a word, a byte or a bundle reads after a write, and that every store of memory
keeps the canonical form. -/

namespace Sys2Proof.Machine

/-! ### Lane memories -/

/-- A word reads what was stored in it. -/
@[simp] theorem Chip.word_setWord_same (s : Chip) (d : Fin 4) (m : Mem) (i : Nat) (w : MWord) :
    (s.setWord d m i w).word d m i = w := by
  cases m <;> simp [Chip.word, Chip.setWord, DieSt.mem, DieSt.setMem]

/-- Every other word reads as before. -/
theorem Chip.word_setWord_ne (s : Chip) {d e : Fin 4} {m n : Mem} {i j : Nat} (w : MWord)
    (h : e ≠ d ∨ n ≠ m ∨ j ≠ i) : (s.setWord d m i w).word e n j = s.word e n j := by
  simp only [Chip.word, Chip.setWord, Chip.d_upd]
  split
  · rename_i he
    subst he
    have h' : n ≠ m ∨ j ≠ i := by simpa using h
    cases m <;> cases n <;> simp_all [DieSt.mem, DieSt.setMem, mapGet_mapPut_ne]
  · rfl

/-- A store of a word changes no register. -/
@[simp] theorem Chip.reg_setWord (s : Chip) (d e : Fin 4) (m : Mem) (i k : Nat) (w : MWord) :
    (s.setWord d m i w).reg e k = s.reg e k := by
  simp only [Chip.reg, Chip.setWord, Chip.d_upd]
  split
  · rename_i he; subst he; cases m <;> rfl
  · rfl

/-- Every lane memory of a die is in canonical form. -/
def MemsWf (x : DieSt) : Prop := ∀ m : Mem, mapWf word0 (x.mem m) = true

/-- A store of a word keeps the canonical form. -/
theorem memsWf_setWord (s : Chip) (d e : Fin 4) (m : Mem) (i : Nat) (w : MWord) (h : MemsWf (s.d e)) :
    MemsWf ((s.setWord d m i w).d e) := by
  intro n
  simp only [Chip.setWord, Chip.d_upd]
  split
  · rename_i he
    subst he
    have hn := h n
    cases m <;> cases n <;> simp_all [DieSt.mem, DieSt.setMem, mapWf_mapPut]
  · exact h n

/-! ### Register files -/

/-- A store of a register keeps the canonical form. -/
theorem regsWf_setReg (s : Chip) (d e : Fin 4) (k : Nat) (v : Word) (h : mapWf regReset (s.d e).regs = true) :
    mapWf regReset ((s.setReg d k v).d e).regs = true := by
  simp only [Chip.setReg, Chip.d_upd]
  split
  · rename_i he; subst he; exact mapWf_mapPut _ _ _ _ h
  · exact h

/-- A store of a field keeps the canonical form. -/
theorem regsWf_setFld (s : Chip) (d e : Fin 4) (f : Fld) (v : Nat) (h : mapWf regReset (s.d e).regs = true) :
    mapWf regReset ((s.setFld d f v).d e).regs = true := regsWf_setReg s d e _ _ h

/-- A reset of a register file keeps the canonical form. -/
theorem regsWf_resetRegs (keep : Nat → Bool) (p : Rst → Bool) (m : SMap Word) (h : mapWf regReset m = true) :
    mapWf regReset (resetRegs keep p m) = true := mapWf_mapEach _ _ _ h

/-! ### DRAM and host memory -/

/-- Bytes stored in DRAM keep the canonical form. -/
theorem cellsWf_putCells (bs : List Byte) (x : DramSt) (k : Nat) (h : mapWf (fun _ => none) x.cells = true) :
    mapWf (fun _ => none) (putCells x k bs).cells = true := by
  induction bs generalizing x k with
  | nil => exact h
  | cons b bs ih => exact ih _ _ (by simpa using mapWf_mapPut _ x.cells k (some b) h)

/-- A location outside the stored bytes reads as before. -/
theorem cell_putCells_ne (bs : List Byte) (x : DramSt) {k j : Nat} (h : j < k ∨ k + bs.length ≤ j) :
    mapGet (fun _ => none) (putCells x k bs).cells j = mapGet (fun _ => none) x.cells j := by
  induction bs generalizing x k with
  | nil => rfl
  | cons b bs ih =>
    simp only [List.length_cons] at h
    rw [putCells, ih _ (by omega), mapGet_mapPut_ne _ _ _ (by omega)]

/-- A location inside the stored bytes reads the byte stored there. -/
theorem cell_putCells_in (bs : List Byte) (x : DramSt) (k i : Nat) (h : i < bs.length) :
    mapGet (fun _ => none) (putCells x k bs).cells (k + i) = some bs[i] := by
  induction bs generalizing x k i with
  | nil => simp at h
  | cons b bs ih =>
    cases i with
    | zero => rw [putCells, cell_putCells_ne _ _ (by omega)]; simp
    | succ i =>
      simp only [List.length_cons] at h
      rw [putCells, show k + (i + 1) = k + 1 + i by omega, ih _ _ _ (by omega)]; simp

/-- Bytes written to host memory keep the canonical form. -/
theorem hostWf_hostPut (bs : List Byte) (m : SMap (Option Byte)) (a : Nat) (h : mapWf (fun _ => none) m = true) :
    mapWf (fun _ => none) (hostPut m a bs) = true := by
  induction bs generalizing m a with
  | nil => exact h
  | cons b bs ih => exact ih _ _ (mapWf_mapPut _ _ _ _ h)

/-! ### Instruction stores -/

/-- A bundle reads what was stored in it; the others read as before. -/
theorem istoreAt_putBundle (s : Chip) (d e : Fin 4) (c a b i : Nat) (w : BitVec 128) (ha : a < 4096) (hi : i < 4096) :
    istoreAt (putBundle s d c a w) e b i = if e = d ∧ b = c ∧ i = a then w else istoreAt s e b i := by
  have hd : istoreDflt (putBundle s d c a w) e = istoreDflt s e := by
    funext k
    simp only [istoreDflt, putBundle, Chip.d_upd]
    split
    · rename_i he; subst he; rfl
    · rfl
  unfold istoreAt
  rw [hd]
  simp only [putBundle, Chip.d_upd]
  by_cases he : e = d
  · subst he
    have hk : 4096 * b + i = 4096 * c + a ↔ b = c ∧ i = a := by omega
    simp [mapGet_mapPut, hk]
  · simp [he]

/-! ### Reset -/

/-- The memory of the machine right after reset is in canonical form, and lists nothing. -/
theorem reset_memory : ∀ d, MemsWf (State.reset.chip.d d) ∧ (State.reset.chip.d d).dram.cells = [] := by
  intro d
  refine ⟨fun m => ?_, ?_⟩ <;> fin_cases d <;> (try cases m) <;> rfl

end Sys2Proof.Machine
end

