-- ==== Sys2Proof/Safety.lean ====
section
/-! DEFINITION. What counts as a safe run: the block never stops without a next state, and a class F stop of its own is a
next state in which `alive` is false. -/

namespace Sys2Proof.Machine

/-- The outcome is a next state. -/
def goesOn (o : Host.Outcome State Fault Refusal) : Bool :=
  match o with
  | .next _ => true
  | .fault _ => false
  | .refused _ => false

/-- Every step of the first `n` answers a next state. -/
def safeFor : Nat → State → Bool
  | 0, _ => true
  | n + 1, s =>
    match step s with
    | .next s' => safeFor n s'
    | .fault _ => false
    | .refused _ => false

end Sys2Proof.Machine
end

