-- ==== Sys2Proof/Tests/Slice0.lean ====
section
/-! SUPPORT. Tests: worked cases of the spec, terms that `Instr.wf` refuses, and for every obligation with hypotheses a
concrete state and operands that meet the hypotheses of each of its clauses. -/

namespace Sys2Proof.Tests

open Sys2Proof.Machine Sys2Proof.Says

set_option Elab.async false
set_option linter.unusedVariables false

/-! ### States -/

/-- The state after reset with its S9 changed by `f`. -/
def st (f : Chip → Chip) : State := { State.reset with chip := f State.reset.chip }

/-- The S9 with the Yoke of die `d` changed. -/
def yk (d : Fin 4) (f : YokeSt → YokeSt) (c : Chip) : Chip := c.upd d fun x => { x with yoke := f x.yoke }

/-- The S9 with the tick of die `d` changed. -/
def tk (d : Fin 4) (f : TickSt → TickSt) (c : Chip) : Chip := c.upd d fun x => { x with tick := f x.tick }

/-- The S9 with the time base of die `d` at `n`. -/
def tm (d : Fin 4) (n : Nat) (c : Chip) : Chip := c.upd d fun x => { x with tb := { x.tb with now := BitVec.ofNat 64 n } }

/-- The Yoke of die `d` runs at address 5 in PROCESS, 20,100 tq into tick 7, with `l` in its registers. -/
def yr (d : Fin 4) (l : SMap Word) (c : Chip) : Chip :=
  tm d 21100 (tk d (fun t => { t with phase := .process, num := 7, start := 1000 })
    (yk d (fun y => { y with l := l, pc := 5, run := true, prog := true }) c))

/-- The S9 with register field `f` of die `d` at `v`. -/
def fl (d : Fin 4) (f : Fld) (v : Nat) (c : Chip) : Chip := c.setFld d f v

/-- The S9 with every link between its dies up. -/
def ring (c : Chip) : Chip :=
  [0, 1, 2, 3].foldl (fun c d => (c.setLink d 0 { c.link d 0 with st := 0 }).setLink d 1 { c.link d 1 with st := 0 }) c

/-- A vector whose lane `j` is `n + 37 j`. -/
def ve (n : Nat) : Vec := Lanes.ofFn fun j => BitVec.ofNat 14 (n + 37 * j)

/-- A program of tenant 3 runs on a cluster since time 0, with `s` in its scalar registers, p1 at 0x5A5A, and v3, v5 and
the warp entries 64 to 67 set. -/
def kl (s : SMap (BitVec 28)) : Cluster :=
  { st := .running, ten := 3, pc := 9, wb := 1, descs := [{ base := 0x2100000000, limit := 0x2110000000, rd := true, wr := true }], sreg := s, preg := [(1, 0x5A5B), (2, 0xA5A4)],
    vec := [(3, ve 5), (5, ve 8000), (64, ve 77), (65, ve 16000), (66, ve 1), (67, ve 2)],
    acc := [(16, { v := 2000000, n := 3 }), (17, { v := 0x7FFFFFFFFFFFFF, n := 9 }), (18, { v := 5, o := true })] }

/-- The S9 with cluster `c` of die `d` as `x`, 30,000 tq after the time 0. -/
def cl (d : Fin 4) (c : Nat) (x : Cluster) (k : Chip) : Chip :=
  tm d 30000 (k.setCluster d c x)

/-! ### Worked cases of the spec -/

/-- The worked case of R22: one word in both layouts. -/
theorem test_word_layouts :
    ofLanes 0x0005 0x3FFF 0x2000 0x1FFF = 0x7FFE000FFFC005 ∧
      packWord 0x7FFE000FFFC005 = [0x05, 0xC0, 0xFF, 0x0F, 0x00, 0xFE, 0x7F] ∧
      expandWord 0x7FFE000FFFC005 = [0x05, 0x00, 0xFF, 0xFF, 0x00, 0xE0, 0xFF, 0x1F] := by decide

/-- The worked case of R514: the means of four records, and a marked sample. -/
theorem test_set_means :
    (([10, 11, 11, 11] : List Lane).foldl (addSample true) 0 |> meanOf 2) = 11 ∧
      (([2, 3, 4, 5] : List Lane).foldl (addSample true) 0 |> meanOf 2) = 4 ∧
      (([6, 0x2000, 7, 8] : List Lane).foldl (addSample true) 0 |> meanOf 2) = -(2 ^ 27) := by decide

/-- The worked case of R524: one P1 block, its length, its first bytes and its decoded values. -/
theorem test_p1_block :
    let f : P1 := { m := 8, mark := true, trunc := false }
    let x := streamOf (encodeFields 1 14 f true
      [1203, 1190, 1177, 1161, 1144, 1130, 1109, 1092, -30, -7, 0, 3, 17, -8192, 511, 640])
    x.n = 131 ∧ (streamBytes x).take 4 = [0x5C, 0x52, 0x52, 0x4A] ∧
      (decodeStream 1 14 f true 16 x.v).vals =
        [1200, 1184, 1184, 1168, 1152, 1136, 1104, 1088, -32, 0, 0, 0, 16, -8192, 512, 640] := by decide +kernel

/-- The worked case of R528: P2 codes, and what they decode to. -/
theorem test_p2_codes :
    ([700, 2049, 3141593, -3141593] : List Int).map (p2Code true) = [0x02BC, 0x0800, 0x31FE, 0xB1FE] ∧
      [0x0800, 0x31FE].map (p2Value true) = [some 2048, some 3141632] := by decide +kernel

/-- The worked case of R834: with F = 4 and PERIOD 200 ms the window opens at a count of 50,000. -/
theorem test_watchdog_window :
    wdogOpen (((State.reset.chip.onHem 0 fun h => { h with control := 4 }).onWdog 0 fun w => { w with period := 200 })) 0 =
      50000 := by decide +kernel

/-- R63: with P = 10,001 takes S = 8,745 and refuses 8,746 with RESULT 4. -/
theorem test_smallest_period :
    settingCode 10001 100 8745 5 = 1 ∧ settingCode 10001 100 8746 5 = 4 := by decide +kernel

/-- The worked case of the four balls (R892). -/
theorem test_four_balls :
    (ballAt 4 28, ballAt 33 41, ballAt 32 12, ballAt 22 9) =
        (Ball.io 5 13, Ball.ltx 3 2 false, Ball.ddqs 2 4 false, Ball.lasenA) ∧
      [ballName 4 28, ballName 33 41, ballName 32 12, ballName 22 9] = ["D28", "AP41", "AN12", "AC9"] := by decide +kernel

/-- The ball counts of R893: GND, VDDQ, VDD2, VCORE_2, VLANE, VAUX, VADC, VAON, VPS, VIO_B07, VBAT and all. -/
theorem test_ball_counts :
    ([.gnd, .vddq, .vdd2, .vcore 2, .vlane, .vaux, .vadc, .vaon, .vps, .vio 7, .vbat].map fun v =>
        balls.countP fun b => b == Supply.at v) = [214, 80, 12, 18, 24, 12, 4, 7, 2, 3, 1] ∧ balls.length = 1764 := by
  decide +kernel

/-- The lengths of the boundary registers (R915). -/
theorem test_boundary_lengths : (dies.all fun d => (boundary d.val).length == boundaryCells d) = true := by decide +kernel

/-- Before the image is released CFG_DONE is low, ALERT_N and CFG_ERR are released, and user I/O are off (R895, R896). -/
theorem test_pins_at_reset :
    [Ball.cfgDone, .alertN, .cfgErr, .io 5 13, .lasenA].map (pinDrive State.reset.chip) =
      [.low, .released, .released, .highZ, .highZ] := by decide +kernel

/-! ### Terms that are not well formed -/

theorem test_wf_frame : (Instr.cFrameaddr 196608).wf = false ∧ (Instr.cFrameaddr 196607).wf = true := by decide
theorem test_wf_framewrite :
    (Instr.cFramewrite 0 true []).wf = false ∧ (Instr.cFramewrite 4097 true []).wf = false ∧
      (Instr.cFramewrite 1 false []).wf = false := by decide
theorem test_wf_region : (Instr.cRegionbegin 0 96 0).wf = false ∧ (Instr.cRegionbegin 0 0 96).wf = false := by decide
theorem test_wf_loadmem :
    (Instr.cLoadmem 0 0 true 0 []).wf = false ∧ (Instr.cLoadmem 0 524289 true 0 []).wf = false ∧
      (Instr.cLoadmem 0 2 false 0 [1, 2, 3]).wf = false ∧ (Instr.cLoadmem 0 2 false 0 [1, 2, 3, 4]).wf = true := by decide
theorem test_wf_image : (Instr.cLoadcodeRentik 0 [1, 2, 3]).wf = false := by decide
theorem test_wf_descriptor : (Instr.commandFetch 0 [1]).wf = false := by decide
theorem test_wf_recipe : (Instr.cmdRecipe 0 [1]).wf = false ∧ (Instr.cmdRecipeUpdate 0 []).wf = false := by decide
theorem test_wf_energy : (Instr.energySample 0 [1]).wf = false := by decide
theorem test_wf_psense : (Instr.psenseScan [5]).wf = false := by decide
theorem test_wf_boot : (Instr.cfgLoadStart [] [] true true).wf = false ∧ (Instr.cfgHeader []).wf = false := by decide
theorem test_wf_flash : (Instr.flashOpDone true [1]).wf = false ∧ (Instr.flashOpDone true []).wf = true := by decide
theorem test_wf_flips : (Instr.darnerFrameCheck 0 [1576]).wf = false ∧ (Instr.darnerFrameCheck 0 [1575]).wf = true := by decide
theorem test_wf_pins : (Instr.tapSample 1 []).wf = false := by decide

/-! ### The hypotheses of the obligations are met -/

/-- The hypotheses of clause `cl_` of EmptyQueueIdlesOneTq in Obligations.CommandsLeaveTheQueueAndIdleCountsTime. -/
def hyps_EmptyQueueIdlesOneTq (d : Fin 4) (s : State) (cl_ : Nat) : Bool :=

  decide (s.pending = []) &&
  match cl_ with
  | 0 => true
  | 1 => true
  | _ => false

/-- Every clause of Obligations.CommandsLeaveTheQueueAndIdleCountsTime with hypotheses is about some state. -/
theorem witness_CommandsLeaveTheQueueAndIdleCountsTime :
    (([0, 1]).all (hyps_EmptyQueueIdlesOneTq 0 State.reset)) = true := by
  decide +kernel

/-- The hypotheses of clause `cl_` of YokeArithmeticWritesDestination in Obligations.YokeArithmeticWritesItsDestination. -/
def hyps_YokeArithmeticWritesDestination (d : Fin 4) (D : Fin 16) (A : Fin 16) (B : Fin 16) (K : BitVec 18) (K16 :
      BitVec 16) (s : State) (cl_ : Nat) : Bool :=
  let a := s.chip.l d A.val
  let b := s.chip.l d B.val
  let w := fun v : Word => yokeAfter s.chip d fun y => y.put D.val v
  decide (YokeIssues s.chip d) &&
  match cl_ with
  | 0 => true
  | 1 => true
  | 2 => true
  | 3 => true
  | 4 => true
  | 5 => true
  | 6 => true
  | 7 => true
  | 8 => true
  | 9 => true
  | 10 => true
  | 11 => true
  | 12 => true
  | 13 => true
  | 14 => true
  | 15 => true
  | 16 => true
  | _ => false

/-- Every clause of Obligations.YokeArithmeticWritesItsDestination with hypotheses is about some state. -/
theorem witness_YokeArithmeticWritesItsDestination :
    (([0, 1, 2, 3, 4, 5, 6, 7, 8, 9, 10, 11, 12, 13, 14, 15, 16]).all (hyps_YokeArithmeticWritesDestination 0 (3) (1) (2)
      3 3 (st (fun c => yr 0 [(1,7),(2,0xFFFFFFFF),(3,40)] c)))) = true := by
  decide +kernel

/-- The hypotheses of clause `cl_` of YokeControlMovesAddress in Obligations.YokeControlMovesWaitsAndEnds. -/
def hyps_YokeControlMovesAddress (d : Fin 4) (D : Fin 16) (A : Fin 16) (B : Fin 16) (T : BitVec 14) (K : BitVec 18)
      (s : State) (cl_ : Nat) : Bool :=
  let a := s.chip.l d A.val
  let b := s.chip.l d B.val
  let jump := yokeAfter s.chip d fun y => { y with pc := T.toNat }
  let fall := yokeAfter s.chip d id
  let off := a.toNat + K.toNat
  decide (YokeIssues s.chip d) &&
  match cl_ with
  | 0 => true
  | 1 => true
  | 2 => true
  | 3 => true
  | 4 => true
  | 5 => true
  | 6 => true
  | 7 => (decide ((s.chip.d d).yoke.pc < 2 ^ 14) && true)
  | 8 => true
  | _ => false

/-- The hypotheses of clause `cl_` of WaittResumesAtOffset in Obligations.YokeControlMovesWaitsAndEnds. -/
def hyps_WaittResumesAtOffset (d : Fin 4) (off : Nat) (s : State) (cl_ : Nat) : Bool :=

  decide (up s.chip d = true) && decide ((s.chip.d d).yoke.wait = .till off) &&
  match cl_ with
  | 0 => true
  | _ => false

/-- The hypotheses of clause `cl_` of IllegalOpcodeRaisesYokeflt in Obligations.YokeControlMovesWaitsAndEnds. -/
def hyps_IllegalOpcodeRaisesYokeflt (d : Fin 4) (s : State) (cl_ : Nat) : Bool :=

  decide (YokeIssues s.chip d) && decide ((s.chip.d d).yoke.pc < 2 ^ 14) &&
  match cl_ with
  | 0 => true
  | _ => false

/-- Every clause of Obligations.YokeControlMovesWaitsAndEnds with hypotheses is about some state. -/
theorem witness_YokeControlMovesWaitsAndEnds :
    (([0, 1, 2, 3, 4, 5, 6, 7, 8]).all (hyps_YokeControlMovesAddress 0 1 (1) (2) 3 (20093) (st (fun c => yr 0
      [(1,7),(2,0xFFFFFFFF),(3,40)] c))) &&
    ([0]).all (hyps_WaittResumesAtOffset 0 (20100) (st (fun c => yk 0 (fun y => { y with wait := .till 20100 }) (yr 0
      [(1,7),(2,0xFFFFFFFF),(3,40)] c)))) &&
    ([0]).all (hyps_IllegalOpcodeRaisesYokeflt 0 (st (fun c => yr 0 [(1,7),(2,0xFFFFFFFF),(3,40)] c)))) = true := by
  decide +kernel

/-- The hypotheses of clause `cl_` of MailboxIsFirstInFirstOut. -/
def hyps_MailboxIsFirstInFirstOut (d : Fin 4) (A : Fin 16) (B : Fin 16) (D : Fin 16) (s : State) (v : Word) (vs :
      List Word) (cl_ : Nat) : Bool :=
  let y := (s.chip.d d).yoke
  let say := fun (c : Word) (q : List Word) => yokeAfter s.chip d fun y => ({ y with mail := q } : YokeSt).put 15 c
  decide (YokeIssues s.chip d) && decide ((s.chip.l d A.val).toNat % 4 = d.val) &&
  match cl_ with
  | 0 => (decide (y.mail.length + y.mailFly.length < 8) && true)
  | 1 => (decide (8 ≤ y.mail.length) && true)
  | 2 => (decide (y.mail = []) && true)
  | 3 => (decide (y.mail = v :: vs) && true)
  | 4 => (decide (y.mailFly = v :: vs) && (decide (y.mail.length < 8) && true))
  | _ => false

/-- Every clause of Obligations.MailboxIsFirstInFirstOut with hypotheses is about some state. -/
theorem witness_MailboxIsFirstInFirstOut :
    (([0, 2]).all (hyps_MailboxIsFirstInFirstOut 0 (0) 1 1 (st (fun c => yr 0 [] c)) 0 []) &&
    ([1, 3]).all (hyps_MailboxIsFirstInFirstOut 0 (0) 1 1 (st (fun c => yk 0 (fun y =>
      { y with mail := [9,2,3,4,5,6,7,8] }) (yr 0 [] c))) (9) ([2,3,4,5,6,7,8])) &&
    ([4]).all (hyps_MailboxIsFirstInFirstOut 0 (0) 1 1 (st (fun c => yk 0 (fun y =>
      { y with mail := [9,1,1,1,1,1,1], mailFly := [5] }) (yr 0 [] c))) (5) ([]))) = true := by
  decide +kernel

/-- The hypotheses of clause `cl_` of TenantValueAbove255IsRange. -/
def hyps_TenantValueAbove255IsRange (d : Fin 4) (D : Fin 16) (A : Fin 16) (B : Fin 16) (F : BitVec 14) (s : State)
      (cl_ : Nat) : Bool :=

  decide (YokeIssues s.chip d) &&
  match cl_ with
  | 0 => (decide (255 < (s.chip.l d B.val).toNat) && true)
  | 1 => (decide (255 < (s.chip.l d A.val).toNat) && true)
  | _ => false

/-- Every clause of Obligations.TenantValueAbove255IsRange with hypotheses is about some state. -/
theorem witness_TenantValueAbove255IsRange :
    (([0, 1]).all (hyps_TenantValueAbove255IsRange 0 (0) (1) (2) 3 (st (fun c => yr 0 [(1,256),(2,0xFFFFFFFF),(3,40)]
      c)))) = true := by
  decide +kernel

/-- The hypotheses of clause `cl_` of FirePlacesPulseOrSaysWhyNot in Obligations.PulsesAndCapturesReportTheirResult. -/
def hyps_FirePlacesPulseOrSaysWhyNot (d : Fin 4) (D : Fin 16) (A : Fin 16) (B : Fin 16) (s : State) (cl_ : Nat) :
      Bool :=
  let edge := (s.chip.l d A.val).toNat
  let width := (s.chip.l d B.val).toNat
  let x := s.chip.d 0
  let inRange := D.val < 4 ∧ edge < x.tick.set.p * 20 ∧ 20 ≤ width ∧ width ≤ 400000 ∧
      overlapsPulse s.chip D.val x.tick.start edge = false
  let there := present s.chip 0 8 = true ∧ feature s.chip 0 2 = true
  decide (YokeIssues s.chip d) &&
  match cl_ with
  | 0 => (decide (d ≠ 0) && true)
  | 1 => (decide (d = 0) && (decide (there) && (decide (¬ inRange) && true)))
  | 2 => (decide (d = 0) && (decide (there) && (decide (inRange) && (decide (edge < (elapsed s.chip 0 + 64) * 20) &&
      true))))
  | 3 => (decide (d = 0) && (decide (there) && (decide (inRange) && (decide ((elapsed s.chip 0 + 64) * 20 ≤ edge) &&
      (decide (queuedPulses s.chip D.val < 16) && true)))))
  | _ => false

/-- The hypotheses of clause `cl_` of ArmAndAcqstReportResult in Obligations.PulsesAndCapturesReportTheirResult. -/
def hyps_ArmAndAcqstReportResult (d : Fin 4) (D : Fin 16) (A : Fin 16) (B : Fin 16) (F : BitVec 14) (t : Fin 256) (s
      : State) (cl_ : Nat) : Bool :=
  let s1 := yokeAfter s.chip d id
  let arm := armCapture s1 d (s.chip.l d A.val).toNat t (bit F.toNat 0)
  let ch := (s.chip.l d A.val).toNat
  decide (YokeIssues s.chip d) &&
  match cl_ with
  | 0 => (decide ((s.chip.l d B.val).toNat = t.val) && (decide ((s.chip.d d).tick.phase ≠ .acquire) && true))
  | 1 => (decide ((s.chip.l d B.val).toNat = t.val) && (decide (arm.2.code = 0) && true))
  | 2 => (decide (acqstAbsent s.chip d ch = none) && true)
  | _ => false

/-- Every clause of Obligations.PulsesAndCapturesReportTheirResult with hypotheses is about some state. -/
theorem witness_PulsesAndCapturesReportTheirResult :
    (([0]).all (hyps_FirePlacesPulseOrSaysWhyNot (1) 1 1 1 (st (fun c => yr 1 [] c))) &&
    ([1]).all (hyps_FirePlacesPulseOrSaysWhyNot 0 (0) (1) (2) (st (fun c => yr 0 [(1,2000000),(2,19)] c))) &&
    ([2]).all (hyps_FirePlacesPulseOrSaysWhyNot 0 (3) (1) (2) (st (fun c => yr 0 [(1,403279),(2,20)] c))) &&
    ([3]).all (hyps_FirePlacesPulseOrSaysWhyNot 0 (3) (1) (2) (st (fun c => yr 0 [(1,403280),(2,400000)] c))) &&
    ([0, 2]).all (hyps_ArmAndAcqstReportResult 0 1 (1) (2) 3 0 (st (fun c => yr 0 [(1,2),(2,0)] c))) &&
    ([1]).all (hyps_ArmAndAcqstReportResult 0 1 (1) (2) 3 (3) (st (fun c => (fun c : Chip => (c.setWord 0 .spad 2
      { data := 404000, written := true }).setWord 0 .spad 3 { data := 0, written := true }) ((fun c : Chip =>
      (c.setWord 0 .spad 0 { data := 0x102, written := true }).setWord 0 .spad 1 { data := 4, written := true }) (fl
      0 Rf.ACQ_STAT_READY 7 (tk 0 (fun t =>
      { t with phase := .acquire, set := { p := 100000, a := 90000, s := 95000 } }) (yr 0 [(1,0),(2,3)] c)))))))) = true := by
  decide +kernel

/-- The hypotheses of clause `cl_` of WorkInstructionsActForTenant. -/
def hyps_WorkInstructionsActForTenant (d : Fin 4) (D : Fin 16) (A : Fin 16) (B : Fin 16) (F : BitVec 14) (t : Fin
      256) (s : State) (it : WorkItem) (rest : List WorkItem) (first : Nat) (count : Nat) (cl_ : Nat) : Bool :=
  let s1 := yokeAfter s.chip d id
  let b := (s.chip.l d B.val).toNat
  let counts := (s.chip.d d).tick.phase ≠ .slack ∧ sinceStitch s.chip d 32 = false
  decide (YokeIssues s.chip d) && decide ((s.chip.l d A.val).toNat = t.val) &&
  match cl_ with
  | 0 => (decide (dispEarly s.chip d t = none) && (decide (s.chip.workOf d t = it :: rest) && (decide (clusterSet b
      = some (first, count)) && (decide (setBusy s.chip d first count = false) && (decide ((dispReserve s1 d t
      (correctedCost s.chip d it.cost count)).2 = none) && true)))))
  | 1 => (decide (dispEarly s.chip d t = none) && (decide (s.chip.workOf d t = []) && true))
  | 2 => (decide (counts) && true)
  | 3 => (decide (counts) && true)
  | 4 => (decide (¬ counts) && true)
  | 5 => (decide (tenEnabled s.chip t = true) && (decide (tenFaulted s.chip t = false) && (decide (refusal s.chip d
      t b = none) && true)))
  | 6 => true
  | _ => false

/-- Every clause of Obligations.WorkInstructionsActForTenant with hypotheses is about some state. -/
theorem witness_WorkInstructionsActForTenant :
    (([0, 2, 3, 5, 6]).all (hyps_WorkInstructionsActForTenant 0 1 (1) (2) 3 (3) (st (fun c => (fun c : Chip => c.upd 0
      fun x =>
      { x with workq := [(3, [{ ten := 3, cmd := none, first := 0, count := 1, args := [], entry := 0, unpick := 0, cost := 0 }])] })
      (fl 0 (Rf.YOKE_TEN_CTL_ENABLE.at 3) 1 (yr 0 [(1,3),(2,0x100)] c))))
      ({ ten := 3, cmd := none, first := 0, count := 1, args := [], entry := 0, unpick := 0, cost := 0 }) ([]) (0)
      (1)) &&
    ([1]).all (hyps_WorkInstructionsActForTenant 0 1 (1) (2) 3 (3) (st (fun c => fl 0 (Rf.YOKE_TEN_CTL_ENABLE.at 3) 1
      (yr 0 [(1,3),(2,1)] c)))
      ({ ten := 3, cmd := none, first := 0, count := 1, args := [], entry := 0, unpick := 0, cost := 0 }) [] 0 0) &&
    ([4]).all (hyps_WorkInstructionsActForTenant 0 1 (1) (2) 3 (3) (st (fun c => tk 0 (fun t =>
      { t with phase := .stitch, stitchAt := some 21068 }) (yr 0 [(1,3),(2,0)] c)))
      ({ ten := 3, cmd := none, first := 0, count := 1, args := [], entry := 0, unpick := 0, cost := 0 }) [] 0 0)) = true := by
  decide +kernel

/-- The hypotheses of clause `cl_` of YokeMemoryAccessLoadsAndStores. -/
def hyps_YokeMemoryAccessLoadsAndStores (d : Fin 4) (D : Fin 16) (A : Fin 16) (K : BitVec 18) (s : State) (cl_ :
      Nat) : Bool :=
  let s1 := yokeAfter s.chip d id
  let a := s.chip.l d A.val + K.signExtend 32
  let e := Fin.ofNat 4 (a.toNat / 2 ^ 30)
  let off := a.toNat % 2 ^ 30
  let lane := a.toNat
  decide (YokeIssues s.chip d) && decide (yPosted s.chip d = false) &&
  match cl_ with
  | 0 => (decide (regAddrOk off = false) && true)
  | 1 => (decide (regAddrOk off = false) && true)
  | 2 => (decide (regAddrOk off = true) && (decide (e = d) && true))
  | 3 => (decide (regAddrOk off = true) && (decide (e = d) && true))
  | 4 => (decide (regAddrOk off = true) && (decide (e ≠ d) && true))
  | 5 => (decide (regAddrOk off = true) && (decide (e ≠ d) && true))
  | 6 => (decide (2097152 ≤ lane) && true)
  | 7 => (decide (2097152 ≤ lane) && true)
  | 8 => (decide (lane < 2097152) &&
      (match ((readMem s1 d .spad (lane / 4) (2 ^ (lane % 4)) .outside).2) with
      | .val q b => true
      | _ => false))
  | 9 => true
  | _ => false

/-- Every clause of Obligations.YokeMemoryAccessLoadsAndStores with hypotheses is about some state. -/
theorem witness_YokeMemoryAccessLoadsAndStores :
    (([4, 5, 6, 7, 9]).all (hyps_YokeMemoryAccessLoadsAndStores 0 (3) (1) (0) (st (fun c => ring (yr 0 [(1,0x40000000)]
      c)))) &&
    ([0, 1, 8]).all (hyps_YokeMemoryAccessLoadsAndStores 0 (3) (1) (0) (st (fun c => (fun c : Chip => c.setWord 0 .spad
      524287 { c.word 0 .spad 524287 with data := 0x81234567123456, written := true }) (yr 0
      [(1,2097151),(3,0x3FFF)] c)))) &&
    ([2, 3]).all (hyps_YokeMemoryAccessLoadsAndStores 0 1 (1) (0) (st (fun c => yr 0 [(1,0)] c)))) = true := by
  decide +kernel

/-- The hypotheses of clause `cl_` of ServiceCallsAndReloadTakeEffect. -/
def hyps_ServiceCallsAndReloadTakeEffect (d : Fin 4) (A : Fin 16) (B : Fin 16) (s : State) (cl_ : Nat) : Bool :=
  let a := (s.chip.l d A.val).toNat
  let b := (s.chip.l d B.val).toNat
  let e := Fin.ofNat 4 (a / 256)
  decide (YokeIssues s.chip d) &&
  match cl_ with
  | 0 => (decide (wdogIsOpen s.chip d = true) && true)
  | 1 => true
  | 2 => true
  | 3 => (decide (d ≠ 0) && true)
  | 4 => (decide (d = 0) && (decide (present s.chip 0 9 = true) && (decide (ilkState s.chip = 3) && (decide
      (100002000 ≤ s.chip.ilk.safe) && true))))
  | 5 => (decide (a / 64 % 4 ≠ 0 ∨ a / 1024 ≠ 0 ∨ s.chip.flag d (Rf.CLK_REGION_VALID.at (a % 64)) = false) && true)
  | 6 => (decide (a / 64 % 4 = 0) && (decide (a / 1024 = 0) && (decide (s.chip.flag d (Rf.CLK_REGION_VALID.at (a %
      64)) = true) && (decide (present s.chip e 0x0F = true) && (decide ((s.chip.d d).tick.phase ≠ .slack) &&
      true)))))
  | _ => false

/-- Every clause of Obligations.ServiceCallsAndReloadTakeEffect with hypotheses is about some state. -/
theorem witness_ServiceCallsAndReloadTakeEffect :
    (([0, 1, 2, 5]).all (hyps_ServiceCallsAndReloadTakeEffect 0 (1) 1 (st (fun c => (fun c : Chip => c.upd 0 fun x =>
      { x with wdog := { running := true, count := 999000000 } }) (yr 0 [(1,7)] c)))) &&
    ([3]).all (hyps_ServiceCallsAndReloadTakeEffect (2) (1) 1 (st (fun c => yr 2 [(1,7)] c))) &&
    ([4]).all (hyps_ServiceCallsAndReloadTakeEffect 0 (1) 1 (st (fun c => (fun c : Chip =>
      { c with ilk := { c.ilk with safe := 100002000 } }) (fl 0 Rf.ILK_STAT_STATE 3 (yr 0 [(1,7)] c))))) &&
    ([6]).all (hyps_ServiceCallsAndReloadTakeEffect 0 (1) 1 (st (fun c => fl 0 (Rf.CLK_REGION_VALID.at 5) 1 (yr 0
      [(1,0x305)] c))))) = true := by
  decide +kernel

/-- The hypotheses of clause `cl_` of RemoteAccessServedAnsweredOrAbandoned. -/
def hyps_RemoteAccessServedAnsweredOrAbandoned (s : State) (a : RAcc) (off : Nat) (n : Nat) (v : Word) (D : Fin 16)
      (cl_ : Nat) : Bool :=
  let r := regRead s.chip a.target a.ten (off / 2 ^ 24) (off % 2 ^ 24)
  decide (s.chip.remote a.id = some a) &&
  match cl_ with
  | 0 => (decide (a.served = false) && (decide (up s.chip a.target = true) && (decide (reaches s.chip a.die a.target
      = true) && (decide (servedLater s.chip a = false) && (decide (a.op = .regRead off n) && true)))))
  | 1 => (decide (a.served = false) && (decide (up s.chip a.target = true) && (decide (reaches s.chip a.die a.target
      = true) && (decide (servedLater s.chip a = false) && (decide (a.op = .regWrite off n v) && true)))))
  | 2 => (decide (a.served = true) && (decide (up s.chip a.die = true) && (decide (reaches s.chip a.target a.die =
      true) && (decide (a.abandoned = false) && (decide (a.init = .yoke (some D)) && (decide (a.data = .word v) &&
      (decide ((s.chip.d a.die).yoke.wait = .remote a.id) && true)))))))
  | 3 => (decide (a.abandoned = false) && (decide (up s.chip a.die = true) && (decide (rtoDue s.chip a = true) &&
      (decide (a.init = .yoke (some D)) && (decide ((s.chip.d a.die).yoke.wait = .remote a.id) && true)))))
  | _ => false

/-- Every clause of Obligations.RemoteAccessServedAnsweredOrAbandoned with hypotheses is about some state. -/
theorem witness_RemoteAccessServedAnsweredOrAbandoned :
    (([2, 3]).all (hyps_RemoteAccessServedAnsweredOrAbandoned (st (fun c => (fun c : Chip =>
      { c with remotes := [{ id := 4, die := 0, target := 1, init := .yoke (some 3), ten := 0, op := .regRead 0x19000004 4, issued := 1000, basted := false, served := true, data := .word 77 }] })
      (yk 0 (fun y => { y with wait := .remote 4 }) (ring (yr 0 [(1,7),(2,0xFFFFFFFF),(3,40)] c)))))
      ({ id := 4, die := 0, target := 1, init := .yoke (some 3), ten := 0, op := .regRead 0x19000004 4, issued := 1000, basted := false, served := true, data := .word 77 })
      0 0 (77) (3)) &&
    ([0]).all (hyps_RemoteAccessServedAnsweredOrAbandoned (st (fun c => (fun c : Chip =>
      { c with remotes := [{ id := 4, die := 0, target := 1, init := .yoke (some 3), ten := 0, op := .regRead 0x19000004 4, issued := 1000, basted := false }] })
      (yk 0 (fun y => { y with wait := .remote 4 }) (ring (yr 0 [(1,7),(2,0xFFFFFFFF),(3,40)] c)))))
      ({ id := 4, die := 0, target := 1, init := .yoke (some 3), ten := 0, op := .regRead 0x19000004 4, issued := 1000, basted := false })
      (0x19000004) (4) 0 1) &&
    ([1]).all (hyps_RemoteAccessServedAnsweredOrAbandoned (st (fun c => (fun c : Chip =>
      { c with remotes := [{ id := 4, die := 0, target := 1, init := .yoke (some 3), ten := 0, op := .regWrite 0x02000038 4 9, issued := 1000, basted := false }] })
      (yk 0 (fun y => { y with wait := .remote 4 }) (ring (yr 0 [(1,7),(2,0xFFFFFFFF),(3,40)] c)))))
      ({ id := 4, die := 0, target := 1, init := .yoke (some 3), ten := 0, op := .regWrite 0x02000038 4 9, issued := 1000, basted := false })
      (0x02000038) (4) (9) 1)) = true := by
  decide +kernel

/-- The hypotheses of clause `cl_` of TickSettingAcceptedExactlyByItsRule. -/
def hyps_TickSettingAcceptedExactlyByItsRule (t : Fin 256) (v : Word) (s : State) (cl_ : Nat) : Bool :=
  let p := s.chip.fld 0 Rf.TIME_TICK_P_P
  let a := s.chip.fld 0 Rf.TIME_TICK_A_A
  let st := s.chip.fld 0 Rf.TIME_TICK_S_S
  let r := settingCode p a st (s.chip.fld 0 Rf.YOKE_RTO_TIMEOUT)
  decide (MayWrite s.chip 0 0x19 t) && decide (getBits v 0 1 = s.chip.fld 0 Rf.TIME_TICK_CTL_RUN) &&
  match cl_ with
  | 0 => true
  | _ => false

/-- Every clause of Obligations.TickSettingAcceptedExactlyByItsRule with hypotheses is about some state. -/
theorem witness_TickSettingAcceptedExactlyByItsRule :
    (([0]).all (hyps_TickSettingAcceptedExactlyByItsRule 0 (2) (st (fun c => fl 0 Rf.TIME_TICK_S_S 90000 (fl 0
      Rf.TIME_TICK_A_A 90000 (fl 0 Rf.TIME_TICK_P_P 91256 c)))))) = true := by
  decide +kernel

/-- The hypotheses of clause `cl_` of TickRunAndTimeSetTakeEffect in Obligations.RunTimeAndHoldoverTakeEffect. -/
def hyps_TickRunAndTimeSetTakeEffect (t : Fin 256) (v : Word) (s : State) (cl_ : Nat) : Bool :=
  let now := s.chip.now 0
  let req := BitVec.ofNat 64 (s.chip.fld64 0 Rf.TIME_TICK_START_LO_START Rf.TIME_TICK_START_HI_START)
  let first := if (req - (now + 2000)).toNat < 2 ^ 63 then req else now + 2000
  let set := BitVec.ofNat 64 (s.chip.fld64 0 Rf.TIME_SET_LO_SET Rf.TIME_SET_HI_SET)
  decide (MayWrite s.chip 0 0x19 t) &&
  match cl_ with
  | 0 => (decide (s.chip.fld 0 Rf.TIME_TICK_CTL_RUN = 0) && (decide (follows s.chip = false) && (decide (ticking
      s.chip 0 = false) && true)))
  | 1 => (decide (s.chip.fld 0 Rf.TIME_TICK_CTL_RUN = 1) && (decide (ticking s.chip 0 = true) && true))
  | 2 => (decide (getBits v 1 2 = s.chip.fld 0 Rf.TIME_CTL_SRC) && (decide (s.chip.ticked = false) && true))
  | 3 => (decide (getBits v 1 2 = s.chip.fld 0 Rf.TIME_CTL_SRC) && (decide (s.chip.ticked = true) && true))
  | _ => false

/-- The hypotheses of clause `cl_` of HoldoverKeepsTimeBase in Obligations.RunTimeAndHoldoverTakeEffect. -/
def hyps_HoldoverKeepsTimeBase (s : State) (cl_ : Nat) : Bool :=

  decide (up s.chip 0 = true) && decide (s.chip.fld 0 Rf.TIME_CTL_SRC ≠ 0) && decide (follows s.chip = false) &&
  match cl_ with
  | 0 => (decide (s.chip.fld 0 Rf.TIME_STAT_HOLDOVER = 0) && true)
  | 1 => true
  | _ => false

/-- Every clause of Obligations.RunTimeAndHoldoverTakeEffect with hypotheses is about some state. -/
theorem witness_RunTimeAndHoldoverTakeEffect :
    (([0, 2]).all (hyps_TickRunAndTimeSetTakeEffect 0 0 (State.reset)) &&
    ([1, 3]).all (hyps_TickRunAndTimeSetTakeEffect 0 (8) (st (fun c => (fun c : Chip => { c with ticked := true }) (yr 0
      [(1,7),(2,0xFFFFFFFF),(3,40)] (fl 0 Rf.TIME_TICK_CTL_RUN 1 c))))) &&
    ([0, 1]).all (hyps_HoldoverKeepsTimeBase (st (fun c => fl 0 Rf.TIME_CTL_SRC 1 c)))) = true := by
  decide +kernel

/-- The hypotheses of clause `cl_` of ExchangeDisciplinesDieTime in Obligations.DieTimeFollowsDieZeroBySlew. -/
def hyps_ExchangeDisciplinesDieTime (d : Fin 4) (t0 : BitVec 64) (s : State) (cl_ : Nat) : Bool :=
  let b := (s.chip.d d).tb
  let skew := (b.now - t0).toInt
  decide (d ≠ 0) && decide (up s.chip d = true) && decide (reaches s.chip 0 d = true) &&
  match cl_ with
  | 0 => (decide (b.taken = false) && true)
  | 1 => (decide (b.taken = true) && true)
  | _ => false

/-- The hypotheses of clause `cl_` of SlewCorrectsOneTqIn256 in Obligations.DieTimeFollowsDieZeroBySlew. -/
def hyps_SlewCorrectsOneTqIn256 (b : TimeBase) (cl_ : Nat) : Bool :=

  match cl_ with
  | 1 => (decide ((slewTq b).now ≠ b.now + 1) && true)
  | _ => false

/-- Every clause of Obligations.DieTimeFollowsDieZeroBySlew with hypotheses is about some state. -/
theorem witness_DieTimeFollowsDieZeroBySlew :
    (([0]).all (hyps_ExchangeDisciplinesDieTime (1) (500) (st (fun c => ring c))) &&
    ([1]).all (hyps_ExchangeDisciplinesDieTime (2) (999) (st (fun c => (fun c : Chip => c.upd 2 fun x =>
      { x with tb := { x.tb with now := 1000, taken := true } }) (ring c)))) &&
    ([1]).all (hyps_SlewCorrectsOneTqIn256 ({ now := 9, owe := 3, since := 256 }))) = true := by
  decide +kernel

/-- The hypotheses of clause `cl_` of MarksAreHeldOrTheTickIsMissed in Obligations.TicksStartFromTheirMarks. -/
def hyps_MarksAreHeldOrTheTickIsMissed (d : Fin 4) (m : Mark) (s : State) (cl_ : Nat) : Bool :=
  let k0 := (s.chip.d d).tick
  decide (d ≠ 0) && decide (up s.chip d = true) &&
  match cl_ with
  | 0 => (decide (m ∈ (s.chip.d d).marks) && (decide (k0.mark = none) && (decide (k0.waiting = false) && (decide
      ((k0.phase = .idle ∨ 0 < (m.num - k0.num).toNat ∧ (m.num - k0.num).toNat < 2 ^ 47)) && true))))
  | 1 => (decide (k0.waiting = true) && (decide (51 ≤ elapsed s.chip d) && true))
  | _ => false

/-- The hypotheses of clause `cl_` of TickStartsAsItsMarkSays in Obligations.TicksStartFromTheirMarks. -/
def hyps_TickStartsAsItsMarkSays (d : Fin 4) (m : Mark) (fec : List Nat) (s : State) (cl_ : Nat) : Bool :=

  decide (up s.chip d = true) && decide ((s.chip.d d).tick.mark = some m) && decide (reached s.chip d m.start =
      true) && decide (((s.chip.d d).tick.phase = .idle ∨ (s.chip.d d).tick.phase = .slack)) && decide (m.skip =
      false) && decide (tickAllowed s.chip m.num = true) && decide ((s.chip.d d).yoke.run = false) &&
  match cl_ with
  | 0 => true
  | _ => false

/-- The hypotheses of clause `cl_` of PredictedStartKeepsSetting in Obligations.TicksStartFromTheirMarks. -/
def hyps_PredictedStartKeepsSetting (d : Fin 4) (s : State) (cl_ : Nat) : Bool :=
  let k0 := (s.chip.d d).tick
  decide (d ≠ 0) && decide (up s.chip d = true) && decide (k0.mark = none) && decide (k0.phase = .slack) && decide
      (k0.extended = false) && decide (k0.skips = 0) && decide (reached s.chip d (k0.start + BitVec.ofNat 64
      k0.set.p) = true) && decide (tickAllowed s.chip (k0.num + 1) = true) &&
  match cl_ with
  | 0 => true
  | _ => false

/-- The hypotheses of clause `cl_` of SkippedTickIsCountedNotStarted in Obligations.TicksStartFromTheirMarks. -/
def hyps_SkippedTickIsCountedNotStarted (m : Mark) (s : State) (cl_ : Nat) : Bool :=

  decide (up s.chip 0 = true) && decide ((s.chip.d 0).tick.mark = some m) && decide (m.skip = true) && decide
      (follows s.chip = false) && decide ((s.chip.d 0).tick.phase = .slack) && decide (reached s.chip 0 m.start =
      true) &&
  match cl_ with
  | 0 => true
  | _ => false

/-- Every clause of Obligations.TicksStartFromTheirMarks with hypotheses is about some state. -/
theorem witness_TicksStartFromTheirMarks :
    (([0]).all (hyps_MarksAreHeldOrTheTickIsMissed (1)
      ({ start := 100000, num := 7, p := 50000, a := 4000, s := 40000, skip := false }) (st (fun c => (fun c : Chip
      => c.upd 1 fun x =>
      { x with marks := [{ start := 100000, num := 7, p := 50000, a := 4000, s := 40000, skip := false }] }) c))) &&
    ([1]).all (hyps_MarksAreHeldOrTheTickIsMissed (1)
      ({ start := 100000, num := 7, p := 50000, a := 4000, s := 40000, skip := false }) (st (fun c => tk 1 (fun t =>
      { t with phase := .acquire, start := 1000, waiting := true }) (tm 1 1051 c)))) &&
    ([0]).all (hyps_TickStartsAsItsMarkSays (1)
      ({ start := 100000, num := 7, p := 50000, a := 4000, s := 40000, skip := false }) [] (st (fun c => yk 1 (fun y
      => { y with l := [(4,5)] }) (tk 1 (fun t =>
      { t with mark := some { start := 100000, num := 7, p := 50000, a := 4000, s := 40000, skip := false } }) (tm 1
      100000 (fl 0 Rf.TIME_TICK_CTL_RUN 1 c)))))) &&
    ([0]).all (hyps_PredictedStartKeepsSetting (1) (st (fun c => tk 1 (fun t =>
      { t with phase := .slack, num := 6, start := 1000 }) (tm 1 101000 (fl 0 Rf.TIME_TICK_CTL_RUN 1 c))))) &&
    ([0]).all (hyps_SkippedTickIsCountedNotStarted
      ({ start := 100000, num := 7, p := 50000, a := 4000, s := 40000, skip := true }) (st (fun c => tk 0 (fun t =>
      { t with phase := .slack, num := 6, mark := some { start := 100000, num := 7, p := 50000, a := 4000, s := 40000, skip := true } })
      (tm 0 100000 c))))) = true := by
  decide +kernel

/-- The hypotheses of clause `cl_` of TickPhasesFollowTheirOffsets. -/
def hyps_TickPhasesFollowTheirOffsets (d : Fin 4) (s : State) (cl_ : Nat) : Bool :=
  let k0 := (s.chip.d d).tick
  let at_ := fun (n : Nat) => k0.start + BitVec.ofNat 64 n
  decide (up s.chip d = true) &&
  match cl_ with
  | 0 => (decide (k0.phase = .acquire) && (decide (k0.set.a ≤ elapsed s.chip d) && true))
  | 1 => (decide (k0.phase = .process) && (decide (k0.set.s ≤ elapsed s.chip d) && (decide (k0.report = none) &&
      (decide (bit s.chip.compat 0 = false) && true))))
  | 2 => (decide (k0.phase = .process) && (decide (k0.report.isSome = true) && (decide (k0.set.p + k0.set.s ≤
      elapsed s.chip d) && true)))
  | 3 => (decide (up s.chip 0 = true) && (decide (d ∈ (beforeStitch s.chip).filter (fun e => (s.chip.d
      e).tick.extended)) && (decide ((∀ e ∈ beforeStitch s.chip, (s.chip.d e).tick.extended = true → overrunners
      s.chip e = [])) && true)))
  | 4 => (decide (k0.phase = .stitch) &&
      (match (k0.stitchAt) with
      | some t => (decide (256 ≤ (s.chip.now d - t).toNat) && true)
      | _ => false))
  | _ => false

/-- Every clause of Obligations.TickPhasesFollowTheirOffsets with hypotheses is about some state. -/
theorem witness_TickPhasesFollowTheirOffsets :
    (([2, 3]).all (hyps_TickPhasesFollowTheirOffsets 0 (st (fun c => tk 0 (fun t =>
      { t with phase := .process, start := 1000, extended := true, report := some true }) (tm 0 191000 c)))) &&
    ([0]).all (hyps_TickPhasesFollowTheirOffsets 0 (st (fun c => tk 0 (fun t =>
      { t with phase := .acquire, start := 1000 }) (tm 0 21000 c)))) &&
    ([1]).all (hyps_TickPhasesFollowTheirOffsets 0 (st (fun c => tk 0 (fun t =>
      { t with phase := .process, start := 1000 }) (tm 0 91000 c)))) &&
    ([4]).all (hyps_TickPhasesFollowTheirOffsets 0 (st (fun c => tk 0 (fun t =>
      { t with phase := .stitch, start := 1000, stitchAt := some 91000 }) (tm 0 91256 c))))) = true := by
  decide +kernel

/-- The hypotheses of clause `cl_` of RecordReachesDieZero in Obligations.RecordsTravelInOrderToTheirRing. -/
def hyps_RecordReachesDieZero (d : Fin 4) (r : Rec) (rs : List Rec) (s : State) (cl_ : Nat) : Bool :=

  decide (alive s.chip = true) && decide ((d = 0 ∨ reaches s.chip d 0 = true)) && decide ((s.chip.d d).fly = r ::
      rs) && decide (r.kind ≠ K.STIM) &&
  match cl_ with
  | 0 => (decide (kindClass r.kind ≠ .d) && (decide (kindLogged r.kind = false) && (decide (traced s.chip r = false)
      && (decide (ringsOf r ≠ []) && (decide ((s.chip.now 0 - r.time).toNat ≤ s.chip.fld 0 Rf.EVT_MERGE_W) &&
      true)))))
  | 1 => (decide (kindClass r.kind = .d) && (decide (r.kind < 256) && true))
  | _ => false

/-- The hypotheses of clause `cl_` of HeldRecordsStayOrdered in Obligations.RecordsTravelInOrderToTheirRing. -/
def hyps_HeldRecordsStayOrdered (r : Rec) (qs : List Rec) (cl_ : Nat) : Bool :=

  decide (qs.Pairwise (fun a b => recBefore b a = false)) &&
  match cl_ with
  | 0 => true
  | _ => false

/-- The hypotheses of clause `cl_` of ReleasedRecordIsWrittenOrCounted in Obligations.RecordsTravelInOrderToTheirRing. -/
def hyps_ReleasedRecordIsWrittenOrCounted (r : Rec) (rs : List Rec) (t : Fin 256) (s : State) (cl_ : Nat) : Bool :=
  let f := fun (f : Fld) => s.chip.fld 0 (f.at t.val)
  let prod := f Rf.EVT_RING_PROD_PROD
  let log := f Rf.EVT_RING_CTL_LOG2SIZE
  let full := (prod + 2 ^ 32 - f Rf.EVT_RING_CONS_CONS) % 2 ^ 32 = 2 ^ log
  let base := f Rf.EVT_RING_BASE_LO_BASE + 2 ^ 32 * f Rf.EVT_RING_BASE_HI_BASE
  decide (alive s.chip = true) && decide (s.chip.merge = r :: rs) && decide (reached s.chip 0 (r.time + BitVec.ofNat
      64 (s.chip.fld 0 Rf.EVT_MERGE_W)) = true) && decide (ringsOf r = [t]) &&
  match cl_ with
  | 0 => (decide (f Rf.EVT_RING_CTL_ENABLE = 0 ∨ full) && true)
  | 1 => (decide (f Rf.EVT_RING_CTL_ENABLE = 1) && (decide (¬ full) && (decide (f Rf.EVT_RING_CTL_TARGET = 0) &&
      (decide (compatFor s.chip t 1 = false) && (decide (base + 16 * 2 ^ 16 < 2 ^ 64) && (decide (log ≤ 16) &&
      true))))))
  | _ => false

/-- Every clause of Obligations.RecordsTravelInOrderToTheirRing with hypotheses is about some state. -/
theorem witness_RecordsTravelInOrderToTheirRing :
    (([0]).all (hyps_RecordReachesDieZero (2)
      ({ time := 50, src := 3, kind := K.USER, ten := 2, unc := false, basted := false, g2 := false, pay := 5 }) []
      (st (fun c => tm 0 100 ((fun c : Chip => c.upd 2 fun x =>
      { x with fly := [{ time := 50, src := 3, kind := K.USER, ten := 2, unc := false, basted := false, g2 := false, pay := 5 }] })
      (ring c))))) &&
    ([1]).all (hyps_RecordReachesDieZero 0
      ({ time := 50, src := 3, kind := K.ILKFAULT, ten := 2, unc := false, basted := false, g2 := false, pay := 5 })
      [] (st (fun c => tm 0 100 ((fun c : Chip => c.upd 0 fun x =>
      { x with fly := [{ time := 50, src := 3, kind := K.ILKFAULT, ten := 2, unc := false, basted := false, g2 := false, pay := 5 }] })
      (ring c))))) &&
    ([0]).all (hyps_HeldRecordsStayOrdered
      ({ time := 50, src := 3, kind := K.USER, ten := 2, unc := false, basted := false, g2 := false, pay := 5 })
      ([{ time := 50, src := 3, kind := K.USER, ten := 2, unc := false, basted := false, g2 := false, pay := 5 }])) &&
    ([0]).all (hyps_ReleasedRecordIsWrittenOrCounted
      ({ time := 50, src := 3, kind := K.PLOUT, ten := 2, unc := false, basted := false, g2 := false, pay := 5 }) []
      (2) (st (fun c => (fun c : Chip =>
      { c with merge := [{ time := 50, src := 3, kind := K.PLOUT, ten := 2, unc := false, basted := false, g2 := false, pay := 5 }] })
      (fl 0 (Rf.EVT_RING_BASE_LO_BASE.at 2) 4096 (fl 0 (Rf.EVT_RING_CTL_LOG2SIZE.at 2) 4 (tm 0 100000000 (fl 0
      (Rf.EVT_RING_CTL_ENABLE.at 2) 0 c))))))) &&
    ([1]).all (hyps_ReleasedRecordIsWrittenOrCounted
      ({ time := 50, src := 3, kind := K.PLOUT, ten := 2, unc := false, basted := false, g2 := false, pay := 5 }) []
      (2) (st (fun c => fl 0 (Rf.EVT_RING_PROD_PROD.at 2) 15 ((fun c : Chip =>
      { c with merge := [{ time := 50, src := 3, kind := K.PLOUT, ten := 2, unc := false, basted := false, g2 := false, pay := 5 }] })
      (fl 0 (Rf.EVT_RING_BASE_LO_BASE.at 2) 4096 (fl 0 (Rf.EVT_RING_CTL_LOG2SIZE.at 2) 4 (tm 0 100000000 (fl 0
      (Rf.EVT_RING_CTL_ENABLE.at 2) 1 c))))))))) = true := by
  decide +kernel

/-- The hypotheses of clause `cl_` of EventRegistersTakeWrites in Obligations.EventRegistersAndTraceTakeEffect. -/
def hyps_EventRegistersTakeWrites (t : Fin 256) (i : Fin 256) (n : Fin 8) (w : Fin 257) (v : Word) (s : State) (cl_
      : Nat) : Bool :=
  let bad := s.chip.fld 0 (Rf.EVT_RING_BASE_LO_BASE.at i.val) % 64 ≠ 0 ∨ getBits v 0 5 < 4 ∨ 16 < getBits v 0 5
  let alarm := Rf.EVT_ALARM_KINDS.at n.val
  match cl_ with
  | 0 => (decide (MayWrite s.chip 0 0x18 t) && true)
  | 1 => (decide (up s.chip 0 = true) && true)
  | 2 => (decide (up s.chip 0 = true) && (decide (t ≠ 0) && true))
  | 3 => (decide (up s.chip 0 = true) && true)
  | 4 => (decide (alive s.chip = true) && (decide (mapGet (fun _ => false) s.chip.pba w.val = true) && true))
  | _ => false

/-- The hypotheses of clause `cl_` of TracePortSendsOldestRecord in Obligations.EventRegistersAndTraceTakeEffect. -/
def hyps_TracePortSendsOldestRecord (e : Rec) (es : List Rec) (s : State) (cl_ : Nat) : Bool :=

  decide (tracePins s.chip = true) && decide (s.chip.trace.started = true) && decide (s.chip.trace.packets < 256) &&
      decide (s.chip.trace.fifo = e :: es) && decide (s.chip.trace.lostPort = 0) &&
  match cl_ with
  | 0 => true
  | _ => false

/-- Every clause of Obligations.EventRegistersAndTraceTakeEffect with hypotheses is about some state. -/
theorem witness_EventRegistersAndTraceTakeEffect :
    (([0, 1, 3, 4]).all (hyps_EventRegistersTakeWrites 0 (5) 1 (7) (0x44) (st (fun c => (fun c : Chip =>
      { c with pba := [(7, true)], msix := [(31, 1)] }) (fl 0 (Rf.EVT_ALARM_KINDS.at 1) 0xFF00FF00 (fl 0
      (Rf.EVT_RING_BASE_LO_BASE.at 5) 64 c))))) &&
    ([2]).all (hyps_EventRegistersTakeWrites (9) (5) 1 0 (0x53) (State.reset)) &&
    ([0]).all (hyps_TracePortSendsOldestRecord
      ({ time := 50, src := 3, kind := K.USER, ten := 2, unc := false, basted := false, g2 := false, pay := 5 }) []
      (st (fun c => (fun c : Chip =>
      { c with trace := { c.trace with started := true, packets := 255, fifo := [{ time := 50, src := 3, kind := K.USER, ten := 2, unc := false, basted := false, g2 := false, pay := 5 }] } })
      (fl 0 Rf.CFG_STAT_STATE 2 (fl 0 Rf.PLACKET_TR_CTL_DEST 1 ((fun c : Chip => c.setNet 0 0 { src := 0 }) (fl 0
      Rf.CLK_CKIN_STAT_PRESENT 1 c)))))))) = true := by
  decide +kernel

/-- The hypotheses of clause `cl_` of AbsentOrUngrantedAccessDoesNothing in Obligations.UnpermittedAccessesHaveNoEffect. -/
def hyps_AbsentOrUngrantedAccessDoesNothing (d : Fin 4) (t : Fin 256) (u : Nat) (off : Nat) (v : Word) (s : State)
      (cl_ : Nat) : Bool :=

  decide (u < 28) && decide (off < 2 ^ 24) && decide (off % 4 = 0) && decide (up s.chip d = true) &&
  match cl_ with
  | 0 => (decide (present s.chip d u = false) && true)
  | 1 => (decide (present s.chip d u = true) && (decide (mayWrite s.chip d t u off = false) && true))
  | 2 => (decide (present s.chip d u = true) && (decide (mayRead s.chip d t u off = false) && true))
  | 3 => true
  | 4 => true
  | _ => false

/-- The hypotheses of clause `cl_` of BadRegisterAddressIsAccessFault in Obligations.UnpermittedAccessesHaveNoEffect. -/
def hyps_BadRegisterAddressIsAccessFault (t : Fin 256) (addr : BitVec 40) (bytes : Nat) (v : Word) (s : State) (cl_
      : Nat) : Bool :=

  decide (up s.chip (addrDie addr) = true) && decide (devPlace addr bytes = none) &&
  match cl_ with
  | 0 => true
  | 1 => true
  | 2 => true
  | _ => false

/-- Every clause of Obligations.UnpermittedAccessesHaveNoEffect with hypotheses is about some state. -/
theorem witness_UnpermittedAccessesHaveNoEffect :
    (([1, 2, 3, 4]).all (hyps_AbsentOrUngrantedAccessDoesNothing (2) (3) (5) (0x20) 0 (st (fun c => ring c))) &&
    ([0]).all (hyps_AbsentOrUngrantedAccessDoesNothing (2) (3) (9) (4) 0 State.reset) &&
    ([0, 1, 2]).all (hyps_BadRegisterAddressIsAccessFault (3) (0x3F02000006) (4) 0 State.reset)) = true := by
  decide +kernel

/-- The hypotheses of clause `cl_` of SupervisorRegistersTakeWrites in Obligations.SupervisorSettingsTakeWrites. -/
def hyps_SupervisorRegistersTakeWrites (d : Fin 4) (t : Fin 256) (n : Fin 256) (i : BitVec 14) (q : Fin 1024) (v :
      Word) (s : State) (cl_ : Nat) : Bool :=

  decide (up s.chip d = true) &&
  match cl_ with
  | 0 => (decide (s.chip.ticked = false) && true)
  | 1 => (decide (s.chip.ticked = true) && true)
  | 2 => (decide (t ≠ 0) && true)
  | 3 => (decide (n ≠ 0) && true)
  | 4 => (decide (t ≠ 0) && true)
  | 5 => true
  | 6 => (decide (t ≠ 0) && true)
  | 7 => true
  | _ => false

/-- The hypotheses of clause `cl_` of RemoteTimeoutStaysBelowPeriod in Obligations.SupervisorSettingsTakeWrites. -/
def hyps_RemoteTimeoutStaysBelowPeriod (v : Word) (s : State) (cl_ : Nat) : Bool :=
  let n := getBits v 0 16
  decide (up s.chip 0 = true) && decide (s.chip.settings = []) &&
  match cl_ with
  | 0 => (decide (4 ≤ n) && (decide (n * 1000 < (s.chip.d 0).tick.set.p) && true))
  | 1 => (decide (n < 4 ∨ (s.chip.d 0).tick.set.p ≤ n * 1000) && true)
  | _ => false

/-- Every clause of Obligations.SupervisorSettingsTakeWrites with hypotheses is about some state. -/
theorem witness_SupervisorSettingsTakeWrites :
    (([0, 2, 3, 4, 5, 6, 7]).all (hyps_SupervisorRegistersTakeWrites (1) (4) (5) (16383) (7) (0x3F) State.reset) &&
    ([1]).all (hyps_SupervisorRegistersTakeWrites (1) (255) (255) (0) (7) (0xFFFFFFFF) (st (fun c => fl 1
      (Rf.YOKE_RD2_LIMIT_LO.at 7) 128 (fl 1 (Rf.YOKE_RD0_BASE_LO.at 7) 64 ((fun c : Chip =>
      { c with ticked := true }) c))))) &&
    ([0]).all (hyps_RemoteTimeoutStaysBelowPeriod (4) State.reset) &&
    ([1]).all (hyps_RemoteTimeoutStaysBelowPeriod (3) State.reset)) = true := by
  decide +kernel

/-- The hypotheses of clause `cl_` of TimeReadLatchesHighWord in Obligations.HostReadsAndWritesReachTheirTarget. -/
def hyps_TimeReadLatchesHighWord (d : Fin 4) (tick : Bool) (s : State) (cl_ : Nat) : Bool :=
  let off := if tick then 0x34 else 4
  let key := 0x19 * 1048576 + off
  let val := if tick then (s.chip.d d).tick.num.toNat else (s.chip.now d).toNat
  decide (up s.chip d = true) && decide (s.chip.latchAt d key = none) &&
  match cl_ with
  | 0 => true
  | _ => false

/-- The hypotheses of clause `cl_` of HostAccessesReachTheirTarget in Obligations.HostReadsAndWritesReachTheirTarget. -/
def hyps_HostAccessesReachTheirTarget (u : Nat) (off : Nat) (bytes : Nat) (v : Word) (w : Word) (b : BitVec 28)
      (data : List Byte) (s : State) (cl_ : Nat) : Bool :=
  let bar := u * 2 ^ 20 + off
  let o := b.toNat % 2 ^ 26
  decide (u < 28) && decide (off < 2 ^ 20) && decide (off % 4 = 0) && decide (linkUp s.chip = true) &&
  match cl_ with
  | 0 => true
  | 1 => true
  | 2 => true
  | 3 => (decide (2 ^ 28 ≤ w.toNat) && true)
  | 4 => true
  | 5 => (decide (b.toNat < 2 ^ 26) && (decide (hostLanesAt s.chip 0 false o bytes = none) && true))
  | 6 => (decide (b.toNat < 2 ^ 26) &&
      (match (hostLanesAt s.chip 0 false o bytes) with
      | some (m, l) =>
        (match ((hostReadLanes (bytes / 2) s.chip 0 m l (bytes / 2)).2) with
          | some bs => true
          | _ => false)
      | _ => false))
  | 7 => (decide (b.toNat < 2 ^ 26) &&
      (match (hostLanesAt s.chip 0 true o data.length) with
      | some (m, l) => true
      | _ => false))
  | 8 => (decide (2 ^ 26 ≤ b.toNat) && true)
  | _ => false

/-- The hypotheses of clause `cl_` of SmbusTransactionsStartAndEnd in Obligations.HostReadsAndWritesReachTheirTarget. -/
def hyps_SmbusTransactionsStartAndEnd (t : Fin 256) (v : Word) (nack : Bool) (pecerr : Bool) (data : List Byte) (s :
      State) (cl_ : Nat) : Bool :=
  let starts := fun (c : Instr) (prot : Nat) => Reaches c s fun k =>
      k.fld 0 Rf.HOST_SMB_STAT_BUSY = 1 ∧ k.fld 0 Rf.HOST_SMB_CTL_PROT = prot ∧
        k.fld 0 Rf.HOST_SMB_CTL_ADDR = getBits v 0 7 ∧ k.fld 0 Rf.HOST_SMB_CTL_CMD = getBits v 16 8
  match cl_ with
  | 0 => (decide (MayWrite s.chip 0 0x17 t) && (decide (s.chip.fld 0 Rf.HOST_SMB_STAT_BUSY = 0) && true))
  | 1 => (decide (MayWrite s.chip 0 0x17 t) && (decide (s.chip.fld 0 Rf.HOST_SMB_STAT_BUSY = 1) && true))
  | 2 => (decide (up s.chip 0 = true) && (decide (s.chip.fld 0 Rf.HOST_SMB_STAT_BUSY = 1) && true))
  | _ => false

/-- Every clause of Obligations.HostReadsAndWritesReachTheirTarget with hypotheses is about some state. -/
theorem witness_HostReadsAndWritesReachTheirTarget :
    (([0]).all (hyps_TimeReadLatchesHighWord (1) false (st (fun c => tm 1 0x123456789A c))) &&
    ([0, 1, 2, 3, 4, 6, 7]).all (hyps_HostAccessesReachTheirTarget (2) (56) (4) (5) (0x10000000) (0) ([1,2,3,4]) (st
      (fun c => fl 0 Rf.HOST_LINK_UP 1 c))) &&
    ([5]).all (hyps_HostAccessesReachTheirTarget (25) (4) (4) (5) (0x10000000) (1) ([1]) (st (fun c => fl 0
      Rf.HOST_LINK_UP 1 c))) &&
    ([8]).all (hyps_HostAccessesReachTheirTarget (2) (56) (4) (5) (0x10000000) (0x4000000) ([1,2,3,4]) (st (fun c =>
      ring (fl 0 Rf.HOST_LINK_UP 1 c)))) &&
    ([1, 2]).all (hyps_SmbusTransactionsStartAndEnd 0 0 (true) false [] (st (fun c => fl 0 Rf.HOST_SMB_STAT_BUSY 1 c))) &&
    ([0]).all (hyps_SmbusTransactionsStartAndEnd 0 (0x00550012) false false [] State.reset)) = true := by
  decide +kernel

/-- The hypotheses of clause `cl_` of QueueRegistersTakeWrites in Obligations.HostQueuesStartAndCompleteCommands. -/
def hyps_QueueRegistersTakeWrites (t : Fin 256) (v : Word) (s : State) (cl_ : Nat) : Bool :=
  let x := s.chip.host t
  let log := clampN 4 12 (getBits v 0 4)
  decide (up s.chip 0 = true) &&
  match cl_ with
  | 0 => (decide (tenEnabled s.chip t = true) && (decide (x.sqEn = true) && (decide (v.toNat < 2 ^ x.sqLog) &&
      true)))
  | 1 => (decide (tenEnabled s.chip t = true) && (decide ((x.sqEn = false ∨ 2 ^ x.sqLog ≤ v.toNat)) && true))
  | 2 => (decide (tenEnabled s.chip t = true) && (decide (x.cqEn = true) && (decide (v.toNat < 2 ^ x.cqLog) &&
      true)))
  | 3 => (decide (x.sqEn = false) && (decide (getBits v 4 1 = 1) && true))
  | 4 => (decide (x.sqEn = false) && (decide (getBits v 4 1 = 0) && true))
  | 5 => (decide (x.cqEn = false) && (decide (getBits v 4 1 = 1) && true))
  | _ => false

/-- The hypotheses of clause `cl_` of HostCommandsStartAndComplete in Obligations.HostQueuesStartAndCompleteCommands. -/
def hyps_HostCommandsStartAndComplete (t : Fin 256) (c : List Word) (s : State) (i : Nat) (cl_ : Nat) : Bool :=
  let x := s.chip.host t
  let d := cmdDie c
  let j := cmdMoveJob t c
  let ready := headCmd s.chip t = some c ∧ badWord c = none ∧ tenEnabled s.chip t = true ∧ x.cmds = [c] ∧
      up s.chip d = true
  match cl_ with
  | 0 => (decide (canFetch s.chip t = true) && (decide (x.cmds = []) && (decide (badWord c = none) && true)))
  | 1 => (decide (canFetch s.chip t = true) && (decide (x.cmds = []) && (decide (badWord c = some i) && (decide
      (x.moving = false) && (decide ((cmdFence c = true → x.open_ = 0)) && true)))))
  | 2 => (decide (ready) && (decide (cmdOp c = 0) && true))
  | 3 => (decide (ready) && (decide (cmdOp c = 1) && (decide ((s.chip.workOf d t).length < 16) && true)))
  | 4 => (decide (ready) && (decide (cmdOp c = 5) && (decide ((s.chip.d d).moveQ = []) && (decide (s.chip.moveAt d
      (s.chip.d d).moveTurn = none) && (decide ((s.chip.d d).moveTurn < 2) && (decide (0 < j.len) && (decide
      ((moveLanes s.chip d j).isSome = true) && (decide (moveBytesOk s.chip d j = true) && true))))))))
  | _ => false

/-- The hypotheses of clause `cl_` of CompletionWrittenWhileQueueHasRoom in Obligations.HostQueuesStartAndCompleteCommands. -/
def hyps_CompletionWrittenWhileQueueHasRoom (t : Fin 256) (q : Compl) (qs : List Compl) (s : State) (cl_ : Nat) :
      Bool :=
  let x := s.chip.host t
  let next := (x.cqTail + 1) % 2 ^ x.cqLog
  decide (linkUp s.chip = true) && decide (x.compl = q :: qs) && decide (x.cqEn = true) &&
  match cl_ with
  | 0 => (decide (next ≠ x.cqHead) && (decide (x.cmds = []) && (decide (q.irq = false) && true)))
  | 1 => (decide (next = x.cqHead) && true)
  | _ => false

/-- Every clause of Obligations.HostQueuesStartAndCompleteCommands with hypotheses is about some state. -/
theorem witness_HostQueuesStartAndCompleteCommands :
    (([1, 3, 5]).all (hyps_QueueRegistersTakeWrites (3) (0x3C) (st (fun c => fl 0 (Rf.YOKE_TEN_CTL_ENABLE.at 3) 1 c))) &&
    ([0, 2]).all (hyps_QueueRegistersTakeWrites (3) (15) (st (fun c => (fun c : Chip => c.setHost 3
      { sqEn := true, sqHead := 2, sqTail := 5, cqEn := true }) (fl 0 (Rf.YOKE_TEN_CTL_ENABLE.at 3) 1 c)))) &&
    ([4]).all (hyps_QueueRegistersTakeWrites (3) (0x0F) (st (fun c => fl 0 (Rf.YOKE_TEN_CTL_ENABLE.at 3) 1 c))) &&
    ([0]).all (hyps_HostCommandsStartAndComplete (3) ([0x00050000, 0, 0, 0, 0, 0, 0, 0, 0, 0, 0, 0, 0, 0, 0, 0]) (st
      (fun c => (fun c : Chip => c.setHost 3 { sqEn := true, sqHead := 2, sqTail := 5, cqEn := true }) (fl 0
      Rf.HOST_LINK_UP 1 (fl 0 (Rf.YOKE_TEN_CTL_ENABLE.at 3) 1 c)))) 0) &&
    ([1]).all (hyps_HostCommandsStartAndComplete (3) ([0x00050000, 0, 1, 0, 0, 0, 0, 0, 0, 0, 0, 0, 0, 0, 0, 0]) (st
      (fun c => (fun c : Chip => c.setHost 3 { sqEn := true, sqHead := 2, sqTail := 5, cqEn := true }) (fl 0
      Rf.HOST_LINK_UP 1 (fl 0 (Rf.YOKE_TEN_CTL_ENABLE.at 3) 1 c)))) (2)) &&
    ([2]).all (hyps_HostCommandsStartAndComplete (3) ([0x00050000, 0, 0, 0, 0, 0, 0, 0, 0, 0, 0, 0, 0, 0, 0, 0]) (st
      (fun c => (fun c : Chip => c.setHost 3
      { cmds := [[0x00050000, 0, 0, 0, 0, 0, 0, 0, 0, 0, 0, 0, 0, 0, 0, 0]] }) (fl 0 Rf.HOST_LINK_UP 1 (fl 0
      (Rf.YOKE_TEN_CTL_ENABLE.at 3) 1 c)))) 0) &&
    ([3]).all (hyps_HostCommandsStartAndComplete (3) ([0x00060101, 0, 0x00200010, 100, 1, 2, 3, 4, 0, 0, 0, 0, 0, 0, 0,
      0]) (st (fun c => (fun c : Chip => c.setHost 3
      { cmds := [[0x00060101, 0, 0x00200010, 100, 1, 2, 3, 4, 0, 0, 0, 0, 0, 0, 0, 0]] }) (fl 0 Rf.HOST_LINK_UP 1
      (fl 0 (Rf.YOKE_TEN_CTL_ENABLE.at 3) 1 c)))) 0) &&
    ([4]).all (hyps_HostCommandsStartAndComplete (0) ([0x00070005, 0, 1, 0, 0x1000, 0, 0, 0x20, 4, 0, 0, 0, 0, 0, 0, 0])
      (st (fun c => (fun c : Chip => c.setHost 0
      { cmds := [[0x00070005, 0, 1, 0, 0x1000, 0, 0, 0x20, 4, 0, 0, 0, 0, 0, 0, 0]] }) (fl 0 Rf.HOST_LINK_UP 1 c)))
      0) &&
    ([0]).all (hyps_CompletionWrittenWhileQueueHasRoom (3)
      ({ cid := 5, status := 9, die := 2, detail := 3, irq := false }) [] (st (fun c => (fun c : Chip => c.setHost 3
      { sqEn := true, sqHead := 2, sqTail := 5, cqEn := true, compl := [{ cid := 5, status := 9, die := 2, detail := 3, irq := false }], cqBase := 0x1000, cqTail := 15, cqHead := 3 })
      (fl 0 Rf.HOST_LINK_UP 1 c)))) &&
    ([1]).all (hyps_CompletionWrittenWhileQueueHasRoom (3)
      ({ cid := 5, status := 9, die := 2, detail := 3, irq := false }) [] (st (fun c => (fun c : Chip => c.setHost 3
      { sqEn := true, sqHead := 2, sqTail := 5, cqEn := true, compl := [{ cid := 5, status := 9, die := 2, detail := 3, irq := false }], cqBase := 0x1000, cqTail := 15, cqHead := 0 })
      (fl 0 Rf.HOST_LINK_UP 1 c))))) = true := by
  decide +kernel

/-- The hypotheses of clause `cl_` of MoverStartsAndCompletes in Obligations.MoversAndFabricPortsServeInOrder. -/
def hyps_MoverStartsAndCompletes (t : Fin 256) (d : Fin 4) (m : Fin 4) (v : Word) (data : List Byte) (s : State)
      (cl_ : Nat) : Bool :=
  let s1 := ((s.chip.setFld d (Rf.SPAD_MOV_CTL_DIR.at m.val) (getBits v 0 1)).setFld d
      (Rf.SPAD_MOV_CTL_LAYOUT.at m.val) (getBits v 1 1)).setFld d (Rf.SPAD_MOV_CTL_TENANT.at m.val) (getBits v 8 8)
  let j := regMove s1 d m.val
  decide (MayWrite s.chip d 5 t) && decide (2 ≤ m.val) && decide (s.chip.flag d (Rf.SPAD_MOV_STAT_BUSY.at m.val) =
      false) &&
  match cl_ with
  | 0 => (decide (bit v.toNat 31 = false) && true)
  | 1 => (decide (bit v.toNat 31 = true) && (decide (0 < j.len) && (decide ((moveLanes s1 d j).isSome = true) &&
      (decide (moveBytesOk s1 d j = true) && true))))
  | 2 =>
      (match (s.chip.moveAt d m.val) with
      | some q =>
        (decide (q.cmd = none) && (decide (q.out = true) &&
          (match (laneAt (q.lane % 2 ^ 38)) with
          | some (mem, l) =>
            (match (banksReady s.chip d mem (l / 4) q.len) with
              | (r, true) =>
                (decide ((s.chip.d d).moveQ = []) && (decide ((readRun q.len r d mem (l / 4)).2.2 = none) && true))
              | _ => false)
          | _ => false)))
      | _ => false)
  | _ => false

/-- The hypotheses of clause `cl_` of FabricPortsServeOldestRequest in Obligations.MoversAndFabricPortsServeInOrder. -/
def hyps_FabricPortsServeOldestRequest (d : Fin 4) (p : Fin 16) (q : Fin 8) (wr : Bool) (lane : BitVec 38) (en :
      BitVec 4) (data : BitVec 56) (addr : BitVec 40) (den : BitVec 64) (bytes : List Byte) (r : PortReq) (rs : List
      PortReq) (e : PortRead) (es : List PortRead) (s : State) (cl_ : Nat) : Bool :=
  let c := s.chip
  let new : PortReq := { wr := wr, lane := lane.toNat, en := en.toNat, data := data }
  let t := portTenant c d (sportGrain p.val) (Rf.CLK_SPORT_TENANT.at p.val)
  let open_ := portTakes c d (sportGrain p.val) (Rf.CLK_SPORT_EN.at p.val)
  decide (up s.chip d = true) &&
  match cl_ with
  | 0 => (decide (open_ = true) && (decide ((c.sportQ d p.val).length < 32) && true))
  | 1 => (decide ((open_ = false ∨ 32 ≤ (c.sportQ d p.val).length)) && true)
  | 2 => (decide (c.sportQ d p.val = r :: rs) && (decide (sportWord c d t r = none) && true))
  | 3 => (decide (c.sportQ d p.val = r :: rs) &&
      (match (sportWord c d t r) with
      | some (m, w) =>
        (decide (r.wr = true) && (decide ((writeMem c d m w r.en r.data .plain).2 = .done) && true))
      | _ => false))
  | 4 => (decide (c.sportQ d p.val = r :: rs) &&
      (match (sportWord c d t r) with
      | some (m, w) =>
        (decide (r.wr = false) &&
          (match ((readMem c d m w 15 .far).2) with
          | .val x b => true
          | _ => false))
      | _ => false))
  | 5 => (decide ((portTakes c d (dportGrain q.val) (Rf.CLK_DPORT_EN.at q.val) = false ∨ den = 0)) && true)
  | 6 => true
  | 7 => (decide (c.dportQ d q.val = e :: es) && (match (e.data) with | .bytes l => true | _ => false))
  | 8 => (decide (c.dportQ d q.val = e :: es) && (decide (e.data = .none) && true))
  | _ => false

/-- Every clause of Obligations.MoversAndFabricPortsServeInOrder with hypotheses is about some state. -/
theorem witness_MoversAndFabricPortsServeInOrder :
    (([0, 2]).all (hyps_MoverStartsAndCompletes 0 0 (3) 0 [] (st (fun c => fl 0 Rf.DRAM_CTL_EN 1 ((fun c : Chip => c.upd
      0 fun x =>
      { x with moves := [(3, some { ten := 0, cmd := none, out := true, expanded := false, lane := 0x2000000000, byte := 0x1000, len := 4 })] })
      ((fun c : Chip => [0, 1, 2, 3].foldl (fun c i => c.setWord 0 .spad i
      { data := BitVec.ofNat 56 (i + 5), written := true }) c) c))))) &&
    ([1]).all (hyps_MoverStartsAndCompletes 0 0 (3) (0x80000001) [] (st (fun c => fl 0 Rf.DRAM_CTL_EN 1 (fl 0
      (Rf.SPAD_MOV_LANE_HI_LANE.at 3) 0x20 (fl 0 (Rf.SPAD_MOV_BYTE_LO_ADDR.at 3) 0x1000 (fl 0
      (Rf.SPAD_MOV_LEN_WORDS.at 3) 4 c)))))) &&
    ([1, 2, 5, 6]).all (hyps_FabricPortsServeOldestRequest (1) (3) (2) false 0 0 0 0 0 []
      ({ wr := false, lane := 0, en := 15, data := 77 }) (List.replicate 31
      { wr := false, lane := 0, en := 15, data := 77 }) ({ wr := false, id := none, data := .none, ten := 0 }) []
      (st (fun c => (fun c : Chip => c.setSportQ 1 3 (List.replicate 32
      { wr := false, lane := 0, en := 15, data := 77 })) (fl 1 (Rf.CLK_SPORT_EN.at 3) 1 c)))) &&
    ([0]).all (hyps_FabricPortsServeOldestRequest (1) (3) (2) (true) (0x2000000000) (15) 0 0 0 []
      ({ wr := false, lane := 0, en := 15, data := 77 }) [] ({ wr := false, id := none, data := .none, ten := 0 })
      [] (st (fun c => fl 1 (Rf.CLK_SPORT_EN.at 3) 1 c))) &&
    ([3]).all (hyps_FabricPortsServeOldestRequest (1) (3) (2) false 0 0 0 0 0 []
      ({ wr := true, lane := 0x2000000004, en := 15, data := 77 }) []
      ({ wr := false, id := none, data := .none, ten := 0 }) [] (st (fun c => (fun c : Chip => c.setSportQ 1 3
      [{ wr := true, lane := 0x2000000004, en := 15, data := 77 }]) c))) &&
    ([4]).all (hyps_FabricPortsServeOldestRequest (1) (3) (2) false 0 0 0 0 0 []
      ({ wr := false, lane := 0x2000000004, en := 15, data := 77 }) []
      ({ wr := false, id := none, data := .none, ten := 0 }) [] (st (fun c => (fun c : Chip => c.setSportQ 1 3
      [{ wr := false, lane := 0x2000000004, en := 15, data := 77 }]) ((fun c : Chip => [0, 1, 2, 3].foldl (fun c i
      => c.setWord 1 .spad i { data := BitVec.ofNat 56 (i + 5), written := true }) c) c)))) &&
    ([7]).all (hyps_FabricPortsServeOldestRequest (1) (3) (2) false 0 0 0 0 (0xF) []
      ({ wr := false, lane := 0, en := 15, data := 77 }) []
      ({ wr := false, id := some 3, data := .bytes [5], ten := 0 }) [] (st (fun c => (fun c : Chip => c.setDportQ 1
      2 [{ wr := false, id := some 3, data := .bytes [5], ten := 0 }]) (ring c)))) &&
    ([8]).all (hyps_FabricPortsServeOldestRequest (1) (3) (2) false 0 0 0 0 (0xF) []
      ({ wr := false, lane := 0, en := 15, data := 77 }) [] ({ wr := false, id := some 3, data := .none, ten := 0 })
      [] (st (fun c => (fun c : Chip => c.setDportQ 1 2 [{ wr := false, id := some 3, data := .none, ten := 0 }])
      (ring c))))) = true := by
  decide +kernel

/-- The hypotheses of clause `cl_` of EnergySamplesAccumulate in Obligations.EnergyAndReservoirAreCounted. -/
def hyps_EnergySamplesAccumulate (d : Fin 4) (ch : List Nat) (e : Nat) (es : List Nat) (s : State) (cl_ : Nat) :
      Bool :=
  let l := s.chip.led d
  let sum := sampleSum d 0 (ch.take 11)
  decide (up s.chip d = true) &&
  match cl_ with
  | 0 => (decide ((s.chip.now d).toNat % 1000 = 0) && true)
  | 1 => (decide (ticking s.chip d = false) && (decide ((s.chip.now d).toNat % 65536 = 0) && true))
  | 2 => (decide (up s.chip 0 = true) && (decide (l.totals = e :: es) && (decide (resvEn s.chip = false) && true)))
  | 3 => (decide (up s.chip 0 = true) && (decide (l.totals = e :: es) && (decide (resvEn s.chip = true) && (decide
      (0 < s.chip.reservoir) && true))))
  | _ => false

/-- The hypotheses of clause `cl_` of ReservoirLoadsAndAdjusts in Obligations.EnergyAndReservoirAreCounted. -/
def hyps_ReservoirLoadsAndAdjusts (t : Fin 256) (v : Word) (s : State) (cl_ : Nat) : Bool :=

  decide (MayWrite s.chip 0 2 t) &&
  match cl_ with
  | 0 => true
  | 1 => true
  | _ => false

/-- Every clause of Obligations.EnergyAndReservoirAreCounted with hypotheses is about some state. -/
theorem witness_EnergyAndReservoirAreCounted :
    (([0, 1, 3]).all (hyps_EnergySamplesAccumulate (2) [] (5000) ([3]) (st (fun c => (fun c : Chip =>
      { c with reservoir := 4, reservoirRem := 999 }) (fl 0 Rf.LEDGER_CTL_RESV_EN 1 ((fun c : Chip => c.upd 2 fun x
      => { x with ledger := { x.ledger with totals := [5000, 3] } }) c))))) &&
    ([2]).all (hyps_EnergySamplesAccumulate (2) [] (5000) ([3]) (st (fun c => (fun c : Chip => c.upd 2 fun x =>
      { x with ledger := { x.ledger with totals := [5000, 3], unsent := 7 } }) (tm 2 65536 c)))) &&
    ([0, 1]).all (hyps_ReservoirLoadsAndAdjusts 0 (0xFFFFFFFB) (st (fun c => (fun c : Chip =>
      { c with reservoir := 4, reservoirRem := 999 }) ((fun c : Chip => c.upd 2 fun x =>
      { x with ledger := { x.ledger with totals := [5000, 3] } }) (fl 0 Rf.LEDGER_RESV_LO_RESV 0x80000001 c)))))) = true := by
  decide +kernel

/-- The hypotheses of clause `cl_` of ReservationIsAllOrNothing in Obligations.ReservationsCapsAndThermalSteps. -/
def hyps_ReservationIsAllOrNothing (s : Chip) (d : Fin 4) (t : Fin 256) (x : Nat) (cl_ : Nat) : Bool :=

  match cl_ with
  | 0 => (decide (refusal s d t x = none) && true)
  | 1 => (match (refusal s d t x) with | some r => true | _ => false)
  | _ => false

/-- The hypotheses of clause `cl_` of CapsAndThermalStepsAct in Obligations.ReservationsCapsAndThermalSteps. -/
def hyps_CapsAndThermalStepsAct (d : Fin 4) (temps : List (BitVec 12)) (junction : Int) (c : Nat) (t0 : Time) (s :
      State) (cl_ : Nat) : Bool :=
  let l := s.chip.led d
  let level := s.chip.fld d Rf.LEDGER_STAT_CAPLEVEL
  decide (up s.chip d = true) &&
  match cl_ with
  | 0 => (decide (l.capSent = some c) && true)
  | 1 => (decide ((s.chip.now d).toNat % 64000 = 0) && true)
  | 2 => (decide (temps.length = 8) && true)
  | 3 => (decide (s.chip.fld d Rf.LEDGER_STAT_THERMDIV = 1) && (decide (l.hot = some t0) && (decide (1000000 ≤
      (s.chip.now d - t0).toNat) && true)))
  | 4 => (decide (160 ≤ junction) && true)
  | 5 => (decide (junction < 156) && true)
  | _ => false

/-- Every clause of Obligations.ReservationsCapsAndThermalSteps with hypotheses is about some state. -/
theorem witness_ReservationsCapsAndThermalSteps :
    (([0]).all (hyps_ReservationIsAllOrNothing (Chip.reset) (1) (3) (0)) &&
    ([1]).all (hyps_ReservationIsAllOrNothing ((fun c : Chip => c.upd 1 fun x =>
      { x with ledger := { x.ledger with enforce := true, budget := 99 } }) Chip.reset) (1) (3) (100)) &&
    ([0, 1, 2, 4]).all (hyps_CapsAndThermalStepsAct (1) ([100,200,300,400,500,600,700,580]) (160) (900) (0) (st (fun c
      => (fun c : Chip => c.upd 1 fun x => { x with ledger := { x.ledger with capSent := some 900, win := 5 } }) (tm
      1 64000 c)))) &&
    ([3, 5]).all (hyps_CapsAndThermalStepsAct (1) ([100,200,300,400,500,600,700,580]) (155) (900) (1) (st (fun c => (fun
      c : Chip => c.upd 1 fun x => { x with ledger := { x.ledger with hot := some 1 } }) (fl 1
      Rf.LEDGER_STAT_THERMDIV 1 (tm 1 1000001 c)))))) = true := by
  decide +kernel

/-- The hypotheses of clause `cl_` of BasteExchangeGoesInOrder in Obligations.BasteOutcomeIsReachedAndAppliedOnce. -/
def hyps_BasteExchangeGoesInOrder (d : Fin 4) (r : Report) (v : List Verdict) (s : State) (cl_ : Nat) : Bool :=
  let b := (s.chip.d d).baste
  decide (up s.chip d = true) && decide (up s.chip 0 = true) &&
  match cl_ with
  | 0 => (decide (b.reported = false) && (decide (sinceStitch s.chip d 32 = true) && (decide (d ≠ 0) && true)))
  | 1 => (decide (b.reported = false) && (decide (sinceStitch s.chip d 32 = true) && (decide (d = 0) && true)))
  | 2 => (decide (sinceStitch s.chip d 32 = false) && true)
  | 3 => (decide (b.report = some r) && (decide (s.chip.resolve.late.get d = false) && true))
  | 4 => (decide (s.chip.resolve.outcome = none) && (decide ((s.chip.d 0).baste.outcome = none) && (decide
      (sinceStitch s.chip 0 64 = true) && (decide ((∀ e, heardOf s.chip e = true)) && true))))
  | 5 => (decide (s.chip.resolve.outcome = none) && (decide ((s.chip.d 0).baste.outcome = none) && (decide
      (sinceStitch s.chip 0 192 = true) && (decide (heardOf s.chip d = false) && true))))
  | 6 => (decide (b.sent = some v) && true)
  | _ => false

/-- The hypotheses of clause `cl_` of OutcomeAppliesOnce in Obligations.BasteOutcomeIsReachedAndAppliedOnce. -/
def hyps_OutcomeAppliesOnce (d : Fin 4) (c : Fin 192) (vs : List Verdict) (e : Mem × Nat × Fin 256) (es : List (Mem
      × Nat × Fin 256)) (b : BufEntry) (bs : List BufEntry) (s : State) (cl_ : Nat) : Bool :=
  let x := (s.chip.d d).baste
  decide (up s.chip d = true) &&
  match cl_ with
  | 0 => (decide (x.outcome = some vs) && (decide (x.applied = false) && (decide (sinceStitch s.chip d 96 = true) &&
      true)))
  | 1 => (decide (x.applied = true) && true)
  | 2 => (decide (x.back = e :: es) && true)
  | 3 =>
      (match x.drain with
      | b' :: bs' =>
        decide (b' = b ∧ bs' = bs) &&
          (match b.w with
          | .dram a data => decide (addrDie (BitVec.ofNat 40 a) = d) && true
          | _ => false)
      | [] => false)
  | 4 => (decide ((s.chip.cluster d c.val).st = .stopping) && (decide ((s.chip.cluster d c.val).xq = []) && (decide
      ((s.chip.d d).ran = []) && true)))
  | _ => false

/-- Every clause of Obligations.BasteOutcomeIsReachedAndAppliedOnce with hypotheses is about some state. -/
theorem witness_BasteOutcomeIsReachedAndAppliedOnce :
    (([2, 3, 4, 6]).all (hyps_BasteExchangeGoesInOrder (2)
      ({ die := 2, tens := [{ ten := 3, stitch := true, unpick := false, reasons := 0, holds := true }] })
      ([{ ten := 3, stitch := true, reasons := 0 }]) (st (fun c => (fun c : Chip => c.upd 2 fun x =>
      { x with baste := { x.baste with report := some { die := 2, tens := [{ ten := 3, stitch := true, unpick := false, reasons := 0, holds := true }] }, sent := some [{ ten := 3, stitch := true, reasons := 0 }] } })
      ((fun c : Chip =>
      { c with resolve := { c.resolve with got := { q0 := some ({ ({ die := 2, tens := [{ ten := 3, stitch := true, unpick := false, reasons := 0, holds := true }] } : Report) with die := 0 } : Report), q1 := some ({ ({ die := 2, tens := [{ ten := 3, stitch := true, unpick := false, reasons := 0, holds := true }] } : Report) with die := 1 } : Report), q2 := some ({ die := 2, tens := [{ ten := 3, stitch := true, unpick := false, reasons := 0, holds := true }] } : Report), q3 := some ({ ({ die := 2, tens := [{ ten := 3, stitch := true, unpick := false, reasons := 0, holds := true }] } : Report) with die := 3 } : Report) } } })
      (tk 0 (fun t => { t with phase := .stitch, start := 1000, stitchAt := some 91000 }) (tm 0 91064 c)))))) &&
    ([0]).all (hyps_BasteExchangeGoesInOrder (2)
      ({ die := 2, tens := [{ ten := 3, stitch := true, unpick := false, reasons := 0, holds := true }] })
      ([{ ten := 3, stitch := true, reasons := 0 }]) (st (fun c => tk 2 (fun t =>
      { t with phase := .stitch, start := 1000, stitchAt := some 91000 }) (tm 2 91032 c)))) &&
    ([1]).all (hyps_BasteExchangeGoesInOrder 0
      ({ die := 2, tens := [{ ten := 3, stitch := true, unpick := false, reasons := 0, holds := true }] })
      ([{ ten := 3, stitch := true, reasons := 0 }]) (st (fun c => tk 0 (fun t =>
      { t with phase := .stitch, start := 1000, stitchAt := some 91000 }) (tm 0 91032 c)))) &&
    ([5]).all (hyps_BasteExchangeGoesInOrder (3)
      ({ die := 2, tens := [{ ten := 3, stitch := true, unpick := false, reasons := 0, holds := true }] })
      ([{ ten := 3, stitch := true, reasons := 0 }]) (st (fun c => tk 0 (fun t =>
      { t with phase := .stitch, start := 1000, stitchAt := some 91000 }) (tm 0 91192 c)))) &&
    ([1, 2, 3]).all (hyps_OutcomeAppliesOnce 0 0 ([{ ten := 3, stitch := true, reasons := 0 }]) ((.spad, 5, 3)) []
      ({ ten := 3, w := .dram 0x4000 [some 7] }) [] (st (fun c => (fun c : Chip => c.upd 0 fun x =>
      { x with baste := { x.baste with applied := true, back := [(.spad, 5, 3)], drain := [{ ten := 3, w := .dram 0x4000 [some 7] }] } })
      c))) &&
    ([0]).all (hyps_OutcomeAppliesOnce 0 0 ([{ ten := 3, stitch := true, reasons := 0 }]) ((.spad, 5, 3)) []
      ({ ten := 3, w := .reg 0x3F02000038 5 }) [] (st (fun c => (fun c : Chip => c.upd 0 fun x =>
      { x with baste := { x.baste with outcome := some [{ ten := 3, stitch := true, reasons := 0 }], stitchV := [3] } })
      (tk 0 (fun t => { t with phase := .stitch, start := 1000, stitchAt := some 91000 }) (tm 0 91096 c))))) &&
    ([4]).all (hyps_OutcomeAppliesOnce 0 (191) ([{ ten := 3, stitch := true, reasons := 0 }]) ((.spad, 5, 3)) []
      ({ ten := 3, w := .reg 0x3F02000038 5 }) [] (st (fun c => (fun c : Chip => c.setCluster 0 191
      { st := .stopping, ten := 3 }) c)))) = true := by
  decide +kernel

/-- The hypotheses of clause `cl_` of StitchExactlyWithoutReason in Obligations.StitchKeepsAndUnpickRestores. -/
def hyps_StitchExactlyWithoutReason (s : Chip) (v : Verdict) (cl_ : Nat) : Bool :=

  decide (v ∈ combine s) &&
  match cl_ with
  | 0 => true
  | 1 => ((dies.any fun d => (s.resolve.got.get d).any fun rep => rep.tens.any fun r => r.ten == v.ten && r.reasons
      != 0)) && true
  | _ => false

/-- The hypotheses of clause `cl_` of ResolutionClearsBastedWords in Obligations.StitchKeepsAndUnpickRestores. -/
def hyps_ResolutionClearsBastedWords (t : Fin 256) (w : MWord) (sh : Shadow) (cl_ : Nat) : Bool :=

  decide (w.ten = t) &&
  match cl_ with
  | 0 => (decide (w.tag = .basted) && true)
  | 1 => (decide (w.tag = .ingest) && true)
  | 2 => (decide (w.tag = .basted) && (decide (w.shadow = some sh) && true))
  | 3 => (List.finRange 256).all fun u => (w.ten == u) || (stitchWord u w == w && unpickWord u w == w)
  | _ => false

/-- Every clause of Obligations.StitchKeepsAndUnpickRestores with hypotheses is about some state. -/
theorem witness_StitchKeepsAndUnpickRestores :
    (([0, 1]).all (hyps_StitchExactlyWithoutReason ((fun c : Chip =>
      { c with resolve := { c.resolve with got := { q0 := some ({ ({ die := 2, tens := [{ ten := 3, stitch := true, unpick := false, reasons := 4, holds := true }] } : Report) with die := 0 } : Report), q1 := some ({ ({ die := 2, tens := [{ ten := 3, stitch := true, unpick := false, reasons := 4, holds := true }] } : Report) with die := 1 } : Report), q2 := some ({ die := 2, tens := [{ ten := 3, stitch := true, unpick := false, reasons := 4, holds := true }] } : Report), q3 := some ({ ({ die := 2, tens := [{ ten := 3, stitch := true, unpick := false, reasons := 4, holds := true }] } : Report) with die := 3 } : Report) } } })
      Chip.reset) ({ ten := 3, stitch := false, reasons := 4 })) &&
    ([0, 2, 3]).all (hyps_ResolutionClearsBastedWords (3)
      ({ tag := .basted, ten := 3, data := 5, shadow := some { data := 9, poison := 0, written := true, void := false } })
      ({ data := 9, poison := 0, written := true, void := false })) &&
    ([1]).all (hyps_ResolutionClearsBastedWords (3) ({ tag := .ingest, ten := 3, data := 5 })
      ({ data := 9, poison := 0, written := true, void := false }))) = true := by
  decide +kernel

/-- The hypotheses of clause `cl_` of PllsAndNetworksFollowTheirSources. -/
def hyps_PllsAndNetworksFollowTheirSources (t : Fin 256) (d : Fin 4) (k : Fin 6) (j : Fin 2) (i : Fin 8) (g : Fin
      16) (v : Word) (khz : BitVec 20) (quiet : Nat) (s : State) (cl_ : Nat) : Bool :=
  let c := s.chip
  let en := c.setReg d (pllEnF k.val).key (v &&& 0x8000003F)
  let p := c.pll d (4 + j.val)
  let onB := c.flag d (Rf.CLK_JC_STAT_ACTIVE_B.at j.val)
  let active := if onB then p.srcB else p.src
  let other := if onB then p.src else p.srcB
  let src := getBits v 0 6
  let back := getBits v 8 6
  let gOk := gselCode src = true ∧ gselCode back = true ∧ (nominalOf c d src).atMost 650000 = true ∧
      (nominalOf c d back).atMost 650000 = true
  decide (MayWrite s.chip d 4 t) &&
  match cl_ with
  | 0 => (decide (k.val < 4) && (decide (getBits v 31 1 = 1) && (decide (c.flag d (pllEnF k.val) = false) && true)))
  | 1 => true
  | 2 => (decide ((c.pll d k.val).on = true) && (decide (c.flag d (pllLockF k.val) = false) && true))
  | 3 => (decide (c.flag d (pllLockF k.val) = true) && true)
  | 4 => (decide (p.on = true) && (decide (srcRuns c d active = false) && (decide (c.flag d (Rf.CLK_JC_SRC_AUTO.at
      j.val) = true) && (decide (srcRuns c d other = true) && true))))
  | 5 => (decide (p.on = true) && (decide (srcRuns c d active = false) && (decide ((c.flag d (Rf.CLK_JC_SRC_AUTO.at
      j.val) = false ∨ srcRuns c d other = false)) && true)))
  | 6 => true
  | 7 => (decide (512 ≤ quiet) && (decide (bit (c.fld d Rf.CLK_CKIN_STAT_PRESENT) i.val = true) && true))
  | 8 => (decide (quiet < 512) && true)
  | 9 => (decide (c.flag d (Rf.CLK_GSEL_AUTO.at g.val) = true) && (decide (c.flag d (Rf.CLK_GSEL_ON_BACKUP.at g.val)
      = false) && (decide (srcRuns c d (c.fld d (Rf.CLK_GSEL_BACKUP.at g.val)) = true) && true)))
  | 10 => (decide (c.flag d (Rf.CLK_GSEL_AUTO.at g.val) = false) && true)
  | 11 => (decide (gOk) && true)
  | 12 => (decide (¬ gOk) && true)
  | 13 => (decide ((c.net d g.val).sw = true) && (decide ((c.net d g.val).force = true) && true))
  | _ => false

/-- Every clause of Obligations.PllsAndNetworksFollowTheirSources with hypotheses is about some state. -/
theorem witness_PllsAndNetworksFollowTheirSources :
    (([1, 2, 4, 6, 7, 11, 13]).all (hyps_PllsAndNetworksFollowTheirSources 0 (2) (5) (1) (0) (5) (0x80000008) (0) (512)
      (st (fun c => (fun c : Chip => c.setNet 2 5 { src := 0, sw := true, force := true }) (fl 2
      (Rf.CLK_JC_SRC_AUTO.at 1) 1 ((fun c : Chip => c.setPll 2 5 { on := true, src := 3, srcB := 0 }) (fl 2
      (Rf.CLK_GSEL_AUTO.at 5) 1 (fl 2 (Rf.CLK_CKIN_FREQ_FREQ.at 0) 100000 (fl 2 Rf.CLK_CKIN_STAT_PRESENT 1 c)))))))) &&
    ([0, 8, 9]).all (hyps_PllsAndNetworksFollowTheirSources 0 (2) (3) (1) (0) (5) (0x80000000) (100000) (511) (st (fun c
      => fl 2 (Rf.CLK_GSEL_BACKUP.at 5) 0 (fl 2 (Rf.CLK_GSEL_AUTO.at 5) 1 (fl 2 (Rf.CLK_PLL_OUT_ODIV_0.at 3) 9 (fl 2
      (Rf.CLK_PLL_DIV_N.at 3) 40 (fl 2 (Rf.CLK_CKIN_FREQ_FREQ.at 0) 100000 (fl 2 Rf.CLK_CKIN_STAT_PRESENT 1
      c)))))))) &&
    ([3, 5, 10]).all (hyps_PllsAndNetworksFollowTheirSources 0 (2) (4) (0) (0) (5) (0x3F) (0) (512) (st (fun c => fl 2
      (Rf.CLK_JC_STAT_LOCK.at 0) 1 ((fun c : Chip => c.setPll 2 4 { on := true, src := 3, srcB := 0 }) c)))) &&
    ([12]).all (hyps_PllsAndNetworksFollowTheirSources 0 (2) (2) (0) (0) (5) (0x0000) (0) (512) (st (fun c => fl 2
      (Rf.CLK_CKIN_FREQ_FREQ.at 0) 700000 (fl 2 (Rf.CLK_PLL_STAT_LOCK.at 2) 1 ((fun c : Chip => c.setPll 2 2
      { on := true, src := 3, srcB := 0 }) c)))))) = true := by
  decide +kernel

/-- The hypotheses of clause `cl_` of RegionsResetAndReload. -/
def hyps_RegionsResetAndReload (t : Fin 256) (d : Fin 4) (g : Fin 16) (r : Fin 64) (v : Word) (q : Reload) (s :
      State) (cl_ : Nat) : Bool :=
  let c := s.chip
  let isolate := Rf.CLK_REGION_CTL_ISOLATE.at r.val
  let reset := Rf.CLK_REGION_CTL_RESET.at r.val
  let isoval := Rf.CLK_REGION_CTL_ISOVAL.at r.val
  let busy := c.flag d (Rf.CLK_REGION_CTL_RELOADING.at r.val)
  decide (up s.chip d = true) &&
  match cl_ with
  | 0 => (decide (domainReset c d g.val = false) && (decide (netRuns c d g.val = true) && true))
  | 1 => (decide (domainReset c d g.val = true) && true)
  | 2 => (decide (granted c d 4 t = true) && (decide (busy = false) && true))
  | 3 => (decide (granted c d 4 t = true) && (decide (busy = true) && true))
  | 4 => (decide (granted c d 4 t = false) && (decide (regionOwner c d r.val = t) && (decide (busy = false) &&
      true)))
  | 5 => (decide (granted c d 4 t = false) && (decide (regionOwner c d r.val ≠ t) && true))
  | 6 => (decide ((c.d d).reload = some q) && (decide (portsDrained c d q.region = true) && true))
  | 7 => (decide ((c.d d).reload = some q) && (decide (portsDrained c d q.region = false) && true))
  | 8 => (decide ((c.d d).reload = some q) && (decide (q.drained = true) && (decide (q.written = false) && (decide
      ((reloadBody c d q).2 = 0) && (decide (q.region < 64) && true)))))
  | 9 => (decide ((c.d d).reload = some q) && (decide (q.written = true) && (decide ((c.d d).reloadQ = []) &&
      (decide (q.region < 64) && true))))
  | _ => false

/-- Every clause of Obligations.RegionsResetAndReload with hypotheses is about some state. -/
theorem witness_RegionsResetAndReload :
    (([1, 2, 6, 9]).all (hyps_RegionsResetAndReload 0 (1) 1 (5) 0
      ({ region := 5, darner := false, addr := 0x4000, written := true }) (st (fun c => (fun c : Chip => c.upd 1 fun
      x => { x with reload := some { region := 5, darner := false, addr := 0x4000, written := true } }) c))) &&
    ([5, 7]).all (hyps_RegionsResetAndReload (8) (1) (3) (5) (2) ({ region := 5, darner := false, addr := 0x4000 }) (st
      (fun c => (fun c : Chip => c.upd 1 fun x =>
      { x with reload := some { region := 5, darner := false, addr := 0x4000 } }) ((fun c : Chip => c.setSportQ 1 0
      [{ wr := false, lane := 0x2000000000, en := 15, data := 0 }]) (fl 1 (Rf.CLK_REGION_LAST.at 5) 1 (fl 1
      (Rf.CLK_REGION_FIRST.at 5) 1 (fl 1 (Rf.CLK_REGION_VALID.at 5) 1 c))))))) &&
    ([3, 8]).all (hyps_RegionsResetAndReload 0 (1) 1 (5) 0
      ({ region := 5, darner := false, addr := 0x4000000000, drained := true }) (st (fun c => (fun c : Chip => c.upd
      1 fun x =>
      { x with dram := { x.dram with zeroed := true, cells := [(12, some 48), (76, some 16), (79, some 128), (80, some 225), (81, some 195), (82, some 90), (83, some 1), (84, some 69), (85, some 32), (87, some 6), (88, some 5), (91, some 7), (95, some 13)] }, reload := some { region := 5, darner := false, addr := 0x4000000000, drained := true } })
      (fl 1 (Rf.CLK_REGION_CTL_RELOADING.at 5) 1 (fl 1 (Rf.CLK_REGION_LAST.at 5) 1 (fl 1 (Rf.CLK_REGION_FIRST.at 5)
      1 (fl 1 Rf.DRAM_CTL_EN 1 c))))))) &&
    ([0]).all (hyps_RegionsResetAndReload (0) (1) (3) (5) (7) ({ region := 5, darner := false, addr := 0x4000 }) (st
      (fun c => (fun c : Chip => c.setNet 1 3 { src := 0 }) (fl 1 Rf.CLK_CKIN_STAT_PRESENT 1 ((fun c : Chip => c.upd
      1 fun x => { x with fabRst := false, reload := some { region := 5, darner := false, addr := 0x4000 } }) c))))) &&
    ([4]).all (hyps_RegionsResetAndReload (9) (1) (3) (5) (2) ({ region := 5, darner := false, addr := 0x4000 }) (st
      (fun c => fl 1 (Rf.YOKE_PRR_OWNER_TENANT.at 5) 9 c)))) = true := by
  decide +kernel

/-- The hypotheses of clause `cl_` of LaneMemoryCommandsAct. -/
def hyps_LaneMemoryCommandsAct (t : Fin 256) (d : Fin 4) (b : Fin 1536) (portB : Bool) (w : Fin 1024) (en : BitVec
      4) (data : BitVec 56) (k : Fin 32) (v : Word) (s : State) (cl_ : Nat) : Bool :=
  let c := s.chip
  let i := 1024 * b.val + w.val
  let n := c.fld d (Rf.BMEM_MODE_COUNT.at b.val)
  let f := fifoAt c d b.val
  let dest := mapGet (fun _ => 0) (c.d d).bankTo k.val
  let req := if getBits v 0 2 = 3 then 0 else getBits v 0 2
  decide (up s.chip d = true) &&
  match cl_ with
  | 0 => (decide (isFifo c d b.val = false) && true)
  | 1 => (decide (isFifo c d b.val = false) &&
      (match ((readWord c d .bmem i 15 .far).2) with
      | .val q y => true
      | _ => false))
  | 6 => (decide (granted c d 5 t = true) && (decide (c.fld d (Rf.SPAD_BANK_STATE.at k.val) ≠ req) && (decide
      ((c.fld d (Rf.SPAD_BANK_STATE.at k.val) = 0 → bankCovered c d k.val = false)) && true)))
  | 7 => (decide (c.fld d (Rf.SPAD_BANK_STATE.at k.val) = 3) && (decide (dest = 1) && true))
  | 8 => (decide (c.fld d (Rf.SPAD_BANK_STATE.at k.val) = 3) && (decide (dest = 2) && true))
  | 9 => (decide (c.fld d (Rf.SPAD_BANK_STATE.at k.val) = 3) && (decide (dest = 0) && (decide ((c.d d).ingestQ = [])
      && true)))
  | 10 => (decide (granted c d 5 t = true) && true)
  | 11 => (decide (granted c d 6 t = true) && true)
  | 12 => (decide (cfgLoading c = false) && true)
  | 13 => (decide (t ≠ 0) && true)
  | 14 => (decide (c.flag d Rf.LINING_STAT_WIPING = true) && true)
  | _ => false

/-- Every clause of Obligations.LaneMemoryCommandsAct with hypotheses is about some state. -/
theorem witness_LaneMemoryCommandsAct :
    (([0, 1, 6, 7, 10, 11, 12, 14]).all (hyps_LaneMemoryCommandsAct 0 (1) 0 false 0 0 0 (31) (0x80300001) (st (fun c =>
      fl 1 Rf.LINING_STAT_WIPING 1 ((fun c : Chip => c.upd 1 fun x => { x with bankTo := [(31, 1)] }) (fl 1
      (Rf.SPAD_BANK_STATE.at 31) 3 c))))) &&
    ([13]).all (hyps_LaneMemoryCommandsAct (5) (1) (0) false (0) (5) 0 (0) (3) (State.reset)) &&
    ([8]).all (hyps_LaneMemoryCommandsAct 0 (1) 0 false 0 0 0 (3) (2) (st (fun c => (fun c : Chip => c.upd 1 fun x =>
      { x with bankTo := [(3, 2)] }) (fl 1 (Rf.SPAD_BANK_STATE.at 3) 3 ((fun c : Chip => [0, 1, 2, 3].foldl (fun c i
      => c.setWord 1 .spad i { data := BitVec.ofNat 56 (i + 5), written := true }) c) c))))) &&
    ([9]).all (hyps_LaneMemoryCommandsAct 0 (1) 0 false 0 0 0 (3) (2) (st (fun c => fl 1 (Rf.SPAD_BANK_STATE.at 3) 3
      c)))) = true := by
  decide +kernel

/-- The hypotheses of clause `cl_` of StreamCommandsTakeEffect. -/
def hyps_StreamCommandsTakeEffect (n : Nat) (s : State) (cl_ : Nat) : Bool :=
  let c := s.chip
  let next := fun (i : Instr) => StreamNext c i n ∧ StreamGoesOn c n
  let at0 := fun (i : Instr) => next i ∧ c.cfg.die = 0
  let t := streamTake c n false
  let eng := fun (f : CfgDie → CfgDie) => t.onEngine 0 f
  let x := (c.d 0).cfg
  match cl_ with
  | 0 => (decide (StreamNext c .cSync n) && true)
  | 1 =>
      (match (cfgDecode c.cfg.words) with
      | .cmd (.cDie d) _ =>
        (decide (next (.cDie d)) && (decide ((d = 0 ∨ x.ids ≠ 0)) && true))
      | _ => false)
  | 2 =>
      (match (cfgDecode c.cfg.words) with
      | .cmd (.cFrameaddr f) _ =>
        (decide (at0 (.cFrameaddr f)) && (decide (f.toNat < 196608) && true))
      | _ => false)
  | 3 =>
      (match (cfgDecode c.cfg.words) with
      | .cmd (.cFramewrite m cmp data) _ =>
        (decide (at0 (.cFramewrite m cmp data)) &&
          (match (frameData m cmp data) with
          | some ws =>
            (decide (x.fptr + m ≤ 196608) && (decide (x.sec = none) && (decide ((∀ g : Nat, g < 96 → regionOfGrain c
              0 g = none)) && true)))
          | _ => false))
      | _ => false)
  | 4 =>
      (match (cfgDecode c.cfg.words) with
      | .cmd (.cRegwrite u off v) _ =>
        (decide (at0 (.cRegwrite u off v)) && (decide (regAddrOk (u.val * 2 ^ 24 + 4 * off.toNat) = true) && (decide
          (u.val ≠ 0x11) && (decide (u.val ≠ Rf.TIME_TICK_CTL_RUN.unit) && (decide ((regWrite t 0 0 u.val (4 *
          off.toNat) v).cfg = t.cfg) && true)))))
      | _ => false)
  | 5 =>
      (match (cfgDecode c.cfg.words) with
      | .cmd (.cRegionbegin r a b) _ =>
        (decide (at0 (.cRegionbegin r a b)) && (decide (a.toNat < 96) && (decide (b.toNat < 96) && (decide (a.toNat
          % 12 ≤ b.toNat % 12) && (decide (a.toNat / 12 ≤ b.toNat / 12) && (decide (x.framed = false) && (decide
          (r.val ∉ x.decl) && (decide ((∀ g : Nat, g < 96 → inRect a.toNat b.toNat g = true → g ∉ [0, 11, 84, 95] ∧
          regionOfGrain c 0 g = none)) && true))))))))
      | _ => false)
  | 6 =>
      (match (cfgDecode c.cfg.words) with
      | .cmd (.cRegionend r) _ =>
        (decide (at0 (.cRegionend r)) && (decide (x.sec = some r.val) && true))
      | _ => false)
  | 7 =>
      (match (cfgDecode c.cfg.words) with
      | .cmd (.cCheck v) _ =>
        (decide (next (.cCheck v)) && (decide (v.toNat = chkFinal 1 c.cfg.crc) && true))
      | _ => false)
  | 8 =>
      (match (cfgDecode c.cfg.words) with
      | .cmd (.cCheck v) _ =>
        (decide (StreamNext c (.cCheck v) n) && (decide (v.toNat ≠ chkFinal 1 c.cfg.crc) && true))
      | _ => false)
  | 9 =>
      (match (cfgDecode c.cfg.words) with
      | .cmd (.cWait us) _ => (decide (at0 (.cWait us)) && true)
      | _ => false)
  | 10 =>
      (match (cfgDecode c.cfg.words) with
      | .cmd (.cWaitPoll us u off m v) _ =>
        (decide (at0 (.cWaitPoll us u off m v)) && (decide (regAddrOk (u.val * 2 ^ 24 + 4 * off.toNat) = true) &&
          true))
      | _ => false)
  | 11 =>
      (match (cfgDecode c.cfg.words) with
      | .cmd (.cWaitRequire us u off m v) _ =>
        (decide (at0 (.cWaitRequire us u off m v)) && (decide (regAddrOk (u.val * 2 ^ 24 + 4 * off.toNat) = true) &&
          true))
      | _ => false)
  | 12 =>
      (match (cfgDecode c.cfg.words) with
      | .cmd (.cImageid lo hi) _ =>
        (decide (at0 (.cImageid lo hi)) && (decide (x.ids = 0) && true))
      | _ => false)
  | 13 =>
      (match (cfgDecode c.cfg.words) with
      | .cmd (.cLoadmem region m cmp lane data) _ =>
        (decide (at0 (.cLoadmem region m cmp lane data)) && (decide (region.val < 2) && (decide (lane.toNat % 4 = 0)
          && (decide (lane.toNat / 4 + m ≤ memWords (regionMem region)) && (decide (x.sec = none) &&
          (match (memData m cmp data) with
          | some qs => true
          | _ => false))))))
      | _ => false)
  | 14 =>
      (match (cfgDecode c.cfg.words) with
      | .cmd (.cLoadcodeRentik set image) _ =>
        (decide (at0 (.cLoadcodeRentik set image)) && (decide ((codeRentik t 0 set.toNat image).2 = 0) && true))
      | _ => false)
  | 15 =>
      (match (cfgDecode c.cfg.words) with
      | .cmd (.cLoadcodeYoke a ws) _ =>
        (decide (at0 (.cLoadcodeYoke a ws)) && (decide (a.toNat + ws.length ≤ 16384) && true))
      | _ => false)
  | 17 => dies.any fun d =>
      (match (c.d d).cfg.q with
      | i :: is =>
        decide (up c 0 = true) && (decide (cfgLoading c = true) && (decide (loadLost c = false) && (decide ((c.d
          d).cfg.wait = none) && true)))
      | [] => false)
  | 18 => dies.any fun d =>
      (match cfgDecode c.cfg.words with
      | .cmd (.cFrameaddr f) _ =>
        decide (d ≠ 0) && (decide (next (.cFrameaddr f)) && (decide (c.cfg.die = d) && (decide ((c.d d).cfg.q = [])
          && true)))
      | _ => false)
  | 19 =>
      (match (c.d 0).cfg.wait with
      | some (.till tm) => let d : Fin 4 := 0; decide (up c d = true) && true
      | _ => false)
  | 20 =>
      (match (c.d 0).cfg.wait with
      | some (.poll tm key m v) =>
        let d : Fin 4 := 0; decide (up c d = true) && (decide (reached c d tm = false) && true)
      | _ => false)
  | _ => false

/-- Every clause of Obligations.StreamCommandsTakeEffect with hypotheses is about some state. -/
theorem witness_StreamCommandsTakeEffect :
    (([0]).all (hyps_StreamCommandsTakeEffect (1) (st (fun c => (fun c : Chip =>
      { c with cfg := { c.cfg with started := true, header := true, synced := true, words := [0x015AC3E1] } }) c))) &&
    ([1]).all (hyps_StreamCommandsTakeEffect (1) (st (fun c => (fun c : Chip =>
      { c with cfg := { c.cfg with started := true, header := true, synced := true, words := [0x02000000] } }) c))) &&
    ([2]).all (hyps_StreamCommandsTakeEffect (1) (st (fun c => (fun c : Chip =>
      { c with cfg := { c.cfg with started := true, header := true, synced := true, words := [0x0302FFFF] } }) c))) &&
    ([3]).all (hyps_StreamCommandsTakeEffect (41) (st (fun c => (fun c : Chip =>
      { c with cfg := { c.cfg with started := true, header := true, synced := true, words := [0x04000001, 0x00000001, 0x00000002, 0x00000003, 0x00000004, 0x00000005, 0x00000006, 0x00000007, 0x00000008, 0x00000009, 0x0000000A, 0x0000000B, 0x0000000C, 0x0000000D, 0x0000000E, 0x0000000F, 0x00000010, 0x00000011, 0x00000012, 0x00000013, 0x00000014, 0x00000015, 0x00000016, 0x00000017, 0x00000018, 0x00000019, 0x0000001A, 0x0000001B, 0x0000001C, 0x0000001D, 0x0000001E, 0x0000001F, 0x00000020, 0x00000021, 0x00000022, 0x00000023, 0x00000024, 0x00000025, 0x00000026, 0x00000027, 0x00000028] } })
      c))) &&
    ([4]).all (hyps_StreamCommandsTakeEffect (2) (st (fun c => (fun c : Chip =>
      { c with cfg := { c.cfg with started := true, header := true, synced := true, words := [0x05540000, 0x000000C8] } })
      c))) &&
    ([5]).all (hyps_StreamCommandsTakeEffect (1) (st (fun c => (fun c : Chip =>
      { c with cfg := { c.cfg with started := true, header := true, synced := true, words := [0x0601C37F] } }) c))) &&
    ([6]).all (hyps_StreamCommandsTakeEffect (1) (st (fun c => (fun c : Chip =>
      { c with cfg := { c.cfg with started := true, header := true, synced := true, words := [0x0700003F], open_ := true } })
      ((fun c : Chip => c.upd 0 fun x => { x with cfg := { x.cfg with sec := some 63 } }) c)))) &&
    ([7]).all (hyps_StreamCommandsTakeEffect (2) (st (fun c => (fun c : Chip =>
      { c with cfg := { c.cfg with started := true, header := true, synced := true, words := [0x08000000, 0x00000000], crc := 0xFFFFFFFF } })
      c))) &&
    ([8]).all (hyps_StreamCommandsTakeEffect (2) (st (fun c => (fun c : Chip =>
      { c with cfg := { c.cfg with started := true, header := true, synced := true, words := [0x08000000, 0x00000001] } })
      c))) &&
    ([9]).all (hyps_StreamCommandsTakeEffect (1) (st (fun c => (fun c : Chip =>
      { c with cfg := { c.cfg with started := true, header := true, synced := true, words := [0x090FFFFF] } }) c))) &&
    ([10]).all (hyps_StreamCommandsTakeEffect (4) (st (fun c => (fun c : Chip =>
      { c with cfg := { c.cfg with started := true, header := true, synced := true, words := [0x09800005, 0x00640001, 0xFF, 0] } })
      c))) &&
    ([11]).all (hyps_StreamCommandsTakeEffect (4) (st (fun c => (fun c : Chip =>
      { c with cfg := { c.cfg with started := true, header := true, synced := true, words := [0x09C00005, 0x00640000, 0, 0] } })
      c))) &&
    ([12]).all (hyps_StreamCommandsTakeEffect (3) (st (fun c => (fun c : Chip =>
      { c with cfg := { c.cfg with started := true, header := true, synced := true, words := [0x0A000000, 0x12345678, 0x9ABCDEF0] } })
      c))) &&
    ([13]).all (hyps_StreamCommandsTakeEffect (4) (st (fun c => (fun c : Chip =>
      { c with cfg := { c.cfg with started := true, header := true, synced := true, words := [0x0B000001, 4, 0x11111111, 0x222222] } })
      c))) &&
    ([14]).all (hyps_StreamCommandsTakeEffect (16) (st (fun c => (fun c : Chip =>
      { c with cfg := { c.cfg with started := true, header := true, synced := true, words := [0x0C000100, 0x4B544E52, 0x00010001, 0x00000001, 0x00000007, 0x00000000, 0x00000000, 0x00000000, 0x375724D2, 0x00000000, 0x00000000, 0x00000000, 0x11111111, 0x22222222, 0x33333333, 0x44444444] } })
      c))) &&
    ([15]).all (hyps_StreamCommandsTakeEffect (4) (st (fun c => (fun c : Chip =>
      { c with cfg := { c.cfg with started := true, header := true, synced := true, words := [0x0C803FFE, 2, 7, 8] } })
      c))) &&
    ([17]).all (hyps_StreamCommandsTakeEffect 0 (st (fun c => (fun c : Chip => c.upd 0 fun x =>
      { x with cfg := { x.cfg with q := [.cFrameaddr 5] } }) ((fun c : Chip =>
      { c with cfg := { c.cfg with started := true } }) (fl 0 Rf.CFG_STAT_STATE 1 (tm 0 5000000 c)))))) &&
    ([18]).all (hyps_StreamCommandsTakeEffect (1) (st (fun c => (fun c : Chip =>
      { c with cfg := { c.cfg with started := true, header := true, synced := true, words := [0x03000009], die := 2 } })
      c))) &&
    ([19]).all (hyps_StreamCommandsTakeEffect 0 (st (fun c => (fun c : Chip => c.upd 0 fun x =>
      { x with cfg := { x.cfg with wait := some (.till 5000) } }) (tm 0 5000 c)))) &&
    ([20]).all (hyps_StreamCommandsTakeEffect 0 (st (fun c => (fun c : Chip => c.upd 0 fun x =>
      { x with cfg := { x.cfg with wait := some (.poll 5000 0x1900000 0 0) } }) (tm 0 4999 c))))) = true := by
  decide +kernel

/-- The hypotheses of clause `cl_` of LoadsBeginAndEnd. -/
def hyps_LoadsBeginAndEnd (v : Word) (rec0 : List Byte) (rec1 : List Byte) (hdr : List Byte) (bs : List Byte) (xspi8
      : Bool) (wrOk : Bool) (data : List Word) (s : State) (cl_ : Nat) : Bool :=
  let c := s.chip
  let cause := c.fld 0 Rf.CFG_STAT_CAUSE
  let state := c.fld 0 Rf.CFG_STAT_STATE
  let flash := fun (i : Instr) (op step : Nat) =>
      ((state = 2 ∨ state = 3) → bootsel c = 0 → c.flag 0 Rf.CFG_FL_CTL_BUSY = false →
        Reaches i s fun k =>
          (c.fld 0 Rf.CFG_FL_ADDR_ADDR % step = 0 →
            k.fld 0 Rf.CFG_FL_CTL_BUSY = 1 ∧ k.fld 0 Rf.CFG_FL_CTL_OP = op) ∧
          (c.fld 0 Rf.CFG_FL_ADDR_ADDR % step ≠ 0 →
            k.fld 0 Rf.CFG_FL_CTL_BUSY = 0 ∧ k.fld 0 Rf.CFG_FL_CTL_ERR = 1))
  decide (up s.chip 0 = true) &&
  match cl_ with
  | 0 => (decide (c.cfg.checked = true) && (decide (c.cfg.started = false) && (decide (bootsel c = 0) && (decide
      (state = 1) && (decide (feature c 0 5 = true) && true)))))
  | 1 => (decide ((state = 0 ∨ state = 3)) && (decide (bootsel c ≠ 3) && true))
  | 2 => (decide ((state = 1 ∨ state = 2)) && true)
  | 3 => (decide (dataReady c = true) && true)
  | 4 => (decide (dataReady c = false) && true)
  | 5 => (decide (cfgLoading c = true) && (decide (c.cfg.header = false) && (decide (c.cfg.src < 2) && true)))
  | 6 => (decide (cfgLoading c = true) && (decide (c.cfg.header = true) && (decide (c.cfg.body.length <
      c.cfg.bodyLen) && (decide (c.cfg.src < 2) && (decide (c.cfg.last = false) && true)))))
  | 7 => let ms := 2000; decide (cfgLoading c = true ∧ (c.cfg.src = 1 ∨ c.cfg.src = 2) ∧ 2000 ≤ ms) && true
  | 8 => (decide (cfgLoading c = true) &&
      (match (c.cfg.release) with
      | some tm =>
        (decide (reached c 0 tm = true) && (decide (loadLost c = false) && (decide (c.cfg.runs = []) && (decide
          ((c.d 0).hem.lc ≠ 2) && true))))
      | _ => false))
  | 9 => (decide (bootsel c = 0) && (decide (state = 3) && (decide (c.flag 0 Rf.CFG_STAT_FALLBACK = false) &&
      (decide (c.cfg.src = 0) && (decide (cause ≠ 14) && true)))))
  | 10 => decide ((state = 2 ∨ state = 3) ∧ bootsel c = 0 ∧ c.flag 0 Rf.CFG_FL_CTL_BUSY = false) && true
  | 11 => decide ((state = 2 ∨ state = 3) ∧ bootsel c = 0 ∧ c.flag 0 Rf.CFG_FL_CTL_BUSY = false) && true
  | 12 => decide ((state = 2 ∨ state = 3) ∧ bootsel c = 0 ∧ c.flag 0 Rf.CFG_FL_CTL_BUSY = false) && true
  | 13 => decide ((state = 2 ∨ state = 3) ∧ bootsel c = 0 ∧ c.flag 0 Rf.CFG_FL_CTL_BUSY = false) && true
  | 14 => (decide (c.flag 0 Rf.CFG_FL_CTL_BUSY = true) && true)
  | _ => false

/-- Every clause of Obligations.LoadsBeginAndEnd with hypotheses is about some state. -/
theorem witness_LoadsBeginAndEnd :
    (([1, 4, 9, 10, 11, 12, 13]).all (hyps_LoadsBeginAndEnd (2) ([]) ([]) ([]) ([]) (true) (true) [] (st (fun c => fl 0
      Rf.CFG_STAT_STATE 3 c))) &&
    ([2, 3, 7]).all (hyps_LoadsBeginAndEnd (0x12345678) ([]) ([]) ([]) ([]) (true) (true) [] (st (fun c => fl 0
      Rf.CFG_STAT_STATE 1 ((fun c : Chip => { c with cfg := { c.cfg with src := 2, started := true } }) c)))) &&
    ([5, 8]).all (hyps_LoadsBeginAndEnd 0 ([]) ([]) ([]) ([]) (true) (true) [] (st (fun c => tm 0 3000 ((fun c : Chip =>
      { c with cfg := { c.cfg with started := true, release := some 3000 } }) c)))) &&
    ([0]).all (hyps_LoadsBeginAndEnd 0 ([]) ([]) ([]) ([]) (true) (true) [] (st (fun c => fl 0 Rf.CFG_STAT_STATE 1 ((fun
      c : Chip => { c with cfg := { c.cfg with checked := true } }) c)))) &&
    ([6]).all (hyps_LoadsBeginAndEnd 0 ([]) ([]) ([]) ([0, 0, 0, 0, 0, 0, 0, 0, 0, 0, 0, 0, 8, 0, 0, 0, 7, 0, 0, 0, 8,
      0, 0, 0, 0, 0, 0, 0, 0, 0, 0, 0, 0, 0, 0, 0, 0, 0, 0, 0]) (true) (true) [] (st (fun c => (fun c : Chip =>
      { c with cfg := { c.cfg with started := true, header := true, bodyLen := 80, words := [3] } }) c))) &&
    ([14]).all (hyps_LoadsBeginAndEnd 0 ([]) ([]) ([]) ([]) (true) (true) [] (st (fun c => fl 0 Rf.CFG_FL_CTL_BUSY 1 (fl
      0 Rf.CFG_STAT_STATE 2 c))))) = true := by
  decide +kernel

/-- The hypotheses of clause `cl_` of RentikRegisterWritesStayInTheirMask in Obligations.RentikResultsStayInTheirFormats. -/
def hyps_RentikRegisterWritesStayInTheirMask (x : Cluster) (k : Nat) (k' : Nat) (mask : Nat) (v : Nat) (u : Vec) (a
      : AccLane) (A : Fin 8) (B : Fin 8) (i : Fin 16) (j : Fin 16) (n : Fin 32) (m : Fin 32) (w : BitVec 28) (e :
      Fin 8) (f : Fin 8) (cl_ : Nat) : Bool :=

  match cl_ with
  | 1 => (decide (k' ≠ k) && true)
  | 5 => (decide (e ≠ 0) && (decide (mask < 2 ^ 16) && (decide (v < 2 ^ 16) && true)))
  | 6 => (decide (f ≠ e) && true)
  | _ => false

/-- The hypotheses of clause `cl_` of LaneResultsSaturateAndKeepMarks in Obligations.RentikResultsStayInTheirFormats. -/
def hyps_LaneResultsSaturateAndKeepMarks (f : Int → Int → Int) (a : Lane) (b : Lane) (i : Int) (n : Nat) (cl_ : Nat)
      : Bool :=

  match cl_ with
  | 3 => (decide (isMark a = false) && (decide (isMark b = false) && true))
  | 4 => (decide ((a = 0x2000 ∨ b = 0x2000)) && true)
  | 5 => (decide (a ≠ 0x2000) && (decide (b ≠ 0x2000) && (decide ((a = 0x1FFF ∨ b = 0x1FFF)) && true)))
  | 7 => (decide ((2 * (i - 2 ^ n * roundEven i n)).natAbs = 2 ^ n) && (decide (0 < n) && true))
  | _ => false

/-- Every clause of Obligations.RentikResultsStayInTheirFormats with hypotheses is about some state. -/
theorem witness_RentikResultsStayInTheirFormats :
    (([1, 5, 6]).all (hyps_RentikRegisterWritesStayInTheirMask (kl []) (3) (5) (0x00F0) (0x1230) (ve 9) ({ v := 5 }) (1)
      (1) (3) (4) (4) (4) (77) (3) (2)) &&
    ([3, 7]).all (hyps_LaneResultsSaturateAndKeepMarks (fun a b => a * b) (5) (7) (-9000) (4)) &&
    ([4]).all (hyps_LaneResultsSaturateAndKeepMarks (fun a b => a * b) (0x2000) (0x1FFF) (8) (4)) &&
    ([5]).all (hyps_LaneResultsSaturateAndKeepMarks (fun a b => a * b) (0x1FFF) (7) (24) (4))) = true := by
  decide +kernel

/-- The hypotheses of clause `cl_` of RentikScalarOperationsTakeEffect. -/
def hyps_RentikScalarOperationsTakeEffect (d : Fin 4) (c : Fin 192) (g : Fin 8) (E : Fin 8) (D : Fin 32) (A : Fin
      32) (B : Fin 32) (K5 : Fin 32) (K14 : BitVec 14) (K19 : BitVec 19) (K16 : BitVec 16) (K6 : BitVec 6) (m :
      Bool) (T : BitVec 12) (s : State) (cl_ : Nat) : Bool :=
  let x := s.chip.cluster d c.val
  let on := bit (x.p g.val) 0
  let a := x.s A.val
  let b := x.s B.val
  let n := b.toNat % 32
  let does := fun (i : Instr) (ws : List Wr) => Gives i s (clusterDid s.chip d c (if on then ws else []))
  let sets := fun (i : Instr) (v : BitVec 28) => does i [.s D.val v]
  let goes := fun (i : Instr) (p : Bool) => does i (if p then [.pc T.toNat] else [])
  let all := fun (p : Bool) => if p then 0xFFFF else 0
  decide (ClusterIssues s.chip d c []) &&
  match cl_ with
  | 0 => true
  | 1 => true
  | 2 => true
  | 3 => true
  | 4 => true
  | 5 => true
  | 6 => true
  | 7 => true
  | 8 => true
  | 9 => true
  | 10 => true
  | 11 => true
  | 12 => true
  | 13 => true
  | 14 => true
  | 15 => true
  | 16 => true
  | 17 => true
  | 18 => true
  | 19 => true
  | 20 => true
  | 21 => true
  | 22 => true
  | 23 => true
  | 24 => (decide (on = false ∨ bit (s.chip.fld d (Rf.PLACKET_STIM_EN_PORTS.at x.ten.val)) K5.val = false) && true)
  | 25 => (decide (on = true) && (decide (bit (s.chip.fld d (Rf.PLACKET_STIM_EN_PORTS.at x.ten.val)) K5.val = true)
      && (decide (x.basted = false) && true)))
  | 26 => (decide (on = false) && true)
  | 27 => (decide (on = true) && true)
  | _ => false

/-- Every clause of Obligations.RentikScalarOperationsTakeEffect with hypotheses is about some state. -/
theorem witness_RentikScalarOperationsTakeEffect :
    (([0, 1, 2, 3, 4, 5, 6, 7, 8, 9, 10, 11, 12, 13, 14, 15, 16, 17, 18, 19, 20, 21, 22, 23, 24, 27]).all
      (hyps_RentikScalarOperationsTakeEffect (1) (7) (1) (2) (6) (4) (5) (31) (0x3FF0) (0x7FFFF) (0x1234) (63)
      (true) (77) (st (fun c => cl 1 7 (kl [(4, 100), (5, 31), (9, 0xFFFFFFF)]) c))) &&
    ([26]).all (hyps_RentikScalarOperationsTakeEffect (1) (7) (2) (2) (6) (4) (5) (31) (0x3FF0) (0x7FFFF) (0x1234) (63)
      (true) (77) (st (fun c => cl 1 7 (kl [(4, 100), (5, 31), (9, 0xFFFFFFF)]) c))) &&
    ([25]).all (hyps_RentikScalarOperationsTakeEffect (1) (7) (1) (2) (6) (4) (5) (31) (0x3FF0) (0x7FFFF) (0x1234) (63)
      (true) (77) (st (fun c => (fun c : Chip => c.setFld 1 (Rf.PLACKET_STIM_EN_PORTS.at 3) 0x80000000) (cl 1 7 (kl
      [(4, 100), (5, 31), (9, 0xFFFFFFF)]) c))))) = true := by
  decide +kernel

/-- The hypotheses of clause `cl_` of RentikVectorOperationsTakeEffect. -/
def hyps_RentikVectorOperationsTakeEffect (d : Fin 4) (c : Fin 192) (g : Fin 8) (A : Fin 8) (D : BitVec 7) (X :
      BitVec 7) (Y : BitVec 7) (L : Fin 16) (n : Fin 16) (S : Fin 32) (SH : Fin 64) (first : Bool) (s : State) (cl_
      : Nat) : Bool :=
  let x := s.chip.cluster d c.val
  let mask := x.p g.val
  let lx := fun j => (x.v X.toNat).get j
  let ly := fun j => (x.v Y.toNat).get j
  let acc := fun j => x.a A.val j
  let does := fun (codes : List (BitVec 7)) (i : Instr) (ws : List Wr) =>
      (ClusterIssues s.chip d c (codes.map BitVec.toNat) → Gives i s (clusterDid s.chip d c ws))
  let puts := fun (f : Nat → Lane) => [Wr.vec (vkey x D.toNat) mask (Lanes.ofFn f)]
  let two := fun (i : Instr) (f : Lane → Lane → Lane) => does [D, X, Y] i (puts fun j => f (lx j) (ly j))
  let one := fun (i : Instr) (f : Lane → Lane) => does [D, X] i (puts fun j => f (lx j))
  let arith := fun (f : Int → Int) (a : Lane) => arith2 x.mark (fun p _ => f p) a a
  let macs := fun (neg zero : Bool) (y : Nat → Lane) => accWrites A mask fun j => macLane x.mark neg zero (acc j)
      (lx j) (y j)
  let push := if X.toNat < 127 then [Wr.vec (vkey x (X.toNat + 1)) mask (x.v X.toNat)] else []
  let tapCodes := if X.toNat < 127 then [X, Y, X + 1] else [X, Y]
  match cl_ with
  | 5 => decide (64 ≤ X.toNat) && decide (ClusterIssues s.chip d c (tapCodes.map BitVec.toNat)) && true
  | 6 => decide (64 ≤ X.toNat) && decide (ClusterIssues s.chip d c (tapCodes.map BitVec.toNat)) && true
  | 26 => decide (ClusterIssues s.chip d c ([D, X, Y].map BitVec.toNat)) && decide (SH.val ≤ 42) && true
  | 28 => (decide (ClusterIssues s.chip d c [X.toNat, Y.toNat]) && true)
  | 30 => (x.xq.any fun w => decide (w.store = false ∧ w.reg = vkey x X.toNat ∧ ClusterIssues s.chip d c [] ∧
      vecCode X.toNat = true ∧ vecCode D.toNat = true)) && true
  | 31 => (decide (ClusterIssues s.chip d c []) && (decide (vecCode D.toNat = false) && (decide (x.basted = false)
      && true)))
  | _ => false

/-- Every clause of Obligations.RentikVectorOperationsTakeEffect with hypotheses is about some state. -/
theorem witness_RentikVectorOperationsTakeEffect :
    (([5, 6, 26, 28]).all (hyps_RentikVectorOperationsTakeEffect (1) (7) (1) (1) (65) (64) (127) (15) (4) (9) (13)
      (false) (st (fun c => cl 1 7 { kl [(4, 100), (9, 0xFFFFFFF)] with mark := true } c))) &&
    ([30]).all (hyps_RentikVectorOperationsTakeEffect (1) (7) (0) (1) (5) (3) (5) (15) (4) (9) (13) (true) (st (fun c =>
      cl 1 7
      { kl [] with xq := [{ id := 4, store := false, reg := 3, mask := 3, addr := 0x100, f := 0, data := ve 3, remote := false }] }
      c))) &&
    ([31]).all (hyps_RentikVectorOperationsTakeEffect (1) (7) (0) (1) (32) (3) (5) (15) (4) (9) (13) (true) (st (fun c
      => cl 1 7 (kl [(4, 100), (5, 31), (9, 0xFFFFFFF)]) c)))) = true := by
  decide +kernel

/-- The hypotheses of clause `cl_` of RentikMemoryOperationsTakeEffect. -/
def hyps_RentikMemoryOperationsTakeEffect (d : Fin 4) (c : Fin 192) (g : Fin 8) (E : Fin 8) (R : BitVec 7) (S : Fin
      32) (A : Fin 32) (K : BitVec 12) (L : Fin 16) (F : Fin 4) (t : Fin 256) (v : Word) (s : State) (cl_ : Nat) :
      Bool :=
  let x := s.chip.cluster d c.val
  let mask := x.p g.val
  let at_ := fun (post : Bool) => (x.s A.val).toInt + if post then 0 else K.toInt
  let lane0 := fun (w : Int) => c.val * 32768 + 4 * w.toNat
  let reads := fun (w : Int) (m : Nat) => readVec s.chip d .cst (lane0 w) (.prog x.ten) vec0 false (vecWords (lane0
      w) m)

  match cl_ with
  | 4 => (decide (ClusterIssues s.chip d c []) && (decide (bit mask 0 = true) && (decide (cstOk x c.val false (at_
      false) 1 2 = true) &&
      (match ((reads (at_ false) 3).2) with
      | .val u b => true
      | _ => false))))
  | 6 => (decide (ClusterIssues s.chip d c [R.toNat]) && true)
  | 7 => (decide (ClusterIssues s.chip d c [R.toNat]) && true)
  | 8 =>
      (match xCheck s.chip d x.ten (xAddr x A.val) F.val false false with
      | .ok e (.lanes m l) =>
        (match (readVec s.chip d m l (.prog x.ten) vec0 false (vecWords l mask)).2 with
          | .val u b =>
            decide (e = d ∧ ClusterIssues s.chip d c [R.toNat] ∧ mask ≠ 0 ∧ x.xq.length < 8 ∧ A.val ≠ 31 ∧ F.val ≠
              3) && true
          | _ => false)
      | _ => false)
  | 9 =>
      (match xCheck s.chip d x.ten (xAddr x A.val) F.val true false with
      | .ok e p =>
        decide (ClusterIssues s.chip d c [R.toNat] ∧ mask ≠ 0 ∧ x.xq.length < 8 ∧ A.val ≠ 31 ∧ F.val ≠ 3 ∧ e ≠ d ∧
          writesBasted s.chip d x = false) && true
      | _ => false)
  | 10 => (decide (ClusterIssues s.chip d c []) && (decide (bit mask 0 = true) && (decide (x.xq = []) && true)))
  | 11 => (decide (ClusterIssues s.chip d c []) && (decide (bit mask 0 = true) && (decide (x.xq ≠ []) && true)))
  | 12 => ((List.range 8).any fun i => match x.xq.drop i with | a :: as => decide (up s.chip d = true ∧ a.remote =
      false ∧ (x.xq.take i).any (xOverlap a) = false) && true | _ => false)
  | 13 => (decide (MayWrite s.chip d 7 t) && true)
  | 14 => (decide (MayWrite s.chip d 7 t) && (decide ((s.chip.d d).iload.length < 3) && true))
  | 15 => (decide (MayWrite s.chip d 7 t) &&
      (match ((s.chip.d d).iload) with
      | [w0, w1, w2] =>
        (decide (iloadOk s.chip d = true) && (decide ((s.chip.d d).iloadEnd = false) && (decide (x.st = .idle) &&
          (decide (s.chip.fld d Rf.RENTIK_ILOAD_CTL_FIRST ≤ c.val) && (decide (c.val < s.chip.fld d
          Rf.RENTIK_ILOAD_CTL_FIRST + s.chip.fld d Rf.RENTIK_ILOAD_CTL_COUNT) && true)))))
      | _ => false))
  | _ => false

/-- Every clause of Obligations.RentikMemoryOperationsTakeEffect with hypotheses is about some state. -/
theorem witness_RentikMemoryOperationsTakeEffect :
    (([4, 6, 7, 8, 10]).all (hyps_RentikMemoryOperationsTakeEffect (1) (7) (1) (3) (3) (5) (4) (0) (1) (0) (3)
      (0x9AB0F0FF) (st (fun c => (fun c : Chip => [0, 1, 2, 3].foldl (fun c i => c.setWord 1 .spad i
      { data := BitVec.ofNat 56 (i + 5), written := true }) c) (cl 1 7 { kl [(4, 0), (5, 0x600)] with ten := 0 }
      (ring c))))) &&
    ([11, 12]).all (hyps_RentikMemoryOperationsTakeEffect (1) (7) (1) (3) (3) (5) (4) (0) (1) (0) (3) (0x9AB0F0FF) (st
      (fun c => cl 1 7
      { kl [] with xq := [{ id := 4, store := false, reg := 3, mask := 3, addr := 0x100, f := 0, data := ve 3, remote := false }, { id := 4, store := false, reg := 5, mask := 3, addr := 0x100, f := 0, data := ve 3, remote := false }], fenceBad := true }
      c))) &&
    ([13, 14]).all (hyps_RentikMemoryOperationsTakeEffect (1) (7) (1) (3) (3) (5) (4) (0) (1) (0) (0) (0x9AB0F0FF) (st
      (fun c => (fun c : Chip => c.setFld 1 Rf.RENTIK_ILOAD_CTL_COUNT 3) c))) &&
    ([9]).all (hyps_RentikMemoryOperationsTakeEffect (1) (7) (1) (3) (3) (5) (4) (0) (1) (0) (3) (0x9AB0F0FF) (st (fun c
      => (fun c : Chip => [0, 1, 2, 3].foldl (fun c i => c.setWord 1 .spad i
      { data := BitVec.ofNat 56 (i + 5), written := true }) c) (cl 1 7 { kl [(4, 0), (5, 0xA00)] with ten := 0 }
      (ring c))))) &&
    ([15]).all (hyps_RentikMemoryOperationsTakeEffect (1) (7) (1) (3) (3) (5) (4) (0) (1) (0) (0) (0x9AB0F0FF) (st (fun
      c => (fun c : Chip => c.upd 1 fun x => { x with iload := [1, 2, 3] }) (fl 1 Rf.RENTIK_ILOAD_STAT_NEXT 4095 (fl
      1 Rf.RENTIK_ILOAD_CTL_COUNT 3 (fl 1 Rf.RENTIK_ILOAD_CTL_FIRST 6 c))))))) = true := by
  decide +kernel

/-- The hypotheses of clause `cl_` of CapturesTakeSamplesAndFinish in Obligations.CapturesAndPulsesFollowTheirInstants. -/
def hyps_CapturesTakeSamplesAndFinish (t : Fin 256) (d : Fin 4) (i : Fin 3) (ch : Fin 10) (v : Word) (x : BitVec 14)
      (severe : Bool) (sumRead : Nat) (cap : Capture) (s : State) (cl_ : Nat) : Bool :=
  let c := s.chip
  let en := if i = 0 then c.flag d Rf.ACQ_CTL_FAST_EN_0 && feature c d 0
      else if i = 1 then c.flag d Rf.ACQ_CTL_FAST_EN_1 && feature c d 0
      else c.flag d Rf.ACQ_CTL_SLOW_EN && feature c d 1
  let taking := c.cap d ch.val = some cap ∧ cap.isDone = false ∧ cap.abandoned = false
  decide (up s.chip d = true) &&
  match cl_ with
  | 0 => (decide (granted c d 8 t = true) && true)
  | 1 => true
  | 2 => (decide ((c.cap d ch.val = some cap ∧ cap.isDone = false ∧ cap.abandoned = false)) && (decide (cap.n <
      cap.len) && (decide (offset25 c d cap.tickStart < sampleAt ch.val cap.start cap.n) && true)))
  | 3 => (decide ((c.cap d ch.val = some cap ∧ cap.isDone = false ∧ cap.abandoned = false)) && (decide (cap.n <
      cap.len) && (decide (sampleAt ch.val cap.start cap.n ≤ offset25 c d cap.tickStart) && (decide (2 ≤ ch.val) &&
      (decide (cap.pleat = false) && true)))))
  | 4 => (decide ((c.cap d ch.val = some cap ∧ cap.isDone = false ∧ cap.abandoned = false)) && (decide (cap.n <
      cap.len) && (decide (sampleAt ch.val cap.start cap.n ≤ offset25 c d cap.tickStart) && (decide (ch.val < 2) &&
      (decide (cap.pleat = false) && (decide (cap.run = none) && (decide (cap.recv = none) && (decide (isMark x =
      false) && true))))))))
  | 5 => (decide ((c.cap d ch.val = some cap ∧ cap.isDone = false ∧ cap.abandoned = false)) && (decide (cap.len ≤
      cap.n) && (decide (fifoFill c d ch.val = 0) && (decide ((∀ w ∈ headerPlace cap, bankOn c d (bankOf w) = true))
      && true))))
  | 6 => (decide ((c.cap d ch.val = some cap ∧ cap.isDone = false ∧ cap.abandoned = false)) && (decide (cap.n <
      cap.len) && true))
  | _ => false

/-- The hypotheses of clause `cl_` of PulsesRiseFallAndAreMonitored in Obligations.CapturesAndPulsesFollowTheirInstants. -/
def hyps_PulsesRiseFallAndAreMonitored (k : Fin 4) (at50 : Nat) (p : Pulse) (ps : List Pulse) (s : State) (cl_ :
      Nat) : Bool :=
  let now := offset50 s.chip p
  let win := s.chip.fld 0 (Rf.ACQ_PULSE_CTL_WIN.at k.val)
  decide (up s.chip 0 = true) && decide (s.chip.pulsesOf k.val = p :: ps) &&
  match cl_ with
  | 0 => (decide (p.rose = false) && (decide (p.edge ≤ now) && true))
  | 1 => (decide (p.rose = true) && (decide (p.fell = false) && (decide (p.edge + p.width ≤ now) && true)))
  | 2 => (decide (p.seen = false) && (decide (p.missed = false) && (decide (p.edge ≤ at50) && (decide (at50 ≤ p.edge
      + win) && true))))
  | 3 => (decide (p.seen = false) && (decide (p.missed = false) && (decide (p.edge + win < now) && true)))
  | _ => false

/-- Every clause of Obligations.CapturesAndPulsesFollowTheirInstants with hypotheses is about some state. -/
theorem witness_CapturesAndPulsesFollowTheirInstants :
    (([0, 1, 2, 6]).all (hyps_CapturesTakeSamplesAndFinish 0 (1) (0) (5) (0x5) (100) (false) (3)
      ({ ten := 3, ilkReq := true, pulseChk := false, pulse := 0, pleat := false, store := true, len := 3, buf := 128, desc := 32, start := 20000, tol := 1, armedAt := 0, tick := 7, tickStart := 1000, basis := false, got := [5, 0x1FFF], n := 2, overCnt := 1 })
      (st (fun c => tm 1 2000 ((fun c : Chip => c.setCap 1 5 (some
      { ten := 3, ilkReq := true, pulseChk := false, pulse := 0, pleat := false, store := true, len := 3, buf := 128, desc := 32, start := 20000, tol := 1, armedAt := 0, tick := 7, tickStart := 1000, basis := false, got := [5, 0x1FFF], n := 2, overCnt := 1 }))
      c)))) &&
    ([3]).all (hyps_CapturesTakeSamplesAndFinish 0 (1) (0) (5) (0x5) (0x1FFF) (false) (3)
      ({ ten := 3, ilkReq := true, pulseChk := false, pulse := 0, pleat := false, store := true, len := 3, buf := 128, desc := 32, start := 20000, tol := 1, armedAt := 0, tick := 7, tickStart := 1000, basis := false, got := [5, 0x1FFF], n := 2, overCnt := 1 })
      (st (fun c => tm 1 2400 ((fun c : Chip => c.setCap 1 5 (some
      { ten := 3, ilkReq := true, pulseChk := false, pulse := 0, pleat := false, store := true, len := 3, buf := 128, desc := 32, start := 20000, tol := 1, armedAt := 0, tick := 7, tickStart := 1000, basis := false, got := [5, 0x1FFF], n := 2, overCnt := 1 }))
      c)))) &&
    ([4]).all (hyps_CapturesTakeSamplesAndFinish 0 (1) (0) (1) (0x5) (100) (false) (3)
      ({ ten := 3, ilkReq := true, pulseChk := false, pulse := 0, pleat := false, store := true, len := 3, buf := 128, desc := 32, start := 20000, tol := 1, armedAt := 0, tick := 7, tickStart := 1000, basis := false, got := [5, 0x1FFF], n := 2, overCnt := 1 })
      (st (fun c => tm 1 2002 ((fun c : Chip => c.setCap 1 1 (some
      { ten := 3, ilkReq := true, pulseChk := false, pulse := 0, pleat := false, store := true, len := 3, buf := 128, desc := 32, start := 20000, tol := 1, armedAt := 0, tick := 7, tickStart := 1000, basis := false, got := [5, 0x1FFF], n := 2, overCnt := 1 }))
      c)))) &&
    ([5]).all (hyps_CapturesTakeSamplesAndFinish 0 (1) (0) (1) (0x5) (100) (false) (3)
      ({ ten := 3, ilkReq := true, pulseChk := false, pulse := 0, pleat := false, store := true, len := 2, buf := 128, desc := 32, start := 20000, tol := 1, armedAt := 0, tick := 7, tickStart := 1000, basis := false, got := [5, 0x1FFF], n := 2, overCnt := 1 })
      (st (fun c => (fun c : Chip => (List.range 32).foldl (fun c k => fl 1 (Rf.SPAD_BANK_STATE.at k) 0 c) c) (tm 1
      2002 ((fun c : Chip => c.setCap 1 1 (some
      { ten := 3, ilkReq := true, pulseChk := false, pulse := 0, pleat := false, store := true, len := 2, buf := 128, desc := 32, start := 20000, tol := 1, armedAt := 0, tick := 7, tickStart := 1000, basis := false, got := [5, 0x1FFF], n := 2, overCnt := 1 }))
      c))))) &&
    ([1, 2, 3]).all (hyps_PulsesRiseFallAndAreMonitored (2) (400003)
      ({ tickStart := 1000, tick := 7, edge := 400000, width := 20, rose := true }) ([]) (st (fun c => fl 0
      (Rf.ACQ_PULSE_CTL_WIN.at 2) 3 (tm 0 21001 ((fun c : Chip => setPulses c 2
      [{ tickStart := 1000, tick := 7, edge := 400000, width := 20, rose := true }]) c))))) &&
    ([0]).all (hyps_PulsesRiseFallAndAreMonitored (2) (399999)
      ({ tickStart := 1000, tick := 7, edge := 400000, width := 20 }) ([]) (st (fun c => tm 0 21000 ((fun c : Chip
      => setPulses c 2 [{ tickStart := 1000, tick := 7, edge := 400000, width := 20 }]) c))))) = true := by
  decide +kernel

/-- The hypotheses of clause `cl_` of InterlockDropsAndLatches. -/
def hyps_InterlockDropsAndLatches (t : Fin 256) (a : Bool) (b : Bool) (chB : Bool) (ns : Nat) (v : Word) (s : State)
      (cl_ : Nat) : Bool :=
  let c := s.chip
  let lasen := fun (k : Chip) => k.fld 0 Rf.ILK_STAT_LASEN
  decide (ilkRuns s.chip = true) &&
  match cl_ with
  | 0 => (decide (ilkState c = 1) && (decide (10000 ≤ c.ilk.safe) && (decide (c.flag 0 Rf.ILK_STAT_ARMED = true) &&
      (decide (c.ilk.block = false) && (decide (alive c = true) && true)))))
  | 1 => (decide ((a = false ∨ b = false)) && true)
  | 2 => (decide (ilkState c < 2) && true)
  | 3 => (decide (ilkState c = 3) && true)
  | 4 => (decide (50 ≤ ns) && true)
  | 5 => (decide (ilkState c = 2) && (decide (discLimit c + 2000 ≤ c.ilk.disc) && (decide (alive c = true) &&
      true)))
  | 6 => (decide (c.ilk.disc + 2000 ≤ discLimit c) && true)
  | 7 => (decide (up c 0 = true) && (decide (ilkState c = 3) && (decide (100002000 ≤ c.ilk.safe) && true)))
  | 8 => (decide (up c 0 = true) && (decide ((ilkState c ≠ 3 ∨ c.ilk.safe < 99998000)) && true))
  | 9 => (decide (up c 0 = true) && true)
  | 10 => (decide (up c 0 = true) && (decide (t ≠ 0) && true))
  | _ => false

/-- Every clause of Obligations.InterlockDropsAndLatches with hypotheses is about some state. -/
theorem witness_InterlockDropsAndLatches :
    (([0, 1, 2, 4, 6, 8, 9]).all (hyps_InterlockDropsAndLatches (0) (true) (false) (true) (50) 0 (st (fun c => (fun c :
      Chip => { c with ilk := { c.ilk with safe := 10000 } }) (fl 0 Rf.ILK_STAT_ARMED 1 (fl 0 Rf.ILK_STAT_STATE 1
      c))))) &&
    ([3, 7, 10]).all (hyps_InterlockDropsAndLatches (1) (true) (true) (true) (50) 0 (st (fun c => (fun c : Chip =>
      { c with ilk := { c.ilk with safe := 100002000 } }) (fl 0 Rf.ILK_STAT_STATE 3 c)))) &&
    ([5]).all (hyps_InterlockDropsAndLatches (0) (true) (true) (true) (50) (0) (st (fun c => (fun c : Chip =>
      { c with ilk := { c.ilk with disc := 10002000 } }) (fl 0 Rf.ILK_STAT_STATE 2 c))))) = true := by
  decide +kernel

/-- The hypotheses of clause `cl_` of PanelSenseScansAndWritesFrames. -/
def hyps_PanelSenseScansAndWritesFrames (t : Fin 256) (v : Word) (raws : List Int) (s : State) (cl_ : Nat) : Bool :=
  let c := s.chip
  let scans := c.flag 0 Rf.PSENSE_CTL_EN = true ∧ c.flag 0 Rf.PWR_RAIL_VPS = true ∧
      (c.now 0).toNat % (1000000000 / c.ps.rate) = 0 ∧ raws.length = 960
  let out := c.fld 0 Rf.PSENSE_OUT_OUT + (if c.ps.second then 280 else 0)
  decide (MayWrite s.chip 0 0x0A t) &&
  match cl_ with
  | 0 => (decide (getBits v 0 1 = 1) && (decide (c.flag 0 Rf.PSENSE_CTL_EN = false) && true))
  | 1 => (decide (getBits v 0 1 = 1) && (decide (getBits v 1 1 = 1) && true))
  | 2 => (decide (getBits v 0 1 = 0) && true)
  | 3 => (decide ((c.flag 0 Rf.PSENSE_CTL_EN = true ∧ c.flag 0 Rf.PWR_RAIL_VPS = true ∧ (c.now 0).toNat %
      (1000000000 / c.ps.rate) = 0 ∧ raws.length = 960)) && (decide (1 < c.ps.capture) && true))
  | 4 => (decide ((c.flag 0 Rf.PSENSE_CTL_EN = true ∧ c.flag 0 Rf.PWR_RAIL_VPS = true ∧ (c.now 0).toNat %
      (1000000000 / c.ps.rate) = 0 ∧ raws.length = 960)) && (decide (c.ps.capture = 1) && true))
  | 5 => (decide ((c.flag 0 Rf.PSENSE_CTL_EN = true ∧ c.flag 0 Rf.PWR_RAIL_VPS = true ∧ (c.now 0).toNat %
      (1000000000 / c.ps.rate) = 0 ∧ raws.length = 960)) && (decide (c.ps.capture = 0) && true))
  | 6 => (decide (c.ps.frame = true) && (decide ((∀ b : Nat, b < 32 → bankOn c 0 b = true)) && (decide (out + 280 ≤
      524288) && true)))
  | _ => false

/-- Every clause of Obligations.PanelSenseScansAndWritesFrames with hypotheses is about some state. -/
theorem witness_PanelSenseScansAndWritesFrames :
    (([0, 1]).all (hyps_PanelSenseScansAndWritesFrames (0) (0xF103) ([]) (State.reset)) &&
    ([2]).all (hyps_PanelSenseScansAndWritesFrames (0) (0x0) ([]) (State.reset)) &&
    ([3]).all (hyps_PanelSenseScansAndWritesFrames (0) (1) ((List.range 960).map fun i => ((i * 7 : Nat) : Int)) (st
      (fun c => (fun c : Chip => { c with ps := { c.ps with capture := 2 } }) (fl 0 Rf.PSENSE_CTL_EN 1 c)))) &&
    ([4]).all (hyps_PanelSenseScansAndWritesFrames (0) (1) ((List.range 960).map fun i => ((i * 7 : Nat) : Int)) (st
      (fun c => tm 0 16666666 ((fun c : Chip =>
      { c with ps := { c.ps with capture := 1, nodes := [(5, { capSum := 999 })] } }) (fl 0 Rf.PSENSE_CTL_EN 1
      c))))) &&
    ([5]).all (hyps_PanelSenseScansAndWritesFrames (0) (1) ((List.range 960).map fun i => ((i * 7 : Nat) : Int)) (st
      (fun c => fl 0 Rf.PSENSE_THR_TOUCH 300 ((fun c : Chip =>
      { c with ps := { c.ps with nodes := [(5, { base := 999 }), (6, { base := 5000 })] } }) (fl 0 Rf.PSENSE_CTL_EN
      1 c))))) &&
    ([6]).all (hyps_PanelSenseScansAndWritesFrames (0) (1) ([]) (st (fun c => fl 0 Rf.PSENSE_OUT_OUT 512 (fl 0
      Rf.PSENSE_STAT_SCAN 0xFFFFFF ((fun c : Chip => (List.range 32).foldl (fun c k => fl 0 (Rf.SPAD_BANK_STATE.at
      k) 0 c) c) ((fun c : Chip =>
      { c with ps := { c.ps with frame := true, nodes := [(5, { delta := 999 }), (6, { delta := -5, held := true, since := some 3 })] } })
      c))))))) = true := by
  decide +kernel

/-- The hypotheses of clause `cl_` of SetsAndJobsFollowTheirControls. -/
def hyps_SetsAndJobsFollowTheirControls (t : Fin 256) (d : Fin 4) (k : Fin 16) (j : Fin 4) (v : Word) (bad : Option
      Nat) (n : Nat) (res : Nat) (bits : Nat) (run : PJob) (s : State) (cl_ : Nat) : Bool :=
  let c := s.chip
  let busy := fun i : Nat => c.flag d (Rf.PLEAT_JOB_STAT_BUSY.at i)
  let works := granted c d 11 t = true ∧ d.val ≤ 1
  let waits := (c.d d).pleat.run = none ∧ (c.d d).pleat.outs = [] ∧ busy j.val = true ∧ ∀ i < j.val, busy i = false
  let p := jobPar c d j.val
  let starts := fun x : Chip => x.onPleat d fun y =>
      { y with run := some { slot := j.val, result := res, bits := bits } }
  decide (up s.chip d = true) &&
  match cl_ with
  | 0 => (decide ((granted c d 11 t = true ∧ d.val ≤ 1)) && (decide (v = 1) && (decide (setOn c d k.val = false) &&
      (decide (rangeBad c d k.val = false) && true))))
  | 1 => (decide ((granted c d 11 t = true ∧ d.val ≤ 1)) && (decide (v = 1) && (decide (rangeBad c d k.val = true)
      && true)))
  | 2 => (decide ((granted c d 11 t = true ∧ d.val ≤ 1)) && (decide (v = 0) && true))
  | 3 => (decide ((granted c d 11 t = true ∧ d.val ≤ 1)) && true)
  | 4 => (decide (granted c d 11 t = true) && (decide (busy j.val = true) && true))
  | 5 => (decide (granted c d 11 t = true) && (decide (busy j.val = false) && (decide (getBits v 31 1 = 1) &&
      true)))
  | 6 => (decide (((c.d d).pleat.run = none ∧ (c.d d).pleat.outs = [] ∧ busy j.val = true ∧ ∀ i : Nat, i < j.val →
      busy i = false)) && (decide (jobRange c d p = true) && (decide (res = 6) && (decide (bits = 0) && true))))
  | 7 =>
      (match decodeJob c d p with
      | (x, .ends r b) =>
        decide (r = res ∧ b = bits ∧ p.dec = true ∧ jobRange c d p = false ∧ (c.d d).pleat.run = none ∧ (c.d
          d).pleat.outs = [] ∧ busy j.val = true ∧ ∀ i : Nat, i < j.val → busy i = false) && true
      | _ => false)
  | 8 =>
      (match encodeSet c d p bad with
      | (x, .ends r b) =>
        decide (r = res ∧ b = bits ∧ p.dec = false ∧ 2 ≤ p.kind ∧ jobRange c d p = false ∧ (c.d d).pleat.run = none
          ∧ (c.d d).pleat.outs = [] ∧ busy j.val = true ∧ ∀ i : Nat, i < j.val → busy i = false) && true
      | _ => false)
  | 9 =>
      (match encodeLanes c d p with
      | (x, .ends r b) =>
        decide (r = res ∧ b = bits ∧ p.dec = false ∧ p.kind < 2 ∧ jobRange c d p = false ∧ (c.d d).pleat.run = none
          ∧ (c.d d).pleat.outs = [] ∧ busy j.val = true ∧ ∀ i : Nat, i < j.val → busy i = false) && true
      | _ => false)
  | 10 => (decide ((c.d d).pleat.run = some run) && (decide (run.slot < 4) && (decide (run.result < 8) && (decide
      (run.bits < 2 ^ 24) && true))))
  | 11 =>
      (match streamPlace (setStream c d n).1 d (setTen c d n) true (setDst c d n) (setStream c d n).2.n with
      | some q =>
        decide ((c.d d).pleat.run = none ∧ (c.d d).pleat.outs.head? = some n ∧ bad = none ∧ (placeReady (setStream c
          d n).1 d q (((setStream c d n).2.n + 55) / 56) true).2 = true) && true
      | none => false)
  | _ => false

/-- Every clause of Obligations.SetsAndJobsFollowTheirControls with hypotheses is about some state. -/
theorem witness_SetsAndJobsFollowTheirControls :
    (([2, 3, 4, 6]).all (hyps_SetsAndJobsFollowTheirControls (0) (0) (2) (1) (0) (none) (2) (6) (0)
      ({ slot := 1, result := 6, bits := 77 }) (st (fun c => fl 0 (Rf.PLEAT_JOB_CNT_COUNT.at 1) 4 (fl 0
      (Rf.PLEAT_JOB_CTL_SET.at 1) 2 (fl 0 (Rf.PLEAT_JOB_CTL_FORMAT.at 1) 1 (fl 0 (Rf.PLEAT_JOB_CTL_KIND.at 1) 1 (fl
      0 (Rf.PLEAT_JOB_STAT_BUSY.at 1) 1 c))))))) &&
    ([0]).all (hyps_SetsAndJobsFollowTheirControls (0) (0) (2) (1) (1) (none) (2) (0) (0)
      ({ slot := 1, result := 6, bits := 77 }) (st (fun c => fl 0 (Rf.PLEAT_SET_LEN_LENGTH.at 2) 5 c))) &&
    ([1]).all (hyps_SetsAndJobsFollowTheirControls (0) (0) (2) (1) (1) (none) (2) (0) (0)
      ({ slot := 1, result := 6, bits := 77 }) (st (fun c => fl 0 (Rf.PLEAT_SET_BASE_BASE.at 2) 1048571 (fl 0
      (Rf.PLEAT_SET_LEN_LENGTH.at 2) 3 c)))) &&
    ([5]).all (hyps_SetsAndJobsFollowTheirControls (0) (0) (2) (1) (0x80050ABC) (none) (2) (0) (0)
      ({ slot := 1, result := 6, bits := 77 }) (st (fun c => c))) &&
    ([7]).all (hyps_SetsAndJobsFollowTheirControls (0) (0) (2) (1) (0) (none) (2) (1) (56)
      ({ slot := 1, result := 6, bits := 77 }) (st (fun c => (fun c : Chip => (List.range 8).foldl (fun c i =>
      c.setWord 0 .spad i { data := BitVec.ofNat 56 (i * 12345678901 + 5), written := true }) c) ((fun c : Chip =>
      (List.range 32).foldl (fun c k => fl 0 (Rf.SPAD_BANK_STATE.at k) 0 c) c) (fl 0 (Rf.PLEAT_JOB_DST_HI_DST.at 1)
      32 (fl 0 (Rf.PLEAT_JOB_DST_LO_DST.at 1) 256 (fl 0 (Rf.PLEAT_JOB_SRC_HI_SRC.at 1) 32 (fl 0
      (Rf.PLEAT_JOB_CNT_COUNT.at 1) 4 (fl 0 (Rf.PLEAT_JOB_CTL_SET.at 1) 2 (fl 0 (Rf.PLEAT_JOB_CTL_DIR.at 1) 1 (fl 0
      (Rf.PLEAT_JOB_STAT_BUSY.at 1) 1 c))))))))))) &&
    ([9]).all (hyps_SetsAndJobsFollowTheirControls (0) (0) (2) (1) (0) (none) (2) (1) (70)
      ({ slot := 1, result := 6, bits := 77 }) (st (fun c => (fun c : Chip => (List.range 8).foldl (fun c i =>
      c.setWord 0 .spad i { data := BitVec.ofNat 56 (i * 12345678901 + 5), written := true }) c) ((fun c : Chip =>
      (List.range 32).foldl (fun c k => fl 0 (Rf.SPAD_BANK_STATE.at k) 0 c) c) (fl 0 (Rf.PLEAT_JOB_DST_HI_DST.at 1)
      32 (fl 0 (Rf.PLEAT_JOB_DST_LO_DST.at 1) 256 (fl 0 (Rf.PLEAT_JOB_SRC_HI_SRC.at 1) 32 (fl 0
      (Rf.PLEAT_JOB_CNT_COUNT.at 1) 5 (fl 0 (Rf.PLEAT_JOB_CTL_SET.at 1) 2 (fl 0 (Rf.PLEAT_JOB_STAT_BUSY.at 1) 1
      c)))))))))) &&
    ([8]).all (hyps_SetsAndJobsFollowTheirControls (0) (0) (2) (1) (0) (none) (2) (1) (280)
      ({ slot := 1, result := 6, bits := 77 }) (st (fun c => fl 0 (Rf.PLEAT_SET_LEN_LENGTH.at 2) 5 (fl 0
      (Rf.PLEAT_SET_CTL_ENABLE.at 2) 1 ((fun c : Chip => (List.range 8).foldl (fun c i => c.setWord 0 .spad i
      { data := BitVec.ofNat 56 (i * 12345678901 + 5), written := true }) c) ((fun c : Chip => (List.range 32).foldl
      (fun c k => fl 0 (Rf.SPAD_BANK_STATE.at k) 0 c) c) (fl 0 (Rf.PLEAT_JOB_DST_HI_DST.at 1) 32 (fl 0
      (Rf.PLEAT_JOB_DST_LO_DST.at 1) 256 (fl 0 (Rf.PLEAT_JOB_CNT_COUNT.at 1) 5 (fl 0 (Rf.PLEAT_JOB_CTL_SET.at 1) 2
      (fl 0 (Rf.PLEAT_JOB_CTL_KIND.at 1) 3 (fl 0 (Rf.PLEAT_JOB_STAT_BUSY.at 1) 1 c)))))))))))) &&
    ([10]).all (hyps_SetsAndJobsFollowTheirControls (0) (0) (2) (1) (0) (none) (2) (0) (0)
      ({ slot := 1, result := 6, bits := 77 }) (st (fun c => (fun c : Chip => c.onPleat 0 fun p =>
      { p with run := some { slot := 1, result := 6, bits := 77 } }) c))) &&
    ([11]).all (hyps_SetsAndJobsFollowTheirControls (0) (0) (2) (1) (0) (none) (2) (0) (0)
      ({ slot := 1, result := 6, bits := 77 }) (st (fun c => fl 0 (Rf.PLEAT_SET_STAT_RECORDS.at 2) 3 ((fun c : Chip
      => c.onPleat 0 fun p => { p with outs := [2, 5], sums := [(0, 5), (3, 7)] }) (fl 0 (Rf.PLEAT_SET_DST_HI_DST.at
      2) 0x20 (fl 0 (Rf.PLEAT_SET_LEN_LENGTH.at 2) 5 (fl 0 (Rf.PLEAT_SET_CTL_ENABLE.at 2) 1 ((fun c : Chip =>
      (List.range 32).foldl (fun c k => fl 0 (Rf.SPAD_BANK_STATE.at k) 0 c) c) c))))))))) = true := by
  decide +kernel

/-- The hypotheses of clause `cl_` of LanesMoveBetweenPowerStates. -/
def hyps_LanesMoveBetweenPowerStates (t : Fin 256) (d : Fin 4) (k : Fin 8) (v : Word) (lref0 : BitVec 20) (lref1 :
      BitVec 20) (sd : Bool) (s : State) (cl_ : Nat) : Bool :=
  let c := s.chip
  let st := laneState c d k.val
  let lead := groupLead c d k.val = k.val
  let f := fun (x : Chip) (g : Fld) => x.fld d (g.at k.val)
  let writes := granted c d 12 t = true ∧ seamLane c d k.val = false ∧ lead
  decide (up s.chip d = true) &&
  match cl_ with
  | 0 => (decide ((granted c d 12 t = true ∧ seamLane c d k.val = false ∧ groupLead c d k.val = k.val)) && (decide
      (getBits v 31 1 = 0) && true))
  | 1 => (decide ((granted c d 12 t = true ∧ seamLane c d k.val = false ∧ groupLead c d k.val = k.val)) && (decide
      (8 ≤ f c Rf.LANE_PROFILE_PROFILE) && true))
  | 2 => (decide ((granted c d 12 t = true ∧ seamLane c d k.val = false ∧ groupLead c d k.val = k.val)) && true)
  | 3 => (decide (4 ≤ st) && (decide ((c.lane d k.val).pend = none) && (decide ((c.lane d k.val).toSt ≤ 3) &&
      true)))
  | 4 => (decide ((groupLead c d k.val = k.val)) && (decide (st = 0) && (decide (sd = false) && true)))
  | 5 => (decide ((groupLead c d k.val = k.val)) && (decide (st = 1) && (decide (f c Rf.LANE_CTL_AUTOWAKE = 1) &&
      (decide (f c Rf.LANE_CTL_SDWAKE = 1) && (decide (laneRails c d = true) && true)))))
  | 6 => (decide (st ≤ 1) && (decide (f c Rf.LANE_STAT_LOCK = 1) && true))
  | 7 => (decide (st ≤ 1) && true)
  | 8 => (decide (f c Rf.LANE_STAT_PLLLOCK = 1) && true)
  | 9 => (decide (f c Rf.LANE_STAT_PLLLOCK = 0) && true)
  | 10 => (decide (st ≤ 1) && true)
  | _ => false

/-- Every clause of Obligations.LanesMoveBetweenPowerStates with hypotheses is about some state. -/
theorem witness_LanesMoveBetweenPowerStates :
    (([0, 2, 4, 6, 7, 8, 10]).all (hyps_LanesMoveBetweenPowerStates (0) (0) (3) (3) (312500) (0xFFFFF) (false) (st (fun c
      => fl 0 (Rf.LANE_STAT_PLLLOCK.at 3) 1 (fl 0 (Rf.LANE_STAT_LOCK.at 3) 1 (fl 0 (Rf.LANE_STAT_STATE.at 3) 0
      c))))) &&
    ([3, 9]).all (hyps_LanesMoveBetweenPowerStates (0) (0) (3) (0x1F) (312500) (0xFFFFF) (false) (st (fun c => (fun c :
      Chip => c.setLane 0 3 { c.lane 0 3 with toSt := 1 }) (fl 0 (Rf.LANE_STAT_STATE.at 3) 4 c)))) &&
    ([5]).all (hyps_LanesMoveBetweenPowerStates (0) (0) (3) (0) (312500) (0xFFFFF) (true) (st (fun c => fl 0
      (Rf.LANE_CTL_SDWAKE.at 3) 1 (fl 0 (Rf.LANE_CTL_AUTOWAKE.at 3) 1 (fl 0 (Rf.LANE_STAT_PLLLOCK.at 3) 0 (fl 0
      (Rf.LANE_STAT_LOCK.at 3) 1 (fl 0 (Rf.LANE_STAT_STATE.at 3) 1 c))))))) &&
    ([1]).all (hyps_LanesMoveBetweenPowerStates (0) (0) (3) (0x80000000) (312500) (0xFFFFF) (false) (st (fun c => fl 0
      (Rf.LANE_PROFILE_PROFILE.at 3) 9 (fl 0 (Rf.LANE_STAT_STATE.at 3) 3 c))))) = true := by
  decide +kernel

/-- The hypotheses of clause `cl_` of EqualisersAndCheckersFollowTheLine. -/
def hyps_EqualisersAndCheckersFollowTheLine (t : Fin 256) (d : Fin 4) (k : Fin 8) (tap : Fin 12) (v : Word) (accs :
      List Int) (lock : Bool) (bits : BitVec 64) (errs : Nat) (s : State) (cl_ : Nat) : Bool :=
  let c := s.chip
  let f := fun (x : Chip) (g : Fld) => x.fld d (g.at k.val)
  let writes := granted c d 12 t = true ∧ seamLane c d k.val = false
  let pcs := lanePcs c d (groupLead c d k.val)
  let lead := groupLead c d k.val
  decide (up s.chip d = true) &&
  match cl_ with
  | 0 => (decide ((granted c d 12 t = true ∧ seamLane c d k.val = false)) && true)
  | 1 => (decide ((granted c d 12 t = true ∧ seamLane c d k.val = false)) && true)
  | 2 => (decide (f c Rf.LANE_DFE_CTL_FREEZE = 0) && (decide (laneState c d k.val ≤ 1) && (decide (f c
      Rf.LANE_STAT_LOCK = 1) && (decide (lanePcs c d k.val ≠ 6) && true))))
  | 3 => (decide (f c Rf.LANE_DFE_CTL_FREEZE = 1) && true)
  | 4 => (decide (granted c d 12 t = true) && true)
  | 5 => (decide ((granted c d 12 t = true ∧ seamLane c d k.val = false)) && (decide ((12 < getBits v 0 4 ∨ 20 <
      getBits v 8 5 ∨ 20 < getBits v 0 4 + getBits v 8 5)) && true))
  | 6 => (decide ((granted c d 12 t = true ∧ seamLane c d k.val = false)) && (decide (getBits v 0 4 ≤ 12) && (decide
      (getBits v 8 5 ≤ 20) && (decide (getBits v 0 4 + getBits v 8 5 ≤ 20) && true))))
  | 7 => (decide ((granted c d 12 t = true ∧ seamLane c d k.val = false)) && true)
  | 8 => (decide (granted c d 12 t = true) && (decide (f c Rf.LANE_EYE_STAT_BUSY = 1) && true))
  | 9 => (decide (granted c d 12 t = true) && (decide (f c Rf.LANE_EYE_STAT_BUSY = 0) && (decide (getBits v 31 1 =
      1) && true)))
  | 10 => (decide (f c Rf.LANE_EYE_STAT_BUSY = 1) && true)
  | 11 => (decide (1 ≤ pcs) && (decide (pcs ≤ 5) && (decide (c.fld d (Rf.LANE_STAT_HIBER.at lead) = 0) && (decide
      (lead < 8) && true))))
  | 12 => (decide (1 ≤ pcs) && (decide (pcs ≤ 5) && (decide (c.fld d (Rf.LANE_STAT_LOCK.at lead) = 1) && true)))
  | 13 => (decide (f c Rf.LANE_PRBS_RXPAT ≠ 0) && (decide (f c Rf.LANE_STAT_LOCK = 1) && true))
  | 14 => (decide (granted c d 12 t = true) && true)
  | _ => false

/-- Every clause of Obligations.EqualisersAndCheckersFollowTheLine with hypotheses is about some state. -/
theorem witness_EqualisersAndCheckersFollowTheLine :
    (([0, 1, 2, 4, 5, 7, 8, 10, 13, 14]).all (hyps_EqualisersAndCheckersFollowTheLine (0) (0) (3) (0) (0x0008090C) ([5,
      5, 0, -5, -5, -5, 7, 0, 0, 9, 9, 9]) (true) (1000) (5) (st (fun c => fl 0 (Rf.LANE_PRBS_ERR_ERR.at 3)
      0xFFFFFFFE (fl 0 (Rf.LANE_PRBS_RXPAT.at 3) 2 (fl 0 (Rf.LANE_EYE_STAT_BUSY.at 3) 1 (fl 0 (tapF 3 11) 16 (fl 0
      (tapF 3 10) 14 (fl 0 (tapF 3 8) 15 (fl 0 (tapF 3 7) 14 (fl 0 (tapF 3 6) 16 (fl 0 (tapF 3 5) 17 (fl 0 (tapF 3
      4) 33 (fl 0 (tapF 3 3) 32 (fl 0 (tapF 3 2) 31 (fl 0 (tapF 3 1) 62 (fl 0 (Rf.LANE_STAT_LOCK.at 3) 1 (fl 0
      (Rf.LANE_STAT_STATE.at 3) 0 c))))))))))))))))) &&
    ([3, 6, 9]).all (hyps_EqualisersAndCheckersFollowTheLine (0) (0) (3) (1) (0xBF7F0000) ([5, 5, 0, -5, -5, -5, 7, 0,
      0, 9, 9, 9]) (true) (1000) (5) (st (fun c => fl 0 (Rf.LANE_PRBS_BITS_LO_BITS.at 3) 0xFFFFFFFE (fl 0
      (Rf.LANE_PRBS_ERR_ERR.at 3) 0xFFFFFFFE (fl 0 (Rf.LANE_PRBS_RXLOCK.at 3) 1 (fl 0 (Rf.LANE_PRBS_RXPAT.at 3) 2
      (fl 0 (Rf.LANE_DFE_CTL_FREEZE.at 3) 1 (fl 0 (tapF 3 11) 16 (fl 0 (tapF 3 10) 14 (fl 0 (tapF 3 8) 15 (fl 0
      (tapF 3 7) 14 (fl 0 (tapF 3 6) 16 (fl 0 (tapF 3 5) 17 (fl 0 (tapF 3 4) 33 (fl 0 (tapF 3 3) 32 (fl 0 (tapF 3 2)
      31 (fl 0 (tapF 3 1) 62 (fl 0 (Rf.LANE_STAT_LOCK.at 3) 1 (fl 0 (Rf.LANE_STAT_STATE.at 3) 0 c))))))))))))))))))) &&
    ([11, 12]).all (hyps_EqualisersAndCheckersFollowTheLine (0) (0) (6) (1) (0x00080C0C) ([5, 5, 0, -5, -5, -5, 7, 0, 0,
      9, 9, 9]) (true) (1000) (5) (st (fun c => (fun c : Chip => c.setLane 0 4
      { c.lane 0 4 with set := { mode := 2 } }) (fl 0 (Rf.LANE_STAT_LOCK.at 4) 1 (fl 0 (Rf.LANE_STAT_STATE.at 4) 0
      c)))))) = true := by
  decide +kernel

/-- The hypotheses of clause `cl_` of FlowsSendReceiveAndCheck. -/
def hyps_FlowsSendReceiveAndCheck (t : Fin 256) (d : Fin 4) (k : Fin 8) (f : Fin 1024) (u : Fin 256) (n : Nat) (v :
      Word) (start : BitVec 64) (stop : BitVec 64) (data : List Byte) (body : List Byte) (s : State) (cl_ : Nat) :
      Bool :=
  let c := s.chip
  let g := fun (x : Chip) (h : Fld) => x.fld d (h.at f.val)
  let c1 := laneDemand c d k.val false
  let plain := c.fld d (Rf.FLOW_CTL_CMODE.at n) = 0 ∧ c.fld d (Rf.FLOW_CTL_ALIVE_EN.at n) = 0
  let sent := fun x : Chip => x.reply = .bytes body ∧
      x.fld d (Rf.FLOW_TXREQ_PENDING.at n) = c.fld d (Rf.FLOW_TXREQ_PENDING.at n) - 1 ∧
      x.fld d (Rf.FLOW_FRAMES_FRAMES.at n) = min (c.fld d (Rf.FLOW_FRAMES_FRAMES.at n) + 1) (2 ^ 32 - 1)
  let turn := nextTxFlow c d k.val = some n ∧ laneState c1 d (groupLead c1 d k.val) = 0
  let takes := 16400 ≤ sfFree c d ∧ g c Rf.FLOW_CTL_EN = 1 ∧ g c Rf.FLOW_CTL_DIR = 1 ∧ g c Rf.FLOW_CTL_LANE = k.val
  let slotw := g c Rf.FLOW_SIZE_SLOTW
  let chk := granted c d 14 t = true
  decide (up s.chip d = true) && decide (present s.chip d 13 = true) &&
  match cl_ with
  | 0 => (decide (flowOwned c d t f.val = true) && true)
  | 1 => (decide (flowOwned c d t f.val = false) && true)
  | 2 => (decide (nextTxFlow c d k.val = none) && true)
  | 3 => (decide ((nextTxFlow c d k.val = some n ∧ laneState c1 d (groupLead c1 d k.val) = 0)) && (decide ((c.fld d
      (Rf.FLOW_CTL_CMODE.at n) = 0 ∧ c.fld d (Rf.FLOW_CTL_ALIVE_EN.at n) = 0)) && (decide ((c.flow d n).ready = some
      body) && true)))
  | 4 => (decide ((nextTxFlow c d k.val = some n ∧ laneState c1 d (groupLead c1 d k.val) = 0)) && (decide ((c.fld d
      (Rf.FLOW_CTL_CMODE.at n) = 0 ∧ c.fld d (Rf.FLOW_CTL_ALIVE_EN.at n) = 0)) && (decide ((c.flow d n).ready =
      none) && (decide (templateBasted c1 d n = false) && (decide ((template c1 d n).2 = .bytes body) && true)))))
  | 5 => (decide ((nextTxFlow c d k.val = some n ∧ laneState c1 d (groupLead c1 d k.val) = 0)) && (decide ((c.flow d
      n).ready = none) && (decide (templateBasted c1 d n = true) && true)))
  | 6 => (decide (16400 ≤ sfFree c d) && (decide (g c Rf.FLOW_CTL_EN = 0) && true))
  | 7 => (decide ((16400 ≤ sfFree c d ∧ g c Rf.FLOW_CTL_EN = 1 ∧ g c Rf.FLOW_CTL_DIR = 1 ∧ g c Rf.FLOW_CTL_LANE =
      k.val)) && true)
  | 8 => (decide ((16400 ≤ sfFree c d ∧ g c Rf.FLOW_CTL_EN = 1 ∧ g c Rf.FLOW_CTL_DIR = 1 ∧ g c Rf.FLOW_CTL_LANE =
      k.val)) && (decide (g c Rf.FLOW_CTL_CMODE = 0) && (decide (7 * (slotw - 1) < data.length) && true)))
  | 9 => (decide (granted c d 13 t = true) && true)
  | 10 => (decide ((granted c d 14 t = true)) && true)
  | _ => false

/-- Every clause of Obligations.FlowsSendReceiveAndCheck with hypotheses is about some state. -/
theorem witness_FlowsSendReceiveAndCheck :
    (([0, 2, 7, 8, 9, 10]).all (hyps_FlowsSendReceiveAndCheck (0) (0) (3) (1023) (255) (1023) (0) (77) (99)
      ([1,2,3,4,5,6,7,8]) ([]) (st (fun c => (fun c : Chip => (List.range 32).foldl (fun c k => fl 0
      (Rf.SPAD_BANK_STATE.at k) 0 c) c) (fl 0 (Rf.FLOW_SIZE_SLOTS.at 1023) 4 (fl 0 (Rf.FLOW_SIZE_SLOTW.at 1023) 2
      (fl 0 (Rf.FLOW_CTL_DIR.at 1023) 1 (fl 0 (Rf.FLOW_CTL_LANE.at 1023) 3 (fl 0 (Rf.FLOW_CTL_EN.at 1023) 1
      c)))))))) &&
    ([1, 6]).all (hyps_FlowsSendReceiveAndCheck (6) (0) (3) (1023) (255) (1023) (0x1) (77) (99) ([1, 2, 3]) ([]) (st
      (fun c => fl 0 (Rf.FLOW_CTL_TENANT.at 1023) 5 c))) &&
    ([4]).all (hyps_FlowsSendReceiveAndCheck (0) (0) (3) (1023) (255) (1023) (0x1) (77) (99) ([1, 2, 3]) ([111, 56, 184,
      191, 5, 0, 0, 164, 84]) (st (fun c => (fun c : Chip => (List.range 8).foldl (fun c i => c.setWord 0 .spad i
      { data := BitVec.ofNat 56 (i * 12345678901 + 5), written := true }) c) ((fun c : Chip => (List.range 32).foldl
      (fun c k => fl 0 (Rf.SPAD_BANK_STATE.at k) 0 c) c) (fl 0 (Rf.LANE_STAT_STATE.at 3) 0 (fl 0 (Rf.FLOW_BUF_BUF.at
      1023) 2 (fl 0 (Rf.FLOW_SIZE_TLEN.at 1023) 9 (fl 0 (Rf.FLOW_TXREQ_PENDING.at 1023) 2 (fl 0 (Rf.FLOW_CTL_LANE.at
      1023) 3 (fl 0 (Rf.FLOW_CTL_EN.at 1023) 1 c)))))))))) &&
    ([3]).all (hyps_FlowsSendReceiveAndCheck (0) (0) (3) (1023) (255) (1023) (0x1) (77) (99) ([1, 2, 3]) ([8, 9]) (st
      (fun c => (fun c : Chip => c.setFlow 0 1023 { ready := some [8, 9] }) ((fun c : Chip => (List.range 8).foldl
      (fun c i => c.setWord 0 .spad i { data := BitVec.ofNat 56 (i * 12345678901 + 5), written := true }) c) ((fun c
      : Chip => (List.range 32).foldl (fun c k => fl 0 (Rf.SPAD_BANK_STATE.at k) 0 c) c) (fl 0
      (Rf.LANE_STAT_STATE.at 3) 0 (fl 0 (Rf.FLOW_BUF_BUF.at 1023) 2 (fl 0 (Rf.FLOW_SIZE_TLEN.at 1023) 9 (fl 0
      (Rf.FLOW_TXREQ_PENDING.at 1023) 2 (fl 0 (Rf.FLOW_CTL_LANE.at 1023) 3 (fl 0 (Rf.FLOW_CTL_EN.at 1023) 1
      c))))))))))) &&
    ([5]).all (hyps_FlowsSendReceiveAndCheck (0) (0) (3) (1023) (255) (1023) (0x1) (77) (99) ([1, 2, 3]) ([]) (st (fun c
      => (fun c : Chip => c.setWord 0 .spad 3 { c.word 0 .spad 3 with tag := .ingest }) ((fun c : Chip =>
      (List.range 8).foldl (fun c i => c.setWord 0 .spad i
      { data := BitVec.ofNat 56 (i * 12345678901 + 5), written := true }) c) ((fun c : Chip => (List.range 32).foldl
      (fun c k => fl 0 (Rf.SPAD_BANK_STATE.at k) 0 c) c) (fl 0 (Rf.LANE_STAT_STATE.at 3) 0 (fl 0 (Rf.FLOW_BUF_BUF.at
      1023) 2 (fl 0 (Rf.FLOW_SIZE_TLEN.at 1023) 9 (fl 0 (Rf.FLOW_TXREQ_PENDING.at 1023) 2 (fl 0 (Rf.FLOW_CTL_LANE.at
      1023) 3 (fl 0 (Rf.FLOW_CTL_EN.at 1023) 1 c)))))))))))) = true := by
  decide +kernel

/-- The hypotheses of clause `cl_` of DramRequestsReadWhatWasWritten. -/
def hyps_DramRequestsReadWhatWasWritten (d : Fin 4) (port : Fin 16) (off : BitVec 38) (n : Nat) (g : Nat) (data :
      List Byte) (errs : List Nat) (s : State) (cl_ : Nat) : Bool :=
  let c := s.chip
  let x := (c.d d).dram
  let gran := physOf c d off.toNat / 16
  let served := channelFree c d = true ∧ portOn c d port.val = false ∧ x.held = [] ∧ off.toNat % 16 = 0 ∧
      off.toNat + 16 ≤ dramCap c d
  decide (up s.chip d = true) &&
  match cl_ with
  | 0 => (decide ((channelFree c d = true ∧ portOn c d port.val = false ∧ x.held = [] ∧ off.toNat % 16 = 0 ∧
      off.toNat + 16 ≤ dramCap c d)) && (decide (data.length = 16) && true))
  | 1 => (decide (data.length = 16) && true)
  | 2 => (decide ((channelFree c d = true ∧ portOn c d port.val = false ∧ x.held = [] ∧ off.toNat % 16 = 0 ∧
      off.toNat + 16 ≤ dramCap c d)) && (decide (chipkill c d = false) && (decide ((∀ e ∈ x.merge, e.gran ≠ gran))
      && true)))
  | 3 => (decide ((channelFree c d = true ∧ portOn c d port.val = false ∧ x.held = [] ∧ off.toNat % 16 = 0 ∧
      off.toNat + 16 ≤ dramCap c d)) && (decide (chipkill c d = true) && (decide (granPoisoned c d gran = false) &&
      (decide (granOpen c d gran = false) && (decide ((∀ e ∈ x.merge, e.gran ≠ gran)) && true)))))
  | 4 => (decide ((channelFree c d = true ∧ portOn c d port.val = false ∧ x.held = [] ∧ off.toNat % 16 = 0 ∧
      off.toNat + 16 ≤ dramCap c d)) && (decide (chipkill c d = true) && (decide (granPoisoned c d gran = true) &&
      (decide ((∀ e ∈ x.merge, e.gran ≠ gran)) && true))))
  | 5 => (decide (dramCap c d < off.toNat + n) && true)
  | 6 => (decide (dramCap c d < off.toNat + data.length) && true)
  | 7 => (decide (off.toNat + data.length ≤ dramCap c d) && (decide (c.fld d Rf.DRAM_STAT_IN_SR = 1) && true))
  | 8 => (decide ((∃ e ∈ x.merge, e.gran = g ∧ 512 ≤ entryAge c d e)) && true)
  | 9 => (decide ((∀ e ∈ x.merge, e.gran = g → entryAge c d e < 512)) && true)
  | _ => false

/-- Every clause of Obligations.DramRequestsReadWhatWasWritten with hypotheses is about some state. -/
theorem witness_DramRequestsReadWhatWasWritten :
    (([0, 1, 2, 9]).all (hyps_DramRequestsReadWhatWasWritten (1) (5) (0x12340) (16) (7) ((List.range 16).map fun i =>
      BitVec.ofNat 8 (i * 17 + 1)) ([]) (st (fun c => fl 1 Rf.DRAM_CTL_EN 1 c))) &&
    ([5, 6]).all (hyps_DramRequestsReadWhatWasWritten (1) (5) (0x12340) (17) (7) ([5]) ([]) (st (fun c => c))) &&
    ([3]).all (hyps_DramRequestsReadWhatWasWritten (1) (5) (0x12340) (16) (7) ((List.range 16).map fun i => BitVec.ofNat
      8 (i * 17 + 1)) ([]) (st (fun c => (fun c : Chip => c.onDram 1 fun x => { x with zeroed := true }) (fl 1
      Rf.DRAM_GEOM_CHIPKILL 1 (fl 1 Rf.DRAM_CTL_EN 1 c))))) &&
    ([4]).all (hyps_DramRequestsReadWhatWasWritten (1) (5) (0x12340) (16) (7) ((List.range 16).map fun i => BitVec.ofNat
      8 (i * 17 + 1)) ([1]) (st (fun c => (fun c : Chip => c.onDram 1 fun x =>
      { x with zeroed := true, poison := [(physOf c 1 0x12340 / 16, true)] }) (fl 1 Rf.DRAM_GEOM_CHIPKILL 1 (fl 1
      Rf.DRAM_CTL_EN 1 c))))) &&
    ([7]).all (hyps_DramRequestsReadWhatWasWritten (1) (5) (0x12340) (16) (7) ([5, 6]) ([]) (st (fun c => fl 1
      Rf.DRAM_CTL_EN 1 (fl 1 Rf.DRAM_CTL_SR 1 (fl 1 Rf.DRAM_STAT_IN_SR 1 c))))) &&
    ([8]).all (hyps_DramRequestsReadWhatWasWritten (1) (5) (0x12340) (16) (7) ([5, 6]) ([]) (st (fun c => (fun c : Chip
      => c.onDram 1 fun x =>
      { x with zeroed := true, merge := [{ gran := 7, off := 112, bytes := List.replicate 16 (some 9), born := 1000 }] })
      (tm 1 9000 (fl 1 Rf.DRAM_CTL_EN 1 c)))))) = true := by
  decide +kernel

/-- The hypotheses of clause `cl_` of DramUpkeepFollowsTime in Obligations.DramControlAndUpkeepTakeEffect. -/
def hyps_DramUpkeepFollowsTime (d : Fin 4) (rank : Fin 2) (bank : Fin 8) (c0 : BitVec 3) (c1 : BitVec 3) (p : Fin
      16) (ok : Bool) (queued : Bool) (errs : List Nat) (s : State) (cl_ : Nat) : Bool :=
  let c := s.chip
  let x := (c.d d).dram
  let w := c.reg d (Rf.DRAM_REG_CTL_EN.at p.val).key
  let ceil := getBits w 16 13 * 8000
  let bankNo := 8 * rank.val + bank.val
  let waits := mapGet (fun _ => 0) x.waiting bankNo + 1
  let two := c.fld d Rf.DRAM_GEOM_RANKS2 = 1
  let trains := c.fld d Rf.DRAM_CTL_EN = 1 ∧ channelFree c d = true ∧ retrainNeeded c d = true ∧
      (ticking c d = false ∨ (c.d d).tick.phase = .slack)
  let trained := c.onDram d fun y => { y with trainAt := c.now d, trainTemp := highestTemp c d }
  let scrubs := chipkill c d = true ∧ c.fld d Rf.DRAM_PATROL_HOURS ≠ 0 ∧ c.fld d Rf.DRAM_STAT_CLEARED = 1 ∧
      c.fld d Rf.DRAM_CTL_EN = 1 ∧ channelFree c d = true
  decide (up s.chip d = true) &&
  match cl_ with
  | 0 => (decide ((c.now d).toNat % 64 ≠ 0) && true)
  | 1 => (decide ((c.now d).toNat % 64 = 0) && (decide (x.held = []) && true))
  | 2 => true
  | 3 => true
  | 4 => (decide (¬ (c.fld d Rf.DRAM_CTL_EN = 1 ∧ channelFree c d = true ∧ retrainNeeded c d = true ∧ (ticking c d =
      false ∨ (c.d d).tick.phase = .slack))) && true)
  | 5 => (decide ((c.fld d Rf.DRAM_CTL_EN = 1 ∧ channelFree c d = true ∧ retrainNeeded c d = true ∧ (ticking c d =
      false ∨ (c.d d).tick.phase = .slack))) && (decide (ok = true) && true))
  | 6 => (decide ((c.fld d Rf.DRAM_CTL_EN = 1 ∧ channelFree c d = true ∧ retrainNeeded c d = true ∧ (ticking c d =
      false ∨ (c.d d).tick.phase = .slack))) && (decide (ok = false) && true))
  | 7 => (decide (¬ (chipkill c d = true ∧ c.fld d Rf.DRAM_PATROL_HOURS ≠ 0 ∧ c.fld d Rf.DRAM_STAT_CLEARED = 1 ∧
      c.fld d Rf.DRAM_CTL_EN = 1 ∧ channelFree c d = true)) && true)
  | 8 => (decide ((chipkill c d = true ∧ c.fld d Rf.DRAM_PATROL_HOURS ≠ 0 ∧ c.fld d Rf.DRAM_STAT_CLEARED = 1 ∧ c.fld
      d Rf.DRAM_CTL_EN = 1 ∧ channelFree c d = true)) && true)
  | _ => false

/-- The hypotheses of clause `cl_` of DramControlTakesEffect in Obligations.DramControlAndUpkeepTakeEffect. -/
def hyps_DramControlTakesEffect (t : Fin 256) (d : Fin 4) (ok : Bool) (rank : Fin 2) (v : Word) (i : Nat) (s :
      State) (cl_ : Nat) : Bool :=
  let c := s.chip
  let x := (c.d d).dram
  let f := fun h : Fld => c.fld d h
  let idle := f Rf.DRAM_STAT_BUSY = 0
  let off := f Rf.DRAM_CTL_EN = 0
  let good := bit c.compat 5 = true ∨ masksOk c d = true
  decide (MayWrite s.chip d 15 t) &&
  match cl_ with
  | 0 => (decide (¬ (c.fld d Rf.DRAM_STAT_BUSY = 0) ∨ ¬ (c.fld d Rf.DRAM_CTL_EN = 0)) && true)
  | 1 => (decide ((c.fld d Rf.DRAM_STAT_BUSY = 0)) && (decide ((c.fld d Rf.DRAM_CTL_EN = 0)) && true))
  | 2 => (decide (¬ (c.fld d Rf.DRAM_STAT_BUSY = 0)) && (decide (f Rf.DRAM_STAT_READY = 0) && (decide (ok = true) &&
      (decide (dramRails c d = true) && true))))
  | 3 => (decide (¬ (c.fld d Rf.DRAM_STAT_BUSY = 0)) && (decide (f Rf.DRAM_STAT_READY = 0) && (decide (ok = false)
      && true)))
  | 4 => (decide ((c.fld d Rf.DRAM_STAT_BUSY = 0)) && (decide (¬ (c.fld d Rf.DRAM_CTL_EN = 0)) && true))
  | 5 => (decide (¬ (c.fld d Rf.DRAM_STAT_BUSY = 0)) && (decide (f Rf.DRAM_STAT_READY = 1) && (decide (x.held = [])
      && true)))
  | 6 => true
  | 7 => (decide (f Rf.DRAM_STAT_IN_SR = 0) && true)
  | 8 => (decide (f Rf.DRAM_STAT_IN_SR = 1) && (decide (f Rf.DRAM_CTL_SR = 0) && (decide (x.held = []) && true)))
  | 9 => (decide ((c.fld d Rf.DRAM_CTL_EN = 0)) && (decide (f Rf.DRAM_STAT_READY = 0) && true))
  | 10 => (decide ((c.fld d Rf.DRAM_CTL_EN = 0)) && (decide (f Rf.DRAM_STAT_READY = 1) && (decide (¬ (bit c.compat 5
      = true ∨ masksOk c d = true)) && true)))
  | 11 => (decide ((c.fld d Rf.DRAM_CTL_EN = 0)) && (decide (f Rf.DRAM_STAT_READY = 1) && (decide ((bit c.compat 5 =
      true ∨ masksOk c d = true)) && true)))
  | 12 => true
  | _ => false

/-- Every clause of Obligations.DramControlAndUpkeepTakeEffect with hypotheses is about some state. -/
theorem witness_DramControlAndUpkeepTakeEffect :
    (([0, 2, 3, 4, 7]).all (hyps_DramUpkeepFollowsTime (1) (1) (5) (3) (6) (9) (true) (true) ([]) (st (fun c => tm 1 65
      c))) &&
    ([1, 8]).all (hyps_DramUpkeepFollowsTime (1) (1) (5) (3) (6) (9) (true) (true) ([]) (st (fun c => (fun c : Chip =>
      c.onDram 1 fun x => { x with zeroed := true }) (fl 1 Rf.DRAM_STAT_CLEARED 1 (fl 1 Rf.DRAM_PATROL_HOURS 24 (fl
      1 Rf.DRAM_GEOM_CHIPKILL 1 (fl 1 Rf.DRAM_CTL_EN 1 c))))))) &&
    ([5]).all (hyps_DramUpkeepFollowsTime (1) (1) (5) (3) (6) (9) (true) (true) ([]) (st (fun c => tm 1 999999999999 (fl
      1 Rf.DRAM_CTL_EN 1 c)))) &&
    ([6]).all (hyps_DramUpkeepFollowsTime (1) (1) (5) (3) (6) (9) (false) (true) ([]) (st (fun c => tm 1 999999999999
      (fl 1 Rf.DRAM_CTL_EN 1 c)))) &&
    ([0, 2, 6, 7, 9, 12]).all (hyps_DramControlTakesEffect (0) (1) (true) (0) (0x1F) (999) (st (fun c => fl 1
      Rf.DRAM_STAT_BUSY 1 c))) &&
    ([4, 8]).all (hyps_DramControlTakesEffect (0) (1) (true) (0) (0x1F) (999) (st (fun c => fl 1 Rf.DRAM_STAT_IN_SR 1
      (fl 1 Rf.DRAM_CTL_EN 1 c)))) &&
    ([1, 11]).all (hyps_DramControlTakesEffect (0) (1) (true) (0) (0x1F) (999) (st (fun c => fl 1 Rf.DRAM_STAT_READY 1
      c))) &&
    ([3]).all (hyps_DramControlTakesEffect (0) (1) (false) (0) (0x1F) (999) (st (fun c => fl 1 Rf.DRAM_STAT_BUSY 1 c))) &&
    ([5]).all (hyps_DramControlTakesEffect (0) (1) (true) (0) (0x1F) (999) (st (fun c => (fun c : Chip => c.onDram 1 fun
      x => { x with zeroed := false, poison := [(999, true)], cells := [(999, some 3)] }) (fl 1 Rf.DRAM_STAT_READY 1
      (fl 1 Rf.DRAM_CTL_EN 1 (fl 1 Rf.DRAM_STAT_BUSY 1 c)))))) &&
    ([10]).all (hyps_DramControlTakesEffect (0) (1) (true) (0) (0x1F) (999) (st (fun c => fl 1 (Rf.DRAM_BMASK_MASK.at 0)
      0 (fl 1 Rf.DRAM_STAT_READY 1 c))))) = true := by
  decide +kernel

/-- The hypotheses of clause `cl_` of LinksTrainRetryAndFail in Obligations.SeamLinksAndGroupsFollowTheirEvents. -/
def hyps_LinksTrainRetryAndFail (t : Fin 256) (d : Fin 4) (n : Fin 4) (lat : BitVec 16) (lack : BitVec 8) (nak :
      Bool) (s : State) (cl_ : Nat) : Bool :=
  let c := s.chip
  let x := c.link d n.val
  let hears := linkHears c d n.val = true
  let takes := hears ∧ senderStalls c d n.val = false ∧ retryLate c d n.val = false
  let near := (recentRetries c d x).length
  let oldest := x.lseq - BitVec.ofNat 8 x.unacked
  let released := (lack + 1 - oldest).toNat
  decide (up s.chip d = true) && decide (hasLink s.chip d n.val = true) &&
  match cl_ with
  | 0 => (decide (x.st ≠ 1) && true)
  | 1 => (decide (x.st = 1) && true)
  | 2 => (decide (x.st = 1) && true)
  | 3 => (decide ((linkHears c d n.val = true ∧ senderStalls c d n.val = false ∧ retryLate c d n.val = false)) &&
      (decide ((n.val < 2 → (c.link (peerDie d n.val) (1 - n.val)).inject = false)) && true))
  | 4 => (decide ((linkHears c d n.val = true ∧ senderStalls c d n.val = false ∧ retryLate c d n.val = false)) &&
      (decide (x.fails < 8) && (decide (near < 16) && true)))
  | 5 => (decide ((linkHears c d n.val = true ∧ senderStalls c d n.val = false ∧ retryLate c d n.val = false)) &&
      (decide ((8 ≤ x.fails ∨ 16 ≤ near)) && true))
  | 6 => (decide ((linkHears c d n.val = true)) && true)
  | 7 => (decide ((linkHears c d n.val = true)) && (decide (retryLate c d n.val = true) && true))
  | 8 => (decide (retryLate c d n.val = false) && true)
  | 9 => (decide (x.st = 2) && (decide ((∀ e ∈ linkEnds d n.val, up c e.1 = true)) && true))
  | 10 => (decide (t ≠ 0) && true)
  | 11 => (decide (granted c d 16 t = true) && true)
  | _ => false

/-- The hypotheses of clause `cl_` of GroupMembershipFollowsRequests in Obligations.SeamLinksAndGroupsFollowTheirEvents. -/
def hyps_GroupMembershipFollowsRequests (t : Fin 256) (v : Word) (p : Fin 8) (size : Fin 8) (started : Bool) (image
      : BitVec 64) (time : BitVec 64) (n : Fin 4) (s : State) (cl_ : Nat) : Bool :=
  let c := s.chip
  let f := fun (k : Chip) (h : Fld) => k.fld 0 h
  let own := f c Rf.SEAM_GRP_CTL_PKG
  let judge := groupOn c = true ∧ own = 0 ∧ p ≠ 0
  let reason := if started then 6
      else if image.toNat ≠ c.fld64 0 Rf.CFG_IMAGEID_LO_ID Rf.CFG_IMAGEID_HI_ID then 2
      else if bit (f c Rf.SEAM_GRP_STAT_MEMBERS) p.val then 3
      else if size.val ≠ f c Rf.SEAM_GRP_CTL_SIZE_M1 then 4 else 1
  decide (up s.chip 0 = true) &&
  match cl_ with
  | 0 => (decide (granted c 0 16 t = true) && (decide (groupOn c = false) && (decide (getBits v 8 1 = 1) && (decide
      (getBits v 4 3 ≠ 0) && true))))
  | 1 => (decide (granted c 0 16 t = true) && (decide (groupOn c = true) && (decide (getBits v 8 1 = 0) && true)))
  | 2 => (decide (groupOn c = true) && (decide (own ≠ 0) && (decide (f c Rf.SEAM_GRP_STAT_STATE ≠ 2) && true)))
  | 3 => (decide ((groupOn c = true ∧ c.fld 0 Rf.SEAM_GRP_CTL_PKG = 0 ∧ p ≠ 0)) && (decide (reason = 1) && true))
  | 4 => (decide ((groupOn c = true ∧ c.fld 0 Rf.SEAM_GRP_CTL_PKG = 0 ∧ p ≠ 0)) && (decide (reason ≠ 1) && true))
  | 5 => (decide (follows c = true) && true)
  | 6 => (decide (follows c = false) && true)
  | 7 => (decide (2 ≤ n.val) && (decide (linkHears c 0 n.val = true) && (decide (retryLate c 0 n.val = false) &&
      (decide (own ≠ 0) && (decide (f c Rf.SEAM_GRP_STAT_STATE = 1) && true)))))
  | _ => false

/-- Every clause of Obligations.SeamLinksAndGroupsFollowTheirEvents with hypotheses is about some state. -/
theorem witness_SeamLinksAndGroupsFollowTheirEvents :
    (([0, 3, 4, 6, 8, 11]).all (hyps_LinksTrainRetryAndFail (0) (2) (0) (77) (9) (false) (st (fun c => ring c))) &&
    ([1, 2]).all (hyps_LinksTrainRetryAndFail (0) (2) (0) (77) (9) (false) (st (fun c => c))) &&
    ([10]).all (hyps_LinksTrainRetryAndFail (5) (2) (0) (77) (9) (false) (st (fun c => (fun c : Chip => c.setLink 2 0
      { c.link 2 0 with lseq := 12, unacked := 5, fails := 3, first := 3500, expect := 255 }) (ring (tm 2 5000
      c))))) &&
    ([5]).all (hyps_LinksTrainRetryAndFail (0) (2) (0) (77) (1) (false) (st (fun c => (fun c : Chip => c.setLink 2 0
      { c.link 2 0 with lseq := 12, unacked := 5, fails := 8, first := 3500 }) (ring (tm 2 5000 c))))) &&
    ([7]).all (hyps_LinksTrainRetryAndFail (0) (2) (1) (77) (9) (true) (st (fun c => (fun c : Chip => c.setLink 2 1
      { c.link 2 1 with fails := 1, first := 2999 }) (ring (tm 2 5000 c))))) &&
    ([9]).all (hyps_LinksTrainRetryAndFail (0) (2) (0) (77) (9) (false) (st (fun c => (fun c : Chip => c.setLink 2 0
      { c.link 2 0 with st := 2 }) c))) &&
    ([1, 3, 6]).all (hyps_GroupMembershipFollowsRequests (0) (0) (3) (3) (false) (0) (123456789) (2) (st (fun c => fl 0
      Rf.SEAM_GRP_CTL_SIZE_M1 3 (fl 0 Rf.SEAM_GRP_CTL_EN 1 c)))) &&
    ([2, 7]).all (hyps_GroupMembershipFollowsRequests (0) (0x137) (3) (3) (false) (0) (123456789) (2) (st (fun c => (fun
      c : Chip => c.setLink 0 3 { c.link 0 3 with st := 0 }) ((fun c : Chip => c.setLink 0 2
      { c.link 0 2 with st := 0 }) (fl 0 Rf.SEAM_GRP_STAT_STATE 1 (fl 0 Rf.SEAM_GRP_CTL_PKG 2 (fl 0
      Rf.SEAM_GRP_CTL_SIZE_M1 3 (fl 0 Rf.SEAM_GRP_CTL_EN 1 c)))))))) &&
    ([0]).all (hyps_GroupMembershipFollowsRequests (0) (0x137) (3) (3) (false) (0) (123456789) (2) (st (fun c => c))) &&
    ([4]).all (hyps_GroupMembershipFollowsRequests (0) (0x137) (3) (3) (false) (0) (123456789) (2) (st (fun c => fl 0
      Rf.SEAM_GRP_STAT_MEMBERS 9 (fl 0 Rf.SEAM_GRP_CTL_SIZE_M1 3 (fl 0 Rf.SEAM_GRP_CTL_EN 1 c))))) &&
    ([5]).all (hyps_GroupMembershipFollowsRequests (0) (0x137) (3) (3) (false) (0) (123456789) (2) (st (fun c => fl 0
      Rf.SEAM_GRP_STAT_MEMBERS 5 (fl 0 Rf.SEAM_GRP_STAT_STATE 2 (fl 0 Rf.SEAM_GRP_CTL_PKG 2 (fl 0
      Rf.SEAM_GRP_CTL_SIZE_M1 3 (fl 0 Rf.SEAM_GRP_CTL_EN 1 c)))))))) = true := by
  decide +kernel

/-- The hypotheses of clause `cl_` of RecipeCommandsStartStopAndUpdate. -/
def hyps_RecipeCommandsStartStopAndUpdate (t : Fin 256) (c : List Word) (block : List Word) (r : RInst) (s : State)
      (cl_ : Nat) : Bool :=
  let x := s.chip
  let d := cmdDie c
  let n := cmdInst c
  let ready := headCmd x t = some c ∧ badWord c = none ∧ tenEnabled x t = true ∧ (x.host t).cmds = [c] ∧ up x d =
      true
  let told := fun (k : Chip) (cid : BitVec 16) (st : Nat) => ∃ q ∈ (k.host t).compl, q.cid = cid ∧ q.status = st
  match cl_ with
  | 0 => (decide ((headCmd x t = some c ∧ badWord c = none ∧ tenEnabled x t = true ∧ (x.host t).cmds = [c] ∧ up x d
      = true)) && (decide (cmdOp c = 2) && (decide ((x.d d).yoke.prog = false) && (decide (x.inst d n = none) &&
      (decide (blockRefused x d (newInst t c block) = none) && true)))))
  | 1 => (decide ((headCmd x t = some c ∧ badWord c = none ∧ tenEnabled x t = true ∧ (x.host t).cmds = [c] ∧ up x d
      = true)) && (decide (cmdOp c = 2) && (decide (((x.d d).yoke.prog = true ∨ x.inst d n ≠ none)) && true)))
  | 2 =>
      (match blockRefused x d (newInst t c block) with
      | some (st, det) =>
        decide ((headCmd x t = some c ∧ badWord c = none ∧ tenEnabled x t = true ∧ (x.host t).cmds = [c] ∧ up x d =
          true) ∧ cmdOp c = 2 ∧ (x.d d).yoke.prog = false ∧ x.inst d n = none) && true
      | none => false)
  | 3 => (decide ((headCmd x t = some c ∧ badWord c = none ∧ tenEnabled x t = true ∧ (x.host t).cmds = [c] ∧ up x d
      = true)) && (decide (cmdOp c = 3) && (decide (x.inst d n = some r) && (decide (r.ten = t) && true))))
  | 4 => (decide ((headCmd x t = some c ∧ badWord c = none ∧ tenEnabled x t = true ∧ (x.host t).cmds = [c] ∧ up x d
      = true)) && (decide (cmdOp c = 3) && (decide (x.inst d n = none) && true)))
  | 5 => (decide ((headCmd x t = some c ∧ badWord c = none ∧ tenEnabled x t = true ∧ (x.host t).cmds = [c] ∧ up x d
      = true)) && (decide (cmdOp c = 4) && (decide (x.inst d n = some r) && (decide (r.ten = t) && (decide
      (blockRefused x d { r with block := block } = none) && true)))))
  | _ => false

/-- Every clause of Obligations.RecipeCommandsStartStopAndUpdate with hypotheses is about some state. -/
theorem witness_RecipeCommandsStartStopAndUpdate :
    (([0]).all (hyps_RecipeCommandsStartStopAndUpdate (3) ([0x00090202, 0, 0x0307, 0, 0, 0, 0, 0, 0, 0, 0, 0, 0, 0, 0,
      0]) ([0x0107, 0, 0x1000]) ({ ten := 3, cid := 9, irq := false, rcp := 7, block := [0x0107, 0, 0x1000] }) (st
      (fun c => (fun c : Chip => c.setHost 3
      { cmds := [[0x00090202, 0, 0x0307, 0, 0, 0, 0, 0, 0, 0, 0, 0, 0, 0, 0, 0]] }) (fl 0 Rf.HOST_LINK_UP 1 (fl 0
      (Rf.YOKE_TEN_CTL_ENABLE.at 3) 1 c))))) &&
    ([1]).all (hyps_RecipeCommandsStartStopAndUpdate (3) ([0x00090202, 0, 0x0307, 0, 0, 0, 0, 0, 0, 0, 0, 0, 0, 0, 0,
      0]) ([0x0107, 0, 0x1000]) ({ ten := 3, cid := 9, irq := false, rcp := 7, block := [0x0107, 0, 0x1000] }) (st
      (fun c => (fun c : Chip => c.setInst 2 3 (some
      { ten := 3, cid := 9, irq := false, rcp := 7, block := [0x0107, 0, 0x1000] })) ((fun c : Chip => c.setHost 3
      { cmds := [[0x00090202, 0, 0x0307, 0, 0, 0, 0, 0, 0, 0, 0, 0, 0, 0, 0, 0]] }) (fl 0 Rf.HOST_LINK_UP 1 (fl 0
      (Rf.YOKE_TEN_CTL_ENABLE.at 3) 1 c)))))) &&
    ([2]).all (hyps_RecipeCommandsStartStopAndUpdate (3) ([0x00090202, 0, 0x0307, 0, 0, 0, 0, 0, 0, 0, 0, 0, 0, 0, 0,
      0]) ([0x0207]) ({ ten := 3, cid := 9, irq := false, rcp := 7, block := [0x0107, 0, 0x1000] }) (st (fun c =>
      (fun c : Chip => c.setHost 3 { cmds := [[0x00090202, 0, 0x0307, 0, 0, 0, 0, 0, 0, 0, 0, 0, 0, 0, 0, 0]] }) (fl
      0 Rf.HOST_LINK_UP 1 (fl 0 (Rf.YOKE_TEN_CTL_ENABLE.at 3) 1 c))))) &&
    ([3]).all (hyps_RecipeCommandsStartStopAndUpdate (3) ([0x000A0203, 0, 0x0300, 0, 0, 0, 0, 0, 0, 0, 0, 0, 0, 0, 0,
      0]) ([0x0107, 0, 0x1000]) ({ ten := 3, cid := 9, irq := false, rcp := 7, block := [0x0107, 0, 0x1000] }) (st
      (fun c => (fun c : Chip => c.setInst 2 3 (some
      { ten := 3, cid := 9, irq := false, rcp := 7, block := [0x0107, 0, 0x1000] })) ((fun c : Chip => c.setHost 3
      { cmds := [[0x000A0203, 0, 0x0300, 0, 0, 0, 0, 0, 0, 0, 0, 0, 0, 0, 0, 0]] }) (fl 0 Rf.HOST_LINK_UP 1 (fl 0
      (Rf.YOKE_TEN_CTL_ENABLE.at 3) 1 c)))))) &&
    ([4]).all (hyps_RecipeCommandsStartStopAndUpdate (3) ([0x000A0203, 0, 0x0300, 0, 0, 0, 0, 0, 0, 0, 0, 0, 0, 0, 0,
      0]) ([0x0107, 0, 0x1000]) ({ ten := 3, cid := 9, irq := false, rcp := 7, block := [0x0107, 0, 0x1000] }) (st
      (fun c => (fun c : Chip => c.setHost 3
      { cmds := [[0x000A0203, 0, 0x0300, 0, 0, 0, 0, 0, 0, 0, 0, 0, 0, 0, 0, 0]] }) (fl 0 Rf.HOST_LINK_UP 1 (fl 0
      (Rf.YOKE_TEN_CTL_ENABLE.at 3) 1 c))))) &&
    ([5]).all (hyps_RecipeCommandsStartStopAndUpdate (3) ([0x000B0204, 0, 0x0300, 0, 0, 0, 0, 0, 0, 0, 0, 0, 0, 0, 0,
      0]) ([0x0107, 0, 0x1000]) ({ ten := 3, cid := 9, irq := false, rcp := 7, block := [0x0107, 0, 0x1000] }) (st
      (fun c => (fun c : Chip => c.setInst 2 3 (some
      { ten := 3, cid := 9, irq := false, rcp := 7, block := [0x0107, 0, 0x1000] })) ((fun c : Chip => c.setHost 3
      { cmds := [[0x000B0204, 0, 0x0300, 0, 0, 0, 0, 0, 0, 0, 0, 0, 0, 0, 0, 0]] }) (fl 0 Rf.HOST_LINK_UP 1 (fl 0
      (Rf.YOKE_TEN_CTL_ENABLE.at 3) 1 c))))))) = true := by
  decide +kernel

/-- The hypotheses of clause `cl_` of FrameCodeCorrectsOneAndFindsTwo in Obligations.DarnerCodeAndPassesCorrectErrors. -/
def hyps_FrameCodeCorrectsOneAndFindsTwo (a : Fin 39) (b : Fin 39) (cl_ : Nat) : Bool :=

  match cl_ with
  | 3 => (decide (a ≠ b) && true)
  | _ => false

/-- The hypotheses of clause `cl_` of DarnerChecksFramesAndMemories in Obligations.DarnerCodeAndPassesCorrectErrors. -/
def hyps_DarnerChecksFramesAndMemories (d : Fin 4) (flips : List Nat) (e : Fin 3) (w : Nat) (p : Nat) (s : State)
      (cl_ : Nat) : Bool :=
  let c := s.chip
  let x := (c.d d).darner
  let f := nextFrame 97 c d x.frame
  let us := flips.foldl (fun us u => if u < 1576 then toggle us u else us) (c.upsetsAt d f)
  let checks := (c.d d).reload = none ∧ f < 196608
  let after := fun k : Chip => (k.d d).darner.frame = nextFrame 97 c d (f + 1)
  let one := fun (h : Fld) => min (c.fld d h + 1) (2 ^ h.w - 1)
  let ended := 196608 ≤ f ∧ ∀ i < 3, engineWords i ≤ enginePos x i
  decide (up s.chip d = true) && decide (darnerWorks s.chip d = true) &&
  match cl_ with
  | 0 => (decide (((c.d d).reload = none ∧ f < 196608)) && (decide (frameErr us = .none) && true))
  | 1 => (decide (((c.d d).reload = none ∧ f < 196608)) && (decide (frameErr us = .single w p) && true))
  | 2 => (decide (((c.d d).reload = none ∧ f < 196608)) && (decide (frameErr us = .multi) && (decide (regionOfGrain
      c d (f / 2048) = none) && true)))
  | 3 => (decide ((c.d d).reload ≠ none) && true)
  | 4 => (decide (engineWords e.val ≤ enginePos x e.val) && true)
  | 5 => (decide (enginePos x e.val < engineWords e.val) && true)
  | 6 => (decide (¬ (196608 ≤ f ∧ ∀ i : Nat, i < 3 → engineWords i ≤ enginePos x i)) && true)
  | 7 => (decide ((196608 ≤ f ∧ ∀ i : Nat, i < 3 → engineWords i ≤ enginePos x i)) && true)
  | _ => false

set_option maxRecDepth 20000 in
/-- Every clause of Obligations.DarnerCodeAndPassesCorrectErrors with hypotheses is about some state. -/
theorem witness_DarnerCodeAndPassesCorrectErrors :
    (([3]).all (hyps_FrameCodeCorrectsOneAndFindsTwo (0) (1)) &&
    ([0, 5, 6]).all (hyps_DarnerChecksFramesAndMemories (1) ([]) (1) (0) (0) (st (fun c => fl 0 Rf.CFG_STAT_STATE 2
      ((fun c : Chip => c.upd 1 fun x => { x with darner := { x.darner with active := true } }) c)))) &&
    ([4, 7]).all (hyps_DarnerChecksFramesAndMemories (1) ([]) (1) (0) (0) (st (fun c => (fun c : Chip => c.upd 1 fun x
      =>
      { x with darner := { x.darner with frame := 196608, spad := 999999999, bmem := 999999999, cst := 9999999999, active := true } })
      (fl 0 Rf.CFG_STAT_STATE 2 ((fun c : Chip => c.upd 1 fun x =>
      { x with darner := { x.darner with active := true } }) c))))) &&
    ([1]).all (hyps_DarnerChecksFramesAndMemories (1) ([5]) (1) (0) (10) (st (fun c => fl 0 Rf.CFG_STAT_STATE 2 ((fun c
      : Chip => c.upd 1 fun x => { x with darner := { x.darner with active := true } }) c)))) &&
    ([2]).all (hyps_DarnerChecksFramesAndMemories (1) ([5, 6]) (1) (0) (0) (st (fun c => fl 0 Rf.CFG_STAT_STATE 2 ((fun
      c : Chip => c.upd 1 fun x => { x with darner := { x.darner with active := true } }) c)))) &&
    ([3]).all (hyps_DarnerChecksFramesAndMemories (1) ([]) (2) (0) (0) (st (fun c => (fun c : Chip => c.upd 1 fun x =>
      { x with reload := some { region := 5, darner := false, addr := 0x4000 } }) (fl 0 Rf.CFG_STAT_STATE 2 ((fun c
      : Chip => c.upd 1 fun x => { x with darner := { x.darner with active := true } }) c)))))) = true := by
  decide +kernel

/-- The hypotheses of clause `cl_` of FusesProgramOnceAndLifecycleOnlyRises. -/
def hyps_FusesProgramOnceAndLifecycleOnlyRises (d : Fin 4) (e : Fin 4) (ok : Bool) (v : Word) (m : LcMove) (r : Nat)
      (w : BitVec 64) (s : State) (cl_ : Nat) : Bool :=
  let c := s.chip
  let h := (c.d d).hem
  let target := getBits v 0 3
  let lc := (c.d 0).hem.lc
  let busy := c.lcMove ≠ none ∨ ∃ i : Fin 4, (c.d i).hem.prog ≠ none
  let refused := busy ∨ 4 < target ∨ (target ≤ lc ∧ c.fld 0 Rf.CFG_STAT_STATE ≠ 4) ∨
      (3 ≤ target ∧ lc = 2 ∧ authed c = false)
  let row := c.fld d Rf.HEM_PROG_ROW_ROW
  let data := BitVec.ofNat 64 (c.fld64 d Rf.HEM_PROG_LO_DATA Rf.HEM_PROG_HI_DATA)
  let closed := hemRow h row ≠ 0 ∨ row ∈ h.broken ∨ rowOpen h.lc row = false
  decide (up s.chip 0 = true) && decide (up s.chip d = true) &&
  match cl_ with
  | 0 => (decide (((c.lcMove ≠ none ∨ ∃ i : Fin 4, (c.d i).hem.prog ≠ none) ∨ 4 < target ∨ (target ≤ lc ∧ c.fld 0
      Rf.CFG_STAT_STATE ≠ 4) ∨ (3 ≤ target ∧ lc = 2 ∧ authed c = false))) && true)
  | 1 => (decide (¬ ((c.lcMove ≠ none ∨ ∃ i : Fin 4, (c.d i).hem.prog ≠ none))) && (decide (lc < target) && (decide
      (target ≤ 4) && (decide ((target < 3 ∨ lc ≠ 2 ∨ authed c = true)) && (decide (lcNext c target = some e) &&
      true)))))
  | 2 => (decide (c.lcMove = none) && true)
  | 3 => (decide (c.lcMove = some m) && (decide (lcNext c m.target = some e) && true))
  | 4 => (decide (c.lcMove = some m) && (decide (lcNext c m.target = none) && true))
  | 5 => (decide (h.prog = none) && (decide ((hemRow h row ≠ 0 ∨ row ∈ h.broken ∨ rowOpen h.lc row = false)) &&
      true))
  | 6 => (decide (h.prog = none) && (decide (¬ (hemRow h row ≠ 0 ∨ row ∈ h.broken ∨ rowOpen h.lc row = false)) &&
      true))
  | 7 => (decide (h.prog ≠ none) && true)
  | 8 => (decide (h.prog = some (r, w)) && true)
  | _ => false

/-- Every clause of Obligations.FusesProgramOnceAndLifecycleOnlyRises with hypotheses is about some state. -/
theorem witness_FusesProgramOnceAndLifecycleOnlyRises :
    (([0, 2, 7, 8]).all (hyps_FusesProgramOnceAndLifecycleOnlyRises (1) (0) (true) (3)
      ({ target := 3, old := 0, die := 1 }) (300) (77) (st (fun c => (fun c : Chip => c.onHem 1 fun h =>
      { h with prog := some (300, 77) }) c))) &&
    ([1, 5]).all (hyps_FusesProgramOnceAndLifecycleOnlyRises (1) (0) (true) (3) ({ target := 3, old := 0, die := 1 })
      (300) (77) (st (fun c => c))) &&
    ([3]).all (hyps_FusesProgramOnceAndLifecycleOnlyRises (1) (1) (true) (3) ({ target := 3, old := 0, die := 1 }) (300)
      (77) (st (fun c => (fun c : Chip => c.onHem 0 fun h =>
      { h with rows := [(2, lcPattern 2), (3, lcPattern 3), (4, lcPattern 4)] }) ((fun c : Chip =>
      { c with lcMove := some { target := 3, old := 0, die := 1 } }) c)))) &&
    ([4]).all (hyps_FusesProgramOnceAndLifecycleOnlyRises (1) (0) (true) (3) ({ target := 3, old := 0, die := 1 }) (300)
      (77) (st (fun c => (fun c : Chip => c.onHem 3 fun h =>
      { h with rows := [(2, lcPattern 2), (3, lcPattern 3), (4, lcPattern 4)] }) ((fun c : Chip => c.onHem 2 fun h
      => { h with rows := [(2, lcPattern 2), (3, lcPattern 3), (4, lcPattern 4)] }) ((fun c : Chip => c.onHem 1 fun
      h => { h with rows := [(2, lcPattern 2), (3, lcPattern 3), (4, lcPattern 4)] }) ((fun c : Chip => c.onHem 0
      fun h => { h with rows := [(2, lcPattern 2), (3, lcPattern 3), (4, lcPattern 4)] }) ((fun c : Chip =>
      { c with lcMove := some { target := 3, old := 0, die := 1 } }) c))))))) &&
    ([6]).all (hyps_FusesProgramOnceAndLifecycleOnlyRises (1) (0) (true) (5) ({ target := 3, old := 0, die := 1 }) (300)
      (77) (st (fun c => fl 1 Rf.HEM_PROG_LO_DATA 5 (fl 1 Rf.HEM_PROG_ROW_ROW 300 c))))) = true := by
  decide +kernel

/-- The hypotheses of clause `cl_` of TamperTripsAreLoggedAndKeyGuarded. -/
def hyps_TamperTripsAreLoggedAndKeyGuarded (d : Fin 4) (src : Fin 4) (ns : Nat) (v : Word) (s : State) (cl_ : Nat) :
      Bool :=
  let c := s.chip
  let b := c.vbat
  let act := c.fld d Rf.TAMPER_STAT_ACTIVE
  let begins := (src = 0 → d = 0 ∧ 10000 ≤ ns) ∧ b.vaonAbsent = false ∧ bit act src.val = false
  let scrapped := (c.d 0).hem.lc = 4
  decide (up s.chip 0 = true) && decide (up s.chip d = true) &&
  match cl_ with
  | 0 => (decide (((src = 0 → d = 0 ∧ 10000 ≤ ns) ∧ b.vaonAbsent = false ∧ bit act src.val = false)) && true)
  | 1 => (decide (src = 0) && (decide (ns ≤ 2000) && true))
  | 2 => (decide (bit act src.val = true) && (decide (10000 ≤ ns) && true))
  | 3 => true
  | 4 => true
  | 5 => (decide (b.keyValid = false) && (decide (¬ ((c.d 0).hem.lc = 4)) && true))
  | 6 => (decide ((b.keyValid = true ∨ ((c.d 0).hem.lc = 4))) && true)
  | 7 => (decide (¬ ((c.d 0).hem.lc = 4)) && true)
  | 8 => (decide (((c.d 0).hem.lc = 4)) && true)
  | 9 => (decide ((c.d 0).hem.lc = 1) && true)
  | 10 => (decide ((c.d 0).hem.lc ≠ 1) && true)
  | _ => false

/-- Every clause of Obligations.TamperTripsAreLoggedAndKeyGuarded with hypotheses is about some state. -/
theorem witness_TamperTripsAreLoggedAndKeyGuarded :
    (([0, 3, 4, 6, 7, 10]).all (hyps_TamperTripsAreLoggedAndKeyGuarded (0) (0) (10000) (0xFFFF) (st (fun c => (fun c :
      Chip => { c with vbat := { c.vbat with key := 5, keyValid := true } }) ((fun c : Chip => c.onHem 0 fun h =>
      { h with control := 0x20000 }) (fl 0 Rf.TAMPER_EN_EN 15 c))))) &&
    ([2, 5, 9]).all (hyps_TamperTripsAreLoggedAndKeyGuarded (0) (1) (10000) (0xFFFF) (st (fun c => (fun c : Chip =>
      c.onHem 0 fun h => { h with lc := 1 }) (fl 0 Rf.TAMPER_STAT_ACTIVE 3 c)))) &&
    ([1]).all (hyps_TamperTripsAreLoggedAndKeyGuarded (0) (0) (2000) (0xFFFF) (st (fun c => c))) &&
    ([8]).all (hyps_TamperTripsAreLoggedAndKeyGuarded (0) (3) (10000) (0xFFFF) (st (fun c => (fun c : Chip => c.onHem 0
      fun h => { h with lc := 4 }) c)))) = true := by
  decide +kernel

/-- The hypotheses of clause `cl_` of WatchdogIsServedOrExpires. -/
def hyps_WatchdogIsServedOrExpires (t : Fin 256) (d : Fin 4) (v : Word) (s : State) (cl_ : Nat) : Bool :=
  let c := s.chip
  let x := (c.d d).wdog
  let period := max 1 (c.fld d Rf.WDOG_PERIOD_MS)
  let due := x.running = true ∧ wdogFull c d ≤ wdogCount c d
  let first := wdogFirst c d
  decide (up s.chip d = true) && decide (up s.chip 0 = true) &&
  match cl_ with
  | 0 => (decide (getBits v 0 1 = 0) && true)
  | 1 => (decide (getBits v 0 1 = 1) && (decide (x.running = true) && true))
  | 2 => (decide (getBits v 0 1 = 1) && (decide (x.running = false) && true))
  | 3 => true
  | 4 => (decide (¬ (x.running = true ∧ wdogFull c d ≤ wdogCount c d)) && true)
  | 5 => (decide ((x.running = true ∧ wdogFull c d ≤ wdogCount c d)) && (decide (bit (c.d 0).hem.control 15 = true)
      && true))
  | 6 => (decide ((x.running = true ∧ wdogFull c d ≤ wdogCount c d)) && (decide (bit (c.d 0).hem.control 15 = false)
      && true))
  | 7 => (decide (t ≠ 0) && true)
  | 8 => (decide (c.hostSvc = false) && (decide (v = 0x5A17) && true))
  | 9 => (decide (v ≠ 0x5A17) && (decide ((v ≠ 0xA5E8 ∨ c.hostSvc = false)) && true))
  | 10 => (decide (c.hostSvc = true) && (decide (v = 0xA5E8) && (decide ((∀ e, (c.d e).wdog.running = true →
      wdogIsOpen c e = true)) && (decide ((∀ e, (c.d e).stopped = false ∧ wdogJoins c e true = false)) && true))))
  | _ => false

/-- Every clause of Obligations.WatchdogIsServedOrExpires with hypotheses is about some state. -/
theorem witness_WatchdogIsServedOrExpires :
    (([2, 3, 4, 7, 9]).all (hyps_WatchdogIsServedOrExpires (3) (1) (1) (st (fun c => c))) &&
    ([1, 5, 8]).all (hyps_WatchdogIsServedOrExpires (0) (1) (0x5A17) (st (fun c => (fun c : Chip => c.onHem 0 fun h =>
      { h with control := 0x8000 }) ((fun c : Chip => c.onWdog 1 fun w =>
      { w with running := true, count := 1000000000 }) c)))) &&
    ([0, 10]).all (hyps_WatchdogIsServedOrExpires (0) (1) (0xA5E8) (st (fun c => (fun c : Chip => c.onWdog 1 fun w =>
      { w with running := true, count := 999999999 }) ((fun c : Chip => { c with hostSvc := true }) c)))) &&
    ([6]).all (hyps_WatchdogIsServedOrExpires (0) (1) (0x5A17) (st (fun c => fl 0 Rf.ILK_STAT_LASEN 1 ((fun c : Chip =>
      c.onWdog 1 fun w => { w with running := true, count := 1000000000 }) c))))) = true := by
  decide +kernel

/-- The hypotheses of clause `cl_` of HaltsStepAndShowState. -/
def hyps_HaltsStepAndShowState (d : Fin 4) (i : Fin 16) (cl : Fin 192) (v : Word) (ws : List Nat) (s : State) (cl_ :
      Nat) : Bool :=
  let c := s.chip
  let y := (c.d d).yoke
  let x := c.cluster d cl.val
  let status := fun k : Chip => k.fld d Rf.PLACKET_DBG_STAT_STATUS
  let only := getBits v 0 8 = cl.val ∧ getBits v 8 8 = 1
  let sel := getBits v 0 8 = cl.val
  let cls := getBits v 8 3
  let data := fun j => c.fld d (Rf.PLACKET_CLDATA_DATA.at j)
  decide (up s.chip d = true) && decide (dbgLocked s.chip = false) &&
  match cl_ with
  | 0 => (decide (y.halted = false) && (decide (y.run = true) && (decide (y.wait = .none) && true)))
  | 1 => (decide (y.halted = false) && (decide ((y.run = false ∨ y.wait ≠ .none)) && true))
  | 2 => (decide (y.halted = true) && true)
  | 3 => (decide (y.halted = false) && true)
  | 4 => (decide ((getBits v 0 8 = cl.val ∧ getBits v 8 8 = 1)) && (decide (x.st = .running) && true))
  | 5 => (decide ((getBits v 0 8 = cl.val ∧ getBits v 8 8 = 1)) && (decide (x.st = .halted) && (decide (x.killed =
      false) && true)))
  | 6 => (decide ((getBits v 0 8 = cl.val ∧ getBits v 8 8 = 1)) && (decide (x.st ≠ .halted) && true))
  | 7 => (decide ((getBits v 0 8 = cl.val ∧ getBits v 8 8 = 1)) && (decide (x.st = .halted) && (decide (x.killed =
      false) && true)))
  | 8 => (decide ((getBits v 0 8 = cl.val)) && (decide (clReach c d cl.val cls = false) && true))
  | 9 =>
      (match clItem c d cl.val cls (getBits v 11 12) (getBits v 23 4) with
      | some ws =>
        decide (getBits v 0 8 = cl.val ∧ clReach c d cl.val cls = true) && true
      | none => false)
  | 10 => (decide ((getBits v 0 8 = cl.val)) && (decide (clReach c d cl.val cls = true) && (decide (cls ≠ 6) &&
      true)))
  | 11 => (decide ((getBits v 0 8 = cl.val)) && (decide (clReach c d cl.val cls = true) && (decide (cls = 6) &&
      true)))
  | _ => false

/-- Every clause of Obligations.HaltsStepAndShowState with hypotheses is about some state. -/
theorem witness_HaltsStepAndShowState :
    (([1, 3, 5, 7, 9, 10]).all (hyps_HaltsStepAndShowState (1) (5) (7) (0x107) ([]) (st (fun c => cl 1 7
      { kl [(4, 100)] with st := .halted } c))) &&
    ([0, 6, 8]).all (hyps_HaltsStepAndShowState (1) (5) (7) (0x107) ([]) (st (fun c => yr 1 [] c))) &&
    ([2]).all (hyps_HaltsStepAndShowState (1) (15) (7) (0x107) ([]) (st (fun c => yk 1 (fun y =>
      { y with halted := true, prog := true }) c))) &&
    ([4]).all (hyps_HaltsStepAndShowState (1) (5) (7) (0x107) ([]) (st (fun c => cl 1 7 (kl [(4, 100)]) c))) &&
    ([11]).all (hyps_HaltsStepAndShowState (1) (5) (7) (0x007FFE07) ([]) (st (fun c => (fun c : Chip => [0,1,2,3].foldl
      (fun c i => fl 1 (Rf.PLACKET_CLDATA_DATA.at i) (0xFFFFFFF0 + i) c) c) (cl 1 7
      { kl [(4, 100)] with st := .halted } c))))) = true := by
  decide +kernel

/-- The hypotheses of clause `cl_` of DebugAccessFollowsItsLock in Obligations.DebugAndTapFollowTheirLock. -/
def hyps_DebugAccessFollowsItsLock (t : Fin 256) (d : Fin 4) (v : Word) (a : DbgAcc) (r : Nat) (s : State) (cl_ :
      Nat) : Bool :=
  let c := s.chip
  let f := fun (k : Chip) (h : Fld) => k.fld 0 h
  let free := (c.d d).dbg = none
  let out := setDbgStatus c d stLocked
  decide (up s.chip 0 = true) && decide (up s.chip d = true) &&
  match cl_ with
  | 0 => true
  | 1 => (decide (f c Rf.PLACKET_AUTH_STAT_BUSY = 0) && true)
  | 2 => (decide (f c Rf.PLACKET_AUTH_STAT_BUSY = 1) && true)
  | 3 => (decide (c.auth = some 1) && true)
  | 4 => (decide (c.auth = some r) && (decide (2 ≤ r) && (decide (r ≤ 4) && true)))
  | 5 => (decide (c.auth = none) && true)
  | 6 => (decide (dbgLocked c = true) && true)
  | 7 => (decide (t ≠ 0) && true)
  | 8 => (decide (dbgLocked c = false) && (decide (((c.d d).dbg = none)) && true))
  | 9 => (decide (((c.d d).dbg = none)) && true)
  | 10 => (decide (c.vbat.vaonAbsent = false) && (decide ((c.d d).dbg = some a) && (decide (a.addr / 2 ^ 38 ≠ d.val)
      && true)))
  | 11 => (decide (dbgLocked c = false) && (decide (getBits v 0 2 = 0) && (decide (10 ≤ getBits v 8 5) && (decide
      (getBits v 8 5 ≤ 24) && true))))
  | _ => false

/-- The hypotheses of clause `cl_` of TapSelectsItsInstruction in Obligations.DebugAndTapFollowTheirLock. -/
def hyps_TapSelectsItsInstruction (d : Fin 4) (addr : BitVec 40) (lane : Bool) (data : BitVec 56) (pins : List Bool)
      (v : Word) (s : State) (cl_ : Nat) : Bool :=
  let c := s.chip
  let ir := fun (code : Nat) (k : Chip) => (k.d d).tap.ir = if dbgLocked c then 0xFFF else code
  let works := c.vbat.vaonAbsent = false
  match cl_ with
  | 0 => (decide ((c.vbat.vaonAbsent = false)) && true)
  | 1 => (decide ((c.vbat.vaonAbsent = false)) && (decide (dbgLocked c = false) && (decide (up c 0 = true) &&
      true)))
  | 2 => (decide ((c.vbat.vaonAbsent = false)) && (decide (dbgLocked c = false) && (decide ((c.d d).dbg = none) &&
      true)))
  | 3 => (decide ((c.vbat.vaonAbsent = false)) && (decide (dbgLocked c = true) && true))
  | 4 => (decide (c.vbat.vaonAbsent = true) && true)
  | _ => false

/-- Every clause of Obligations.DebugAndTapFollowTheirLock with hypotheses is about some state. -/
theorem witness_DebugAndTapFollowTheirLock :
    (([0, 1, 5, 8, 9, 11]).all (hyps_DebugAccessFollowsItsLock (0) (1) (0x1400)
      ({ tap := false, wr := false, lane := false, addr := 0x8000000000, data := 0 }) (3) (st (fun c => c))) &&
    ([2, 3]).all (hyps_DebugAccessFollowsItsLock (0) (1) (0x1400)
      ({ tap := false, wr := false, lane := false, addr := 0x8000000000, data := 0 }) (3) (st (fun c => (fun c :
      Chip => { c with auth := some 1 }) (fl 0 Rf.PLACKET_AUTH_STAT_BUSY 1 c)))) &&
    ([6, 7]).all (hyps_DebugAccessFollowsItsLock (5) (1) (0x1400)
      ({ tap := false, wr := false, lane := false, addr := 0x8000000000, data := 0 }) (3) (st (fun c => (fun c :
      Chip => c.onHem 0 fun h => { h with lc := 2 }) c))) &&
    ([4]).all (hyps_DebugAccessFollowsItsLock (0) (1) (0x1400)
      ({ tap := false, wr := false, lane := false, addr := 0x8000000000, data := 0 }) (3) (st (fun c => fl 0
      Rf.PLACKET_AUTH_STAT_FAILS 7 ((fun c : Chip => { c with auth := some 3 }) c)))) &&
    ([10]).all (hyps_DebugAccessFollowsItsLock (0) (1) (0xA3C)
      ({ tap := false, wr := false, lane := false, addr := 0x8000000000, data := 0 }) (3) (st (fun c => (fun c :
      Chip => c.upd 1 fun x =>
      { x with dbg := some { tap := false, wr := false, lane := false, addr := 0x8000000000, data := 0 } }) c))) &&
    ([0, 1, 2]).all (hyps_TapSelectsItsInstruction (2) (0x123456789A) (true) (0xABCDEF) ([true, false, true]) (0x77) (st
      (fun c => c))) &&
    ([3]).all (hyps_TapSelectsItsInstruction (0) (0x123456789A) (true) (0xABCDEF) ([true, false, true]) (0x77) (st (fun
      c => (fun c : Chip => c.onHem 0 fun h => { h with lc := 2 }) c))) &&
    ([4]).all (hyps_TapSelectsItsInstruction (2) (0x123456789A) (true) (0xABCDEF) ([true, false, true]) (0x77) (st (fun
      c => (fun c : Chip => { c with vbat := { c.vbat with vaonAbsent := true } }) c)))) = true := by
  decide +kernel

/-- The hypotheses of clause `cl_` of ResetsHoldAndReleaseTheDevice in Obligations.ResetsReleaseTheDeviceAndItsPins. -/
def hyps_ResetsHoldAndReleaseTheDevice (ns : Nat) (g2 : Bool) (bootsel : Fin 4) (d : Fin 4) (found : List
      HemFinding) (width : BitVec 3) (speed : BitVec 2) (m : Mem) (i : Nat) (s : State) (cl_ : Nat) : Bool :=
  let c := s.chip
  let kept := fun k : Chip => k.vbat = c.vbat ∧ k.aol = c.aol ∧ k.ilk = c.ilk ∧ k.trace = c.trace ∧ k.free = c.free
  match cl_ with
  | 0 => (decide (10000 ≤ ns) && true)
  | 1 => (decide (ns ≤ 1000) && true)
  | 2 => (decide (c.stop.held = true) && (decide (coreRails c = true) && true))
  | 3 => (decide ((c.stop.held = false ∨ coreRails c = false)) && true)
  | 4 => (decide (alive c = true) && (decide (1000 ≤ ns) && true))
  | 5 => (decide ((alive c = false ∨ ns ≤ 100)) && true)
  | 6 => (decide (c.stop.srst = true) && true)
  | 7 => (decide (c.stop.srst = false) && true)
  | 10 => (decide (c.perst = true) && true)
  | 11 => (decide (c.perst = false) && (decide (alive c = true) && (decide (c.fld 0 Rf.PWR_RAIL_VHOST = 1) &&
      (decide (width.toNat ∈ [1, 2, 4]) && (decide (speed ≠ 0) && true)))))
  | _ => false

/-- The hypotheses of clause `cl_` of PinsFollowTheState in Obligations.ResetsReleaseTheDeviceAndItsPins. -/
def hyps_PinsFollowTheState (b : Ball) (s : State) (cl_ : Nat) : Bool :=
  let c := s.chip
  let plain := (c.d 0).tap.ir ∉ [0x000, 0x040, 0x080] ∧ feature c 0 6 = true ∧ c.vbat.vaonAbsent = false
  match cl_ with
  | 0 => (decide ((fatalStopped c = true ∨ c.stop.held = true)) && (decide ((b.offUnconfigured = true ∨ b.offStopped
      = true)) && (decide (b ≠ .wdout) && true)))
  | 1 => (decide (c.fld 0 Rf.CFG_STAT_STATE ≠ 2) && (decide (b.offUnconfigured = true) && (decide (b ≠ .wdout) &&
      true)))
  | 2 => (decide (feature c 0 6 = true) && (decide (c.wdout ≠ none) && true))
  | 3 => (decide (c.wdout = none) && (decide ((c.d 0).tap.ir ∉ [0x000, 0x080]) && true))
  | 4 => (decide (plain) && true)
  | 5 => (decide ((pinDrive c .lasenA = .high ∨ pinDrive c .lasenB = .low)) && true)
  | _ => false

/-- Every clause of Obligations.ResetsReleaseTheDeviceAndItsPins with hypotheses is about some state. -/
theorem witness_ResetsReleaseTheDeviceAndItsPins :
    (([0, 3, 4, 7, 11]).all (hyps_ResetsHoldAndReleaseTheDevice (10000) (true) (2) (1) ([]) (4) (2) (.spad) (7) (st (fun
      c => (fun c : Chip => c.setWord 1 .spad 7
      { data := 5, tag := .basted, ten := 3, shadow := some { data := 9, poison := 0, written := true, void := false } })
      (fl 0 Rf.TIME_TICK_CTL_RUN 1 (fl 0 Rf.HOST_LINK_UP 1 (fl 0 Rf.ILK_STAT_LASEN 1 ((fun c : Chip => c.setHost 3
      { cmds := [[0x00050000, 0, 0, 0, 0, 0, 0, 0, 0, 0, 0, 0, 0, 0, 0, 0]] }) ((fun c : Chip => c.onDram 1 fun x =>
      { x with cells := [(3, some 5)] }) ((fun c : Chip => [0, 1, 2, 3].foldl (fun c i => c.setWord 1 .spad i
      { data := BitVec.ofNat 56 (i + 5), written := true }) c) (cl 1 7 (kl []) (yr 1 [(1,2),(9,3)] c))))))))))) &&
    ([1, 5]).all (hyps_ResetsHoldAndReleaseTheDevice (100) (true) (2) (1) ([]) (4) (2) (.spad) (7) (st (fun c => (fun c
      : Chip => c.setWord 1 .spad 7
      { data := 5, tag := .basted, ten := 3, shadow := some { data := 9, poison := 0, written := true, void := false } })
      (fl 0 Rf.TIME_TICK_CTL_RUN 1 (fl 0 Rf.HOST_LINK_UP 1 (fl 0 Rf.ILK_STAT_LASEN 1 ((fun c : Chip => c.setHost 3
      { cmds := [[0x00050000, 0, 0, 0, 0, 0, 0, 0, 0, 0, 0, 0, 0, 0, 0, 0]] }) ((fun c : Chip => c.onDram 1 fun x =>
      { x with cells := [(3, some 5)] }) ((fun c : Chip => [0, 1, 2, 3].foldl (fun c i => c.setWord 1 .spad i
      { data := BitVec.ofNat 56 (i + 5), written := true }) c) (cl 1 7 (kl []) (yr 1 [(1,2),(9,3)] c))))))))))) &&
    ([2]).all (hyps_ResetsHoldAndReleaseTheDevice (10000) (true) (2) (1) ([]) (4) (2) (.spad) (7) (st (fun c => (fun c :
      Chip => { c with stop := { held := true } }) c))) &&
    ([6]).all (hyps_ResetsHoldAndReleaseTheDevice (10000) (true) (2) (1) ([]) (4) (2) (.spad) (7) (st (fun c => (fun c :
      Chip => { c with stop := { srst := true } }) c))) &&
    ([10]).all (hyps_ResetsHoldAndReleaseTheDevice (10000) (true) (2) (1) ([]) (4) (2) (.spad) (7) (st (fun c => (fun c
      : Chip => { c with perst := true }) c))) &&
    ([0, 1, 3, 4]).all (hyps_PinsFollowTheState (.io 5 13) (st (fun c => (fun c : Chip =>
      { c with stop := { held := true } }) c))) &&
    ([2]).all (hyps_PinsFollowTheState (.io 5 13) (st (fun c => (fun c : Chip => { c with wdout := some 5 }) (fl 0
      Rf.CFG_STAT_STATE 2 c)))) &&
    ([5]).all (hyps_PinsFollowTheState (.io 5 13) (st (fun c => fl 0 Rf.ILK_STAT_LASEN 1 (fl 0 Rf.CFG_STAT_STATE 2 c))))) = true := by
  decide +kernel

/-- The hypotheses of clause `cl_` of RailsAndBrownoutStopTheDevice. -/
def hyps_RailsAndBrownoutStopTheDevice (d : Fin 4) (b : Fin 16) (ok : Bool) (aux : Bool) (vbat : Bool) (aSafe :
      Bool) (bSafe : Bool) (g2 : Bool) (ns : Nat) (mv : Nat) (bootsel : Fin 4) (found : List HemFinding) (s : State)
      (cl_ : Nat) : Bool :=
  let c := s.chip
  let x := c.stop
  let f := fun (k : Chip) (h : Fld) => k.fld d h
  let other := x.held = true ∨ x.thermal = true ∨ x.brownout = true
  match cl_ with
  | 1 => (decide (c.vbat.vaonAbsent = false) && true)
  | 2 => (decide (c.vbat.vaonAbsent = true) && true)
  | 3 => (decide (x.held = false) && (decide (x.brownout = false) && (decide (200 < ns) && (decide (mv < 605) &&
      true))))
  | 4 => (decide ((ns ≤ 120 ∨ 1600 < mv)) && true)
  | 5 => (decide (x.brownout = true) && (decide (x.held = false) && (decide (x.thermal = false) && (decide
      (coreRails c = true) && true))))
  | 6 => (decide (x.brownout = false) && true)
  | 7 => (decide (c.wdout ≠ some 0) && true)
  | 8 => (decide (c.wdout = some 0) && (decide (x.wdog = true) && (decide (¬ (x.held = true ∨ x.thermal = true ∨
      x.brownout = true)) && true)))
  | 9 => (decide (c.wdout = some 0) && (decide (x.wdog = false) && true))
  | 10 => (decide ((hasRail d b.val = false ∨ railBit c d b.val = ok)) && true)
  | 11 => (decide (hasRail d b.val = true) && (decide (railBit c d b.val ≠ ok) && (decide (3 < b.val) && true)))
  | 12 => (decide (railBit c d 2 = true) && (decide (b = 2) && true))
  | 13 => (decide (railBit c d b.val = true) && (decide (b.val < 2) && true))
  | 14 => (decide (up c d = true) && (decide (4 ≤ b.val) && (decide (hasRail d b.val = true) && (decide (railBit c d
      b.val = false) && (decide (bit (railFlags c d b.val) 1 = false) && (decide (10000 ≤ railAge c d b.val) &&
      true))))))
  | 15 => (decide (railAge c d b.val < 10000) && true)
  | 16 => (decide (up c d = true) && (decide (4 ≤ b.val) && (decide (hasRail d b.val = true) && (decide (railBit c d
      b.val = true) && (decide (bit (railFlags c d b.val) 0 = true) && (decide (1000000 ≤ railAge c d b.val) &&
      true))))))
  | 17 => (decide (railAge c d b.val < 1000000) && true)
  | _ => false

/-- Every clause of Obligations.RailsAndBrownoutStopTheDevice with hypotheses is about some state. -/
theorem witness_RailsAndBrownoutStopTheDevice :
    (([1, 4, 6, 7, 10, 12, 15, 17]).all (hyps_RailsAndBrownoutStopTheDevice (1) (2) (true) (true) (true) (true) (true)
      (false) (120) (1601) (1) ([]) (st (fun c => c))) &&
    ([2, 3, 11]).all (hyps_RailsAndBrownoutStopTheDevice (0) (11) (false) (true) (true) (true) (false) (false) (201)
      (604) (1) ([]) (st (fun c => (fun c : Chip =>
      { c with vbat := { c.vbat with vaonAbsent := true, key := 5, keyValid := true, seconds := 9 } }) c))) &&
    ([5, 13]).all (hyps_RailsAndBrownoutStopTheDevice (1) (1) (true) (true) (true) (true) (true) (false) (201) (604) (1)
      ([]) (st (fun c => (fun c : Chip => { c with stop := { brownout := true } }) c))) &&
    ([8]).all (hyps_RailsAndBrownoutStopTheDevice (0) (0) (false) (true) (true) (true) (true) (false) (201) (604) (1)
      ([]) (st (fun c => (fun c : Chip => { c with stop := { wdog := true } }) ((fun c : Chip =>
      { c with wdout := some 0 }) c)))) &&
    ([9]).all (hyps_RailsAndBrownoutStopTheDevice (1) (5) (true) (true) (true) (true) (true) (false) (201) (604) (1)
      ([]) (st (fun c => (fun c : Chip => { c with wdout := some 0 }) c))) &&
    ([14]).all (hyps_RailsAndBrownoutStopTheDevice (1) (5) (true) (true) (true) (true) (true) (false) (201) (604) (1)
      ([]) (st (fun c => (fun c : Chip => c.upd 1 fun x => { x with railAt := [(5, 5000)] }) (tm 1 15000 ((fun c :
      Chip => setRail c 1 5 false) (fl 1 Rf.PWR_RAIL_VCORE 1 c)))))) &&
    ([16]).all (hyps_RailsAndBrownoutStopTheDevice (1) (5) (true) (true) (true) (true) (true) (false) (201) (604) (1)
      ([]) (st (fun c => (fun c : Chip => c.upd 1 fun x => { x with railAt := [(5, 5000)], railTold := [(5, 3)] })
      (tm 1 1005000 c))))) = true := by
  decide +kernel

/-! ### Clauses whose hypotheses speak of an open value

Whether a block memory is a FIFO, and the digest of a body, are open in the model: these clauses are met under the one
value, and the other clauses say what holds under the other. -/

/-- The S9 with a configuration frame in grain 95 of die 1 that has `n` words in its block memory 1535. -/
def fifo (n : Nat) : Chip :=
  (fl 1 (Rf.BMEM_MODE_COUNT.at 1535) n State.reset.chip).upd 1 fun x => { x with frames := [(40 * 2048 * 95, 1)] }

/-- The hypotheses of the four FIFO clauses of Obligations.LaneMemoryCommandsAct. -/
theorem witness_fifo (h : Config.imageFifo (grainFrames ((fifo 0).d 1) 95) 1535 = true) :
    isFifo (fifo 0) 1 1535 = true ∧ (fifo 0).fld 1 (Rf.BMEM_MODE_COUNT.at 1535) = 0 ∧
      (fifo 1023).fld 1 (Rf.BMEM_MODE_COUNT.at 1535) = 1023 ∧ isFifo (fifo 1023) 1 1535 = true ∧
      (fifo 1024).fld 1 (Rf.BMEM_MODE_COUNT.at 1535) = 1024 ∧ isFifo (fifo 1024) 1 1535 = true := by
  have e : (grainFrames ((fifo 0).d 1) 95).isEmpty = false := by decide +kernel
  have g : ∀ n, grainFrames ((fifo n).d 1) 95 = grainFrames ((fifo 0).d 1) 95 → isFifo (fifo n) 1 1535 = true :=
    fun n q => by
      simp only [isFifo, show (1535 / 16 : Nat) = 95 from rfl, q, e, h, Bool.not_false, Bool.and_self]
  exact ⟨g 0 rfl, by decide +kernel, by decide +kernel, g 1023 (by decide +kernel), by decide +kernel,
    g 1024 (by decide +kernel)⟩

/-- The S9 whose load stands at END, with the digest of its empty body. -/
def atEnd : Chip :=
  let c := [0, 1, 2, 3].foldl (fun c d => c.upd d fun x => { x with cfg := { x.cfg with ids := 1 } }) State.reset.chip
  { c with
    cfg := { c.cfg with
      started := true, header := true, synced := true, last := true, words := [0x0D000000], digest := Config.sha256 [] } }

/-- The hypotheses of the END clause of Obligations.StreamCommandsTakeEffect. -/
theorem witness_end :
    cfgDecode atEnd.cfg.words = .cmd .cEnd 1 ∧ atEnd.cfg.last = true ∧ atEnd.cfg.open_ = false ∧
      atEnd.cfg.words.length = 1 ∧ Config.sha256 atEnd.cfg.body = atEnd.cfg.digest ∧ loadLost atEnd = false ∧
      cfgLoading atEnd = true ∧ imageIdBad atEnd = none ∧ ∀ d, (atEnd.d d).cfg.q = [] ∧ (atEnd.d d).cfg.wait = none := by
  refine ⟨by decide +kernel, rfl, rfl, rfl, rfl, by decide +kernel, by decide +kernel, ?_, by decide +kernel⟩
  decide +kernel

/-! ### The statements over all commands -/

/-- A command of the configuration stream is well formed, and its words spell it. -/
theorem witness_StreamWordsDecodeToTheirCommand :
    (Instr.cWaitRequire 5 31 0x3FFFF 1 0xFFFFFFFF).wf = true ∧
      streamWords (.cWaitRequire 5 31 0x3FFFF 1 0xFFFFFFFF) ≠ [] ∧ streamFits (.cWaitRequire 5 31 0x3FFFF 1 0xFFFFFFFF) ∧
      cfgDecode (streamWords (.cWaitRequire 5 31 0x3FFFF 1 0xFFFFFFFF) ++ [7]) =
        .cmd (.cWaitRequire 5 31 0x3FFFF 1 0xFFFFFFFF) 4 :=
  ⟨by decide +kernel, by decide +kernel, trivial, by decide +kernel⟩

/-- A command that StepRunsFrontCommand and the frames speak of answers a next state at reset, which holds the
invariant. -/
theorem witness_frames :
    writesOnly (.ctleWrite 0 1 5 9) = some (1, [(Rf.LANE_CTLE_PEAK.at 5).key]) ∧ leavesStores (.ctleWrite 0 1 5 9) = true ∧
      Inv State.reset ∧ ∃ k, Gives (.ctleWrite 0 1 5 9) State.reset k := by
  refine ⟨rfl, rfl, by decide +kernel, _, rfl⟩

end Sys2Proof.Tests
end

section
/-! What a command answers, from the effect that its meaning has on the S9. -/

namespace Sys2Proof.Says

open Sys2Proof.Machine

/-- A command that makes `x` of the S9 answers `x`, and nothing else. -/
theorem gives_iff {c : Instr} {s : State} {x k : Chip} (h : exec c s = .next ⟨x, s.pending⟩) :
    Gives c s k ↔ k = x := by
  rw [Gives, h]
  constructor
  · intro e; cases e; rfl
  · rintro rfl; rfl

theorem Gives.of_effect {c : Instr} {s : State} {x k : Chip} (h : exec c s = .next ⟨x, s.pending⟩) (hk : x = k) :
    Gives c s k := (gives_iff h).2 hk.symm

/-- What holds of what a command makes of the S9 holds of the state that the command reaches. -/
theorem Reaches.of_effect {c : Instr} {s : State} {x k : Chip} {P : Chip → Prop}
    (h : exec c s = .next ⟨x, s.pending⟩) (hk : x = k) (hp : P k) : Reaches c s P := ⟨k, .of_effect h hk, hp⟩

end Sys2Proof.Says
end

section
/-! Commands that change registers of one die and send records, and nothing else. -/

namespace Sys2Proof.Says

open Sys2Proof.Machine

/-- From `s` to `k` the registers of `keys` on die `d` and the counts of records may have changed, records may have been
sent, and nothing else has changed. -/
def RegChange (d : Fin 4) (keys : List Nat) (s k : Chip) : Prop :=
  OnlyRegs s k ∧ ∀ e j, k.reg e j ≠ s.reg e j → (e = d ∧ j ∈ keys) ∨ KindCount e j

theorem OnlyRegs.trans {s m k : Chip} (h : OnlyRegs s m) (h' : OnlyRegs m k) : OnlyRegs s k := by
  obtain ⟨hd, hc⟩ := h
  obtain ⟨hd', hc'⟩ := h'
  refine ⟨fun e => (hd' e).trans (by rw [hd e]), hc'.trans (by rw [hc])⟩

theorem onlyRegs_setReg (s : Chip) (d : Fin 4) (j : Nat) (v : Word) : OnlyRegs s (s.setReg d j v) :=
  ⟨fun e => by rw [Chip.fly_of_setReg]; exact Chip.d_setReg s d e j v, rfl⟩

theorem onlyRegs_sendRec (s : Chip) (d : Fin 4) (r : Rec) : OnlyRegs s (sendRec s d r) := by
  refine (onlyRegs_setReg s 0 _ _).trans ⟨fun e => ?_, rfl⟩
  rw [sendRec, Chip.d_upd]
  split
  · rename_i h; subst h; rfl
  · rfl

namespace RegChange

variable {d : Fin 4} {keys : List Nat} {s m k : Chip}

theorem refl (d : Fin 4) (keys : List Nat) (s : Chip) : RegChange d keys s s :=
  ⟨⟨fun _ => rfl, rfl⟩, fun _ _ h => absurd rfl h⟩

theorem trans (h : RegChange d keys s m) (h' : RegChange d keys m k) : RegChange d keys s k := by
  refine ⟨h.1.trans h'.1, fun e j hne => ?_⟩
  by_cases hm : k.reg e j = m.reg e j
  · exact h.2 e j (hm ▸ hne)
  · exact h'.2 e j hm

/-- Storing one of the registers keeps to them. -/
theorem setReg (h : RegChange d keys s m) {j : Nat} (hj : j ∈ keys) (v : Word) :
    RegChange d keys s (m.setReg d j v) := by
  refine h.trans ⟨onlyRegs_setReg m d j v, fun e i hne => .inl ?_⟩
  rw [Chip.reg_setReg] at hne
  obtain ⟨rfl, rfl⟩ : e = d ∧ i = j := by by_contra hc; exact hne (if_neg hc)
  exact ⟨rfl, hj⟩

theorem setFld (h : RegChange d keys s m) {f : Fld} (hf : f.key ∈ keys) (v : Nat) :
    RegChange d keys s (m.setFld d f v) := h.setReg hf _

theorem addFld (h : RegChange d keys s m) {f : Fld} (hf : f.key ∈ keys) (n : Nat) :
    RegChange d keys s (m.addFld d f n) := h.setFld hf _

/-- A record that is sent changes the count of its kind. -/
theorem raise (h : RegChange d keys s m) (e : Fin 4) (src kind : Nat) (t : Fin 256) (pay : Nat) :
    RegChange d keys s (raise m e src kind t pay) := by
  refine h.trans ⟨onlyRegs_sendRec m e _, fun i j hne => .inr ?_⟩
  by_contra hc
  refine hne (reg_raise m e i src kind t pay ?_)
  by_contra hk
  rw [not_or, not_not, not_not] at hk
  exact hc ⟨hk.1, kind, hk.2⟩

theorem refusedWrite (h : RegChange d keys s m) (e : Fin 4) (t : Fin 256) (f : Fld) :
    RegChange d keys s (refusedWrite m e t f) := h.raise ..

/-- A change made under a condition. -/
theorem guarded {p : Prop} [Decidable p] (h : RegChange d keys s m) (h' : RegChange d keys s k) :
    RegChange d keys s (if p then m else k) := by
  split
  · exact h
  · exact h'

/-- What every element does of a list keeps to the registers when each does. -/
theorem overAll {α : Type} (f : Chip → α → Chip) (l : List α) (h : RegChange d keys s m)
    (hf : ∀ a ∈ l, ∀ m, RegChange d keys s m → RegChange d keys s (f m a)) : RegChange d keys s (overAll f m l) := by
  induction l generalizing m with
  | nil => exact h
  | cons a l ih =>
    exact ih (hf a (by simp) m h) fun b hb => hf b (by simp [hb])

/-- A gate of a grant adds at most a logged refusal. -/
theorem whenGranted {f : Chip → Chip} (hf : RegChange d keys s (f s)) (e : Fin 4) (t : Fin 256) (g : Fld) :
    RegChange d keys s (whenGranted s e t g f) := by
  rcases whenGranted_cases s e t g f with ⟨_, _, h⟩ | ⟨_, _, _, h⟩ | ⟨_, h⟩ <;> rw [h]
  · exact hf
  · exact (refl ..).refusedWrite ..
  · exact refl ..

theorem whenSuper {f : Chip → Chip} (hf : RegChange d keys s (f s)) (e : Fin 4) (t : Fin 256) (g : Fld) :
    RegChange d keys s (whenSuper s e t g f) := by
  rcases whenSuper_cases s e t g f with ⟨_, _, _, h⟩ | ⟨_, _, _, h⟩ | ⟨_, h⟩ <;> rw [h]
  · exact hf
  · exact (refl ..).refusedWrite ..
  · exact refl ..

theorem whenUp {f : Chip → Chip} (hf : RegChange d keys s (f s)) (e : Fin 4) : RegChange d keys s (whenUp s e f) := by
  rcases whenUp_cases s e f with ⟨_, h⟩ | ⟨_, h⟩ <;> rw [h]
  · exact hf
  · exact refl ..

theorem laneWrite {f : Chip → Chip} (hf : RegChange d keys s (f s)) (e : Fin 4) (t : Fin 256) (n : Nat) (g : Fld) :
    RegChange d keys s (laneWrite s e t n g f) := by
  unfold Machine.laneWrite
  split
  · exact (refl ..).refusedWrite ..
  · exact hf

end RegChange

/-- The registers of the twelve DFE taps of lane `n`. -/
abbrev tapKeys (n : Nat) : List Nat := (range 1 12).map fun t => (tapF n t).key

theorem regChange_clearTaps (s : Chip) (d : Fin 4) (n : Nat) : RegChange d (tapKeys n) s (clearTaps s d n) :=
  .overAll _ _ (.refl ..) fun _ ht _ h => h.setFld (List.mem_map_of_mem ht) _

theorem regChange_dfeAdapt (s : Chip) (d : Fin 4) (n : Nat) (accs : List Int) :
    RegChange d (tapKeys n) s (dfeAdapt d n accs s) := by
  refine .whenUp ?_ d
  refine .guarded (.refl ..) ?_
  refine .overAll _ _ (.refl ..) fun t ht m h => ?_
  have hk : (tapF n t).key ∈ tapKeys n := List.mem_map_of_mem ht
  exact .guarded (h.setFld hk _) (.guarded (h.setFld hk _) h)

theorem regChange_dramEnableNow (s : Chip) (d : Fin 4) :
    RegChange d [Rf.DRAM_CTL_EN.key, Rf.DRAM_STAT_RESULT.key] s (dramEnableNow s d) := by
  have h := RegChange.refl d [Rf.DRAM_CTL_EN.key, Rf.DRAM_STAT_RESULT.key] s
  exact .guarded h <| .guarded (h.setFld (by simp) _) <| .guarded (h.setFld (by simp) _) <|
    (h.setFld (by simp) _).setFld (by simp) _

theorem regChange_txfirWrite (s : Chip) (d : Fin 4) (n : Nat) (v : Word) :
    RegChange d [(Rf.LANE_STAT_FIRBAD.at n).key, (Rf.LANE_TXFIR_PRE.at n).key] s (txfirWrite s d n v) :=
  .guarded ((RegChange.refl ..).setFld (by simp) _) ((RegChange.refl ..).setReg (by simp) _)

theorem regChange_eyeWrite (s : Chip) (d : Fin 4) (n : Nat) (v : Word) :
    RegChange d [(Rf.LANE_EYE_H.at n).key, (Rf.LANE_EYE_STAT_BUSY.at n).key] s (eyeWrite s d n v) := by
  have set {f : Fld} {m : Chip} (hf : f.key = (Rf.LANE_EYE_H.at n).key) (x : Nat)
      (h : RegChange d [(Rf.LANE_EYE_H.at n).key, (Rf.LANE_EYE_STAT_BUSY.at n).key] s m) :
      RegChange d [(Rf.LANE_EYE_H.at n).key, (Rf.LANE_EYE_STAT_BUSY.at n).key] s (m.setFld d f x) :=
    h.setFld (by simp [hf]) x
  have h := set (f := Rf.LANE_EYE_DWELL.at n) rfl (clampN 10 40 (getBits v 24 6)) <|
    set (f := Rf.LANE_EYE_EYE.at n) rfl (getBits v 16 2) <| set (f := Rf.LANE_EYE_V.at n) rfl (getBits v 8 7) <|
    set rfl (getBits v 0 6) (.refl ..)
  exact .guarded (.refl ..) (.guarded (h.setFld (by simp) _) h)

theorem regChange_prbsCheckerLock (s : Chip) (d : Fin 4) (n : Nat) (lock : Bool) (bits : BitVec 64) (errs : Nat) :
    RegChange d ([Rf.LANE_PRBS_RXLOCK, Rf.LANE_PRBS_ERR_ERR, Rf.LANE_PRBS_BITS_LO_BITS, Rf.LANE_PRBS_BITS_HI_BITS].map
      fun f => (f.at n).key) s (prbsCheckerLock d n lock bits errs s) := by
  refine .whenUp ?_ d
  refine .guarded (.refl ..) (.setFld (.guarded ?_ (.refl ..)) (by simp) _)
  exact (((RegChange.refl ..).setFld (by simp) _).setFld (by simp) _).addFld (by simp) _

theorem regChange_chkCfgWrite (s : Chip) (d : Fin 4) (t : Fin 256) (n : Nat) (v : Word) :
    RegChange d [(Rf.CHK_CFG_ALG.at n).key, (Rf.CHK_RV_RV.at n).key] s (chkCfgWrite s d t n v) := by
  have h := (RegChange.refl d [(Rf.CHK_CFG_ALG.at n).key, (Rf.CHK_RV_RV.at n).key] s).setFld
    (f := Rf.CHK_CFG_ALG.at n) (by simp) (getBits v 0 3)
  exact .guarded ((RegChange.refl ..).refusedWrite ..)
    ((h.setFld (f := Rf.CHK_CFG_NBYTES.at n) (List.mem_cons.2 (.inl rfl)) _).setFld (by simp) _)

theorem regChange_groupJoin (s : Chip) : RegChange 0 [Rf.SEAM_GRP_STAT_STATE.key] s (groupJoin s) :=
  .guarded (.refl ..) <| .guarded ((RegChange.refl ..).setFld (f := Rf.SEAM_GRP_STAT_RESULT) (by decide) _)
    ((RegChange.refl ..).setFld (by simp) _)

theorem regChange_jobCtlWrite (s : Chip) (d : Fin 4) (j : Nat) (v : Word) :
    RegChange d [(Rf.PLEAT_JOB_CTL_DIR.at j).key, (Rf.PLEAT_JOB_STAT_BUSY.at j).key] s (jobCtlWrite s d j v) :=
  .guarded (.refl ..) <| .guarded (((RegChange.refl ..).setReg (by simp) _).setFld (by simp) _)
    ((RegChange.refl ..).setReg (by simp) _)

theorem regChange_spadInject (s : Chip) (d : Fin 4) (v : Word) :
    RegChange d [Rf.SPAD_INJECT_MASK.key] s (spadInject s d v) :=
  (((RegChange.refl ..).setFld (by simp) _).setFld (f := Rf.SPAD_INJECT_LANE) (by decide) _).setFld
    (f := Rf.SPAD_INJECT_ARM) (by decide) _

theorem regChange_bmemInject (s : Chip) (d : Fin 4) (v : Word) :
    RegChange d [Rf.BMEM_INJECT_MASK.key] s (bmemInject s d v) :=
  (((RegChange.refl ..).setFld (by simp) _).setFld (f := Rf.BMEM_INJECT_LANE) (by decide) _).setFld
    (f := Rf.BMEM_INJECT_ARM) (by decide) _

/-- Every register command changes its registers only: the gate of its sender passes the write, ignores it or logs a
refusal, and the write itself stores fields of its registers. -/
theorem regChange_of_writesOnly {c : Instr} {d : Fin 4} {keys : List Nat} {s : State} {k : Chip}
    (hw : writesOnly c = some (d, keys)) (hg : Gives c s k) : RegChange d keys s.chip k := by
  unfold writesOnly at hw
  split at hw
  case h_26 => cases hw
  all_goals
    obtain ⟨rfl, rfl⟩ := Prod.mk.inj (Option.some.inj hw)
    obtain rfl := (gives_iff rfl).1 hg
  case h_1 => -- dramMarkWrite
    exact .whenGranted (((RegChange.refl ..).setFld (by simp) _).setFld (f := Rf.DRAM_MARK_VALID) (by decide) _) ..
  case h_2 => exact .whenGranted (regChange_dramEnableNow ..) ..
  case h_3 => -- dramClear
    refine .whenGranted ?_ ..
    exact .guarded (.refl ..) ((RegChange.refl ..).setFld (by simp) _)
  case h_4 => exact .whenGranted (.laneWrite (regChange_txfirWrite ..) ..) ..
  case h_5 => exact .whenGranted (.laneWrite ((RegChange.refl ..).setFld (by simp) _) ..) .. -- ctleWrite
  case h_6 => exact .whenGranted (.laneWrite ((RegChange.refl ..).setFld (by simp) _) ..) .. -- dfeTapWrite
  case h_7 => exact .whenGranted (.laneWrite (regChange_clearTaps ..) ..) ..
  case h_8 => exact regChange_dfeAdapt ..
  case h_9 => exact .whenGranted (regChange_eyeWrite ..) ..
  case h_10 => -- eyeScanDone
    refine .whenUp ?_ _
    exact .guarded (((RegChange.refl ..).setFld (by simp) _).setFld (by simp) _) (.refl ..)
  case h_11 => -- lanePllUnlock
    refine .whenUp ?_ _
    exact .guarded (((RegChange.refl ..).setFld (by simp) _).raise ..) (.refl ..)
  case h_12 => -- lanePllRelock
    refine .whenUp ?_ _
    exact .guarded ((RegChange.refl ..).setFld (by simp) _) (.refl ..)
  case h_13 => exact regChange_prbsCheckerLock ..
  case h_14 => -- flowTxreqWrite
    refine .whenUp ?_ _
    exact .guarded (.refl ..) (.guarded ((RegChange.refl ..).addFld (by simp) _) ((RegChange.refl ..).refusedWrite ..))
  case h_15 => exact .whenGranted ((RegChange.refl ..).setReg (by simp) _) .. -- flowAliveWrite
  case h_16 => exact .whenGranted ((RegChange.refl ..).setFld (by simp) _) .. -- chkDataWrite
  case h_17 => exact .whenGranted ((RegChange.refl ..).setFld (by simp) _) .. -- chkRestart
  case h_18 => exact .whenGranted (regChange_chkCfgWrite ..) ..
  case h_19 => exact .whenUp ((RegChange.refl ..).setFld (by simp) _) _ -- wdogWindowOpen
  case h_20 => -- converterReady
    refine .whenUp ?_ _
    exact .guarded ((RegChange.refl ..).setFld (by simp) _) (.refl ..)
  case h_21 => exact .whenSuper (regChange_groupJoin ..) ..
  case h_22 => exact .whenGranted ((RegChange.refl ..).setFld (by simp) _) .. -- pllFracWrite
  case h_23 => exact .whenGranted (regChange_jobCtlWrite ..) ..
  case h_24 => exact .whenGranted (regChange_spadInject ..) ..
  case h_25 => exact .whenGranted (regChange_bmemInject ..) ..

/-- Settles O57: each register command stores its own registers only, and a refusal changes the count of its kind. -/
theorem registerCommandsChangeOnlyTheirRegisters : Obligations.RegisterCommandsChangeOnlyTheirRegisters := by
  unfold Obligations.RegisterCommandsChangeOnlyTheirRegisters
  intro c d keys s k hw hg
  exact regChange_of_writesOnly hw hg

end Sys2Proof.Says
end

section
/-! Event records that a die has sent, and faults of a tenant: the work of the tenant ends, and what that leaves alone. -/

namespace Sys2Proof.Machine

/-- The registers below the window of Pleat, the time bases and the records on their way are as they were. -/
structure EndsWork (s k : Chip) : Prop where
  fly : ∀ e, (k.d e).fly = (s.d e).fly
  tb : ∀ e, (k.d e).tb = (s.d e).tb
  reg : ∀ e j, j < 11 * 1048576 → k.reg e j = s.reg e j

namespace EndsWork

variable {s m k : Chip}

theorem refl (s : Chip) : EndsWork s s := ⟨fun _ => rfl, fun _ => rfl, fun _ _ _ => rfl⟩

theorem trans (h : EndsWork s m) (h' : EndsWork m k) : EndsWork s k :=
  ⟨fun e => (h'.fly e).trans (h.fly e), fun e => (h'.tb e).trans (h.tb e),
    fun e j hj => (h'.reg e j hj).trans (h.reg e j hj)⟩

/-- A change of a die beside its registers, its time base and its records. -/
theorem upd (s : Chip) (d : Fin 4) {f : DieSt → DieSt}
    (h : ∀ x, (f x).regs = x.regs ∧ (f x).fly = x.fly ∧ (f x).tb = x.tb) : EndsWork s (s.upd d f) := by
  refine ⟨fun e => ?_, fun e => ?_, fun e j _ => Chip.reg_upd s d e j f fun x => (h x).1⟩ <;> rw [Chip.d_upd] <;> split
  · subst e; exact (h _).2.1
  · rfl
  · subst e; exact (h _).2.2
  · rfl

theorem setFld (s : Chip) (d : Fin 4) {f : Fld} (v : Nat) (hf : 11 * 1048576 ≤ f.key) : EndsWork s (s.setFld d f v) :=
  ⟨by simp, by simp, fun _ _ hj => Chip.reg_setFld_ne s f v (.inr (by omega))⟩

theorem complete (s : Chip) (t : Fin 256) (c : Compl) : EndsWork s (complete s t c) :=
  ⟨fun _ => rfl, fun _ => rfl, fun _ _ _ => rfl⟩

theorem overAll {α : Type} (f : Chip → α → Chip) (l : List α) (hf : ∀ s a, EndsWork s (f s a)) (s : Chip) :
    EndsWork s (overAll f s l) := overAll_keeps (EndsWork s) f (fun m a h => h.trans (hf m a)) s l (refl s)

theorem tellItem (s : Chip) (d : Fin 4) (r : RanItem) (st : Nat) : EndsWork s (tellItem s d r st) := by
  unfold Machine.tellItem
  have h := upd s d (f := fun y => { y with ran := y.ran.map fun q => if q.id == r.id then { q with told := true } else q })
    fun _ => ⟨rfl, rfl, rfl⟩
  dsimp only
  split
  · exact h.trans (complete ..)
  · exact h

theorem tellPlain (s : Chip) (d : Fin 4) (id : Nat) : EndsWork s (tellPlain s d id) := by
  unfold Machine.tellPlain
  split
  · exact tellItem ..
  · exact refl s

theorem endProgram (s : Chip) (d : Fin 4) (c : Nat) (killed : Bool) (st det : Nat) :
    EndsWork s (endProgram s d c killed st det) := by
  unfold Machine.endProgram
  dsimp only
  split
  · have h (x : Cluster) : EndsWork s (s.setCluster d c x) := upd s d fun _ => ⟨rfl, rfl, rfl⟩
    split
    · exact h _
    · refine (h _).trans (EndsWork.trans (upd _ d ?_) (tellPlain ..))
      exact fun _ => ⟨rfl, rfl, rfl⟩
  · exact refl s

theorem discardSet (s : Chip) (d : Fin 4) (n : Nat) : EndsWork s (discardSet s d n) := by
  unfold Machine.discardSet Chip.setPset Chip.onPleat
  refine EndsWork.trans (upd s d ?_) (setFld _ d _ ?_)
  · exact fun _ => ⟨rfl, rfl, rfl⟩
  · simp only [Fld.key, Fld.at, Rf.PLEAT_SET_STAT_PENDING]; omega

theorem endInst (s : Chip) (d : Fin 4) (i st : Nat) : EndsWork s (endInst s d i st) := by
  unfold Machine.endInst
  split
  · exact refl s
  · have h : EndsWork s (s.setInst d i none) := upd s d fun _ => ⟨rfl, rfl, rfl⟩
    refine EndsWork.trans ?_ (complete ..)
    split
    · refine h.trans ((setFld _ d _ ?_).trans (discardSet ..))
      simp only [Fld.key, Fld.at, Rf.PLEAT_SET_CTL_ENABLE]; omega
    · exact h

theorem endInstsOf (s : Chip) (d : Fin 4) (t : Fin 256) (st : Nat) : EndsWork s (endInstsOf s d t st) := by
  refine overAll _ _ (fun m i => ?_) s
  split
  · split
    · exact endInst ..
    · exact refl m
  · exact refl m

/-- A fault of a tenant marks the tenant, and ends its work. -/
theorem markFaulted (s : Chip) (t : Fin 256) :
    EndsWork (s.setFld 0 (Rf.YOKE_TEN_CTL_FAULTED.at t.val) 1) (markFaulted s t) :=
  overAll _ _ (fun _ _ => (overAll _ _ (fun _ _ => endProgram ..) _).trans (endInstsOf ..)) _

end EndsWork

/-- An access fault of plain work raises its event and marks the tenant (R44, R190). -/
theorem accFault_eq (s : Chip) (d : Fin 4) (src : Nat) (t : Fin 256) (addr : Nat) :
    accFault s d src t addr = markFaulted (raise s d src K.ACCFLT t addr) t := rfl

/-- A tenant that faults is marked as faulted. -/
theorem fld_faulted_markFaulted (s : Chip) (t : Fin 256) :
    (markFaulted s t).fld 0 (Rf.YOKE_TEN_CTL_FAULTED.at t.val) = 1 := by
  have hk : (Rf.YOKE_TEN_CTL_FAULTED.at t.val).key < 11 * 1048576 := by
    have := t.isLt
    simp only [Fld.key, Fld.at, Rf.YOKE_TEN_CTL_FAULTED]; omega
  rw [Chip.fld, (EndsWork.markFaulted s t).reg 0 _ hk]
  exact Chip.fld_setFld_same s 0 (Rf.YOKE_TEN_CTL_FAULTED.at t.val) 1 (by simp [Fld.at, Rf.YOKE_TEN_CTL_FAULTED])

/-- A fault of a tenant leaves the records on their way and the time of every die. -/
theorem fly_markFaulted (s : Chip) (t : Fin 256) (e : Fin 4) : ((markFaulted s t).d e).fly = (s.d e).fly := by
  rw [(EndsWork.markFaulted s t).fly, Chip.fly_of_setFld]

theorem now_markFaulted (s : Chip) (t : Fin 256) (e : Fin 4) : (markFaulted s t).now e = s.now e := by
  rw [Chip.now, (EndsWork.markFaulted s t).tb, Chip.tb_of_setFld, Chip.now]

/-- Raising an event takes no time. -/
theorem now_raise (s : Chip) (d e : Fin 4) (src kind : Nat) (t : Fin 256) (pay : Nat) :
    (raise s d src kind t pay).now e = s.now e := by
  exact (congrArg (fun x : DieSt => x.tb.now) ((Says.onlyRegs_sendRec s d (mkRec s d src kind t pay false false)).1 e) :)

end Sys2Proof.Machine

namespace Sys2Proof.Says

open Sys2Proof.Machine

/-- An event that a die raises has been sent. -/
theorem sent_raise (s : Chip) (d : Fin 4) (src kind : Nat) (t : Fin 256) (pay : Nat) :
    Sent (raise s d src kind t pay) d kind t := by
  refine ⟨mkRec s d src kind t pay false false, ?_, rfl, rfl, (now_raise ..).symm⟩
  rw [fly_raise, if_pos rfl]
  simp

/-- A refused access has been logged. -/
theorem sent_nogrant (s : Chip) (d : Fin 4) (t : Fin 256) (u off : Nat) (rd : Bool) :
    Sent (nogrant s d t u off rd) d K.NOGRANT t := sent_raise ..

/-- The record of an access fault has been sent. -/
theorem sent_accFault (s : Chip) (d : Fin 4) (src : Nat) (t : Fin 256) (addr : Nat) :
    Sent (accFault s d src t addr) d K.ACCFLT t := by
  simp only [accFault_eq, Sent, fly_markFaulted, now_markFaulted]
  exact sent_raise ..

/-- Where only registers and records change, every store stays. -/
theorem OnlyRegs.storesKept {s k : Chip} (h : OnlyRegs s k) : StoresKept s k := fun e =>
  ⟨(congrArg DieSt.spad (h.1 e) :), (congrArg DieSt.cst (h.1 e) :), (congrArg DieSt.bmem (h.1 e) :),
    (congrArg DieSt.lining (h.1 e) :), (congrArg DieSt.dram (h.1 e) :), (congrArg DieSt.clusters (h.1 e) :),
    (congrArg DieSt.istore (h.1 e) :)⟩

end Sys2Proof.Says
end

section
/-! Register accesses: by device address, and without the right to them. -/

namespace Sys2Proof.Says

open Sys2Proof.Machine

section deviceAddress

variable {s : Chip} {d : Fin 4} {t : Fin 256} {u off : Nat}

theorem toNat_devAddr (d : Fin 4) (hu : u < 28) (ho : off < 2 ^ 24) :
    (devAddr d u off).toNat = d.val * 2 ^ 38 + 0x3F00000000 + u * 2 ^ 24 + off := by
  have := d.isLt
  rw [devAddr, BitVec.toNat_ofNat, Nat.mod_eq_of_lt (by omega)]

theorem addrDie_devAddr (d : Fin 4) (hu : u < 28) (ho : off < 2 ^ 24) : addrDie (devAddr d u off) = d := by
  rw [addrDie, toNat_devAddr d hu ho, show (d.val * 2 ^ 38 + 0x3F00000000 + u * 2 ^ 24 + off) / 2 ^ 38 = d.val by omega,
    Fin.ofNat_val_eq_self]

/-- The device address of a word of a unit's window names it (R18, R24). -/
theorem devPlace_devAddr (d : Fin 4) (hu : u < 28) (ho : off < 2 ^ 24) (h4 : off % 4 = 0) :
    devPlace (devAddr d u off) 4 = some (u, off) := by
  have he : (devAddr d u off).toNat % 2 ^ 38 - regBase = u * 2 ^ 24 + off := by
    rw [toNat_devAddr d hu ho, regBase]; omega
  have hb : regBase ≤ (devAddr d u off).toNat % 2 ^ 38 := by
    rw [toNat_devAddr d hu ho, regBase]; omega
  have hq : (u * 2 ^ 24 + off) / 2 ^ 24 = u := by omega
  have hr : (u * 2 ^ 24 + off) % 2 ^ 24 = off := by omega
  have hok : regAddrOk (u * 2 ^ 24 + off) = true := by simp only [regAddrOk, hq]; simp; omega
  simp only [devPlace, he, hb, hok, hq, hr, and_self, if_true]

/-- A write by device address reaches the register it names. -/
theorem registerWrite_devAddr (hu : u < 28) (ho : off < 2 ^ 24) (h4 : off % 4 = 0) (hup : up s d = true) (v : Word) :
    registerWrite (.dev t (devAddr d u off)) 4 v s = regWrite s d t u off v := by
  simp only [registerWrite, addrDie_devAddr d hu ho, whenUp, hup, if_true, devPlace_devAddr d hu ho h4]

/-- A read by device address answers what the register it names reads. -/
theorem registerRead_devAddr (hu : u < 28) (ho : off < 2 ^ 24) (h4 : off % 4 = 0) (hup : up s d = true) :
    registerRead (.dev t (devAddr d u off)) 4 s =
      { (regRead s d t u off).1 with reply := .word (regRead s d t u off).2 } := by
  simp only [registerRead, addrDie_devAddr d hu ho, whenUp, hup, if_true, devPlace_devAddr d hu ho h4]

/-- A write to an address that names no register is an access fault (R44). -/
theorem registerWrite_misplaced {addr : BitVec 40} {bytes : Nat} (hup : up s (addrDie addr) = true)
    (hp : devPlace addr bytes = none) (v : Word) :
    registerWrite (.dev t addr) bytes v s = accFault s (addrDie addr) 0 t addr.toNat := by
  simp only [registerWrite, whenUp, hup, if_true, hp]

/-- A read of one is an access fault and reads 0. -/
theorem registerRead_misplaced {addr : BitVec 40} {bytes : Nat} (hup : up s (addrDie addr) = true)
    (hp : devPlace addr bytes = none) :
    registerRead (.dev t addr) bytes s = { accFault s (addrDie addr) 0 t addr.toNat with reply := .word 0 } := by
  simp only [registerRead, whenUp, hup, if_true, hp]

end deviceAddress

/-- A write to an absent unit is ignored (R8). -/
theorem regWrite_absent {s : Chip} {d : Fin 4} {u : Nat} (h : present s d u = false) (t : Fin 256) (off : Nat) (v : Word) :
    regWrite s d t u off v = s := by simp [regWrite, h]

/-- A write without the right to it is logged and does nothing else (R45). -/
theorem regWrite_refused {s : Chip} {d : Fin 4} {t : Fin 256} {u off : Nat} (hp : present s d u = true)
    (h : mayWrite s d t u off = false) (v : Word) : regWrite s d t u off v = nogrant s d t u off false := by
  simp [regWrite, hp, h]

/-- A permitted write to a register that the die has is the unit's to act on. -/
theorem regWrite_permitted {s : Chip} {d : Fin 4} {t : Fin 256} {u off : Nat} (hp : present s d u = true)
    (h : mayWrite s d t u off = true) (hr : (regOn d u off).isSome = true) (v : Word) :
    regWrite s d t u off v = unitWrite s d t u off v := by simp [regWrite, hp, h, hr]

/-- A read of an absent unit reads 0 (R8). -/
theorem regRead_absent {s : Chip} {d : Fin 4} {u : Nat} (h : present s d u = false) (t : Fin 256) (off : Nat) :
    regRead s d t u off = (s, 0) := by simp [regRead, h]

/-- A read without the right to it is logged and reads 0 (R45). -/
theorem regRead_refused {s : Chip} {d : Fin 4} {t : Fin 256} {u off : Nat} (hp : present s d u = true)
    (h : mayRead s d t u off = false) : regRead s d t u off = (nogrant s d t u off true, 0) := by
  simp [regRead, hp, h]

/-- A refused access changes the count of its records, and no other register. -/
theorem regsKept_nogrant (s : Chip) (d : Fin 4) (t : Fin 256) (u off : Nat) (rd : Bool) :
    RegsKept s (nogrant s d t u off rd) 0 [(Rf.EVT_KCOUNT_COUNT.at K.NOGRANT).key] := fun e j h =>
  reg_raise s d e _ _ t _ (h.imp_right fun hj => by simpa using hj)

theorem storesKept_nogrant (s : Chip) (d : Fin 4) (t : Fin 256) (u off : Nat) (rd : Bool) :
    StoresKept s (nogrant s d t u off rd) := (onlyRegs_sendRec ..).storesKept

/-- Settles O19: an access by device address is the register access it names, which the presence of the unit and the
right of the tenant decide, or an access fault, which marks the tenant. -/
theorem unpermittedAccessesHaveNoEffect : Obligations.UnpermittedAccessesHaveNoEffect := by
  unfold Obligations.UnpermittedAccessesHaveNoEffect
  refine ⟨fun d t u off v s hu ho h4 hup => ?_, fun t addr bytes v s hup hp => ?_⟩
  · have hw := registerWrite_devAddr (t := t) hu ho h4 hup v
    have hr := registerRead_devAddr (t := t) hu ho h4 hup
    exact ⟨fun ha => ⟨.of_effect rfl (hw.trans (regWrite_absent ha ..)),
        .of_effect rfl (hr.trans (by rw [regRead_absent ha]))⟩,
      fun hpr hm => .of_effect rfl (hw.trans (regWrite_refused hpr hm _)),
      fun hpr hm => .of_effect rfl (hr.trans (by rw [regRead_refused hpr hm])),
      regsKept_nogrant _ d t u off _, storesKept_nogrant _ d t u off _⟩
  · exact ⟨.of_effect rfl (registerWrite_misplaced hup hp v), .of_effect rfl (registerRead_misplaced hup hp),
      by rw [accFault_eq, fld_faulted_markFaulted]⟩

end Sys2Proof.Says
end

section
/-! The register map at the registers of the supervisor's settings, and what a permitted write stores there. -/

namespace Sys2Proof.Machine

/-- The register family `r` has a register at `off`. -/
def RegSpec.Has (r : RegSpec) (off : Nat) : Prop :=
  r.off ≤ off ∧
    if r.stride = 0 then off = r.off else (off - r.off) % r.stride = 0 ∧ (off - r.off) / r.stride < r.count

/-- The table answers the first family that has a register at the offset. -/
theorem findReg_getElem {off : Nat} (l : List RegSpec) (i : Nat) (hi : i < l.length) (hat : l[i].Has off)
    (hb : ∀ r ∈ l.take i, ¬ r.Has off) : findReg off l = some l[i] := by
  induction l generalizing i with
  | nil => simp at hi
  | cons r l ih =>
    cases i with
    | zero => exact if_pos hat
    | succ i =>
      exact (if_neg (hb r (by simp))).trans
        (ih i (by simpa using hi) (by simpa using hat) fun r hr => hb r (by simp [hr]))

theorem regAt_key (u : Nat) {off : Nat} (ho : off < 1048576) : regAt (u * 1048576 + off) = findReg off (regTable u) := by
  rw [regAt, show (u * 1048576 + off) % 1048576 = off by omega, show (u * 1048576 + off) / 1048576 = u by omega]

/-- A register of the table of its unit that every die has. -/
theorem regOn_all {u off : Nat} {r : RegSpec} (ho : off < 1048576) (h : findReg off (regTable u) = some r)
    (hd : r.dies = 15) (d : Fin 4) : regOn d u off = some r := by
  have hb : bit r.dies d.val = true := by rw [hd]; fin_cases d <;> rfl
  simp [regOn, keyOf, ho, regAt_key u ho, h, hb]

/-- A write of a register without a behaviour of its own stores its fields. -/
theorem plainWrite_eq {d : Fin 4} {u off : Nat} {r : RegSpec} (h : regOn d u off = some r) (s : Chip) (v : Word) :
    plainWrite s d u off v =
      s.setReg d (u * 1048576 + off) (writeFields v r.fields (s.reg d (u * 1048576 + off))) := by
  simp [plainWrite, h]

/-- A unit that fuses cannot disable is present where it is carried. -/
theorem present_of_carried (s : Chip) {d : Fin 4} {u : Nat} (hc : carried d u = true) (hf : fusable u = false) :
    present s d u = true := by simp [present, hc, hf]

theorem present_sys (s : Chip) (d : Fin 4) : present s d 0 = true := present_of_carried s (by simp [carried]) rfl

theorem present_yoke (s : Chip) (d : Fin 4) : present s d 1 = true := present_of_carried s (by simp [carried]) rfl

/-- The supervisor may write every register. -/
theorem mayWrite_supervisor (s : Chip) (d : Fin 4) (u off : Nat) : mayWrite s d 0 u off = true := by simp [mayWrite]

/-- The supervisor may read every register. -/
theorem mayRead_supervisor (s : Chip) (d : Fin 4) (u off : Nat) : mayRead s d 0 u off = true := by simp [mayRead]

/-- Another tenant may not write a register of SYS. -/
theorem mayWrite_sys {t : Fin 256} (ht : t ≠ 0) (s : Chip) (d : Fin 4) (off : Nat) : mayWrite s d t 0 off = false := by
  simp [mayWrite, superOnly, ownWrite, ht]

/-- Another tenant may not write a Yoke instruction (R117). -/
theorem mayWrite_yokeImem {t : Fin 256} (ht : t ≠ 0) (s : Chip) (d : Fin 4) {off : Nat} (ho : 0x40000 ≤ off) :
    mayWrite s d t 1 off = false := by
  simp [mayWrite, superOnly, ownWrite, ht, ho]

/-- A named register is written as by any access of its sender. -/
theorem namedWrite_up {s : Chip} {d : Fin 4} (hup : up s d = true) (t : Fin 256) (u off : Nat) (v : Word) :
    namedWrite s d t u off v = regWrite s d t u off v := by simp [namedWrite, whenUp, hup]

theorem namedRead_up {s : Chip} {d : Fin 4} (hup : up s d = true) (t : Fin 256) (u off : Nat) :
    namedRead s d t u off = { (regRead s d t u off).1 with reply := .word (regRead s d t u off).2 } := by
  simp [namedRead, whenUp, hup]

/-! ### Where the settings lie -/

theorem regOn_compat (d : Fin 4) : (regOn d 0 0xC).isSome = true := by
  rw [regOn_all (by decide) (by rfl) (by rfl)]; rfl

theorem regOn_grant (d : Fin 4) (n : Fin 256) :
    regOn d 0 (0x400 + 4 * n.val) = some ⟨0x400, 4, 256, 15, [⟨0, 28, .rw, .srst, 0⟩]⟩ := by
  have := n.isLt
  refine regOn_all (by omega) (findReg_getElem regsSYS 4 (by decide) ?_ ?_) rfl d
  · simp [regsSYS, RegSpec.Has]
  · simp [regsSYS, RegSpec.Has]; omega

theorem regOn_yokeImem (d : Fin 4) (i : BitVec 14) :
    regOn d 1 (0x40000 + 4 * i.toNat) = some ⟨0x40000, 4, 16384, 15, [⟨0, 32, .rw, .porn, 67108864⟩]⟩ := by
  have := i.isLt
  refine regOn_all (by omega) (findReg_getElem regsYOKE 9 (by decide) ?_ ?_) rfl d
  · simp [regsYOKE, RegSpec.Has]; omega
  · simp [regsYOKE, RegSpec.Has]; omega

theorem regOn_rd1 (d : Fin 4) (q : Fin 1024) : (regOn d 1 (0x10004 + 16 * q.val)).isSome = true := by
  have := q.isLt
  have h : regOn d 1 (0x10004 + 16 * q.val) = some (regsYOKE[6]'(by decide)) := by
    refine regOn_all (by omega) (findReg_getElem regsYOKE 6 (by decide) ?_ ?_) rfl d
    · simp [regsYOKE, RegSpec.Has]
    · simp [regsYOKE, RegSpec.Has]; omega
  rw [h]
  rfl

theorem regOn_rto : (regOn 0 1 0xC).isSome = true := by rfl

/-- A write of all bits of a word replaces it. -/
theorem putBits_all (w v : Word) : putBits w 0 32 (getBits v 0 32) = v := by
  have hv : v.toNat < 2 ^ 32 := v.isLt
  apply BitVec.eq_of_toNat_eq
  rw [toNat_putBits w 0 32 _ (by decide), getBits]
  have := w.isLt
  omega

/-! ### What the units do with a write of one -/

theorem writeSys_grant (s : Chip) (d : Fin 4) (t : Fin 256) {n : Fin 256} (hn : n ≠ 0) (v : Word) :
    unitWrite s d t 0 (0x400 + 4 * n.val) v = s.setFld d (Rf.SYS_GRANT_UNITS.at n.val) (getBits v 0 28) := by
  have hn' : n.val ≠ 0 := fun h => hn (Fin.ext h)
  have h1 : 0x400 + 4 * n.val ≠ 0xC := by omega
  have h2 : 0x400 + 4 * n.val ≠ 0x400 := by omega
  change writeSys s d t _ v = _
  rw [writeSys, if_neg h1, if_neg h2, plainWrite_eq (regOn_grant d n)]
  simp only [writeFields, writeField, Chip.setFld, Fld.key, Fld.at, Rf.SYS_GRANT_UNITS]

theorem writeYoke_imem (s : Chip) (d : Fin 4) (t : Fin 256) (i : BitVec 14) (v : Word) :
    unitWrite s d t 1 (0x40000 + 4 * i.toNat) v = s.setReg d (1048576 + 0x40000 + 4 * i.toNat) v := by
  have hi := i.isLt
  have h1 : 0x40000 + 4 * i.toNat ≠ 0xC := by omega
  have h2 : 0x40000 + 4 * i.toNat ≠ 0x400 := by omega
  have h3 : nth (0x40000 + 4 * i.toNat) 0x10004 16 1024 = none := by rw [nth, if_neg (by omega)]
  change writeYoke s d t _ v = _
  rw [writeYoke, if_neg h1, if_neg h2]
  simp only [h3]
  rw [plainWrite_eq (regOn_yokeImem d i)]
  simp only [writeFields, writeField, putBits_all, Nat.one_mul, Nat.add_assoc]

theorem writeYoke_rd1 (s : Chip) (d : Fin 4) (t : Fin 256) (q : Fin 1024) (v : Word) :
    unitWrite s d t 1 (0x10004 + 16 * q.val) v = rdWrite s d q.val v := by
  have hq := q.isLt
  have h1 : 0x10004 + 16 * q.val ≠ 0xC := by omega
  have h2 : 0x10004 + 16 * q.val ≠ 0x400 := by omega
  have h3 : nth (0x10004 + 16 * q.val) 0x10004 16 1024 = some q.val := by
    rw [nth, if_pos (by omega), show (0x10004 + 16 * q.val - 0x10004) / 16 = q.val by omega]
  change writeYoke s d t _ v = _
  rw [writeYoke, if_neg h1, if_neg h2]
  simp only [h3]

/-- A descriptor whose VALID is 1 after a write of its word 1 passes the tests of R143. -/
theorem descOk_of_rdWrite_valid {s : Chip} {d : Fin 4} {n : Nat} {v : Word}
    (h : (rdWrite s d n v).fld d (Rf.YOKE_RD1_VALID.at n) = 1) :
    descOk ((rdWrite s d n v).fld64 d (Rf.YOKE_RD0_BASE_LO.at n) (Rf.YOKE_RD1_BASE_HI.at n))
      ((rdWrite s d n v).fld64 d (Rf.YOKE_RD2_LIMIT_LO.at n) (Rf.YOKE_RD3_LIMIT_HI.at n)) = true := by
  revert h
  unfold rdWrite
  dsimp only
  split
  · exact fun _ => ‹_›
  · rw [Chip.fld_setFld_same _ _ _ _ (by simp [Fld.at, Rf.YOKE_RD1_VALID])]
    exact fun h => absurd h (by simp)

/-- SYS.COMPAT takes a write until the first tick has started (R33). -/
theorem writeSys_compat {s : Chip} (h : s.ticked = false) (d : Fin 4) (t : Fin 256) (v : Word) :
    unitWrite s d t 0 0xC v = { s with compat := getBits v 0 6 } := if_neg (by simp [h])

theorem writeSys_compat_ticked {s : Chip} (h : s.ticked = true) (d : Fin 4) (t : Fin 256) (v : Word) :
    unitWrite s d t 0 0xC v = nogrant s d t 0 0xC false := if_pos h

theorem writeYoke_rto (s : Chip) (t : Fin 256) (v : Word) : unitWrite s 0 t 1 0xC v = rtoWrite s t v := rfl

/-- While no setting waits, a timeout of at least 4 whose time lies below the active P is taken (R147). -/
theorem rtoWrite_taken {s : Chip} {v : Word} (hs : s.settings = []) (h4 : 4 ≤ getBits v 0 16)
    (hlt : getBits v 0 16 * 1000 < (s.d 0).tick.set.p) (t : Fin 256) :
    rtoWrite s t v = s.setFld 0 Rf.YOKE_RTO_TIMEOUT (getBits v 0 16) := by
  have h : ¬ getBits v 0 16 < 4 := by omega
  have h' : ¬ (s.d 0).tick.set.p ≤ getBits v 0 16 * 1000 := by omega
  simp [rtoWrite, hs, h, h']

/-- Any other is refused (R147). -/
theorem rtoWrite_refused {s : Chip} {v : Word} (hs : s.settings = [])
    (h : getBits v 0 16 < 4 ∨ (s.d 0).tick.set.p ≤ getBits v 0 16 * 1000) (t : Fin 256) :
    rtoWrite s t v = nogrant s 0 t 1 0xC false := by
  have hc : (decide (getBits v 0 16 < 4) || ((s.d 0).tick.set.p :: s.settings.map fun e => e.2.p).any fun p =>
      decide (p ≤ getBits v 0 16 * 1000)) = true := by simpa [hs] using h
  exact if_pos hc

/-- A refusal leaves every register below the window of EVT as it was. -/
theorem reg_nogrant (s : Chip) (d e : Fin 4) (t : Fin 256) (u off : Nat) (rd : Bool) {j : Nat} (hj : j < 24 * 1048576) :
    (nogrant s d t u off rd).reg e j = s.reg e j := by
  refine reg_raise s d e _ _ t _ (.inr ?_)
  simp only [Fld.key, Fld.at, Rf.EVT_KCOUNT_COUNT]
  omega

theorem fld_nogrant (s : Chip) (d e : Fin 4) (t : Fin 256) (u off : Nat) (rd : Bool) {f : Fld}
    (hf : f.key < 24 * 1048576) : (nogrant s d t u off rd).fld e f = s.fld e f := by
  rw [Chip.fld, reg_nogrant s d e t u off rd hf, Chip.fld]

end Sys2Proof.Machine

namespace Sys2Proof.Says

open Sys2Proof.Machine

section
variable {c : Instr} {s : State} {d : Fin 4} {t : Fin 256} {u off : Nat} {v : Word}

/-- A command that writes a named register without the right to it is logged, and does nothing else. -/
theorem gives_nogrant (h : exec c s = .next ⟨namedWrite s.chip d t u off v, s.pending⟩) (hup : up s.chip d = true)
    (hp : present s.chip d u = true) (hm : mayWrite s.chip d t u off = false) :
    Gives c s (nogrant s.chip d t u off false) :=
  .of_effect h ((namedWrite_up hup ..).trans (regWrite_refused hp hm v))

/-- A command of the supervisor that writes a named register does what its unit does with the write. -/
theorem gives_unitWrite (h : exec c s = .next ⟨namedWrite s.chip d 0 u off v, s.pending⟩) (hup : up s.chip d = true)
    (hp : present s.chip d u = true) (hr : (regOn d u off).isSome = true) :
    Gives c s (unitWrite s.chip d 0 u off v) :=
  .of_effect h ((namedWrite_up hup ..).trans (regWrite_permitted hp (mayWrite_supervisor ..) hr v))

end

/-- Settles O20: the right to each setting is the supervisor's alone, and its unit takes or refuses the value. -/
theorem supervisorSettingsTakeWrites : Obligations.SupervisorSettingsTakeWrites := by
  unfold Obligations.SupervisorSettingsTakeWrites
  refine ⟨fun d t n i q v s hup => ⟨fun hf => ?_, fun hf => ?_, fun ht => ?_, fun hn => ?_, fun ht => ?_, ?_,
    fun ht => ?_, ?_⟩, fun v s hup hset => ⟨fun h4 hlt => ?_, fun hbad => ?_⟩⟩
  · have h := gives_unitWrite (c := .sysCompatWrite 0 d v) rfl hup (present_sys ..) (regOn_compat d)
    rwa [writeSys_compat hf] at h
  · have h := gives_unitWrite (c := .sysCompatWrite 0 d v) rfl hup (present_sys ..) (regOn_compat d)
    rw [writeSys_compat_ticked hf] at h
    exact ⟨_, h, rfl, sent_nogrant ..⟩
  · exact ⟨_, gives_nogrant rfl hup (present_sys ..) (mayWrite_sys ht ..), rfl, sent_nogrant ..⟩
  · have hr : (regOn d 0 (0x400 + 4 * n.val)).isSome = true := by rw [regOn_grant]; rfl
    have h := gives_unitWrite (c := .sysGrantWrite 0 d n v) rfl hup (present_sys ..) hr
    rw [writeSys_grant _ _ _ hn] at h
    refine ⟨_, h, ?_, fun e j hj => Chip.reg_setFld_ne _ _ _ (by simpa using hj)⟩
    rw [Chip.fld_setFld_same _ _ _ _ (by simp [Fld.at, Rf.SYS_GRANT_UNITS])]
    exact Nat.mod_eq_of_lt (Nat.mod_lt _ (by decide))
  · refine ⟨_, gives_nogrant rfl hup (present_sys ..) (mayWrite_sys ht ..), ?_, sent_nogrant ..⟩
    have := n.isLt
    exact fld_nogrant _ _ _ _ _ _ _ (by simp only [Fld.key, Fld.at, Rf.SYS_GRANT_UNITS]; omega)
  · have hr : (regOn d 1 (0x40000 + 4 * i.toNat)).isSome = true := by rw [regOn_yokeImem]; rfl
    have h := gives_unitWrite (c := .yokeImemWrite 0 d i v) rfl hup (present_yoke ..) hr
    rwa [writeYoke_imem] at h
  · refine ⟨_, gives_nogrant rfl hup (present_yoke ..) (mayWrite_yokeImem ht _ _ (by omega)), ?_, sent_nogrant ..⟩
    have := i.isLt
    exact reg_nogrant _ _ _ _ _ _ _ (by omega)
  · have h := gives_unitWrite (c := .rdValidWrite 0 d q v) rfl hup (present_yoke ..) (regOn_rd1 d q)
    rw [writeYoke_rd1] at h
    exact ⟨_, h, descOk_of_rdWrite_valid⟩
  · have h := gives_unitWrite (c := .yokeRtoWrite 0 v) rfl hup (present_yoke ..) regOn_rto
    rwa [writeYoke_rto, rtoWrite_taken hset h4 hlt] at h
  · have h := gives_unitWrite (c := .yokeRtoWrite 0 v) rfl hup (present_yoke ..) regOn_rto
    rw [writeYoke_rto, rtoWrite_refused hset hbad] at h
    exact ⟨_, h, fld_nogrant _ 0 0 0 1 0xC false (by decide), sent_nogrant ..⟩

end Sys2Proof.Says
end

section
/-! Host accesses: the time registers, BAR0 and host SPI, the lane window, and SMBus. -/

namespace Sys2Proof.Machine

/-! ### Reads of the time base (R27, R93) -/

@[simp] theorem Chip.latchAt_setLatch_same (s : Chip) (d : Fin 4) (k : Nat) (v : Option Word) :
    (s.setLatch d k v).latchAt d k = v := by simp [latchAt, setLatch]

/-- A read of a LO register of TIME that shows the low word of `n` answers it, and latches the high word where its HI
register shows that. -/
theorem regRead_time_lo {s : Chip} {d : Fin 4} {off n : Nat} {x : Rst} {r : RegSpec} (hoff : off = 4 ∨ off = 0x34)
    (hr : regOn d 0x19 off = some r) (hf : r.fields = [⟨0, 32, .ro, x, 0⟩])
    (hl : s.latchAt d (0x19 * 1048576 + off) = none) (hlo : ∀ w, showTime s d off w = half n false)
    (hhi : ∀ m w, (m.d d).tb = (s.d d).tb → (m.d d).tick = (s.d d).tick → showTime m d (off + 4) w = half n true) :
    ∃ m, regRead s d 0 0x19 off = (m, BitVec.ofNat 32 n) ∧
      m.latchAt d (0x19 * 1048576 + off + 4) = some (BitVec.ofNat 32 (n / 2 ^ 32)) := by
  have hp : present s d 0x19 = true := present_of_carried s (by simp [carried]) rfl
  have h0 : off ≠ 0 := by omega
  have ha : activeSetting d 0x19 off = false := by rcases hoff with rfl | rfl <;> simp [activeSetting]
  have hh : hiOf 0x19 off = some (off + 4) := by simp [hiOf, hoff]
  have hu : unitRead s d 0x19 off r = commonRead s d 0x19 off r := by simp [unitRead, openCounter]
  have hm (v w : Word) : showTime (s.setReg d (0x19 * 1048576 + off) v) d (off + 4) w = half n true :=
    hhi _ _ (by simp) (by simp)
  have hv : BitVec.ofNat 32 (Nat.land (half n false).toNat (0xFFFFFFFF - 0)) = BitVec.ofNat 32 n := by
    rw [show Nat.land (half n false).toNat (0xFFFFFFFF - 0) = _ from Nat.and_two_pow_sub_one_eq_mod _ 32]
    apply BitVec.eq_of_toNat_eq
    simp [half]
  have hc : commonRead s d 0x19 off r =
      ((s.setReg d (0x19 * 1048576 + off) (s.reg d (0x19 * 1048576 + off))).setLatch d (0x19 * 1048576 + (off + 4))
        (some (half n true)), BitVec.ofNat 32 (Nat.land (half n false).toNat (0xFFFFFFFF - 0))) := by
    have hz : absentBits s d 0x19 off = 0 := by simp [absentBits]
    simp only [commonRead, hl, hh, hf, hz, unitShow, hlo, hm]
    rfl
  refine ⟨(commonRead s d 0x19 off r).1, ?_, ?_⟩
  · simp only [regRead, hp, mayRead_supervisor, h0, ha, hr, hu, Bool.not_true, Bool.false_eq_true, if_false]
    rw [hc, hv]
  · rw [hc, Nat.add_assoc, Chip.latchAt_setLatch_same]
    rfl

end Sys2Proof.Machine

namespace Sys2Proof.Says
open Sys2Proof.Machine

theorem reaches_timeNowRead {d : Fin 4} {tick : Bool} {s : State} (hup : up s.chip d = true)
    (hl : s.chip.latchAt d (0x19 * 1048576 + if tick then 0x34 else 4) = none) :
    Reaches (.timeNowRead 0 d tick) s fun k =>
      k.reply = .word (BitVec.ofNat 32 (if tick then (s.chip.d d).tick.num.toNat else (s.chip.now d).toNat)) ∧
        k.latchAt d (0x19 * 1048576 + (if tick then 0x34 else 4) + 4) =
          some (BitVec.ofNat 32 ((if tick then (s.chip.d d).tick.num.toNat else (s.chip.now d).toNat) / 2 ^ 32)) := by
  have reads {m : Chip} {n : Nat} (h : regRead s.chip d 0 0x19 (if tick then 0x34 else 4) = (m, BitVec.ofNat 32 n)) :
      Gives (.timeNowRead 0 d tick) s { m with reply := .word (BitVec.ofNat 32 n) } :=
    .of_effect rfl ((namedRead_up hup ..).trans (by rw [h]))
  cases tick
  case false =>
    obtain ⟨m, hm, hk⟩ := regRead_time_lo (.inl rfl) (regOn_all (by decide) (by rfl) (by rfl) d) rfl hl (fun _ => rfl)
      fun m _ ht _ => by simp [showTime, Chip.now, ht]
    exact ⟨_, reads hm, rfl, hk⟩
  case true =>
    obtain ⟨m, hm, hk⟩ := regRead_time_lo (.inr rfl) (regOn_all (by decide) (by rfl) (by rfl) d) rfl hl (fun _ => rfl)
      fun m _ _ ht => by simp [showTime, ht]
    exact ⟨_, reads hm, rfl, hk⟩

/-! ### BAR0, host SPI and the lane window (R158, R159, R173) -/

section window

variable {u off : Nat} (hu : u < 28) (ho : off < 2 ^ 20)
include hu ho

/-- The offset of a word of a unit's window on die 0 names it (R158). -/
theorem barPlace_window : barPlace (u * 2 ^ 20 + off) = .win 0 u off := by
  have h1 : u * 2 ^ 20 + off < 0x8000000 := by omega
  have h2 : (u * 2 ^ 20 + off) / 2 ^ 20 % 32 = u := by omega
  have h3 : (u * 2 ^ 20 + off) / 2 ^ 25 = 0 := by omega
  have h4 : (u * 2 ^ 20 + off) % 2 ^ 20 = off := by omega
  simp only [barPlace, h1, h2, h3, h4, hu, if_true]
  rfl

theorem barWrite_window (h4 : off % 4 = 0) (s : Chip) (spi : Bool) (v : Word) :
    barWrite s spi (u * 2 ^ 20 + off) 4 v = regWrite s 0 0 u off v := by
  have hfit : ¬ (4 ≠ 4 ∨ (u * 2 ^ 20 + off) % 4 ≠ 0 ∨ 2 ^ 28 ≤ u * 2 ^ 20 + off) := by omega
  simp only [barWrite, barPlace_window hu ho, hfit, if_false, if_true]

theorem barRead_window (h4 : off % 4 = 0) (s : Chip) (spi : Bool) :
    barRead s spi (u * 2 ^ 20 + off) 4 =
      { (regRead s 0 0 u off).1 with reply := .word (regRead s 0 0 u off).2 } := by
  have hfit : ¬ (4 ≠ 4 ∨ (u * 2 ^ 20 + off) % 4 ≠ 0 ∨ 2 ^ 28 ≤ u * 2 ^ 20 + off) := by omega
  simp only [barRead, barPlace_window hu ho, hfit, if_false, if_true]

end window

/-- A read beyond BAR0 through host SPI is an access fault (R173). -/
theorem reply_barRead_beyond (s : Chip) {off : Nat} (h : 2 ^ 28 ≤ off) (bytes : Nat) :
    (barRead s true off bytes).reply = .fault := by
  rw [barRead]
  dsimp only
  rw [if_pos (.inr (.inr h))]
  rfl

theorem alive_of_linkUp {s : Chip} (h : linkUp s = true) : alive s = true := by
  rw [linkUp, Bool.and_eq_true] at h
  exact h.1

/-- An offset in the first quarter of the lane window lies on die 0 (R159). -/
theorem laneDie_zero {b : BitVec 28} (h : b.toNat < 2 ^ 26) : Fin.ofNat 4 (b.toNat / 2 ^ 26) = 0 := by
  rw [Nat.div_eq_of_lt h]; rfl

/-- One beyond it lies on another die. -/
theorem laneDie_ne_zero {b : BitVec 28} (h : 2 ^ 26 ≤ b.toNat) : Fin.ofNat 4 (b.toNat / 2 ^ 26) ≠ 0 := by
  have := b.isLt
  have h4 : b.toNat / 2 ^ 26 < 4 := by omega
  have h1 : 1 ≤ b.toNat / 2 ^ 26 := by omega
  intro he
  have := congrArg Fin.val he
  rw [Fin.val_ofNat, Nat.mod_eq_of_lt h4] at this
  omega

section lanes
variable {s : Chip} {b : BitVec 28} (hl : linkUp s = true)
include hl

theorem hostLaneRead_none (hb : b.toNat < 2 ^ 26) {bytes : Nat}
    (h : hostLanesAt s 0 false (b.toNat % 2 ^ 26) bytes = none) :
    hostLaneRead b bytes s = { hostFault s 0 b.toNat with reply := .bytes (List.replicate bytes 0) } := by
  simp only [hostLaneRead, hl, laneDie_zero hb, h, Bool.not_true, Bool.false_eq_true, if_false, ne_eq, not_true_eq_false]

theorem reply_hostLaneRead_some (hb : b.toNat < 2 ^ 26) {bytes : Nat} {m : Mem} {l : Nat} {bs : List Byte}
    (h : hostLanesAt s 0 false (b.toNat % 2 ^ 26) bytes = some (m, l))
    (hbs : (hostReadLanes (bytes / 2) s 0 m l (bytes / 2)).2 = some bs) :
    (hostLaneRead b bytes s).reply = .bytes bs := by
  simp only [hostLaneRead, hl, laneDie_zero hb, h, hbs, Bool.not_true, Bool.false_eq_true, if_false, ne_eq,
    not_true_eq_false]

theorem hostLaneWrite_some (hb : b.toNat < 2 ^ 26) {data : List Byte} {m : Mem} {l : Nat}
    (h : hostLanesAt s 0 true (b.toNat % 2 ^ 26) data.length = some (m, l)) :
    hostLaneWrite b data s = (hostWriteLanes (data.length / 2) s 0 m l data).1 := by
  simp only [hostLaneWrite, hl, laneDie_zero hb, h, Bool.not_true, Bool.false_eq_true, if_false, ne_eq, not_true_eq_false]

theorem remotes_hostLaneWrite_beyond (hb : 2 ^ 26 ≤ b.toNat) (data : List Byte) :
    (hostLaneWrite b data s).remotes.length = s.remotes.length + 1 := by
  simp only [hostLaneWrite, hl, laneDie_ne_zero hb, Bool.not_true, Bool.false_eq_true, if_false, ne_eq,
    not_false_eq_true, if_true]
  exact List.length_append

end lanes

/-! ### SMBus (R174, R191) -/

/-- A field of a word cut by a mask that keeps all of it reads as before. -/
theorem getBits_and (w m : Word) (lo n : Nat) (h : ∀ i < n, m.toNat.testBit (lo + i) = true) :
    getBits (w &&& m) lo n = getBits w lo n := by
  apply Nat.eq_of_testBit_eq
  intro i
  rw [getBits_testBit, getBits_testBit, BitVec.toNat_and, Nat.testBit_and]
  by_cases hi : i < n
  · simp [h i hi]
  · simp [hi]

theorem flag_eq_false {s : Chip} {d : Fin 4} {f : Fld} (h : s.fld d f = 0) : s.flag d f = false := by simp [Chip.flag, h]

theorem flag_eq_true {s : Chip} {d : Fin 4} {f : Fld} (h : s.fld d f = 1) : s.flag d f = true := by simp [Chip.flag, h]

/-- The SMB_CTL word of a transaction of protocol `prot`. -/
abbrev smbWord (prot : Nat) (v : Word) : Word := putBits (putBits v 8 4 prot) 13 1 1

theorem smbStart_granted {s : Chip} {t : Fin 256} (hm : MayWrite s 0 0x17 t) (prot : Nat) (v : Word) :
    smbStart t prot v s = smbCtlWrite s (smbWord prot v) := by
  obtain ⟨hup, hg⟩ := hm
  have hp : present s 0 Rf.HOST_SMB_CTL_GO.unit = true := (Bool.and_eq_true .. ▸ hg).1
  have hg' : granted s 0 Rf.HOST_SMB_CTL_GO.unit t = true := hg
  simp [smbStart, whenGranted, hup, hp, hg']

/-- During a transaction a new one is ignored (R191). -/
theorem smbCtlWrite_busy {s : Chip} (hb : s.fld 0 Rf.HOST_SMB_STAT_BUSY = 1) (v : Word) : smbCtlWrite s v = s :=
  if_pos (flag_eq_true hb)

/-- Without one, GO with a protocol starts it (R174). -/
theorem smbCtlWrite_starts {s : Chip} (hb : s.fld 0 Rf.HOST_SMB_STAT_BUSY = 0) {prot : Nat} (h1 : 1 ≤ prot) (h8 : prot ≤ 8)
    (v : Word) :
    smbCtlWrite s (smbWord prot v) =
      (s.setReg 0 Rf.HOST_SMB_CTL_ADDR.key (smbWord prot v &&& 0x00FF1FFF)).setFld 0 Rf.HOST_SMB_STAT_BUSY 1 := by
  have hprot : getBits (smbWord prot v) 8 4 = prot := by
    rw [getBits_putBits_ne _ _ (by decide) (by decide), getBits_putBits_same _ _ _ _ (by decide)]
    omega
  have hgo : bit (smbWord prot v).toNat 13 = true := by
    have h := getBits_putBits_same (putBits v 8 4 prot) 13 1 1 (by decide)
    simpa [getBits, bit] using h
  simp [smbCtlWrite, flag_eq_false hb, hprot, hgo, h1, h8]

/-- The transaction that a command starts runs, with the protocol of the command and the address and command byte of
the word. -/
theorem reaches_smbStart {c : Instr} {s : State} {t : Fin 256} {v : Word} {prot : Nat}
    (h : exec c s = .next ⟨smbStart t prot v s.chip, s.pending⟩) (hm : MayWrite s.chip 0 0x17 t)
    (hb : s.chip.fld 0 Rf.HOST_SMB_STAT_BUSY = 0) (h1 : 1 ≤ prot) (h8 : prot ≤ 8) :
    Reaches c s fun k => k.fld 0 Rf.HOST_SMB_STAT_BUSY = 1 ∧ k.fld 0 Rf.HOST_SMB_CTL_PROT = prot ∧
      k.fld 0 Rf.HOST_SMB_CTL_ADDR = getBits v 0 7 ∧ k.fld 0 Rf.HOST_SMB_CTL_CMD = getBits v 16 8 := by
  refine .of_effect h ((smbStart_granted hm ..).trans (smbCtlWrite_starts hb h1 h8 v)) ?_
  have ctl {f : Fld} (hk : f.key = Rf.HOST_SMB_CTL_ADDR.key)
      (hf : ∀ i < f.w, (0x00FF1FFF : Word).toNat.testBit (f.lo + i) = true) :
      ((s.chip.setReg 0 Rf.HOST_SMB_CTL_ADDR.key (smbWord prot v &&& 0x00FF1FFF)).setFld 0
        Rf.HOST_SMB_STAT_BUSY 1).fld 0 f = getBits (smbWord prot v) f.lo f.w := by
    rw [Chip.fld_setFld_ne _ _ (.inr (by rw [hk]; decide)), Chip.fld, hk, Chip.reg_setReg_same, getBits_and _ _ _ _ hf]
  refine ⟨Chip.fld_setFld_same _ _ _ _ (by decide), (ctl (by rfl) (by decide)).trans ?_, (ctl (by rfl) (by decide)).trans ?_,
    (ctl (by rfl) (by decide)).trans ?_⟩
  · rw [getBits_putBits_ne _ _ (by decide) (by decide)]
    exact (getBits_putBits_same _ _ _ _ (by decide)).trans (by change prot % 16 = prot; omega)
  · rw [getBits_putBits_ne _ _ (by decide) (by decide), getBits_putBits_ne _ _ (by decide) (by decide)]; rfl
  · rw [getBits_putBits_ne _ _ (by decide) (by decide), getBits_putBits_ne _ _ (by decide) (by decide)]; rfl

/-- Bytes placed in SMB_DATA leave the fields of the registers below it as they were. -/
theorem fld_smbPut (s : Chip) (i : Nat) (bs : List Byte) {f : Fld} (hf : f.key < 0x17 * 1048576 + 0x120) :
    (smbPut s i bs).fld 0 f = s.fld 0 f := by
  induction bs generalizing s i with
  | nil => rfl
  | cons b bs ih =>
    refine (ih _ _).trans (Chip.fld_setFld_ne _ _ (.inr ?_))
    simp only [Fld.key, Fld.at, Rf.HOST_SMB_DATA_DATA] at hf ⊢
    omega

/-- A field of SMB_STAT reads as before when another one is stored, under a condition. -/
theorem fld_smbStat (p : Prop) [Decidable p] (s : Chip) {f g : Fld} (v : Nat) (hk : g.key = f.key) (h : f.lo + f.w ≤ 32)
    (hd : g.lo + g.w ≤ f.lo ∨ f.lo + f.w ≤ g.lo) : (if p then s.setFld 0 f v else s).fld 0 g = s.fld 0 g := by
  split
  · exact Chip.fld_setFld_disjoint s 0 v hk h hd
  · rfl

theorem smbEnded {s : Chip} (hup : up s 0 = true) (hb : s.fld 0 Rf.HOST_SMB_STAT_BUSY = 1) (nack pecerr : Bool)
    (data : List Byte) :
    (smbEnd nack pecerr data s).fld 0 Rf.HOST_SMB_STAT_BUSY = 0 ∧
      (smbEnd nack pecerr data s).fld 0 Rf.HOST_SMB_STAT_DONE = 1 ∧
      (nack = true → (smbEnd nack pecerr data s).fld 0 Rf.HOST_SMB_STAT_NACK = 1) := by
  simp only [smbEnd, whenUp, hup, if_true, flag_eq_true hb, Bool.not_true, Bool.false_eq_true, if_false]
  refine ⟨?_, ?_, fun hn => ?_⟩ <;>
    rw [fld_smbPut _ _ _ (by decide), fld_smbStat _ _ _ (by rfl) (by decide) (by decide),
      fld_smbStat _ _ _ (by rfl) (by decide) (by decide)]
  · rw [fld_smbStat _ _ _ (by rfl) (by decide) (by decide), Chip.fld_setFld_disjoint _ _ _ (by rfl) (by decide) (by decide),
      Chip.fld_setFld_same _ _ _ _ (by decide)]
    rfl
  · rw [fld_smbStat _ _ _ (by rfl) (by decide) (by decide), Chip.fld_setFld_same _ _ _ _ (by decide)]
    rfl
  · rw [if_pos hn, Chip.fld_setFld_same _ _ _ _ (by decide)]
    rfl

/-- A transaction whose clock stays low ends with TIMEOUT and DONE (R174). DEDUCED, log 207. -/
theorem smbTimedOut {s : Chip} (hup : up s 0 = true) (hb : s.fld 0 Rf.HOST_SMB_STAT_BUSY = 1) :
    (smbTimeout s).fld 0 Rf.HOST_SMB_STAT_BUSY = 0 ∧ (smbTimeout s).fld 0 Rf.HOST_SMB_STAT_DONE = 1 ∧
      (smbTimeout s).fld 0 Rf.HOST_SMB_STAT_TIMEOUT = 1 := by
  simp only [smbTimeout, whenUp, hup, if_true, flag_eq_true hb]
  refine ⟨?_, ?_, Chip.fld_setFld_same _ _ _ _ (by decide)⟩ <;>
    rw [Chip.fld_setFld_disjoint _ _ _ (by rfl) (by decide) (by decide)]
  · rw [Chip.fld_setFld_disjoint _ _ _ (by rfl) (by decide) (by decide), Chip.fld_setFld_same _ _ _ _ (by decide)]
    rfl
  · rw [Chip.fld_setFld_same _ _ _ _ (by decide)]
    rfl

/-- The host's access to a word of a unit's window on die 0 is that of the supervisor, by BAR0 and by host SPI. -/
theorem gives_window {u off : Nat} (hu : u < 28) (ho : off < 2 ^ 20) (h4 : off % 4 = 0) {s : State}
    (hlink : linkUp s.chip = true) (v : Word) :
    Gives (.registerWrite (.bar0 (BitVec.ofNat 28 (u * 2 ^ 20 + off))) 4 v) s (regWrite s.chip 0 0 u off v) ∧
    (Gives (.registerRead (.bar0 (BitVec.ofNat 28 (u * 2 ^ 20 + off))) 4) s
        { (regRead s.chip 0 0 u off).1 with reply := .word (regRead s.chip 0 0 u off).2 } ∧
      Gives (.hspiRead (BitVec.ofNat 32 (u * 2 ^ 20 + off))) s
        { (regRead s.chip 0 0 u off).1 with reply := .word (regRead s.chip 0 0 u off).2 }) ∧
    Gives (.hspiWrite (BitVec.ofNat 32 (u * 2 ^ 20 + off)) v) s (regWrite s.chip 0 0 u off v) := by
  have hal := alive_of_linkUp hlink
  have h28 : (BitVec.ofNat 28 (u * 2 ^ 20 + off)).toNat = u * 2 ^ 20 + off := by
    rw [BitVec.toNat_ofNat, Nat.mod_eq_of_lt (by omega)]
  have h32 : (BitVec.ofNat 32 (u * 2 ^ 20 + off)).toNat = u * 2 ^ 20 + off := by
    rw [BitVec.toNat_ofNat, Nat.mod_eq_of_lt (by omega)]
  refine ⟨.of_effect rfl ?_, ⟨.of_effect rfl ?_, .of_effect rfl ?_⟩, .of_effect rfl ?_⟩
  · refine (if_pos hlink).trans ?_
    rw [h28, barWrite_window hu ho h4]
  · refine (if_pos hlink).trans ?_
    rw [h28, barRead_window hu ho h4]
  · refine (if_pos hal).trans ?_
    rw [h32, barRead_window hu ho h4]
  · refine (if_pos hal).trans ?_
    rw [h32, barWrite_window hu ho h4]

theorem reaches_hspiRead_beyond {s : State} (hal : alive s.chip = true) {w : Word} (hw : 2 ^ 28 ≤ w.toNat) :
    Reaches (.hspiRead w) s fun k => k.reply = .fault :=
  .of_effect rfl (if_pos hal) (reply_barRead_beyond _ hw 4)

/-- Settles O22: the accesses of the time registers, of BAR0, host SPI and the lane window by what their address names,
and SMBus transactions by their start and their two ends. -/
theorem hostReadsAndWritesReachTheirTarget : Obligations.HostReadsAndWritesReachTheirTarget := by
  unfold Obligations.HostReadsAndWritesReachTheirTarget
  refine ⟨fun d tick s hup hl => reaches_timeNowRead hup hl, fun u off bytes v w b data s hu ho h4 hlink => ?_,
    fun t v nack pecerr data s => ⟨fun hm hb => ?_, fun hm hb => ?_, fun hup hb => ⟨?_, ?_⟩⟩⟩
  · have hal := alive_of_linkUp hlink
    obtain ⟨hwrite, hread, hspi⟩ := gives_window hu ho h4 hlink v
    exact ⟨hwrite, hread, hspi, reaches_hspiRead_beyond hal, .of_effect rfl (if_pos hal),
      fun hb hn => .of_effect rfl (hostLaneRead_none hlink hb hn) rfl,
      fun m l bs hb hat hbs => .of_effect rfl rfl (reply_hostLaneRead_some hlink hb hat hbs),
      fun m l hb hat => .of_effect rfl (hostLaneWrite_some hlink hb hat),
      fun hb => .of_effect rfl rfl (remotes_hostLaneWrite_beyond hlink hb data)⟩
  · have starts {c : Instr} {prot : Nat} := reaches_smbStart (c := c) (prot := prot) (v := v) (s := s) (hm := hm) (hb := hb)
    exact ⟨starts rfl (by decide) (by decide), starts rfl (by decide) (by decide), starts rfl (by decide) (by decide),
      starts rfl (by decide) (by decide), starts rfl (by decide) (by decide), starts rfl (by decide) (by decide),
      starts rfl (by decide) (by decide), starts rfl (by decide) (by decide)⟩
  · exact .of_effect rfl ((smbStart_granted hm 1 v).trans (smbCtlWrite_busy hb _))
  · exact .of_effect rfl rfl (smbEnded hup hb nack pecerr data)
  · exact .of_effect rfl rfl (smbTimedOut hup hb)

end Sys2Proof.Says
end

section
/-! Requests to the DRAM of a die: whole granules, merge entries, self-refresh and faults. -/

namespace Sys2Proof.Machine

/-! ### Changes of one die that change nothing -/

theorem Chip.upd_eq_self {s : Chip} {d : Fin 4} {f : DieSt → DieSt} (h : f (s.d d) = s.d d) : s.upd d f = s := by
  rw [Chip.upd, show f (s.die.get d) = s.die.get d from h, Quad.set_get]

@[simp] theorem Chip.dram_onDram_same (s : Chip) (d : Fin 4) (f : DramSt → DramSt) :
    ((s.onDram d f).d d).dram = f (s.d d).dram := by rw [onDram, Chip.d_upd_same]

@[simp] theorem Chip.reg_onDram (s : Chip) (d e : Fin 4) (f : DramSt → DramSt) (j : Nat) :
    (s.onDram d f).reg e j = s.reg e j := Chip.reg_upd s d e j _ fun _ => rfl

@[simp] theorem Chip.fld_onDram (s : Chip) (d e : Fin 4) (f : DramSt → DramSt) (g : Fld) :
    (s.onDram d f).fld e g = s.fld e g := by rw [Chip.fld, Chip.reg_onDram, Chip.fld]

@[simp] theorem Chip.flag_onDram (s : Chip) (d e : Fin 4) (f : DramSt → DramSt) (g : Fld) :
    (s.onDram d f).flag e g = s.flag e g := by rw [Chip.flag, Chip.fld_onDram, Chip.flag]

/-! ### A request that is served at once (R650, R655) -/

/-- Request `q` waits behind the requests that die `d` holds. -/
def holdReq (s : Chip) (d : Fin 4) (q : DramReq) : Chip := s.onDram d fun x => { x with held := x.held ++ [q] }

/-- A request is held; a channel in self-refresh then leaves it, and another admits what can go (R655, R662). -/
theorem presentReq_eq (s : Chip) (d : Fin 4) (q : DramReq) :
    presentReq s d q =
      if s.flag d Rf.DRAM_STAT_IN_SR then (holdReq s d q).setFld d Rf.DRAM_CTL_SR 0 else admitAll (holdReq s d q) d := by
  rw [presentReq, Chip.flag_onDram]
  rfl

theorem channelFree_holdReq (s : Chip) (d : Fin 4) (q : DramReq) : channelFree (holdReq s d q) d = channelFree s d := by
  simp only [channelFree, holdReq, Chip.flag_onDram]

theorem portOn_holdReq (s : Chip) (d : Fin 4) (q : DramReq) (p : Nat) : portOn (holdReq s d q) d p = portOn s d p := by
  simp only [portOn, portWord, holdReq, Chip.dram_onDram_same]

/-- A request that was held alone leaves the die as it was when it is taken. -/
theorem holdReq_erase {s : Chip} {d : Fin 4} (q : DramReq) (hh : (s.d d).dram.held = []) :
    (holdReq s d q).onDram d (fun x => { x with held := x.held.erase q }) = s := by
  rw [holdReq, Chip.onDram, Chip.onDram, Chip.upd_upd]
  refine Chip.upd_eq_self ?_
  have he : ((s.d d).dram.held ++ [q]).erase q = (s.d d).dram.held := by rw [hh]; simp
  dsimp only
  rw [he]

/-- A channel that is free serves a request at an unregulated port, when none is held. -/
theorem presentReq_served {s : Chip} {d : Fin 4} {q : DramReq} (hf : channelFree s d = true)
    (hp : portOn s d q.port = false) (hh : (s.d d).dram.held = []) : presentReq s d q = serveReq s d q := by
  have hsr : s.flag d Rf.DRAM_STAT_IN_SR = false := by
    simp only [channelFree, Bool.and_eq_true, Bool.not_eq_true'] at hf
    exact hf.2
  have hq : ((holdReq s d q).d d).dram.held = [q] := by rw [holdReq, Chip.dram_onDram_same]; simp [hh]
  have hgo : (channelFree (holdReq s d q) d && !([] : List Nat).contains q.port &&
      (!portOn (holdReq s d q) d q.port || decide (reqCost q.n ≤ portTokens (holdReq s d q) d q.port))) = true := by
    simp [channelFree_holdReq, portOn_holdReq, hf, hp]
  rw [presentReq_eq, hsr, if_neg (by simp), admitAll, hq, admitHeld, if_pos hgo, holdReq_erase q hh, admitHeld]

/-- A channel in self-refresh holds a request and is told to leave (R662). -/
theorem presentReq_selfRefresh {s : Chip} {d : Fin 4} (q : DramReq) (h : s.fld d Rf.DRAM_STAT_IN_SR = 1) :
    presentReq s d q = (holdReq s d q).setFld d Rf.DRAM_CTL_SR 0 := by
  rw [presentReq_eq, if_pos (by simp [Chip.flag, h])]

/-! ### Whole granules (R645, R650) -/

theorem range_eq (lo n : Nat) : range lo n = List.range' lo n := by
  induction n generalizing lo with
  | zero => rfl
  | succ n ih => rw [range, ih, List.range'_succ]

@[simp] theorem length_granBytes (s : Chip) (d : Fin 4) (g : Nat) : (granBytes s d g).length = 16 := by
  simp [granBytes, range_eq]

/-- A write of a whole granule at its offset stores it. -/
theorem dramWriteBytes_granule (s : Chip) (d : Fin 4) {off : Nat} {data : List Byte} (h16 : off % 16 = 0)
    (hlen : data.length = 16) : dramWriteBytes s d off data = writeGran s d (physOf s d off / 16) data := by
  have hne : data.isEmpty = false := by cases data with
    | nil => simp at hlen
    | cons => rfl
  have htake : data.take 16 = data := List.take_of_length_le (by omega)
  have hdrop : data.drop 16 = [] := List.drop_of_length_le (by omega)
  simp [dramWriteBytes, hlen, dramPut, hne, h16, htake, hdrop]

/-- A granule reads the bytes written to it. -/
theorem granBytes_writeGran_same (s : Chip) (d : Fin 4) (g : Nat) {data : List Byte} (hlen : data.length = 16) :
    granBytes (writeGran s d g data) d g = data := by
  apply List.ext_getElem (by simp [hlen])
  intro i hi hi'
  simp only [granBytes, range_eq, List.getElem_map, List.getElem_range', writeGran, Chip.dram_onDram_same, cellAt, Nat.one_mul,
    cell_putCells_in data _ _ i hi']

theorem granPoisoned_writeGran_same (s : Chip) (d : Fin 4) (g : Nat) (data : List Byte) :
    granPoisoned (writeGran s d g data) d g = false := by simp [granPoisoned, writeGran]

theorem errsOf_nil (i : Nat) : errsOf [] i = [] := rfl

/-- Without wrong symbols a plain channel delivers what it holds. -/
theorem applyErrs_nil {bs : List Byte} (h : bs.length ≤ 16) : applyErrs [] bs = bs := by
  have hz : (bs.zip (range 0 16)).map Prod.fst = bs := List.map_fst_zip (by simpa [range_eq] using h)
  simpa [applyErrs] using hz

/-- A read of one granule that no merge entry covers decodes it. -/
theorem dramReadBytes_granule {s : Chip} {d : Fin 4} {off : Nat} (h16 : off % 16 = 0)
    (hm : ∀ e ∈ (s.d d).dram.merge, e.gran ≠ physOf s d off / 16) (errs : List Nat) :
    dramReadBytes s d off 16 errs =
      let g := physOf s d off / 16
      let r := decodeGran s d g 0 off (errsOf errs 0)
      let bs := if r.2 then (if chipkill s d then granBytes r.1 d g else applyErrs (errsOf errs 0) (granBytes r.1 d g))
        else List.replicate 16 0
      (r.1, bs.take 16, !r.2) := by
  have hn : (off + 16 - 1) / 16 - off / 16 + 1 = 1 := by omega
  have ho : 16 * (off / 16) = off := by omega
  have hmiss : ((s.d d).dram.merge.any fun e => e.gran == physOf s d off / 16) = false := by
    simpa using hm
  rw [dramReadBytes, if_neg (by decide)]
  simp only [hn, ho, h16]
  simp [readGrans, hmiss]

/-- A served request at an unregulated port is the access that it asks for. -/
theorem serveReq_write {s : Chip} {d : Fin 4} {q : DramReq} (hp : portOn s d q.port = false) (hw : q.wr = true) :
    serveReq s d q = dramWriteBytes s d q.off q.data := by simp [serveReq, hp, hw]

theorem serveReq_read {s : Chip} {d : Fin 4} {q : DramReq} (hp : portOn s d q.port = false) (hw : q.wr = false) :
    serveReq s d q = { (dramReadBytes s d q.off q.n q.errs).1 with
      reply := if (dramReadBytes s d q.off q.n q.errs).2.2 then .poison
        else .bytes (dramReadBytes s d q.off q.n q.errs).2.1 } := by simp [serveReq, hp, hw]

/-! ### What a granule decodes to without wrong symbols (R639, R643, R650) -/

theorem decodeGran_plain {s : Chip} {d : Fin 4} (h : chipkill s d = false) (g src off : Nat) (e : List (Nat × Nat)) :
    decodeGran s d g src off e = (s, true) := by simp [decodeGran, h]

theorem decodeGran_clean {s : Chip} {d : Fin 4} {g : Nat} (hp : granPoisoned s d g = false)
    (ho : granOpen s d g = false) (src off : Nat) : decodeGran s d g src off [] = (s, true) := by
  simp [decodeGran, hp, ho, decodeErrs]

/-- A demand read of a poisoned granule changes nothing. -/
theorem decodeGran_poisoned {s : Chip} {d : Fin 4} {g : Nat} (h : chipkill s d = true) (hp : granPoisoned s d g = true)
    (off : Nat) (e : List (Nat × Nat)) : decodeGran s d g 0 off e = (s, false) := by simp [decodeGran, h, hp]

theorem merge_putCells (x : DramSt) (k : Nat) (bs : List Byte) : (putCells x k bs).merge = x.merge := by
  induction bs generalizing x k with
  | nil => rfl
  | cons b bs ih => exact ih ..

/-! ### The access commands at a die that is up (R38, R650) -/

/-- The request of a read of `n` bytes at `off`. -/
def readReq (port off n : Nat) (errs : List Nat) : DramReq := ⟨port, false, off, n, [], errs⟩

/-- The request of a write of `data` at `off`. -/
def writeReq (port off : Nat) (data : List Byte) : DramReq := ⟨port, true, off, data.length, data, []⟩

/-- The bytes of granule `g` as a read delivers them: a plain channel passes on the wrong symbols `e`. -/
def delivered (s : Chip) (d : Fin 4) (g : Nat) (e : List (Nat × Nat)) : List Byte :=
  if chipkill s d then granBytes s d g else (applyErrs e (granBytes s d g)).take 16

/-- Without wrong symbols a granule is delivered as it is stored. -/
theorem delivered_nil (s : Chip) (d : Fin 4) (g : Nat) : delivered s d g [] = granBytes s d g := by
  unfold delivered
  split
  · rfl
  · rw [applyErrs_nil (by simp), List.take_of_length_le (by simp)]

section
variable {s : Chip} {d : Fin 4} (hup : up s d = true) (port : Fin 16) (off : BitVec 38)
include hup

theorem whenUp_of_up (f : Chip → Chip) : whenUp s d f = f s := if_pos hup

theorem dramRead_inside {n : Nat} (h : off.toNat + n ≤ dramCap s d) (errs : List Nat) :
    dramRead d port off n errs s = presentReq s d (readReq port.val off.toNat n errs) := by
  rw [dramRead, whenUp_of_up hup, if_pos h, readReq]

theorem dramRead_outside {n : Nat} (h : dramCap s d < off.toNat + n) (errs : List Nat) :
    dramRead d port off n errs s = { accFault s d 0x040 0 off.toNat with reply := .fault } := by
  rw [dramRead, whenUp_of_up hup, if_neg (Nat.not_le.2 h)]

theorem dramWrite_inside {data : List Byte} (h : off.toNat + data.length ≤ dramCap s d) :
    dramWrite d port off data s = presentReq s d (writeReq port.val off.toNat data) := by
  rw [dramWrite, whenUp_of_up hup, if_pos h, writeReq]

theorem dramWrite_outside {data : List Byte} (h : dramCap s d < off.toNat + data.length) :
    dramWrite d port off data s = accFault s d 0x040 0 off.toNat := by
  rw [dramWrite, whenUp_of_up hup, if_neg (Nat.not_le.2 h)]

variable {port off} (hf : channelFree s d = true) (hp : portOn s d port.val = false) (hh : (s.d d).dram.held = [])
  (h16 : off.toNat % 16 = 0) (hcap : off.toNat + 16 ≤ dramCap s d)
include hf hp hh h16 hcap

/-- A whole granule that is served is written. -/
theorem dramWrite_served {data : List Byte} (hlen : data.length = 16) :
    dramWrite d port off data s = writeGran s d (physOf s d off.toNat / 16) data := by
  rw [dramWrite_inside hup _ _ (by omega), presentReq_served hf hp hh, serveReq_write hp rfl,
    ← dramWriteBytes_granule s d h16 hlen]
  rfl

variable (hm : ∀ e ∈ (s.d d).dram.merge, e.gran ≠ physOf s d off.toNat / 16) {errs : List Nat}
include hm

/-- A granule that is served and decodes without effect answers its bytes, or poison. -/
theorem dramRead_served {ok : Bool}
    (hdec : decodeGran s d (physOf s d off.toNat / 16) 0 off.toNat (errsOf errs 0) = (s, ok)) :
    dramRead d port off 16 errs s = { s with
      reply := if ok then .bytes (delivered s d (physOf s d off.toNat / 16) (errsOf errs 0)) else .poison } := by
  rw [dramRead_inside hup _ _ hcap, presentReq_served hf hp hh, serveReq_read hp rfl]
  have hread := dramReadBytes_granule h16 hm errs
  simp only [hdec] at hread
  simp only [readReq, hread, delivered]
  cases ok with
  | false => simp
  | true => cases hck : chipkill s d <;> simp [List.take_of_length_le]

end

/-! ### Merge entries leave the buffer (R647, R648) -/

/-- From `s` to `k` no entry has joined the merge buffer of die `d`. -/
def MergeShrinks (d : Fin 4) (s k : Chip) : Prop := (k.d d).dram.merge ⊆ (s.d d).dram.merge

namespace MergeShrinks

variable {d : Fin 4} {s m k : Chip}

theorem of_eq (h : (k.d d).dram = (s.d d).dram) : MergeShrinks d s k := by rw [MergeShrinks, h]; exact List.Subset.refl _

theorem trans (h : MergeShrinks d s m) (h' : MergeShrinks d m k) : MergeShrinks d s k := List.Subset.trans h' h

theorem refl (d : Fin 4) (s : Chip) : MergeShrinks d s s := of_eq rfl

theorem setFld (h : MergeShrinks d s m) (f : Fld) (v : Nat) : MergeShrinks d s (m.setFld d f v) :=
  h.trans (of_eq (by simp))

theorem raise (h : MergeShrinks d s m) (src kind : Nat) (t : Fin 256) (pay : Nat) :
    MergeShrinks d s (raise m d src kind t pay) := by
  obtain ⟨_, _, _, _, hdram, _⟩ := (Says.onlyRegs_sendRec m d (mkRec m d src kind t pay false false)).storesKept d
  exact h.trans (of_eq hdram)

theorem onDram (h : MergeShrinks d s m) {f : DramSt → DramSt} (hf : ∀ x, (f x).merge ⊆ x.merge) :
    MergeShrinks d s (m.onDram d f) := by
  refine h.trans ?_
  rw [MergeShrinks, Chip.dram_onDram_same]
  exact hf _

theorem dramEvent (h : MergeShrinks d s m) (kind chip syms src off : Nat) :
    MergeShrinks d s (dramEvent m d kind chip syms src off) :=
  ((((h.setFld _ _).setFld _ _).setFld _ _).setFld _ _).raise ..

theorem countChip (h : MergeShrinks d s m) (c : Nat) : MergeShrinks d s (countChip m d c) := by
  have put {n : Chip} (hn : MergeShrinks d s n) (times : List Time) :
      MergeShrinks d s (n.onDram d fun x => { x with marks := mapPut (fun _ => []) x.marks c times }) :=
    hn.onDram fun x => List.Subset.refl x.merge
  unfold Machine.countChip
  dsimp only
  split
  · split
    · split
      · exact (put h _).setFld ..
      · exact put (((put h _).setFld _ _).raise ..) _
    · exact (put ((((put h _).setFld _ _).setFld _ _).setFld _ _) _).raise ..
  · exact (put h _).setFld ..

/-- Sixteen bytes written to a granule discard its entry. -/
theorem writeGran (h : MergeShrinks d s m) (g : Nat) (bs : List Byte) : MergeShrinks d s (writeGran m d g bs) :=
  h.onDram fun x => by
    have hm : (putCells x (16 * g) bs).merge = x.merge := merge_putCells ..
    dsimp only
    rw [hm]
    exact fun _ ha => (List.mem_filter.1 ha).1

theorem uncorrectable (h : MergeShrinks d s m) (g src off : Nat) : MergeShrinks d s (uncorrectable m d g src off) :=
  ((h.onDram (f := fun x => { x with poison := mapPut (fun _ => false) x.poison g true }) fun x =>
    List.Subset.refl x.merge).setFld _ _).dramEvent ..

theorem corrected (h : MergeShrinks d s m) (e : List (Nat × Nat)) (src off : Nat) :
    MergeShrinks d s (corrected m d e src off) :=
  overAll_keeps (MergeShrinks d s) _ (fun _ _ hn => hn.countChip _) _ _ ((h.setFld _ _).dramEvent ..)

theorem took (h : MergeShrinks d s m) : MergeShrinks d s m.took := h

theorem miscorrected (h : MergeShrinks d s m) (g src off : Nat) : MergeShrinks d s (miscorrected m d g src off) := by
  unfold Machine.miscorrected
  refine (MergeShrinks.dramEvent (MergeShrinks.setFld (MergeShrinks.writeGran ?_ _ _) _ _) ..).countChip _
  exact h

/-- Decoding a granule adds no entry. -/
theorem decodeGran (h : MergeShrinks d s m) (g src off : Nat) (e : List (Nat × Nat)) :
    MergeShrinks d s (decodeGran m d g src off e).1 := by
  unfold Machine.decodeGran
  split
  · exact h
  split
  · split
    · exact h
    · exact (h.setFld _ _).dramEvent ..
  split
  · exact h.took.uncorrectable ..
  have h' : MergeShrinks d s (if granOpen m d g then m.took else m) := by split <;> exact h
  dsimp only
  split
  · exact h'
  · exact h'.corrected ..
  · exact h'.took.uncorrectable ..
  · exact h'.took.miscorrected ..

end MergeShrinks

/-- A flushed entry has left the buffer, and none has joined it. -/
theorem merge_flushEntry (s : Chip) (d : Fin 4) (errs : List Nat) (e : MergeEnt) :
    ∀ m ∈ ((flushEntry s d errs e).d d).dram.merge, m ∈ (s.d d).dram.merge ∧ m.gran ≠ e.gran := by
  have hfilter : ∀ m ∈ ((s.onDram d fun x => { x with merge := x.merge.filter fun m => m.gran != e.gran }).d d).dram.merge,
      m ∈ (s.d d).dram.merge ∧ m.gran ≠ e.gran := by simp
  suffices h : MergeShrinks d (s.onDram d fun x => { x with merge := x.merge.filter fun m => m.gran != e.gran })
      (flushEntry s d errs e) from fun m hm => hfilter m (h hm)
  unfold flushEntry
  dsimp only
  split
  · split
    · exact ((MergeShrinks.refl ..).decodeGran ..).writeGran ..
    · exact (MergeShrinks.refl ..).decodeGran ..
  · refine (MergeShrinks.refl ..).onDram fun x => ?_
    rw [merge_putCells]
    exact List.Subset.refl _

/-- Flushing a list of entries leaves no entry of their granules. -/
theorem merge_flushAll (d : Fin 4) (errs : List Nat) (l : List MergeEnt) (s : Chip) :
    ∀ m ∈ ((overAll (fun s e => flushEntry s d errs e) s l).d d).dram.merge,
      m ∈ (s.d d).dram.merge ∧ ∀ e ∈ l, m.gran ≠ e.gran := by
  induction l generalizing s with
  | nil => simp [overAll]
  | cons e l ih =>
    intro m hm
    obtain ⟨hm', hl⟩ := ih _ m hm
    obtain ⟨hs, he⟩ := merge_flushEntry s d errs e m hm'
    exact ⟨hs, by simpa using ⟨he, hl⟩⟩

/-- After a burst is flushed the buffer holds no entry of it (R648). -/
theorem merge_flushBurst (s : Chip) (d : Fin 4) (b : Nat) (errs : List Nat) :
    ∀ m ∈ ((flushBurst s d b errs).d d).dram.merge, m.gran / 8 ≠ b := by
  intro m hm hb
  obtain ⟨hs, hl⟩ := merge_flushAll d errs _ s m hm
  exact hl m (by simp [hs, hb]) rfl

end Sys2Proof.Machine

namespace Sys2Proof.Says

open Sys2Proof.Machine

/-- An answer takes no record back. -/
theorem Sent.with_reply {s : Chip} {d : Fin 4} {kind : Nat} {t : Fin 256} (h : Sent s d kind t) (r : Reply) :
    Sent { s with reply := r } d kind t := h

/-- Settles O45: a request that is served is the write or read of its granule, one beyond installed memory is an access
fault, a channel in self-refresh holds it, and a burst whose entry is old enough is flushed. -/
theorem dramRequestsReadWhatWasWritten : Obligations.DramRequestsReadWhatWasWritten := by
  unfold Obligations.DramRequestsReadWhatWasWritten
  intro d port off n g data errs s hup
  refine ⟨fun ⟨hf, hp, hh, h16, hcap⟩ hlen => ?_, fun hlen => ?_, fun ⟨hf, hp, hh, h16, hcap⟩ hck hm => ?_,
    fun ⟨hf, hp, hh, h16, hcap⟩ hck hpo hop hm => ?_, fun ⟨hf, hp, hh, h16, hcap⟩ hck hpo hm => ?_, fun hcap => ?_,
    fun hcap => ?_, fun hcap hsr => ?_, fun hold => ?_, fun hyoung => ?_⟩
  · exact .of_effect rfl (dramWrite_served hup hf hp hh h16 hcap hlen)
  · exact ⟨granBytes_writeGran_same _ _ _ hlen, granPoisoned_writeGran_same ..⟩
  · refine .of_effect rfl ((dramRead_served hup hf hp hh h16 hcap hm (decodeGran_plain hck ..)).trans ?_)
    rw [if_pos rfl, errsOf_nil, delivered_nil]
  · refine .of_effect rfl ((dramRead_served hup hf hp hh h16 hcap hm (decodeGran_clean hpo hop ..)).trans ?_)
    rw [if_pos rfl, errsOf_nil, delivered_nil]
  · exact .of_effect rfl (dramRead_served hup hf hp hh h16 hcap hm (decodeGran_poisoned hck hpo ..))
  · exact .of_effect rfl (dramRead_outside hup _ _ hcap _) ⟨rfl, (sent_accFault ..).with_reply _⟩
  · exact .of_effect rfl (dramWrite_outside hup _ _ hcap) (sent_accFault ..)
  · refine .of_effect rfl ((dramWrite_inside hup _ _ hcap).trans (presentReq_selfRefresh _ hsr)) ⟨?_, ?_⟩
    · exact Chip.fld_setFld_same _ d Rf.DRAM_CTL_SR 0 (by decide)
    · rw [Chip.dram_of_setFld, holdReq, Chip.dram_onDram_same, writeReq]
  · obtain ⟨e, he, hg, hage⟩ := hold
    refine .of_effect rfl ((whenUp_of_up hup _).trans (if_pos ?_)) (merge_flushBurst _ d _ errs)
    exact List.any_eq_true.2 ⟨e, he, by simp [hg, hage]⟩
  · refine .of_effect rfl ((whenUp_of_up hup _).trans (if_neg ?_))
    simpa using fun e he hg => by simpa using hyoung e he hg

end Sys2Proof.Says
end

section
/-! Recipe commands of a tenant: a command that may start is opened, acts on one recipe, and completes. -/

namespace Sys2Proof.Machine

/-! ### Host queues and completions (R168, R170) -/

@[simp] theorem Chip.host_setHost_same (s : Chip) (t : Fin 256) (x : HostTen) : (s.setHost t x).host t = x :=
  mapGet_mapPut_same ..

/-- Tenant `t` has been told that command `cid` ended with status `st`. -/
def Told (k : Chip) (t : Fin 256) (cid : BitVec 16) (st : Nat) : Prop :=
  ∃ q ∈ (k.host t).compl, q.cid = cid ∧ q.status = st

/-- A command that completes has been told. -/
theorem told_complete (s : Chip) (t : Fin 256) (c : Compl) : Told (complete s t c) t c.cid c.status :=
  ⟨{ c with sqHead := (s.host t).sqHead }, by simp [complete], rfl, rfl⟩

/-- A further completion takes none back. -/
theorem Told.complete {s : Chip} {t : Fin 256} {cid : BitVec 16} {st : Nat} (h : Told s t cid st) (c : Compl) :
    Told (complete s t c) t cid st := by
  obtain ⟨q, hq, he⟩ := h
  exact ⟨q, by simp [Machine.complete, hq], he⟩

@[simp] theorem cmds_complete (s : Chip) (t : Fin 256) (c : Compl) :
    ((complete s t c).host t).cmds = (s.host t).cmds := by simp [complete]

@[simp] theorem inst_complete (s : Chip) (t : Fin 256) (c : Compl) (d : Fin 4) (i : Nat) :
    (complete s t c).inst d i = s.inst d i := rfl

/-! ### Recipes under their numbers (R151, R533) -/

@[simp] theorem Chip.inst_setInst_same (s : Chip) (d : Fin 4) (i : Nat) (r : Option RInst) :
    (s.setInst d i r).inst d i = r := by
  rw [inst, setInst, Chip.d_upd_same]
  exact mapGet_mapPut_same ..

/-- The recipes of a die do not depend on the sets of Pleat. -/
theorem inst_discardSet (s : Chip) (d : Fin 4) (k i : Nat) : (discardSet s d k).inst d i = s.inst d i := by
  rw [discardSet, Chip.setPset, Chip.inst, Chip.insts_of_setFld, Chip.onPleat, Chip.d_upd_same, Chip.inst]

/-- A recipe that ends is gone, and its tenant is told (R151). -/
theorem endInst_ended {s : Chip} {d : Fin 4} {i : Nat} {r : RInst} (h : s.inst d i = some r) (st : Nat) :
    (endInst s d i st).inst d i = none ∧ Told (endInst s d i st) r.ten r.cid st ∧
      ((endInst s d i st).host r.ten).cmds = (s.host r.ten).cmds := by
  simp only [endInst, h, inst_complete, cmds_complete]
  refine ⟨?_, told_complete .., ?_⟩ <;> split
  · rw [inst_discardSet, Chip.inst, Chip.insts_of_setFld]
    exact Chip.inst_setInst_same ..
  · exact Chip.inst_setInst_same ..
  · rfl
  · rfl

/-! ### A command starts (R165, R169) -/

/-- The only fetched command `c` of tenant `t` may start, and its die runs. -/
structure CmdReady (s : Chip) (t : Fin 256) (c : List Word) : Prop where
  head : headCmd s t = some c
  good : badWord c = none
  enabled : tenEnabled s t = true
  alone : (s.host t).cmds = [c]
  runs : up s (cmdDie c) = true

theorem settleCmds_of_nil {s : Chip} {t : Fin 256} (h : (s.host t).cmds = []) : settleCmds s t = s := by
  rw [settleCmds, h]
  rfl

theorem CmdReady.cmds_openCmd {s : Chip} {t : Fin 256} {c : List Word} (h : CmdReady s t c) :
    ((openCmd s t).host t).cmds = [] := by simp [openCmd, h.alone]

/-- What opening a command leaves: the dies, and with them what a block is refused for. -/
theorem d_openCmd (s : Chip) (t : Fin 256) (e : Fin 4) : (openCmd s t).d e = s.d e := rfl
theorem inst_openCmd (s : Chip) (t : Fin 256) (d : Fin 4) (i : Nat) : (openCmd s t).inst d i = s.inst d i := rfl
theorem tenEnabled_openCmd (s : Chip) (t u : Fin 256) : tenEnabled (openCmd s t) u = tenEnabled s u := rfl
theorem up_openCmd (s : Chip) (t : Fin 256) (d : Fin 4) : up (openCmd s t) d = up s d := rfl
theorem blockRefused_openCmd (s : Chip) (t : Fin 256) (d : Fin 4) (r : RInst) :
    blockRefused (openCmd s t) d r = blockRefused s d r := rfl

/-- A command of opcode `op` that may start acts, and none waits behind it. -/
theorem CmdReady.startCmd_eq {s x : Chip} {t : Fin 256} {c : List Word} (h : CmdReady s t c) {op : Nat}
    (hop : cmdOp c = op) {unit : Nat} {k : Chip → List Word → Chip} (hk : k (openCmd s t) c = x)
    (hx : (x.host t).cmds = []) : startCmd s t op unit k = x := by
  simp only [startCmd, h.head]
  rw [if_pos ⟨hop, h.good⟩, tenEnabled_openCmd, up_openCmd, h.enabled, h.runs, hk]
  simpa using settleCmds_of_nil hx

/-- The recipe that a command names, when it is one of its tenant. -/
theorem ownInst_openCmd {s : Chip} {t : Fin 256} {c : List Word} {r : RInst}
    (hi : s.inst (cmdDie c) (cmdInst c) = some r) (ht : r.ten = t) : ownInst (openCmd s t) t c = some r := by
  simp [ownInst, inst_openCmd, hi, ht]

/-! ### The recipe commands at the command that may start (R150, R151) -/

section
variable {s : Chip} {t : Fin 256} {c block : List Word} {r : RInst} (h : CmdReady s t c)
include h

theorem recipeStart_taken (hop : cmdOp c = 2) (hg : (s.d (cmdDie c)).yoke.prog = false)
    (hi : s.inst (cmdDie c) (cmdInst c) = none) (hb : blockRefused s (cmdDie c) (newInst t c block) = none) :
    recipeStart t block s = (openCmd s t).setInst (cmdDie c) (cmdInst c) (some (newInst t c block)) := by
  refine h.startCmd_eq hop ?_ h.cmds_openCmd
  simp [d_openCmd, inst_openCmd, blockRefused_openCmd, hg, hi, hb]

theorem recipeStart_busy (hop : cmdOp c = 2)
    (hbusy : (s.d (cmdDie c)).yoke.prog = true ∨ s.inst (cmdDie c) (cmdInst c) ≠ none) :
    recipeStart t block s = complete (openCmd s t) t (cmdCompl c 5 0) := by
  refine h.startCmd_eq hop (if_pos ?_) ((cmds_complete ..).trans h.cmds_openCmd)
  rwa [d_openCmd, inst_openCmd, Option.isSome_iff_ne_none]

theorem recipeStart_refused (hop : cmdOp c = 2) (hg : (s.d (cmdDie c)).yoke.prog = false)
    (hi : s.inst (cmdDie c) (cmdInst c) = none) {st det : Nat}
    (hb : blockRefused s (cmdDie c) (newInst t c block) = some (st, det)) :
    recipeStart t block s = complete (openCmd s t) t (cmdCompl c st det) := by
  refine h.startCmd_eq hop ?_ ((cmds_complete ..).trans h.cmds_openCmd)
  simp [d_openCmd, inst_openCmd, blockRefused_openCmd, hg, hi, hb]

theorem recipeStop_absent (hop : cmdOp c = 3) (hi : s.inst (cmdDie c) (cmdInst c) = none) :
    recipeStop t s = complete (openCmd s t) t (cmdCompl c 5 0) := by
  refine h.startCmd_eq hop ?_ ((cmds_complete ..).trans h.cmds_openCmd)
  simp [ownInst, inst_openCmd, hi]

variable (hi : s.inst (cmdDie c) (cmdInst c) = some r) (ht : r.ten = t)
include hi ht

theorem recipeStop_ended (hop : cmdOp c = 3) :
    recipeStop t s = complete (endInst (openCmd s t) (cmdDie c) (cmdInst c) 8) t (cmdCompl c 0 0) := by
  obtain ⟨_, _, hcmds⟩ := endInst_ended (s := openCmd s t) hi 8
  refine h.startCmd_eq hop ?_ ((cmds_complete ..).trans ?_)
  · simp [ownInst_openCmd hi ht]
  · rw [ht] at hcmds
    exact hcmds.trans h.cmds_openCmd

theorem recipeUpdate_taken (hop : cmdOp c = 4) (hb : blockRefused s (cmdDie c) { r with block := block } = none) :
    recipeUpdate t block s = complete ((openCmd s t).setInst (cmdDie c) (cmdInst c) (some { r with next := some block }))
      t (cmdCompl c 0 0) := by
  refine h.startCmd_eq hop ?_ ((cmds_complete ..).trans h.cmds_openCmd)
  simp [ownInst_openCmd hi ht, blockRefused_openCmd, hb]

end

end Sys2Proof.Machine

namespace Sys2Proof.Says

open Sys2Proof.Machine

/-- Settles O48: each command opens, acts on the recipe that it names, and its completion is the one told. -/
theorem recipeCommandsStartStopAndUpdate : Obligations.RecipeCommandsStartStopAndUpdate := by
  unfold Obligations.RecipeCommandsStartStopAndUpdate
  intro t c block r s
  have ready : (headCmd s.chip t = some c ∧ badWord c = none ∧ tenEnabled s.chip t = true ∧ (s.chip.host t).cmds = [c] ∧
      up s.chip (cmdDie c) = true) → CmdReady s.chip t c := fun ⟨h1, h2, h3, h4, h5⟩ => ⟨h1, h2, h3, h4, h5⟩
  refine ⟨fun h hop hg hi hb => ?_, fun h hop hbusy => ?_, fun h hop hg hi st det hb => ?_, fun h hop hi ht => ?_,
    fun h hop hi => ?_, fun h hop hi ht hb => ?_⟩
  · exact .of_effect rfl (recipeStart_taken (ready h) hop hg hi hb) (Chip.inst_setInst_same ..)
  · exact .of_effect rfl (recipeStart_busy (ready h) hop hbusy) ⟨rfl, told_complete ..⟩
  · exact .of_effect rfl (recipeStart_refused (ready h) hop hg hi hb) ⟨hi, told_complete ..⟩
  · obtain ⟨hnone, htold, _⟩ := endInst_ended (s := openCmd s.chip t) hi 8
    rw [ht] at htold
    exact .of_effect rfl (recipeStop_ended (ready h) hi ht hop) ⟨hnone, htold.complete _, told_complete ..⟩
  · exact .of_effect rfl (recipeStop_absent (ready h) hop hi) (told_complete ..)
  · exact .of_effect rfl (recipeUpdate_taken (ready h) hi ht hop hb) ⟨Chip.inst_setInst_same .., told_complete ..⟩

end Sys2Proof.Says
end

section
/-! Tick settings, RUN, TIME.SET, the reference and the discipline of the time bases (R54 to R63, R87 to R91). -/

namespace Sys2Proof.Machine

/-! ### Fields of other registers -/

/-- A change beside the dies leaves every field. -/
theorem Chip.fld_of_die {s k : Chip} (h : k.die = s.die) (e : Fin 4) (f : Fld) : k.fld e f = s.fld e f := by
  rw [fld, reg, d, h, fld, reg, d]

/-- A change of a time base leaves every field. -/
theorem Chip.fld_onTb (s : Chip) (d e : Fin 4) (f : Fld) (g : TimeBase → TimeBase) :
    (s.onTb d g).fld e f = s.fld e f :=
  congrArg (getBits · f.lo f.w) (reg_upd s d e f.key _ fun _ => rfl)

/-- A field of any register but the count of the kind reads as before an event was raised. -/
theorem fld_raise (s : Chip) (d e : Fin 4) (src kind : Nat) (t : Fin 256) (pay : Nat) {f : Fld}
    (h : f.key ≠ (Rf.EVT_KCOUNT_COUNT.at kind).key) : (raise s d src kind t pay).fld e f = s.fld e f := by
  rw [Chip.fld, reg_raise s d e src kind t pay (.inr h), Chip.fld]

/-- An event raised leaves the time base of every die, and its tick. -/
theorem tb_raise (s : Chip) (d e : Fin 4) (src kind : Nat) (t : Fin 256) (pay : Nat) :
    ((raise s d src kind t pay).d e).tb = (s.d e).tb := by
  exact (congrArg DieSt.tb ((Says.onlyRegs_sendRec s d (mkRec s d src kind t pay false false)).1 e) :)

theorem tick_raise (s : Chip) (d e : Fin 4) (src kind : Nat) (t : Fin 256) (pay : Nat) :
    ((raise s d src kind t pay).d e).tick = (s.d e).tick := by
  exact (congrArg DieSt.tick ((Says.onlyRegs_sendRec s d (mkRec s d src kind t pay false false)).1 e) :)

/-- A write that its sender may make is made. -/
theorem whenGranted_granted {s : Chip} {d : Fin 4} {t : Fin 256} {f : Fld} (h : Says.MayWrite s d f.unit t)
    (k : Chip → Chip) : whenGranted s d t f k = k s := by
  obtain ⟨hup, hg⟩ := h
  have hp : present s d f.unit = true := (Bool.and_eq_true .. ▸ hg).1
  simp [whenGranted, hup, hp, hg]

/-! ### Settings (R63) -/

/-- RESULT of APPLY is the code of the first condition of R63 that fails. -/
theorem settingResult_eq (s : Chip) (k : Setting) :
    settingResult s k = Says.settingCode k.p k.a k.s (s.fld 0 Rf.YOKE_RTO_TIMEOUT) := by
  have h2 : (k.p < 1000 ∨ 67108864 < k.p) ↔ ¬ (1000 ≤ k.p ∧ k.p ≤ 67108864) := by omega
  have h4 : k.p < k.s + 1256 ↔ ¬ k.s + 256 + 1000 ≤ k.p := by omega
  exact if_congr h2 rfl (if_congr Nat.not_le.symm rfl (if_congr h4 rfl (if_congr Nat.not_lt.symm rfl rfl)))

theorem unmarked_setFld (s : Chip) (d : Fin 4) (f : Fld) (v : Nat) : unmarked (s.setFld d f v) = unmarked s := by
  simp [unmarked, nextNum]

/-- The setting that APPLY is to take (R63). -/
def newSetting (s : Chip) : Setting :=
  { p := s.fld 0 Rf.TIME_TICK_P_P, a := s.fld 0 Rf.TIME_TICK_A_A, s := s.fld 0 Rf.TIME_TICK_S_S }

/-- APPLY sets RESULT, and keeps a setting that it accepts for the first tick without a mark. -/
theorem applySetting_eq (s : Chip) {k : Setting} {r : Nat} (hk : k = newSetting s)
    (hr : settingResult s k = r) :
    applySetting s = { s.setFld 0 Rf.TIME_TICK_STATUS_RESULT r with
      settings := if r = 1 then s.settings ++ [(unmarked s, k)] else s.settings } := by
  rw [applySetting, ← newSetting, ← hk]
  simp only [unmarked_setFld, hr]
  by_cases h : r = 1
  · rw [if_pos h, if_pos h, Chip.settings_setFld]
  · rw [if_neg h, if_neg h, ← Chip.settings_setFld s 0 Rf.TIME_TICK_STATUS_RESULT r]

/-- APPLY changes no other register than TICK_STATUS. -/
theorem fld_applySetting (s : Chip) {f : Fld} (h : f.key ≠ Rf.TIME_TICK_STATUS_RESULT.key) :
    (applySetting s).fld 0 f = s.fld 0 f := by
  obtain ⟨r, hr⟩ : ∃ r, settingResult s (newSetting s) = r := ⟨_, rfl⟩
  rw [applySetting_eq s rfl hr]
  exact (Chip.fld_of_die (s := s.setFld 0 Rf.TIME_TICK_STATUS_RESULT r) (by rfl) 0 f).trans
    (Chip.fld_setFld_ne s r (.inr h))

/-- A write of TICK_CTL that leaves RUN as it is applies a setting where APPLY is set, and does nothing else. -/
theorem tickCtlWrite_apply {s : Chip} {v : Word} (hrun : getBits v 0 1 = s.fld 0 Rf.TIME_TICK_CTL_RUN) :
    tickCtlWrite s (putBits v 1 1 1) = applySetting s := by
  have happly : getBits (putBits v 1 1 1) 1 1 = 1 := getBits_putBits_same _ _ _ _ (by decide)
  have hon : getBits (putBits v 1 1 1) 0 1 = getBits v 0 1 := getBits_putBits_ne _ _ (by decide) (by decide)
  have hflag : (applySetting s).flag 0 Rf.TIME_TICK_CTL_RUN = s.flag 0 Rf.TIME_TICK_CTL_RUN := by
    rw [Chip.flag, fld_applySetting s (by decide), Chip.flag]
  rw [tickCtlWrite, if_pos happly, hon, hflag, hrun]
  exact if_pos (by simp [Chip.flag])

/-! ### RUN (R87, R88) -/

theorem tickCtlWrite_runSet {s : Chip} (h : s.fld 0 Rf.TIME_TICK_CTL_RUN = 0) : tickCtlWrite s 1 = runWrite s true := by
  simp [tickCtlWrite, Chip.flag, h, getBits]

theorem tickCtlWrite_runClear {s : Chip} (h : s.fld 0 Rf.TIME_TICK_CTL_RUN = 1) : tickCtlWrite s 0 = runWrite s false := by
  simp [tickCtlWrite, Chip.flag, h, getBits]

theorem follows_setRun (s : Chip) (v : Nat) : follows (s.setFld 0 Rf.TIME_TICK_CTL_RUN v) = follows s := by
  rw [follows, Chip.fld_setFld_ne _ _ (by decide), Chip.fld_setFld_ne _ _ (by decide), follows]

theorem ticking_setFld (s : Chip) (d e : Fin 4) (f : Fld) (v : Nat) : ticking (s.setFld d f v) e = ticking s e := by
  simp [ticking]

/-- RUN cleared in a tick is cleared, and nothing else (R88). -/
theorem runWrite_false {s : Chip} (h : ticking s 0 = true) :
    runWrite s false = s.setFld 0 Rf.TIME_TICK_CTL_RUN 0 := by
  simp [runWrite, ticking_setFld, h, b2n]

/-- What a mark sent by die 0 changes: die 0 holds it, and it is on its way to the dies that die 0 reaches. -/
theorem sendMark_frame (s : Chip) (m : Mark) :
    ((sendMark s m).d 0).tick = { (s.d 0).tick with mark := some m } ∧ (sendMark s m).first = s.first ∧
      ∀ e j, (sendMark s m).reg e j = s.reg e j := by
  have h : ∀ l : List (Fin 4), (∀ e ∈ l, e ≠ 0) → ∀ k : Chip,
      let k' := overAll (fun s e => if reaches s 0 e then s.upd e fun x => { x with marks := x.marks ++ [m] } else s) k l
      k'.d 0 = k.d 0 ∧ k'.first = k.first ∧ ∀ e j, k'.reg e j = k.reg e j := by
    intro l
    induction l with
    | nil => exact fun _ k => ⟨rfl, rfl, fun _ _ => rfl⟩
    | cons a l ih =>
      intro hl k
      obtain ⟨hd, hf, hr⟩ := ih (fun e he => hl e (by simp [he]))
        (if reaches k 0 a then k.upd a fun x => { x with marks := x.marks ++ [m] } else k)
      have ha : (0 : Fin 4) ≠ a := (hl a (by simp)).symm
      simp only [overAll]
      refine ⟨hd.trans ?_, hf.trans ?_, fun e j => (hr e j).trans ?_⟩ <;> split
      · exact Chip.d_upd_ne k _ ha
      · rfl
      · rfl
      · rfl
      · exact Chip.reg_upd k a e j _ fun _ => rfl
      · rfl
  obtain ⟨hd, hf, hr⟩ := h [1, 2, 3] (by decide) (s.onTick 0 fun k => { k with mark := some m })
  refine ⟨?_, hf, fun e j => (hr e j).trans (Chip.reg_upd s 0 e j _ fun _ => rfl)⟩
  rw [sendMark, hd, Chip.onTick, Chip.d_upd_same]

/-- RUN set while no tick runs: the first tick is scheduled, at the later of START and 2,000 tq from now (R87). -/
theorem runWrite_true {s : Chip} (hf : follows s = false) (ht : ticking s 0 = false) {req first : Time}
    (hreq : req = BitVec.ofNat 64 (s.fld64 0 Rf.TIME_TICK_START_LO_START Rf.TIME_TICK_START_HI_START))
    (hfirst : first = if (req - (s.now 0 + 2000)).toNat < 2 ^ 63 then req else s.now 0 + 2000) :
    runWrite s true =
      sendMark { s.setFld 0 Rf.TIME_TICK_CTL_RUN 1 with first := some first }
        { num := nextNum s, start := first, p := (settingFor s (nextNum s)).p, a := (settingFor s (nextNum s)).a,
          s := (settingFor s (nextNum s)).s, skip := false } := by
  subst hreq hfirst
  have hset (n : BitVec 48) : settingFor (s.setFld 0 Rf.TIME_TICK_CTL_RUN 1) n = settingFor s n := by simp [settingFor]
  have hn : nextNum (s.setFld 0 Rf.TIME_TICK_CTL_RUN 1) = nextNum s := by simp [nextNum]
  have hnow : (s.setFld 0 Rf.TIME_TICK_CTL_RUN 1).now 0 = s.now 0 := by simp [Chip.now]
  have h64 : (s.setFld 0 Rf.TIME_TICK_CTL_RUN 1).fld64 0 Rf.TIME_TICK_START_LO_START Rf.TIME_TICK_START_HI_START =
      s.fld64 0 Rf.TIME_TICK_START_LO_START Rf.TIME_TICK_START_HI_START := by
    rw [Chip.fld64, Chip.fld_setFld_ne _ _ (by decide), Chip.fld_setFld_ne _ _ (by decide), Chip.fld64]
  simp [runWrite, b2n, follows_setRun, ticking_setFld, hf, ht, hset, hn, hnow, h64]

/-! ### TIME.SET (R91) -/

theorem timeCtlWrite_set {s : Chip} {v : Word} (h : getBits v 1 2 = s.fld 0 Rf.TIME_CTL_SRC) (t : Fin 256) :
    timeCtlWrite s t (putBits v 0 1 1) =
      if s.ticked then refusedWrite s 0 t Rf.TIME_CTL_SET
      else s.onTb 0 fun b => { b with now := BitVec.ofNat 64 (s.fld64 0 Rf.TIME_SET_LO_SET Rf.TIME_SET_HI_SET) } := by
  have hsrc : getBits (putBits v 0 1 1) 1 2 = getBits v 1 2 := getBits_putBits_ne _ _ (by decide) (by decide)
  have hset : getBits (putBits v 0 1 1) 0 1 = 1 := getBits_putBits_same _ _ _ _ (by decide)
  simp [timeCtlWrite, hsrc, hset, h]

end Sys2Proof.Machine

namespace Sys2Proof.Says

open Sys2Proof.Machine

/-- Settles O12: APPLY stores the code of R63, and keeps the setting where the code is 1. -/
theorem tickSettingAcceptedExactlyByItsRule : Obligations.TickSettingAcceptedExactlyByItsRule := by
  unfold Obligations.TickSettingAcceptedExactlyByItsRule
  intro t v s hm hrun
  refine .of_effect rfl ((whenGranted_granted hm _).trans ((tickCtlWrite_apply hrun).trans ?_))
  exact applySetting_eq s.chip rfl (settingResult_eq ..)

/-- What RUN set leaves while no tick runs. -/
theorem reaches_tickRunSet {t : Fin 256} {s : State} (hm : MayWrite s.chip 0 0x19 t)
    (hrun : s.chip.fld 0 Rf.TIME_TICK_CTL_RUN = 0) (hf : follows s.chip = false) (ht : ticking s.chip 0 = false)
    {req first : Time}
    (hreq : req = BitVec.ofNat 64 (s.chip.fld64 0 Rf.TIME_TICK_START_LO_START Rf.TIME_TICK_START_HI_START))
    (hfirst : first = if (req - (s.chip.now 0 + 2000)).toNat < 2 ^ 63 then req else s.chip.now 0 + 2000) :
    Reaches (.tickRunSet t) s fun k =>
      k.fld 0 Rf.TIME_TICK_CTL_RUN = 1 ∧ k.first = some first ∧
        ∃ m, (k.d 0).tick.mark = some m ∧ m.start = first ∧ m.num = nextNum s.chip ∧ m.skip = false := by
  refine .of_effect rfl ((whenGranted_granted hm _).trans
    ((tickCtlWrite_runSet hrun).trans (runWrite_true hf ht hreq hfirst))) ?_
  generalize hk : { s.chip.setFld 0 Rf.TIME_TICK_CTL_RUN 1 with first := some first } = k
  generalize hmk : Mark.mk _ _ _ _ _ _ = m
  obtain ⟨htick, hfst, hreg⟩ := sendMark_frame k m
  refine ⟨?_, ?_, m, ?_⟩
  · have hdie : k.die = (s.chip.setFld 0 Rf.TIME_TICK_CTL_RUN 1).die := by rw [← hk]
    rw [Chip.fld, hreg, ← Chip.fld, Chip.fld_of_die hdie]
    exact Chip.fld_setFld_same s.chip 0 Rf.TIME_TICK_CTL_RUN 1 (by decide)
  · rw [hfst, ← hk]
  · rw [htick, ← hmk]
    exact ⟨rfl, rfl, rfl, rfl⟩

/-- Loss of TBREF and its lock change TIME.STAT, and log the loss. -/
theorem reaches_tbref {s : State} (hup : up s.chip 0 = true) (hsrc : s.chip.fld 0 Rf.TIME_CTL_SRC ≠ 0)
    (hf : follows s.chip = false) :
    (s.chip.fld 0 Rf.TIME_STAT_HOLDOVER = 0 →
      Reaches .tbrefHoldover s fun k =>
        k.fld 0 Rf.TIME_STAT_HOLDOVER = 1 ∧ k.fld 0 Rf.TIME_STAT_REFLOCK = 0 ∧ Sent k 0 K.REFLOSS 0 ∧
          (k.d 0).tb = (s.chip.d 0).tb) ∧
    Reaches .tbrefLock s fun k =>
      k.fld 0 Rf.TIME_STAT_REFLOCK = 1 ∧ k.fld 0 Rf.TIME_STAT_HOLDOVER = 0 ∧ (k.d 0).tb = (s.chip.d 0).tb := by
  have huse : usesRef s.chip = true := by simp [usesRef, hsrc, hf]
  refine ⟨fun hh => ?_, ?_⟩
  · refine .of_effect rfl ((whenUp_of_up hup _).trans (if_pos (by simp [huse, Chip.flag, hh]))) ⟨?_, ?_, sent_raise .., ?_⟩
    · rw [fld_raise _ _ _ _ _ _ _ (by decide),
        Chip.fld_setFld_disjoint _ _ _ (by rfl) (by decide) (by decide)]
      exact Chip.fld_setFld_same s.chip 0 Rf.TIME_STAT_HOLDOVER 1 (by decide)
    · rw [fld_raise _ _ _ _ _ _ _ (by decide)]
      exact Chip.fld_setFld_same _ 0 Rf.TIME_STAT_REFLOCK 0 (by decide)
    · simp [tb_raise]
  · refine .of_effect rfl ((whenUp_of_up hup _).trans (if_pos huse)) ⟨?_, ?_, by simp⟩
    · rw [Chip.fld_setFld_disjoint _ _ _ (by rfl) (by decide) (by decide)]
      exact Chip.fld_setFld_same s.chip 0 Rf.TIME_STAT_REFLOCK 1 (by decide)
    · exact Chip.fld_setFld_same _ 0 Rf.TIME_STAT_HOLDOVER 0 (by decide)

/-- Settles O13: RUN schedules the first tick or is only cleared, TIME.SET is taken before the first tick only, and the
reference moves TIME.STAT without a jump. -/
theorem runTimeAndHoldoverTakeEffect : Obligations.RunTimeAndHoldoverTakeEffect := by
  unfold Obligations.RunTimeAndHoldoverTakeEffect
  refine ⟨fun t v s hm => ⟨fun hrun hf ht => ?_, fun hrun ht => ?_, fun hv htk => ?_, fun hv htk => ?_⟩,
    fun s hup hsrc hf => reaches_tbref hup hsrc hf⟩
  · exact reaches_tickRunSet hm hrun hf ht rfl rfl
  · exact .of_effect rfl ((whenGranted_granted hm _).trans ((tickCtlWrite_runClear hrun).trans (runWrite_false ht)))
  · refine .of_effect rfl ((whenGranted_granted hm _).trans ((timeCtlWrite_set hv t).trans ?_))
    rw [htk]
    rfl
  · refine .of_effect rfl ((whenGranted_granted hm _).trans ((timeCtlWrite_set hv t).trans (if_pos htk))) ⟨?_, ?_⟩
    · exact tb_raise ..
    · exact sent_nogrant ..

end Sys2Proof.Says

namespace Sys2Proof.Machine

/-! ### Time exchange (R55, R59, R60) -/

/-- The record of an excursion that has not been reported (R59, R107). -/
def reportSkew (s : Chip) (d : Fin 4) (skew : Int) (told : Bool) : Chip :=
  if 64 < skew.natAbs ∧ !told then
    raise s d 0x001 K.TIMESKEW 0 (toBits 32 (clampI (-2147483648) 2147483647 skew))
  else s

/-- STATE and SKEW after an exchange, and the correction owed. -/
def noteSkew (s : Chip) (d : Fin 4) (skew : Int) (good : Nat) : Chip :=
  ((s.setFld d Rf.TIME_STAT_STATE (skewState (s.fld d Rf.TIME_STAT_STATE) good skew.natAbs)).setFld d Rf.TIME_STAT_SKEW
    (skew8 skew)).onTb d fun b => { b with good := good, owe := -skew, alarmed := decide (64 < skew.natAbs) }

/-- The exchanges in a row within 4 tq, after one with this skew. -/
def goodAfter (b : TimeBase) (skew : Int) : Nat := if skew.natAbs ≤ 4 then min 16 (b.good + 1) else 0

theorem exchangeDie_first {s : Chip} {d : Fin 4} (h : (s.d d).tb.taken = false) (t0 : Time) :
    exchangeDie s d t0 = s.onTb d fun b => { b with now := t0, taken := true, owe := 0, good := 0 } := by
  simp [exchangeDie, h]

theorem exchangeDie_later {s : Chip} {d : Fin 4} (h : (s.d d).tb.taken = true) (t0 : Time) {skew : Int}
    (hs : skew = ((s.d d).tb.now - t0).toInt) :
    exchangeDie s d t0 = reportSkew (noteSkew s d skew (goodAfter (s.d d).tb skew)) d skew (s.d d).tb.alarmed := by
  subst hs
  simp only [exchangeDie, h]
  rfl

theorem tb_reportSkew (s : Chip) (d e : Fin 4) (skew : Int) (told : Bool) :
    ((reportSkew s d skew told).d e).tb = (s.d e).tb := by
  unfold reportSkew
  split
  · exact tb_raise ..
  · rfl

theorem fld_state_reportSkew (s : Chip) (d : Fin 4) (skew : Int) (told : Bool) :
    (reportSkew s d skew told).fld d Rf.TIME_STAT_STATE = s.fld d Rf.TIME_STAT_STATE := by
  unfold reportSkew
  split
  · exact fld_raise _ _ _ _ _ _ _ (by decide)
  · rfl

theorem tb_noteSkew (s : Chip) (d : Fin 4) (skew : Int) (good : Nat) :
    ((noteSkew s d skew good).d d).tb =
      { (s.d d).tb with good := good, owe := -skew, alarmed := decide (64 < skew.natAbs) } := by
  rw [noteSkew, Chip.onTb, Chip.d_upd_same]
  simp

/-- The states of R59 fit their field. -/
theorem skewState_lt (old good a : Nat) : skewState old good a < 4 := by
  unfold skewState
  split_ifs <;> decide

theorem fld_state_noteSkew (s : Chip) (d : Fin 4) (skew : Int) (good : Nat) :
    (noteSkew s d skew good).fld d Rf.TIME_STAT_STATE =
      skewState (s.fld d Rf.TIME_STAT_STATE) good skew.natAbs := by
  rw [noteSkew, Chip.fld_onTb, Chip.fld_setFld_disjoint _ _ (f := Rf.TIME_STAT_SKEW) _ (by rfl) (by decide) (by decide),
    Chip.fld_setFld_same _ _ _ _ (by decide)]
  exact Nat.mod_eq_of_lt (skewState_lt ..)

/-- A skew of at most 1 tq is LOCKED, unless the die is uncertain; one above 4 tq makes it uncertain (R59, R60). -/
theorem skewState_locked {old a : Nat} (good : Nat) (ha : a ≤ 1) (ho : old ≠ 2) : skewState old good a = 0 := by
  simp [skewState, ho, ha]

theorem skewState_uncertain (old good : Nat) {a : Nat} (ha : 4 < a) : skewState old good a = 2 := by
  have h1 : ¬ a ≤ 1 := by omega
  simp [skewState, h1, Nat.not_le.2 ha]

/-! ### One tq of a time base (R54, R57) -/

/-- A time base counts one, and one more or less by a correction that it owes and may make. -/
theorem slewTq_cases (b : TimeBase) :
    (slewTq b).now = b.now + 1 ∨
      ((slewTq b).now = b.now + 2 ∧ 0 < b.owe ∧ 256 ≤ b.since ∧ (slewTq b).since = 1) ∨
      ((slewTq b).now = b.now ∧ b.owe < 0 ∧ 256 ≤ b.since ∧ (slewTq b).since = 1) := by
  unfold slewTq
  split
  next h =>
    obtain ⟨hs, ho⟩ := h
    split
    next hp => exact .inr (.inl ⟨rfl, hp, hs, rfl⟩)
    next hn => exact .inr (.inr ⟨rfl, by omega, hs, rfl⟩)
  next => exact .inl rfl

end Sys2Proof.Machine

namespace Sys2Proof.Says

open Sys2Proof.Machine

/-- A later exchange owes the skew, shows its state, and reports an excursion once. -/
theorem reaches_timeExchange {d : Fin 4} {t0 : Time} {s : State} (hd : d ≠ 0) (hup : up s.chip d = true)
    (hr : reaches s.chip 0 d = true) (ht : (s.chip.d d).tb.taken = true) {skew : Int}
    (hs : skew = ((s.chip.d d).tb.now - t0).toInt) :
    Reaches (.timeExchange d none t0) s fun k =>
      (k.d d).tb.now = (s.chip.d d).tb.now ∧ (k.d d).tb.owe = -skew ∧
        (skew.natAbs ≤ 1 → s.chip.fld d Rf.TIME_STAT_STATE ≠ 2 → k.fld d Rf.TIME_STAT_STATE = 0) ∧
        (4 < skew.natAbs → k.fld d Rf.TIME_STAT_STATE = 2) ∧
        (64 < skew.natAbs → (s.chip.d d).tb.alarmed = false → Sent k d K.TIMESKEW 0) := by
  refine .of_effect rfl ((whenUp_of_up hup _).trans ((if_pos ⟨hd, hr⟩).trans (exchangeDie_later ht t0 hs))) ?_
  rw [tb_reportSkew, tb_noteSkew, fld_state_reportSkew, fld_state_noteSkew]
  refine ⟨rfl, rfl, fun h1 h2 => skewState_locked _ h1 h2, fun h4 => skewState_uncertain _ _ h4, fun h64 ha => ?_⟩
  rw [reportSkew, if_pos ⟨h64, by simp [ha]⟩]
  exact sent_raise ..

/-- Settles O14: the first exchange takes the time, a later one notes the skew, and each tq slews by at most one. -/
theorem dieTimeFollowsDieZeroBySlew : Obligations.DieTimeFollowsDieZeroBySlew := by
  unfold Obligations.DieTimeFollowsDieZeroBySlew
  refine ⟨fun d t0 s hd hup hr => ⟨fun ht => ?_, fun ht => reaches_timeExchange hd hup hr ht rfl⟩, fun b => ?_⟩
  · refine .of_effect rfl ((whenUp_of_up hup _).trans ((if_pos ⟨hd, hr⟩).trans ((exchangeDie_first ht t0).trans ?_)))
    rfl
  · rcases slewTq_cases b with h | ⟨h, ho, hs, h1⟩ | ⟨h, ho, hs, h1⟩
    · exact ⟨.inl h, fun hne => absurd h hne⟩
    · exact ⟨.inr (.inl ⟨h, ho, hs⟩), fun _ => h1⟩
    · exact ⟨.inr (.inr ⟨h, ho, hs⟩), fun _ => h1⟩

end Sys2Proof.Says
end

section
/-! What a request to DRAM leaves alone: a die beside its DRAM, its registers and its records, and every register but those
of the controller and the counts of records. -/

namespace Sys2Proof.Machine

open Sys2Proof.Says (KindCount)

/-- A die beside its registers, its DRAM and the records on their way. -/
def DieSt.besideDram (x : DieSt) : DieSt := { x with regs := [], fly := [], dram := {} }

/-- From `s` to `k` registers of the DRAM window and counts of records may have changed, and of every die its DRAM and the
records on their way; nothing else of a die has. -/
structure DramWork (s k : Chip) : Prop where
  die : ∀ e, (k.d e).besideDram = (s.d e).besideDram
  reg : ∀ e j, k.reg e j ≠ s.reg e j → (15 * 1048576 ≤ j ∧ j < 16 * 1048576) ∨ KindCount e j

namespace DramWork

variable {s m k : Chip}

theorem refl (s : Chip) : DramWork s s := ⟨fun _ => rfl, fun _ _ h => absurd rfl h⟩

theorem trans (h : DramWork s m) (h' : DramWork m k) : DramWork s k := by
  refine ⟨fun e => (h'.die e).trans (h.die e), fun e j hne => ?_⟩
  by_cases hm : k.reg e j = m.reg e j
  · exact h.reg e j (hm ▸ hne)
  · exact h'.reg e j hm

theorem setFld (h : DramWork s m) (d : Fin 4) {f : Fld} (v : Nat)
    (hf : 15 * 1048576 ≤ f.key ∧ f.key < 16 * 1048576) : DramWork s (m.setFld d f v) := by
  refine h.trans ⟨fun e => (congrArg DieSt.besideDram (Chip.d_setReg m d e f.key _) :), fun e j hne => .inl ?_⟩
  obtain rfl : j = f.key := by by_contra hc; exact hne (Chip.reg_setFld_ne m f v (.inr hc))
  exact hf

theorem addFld (h : DramWork s m) (d : Fin 4) {f : Fld} (n : Nat)
    (hf : 15 * 1048576 ≤ f.key ∧ f.key < 16 * 1048576) : DramWork s (m.addFld d f n) := h.setFld d _ hf

theorem raise (h : DramWork s m) (d : Fin 4) (src kind : Nat) (t : Fin 256) (pay : Nat) :
    DramWork s (raise m d src kind t pay) := by
  obtain ⟨hd, _⟩ := Says.onlyRegs_sendRec m d (mkRec m d src kind t pay false false)
  refine h.trans ⟨fun e => (congrArg DieSt.besideDram (hd e) :), fun e j hne => .inr ?_⟩
  by_contra hc
  refine hne (reg_raise m d e src kind t pay ?_)
  by_contra hk
  rw [not_or, not_not, not_not] at hk
  exact hc ⟨hk.1, kind, hk.2⟩

theorem onDram (h : DramWork s m) (d : Fin 4) (f : DramSt → DramSt) : DramWork s (m.onDram d f) := by
  refine h.trans ⟨fun e => ?_, fun e j hne => absurd (Chip.reg_onDram m d e f j) hne⟩
  rw [Chip.onDram, Chip.d_upd]
  split
  · subst e; rfl
  · rfl

theorem took (h : DramWork s m) : DramWork s m.took := ⟨h.die, h.reg⟩

theorem guarded {p : Prop} [Decidable p] (h : DramWork s m) (h' : DramWork s k) : DramWork s (if p then m else k) := by
  split
  · exact h
  · exact h'

theorem overAll {α : Type} (f : Chip → α → Chip) (l : List α) (h : DramWork s m)
    (hf : ∀ n a, DramWork s n → DramWork s (f n a)) : DramWork s (overAll f m l) :=
  overAll_keeps (DramWork s) f hf m l h

/-! ### Reads without wrong symbols (R640, R642) -/

theorem dramEvent (h : DramWork s m) (d : Fin 4) (kind chip syms src off : Nat) :
    DramWork s (dramEvent m d kind chip syms src off) :=
  ((((h.setFld d _ (by decide)).setFld d _ (by decide)).setFld d _ (by decide)).setFld d _ (by decide)).raise ..

theorem uncorrectable (h : DramWork s m) (d : Fin 4) (g src off : Nat) : DramWork s (uncorrectable m d g src off) :=
  ((h.onDram d _).addFld d _ (by decide)).dramEvent ..

theorem decodeGran (h : DramWork s m) (d : Fin 4) (g src off : Nat) : DramWork s (decodeGran m d g src off []).1 := by
  have hclean (n : Chip) : decodeErrs n d [] = .clean := rfl
  unfold Machine.decodeGran
  split
  · exact h
  split
  · split
    · exact h
    · exact (h.addFld d _ (by decide)).dramEvent ..
  split
  · exact h.took.uncorrectable ..
  simp only [hclean]
  split
  · exact h.took
  · exact h

/-! ### Merged writes (R645 to R649) -/

theorem writeGran (h : DramWork s m) (d : Fin 4) (g : Nat) (bs : List Byte) : DramWork s (writeGran m d g bs) :=
  h.onDram ..

theorem flushEntry (h : DramWork s m) (d : Fin 4) (e : MergeEnt) : DramWork s (flushEntry m d [] e) := by
  unfold Machine.flushEntry
  simp only [errsOf_nil]
  exact .guarded (.guarded (((h.onDram ..).decodeGran ..).writeGran ..) ((h.onDram ..).decodeGran ..))
    ((h.onDram ..).onDram ..)

theorem flushBurst (h : DramWork s m) (d : Fin 4) (b : Nat) : DramWork s (flushBurst m d b []) :=
  overAll _ _ h fun _ _ hn => hn.flushEntry ..

theorem mergeWrite (h : DramWork s m) (d : Fin 4) (g off i : Nat) (bs : List Byte) :
    DramWork s (mergeWrite m d g off i bs) := by
  unfold Machine.mergeWrite
  dsimp only
  split
  · exact .guarded (h.writeGran ..) (h.onDram ..)
  · split
    · exact (DramWork.guarded h (h.flushBurst ..)).onDram ..
    · exact h.onDram ..

theorem dramPut (h : DramWork s m) (n : Nat) (d : Fin 4) (off : Nat) (bs : List Byte) :
    DramWork s (dramPut n m d off bs) := by
  induction n generalizing m off bs with
  | zero => exact h
  | succ n ih =>
    rw [Machine.dramPut]
    exact .guarded h (ih (.guarded (h.writeGran ..) (h.mergeWrite ..)) _ _)

theorem wakeDram (h : DramWork s m) (d : Fin 4) : DramWork s (wakeDram m d) := by
  unfold Machine.wakeDram
  exact .guarded (h.setFld d _ (by decide)) h

theorem dramPutSome (h : DramWork s m) (d : Fin 4) (off : Nat) (bs : List (Option Byte)) :
    DramWork s (dramPutSome m d off bs) := by
  induction bs generalizing m off with
  | nil => exact h
  | cons b bs ih =>
    cases b with
    | none => exact ih h _
    | some v => exact ih (h.dramPut ..) _

/-- A store to DRAM. -/
theorem dramStore (h : DramWork s m) (d : Fin 4) (off : Nat) (bs : List (Option Byte)) :
    DramWork s (dramStore m d off bs) := by
  unfold Machine.dramStore
  exact .guarded ((h.wakeDram d).dramPut ..) ((h.wakeDram d).dramPutSome ..)

theorem readGrans (h : DramWork s m) (n : Nat) (d : Fin 4) (off i : Nat) :
    DramWork s (readGrans n m d off i []).1 := by
  induction n generalizing m off i with
  | zero => exact h
  | succ n ih =>
    simp only [Machine.readGrans, errsOf_nil]
    exact ih (DramWork.decodeGran (.guarded (h.flushBurst ..) h) ..) _ _

/-- A read of DRAM by an engine. -/
theorem dramFetch (h : DramWork s m) (d : Fin 4) (off n : Nat) : DramWork s (dramFetch m d off n).1 := by
  unfold Machine.dramFetch dramReadBytes
  dsimp only
  split
  · exact h.wakeDram d
  · exact (h.wakeDram d).readGrans ..

/-- A register outside the window of DRAM that counts no records stays. -/
theorem reg_of_notDram (h : DramWork s k) (e : Fin 4) {j : Nat} (hj : j < 15 * 1048576 ∨ 16 * 1048576 ≤ j)
    (hk : ¬ KindCount e j) : k.reg e j = s.reg e j := by
  by_contra hne
  rcases h.reg e j hne with ⟨h1, h2⟩ | h1
  · omega
  · exact hk h1

end DramWork

end Sys2Proof.Machine
end

section
/-! Event records on their way to die 0, held there in order, and released into their ring (R80, R81, R85, R931). -/

namespace Sys2Proof.Machine

/-! ### The alarm registers (R936, R943) -/

/-- The alarm registers of die 0 read in `k` what they read in `s`. -/
def AlarmsKept (s k : Chip) : Prop :=
  ∀ i < 8, k.reg 0 (Rf.EVT_ALARM_KINDS.at i).key = s.reg 0 (Rf.EVT_ALARM_KINDS.at i).key

namespace AlarmsKept

variable {s m k : Chip}

theorem of_die (h' : AlarmsKept s m) (h : k.die = m.die) : AlarmsKept s k := fun i hi => by
  rw [Chip.reg, Chip.d, h]
  exact h' i hi

theorem withTrace (h : AlarmsKept s m) (t : TraceSt) : AlarmsKept s { m with trace := t } := h.of_die rfl

theorem setFld (h : AlarmsKept s m) (d : Fin 4) {f : Fld} (v : Nat)
    (hf : ∀ i < 8, (Rf.EVT_ALARM_KINDS.at i).key ≠ f.key) : AlarmsKept s (m.setFld d f v) := fun i hi =>
  (Chip.reg_setFld_ne m f v (.inr (hf i hi))).trans (h i hi)

theorem addFld (h : AlarmsKept s m) (d : Fin 4) {f : Fld} (n : Nat)
    (hf : ∀ i < 8, (Rf.EVT_ALARM_KINDS.at i).key ≠ f.key) : AlarmsKept s (m.addFld d f n) := h.setFld d _ hf

/-- A store to DRAM changes registers of the controller and counts of records. -/
theorem dramWork (h : AlarmsKept s m) (h' : DramWork m k) : AlarmsKept s k := fun i hi => by
  refine (h'.reg_of_notDram 0 (.inr ?_) ?_).trans (h i hi)
  · simp only [Fld.key, Fld.at, Rf.EVT_ALARM_KINDS]; omega
  · rintro ⟨-, n, hn⟩
    simp only [Fld.key, Fld.at, Rf.EVT_ALARM_KINDS, Rf.EVT_KCOUNT_COUNT] at hn
    omega

theorem guarded {p : Prop} [Decidable p] (h : AlarmsKept s m) (h' : AlarmsKept s k) :
    AlarmsKept s (if p then m else k) := by
  split
  · exact h
  · exact h'

theorem logRecord (h : AlarmsKept s m) (r : Rec) : AlarmsKept s (logRecord m r) :=
  .guarded (of_die h rfl) (of_die (h.addFld 0 (f := Rf.EVT_AOL_STAT_OVF) 1 (by decide)) rfl)

theorem traceLost (h : AlarmsKept s m) (port : Bool) : AlarmsKept s (traceLost m port) :=
  of_die (h.addFld 0 (f := Rf.PLACKET_TR_LOST_LOST) 1 (by decide)) rfl

theorem traceRing (h : AlarmsKept s m) (r : Rec) : AlarmsKept s (traceRing m r) := by
  unfold Machine.traceRing
  refine .guarded ((h.setFld 0 _ (by decide)).traceLost _) (.guarded (h.traceLost _) ?_)
  exact ((h.dramWork ((DramWork.refl m).dramStore ..)).setFld 0 (f := Rf.PLACKET_TR_RING_WP_WP) _ (by decide)).withTrace _

theorem traceRec (h : AlarmsKept s m) (r : Rec) : AlarmsKept s (traceRec m r) := by
  have hring : AlarmsKept s (if bit (m.fld 0 Rf.PLACKET_TR_CTL_DEST) 1 then Machine.traceRing m r else m) :=
    .guarded (h.traceRing r) h
  unfold Machine.traceRec
  refine .guarded h (.guarded (h.traceLost _) (.guarded ?_ hring))
  exact AlarmsKept.setFld (of_die hring rfl) 0 (f := Rf.PLACKET_TR_STAT_FILL) _ (by decide)

/-- The registers of a ring lie below those of the alarms. -/
theorem ne_ringKey (t : Fin 256) {f : Fld} (hu : f.unit = 24) (ho : f.off < 0x1020) (hs : f.stride = 32) :
    ∀ i < 8, (Rf.EVT_ALARM_KINDS.at i).key ≠ (f.at t.val).key := by
  intro i _
  have := t.isLt
  simp only [Fld.key, Fld.at, Rf.EVT_ALARM_KINDS, hu, hs]
  omega

theorem ringLose (h : AlarmsKept s m) (t : Fin 256) : AlarmsKept s (ringLose m t) :=
  of_die (h.addFld 0 (f := Rf.EVT_RING_LOST_LOST.at t.val) 1 (ne_ringKey t rfl (by decide) rfl)) rfl

theorem ringWrite (h : AlarmsKept s m) (t : Fin 256) (r : Rec) : AlarmsKept s (ringWrite m t r) := by
  unfold Machine.ringWrite
  refine .guarded (h.ringLose t) (AlarmsKept.setFld (of_die (AlarmsKept.guarded ?_ ?_) rfl) 0
    (f := Rf.EVT_RING_PROD_PROD.at t.val) _ (ne_ringKey t rfl (by decide) rfl))
  · exact h.dramWork ((DramWork.refl m).dramStore ..)
  · exact of_die h rfl

theorem deliver (h : AlarmsKept s m) (r : Rec) : AlarmsKept s (deliver m r) :=
  overAll_keeps (AlarmsKept s) _ (fun _ t hn => hn.ringWrite t r) m _ h

theorem holdRecord (h : AlarmsKept s m) (r : Rec) : AlarmsKept s (holdRecord m r) := by
  unfold Machine.holdRecord
  exact .guarded ((h.addFld 0 (f := Rf.EVT_LATE_LATE) 1 (by decide)).deliver r) (of_die h rfl)

end AlarmsKept

/-- A bit that is set reads 1. -/
theorem bit_setBit (n i : Nat) : bit (setBit n i) i = true := by
  unfold setBit
  split
  · assumption
  · next h =>
    have hp : 0 < 2 ^ i := by positivity
    have hb : n / 2 ^ i % 2 ≠ 1 := by simpa [bit] using h
    rw [bit, Nat.add_div_right _ hp, beq_iff_eq]
    omega

theorem bit_mod_two_pow {n i w : Nat} (h : i < w) : bit (n % 2 ^ w) i = bit n i := by
  rw [bit_eq_testBit, bit_eq_testBit, Nat.testBit_mod_two_pow]
  simp [h]

/-- A vector that is signalled changes the message memory and its pending bit only. -/
theorem die_signalVector (s : Chip) (v : Nat) : (signalVector s v).die = s.die := by
  unfold signalVector sendVector
  split <;> rfl

/-- The alarm of a kind that is latched is set. -/
theorem alarm_latchAlarm (s : Chip) (k : Nat) :
    bit ((latchAlarm s k).fld 0 (Rf.EVT_ALARM_KINDS.at (k / 32))) (k % 32) = true := by
  unfold latchAlarm
  dsimp only
  split
  · assumption
  · rw [Chip.fld_of_die (die_signalVector ..), Chip.fld_setFld_same _ _ _ _ (by simp [Fld.at, Rf.EVT_ALARM_KINDS])]
    rw [bit_mod_two_pow (by simp only [Fld.at, Rf.EVT_ALARM_KINDS]; omega)]
    exact bit_setBit ..

/-- A record of a kind of class D that arrives leaves its alarm set. -/
theorem alarm_arriveRecord {s : Chip} {r : Rec} (hk : r.kind ≠ K.STIM) (hc : kindClass r.kind = .d)
    (hlt : r.kind < 256) :
    bit ((arriveRecord s r).fld 0 (Rf.EVT_ALARM_KINDS.at (r.kind / 32))) (r.kind % 32) = true := by
  have hkept : AlarmsKept (latchAlarm s r.kind) (arriveRecord s r) := by
    rw [arriveRecord, if_neg hk, if_pos hc]
    have h0 : AlarmsKept (latchAlarm s r.kind) (latchAlarm s r.kind) := fun _ _ => rfl
    have h1 := AlarmsKept.guarded (p := kindLogged r.kind = true) (h0.logRecord r) h0
    have h2 (p : Prop) [Decidable p] := AlarmsKept.guarded (p := p) (h1.traceRec r) h1
    exact .guarded (h2 _) ((h2 _).holdRecord r)
  rw [Chip.fld, hkept _ (by omega)]
  exact alarm_latchAlarm s r.kind

/-! ### The order of R80 -/

theorem recBefore_iff (a b : Rec) :
    recBefore a b = true ↔ a.time.toNat < b.time.toNat ∨ a.time.toNat = b.time.toNat ∧ a.src < b.src := by
  simp [recBefore, BitVec.toNat_inj]

/-- A record held keeps the order: it stands behind every record that it does not come before. -/
theorem pairwise_mergeIn (r : Rec) {qs : List Rec} (h : qs.Pairwise fun a b => recBefore b a = false) :
    (mergeIn r qs).Pairwise fun a b => recBefore b a = false := by
  have hmem : ∀ {l : List Rec} {x : Rec}, x ∈ mergeIn r l → x = r ∨ x ∈ l := by
    intro l x hx
    induction l with
    | nil => simpa [mergeIn] using hx
    | cons q l ih =>
      rw [mergeIn] at hx
      split at hx
      · simpa using hx
      · rcases List.mem_cons.1 hx with rfl | hx
        · simp
        · rcases ih hx with rfl | hx
          · simp
          · simp [hx]
  induction qs with
  | nil => simp [mergeIn]
  | cons q qs ih =>
    obtain ⟨hq, hqs⟩ := List.pairwise_cons.1 h
    rw [mergeIn]
    split
    next hb =>
      refine List.pairwise_cons.2 ⟨fun b hmem' => ?_, h⟩
      rw [recBefore_iff] at hb
      rw [Bool.eq_false_iff, ne_eq, recBefore_iff]
      rcases List.mem_cons.1 hmem' with rfl | hmem'
      · omega
      · have hbq := hq b hmem'
        rw [Bool.eq_false_iff, ne_eq, recBefore_iff] at hbq
        omega
    next hb =>
      refine List.pairwise_cons.2 ⟨fun b hb' => ?_, ih hqs⟩
      rcases hmem hb' with rfl | hb'
      · simpa using hb
      · exact hq b hb'

/-! ### The bytes of a record in host memory (R78) -/

theorem length_leBytes (n v : Nat) : (leBytes n v).length = n := by
  induction n generalizing v with
  | zero => rfl
  | succ n ih => rw [leBytes, List.length_cons, ih]

/-- Byte `i` of a little-endian number. -/
theorem getElem_leBytes (n v : Nat) {i : Nat} (h : i < (leBytes n v).length) :
    (leBytes n v)[i] = BitVec.ofNat 8 (v / 2 ^ (8 * i)) := by
  induction n generalizing v i with
  | zero => simp [leBytes] at h
  | succ n ih =>
    cases i with
    | zero => simp [leBytes]
    | succ i =>
      have h256 : 2 ^ (8 * (i + 1)) = 256 * 2 ^ (8 * i) := by rw [Nat.mul_add, pow_add, Nat.mul_comm]; rfl
      simp only [leBytes, List.getElem_cons_succ]
      rw [ih, Nat.div_div_eq_div_mul, h256]

/-- A byte of host memory below the bytes written reads as before. -/
theorem mapGet_hostPut_lt (m : SMap (Option Byte)) {a j : Nat} (bs : List Byte) (hj : j < a)
    (hb : a + bs.length ≤ 2 ^ 64) : mapGet (fun _ => none) (hostPut m a bs) j = mapGet (fun _ => none) m j := by
  induction bs generalizing m a with
  | nil => rfl
  | cons b bs ih =>
    simp only [List.length_cons] at hb
    rw [hostPut, ih _ (by omega) (by omega), mapGet_mapPut_ne _ _ _ (by omega)]

/-- A byte of host memory that has been written reads what was written. -/
theorem mapGet_hostPut (m : SMap (Option Byte)) (a : Nat) (bs : List Byte) (hb : a + bs.length ≤ 2 ^ 64) {i : Nat}
    (hi : i < bs.length) : mapGet (fun _ => none) (hostPut m a bs) (a + i) = some bs[i] := by
  induction bs generalizing m a i with
  | nil => simp at hi
  | cons b bs ih =>
    simp only [List.length_cons] at hb hi
    rw [hostPut]
    cases i with
    | zero =>
      rw [mapGet_hostPut_lt _ _ (by omega) (by omega), Nat.mod_eq_of_lt (by omega)]
      exact mapGet_mapPut_same ..
    | succ i =>
      rw [show a + (i + 1) = a + 1 + i by omega, ih _ _ (by omega) (by omega)]
      rfl

/-! ### Release into a ring (R81, R85) -/

theorem ringOvf_setOvf (s : Chip) (t : Fin 256) (b : Bool) : ringOvf (setOvf s t b) t = b := by
  simp [ringOvf, setOvf]

theorem ringOvf_setFld (s : Chip) (t : Fin 256) (d : Fin 4) (f : Fld) (v : Nat) :
    ringOvf (s.setFld d f v) t = ringOvf s t := by rw [ringOvf, Chip.overflowed_setFld, ringOvf]

theorem hostMem_setOvf (s : Chip) (t : Fin 256) (b : Bool) : (setOvf s t b).hostMem = s.hostMem := by
  simp only [setOvf]

theorem hostMem_hostWrite (s : Chip) (a : Nat) (bs : List Byte) :
    (s.hostWrite a bs).hostMem = hostPut s.hostMem a bs := by simp only [Chip.hostWrite]

/-- The distance of PROD and CONS is the size of the ring: it is full. -/
def ringFull (s : Chip) (t : Fin 256) : Prop :=
  (s.fld 0 (Rf.EVT_RING_PROD_PROD.at t.val) + 2 ^ 32 - s.fld 0 (Rf.EVT_RING_CONS_CONS.at t.val)) % 2 ^ 32 =
    2 ^ s.fld 0 (Rf.EVT_RING_CTL_LOG2SIZE.at t.val)

/-- A record for a ring that is disabled or full is discarded. -/
theorem ringWrite_lost {s : Chip} {t : Fin 256} (r : Rec)
    (h : s.fld 0 (Rf.EVT_RING_CTL_ENABLE.at t.val) = 0 ∨ ringFull s t) : ringWrite s t r = ringLose s t := by
  refine if_pos ?_
  rcases h with h | h
  · simp [Chip.flag, h]
  · rw [Bool.or_eq_true, Bool.or_eq_true, beq_iff_eq]
    exact .inl (.inr h)

/-- The address in host memory at which a ring of 16-byte records takes its next one. -/
def ringAddr (s : Chip) (t : Fin 256) : Nat :=
  s.fld64 0 (Rf.EVT_RING_BASE_LO_BASE.at t.val) (Rf.EVT_RING_BASE_HI_BASE.at t.val) +
    s.fld 0 (Rf.EVT_RING_PROD_PROD.at t.val) % 2 ^ s.fld 0 (Rf.EVT_RING_CTL_LOG2SIZE.at t.val) * 16

/-- A record for a ring with room in host memory is written at PROD, which advances. -/
theorem ringWrite_host {s : Chip} {t : Fin 256} (r : Rec) (hen : s.fld 0 (Rf.EVT_RING_CTL_ENABLE.at t.val) = 1)
    (hroom : ¬ ringFull s t) (htgt : s.fld 0 (Rf.EVT_RING_CTL_TARGET.at t.val) = 0) (hg2 : compatFor s t 1 = false) :
    ringWrite s t r = (setOvf (s.hostWrite (ringAddr s t) (leBytes 16 (recNum r (ringOvf s t)))) t false).setFld 0
      (Rf.EVT_RING_PROD_PROD.at t.val) (s.fld 0 (Rf.EVT_RING_PROD_PROD.at t.val) + 1) := by
  have hfull : ((s.fld 0 (Rf.EVT_RING_PROD_PROD.at t.val) + 2 ^ 32 - s.fld 0 (Rf.EVT_RING_CONS_CONS.at t.val)) % 2 ^ 32 ==
      2 ^ s.fld 0 (Rf.EVT_RING_CTL_LOG2SIZE.at t.val)) = false := beq_eq_false_iff_ne.2 hroom
  have hon : s.flag 0 (Rf.EVT_RING_CTL_ENABLE.at t.val) = true := by simp [Chip.flag, hen]
  have hhost : s.flag 0 (Rf.EVT_RING_CTL_TARGET.at t.val) = false := by simp [Chip.flag, htgt]
  rw [ringWrite, hon, hhost, hg2, hfull]
  rfl

/-- An entry of a ring of at most 2^16 records lies below 2^64 when its memory does. -/
theorem ringAddr_lt {s : Chip} {t : Fin 256}
    (hbase : s.fld64 0 (Rf.EVT_RING_BASE_LO_BASE.at t.val) (Rf.EVT_RING_BASE_HI_BASE.at t.val) + 16 * 2 ^ 16 < 2 ^ 64)
    (hlog : s.fld 0 (Rf.EVT_RING_CTL_LOG2SIZE.at t.val) ≤ 16) : ringAddr s t + 16 ≤ 2 ^ 64 := by
  have hp : s.fld 0 (Rf.EVT_RING_PROD_PROD.at t.val) % 2 ^ s.fld 0 (Rf.EVT_RING_CTL_LOG2SIZE.at t.val) < 2 ^ 16 :=
    lt_of_lt_of_le (Nat.mod_lt _ (by positivity)) (Nat.pow_le_pow_right (by decide) hlog)
  unfold ringAddr
  omega

end Sys2Proof.Machine

namespace Sys2Proof.Says

open Sys2Proof.Machine

/-- A record of a plain kind that arrives in time is held. -/
theorem arriveRecord_held {s : Chip} {r : Rec} (hk : r.kind ≠ K.STIM) (hc : kindClass r.kind ≠ .d)
    (hl : kindLogged r.kind = false) (ht : traced s r = false) (hr : ringsOf r ≠ [])
    (hage : (s.now 0 - r.time).toNat ≤ s.fld 0 Rf.EVT_MERGE_W) :
    arriveRecord s r = { s with merge := mergeIn r s.merge } := by
  simp only [arriveRecord, if_neg hk, if_neg hc, hl, ht, if_neg hr, Bool.false_eq_true, if_false]
  exact if_neg fun h => Nat.not_lt.2 hage h.1

/-- The oldest record of a die reaches die 0. -/
theorem eventRecord_oldest {s : Chip} {d : Fin 4} {r : Rec} {rs : List Rec} (hal : alive s = true)
    (hd : d = 0 ∨ reaches s d 0 = true) (hfly : (s.d d).fly = r :: rs) :
    eventRecord d s = arriveRecord (s.upd d fun x => { x with fly := rs }) r := by
  rw [eventRecord, if_neg (by simpa [hal, or_iff_not_imp_left] using hd), hfly]

/-- The first record held that has waited long enough is written into its one ring. -/
theorem mergeRelease_first {s : Chip} {r : Rec} {rs : List Rec} {t : Fin 256} (hal : alive s = true)
    (hm : s.merge = r :: rs)
    (hw : reached s 0 (r.time + BitVec.ofNat 64 (s.fld 0 Rf.EVT_MERGE_W)) = true) (ht : ringsOf r = [t]) :
    mergeRelease s = ringWrite { s with merge := rs } t r := by
  rw [mergeRelease, hm]
  dsimp only
  rw [hal, hw, if_pos (by rfl), deliver, ht, overAll, overAll]

/-- What a release into a ring with room leaves. -/
theorem released_ringWrite {s : Chip} {r : Rec} {t : Fin 256}
    (hen : s.fld 0 (Rf.EVT_RING_CTL_ENABLE.at t.val) = 1) (hroom : ¬ ringFull s t)
    (htgt : s.fld 0 (Rf.EVT_RING_CTL_TARGET.at t.val) = 0) (hg2 : compatFor s t 1 = false)
    (hbase : s.fld64 0 (Rf.EVT_RING_BASE_LO_BASE.at t.val) (Rf.EVT_RING_BASE_HI_BASE.at t.val) + 16 * 2 ^ 16 < 2 ^ 64)
    (hlog : s.fld 0 (Rf.EVT_RING_CTL_LOG2SIZE.at t.val) ≤ 16) :
    (ringWrite s t r).fld 0 (Rf.EVT_RING_PROD_PROD.at t.val) = (s.fld 0 (Rf.EVT_RING_PROD_PROD.at t.val) + 1) % 2 ^ 32 ∧
      (ringWrite s t r).merge = s.merge ∧ ringOvf (ringWrite s t r) t = false ∧
      ∀ i < 16, mapGet (fun _ => none) (ringWrite s t r).hostMem (ringAddr s t + i) =
        some (BitVec.ofNat 8 (recNum r (ringOvf s t) / 2 ^ (8 * i))) := by
  rw [ringWrite_host r hen hroom htgt hg2, Chip.merge_setFld, Chip.hostMem_setFld, ringOvf_setFld, ringOvf_setOvf,
    hostMem_setOvf, hostMem_hostWrite]
  have hlen := length_leBytes 16 (recNum r (ringOvf s t))
  refine ⟨Chip.fld_setFld_same _ 0 (Rf.EVT_RING_PROD_PROD.at t.val) _ (by simp [Fld.at, Rf.EVT_RING_PROD_PROD]),
    by simp only [setOvf, Chip.hostWrite], rfl, fun i hi => ?_⟩
  rw [mapGet_hostPut _ _ _ (by rw [hlen]; exact ringAddr_lt hbase hlog) (by rw [hlen]; exact hi), getElem_leBytes]

/-- Settles O17: a record arrives in order or latches its alarm, the order is kept, and a release writes or counts. -/
theorem recordsTravelInOrderToTheirRing : Obligations.RecordsTravelInOrderToTheirRing := by
  unfold Obligations.RecordsTravelInOrderToTheirRing
  refine ⟨fun d r rs s hal hd hfly hk => ⟨fun hc hl ht hr hage => ?_, fun hc hlt => ?_⟩,
    fun r qs h => pairwise_mergeIn r h,
    fun r rs t s hal hm hw ht => ⟨fun h => ?_, fun hen hroom htgt hg2 hbase hlog => ?_⟩⟩
  · have hreg (e : Fin 4) (j : Nat) : (s.chip.upd d fun x => { x with fly := rs }).reg e j = s.chip.reg e j :=
      Chip.reg_upd _ _ _ _ _ fun _ => rfl
    have hnow : (s.chip.upd d fun x => { x with fly := rs }).now 0 = s.chip.now 0 := by
      rw [Chip.now, Chip.d_upd]
      split
      · next h => rw [← h]; rfl
      · rfl
    refine .of_effect rfl ((eventRecord_oldest hal hd hfly).trans (arriveRecord_held hk hc hl ?_ hr ?_))
    · simpa only [traced, Chip.fld, hreg] using ht
    · simpa only [Chip.fld, hreg, hnow] using hage
  · exact .of_effect rfl (eventRecord_oldest hal hd hfly) (alarm_arriveRecord hk hc hlt)
  · exact .of_effect rfl ((mergeRelease_first hal hm hw ht).trans (ringWrite_lost r h))
  · obtain ⟨hprod, hmerge, hovf, hmem⟩ :=
      released_ringWrite (s := { s.chip with merge := rs }) (r := r) hen hroom htgt hg2 hbase hlog
    exact .of_effect rfl (mergeRelease_first hal hm hw ht) ⟨hprod, hmerge, hovf, hmem⟩

end Sys2Proof.Says
end

section
/-! What the work of the units leaves alone on every die: its time base, its tick, its Yoke and the register that says
where the tick program enters. One frame lemma for each function of the model, in the simp set: each follows from the
updates that the function makes, once its branches are split. -/

namespace Sys2Proof.Machine

/-- The time base, the tick and the Yoke of a die, and its YOKE.CTL. -/
def DieSt.timing (x : DieSt) : TimeBase × TickSt × YokeSt × Word :=
  (x.tb, x.tick, x.yoke, mapGet regReset x.regs Rf.YOKE_CTL_ENTRY.key)

/-- The same of all four dies. -/
def timing (q : Quad DieSt) (e : Fin 4) : TimeBase × TickSt × YokeSt × Word := (q.get e).timing

section
variable {s k : Chip} (h : timing k.die = timing s.die) (e : Fin 4)
include h

theorem tb_of_timing : (k.d e).tb = (s.d e).tb := congrArg (fun p => (p e).1) h
theorem tick_of_timing : (k.d e).tick = (s.d e).tick := congrArg (fun p => (p e).2.1) h
theorem yoke_of_timing : (k.d e).yoke = (s.d e).yoke := congrArg (fun p => (p e).2.2.1) h
theorem entry_of_timing : k.fld e Rf.YOKE_CTL_ENTRY = s.fld e Rf.YOKE_CTL_ENTRY :=
  congrArg (fun p : Fin 4 → _ × _ × _ × Word => getBits (p e).2.2.2 Rf.YOKE_CTL_ENTRY.lo Rf.YOKE_CTL_ENTRY.w) h

end

section
variable (s : Chip) (d : Fin 4)

/-! ### Updates -/

/-- A change of a die that leaves these alone. -/
theorem timing_upd {f : DieSt → DieSt} (h : ∀ x, (f x).timing = x.timing) : timing (s.upd d f).die = timing s.die := by
  funext e
  have hd := Chip.d_upd s d e f
  rw [Chip.d, Chip.d] at hd
  rw [timing, hd]
  split
  · subst e; exact h _
  · rfl

/-- A change of every die that leaves these alone. -/
theorem timing_map (q : Quad DieSt) {f : DieSt → DieSt} (h : ∀ x, (f x).timing = x.timing) :
    timing (q.map f) = timing q := by
  funext e
  rw [timing, Quad.get_map]
  exact h _

theorem timing_setReg {j : Nat} (v : Word) (h : j ≠ Rf.YOKE_CTL_ENTRY.key) :
    timing (s.setReg d j v).die = timing s.die :=
  timing_upd s d fun x => by
    simp only [DieSt.timing, mapGet_mapPut_ne _ _ _ h.symm]

/-- Every register that this work stores lies above YOKE.CTL. -/
@[simp] theorem timing_setFld {f : Fld} (v : Nat) (h : Rf.YOKE_CTL_ENTRY.key < f.key) :
    timing (s.setFld d f v).die = timing s.die := timing_setReg s d _ (Nat.ne_of_gt h)

@[simp] theorem timing_addFld {f : Fld} (n : Nat) (h : Rf.YOKE_CTL_ENTRY.key < f.key) :
    timing (s.addFld d f n).die = timing s.die := timing_setFld s d _ h

theorem lt_key_at {f : Fld} {b : Nat} (i : Nat) (h : b < f.key) : b < (f.at i).key :=
  lt_of_lt_of_le h (by simp only [Fld.key, Fld.at]; omega)

@[simp] theorem timing_setFld_at {f : Fld} (i v : Nat) (h : Rf.YOKE_CTL_ENTRY.key < f.key) :
    timing (s.setFld d (f.at i) v).die = timing s.die := timing_setFld s d _ (lt_key_at i h)

@[simp] theorem timing_addFld_at {f : Fld} (i n : Nat) (h : Rf.YOKE_CTL_ENTRY.key < f.key) :
    timing (s.addFld d (f.at i) n).die = timing s.die := timing_addFld s d _ (lt_key_at i h)

@[simp] theorem timing_ite (p : Prop) [Decidable p] (a b : Chip) :
    timing (if p then a else b).die = if p then timing a.die else timing b.die := by
  split <;> rfl

@[simp] theorem timing_ite_fst {α : Type} (p : Prop) [Decidable p] (a b : Chip × α) :
    timing (if p then a else b).1.die = if p then timing a.1.die else timing b.1.die := by
  split <;> rfl

/-- What every element of a list does leaves these alone when each does. -/
theorem timing_overAll {α : Type} {f : Chip → α → Chip} (l : List α)
    (h : ∀ m a, timing (f m a).die = timing m.die) : timing (overAll f s l).die = timing s.die :=
  overAll_keeps (fun m => timing m.die = timing s.die) f (fun m a hm => (h m a).trans hm) s l rfl

@[simp] theorem timing_onLedger (f : LedgerSt → LedgerSt) : timing (s.onLedger d f).die = timing s.die :=
  timing_upd s d fun _ => rfl
@[simp] theorem timing_onBaste (f : BasteSt → BasteSt) : timing (s.onBaste d f).die = timing s.die :=
  timing_upd s d fun _ => rfl
@[simp] theorem timing_onPleat (f : PleatSt → PleatSt) : timing (s.onPleat d f).die = timing s.die :=
  timing_upd s d fun _ => rfl
@[simp] theorem timing_onDarner (f : DarnerSt → DarnerSt) : timing (s.onDarner d f).die = timing s.die :=
  timing_upd s d fun _ => rfl
@[simp] theorem timing_onWdog (f : WdogSt → WdogSt) : timing (s.onWdog d f).die = timing s.die :=
  timing_upd s d fun _ => rfl
@[simp] theorem timing_setFlow (f : Nat) (x : FlowSt) : timing (s.setFlow d f x).die = timing s.die :=
  timing_upd s d fun _ => rfl
@[simp] theorem timing_setInst (i : Nat) (x : Option RInst) : timing (s.setInst d i x).die = timing s.die :=
  timing_upd s d fun _ => rfl
@[simp] theorem timing_setCap (c : Nat) (x : Option Capture) : timing (s.setCap d c x).die = timing s.die :=
  timing_upd s d fun _ => rfl
@[simp] theorem timing_setCluster (c : Nat) (x : Cluster) : timing (s.setCluster d c x).die = timing s.die :=
  timing_upd s d fun _ => rfl
@[simp] theorem timing_setLink (n : Nat) (x : LinkSt) : timing (s.setLink d n x).die = timing s.die :=
  timing_upd s d fun _ => rfl
@[simp] theorem timing_setBankTo (k v : Nat) : timing (setBankTo s d k v).die = timing s.die :=
  timing_upd s d fun _ => rfl
@[simp] theorem timing_touchBank (k : Nat) : timing (touchBank s d k).die = timing s.die :=
  timing_upd s d fun _ => rfl
@[simp] theorem timing_markHandlers (t : Fin 256) : timing (markHandlers s d t).die = timing s.die :=
  timing_upd s d fun _ => rfl
@[simp] theorem timing_releaseRecs (p : Fin 256 → Bool) : timing (releaseRecs s d p).die = timing s.die :=
  timing_upd s d fun _ => rfl
@[simp] theorem timing_countCycles : timing (countCycles s d).die = timing s.die :=
  timing_upd s d fun _ => rfl
@[simp] theorem timing_zeroKey : timing (zeroKey s).die = timing s.die := timing_upd s 0 fun _ => rfl
@[simp] theorem timing_stopEngines : timing (stopEngines s).die = timing s.die := timing_map _ fun _ => rfl

@[simp] theorem timing_setWord (m : Mem) (i : Nat) (w : MWord) : timing (s.setWord d m i w).die = timing s.die :=
  timing_upd s d fun _ => by cases m <;> rfl

@[simp] theorem timing_complete (t : Fin 256) (c : Compl) : timing (complete s t c).die = timing s.die := rfl
@[simp] theorem timing_openCmd (t : Fin 256) : timing (openCmd s t).die = timing s.die := rfl
@[simp] theorem timing_setPulses (k : Nat) (ps : List Pulse) : timing (setPulses s k ps).die = timing s.die := rfl

/-! ### Records -/

@[simp] theorem timing_countKind (k : Nat) : timing (countKind s k).die = timing s.die := by
  simp (disch := decide) [countKind]

@[simp] theorem timing_sendRec (r : Rec) : timing (sendRec s d r).die = timing s.die :=
  Eq.trans (timing_upd _ d fun _ => rfl) (timing_countKind ..)

@[simp] theorem timing_raise (src kind : Nat) (t : Fin 256) (pay : Nat) :
    timing (raise s d src kind t pay).die = timing s.die := timing_sendRec ..

@[simp] theorem timing_raiseHeld (src kind : Nat) (t : Fin 256) (pay : Nat) :
    timing (raiseHeld s d src kind t pay).die = timing s.die :=
  Eq.trans (timing_upd _ d fun _ => rfl) (timing_countKind ..)

@[simp] theorem timing_raiseB (src kind : Nat) (t : Fin 256) (pay : Nat) (b : Bool) :
    timing (raiseB s d src kind t pay b).die = timing s.die := by simp [raiseB]

@[simp] theorem timing_nogrant (t : Fin 256) (u off : Nat) (rd : Bool) :
    timing (nogrant s d t u off rd).die = timing s.die := timing_raise ..

@[simp] theorem timing_refusedWrite (t : Fin 256) (f : Fld) : timing (refusedWrite s d t f).die = timing s.die :=
  timing_nogrant ..

/-! ### The end of work -/

@[simp] theorem timing_tellItem (r : RanItem) (st : Nat) : timing (tellItem s d r st).die = timing s.die := by
  have h : timing (s.upd d fun y => { y with ran := y.ran.map fun q =>
      if q.id == r.id then { q with told := true } else q }).die = timing s.die := timing_upd s d fun _ => rfl
  unfold tellItem
  dsimp only
  split
  · exact (timing_complete ..).trans h
  · exact h

@[simp] theorem timing_tellPlain (id : Nat) : timing (tellPlain s d id).die = timing s.die := by
  unfold tellPlain
  split <;> simp

@[simp] theorem timing_endProgram (c : Nat) (killed : Bool) (st det : Nat) :
    timing (endProgram s d c killed st det).die = timing s.die := by
  unfold endProgram
  dsimp only
  split
  · split
    · simp
    · exact (timing_tellPlain ..).trans (Eq.trans (timing_upd _ d fun _ => rfl) (timing_setCluster ..))
  · rfl

@[simp] theorem timing_setPset (k : Nat) (x : PSet) : timing (s.setPset d k x).die = timing s.die := by
  simp (disch := decide) [Chip.setPset]

@[simp] theorem timing_discardSet (k : Nat) : timing (discardSet s d k).die = timing s.die := by simp [discardSet]

@[simp] theorem timing_endInst (i st : Nat) : timing (endInst s d i st).die = timing s.die := by
  unfold endInst
  split
  · rfl
  · rw [timing_complete]
    split <;> simp (disch := decide)

@[simp] theorem timing_endInstsOf (t : Fin 256) (st : Nat) : timing (endInstsOf s d t st).die = timing s.die :=
  timing_overAll _ _ fun m i => by
    split
    · simp
    · rfl

@[simp] theorem timing_markFaulted (t : Fin 256) : timing (markFaulted s t).die = timing s.die := by
  refine (timing_overAll _ _ fun m e => ?_).trans (timing_setFld_at _ _ _ _ (by decide))
  exact (timing_endInstsOf ..).trans (timing_overAll _ _ fun _ _ => timing_endProgram ..)

@[simp] theorem timing_raiseT (src kind : Nat) (t : Fin 256) (pay : Nat) (b : Bool) :
    timing (raiseT s d src kind t pay b).die = timing s.die := by simp [raiseT]

@[simp] theorem timing_accFault (src : Nat) (t : Fin 256) (addr : Nat) (b : Bool) :
    timing (accFault s d src t addr b).die = timing s.die := timing_raiseT ..

@[simp] theorem timing_absentFault (src : Nat) (t : Fin 256) (u feat : Nat) (a : Fin 4) (b : Bool) :
    timing (absentFault s d src t u feat a b).die = timing s.die := timing_raiseT ..

/-! ### Lane memories -/

@[simp] theorem timing_injectInto (m : Mem) (w : MWord) : timing (injectInto s d m w).1.die = timing s.die := by
  cases m <;> simp (disch := decide) [injectInto]

@[simp] theorem timing_storeWord (m : Mem) (i : Nat) (w : MWord) : timing (storeWord s d m i w).die = timing s.die := by
  simp [storeWord]

@[simp] theorem timing_rawWrite (m : Mem) (i mask : Nat) (q : Quadlane) :
    timing (rawWrite s d m i mask q).die = timing s.die := timing_storeWord ..

@[simp] theorem timing_baseHwm : timing (baseHwm s d).die = timing s.die := by
  simp (disch := decide) [baseHwm]

@[simp] theorem timing_bstall (t : Fin 256) (kind : Nat) : timing (bstall s d t kind).die = timing s.die := by
  simp (disch := decide) [bstall]

@[simp] theorem timing_takeShadow (m : Mem) (i mask : Nat) (q : Quadlane) (t : Fin 256) :
    timing (takeShadow s d m i mask q t).1.die = timing s.die := by simp [takeShadow]

@[simp] theorem timing_writeWord (m : Mem) (i mask : Nat) (q : Quadlane) (who : Writer) :
    timing (writeWord s d m i mask q who).1.die = timing s.die := by
  have shadow : timing (match (s.word d m i).shadow with
      | some sh => (s.setWord d m i { s.word d m i with shadow := some (shadowWrite m sh mask q), overwritten := true },
          WriteRes.done)
      | none => (rawWrite s d m i mask q, WriteRes.done)).1.die = timing s.die := by
    split <;> simp
  unfold writeWord
  dsimp only
  split
  case h_7 => exact shadow
  case h_8 =>
    split
    · rfl
    · split
      · simp
      · exact shadow
  all_goals simp

@[simp] theorem timing_wakeBank (k : Nat) : timing (wakeBank s d k).die = timing s.die := by
  unfold wakeBank
  simp (disch := decide) only [timing_setFld_at]
  exact Eq.trans (timing_upd _ d fun _ => rfl) (timing_touchBank ..)

@[simp] theorem timing_writeMem (m : Mem) (i mask : Nat) (q : Quadlane) (who : Writer) :
    timing (writeMem s d m i mask q who).1.die = timing s.die := by simp [writeMem]

@[simp] theorem timing_reachBank (i : Nat) : timing (reachBank s d i).die = timing s.die := by simp [reachBank]

@[simp] theorem timing_foundBadFrom (src : Nat) (m : Mem) (i k : Nat) :
    timing (foundBadFrom s d src m i k).die = timing s.die := by
  cases m <;> simp (disch := decide) [foundBadFrom, poisonWord]

@[simp] theorem timing_corrLaneFrom (src : Nat) (m : Mem) (i k : Nat) (w : MWord) :
    timing (corrLaneFrom s d src m i k w).die = timing s.die := by
  cases m <;> simp (disch := decide) [corrLaneFrom]

@[simp] theorem timing_readPhys (m : Mem) (i mask : Nat) : timing (readPhys s d m i mask).1.die = timing s.die := by
  unfold readPhys
  dsimp only
  split
  · rfl
  · split
    · exact timing_setWord ..
    · split
      · exact timing_foundBadFrom ..
      · exact timing_overAll _ _ fun _ _ => timing_corrLaneFrom ..

@[simp] theorem timing_physRes (r : Chip × Option Quadlane) (b : Bool) : timing (physRes r b).1.die = timing r.1.die := by
  unfold physRes
  split <;> rfl

@[simp] theorem timing_readWord (m : Mem) (i mask : Nat) (r : Reader) :
    timing (readWord s d m i mask r).1.die = timing s.die := by
  unfold readWord
  dsimp only
  split
  case h_10 =>
    split
    · simp
    · rfl
  all_goals simp

@[simp] theorem timing_readMem (m : Mem) (i mask : Nat) (r : Reader) :
    timing (readMem s d m i mask r).1.die = timing s.die := by simp [readMem]

@[simp] theorem timing_moveBank (k v : Nat) : timing (moveBank s d k v).die = timing s.die := by
  simp (disch := decide) [moveBank]

@[simp] theorem timing_releaseBanks : timing (releaseBanks s d).die = timing s.die :=
  timing_overAll _ _ fun _ _ => by simp

@[simp] theorem timing_eachWord (f : MWord → MWord) : timing (eachWord s d f).die = timing s.die :=
  timing_overAll _ _ fun _ m => timing_upd _ d fun _ => by cases m <;> rfl

/-! ### DRAM -/

/-- A request to DRAM leaves these alone. -/
theorem DramWork.timing {k : Chip} (h : DramWork s k) : timing k.die = timing s.die := by
  funext e
  have hd := h.die e
  have hr : k.reg e Rf.YOKE_CTL_ENTRY.key = s.reg e Rf.YOKE_CTL_ENTRY.key := by
    refine h.reg_of_notDram e (.inl (by decide)) ?_
    rintro ⟨-, n, hn⟩
    simp only [Fld.key, Fld.at, Rf.YOKE_CTL_ENTRY, Rf.EVT_KCOUNT_COUNT] at hn
    omega
  have htb : (k.d e).tb = (s.d e).tb := (congrArg DieSt.tb hd :)
  have htick : (k.d e).tick = (s.d e).tick := (congrArg DieSt.tick hd :)
  have hyoke : (k.d e).yoke = (s.d e).yoke := (congrArg DieSt.yoke hd :)
  exact congrArg₂ Prod.mk htb (congrArg₂ Prod.mk htick (congrArg₂ Prod.mk hyoke hr))

@[simp] theorem timing_dramStore (off : Nat) (bs : List (Option Byte)) :
    timing (dramStore s d off bs).die = timing s.die := ((DramWork.refl s).dramStore ..).timing

@[simp] theorem timing_engineRead (addr n : Nat) : timing (engineRead s d addr n).1.die = timing s.die := by
  have h (e : Fin 4) (off : Nat) : timing (dramFetch s e off n).1.die = timing s.die :=
    ((DramWork.refl s).dramFetch ..).timing
  simp [engineRead, h]

/-! ### The ledger -/

@[simp] theorem timing_setBal (t : Fin 256) (v : Int) : timing (setBal s d t v).die = timing s.die :=
  timing_onLedger ..

@[simp] theorem timing_exhaust (t : Fin 256) : timing (exhaust s d t).die = timing s.die := by
  simp (disch := decide) [exhaust]

@[simp] theorem timing_reserve (t : Fin 256) (x : Nat) : timing (reserve s d t x).1.die = timing s.die := by
  unfold reserve
  split <;> simp

@[simp] theorem timing_drawReserve (t : Fin 256) (x : Nat) : timing (drawReserve s d t x).1.die = timing s.die := by
  unfold drawReserve
  dsimp only
  split <;> simp

@[simp] theorem timing_dispReserve (t : Fin 256) (x : Nat) : timing (dispReserve s d t x).1.die = timing s.die := by
  unfold dispReserve
  dsimp only
  split <;> simp

@[simp] theorem timing_deferEvent (t : Fin 256) (cid reason : Nat) :
    timing (deferEvent s d t cid reason).die = timing s.die := timing_raise ..

@[simp] theorem timing_chargeTenant (dyn cycles : Nat) (t : Fin 256) :
    timing (chargeTenant s d dyn cycles t).1.die = timing s.die := by
  simp (disch := decide) [chargeTenant]

@[simp] theorem timing_chargeAll (dyn cycles : Nat) (ts : List (Fin 256)) :
    timing (chargeAll s d dyn cycles ts).1.die = timing s.die := by
  induction ts generalizing s with
  | nil => rfl
  | cons t ts ih => exact (ih _).trans (timing_chargeTenant ..)

@[simp] theorem timing_reconcile : timing (reconcile s d).die = timing s.die := by
  simp (disch := decide) [reconcile]

@[simp] theorem timing_sendTotal : timing (sendTotal s d).die = timing s.die := timing_onLedger ..

@[simp] theorem timing_ledgerTickStart : timing (ledgerTickStart s d).die = timing s.die := by
  unfold ledgerTickStart
  refine Eq.trans (timing_upd _ d fun _ => rfl) ?_
  rw [timing_onLedger, timing_sendTotal]
  exact timing_overAll _ _ fun _ _ => by simp

@[simp] theorem timing_epochTenant (t : Fin 256) : timing (epochTenant s d t).die = timing s.die := by
  simp (disch := decide) [epochTenant]

@[simp] theorem timing_epochDie (first : Bool) : timing (epochDie s d first).die = timing s.die := by
  have h : timing (overAll (fun s t => epochTenant s d t) (s.onLedger d fun l => { l with told := [], epochRes := 0 })
      (ledgerTenants (s.onLedger d fun l => { l with told := [], epochRes := 0 }) d)).die = timing s.die :=
    (timing_overAll _ _ fun _ _ => timing_epochTenant ..).trans (timing_onLedger ..)
  unfold epochDie
  dsimp only
  split <;> simp (disch := decide) [h]

@[simp] theorem timing_epochAdvance (n : Nat) : timing (epochAdvance s n).die = timing s.die := by
  simp (disch := decide) [epochAdvance]

@[simp] theorem timing_epochTickStart : timing (epochTickStart s d).die = timing s.die := by
  simp [epochTickStart]

@[simp] theorem timing_setReserve (on : Bool) : timing (setReserve s on).die = timing s.die := by
  have h : timing (overAll (fun s d => s.setFld d Rf.LEDGER_STAT_RESERVE (b2n on)) s dies).die = timing s.die :=
    timing_overAll _ _ fun _ _ => timing_setFld _ _ _ (by decide)
  simp [setReserve, h]

@[simp] theorem timing_reserveAtTick : timing (reserveAtTick s).die = timing s.die := timing_setReserve ..

@[simp] theorem timing_sendCaps : timing (sendCaps s).die = timing s.die :=
  timing_overAll _ _ fun _ _ => timing_onLedger ..

@[simp] theorem timing_capsFor (n : BitVec 48) (skip : Bool) : timing (capsFor s n skip).die = timing s.die := by
  simp [capsFor]

/-! ### Sets and captures -/

@[simp] theorem timing_commitNow (k : Nat) : timing (commitNow s d k).die = timing s.die := by
  simp (disch := decide) [commitNow]

@[simp] theorem timing_commitSet (k : Nat) : timing (commitSet s d k).die = timing s.die := by simp [commitSet]

@[simp] theorem timing_caplate (ch : Nat) (c : Capture) (b : Bool) : timing (caplate s d ch c b).die = timing s.die :=
  timing_raise ..

@[simp] theorem timing_settlePlain (ch : Nat) (atA valid : Bool) : timing (settlePlain s d ch atA valid).die = timing s.die := by
  unfold settlePlain
  split
  · rfl
  · exact timing_overAll _ _ fun _ _ => by simp

@[simp] theorem timing_capturesAtA : timing (capturesAtA s d).die = timing s.die :=
  timing_overAll _ _ fun m ch => by
    split
    · rfl
    · split
      · rfl
      · dsimp only
        rw [timing_ite, timing_settlePlain]
        split
        · exact Eq.trans (timing_upd _ d fun _ => rfl) (by simp)
        · simp

@[simp] theorem timing_settleChan (ch : Nat) (b : Bool) : timing (settleChan s d ch b).die = timing s.die :=
  timing_overAll _ _ fun _ _ => by simp

@[simp] theorem timing_abandon (ch : Nat) (c : Capture) : timing (abandon s d ch c).die = timing s.die := by
  unfold abandon
  rw [timing_settleChan, timing_releaseBanks, timing_caplate]
  exact Eq.trans (timing_upd _ d fun _ => rfl) (timing_setCap ..)

@[simp] theorem timing_capturesAtStart : timing (capturesAtStart s d).die = timing s.die :=
  timing_overAll _ _ fun m ch => by
    split
    · simp
    · rfl

@[simp] theorem timing_descWord (w : Nat) : timing (descWord s d w).1.die = timing s.die := by
  unfold descWord
  dsimp only
  split <;> exact timing_readMem ..

/-- A check that answers without work, before work that leaves these alone. -/
theorem timing_check {α : Type} {p : Prop} [Decidable p] {r : α} {b : Chip × α} (h : timing b.1.die = timing s.die) :
    timing (if p then (s, r) else b).1.die = timing s.die := by
  split
  · rfl
  · exact h

@[simp] theorem timing_armCapture (la : Nat) (t : Fin 256) (f0 : Bool) :
    timing (armCapture s d la t f0).1.die = timing s.die := by
  unfold armCapture
  refine timing_check _ <| timing_check _ <| timing_check _ <| timing_check _ <| timing_check _ ?_
  extract_lets w off r0 r1 r2 r3
  have hr : timing r3.1.die = timing s.die := by simp [r3, r2, r1, r0]
  split
  · exact timing_overAll _ _ fun _ _ => timing_wakeBank ..
  · split
    · refine Eq.trans ?_ hr
      extract_lets k chan c
      split
      · rfl
      · refine timing_check _ <| timing_check _ ?_
        simp +zetaDelta (disch := decide)
    · exact hr

@[simp] theorem timing_armFor (lane : Nat) (t : Fin 256) (laser : Bool) :
    timing (armFor s d lane t laser).1.die = timing s.die := by simp [armFor]

@[simp] theorem timing_meterArm (r : RInst) : timing (meterArm s d r).die = timing s.die := by
  unfold meterArm
  extract_lets
  split
  · rfl
  · exact timing_setCap ..

@[simp] theorem timing_firePulse (k edge width : Nat) : timing (firePulse s k edge width).1.die = timing s.die := by
  unfold firePulse
  refine timing_check _ <| timing_check _ <| timing_check _ ?_
  exact timing_setPulses ..

@[simp] theorem timing_fireFor (D edge width : Nat) (t : Fin 256) :
    timing (fireFor s d D edge width t).1.die = timing s.die := by
  unfold fireFor
  simp

@[simp] theorem timing_dropPulses : timing (dropPulses s).die = timing s.die :=
  timing_overAll _ _ fun _ _ => timing_setPulses ..

@[simp] theorem timing_laserOff : timing (laserOff s).die = timing s.die := by
  unfold laserOff
  split
  · refine (timing_overAll _ _ fun m ch => ?_).trans (timing_setFld _ _ _ (by decide))
    split
    · split
      · exact timing_setCap ..
      · rfl
    · rfl
  · rfl

@[simp] theorem timing_disarmLaser : timing (disarmLaser s).die = timing s.die := by
  simp (disch := decide) [disarmLaser]

/-! ### Recipes -/

@[simp] theorem timing_instDid (i k : Nat) : timing (instDid s d i k).die = timing s.die := by
  unfold instDid
  split <;> simp

@[simp] theorem timing_putDesc (w : Nat) (vs : List Nat) : timing (putDesc s d w vs).1.die = timing s.die := by
  induction vs generalizing s w with
  | nil => rfl
  | cons v vs ih =>
    have hw := timing_writeMem s d .spad w 15 (BitVec.ofNat 56 v) .plain
    unfold putDesc
    dsimp only
    split
    · exact (ih ..).trans hw
    · exact hw

@[simp] theorem timing_instArm (r : RInst) : timing (instArm s d r).1.die = timing s.die := by
  unfold instArm
  split
  · rfl
  · dsimp only
    split <;> simp

@[simp] theorem timing_drawFor (t : Fin 256) (x : Nat) : timing (drawFor s d t x).1.die = timing s.die := by
  unfold drawFor
  refine timing_check _ <| timing_check _ ?_
  dsimp only
  split <;> simp

@[simp] theorem timing_instDraw (i : Nat) (r : RInst) : timing (instDraw s d i r).die = timing s.die := by
  have hq := timing_drawFor s d r.ten (r.w 15)
  unfold instDraw
  extract_lets q ok k
  have hk : timing k.die = timing s.die := by
    refine Eq.trans ?_ hq
    simp only [k]
    split
    · exact timing_setInst ..
    · rfl
  split
  · exact (timing_fireFor ..).trans hk
  · exact hk

@[simp] theorem timing_startCluster (it : WorkItem) (id : Nat) (handler : Option Nat) (pre : Bool) (c : Nat) :
    timing (startCluster s d it id handler pre c).die = timing s.die := timing_setCluster ..

@[simp] theorem timing_startItem (it : WorkItem) : timing (startItem s d it).die = timing s.die :=
  Eq.trans (timing_overAll _ _ fun _ _ => timing_startCluster ..) (timing_upd _ d fun _ => rfl)

@[simp] theorem timing_dispItem (it : WorkItem) (set cid : Nat) :
    timing (dispItem s d it set cid).1.die = timing s.die := by
  unfold dispItem
  split
  · rfl
  · refine timing_check _ ?_
    dsimp only
    split <;> simp

@[simp] theorem timing_instDisp (i : Nat) (r : RInst) : timing (instDisp s d i r).die = timing s.die := by
  simp [instDisp]

@[simp] theorem timing_instAct (i k : Nat) : timing (instAct s d i k).die = timing s.die := by
  unfold instAct
  split
  · rfl
  · dsimp only
    simp

@[simp] theorem timing_recipesAct : timing (recipesAct s d).die = timing s.die := by
  unfold recipesAct
  split
  · exact timing_overAll _ _ fun _ _ => timing_overAll _ _ fun _ _ => timing_instAct ..
  · rfl

@[simp] theorem timing_txreqWrite (f : Nat) (v : Word) : timing (txreqWrite s d f v).die = timing s.die :=
  timing_addFld_at _ _ _ _ (by decide)

@[simp] theorem timing_verdict (t : Fin 256) (stitch : Bool) : timing (verdict s d t stitch).1.die = timing s.die := by
  simp [verdict]

@[simp] theorem timing_instVerdict (r : RInst) : timing (instVerdict s d r).die = timing s.die := timing_verdict ..

@[simp] theorem timing_instAtA (i : Nat) : timing (instAtA s d i).die = timing s.die := by
  unfold instAtA
  split
  · rfl
  · split
    · rfl
    · rw [timing_instDid]
      split
      · exact timing_instVerdict ..
      · exact timing_instVerdict ..
      · exact timing_overAll _ _ fun _ _ => by simp
      · exact timing_verdict ..
      · rfl

@[simp] theorem timing_recipesAtA : timing (recipesAtA s d).die = timing s.die := by
  unfold recipesAtA
  split
  · rfl
  · exact timing_overAll _ _ fun _ _ => timing_instAtA ..

@[simp] theorem timing_flowReport (i : Nat) (r : RInst) : timing (flowReport s d i r).die = timing s.die := by
  simp [flowReport]

@[simp] theorem timing_instEnd (i : Nat) : timing (instEnd s d i).die = timing s.die := by
  unfold instEnd
  split <;> simp

@[simp] theorem timing_recipesEnd : timing (recipesEnd s d).die = timing s.die := by
  unfold recipesEnd
  split
  · rfl
  · exact timing_overAll _ _ fun _ _ => timing_instEnd ..

@[simp] theorem timing_enableSet (k : Nat) (v : Bool) : timing (enableSet s d k v).die = timing s.die := by
  simp (disch := decide) [enableSet]

@[simp] theorem timing_setDstTo (k a : Nat) : timing (setDstTo s d k a).die = timing s.die := by
  simp (disch := decide) [setDstTo]

@[simp] theorem timing_restartSet (k : Nat) : timing (restartSet s d k).die = timing s.die := by
  simp (disch := decide) [restartSet]

@[simp] theorem timing_setupSet (i : Nat) (r : RInst) : timing (setupSet s d i r).1.die = timing s.die := by
  unfold setupSet
  dsimp only
  split <;> simp (disch := decide)

@[simp] theorem timing_recapture : timing (recapture s).die = timing s.die := by
  simp (disch := decide) [recapture]

@[simp] theorem timing_psenseCtl (v : Word) : timing (psenseCtl s v).die = timing s.die := by
  simp (disch := decide) [psenseCtl]

@[simp] theorem timing_panelSetup (r : RInst) : timing (panelSetup s r).die = timing s.die := by
  simp (disch := decide) [panelSetup]

@[simp] theorem timing_disableFlow (f : Nat) : timing (disableFlow s d f).die = timing s.die := by
  simp (disch := decide) [disableFlow]

@[simp] theorem timing_flowCtlWrite (t : Fin 256) (f : Nat) (v : Word) :
    timing (flowCtlWrite s d t f v).die = timing s.die := by
  have hset (w : Word) : timing (s.setReg d (Rf.FLOW_CTL_EN.at f).key w).die = timing s.die :=
    timing_setReg _ _ _ (Nat.ne_of_gt (lt_key_at f (by decide)))
  unfold flowCtlWrite
  dsimp only
  split
  · split <;> simp
  · split
    · exact timing_refusedWrite ..
    · split
      · split <;> simp (disch := decide) [hset]
      · simp [hset]

@[simp] theorem timing_enableFlow (r : RInst) (f : Nat) : timing (enableFlow s d r f).die = timing s.die :=
  timing_flowCtlWrite ..

@[simp] theorem timing_enableFlows (r : RInst) (fs : List Nat) :
    timing (overAll (fun s f => enableFlow s d r f) s fs).die = timing s.die :=
  timing_overAll _ _ fun _ _ => timing_enableFlow ..

@[simp] theorem timing_instStep (i : Nat) (r : RInst) : timing (instStep s d i r).die = timing s.die := by
  unfold instStep
  split
  · simp
  · rfl

@[simp] theorem timing_instSetup (i : Nat) (r : RInst) (first : Bool) :
    timing (instSetup s d i r first).die = timing s.die := by
  unfold instSetup
  split
  · exact timing_enableFlows ..
  · dsimp only
    split <;> simp
  · exact timing_panelSetup ..
  · rfl
  · simp

@[simp] theorem timing_instTick (i : Nat) : timing (instTick s d i).die = timing s.die := by
  unfold instTick
  split
  · rfl
  · simp

@[simp] theorem timing_wdogReload : timing (wdogReload s d).die = timing s.die := timing_onWdog ..

@[simp] theorem timing_wdogServe (host : Bool) : timing (wdogServe s d host).die = timing s.die := by
  simp (disch := decide) [wdogServe]

@[simp] theorem timing_svcWdog : timing (svcWdog s d false).die = timing s.die := by simp [svcWdog]

@[simp] theorem timing_recipesTick : timing (recipesTick s d).die = timing s.die := by
  unfold recipesTick
  split
  · rfl
  · exact (timing_overAll _ _ fun _ _ => timing_instTick ..).trans (timing_svcWdog ..)

/-! ### Basting and its verdicts -/

theorem timing_withResolve (x : ResolveSt) : timing { s with resolve := x }.die = timing s.die := rfl

@[simp] theorem timing_basteStitchStart : timing (basteStitchStart s d).die = timing s.die := by
  simp [basteStitchStart]

@[simp] theorem timing_basteTickStart : timing (basteTickStart s d).die = timing s.die := by
  simp [basteTickStart]

@[simp] theorem timing_settleBuf (t : Fin 256) (stitch : Bool) : timing (settleBuf s d t stitch).die = timing s.die :=
  timing_onBaste ..

@[simp] theorem timing_stitchMem (t : Fin 256) : timing (stitchMem s d t).die = timing s.die := by
  unfold stitchMem
  refine (timing_overAll _ _ fun _ _ => by simp (disch := decide)).trans ?_
  exact Eq.trans (timing_upd _ d fun _ => rfl) (timing_eachWord ..)

@[simp] theorem timing_unpickMem (t : Fin 256) : timing (unpickMem s d t).die = timing s.die := by
  unfold unpickMem
  rw [timing_onBaste]
  refine Eq.trans (timing_upd _ d fun _ => rfl) ?_
  exact (timing_overAll _ _ fun _ _ => timing_setWord ..).trans (timing_eachWord ..)

@[simp] theorem timing_discardFrames (t : Fin 256) : timing (discardFrames s d t).die = timing s.die :=
  timing_overAll _ _ fun _ _ => by simp (disch := decide)

@[simp] theorem timing_readTemplate (n w : Nat) (acc : List Byte) :
    timing (readTemplate n s d w acc).1.die = timing s.die := by
  induction n generalizing s w acc with
  | zero => rfl
  | succ n ih =>
    have hr := timing_readMem s d .spad w 15 .outside
    unfold readTemplate
    dsimp only
    split
    · exact (ih ..).trans hr
    · exact hr
    · exact hr

@[simp] theorem timing_template (f : Nat) : timing (template s d f).1.die = timing s.die := by
  unfold template
  dsimp only
  split <;> exact timing_readTemplate ..

@[simp] theorem timing_poisonFault (m : Mem) (i k : Nat) (t : Fin 256) (b : Bool) :
    timing (poisonFault s d m i k t b).die = timing s.die := timing_raiseT ..

@[simp] theorem timing_abortFrame (f w : Nat) : timing (abortFrame s d f w).die = timing s.die := by
  simp [abortFrame]

@[simp] theorem timing_releaseFrames (t : Fin 256) : timing (releaseFrames s d t).die = timing s.die :=
  timing_overAll _ _ fun _ _ => by
    dsimp only
    split <;> simp

@[simp] theorem timing_settleSets (t : Fin 256) (stitch : Bool) : timing (settleSets s d t stitch).die = timing s.die := by
  unfold settleSets
  split
  · exact timing_overAll _ _ fun _ _ => by simp
  · rfl

@[simp] theorem timing_noteVerdict (v : Verdict) : timing (noteVerdict s d v).die = timing s.die := by
  unfold noteVerdict
  rw [timing_setFld_at _ _ _ _ (by decide), timing_setFld_at _ _ _ _ (by decide)]
  exact timing_upd _ d fun _ => rfl

@[simp] theorem timing_tellBasted (p : Fin 256 → Bool) (stitch : Bool) :
    timing (tellBasted s d p stitch).die = timing s.die :=
  timing_overAll _ _ fun _ _ => timing_tellItem ..

@[simp] theorem timing_applyVerdict (v : Verdict) : timing (applyVerdict s d v).die = timing s.die := by
  unfold applyVerdict
  cases v.stitch <;> simp

@[simp] theorem timing_applyRest (vs : List Verdict) : timing (applyRest s d vs).die = timing s.die := by
  unfold applyRest
  refine (timing_tellBasted ..).trans ?_
  split
  · refine timing_overAll _ _ fun _ _ => ?_
    dsimp only
    split <;> simp
  · rfl

@[simp] theorem timing_advanceProd (f : Nat) : timing (advanceProd s d f).die = timing s.die :=
  timing_setFld_at _ _ _ _ (by decide)

@[simp] theorem timing_writeStored (e : SfEnt) : timing (writeStored s d e).die = timing s.die :=
  (timing_advanceProd ..).trans (timing_overAll _ _ fun _ _ => by simp)

@[simp] theorem timing_drainStored (blocked : List Nat) (es : List SfEnt) :
    timing (drainStored s d blocked es).die = timing s.die := by
  induction es generalizing s blocked with
  | nil => rfl
  | cons e es ih =>
    unfold drainStored
    split
    · exact ih ..
    · exact (ih ..).trans ((timing_writeStored ..).trans (timing_upd _ d fun _ => rfl))

@[simp] theorem timing_resolveRec (v : Verdict) : timing (resolveRec s v).die = timing s.die := timing_sendRec ..

@[simp] theorem timing_finishResolve : timing (finishResolve s).die = timing s.die := by
  unfold finishResolve
  split
  · split
    · refine (timing_withResolve ..).trans ?_
      exact (timing_overAll _ _ fun _ _ => timing_releaseRecs ..).trans (timing_overAll _ _ fun _ _ => timing_resolveRec ..)
    · rfl
  · rfl

@[simp] theorem timing_applyAll (vs : List Verdict) : timing (applyAll s d vs).die = timing s.die := by
  have h : timing (overAll (fun s v => applyVerdict s d v) s (dieVerdicts s d vs)).die = timing s.die :=
    timing_overAll _ _ fun _ _ => timing_applyVerdict ..
  simp [applyAll, h]

@[simp] theorem timing_basteSplit : timing (basteSplit s d).die = timing s.die := by
  unfold basteSplit
  dsimp only
  split
  · rfl
  · split <;> simp

@[simp] theorem timing_stopHandlers : timing (stopHandlers s d).die = timing s.die :=
  timing_overAll _ _ fun _ _ => by simp

@[simp] theorem timing_startHandlers (blocked : List Nat) (rs : List RanItem) :
    timing (startHandlers s d blocked rs).die = timing s.die := by
  induction rs generalizing s blocked with
  | nil => rfl
  | cons r rs ih =>
    unfold startHandlers
    dsimp only
    split
    · exact ih ..
    · split
      · exact ih ..
      · refine (ih ..).trans ((timing_overAll _ _ fun _ _ => timing_startCluster ..).trans ?_)
        exact timing_upd _ d fun _ => rfl

@[simp] theorem timing_handlersGo : timing (handlersGo s d).die = timing s.die := by simp [handlersGo]

/-! ### Reloads and passes -/

@[simp] theorem timing_reloadFails (r : Reload) (cause : Nat) (b : Bool) :
    timing (reloadFails s d r cause b).die = timing s.die := timing_raiseT ..

@[simp] theorem timing_reloadStart (r : Reload) : timing (reloadStart s d r).die = timing s.die := by
  unfold reloadStart
  dsimp only
  split
  · simp (disch := decide)
  · refine Eq.trans (timing_upd _ d fun _ => rfl) ?_
    simp (disch := decide)

@[simp] theorem timing_reloadsGo (n : Nat) : timing (reloadsGo n s d).die = timing s.die := by
  induction n generalizing s with
  | zero => rfl
  | succ n ih =>
    unfold reloadsGo
    split
    · rfl
    · split
      · rfl
      · exact (ih _).trans ((timing_reloadStart ..).trans (timing_upd _ d fun _ => rfl))

@[simp] theorem timing_reloadNext : timing (reloadNext s d).die = timing s.die := timing_reloadsGo ..

@[simp] theorem timing_reloadAccept (r : Reload) : timing (reloadAccept s d r).die = timing s.die :=
  (timing_reloadNext ..).trans (timing_upd _ d fun _ => rfl)

@[simp] theorem timing_judgeDarner : timing (judgeDarner s d).die = timing s.die :=
  timing_overAll _ _ fun _ _ => by
    split
    · rfl
    · split
      · exact timing_reloadAccept ..
      · split
        · rfl
        · exact (timing_raise ..).trans (timing_upd _ d fun _ => rfl)

@[simp] theorem timing_passBegin : timing (passBegin s d).die = timing s.die := by
  simp (disch := decide) [passBegin]

@[simp] theorem timing_reloadLate : timing (reloadLate s d).die = timing s.die := by
  unfold reloadLate
  split
  · split
    · rfl
    · exact (timing_raise ..).trans (timing_upd _ d fun _ => rfl)
  · rfl

@[simp] theorem timing_judgeReload (r addr : Nat) : timing (judgeReload s d r addr).1.die = timing s.die := by
  simp [judgeReload]
end

end Sys2Proof.Machine
end

section
/-! What the work of the units leaves alone, continued: the flows, the links, the log and the queues of the hosts. -/

namespace Sys2Proof.Machine

section
variable (s : Chip) (d : Fin 4)

@[simp] theorem timing_flowsTickEnd : timing (flowsTickEnd s d).die = timing s.die :=
  timing_overAll _ _ fun _ _ => by simp

@[simp] theorem timing_flowsTickStart : timing (flowsTickStart s d).die = timing s.die :=
  timing_overAll _ _ fun _ _ => timing_setFld_at _ _ _ _ (by decide)

@[simp] theorem timing_fecCounts (fec : List Nat) : timing (fecCounts s d fec).die = timing s.die :=
  timing_overAll _ _ fun _ _ => by simp (disch := decide)

@[simp] theorem timing_linksTickStart : timing (linksTickStart s d).die = timing s.die :=
  timing_overAll _ _ fun _ _ => by simp

@[simp] theorem timing_traceTickStart : timing (traceTickStart s).die = timing s.die := by
  simp [traceTickStart]

@[simp] theorem timing_oldTickEnds : timing (oldTickEnds s d).die = timing s.die := by
  simp [oldTickEnds]

@[simp] theorem timing_badCmds (n : Nat) (t : Fin 256) : timing (badCmds n s t).die = timing s.die := by
  induction n generalizing s with
  | zero => rfl
  | succ n ih =>
    unfold badCmds
    split
    · split
      · exact (ih _).trans ((timing_complete ..).trans (timing_openCmd ..))
      · rfl
    · rfl

@[simp] theorem timing_settleCmds (t : Fin 256) : timing (settleCmds s t).die = timing s.die := timing_badCmds ..

@[simp] theorem timing_cfgFail (cause : Nat) : timing (cfgFail s d cause).die = timing s.die := by
  simp (disch := decide) [cfgFail]

@[simp] theorem timing_deviceTickStart : timing (deviceTickStart s).die = timing s.die := by
  have faulted : timing (overAll (fun s t => s.setFld 0 (Rf.YOKE_TEN_CTL_FAULTED.at t) 0) (dropPulses s)
      (range 0 256)).die = timing s.die :=
    (timing_overAll _ _ fun _ _ => timing_setFld_at _ _ _ _ (by decide)).trans (timing_dropPulses s)
  have diemap (k : Chip) (v : Nat) : timing (k.setFld 0 Rf.SYS_DIEMAP_DIES v).die = timing k.die :=
    timing_setReg _ _ _ (by decide)
  unfold deviceTickStart
  rw [timing_traceTickStart, timing_reserveAtTick]
  dsimp only
  exact (diemap ..).trans faulted

/-! ### The clocks -/

@[simp] theorem timing_ilkTq : timing (ilkTq s).die = timing s.die := by
  simp [ilkTq]

@[simp] theorem timing_wdogTq : timing (wdogTq s).die = timing s.die := by
  unfold wdogTq
  split
  · rfl
  · refine timing_map _ fun x => ?_
    split <;> rfl

@[simp] theorem timing_vbatTq : timing (vbatTq s).die = timing s.die := by
  unfold vbatTq
  split <;> rfl

@[simp] theorem timing_wdoutTq : timing (wdoutTq s).die = timing s.die := by
  unfold wdoutTq
  split <;> rfl

/-- One tq: the time base of every die that runs counts on (R54, R57). -/
theorem tb_timeTq : ((timeTq s).d d).tb = if up s d then slewTq (s.d d).tb else (s.d d).tb := by
  unfold timeTq up
  by_cases ha : alive s = true
  · by_cases hs : (s.d d).stopped = true
    · simp [Chip.d, ha] at hs ⊢
      simp [hs]
    · simp [Chip.d, ha] at hs ⊢
      simp [hs]
  · simp [ha]

theorem tb_clocksTq : ((clocksTq s).d d).tb = if up s d then slewTq (s.d d).tb else (s.d d).tb :=
  (tb_of_timing (by simp [clocksTq]) d).trans (tb_timeTq s d)

/-! ### Marks and the ends of ticks (R66, R75, R88) -/

/-- A die with its tick, the marks on their way to it and its ledger taken out. -/
def DieSt.besideTick (x : DieSt) : DieSt := { x with tick := {}, marks := [], ledger := {} }

/-- What the dies hold beside their ticks, the marks on their way and the ledgers is alike. -/
def TickWork (s k : Chip) : Prop := ∀ e, (k.d e).besideTick = (s.d e).besideTick

namespace TickWork
variable {s d} {k m : Chip} {e : Fin 4}

theorem refl : TickWork s s := fun _ => rfl

theorem trans (h : TickWork s k) (h' : TickWork k m) : TickWork s m := fun e => (h' e).trans (h e)

theorem upd {f : DieSt → DieSt} (h : ∀ x, (f x).besideTick = x.besideTick) : TickWork s (s.upd d f) := fun e => by
  rw [Chip.d_upd]
  split
  · subst e; exact h _
  · rfl

theorem onTick (f : TickSt → TickSt) : TickWork s (s.onTick d f) := upd fun _ => rfl

theorem overAll {α : Type} {f : Chip → α → Chip} (l : List α) (h : ∀ m a, TickWork m (f m a)) :
    TickWork s (overAll f s l) :=
  overAll_keeps (TickWork s) f (fun _ _ hm => hm.trans (h _ _)) s l refl

theorem guarded {p : Prop} [Decidable p] {a b : Chip} (ha : TickWork s a) (hb : TickWork s b) :
    TickWork s (if p then a else b) := by
  split
  · exact ha
  · exact hb

theorem sendCaps : TickWork s (sendCaps s) := .overAll _ fun _ _ => upd fun _ => rfl

theorem capsFor (n : BitVec 48) (skip : Bool) : TickWork s (capsFor s n skip) := .guarded sendCaps refl

theorem sendMark (x : Mark) : TickWork s (sendMark s x) :=
  (onTick _).trans (.overAll _ fun _ _ => .guarded (upd fun _ => rfl) refl)

theorem masterMark : TickWork s (masterMark s) :=
  .guarded (trans (.guarded (.guarded (capsFor _ _) (.guarded refl (capsFor _ _))) (capsFor _ _)) (sendMark _)) refl

theorem tb (h : TickWork s k) (e : Fin 4) : (k.d e).tb = (s.d e).tb := (congrArg DieSt.tb (h e) :)
theorem fly (h : TickWork s k) (e : Fin 4) : (k.d e).fly = (s.d e).fly := (congrArg DieSt.fly (h e) :)
theorem now (h : TickWork s k) (e : Fin 4) : k.now e = s.now e := congrArg TimeBase.now (h.tb e)

end TickWork

theorem tb_tickEnds (e : Fin 4) : ((tickEnds s d).d e).tb = (s.d e).tb := by
  unfold tickEnds
  dsimp only
  split
  · exact ((TickWork.onTick _).tb e).trans (tb_of_timing (timing_flowsTickEnd s d) e)
  · rfl

theorem tb_dieDue (e : Fin 4) : ((dieDue s d).d e).tb = (s.d e).tb := by
  unfold dieDue
  split
  · exact (tb_tickEnds ..).trans (tb_of_timing (timing_recipesAct s d) e)
  · rfl

/-- What falls due in a tq leaves the time bases. -/
theorem tb_dueNow (e : Fin 4) : ((dueNow s).d e).tb = (s.d e).tb := by
  have hdies : ((overAll dieDue s dies).d e).tb = (s.d e).tb :=
    overAll_keeps (fun k => (k.d e).tb = (s.d e).tb) _ (fun k a h => (tb_dieDue k a e).trans h) s dies rfl
  have hcmds (k : Chip) (ts : List (Fin 256)) : ((overAll settleCmds k ts).d e).tb = (k.d e).tb :=
    tb_of_timing (timing_overAll _ _ fun _ _ => timing_settleCmds ..) e
  have hmark (k : Chip) : ((masterMark k).d e).tb = (k.d e).tb := TickWork.masterMark.tb e
  unfold dueNow
  dsimp only
  split
  · split
    · rw [tb_of_timing (timing_cfgFail ..), hmark, hcmds, hdies]
    · rw [hmark, hcmds, hdies]
  · rfl

/-- One tq of the idle S9. -/
theorem tb_idle : ((idle s).d d).tb = if up s d then slewTq (s.d d).tb else (s.d d).tb :=
  (tb_dueNow ..).trans (tb_clocksTq s d)
end

end Sys2Proof.Machine

namespace Sys2Proof.Says
open Machine

/-- Every instruction is the effect of its arm on the S9: it answers a next state with the same queue. -/
theorem exec_next (c : Instr) (s : State) : ∃ k, exec c s = .next { chip := k, pending := s.pending } := by
  cases c <;> exact ⟨_, rfl⟩

/-- Settles O2: each arm of `exec` is an effect on the S9, and what falls due in an idle tq leaves the time bases, which
`timeTq` has counted on. -/
theorem commandsLeaveTheQueueAndIdleCountsTime : Obligations.CommandsLeaveTheQueueAndIdleCountsTime := by
  unfold Obligations.CommandsLeaveTheQueueAndIdleCountsTime
  refine ⟨exec_next, fun d s hq => ⟨idle s.chip, ?_, tb_idle s.chip d⟩⟩
  obtain ⟨chip, pending⟩ := s
  subst hq
  rfl

end Sys2Proof.Says
end

section
/-! The phases of a tick (R62, R71, R75, R76). -/

namespace Sys2Proof.Machine

section
variable (s : Chip) (d : Fin 4)

theorem tick_onTick (f : TickSt → TickSt) : ((s.onTick d f).d d).tick = f (s.d d).tick := by
  rw [Chip.onTick, Chip.d_upd_same]

theorem tick_onYoke (f : YokeSt → YokeSt) (e : Fin 4) : ((s.onYoke d f).d e).tick = (s.d e).tick := by
  rw [Chip.onYoke, Chip.d_upd]
  split
  · subst e; rfl
  · rfl

/-! ### STITCH -/

theorem tick_beginStitch (t : Time) :
    ((beginStitch s d t).d d).tick = { (s.d d).tick with phase := .stitch, stitchAt := some t } :=
  (tick_of_timing (timing_basteStitchStart ..) d).trans (tick_onTick ..)

theorem tick_beginStitch_ne {e : Fin 4} (h : e ≠ d) (t : Time) : ((beginStitch s d t).d e).tick = (s.d e).tick :=
  (tick_of_timing (timing_basteStitchStart ..) e).trans (by rw [Chip.onTick, Chip.d_upd_ne _ _ h])

theorem now_beginStitch (e : Fin 4) (t : Time) : (beginStitch s d t).now e = s.now e :=
  (congrArg TimeBase.now (tb_of_timing (timing_basteStitchStart ..) e)).trans ((TickWork.onTick _).now e)

theorem reported_basteStitchStart : ((basteStitchStart s d).d d).baste.reported = false := by
  unfold basteStitchStart
  dsimp only
  split
  · have h : ((s.onBaste d fun b => { b with
        reported := false, report := none, sent := none, outcome := none, applied := false, counts := [] }).d
        d).baste.reported = false := by simp [Chip.onBaste]
    exact h
  · simp [Chip.onBaste]

/-- STITCH of every die of a list, each at its own time (R76). -/
theorem tick_beginStitch_of_mem {ds : List (Fin 4)} (h : d ∈ ds) :
    ((overAll (fun s e => beginStitch s e (s.now e)) s ds).d d).tick =
      { (s.d d).tick with phase := .stitch, stitchAt := some (s.now d) } := by
  have keeps (t : Time) (x : TickSt) (k : Chip) (a : Fin 4)
      (hk : (k.d d).tick = { x with phase := .stitch, stitchAt := some t } ∧ k.now d = t) :
      ((beginStitch k a (k.now a)).d d).tick = { x with phase := .stitch, stitchAt := some t } ∧
        (beginStitch k a (k.now a)).now d = t := by
    refine ⟨?_, (now_beginStitch ..).trans hk.2⟩
    rcases eq_or_ne d a with rfl | ha
    · rw [tick_beginStitch, hk.1, hk.2]
    · rw [tick_beginStitch_ne _ _ ha, hk.1]
  induction ds generalizing s with
  | nil => simp at h
  | cons a ds ih =>
    rcases eq_or_ne d a with rfl | ha
    · exact (overAll_keeps _ _ (keeps (s.now d) (s.d d).tick) _ ds ⟨tick_beginStitch .., now_beginStitch ..⟩).1
    · refine (ih _ ((List.mem_cons.1 h).resolve_left ha)).trans ?_
      rw [now_beginStitch, tick_beginStitch_ne _ _ ha]

/-! ### SLACK -/

theorem tick_reloadAtSlack (e : Fin 4) : ((reloadAtSlack s d).d e).tick = (s.d e).tick := by
  unfold reloadAtSlack
  split
  · exact (tick_onYoke ..).trans ((tick_onYoke ..).trans (tick_of_timing (timing_judgeReload ..) e))
  · rfl

/-- Die 0, as master, holds at most another mark. -/
theorem tick_masterMark : ∃ o, ((masterMark s).d 0).tick = { (s.d 0).tick with mark := o } := by
  have hcaps (n : BitVec 48) (b : Bool) : ((capsFor s n b).d 0).tick = (s.d 0).tick :=
    tick_of_timing (timing_capsFor s n b) 0
  unfold masterMark
  dsimp only
  split
  · refine ⟨some (nextMark s), (sendMark_frame _ _).1.trans ?_⟩
    split
    · split
      · rw [hcaps]
      · split
        · rfl
        · rw [hcaps]
    · rw [hcaps]
  · exact ⟨_, rfl⟩
end

end Sys2Proof.Machine

namespace Sys2Proof.Says
open Machine

section
variable {d : Fin 4} {s : State} (hup : up s.chip d = true)
include hup

theorem reaches_acquireEnd (hph : (s.chip.d d).tick.phase = .acquire)
    (ha : (s.chip.d d).tick.set.a ≤ elapsed s.chip d) :
    Reaches (.acquireEnd d) s fun k => (k.d d).tick.phase = .process ∧ (k.d d).tick.num = (s.chip.d d).tick.num := by
  have heff : acquireEnd d s.chip =
      recipesAtA (if d = 0 then disarmLaser (capturesAtA (s.chip.onTick d fun k => { k with phase := .process }) d)
        else capturesAtA (s.chip.onTick d fun k => { k with phase := .process }) d) d :=
    (whenUp_of_up hup _).trans (if_pos ⟨hph, ha⟩)
  refine .of_effect rfl heff ?_
  rw [tick_of_timing (s := s.chip.onTick d fun k => { k with phase := .process }) (by simp) d, tick_onTick]
  exact ⟨rfl, rfl⟩

theorem reaches_stitchStart (hph : (s.chip.d d).tick.phase = .process)
    (hs : (s.chip.d d).tick.set.s ≤ elapsed s.chip d) (hr : (s.chip.d d).tick.report = none)
    (hg2 : bit s.chip.compat 0 = false) :
    Reaches (.stitchStart d) s fun k =>
      (k.d d).tick.phase = .stitch ∧
      (k.d d).tick.stitchAt = some ((s.chip.d d).tick.start + BitVec.ofNat 64 (s.chip.d d).tick.set.s) ∧
      (k.d d).baste.reported = false := by
  have heff : stitchStart d s.chip =
      beginStitch (overAll (fun s c => overrun s d c) s.chip (overrunners s.chip d)) d (stitchTime s.chip d 0) := by
    refine (whenUp_of_up hup _).trans ((if_neg ?_).trans (if_neg ?_))
    · simp [hph, hr, hs]
    · simp [hg2]
  refine .of_effect rfl heff ?_
  rw [tick_beginStitch]
  exact ⟨rfl, rfl, reported_basteStitchStart ..⟩

theorem reaches_extensionDeadline (hph : (s.chip.d d).tick.phase = .process)
    (hr : (s.chip.d d).tick.report.isSome = true)
    (hp : (s.chip.d d).tick.set.p + (s.chip.d d).tick.set.s ≤ elapsed s.chip d) :
    Reaches (.extensionDeadline d) s fun k =>
      (k.d d).tick.phase = .stitch ∧ (k.d d).tick.stitchAt =
        some ((s.chip.d d).tick.start + BitVec.ofNat 64 ((s.chip.d d).tick.set.s + (s.chip.d d).tick.set.p)) := by
  have heff : extensionDeadline d s.chip =
      beginStitch (overAll (fun s c => overrun s d c) s.chip (overrunners s.chip d)) d
        (stitchTime s.chip d (s.chip.d d).tick.set.p) :=
    (whenUp_of_up hup _).trans (if_pos ⟨hph, hr, hp⟩)
  refine .of_effect rfl heff ?_
  rw [tick_beginStitch]
  exact ⟨rfl, rfl⟩

omit hup in
theorem reaches_extendedStitchStart (hup0 : up s.chip 0 = true)
    (hd : d ∈ (beforeStitch s.chip).filter fun e => (s.chip.d e).tick.extended)
    (hended : ∀ e ∈ beforeStitch s.chip, (s.chip.d e).tick.extended = true → overrunners s.chip e = []) :
    Reaches .extendedStitchStart s fun k =>
      (k.d d).tick.phase = .stitch ∧ (k.d d).tick.stitchAt = some (s.chip.now d) := by
  have heff : extendedStitchStart s.chip =
      overAll (fun s e => beginStitch s e (s.now e)) s.chip
        ((beforeStitch s.chip).filter fun e => (s.chip.d e).tick.extended) := by
    refine (whenUp_of_up hup0 _).trans (if_neg ?_)
    simp only [Bool.or_eq_true, List.isEmpty_iff, List.any_eq_true, not_or, not_exists, not_and]
    refine ⟨List.ne_nil_of_mem hd, fun e he => ?_⟩
    obtain ⟨he, hx⟩ := List.mem_filter.1 he
    simp [hended e he hx]
  refine .of_effect rfl heff ?_
  rw [tick_beginStitch_of_mem _ _ hd]
  exact ⟨rfl, rfl⟩

theorem reaches_slackStart {t : Time} (hph : (s.chip.d d).tick.phase = .stitch)
    (hst : (s.chip.d d).tick.stitchAt = some t) (ht : 256 ≤ (s.chip.now d - t).toNat) :
    Reaches (.slackStart d) s fun k => (k.d d).tick.phase = .slack ∧ (k.d d).tick.num = (s.chip.d d).tick.num := by
  obtain ⟨k0, hk0⟩ : ∃ k0, k0 = s.chip.onTick d fun k => { k with phase := .slack, marked := true } := ⟨_, rfl⟩
  obtain ⟨k1, hk1⟩ : ∃ k1, k1 =
    passBegin (reloadAtSlack (judgeDarner (recipesEnd (handlersGo (reconcile k0 d) d) d) d) d) d := ⟨_, rfl⟩
  have heff : slackStart d s.chip = if d = 0 then masterMark k1 else k1 := by
    simp only [slackStart, whenUp_of_up hup, hph, hst, hk1, hk0]
    exact if_neg (Nat.not_lt.2 ht)
  have htick : (k1.d d).tick = { (s.chip.d d).tick with phase := .slack, marked := true } := by
    have hwork : timing (judgeDarner (recipesEnd (handlersGo (reconcile k0 d) d) d) d).die = timing k0.die := by simp
    rw [hk1, tick_of_timing (timing_passBegin ..), tick_reloadAtSlack, tick_of_timing hwork, hk0, tick_onTick]
  refine .of_effect rfl heff ?_
  split
  · subst d
    obtain ⟨o, ho⟩ := tick_masterMark k1
    rw [ho, htick]
    exact ⟨rfl, rfl⟩
  · rw [htick]
    exact ⟨rfl, rfl⟩

end

/-- Settles O15: each boundary command sets the phase of its die; the work that falls due at it leaves the ticks, as
the frame lemmas of the units say. -/
theorem tickPhasesFollowTheirOffsets : Obligations.TickPhasesFollowTheirOffsets := by
  unfold Obligations.TickPhasesFollowTheirOffsets
  intro d s hup
  exact ⟨reaches_acquireEnd hup, reaches_stitchStart hup, reaches_extensionDeadline hup,
    reaches_extendedStitchStart, fun _ => reaches_slackStart hup⟩

end Sys2Proof.Says
end

section
/-! Marks, and the starts of ticks (R66 to R68, R75, R115, R864). -/

namespace Sys2Proof.Machine

section
variable {s : Chip} {d : Fin 4}

/-! ### Marks -/

/-- A mark of a tick that does not run yet is held; where no mark was held, no skipped tick is counted. -/
theorem takeMark_fresh {m : Mark} (hmark : (s.d d).tick.mark = none) (hwait : (s.d d).tick.waiting = false)
    (hnew : (s.d d).tick.phase = .idle ∨
      0 < (m.num - (s.d d).tick.num).toNat ∧ (m.num - (s.d d).tick.num).toNat < 2 ^ 47) :
    takeMark s d m = s.onTick d fun k => { k with mark := some m } := by
  have hold : ¬ ((s.d d).tick.phase ≠ .idle ∧
      ((m.num - (s.d d).tick.num).toNat = 0 ∨ 2 ^ 47 ≤ (m.num - (s.d d).tick.num).toNat)) := by
    rcases hnew with h | h
    · simp [h]
    · omega
  have habsorb : absorbSkip s d = s := by
    rw [absorbSkip, Chip.onTick]
    exact Chip.upd_eq_self (by rw [hmark])
  refine (if_neg (by simp [hwait])).trans ((if_neg hold).trans ?_)
  rw [habsorb]

/-- A skipped tick is counted, and takes its number; no mark is held from then on (R75). -/
theorem tick_absorbSkip {m : Mark} (hmark : (s.d d).tick.mark = some m) (hskip : m.skip = true) :
    ((absorbSkip s d).d d).tick =
      { (s.d d).tick with num := m.num, skips := (s.d d).tick.skips + 1, mark := none } := by
  rw [absorbSkip, tick_onTick, hmark]
  exact if_pos hskip

theorem tick_missTick : ((missTick s d).d d).tick = { (s.d d).tick with missed := true, waiting := false } := by
  unfold missTick
  extract_lets k flag s1 run s2 s3
  have hflagged : (s1.d d).tick = { (s.d d).tick with missed := true, waiting := false } := by
    simp only [s1, k, Chip.d_upd_same]
  have hcounted : timing s3.die = timing s1.die := by simp (disch := decide) [s3, s2]
  refine (tick_of_timing ?_ d).trans hflagged
  rw [timing_ite, timing_raise, ite_self, hcounted]
end

end Sys2Proof.Machine

namespace Sys2Proof.Says
open Machine

/-- Records already sent stay sent when another event is raised. -/
theorem Sent.raise {s : Chip} {d : Fin 4} {kind : Nat} {t : Fin 256} (h : Sent s d kind t) (src kind' : Nat)
    (t' : Fin 256) (pay : Nat) : Sent (raise s d src kind' t' pay) d kind t := by
  obtain ⟨r, hr, hkind, hten, htime⟩ := h
  refine ⟨r, ?_, hkind, hten, htime.trans (now_raise ..).symm⟩
  rw [fly_raise, if_pos rfl]
  exact List.mem_append_left _ hr

theorem Sent.tickWork {s k : Chip} {d : Fin 4} {kind : Nat} {t : Fin 256} (h : Sent s d kind t) (h' : TickWork s k) :
    Sent k d kind t := by
  obtain ⟨r, hr, hkind, hten, htime⟩ := h
  exact ⟨r, h'.fly d ▸ hr, hkind, hten, htime.trans (h'.now d).symm⟩

theorem sent_missTick (s : Chip) (d : Fin 4) : Sent (missTick s d) d K.TICKMISS 0 := by
  unfold missTick
  dsimp only
  split
  · exact (sent_raise ..).raise ..
  · exact sent_raise ..

section
variable {d : Fin 4} {s : State}

theorem gives_tickMark {m : Mark} (hd : d ≠ 0) (hup : up s.chip d = true) (hm : m ∈ (s.chip.d d).marks)
    (hmark : (s.chip.d d).tick.mark = none) (hwait : (s.chip.d d).tick.waiting = false)
    (hnew : (s.chip.d d).tick.phase = .idle ∨
      0 < (m.num - (s.chip.d d).tick.num).toNat ∧ (m.num - (s.chip.d d).tick.num).toNat < 2 ^ 47) :
    Gives (.tickMark d m) s
      (s.chip.upd d fun x => { x with marks := x.marks.erase m, tick := { x.tick with mark := some m } }) := by
  have htaken : tickMark d m s.chip = takeMark (s.chip.upd d fun x => { x with marks := x.marks.erase m }) d m :=
    (if_neg hd).trans (if_pos (by simp [hup, hm]))
  refine .of_effect rfl (htaken.trans ?_)
  rw [takeMark_fresh (by simpa using hmark) (by simpa using hwait) (by simpa using hnew), Chip.onTick, Chip.upd_upd]

theorem reaches_tickMarkTimeout (hup : up s.chip d = true) (hwait : (s.chip.d d).tick.waiting = true)
    (h51 : 51 ≤ elapsed s.chip d) :
    Reaches (.tickMarkTimeout d) s fun k =>
      (k.d d).tick.missed = true ∧ (k.d d).tick.waiting = false ∧ (k.d d).tick.num = (s.chip.d d).tick.num ∧
        Sent k d K.TICKMISS 0 := by
  have heff : tickMarkTimeout d s.chip = missTick s.chip d := (whenUp_of_up hup _).trans (if_pos ⟨hwait, h51⟩)
  refine .of_effect rfl heff ?_
  rw [tick_missTick]
  exact ⟨rfl, rfl, rfl, sent_missTick ..⟩

theorem reaches_skippedTickMark {m : Mark} (hup : up s.chip 0 = true) (hmark : (s.chip.d 0).tick.mark = some m)
    (hskip : m.skip = true) (hf : follows s.chip = false) (hph : (s.chip.d 0).tick.phase = .slack)
    (hre : reached s.chip 0 m.start = true) :
    Reaches .skippedTickMark s fun k =>
      (k.d 0).tick.num = m.num ∧ (k.d 0).tick.phase = .slack ∧ (k.d 0).tick.start = (s.chip.d 0).tick.start ∧
        ((s.chip.d 0).tick.extended = false → Sent k 0 K.TICKSKIP 0) := by
  obtain ⟨k1, hk1⟩ : ∃ k1, k1 = if (s.chip.d 0).tick.extended ∧ (s.chip.d 0).tick.skips = 0 then s.chip
    else raise s.chip 0 0x002 K.TICKSKIP 0 (m.num.toNat % 2 ^ 32) := ⟨_, rfl⟩
  have heff : skippedTickMark s.chip = masterMark (absorbSkip k1 0) := by
    simp only [skippedTickMark, whenUp_of_up hup, hmark, hk1]
    exact if_pos (by simp [hskip, hf, hph, hre])
  have htick : (k1.d 0).tick = (s.chip.d 0).tick := by
    rw [hk1]
    split
    · rfl
    · exact tick_raise ..
  obtain ⟨o, ho⟩ := tick_masterMark (absorbSkip k1 0)
  rw [tick_absorbSkip (htick ▸ hmark) hskip, htick] at ho
  refine .of_effect rfl heff ?_
  rw [ho]
  refine ⟨rfl, hph, rfl, fun hx => Sent.tickWork ?_ ((TickWork.onTick _).trans .masterMark)⟩
  rw [hk1, if_neg (by simp [hx])]
  exact sent_raise ..

end

end Sys2Proof.Says
end

section
/-! The start of a tick: its number and its setting, and the Yoke at ENTRY (R67, R68, R115). -/

namespace Sys2Proof.Machine

theorem YokeSt.get_put_same (y : YokeSt) {D : Nat} (v : Word) (h : D ≠ 0) : (y.put D v).get D = v := by
  simp [put, get, h]

theorem YokeSt.get_put_ne (y : YokeSt) {A D : Nat} (v : Word) (h : A ≠ D) : (y.put D v).get A = y.get A := by
  unfold put
  split
  · rfl
  · unfold get
    rw [mapGet_mapPut_ne _ _ _ h]

section
variable (s : Chip) (d : Fin 4)

theorem yoke_onYoke (f : YokeSt → YokeSt) : ((s.onYoke d f).d d).yoke = f (s.d d).yoke := by
  rw [Chip.onYoke, Chip.d_upd_same]

theorem pc_setL (D : Nat) (v : Word) : ((s.setL d D v).d d).yoke.pc = (s.d d).yoke.pc := by
  rw [Chip.setL, yoke_onYoke, YokeSt.put]
  split <;> rfl

theorem l_setL_same {D : Nat} (v : Word) (h : D ≠ 0) : (s.setL d D v).l d D = v := by
  rw [Chip.l, Chip.setL, yoke_onYoke, YokeSt.get_put_same _ _ h]

theorem l_setL_ne {A D : Nat} (v : Word) (h : A ≠ D) : (s.setL d D v).l d A = s.l d A := by
  rw [Chip.l, Chip.setL, yoke_onYoke, YokeSt.get_put_ne _ _ h, Chip.l]

theorem tick_setL (D : Nat) (v : Word) (e : Fin 4) : ((s.setL d D v).d e).tick = (s.d e).tick := tick_onYoke ..

/-! ### The Yoke -/

/-- A halt leaves PC and l1 to l15. -/
theorem haltYoke_keeps (cause bp : Nat) :
    ((haltYoke s d cause bp).d d).tick = (s.d d).tick ∧ ((haltYoke s d cause bp).d d).yoke.pc = (s.d d).yoke.pc ∧
      ∀ A, (haltYoke s d cause bp).l d A = s.l d A := by
  obtain ⟨k, hk⟩ : ∃ k, k = (s.onYoke d fun y => { y with
    halted := true, cause := cause, passBp := false, step := false }).upd d fun x => { x with yHaltReq := none } := ⟨_, rfl⟩
  have hd : k.d d = { s.d d with yHaltReq := none, yoke := { (s.d d).yoke with
      halted := true, cause := cause, passBp := false, step := false } } := by
    rw [hk, Chip.d_upd_same, Chip.onYoke, Chip.d_upd_same]
  have hr (pay : Nat) : timing (raise k d 0x003 K.DBGHALT 0 pay).die = timing k.die := timing_raise ..
  unfold haltYoke
  simp only [← hk, Chip.l, tick_of_timing (hr _), yoke_of_timing (hr _), hd]
  exact ⟨trivial, trivial, fun _ => rfl⟩

/-- What the Yoke of die `d` stands at when its tick begins: ENTRY, l1 with the tick, and l2 with the die and whether
the program of the last tick still ran (R115). -/
structure AtEntry (s k : Chip) (d : Fin 4) : Prop where
  tick : (k.d d).tick = (s.d d).tick
  pc : (k.d d).yoke.pc = s.fld d Rf.YOKE_CTL_ENTRY
  l1 : k.l d 1 = BitVec.ofNat 32 (s.d d).tick.num.toNat
  l2 : k.l d 2 = BitVec.ofNat 32 (d.val + 4 * b2n ((s.d d).yoke.prog && (s.d d).yoke.run))
  rest : ∀ A, 3 ≤ A → k.l d A = s.l d A

/-- The tick program of die `d` at ENTRY, before the halt that may follow: what `yokeEntry` makes of a state in which
the overrun of the last program, `missed`, has been raised. -/
def enterProgram (s : Chip) (d : Fin 4) (missed : Bool) : Chip :=
  let k := s.onYoke d fun y =>
    { y with prog := s.flag d Rf.YOKE_CTL_MODE, run := s.flag d Rf.YOKE_CTL_MODE, pc := s.fld d Rf.YOKE_CTL_ENTRY,
             wait := .none, restarted := missed, fresh := false, passBp := false, step := false }
  (k.setL d 1 (BitVec.ofNat 32 (k.d d).tick.num.toNat)).setL d 2 (BitVec.ofNat 32 (d.val + 4 * b2n missed))

theorem atEntry_enterProgram {k : Chip} (h : timing k.die = timing s.die) :
    AtEntry s (enterProgram k d ((s.d d).yoke.prog && (s.d d).yoke.run)) d := by
  have hl (A : Nat) : k.l d A = s.l d A := by rw [Chip.l, yoke_of_timing h, Chip.l]
  refine ⟨?_, ?_, ?_, l_setL_same _ _ _ (by decide), fun A hA => ?_⟩
  · rw [enterProgram, tick_setL, tick_setL, tick_onYoke, tick_of_timing h]
  · rw [enterProgram, pc_setL, pc_setL, yoke_onYoke, entry_of_timing h]
  · rw [enterProgram, l_setL_ne _ _ _ (by decide), l_setL_same _ _ _ (by decide), tick_onYoke, tick_of_timing h]
  · rw [enterProgram, l_setL_ne _ _ _ (by omega), l_setL_ne _ _ _ (by omega), ← hl, Chip.l, yoke_onYoke]
    rfl

theorem AtEntry.haltYoke {s k : Chip} {d : Fin 4} (h : AtEntry s k d) (cause bp : Nat) :
    AtEntry s (haltYoke k d cause bp) d := by
  obtain ⟨ht, hpc, hl⟩ := haltYoke_keeps k d cause bp
  exact ⟨ht.trans h.tick, hpc.trans h.pc, (hl 1).trans h.l1, (hl 2).trans h.l2,
    fun A hA => (hl A).trans (h.rest A hA)⟩

/-- The tick program enters at ENTRY with l1 and l2 loaded, halted there or not. -/
theorem atEntry_yokeEntry : AtEntry s (yokeEntry s d) d := by
  have enters (k : Chip) (h : timing k.die = timing s.die) (p : Bool) :
      AtEntry s (if p then Machine.haltYoke (enterProgram k d ((s.d d).yoke.prog && (s.d d).yoke.run)) d 4 0
        else enterProgram k d ((s.d d).yoke.prog && (s.d d).yoke.run)) d := by
    split
    · exact (atEntry_enterProgram s d h).haltYoke ..
    · exact atEntry_enterProgram s d h
  have hraised (q : Bool) (pay : Nat) :
      timing (if q then raise s d yokeSrc K.YOKEOVR 0 pay else s).die = timing s.die := by simp
  exact enters _ (hraised ..) _

theorem entry_onTick (f : TickSt → TickSt) :
    (s.onTick d f).fld d Rf.YOKE_CTL_ENTRY = s.fld d Rf.YOKE_CTL_ENTRY :=
  congrArg (getBits · _ _) (Chip.reg_upd s d d _ _ fun _ => rfl)

/-- What a tick starts with: its setting and its number, and the Yoke at ENTRY where its program had ended (R67). -/
theorem startTick_begins (n : BitVec 48) (start : Time) (x : Setting) (waiting : Bool) (fec : List Nat) :
    ∃ k, timing (startTick s d n start x waiting fec).die = timing (yokeEntry k d).die ∧
      (k.d d).tick = { set := x, start := start, num := n, phase := .acquire, waiting := waiting } ∧
      (k.d d).yoke = (s.d d).yoke ∧ k.fld d Rf.YOKE_CTL_ENTRY = s.fld d Rf.YOKE_CTL_ENTRY := by
  obtain ⟨k0, hk0⟩ : ∃ k0, k0 = ledgerTickStart (oldTickEnds s d) d := ⟨_, rfl⟩
  obtain ⟨k1, hk1⟩ : ∃ k1, k1 = k0.onTick d fun _ =>
    { set := x, start := start, num := n, phase := .acquire, waiting := waiting } := ⟨_, rfl⟩
  obtain ⟨k2, hk2⟩ : ∃ k2, k2 = k1.upd d fun y => { y with ran := [] } := ⟨_, rfl⟩
  obtain ⟨k3, hk3⟩ : ∃ k3, k3 = fecCounts (linksTickStart (flowsTickStart (basteTickStart (epochTickStart
    (if d = 0 then deviceTickStart k2 else k2) d) d) d) d) d fec := ⟨_, rfl⟩
  have heff : startTick s d n start x waiting fec = reloadLate (recipesTick (yokeEntry k3 d) d) d := by
    rw [hk3, hk2, hk1, hk0, startTick]
  have hold : timing k0.die = timing s.die := by simp [hk0]
  have hnew : timing k3.die = timing k1.die := by
    have hran : timing k2.die = timing k1.die := hk2 ▸ timing_upd k1 d fun _ => rfl
    simp [hk3, hran]
  refine ⟨k3, by simp [heff], ?_, ?_, ?_⟩
  · rw [tick_of_timing hnew, hk1, tick_onTick]
  · rw [yoke_of_timing hnew, hk1, Chip.onTick, Chip.d_upd_same, ← yoke_of_timing hold]
  · rw [entry_of_timing hnew, hk1, entry_onTick, entry_of_timing hold]
end

end Sys2Proof.Machine

namespace Sys2Proof.Says
open Machine

section
variable {d : Fin 4} {s : State}

theorem reaches_tickStart {m : Mark} {fec : List Nat} (hup : up s.chip d = true)
    (hmark : (s.chip.d d).tick.mark = some m) (hre : reached s.chip d m.start = true)
    (hph : (s.chip.d d).tick.phase = .idle ∨ (s.chip.d d).tick.phase = .slack) (hskip : m.skip = false)
    (hallow : tickAllowed s.chip m.num = true) (hrun : (s.chip.d d).yoke.run = false) :
    Reaches (.tickStart d fec) s fun k =>
      (k.d d).tick.phase = .acquire ∧ (k.d d).tick.num = m.num ∧ (k.d d).tick.start = m.start ∧
      (k.d d).tick.set = { p := m.p, a := m.a, s := m.s } ∧
      (k.d d).yoke.pc = s.chip.fld d Rf.YOKE_CTL_ENTRY ∧ k.l d 1 = BitVec.ofNat 32 m.num.toNat ∧
      k.l d 2 = BitVec.ofNat 32 d.val ∧ ∀ A, 3 ≤ A → k.l d A = s.chip.l d A := by
  have hover : tickOver s.chip d = true := by simpa [tickOver] using hph
  have heff : tickStart d fec s.chip =
      (startTick s.chip d m.num m.start { p := m.p, a := m.a, s := m.s } false fec).setFld d
        Rf.TIME_TICK_MISS_RUNLEN 0 := by
    simp [tickStart, whenUp_of_up hup, hmark, hre, hover, hskip, hallow]
  obtain ⟨k, hstart, htick, hyoke, hentry⟩ :=
    startTick_begins s.chip d m.num m.start { p := m.p, a := m.a, s := m.s } false fec
  have hk := (timing_setFld (startTick s.chip d m.num m.start { p := m.p, a := m.a, s := m.s } false fec) d
    (f := Rf.TIME_TICK_MISS_RUNLEN) 0 (by decide)).trans hstart
  obtain ⟨ht, hpc, h1, h2, hrest⟩ := atEntry_yokeEntry k d
  refine .of_effect rfl heff ?_
  simp only [tick_of_timing hk, yoke_of_timing hk, Chip.l] at h1 h2 hrest ⊢
  rw [ht, htick, hpc, hentry]
  rw [htick] at h1
  rw [hyoke, hrun, Bool.and_false] at h2
  rw [hyoke] at hrest
  exact ⟨rfl, rfl, rfl, rfl, rfl, h1, h2, hrest⟩

theorem reaches_tickPredictedStart (hd : d ≠ 0) (hup : up s.chip d = true)
    (hmark : (s.chip.d d).tick.mark = none) (hph : (s.chip.d d).tick.phase = .slack)
    (hx : (s.chip.d d).tick.extended = false) (hsk : (s.chip.d d).tick.skips = 0)
    (hre : reached s.chip d ((s.chip.d d).tick.start + BitVec.ofNat 64 (s.chip.d d).tick.set.p) = true)
    (hallow : tickAllowed s.chip ((s.chip.d d).tick.num + 1) = true) :
    Reaches (.tickPredictedStart d) s fun k =>
      (k.d d).tick.phase = .acquire ∧ (k.d d).tick.num = (s.chip.d d).tick.num + 1 ∧
      (k.d d).tick.set = (s.chip.d d).tick.set ∧
      (k.d d).tick.start = (s.chip.d d).tick.start + BitVec.ofNat 64 (s.chip.d d).tick.set.p ∧
      (k.d d).tick.waiting = true := by
  have heff : tickPredictedStart d s.chip =
      startTick s.chip d ((s.chip.d d).tick.num + 1)
        ((s.chip.d d).tick.start + BitVec.ofNat 64 (s.chip.d d).tick.set.p) (s.chip.d d).tick.set true [] := by
    have hallow' : tickAllowed s.chip ((s.chip.d d).tick.num + 1#48) = true := hallow
    simp [tickPredictedStart, whenUp_of_up hup, hd, hmark, hph, hx, hsk, hre, hallow', b2n]
  obtain ⟨k, hstart, htick, -, -⟩ := startTick_begins s.chip d ((s.chip.d d).tick.num + 1)
    ((s.chip.d d).tick.start + BitVec.ofNat 64 (s.chip.d d).tick.set.p) (s.chip.d d).tick.set true []
  refine .of_effect rfl heff ?_
  rw [tick_of_timing hstart, (atEntry_yokeEntry k d).tick, htick]
  exact ⟨rfl, rfl, rfl, rfl, rfl⟩

end

/-- Settles O16: a mark is held or counted, a start takes the number and the setting of the mark or of the last tick,
and the work done at a tick start leaves both, and the Yoke at ENTRY. -/
theorem ticksStartFromTheirMarks : Obligations.TicksStartFromTheirMarks := by
  unfold Obligations.TicksStartFromTheirMarks
  refine ⟨fun d m s hd hup => ⟨gives_tickMark hd hup, reaches_tickMarkTimeout hup⟩,
    fun d m fec s hup hmark hre hph hskip hallow hrun => reaches_tickStart hup hmark hre hph hskip hallow hrun,
    fun d s hd hup => reaches_tickPredictedStart hd hup,
    fun m s hup hmark hskip hf hph hre => reaches_skippedTickMark hup hmark hskip hf hph hre⟩

end Sys2Proof.Says
end

section
/-! The Yoke issues an instruction (R115, R116, R118, R123): what it makes of the S9, and what it reads. -/

namespace Sys2Proof.Machine

open Sys2Proof.Says

section
variable (s : Chip) (d e : Fin 4) (f g : YokeSt → YokeSt)

/-- Two changes that agree on a die give one S9. -/
theorem Chip.upd_congr {s : Chip} {d : Fin 4} {f g : DieSt → DieSt} (h : f (s.d d) = g (s.d d)) :
    s.upd d f = s.upd d g := by
  rw [Chip.d] at h
  rw [Chip.upd, h, Chip.upd]

/-! ### A change of the Yoke -/

theorem fly_onYoke (s : Chip) (d e : Fin 4) (f : YokeSt → YokeSt) : ((s.onYoke d f).d e).fly = (s.d e).fly := by
  rw [Chip.onYoke, Chip.d_upd]
  split
  · next h => rw [h]
  · rfl

theorem fly_setL (s : Chip) (d e : Fin 4) (D : Nat) (v : Word) : ((s.setL d D v).d e).fly = (s.d e).fly :=
  fly_onYoke ..

theorem wait_setL (s : Chip) (d : Fin 4) (D : Nat) (v : Word) :
    ((s.setL d D v).d d).yoke.wait = (s.d d).yoke.wait := by
  rw [Chip.setL, yoke_onYoke, YokeSt.put]
  split <;> rfl

/-! ### The S9 after an instruction: the Yoke alone has changed -/

theorem d_yokeAfter : (yokeAfter s d f).d e =
    { s.d e with yoke := if e = d then f { (s.d d).yoke with pc := ((s.d d).yoke.pc + 1) % 16384, passBp := false }
      else (s.d e).yoke } := by
  rw [yokeAfter, Chip.d_upd]
  split
  · next h => subst h; rfl
  · rfl

@[simp] theorem yoke_yokeAfter : ((yokeAfter s d f).d d).yoke =
    f { (s.d d).yoke with pc := ((s.d d).yoke.pc + 1) % 16384, passBp := false } := by
  rw [d_yokeAfter, if_pos rfl]

@[simp] theorem tick_yokeAfter : ((yokeAfter s d f).d e).tick = (s.d e).tick := by rw [d_yokeAfter]
@[simp] theorem tb_yokeAfter : ((yokeAfter s d f).d e).tb = (s.d e).tb := by rw [d_yokeAfter]
@[simp] theorem fly_yokeAfter : ((yokeAfter s d f).d e).fly = (s.d e).fly := by rw [d_yokeAfter]
@[simp] theorem now_yokeAfter : (yokeAfter s d f).now e = s.now e := by rw [Chip.now, tb_yokeAfter, Chip.now]
@[simp] theorem elapsed_yokeAfter : elapsed (yokeAfter s d f) e = elapsed s e := by simp [elapsed]

@[simp] theorem reg_yokeAfter (j : Nat) : (yokeAfter s d f).reg e j = s.reg e j :=
  Chip.reg_upd s d e j _ fun _ => rfl
@[simp] theorem fld_yokeAfter (x : Fld) : (yokeAfter s d f).fld e x = s.fld e x := by simp [Chip.fld]
@[simp] theorem flag_yokeAfter (x : Fld) : (yokeAfter s d f).flag e x = s.flag e x := by simp [Chip.flag]

@[simp] theorem l_yokeAfter_id (A : Nat) : (yokeAfter s d id).l d A = s.l d A := by
  rw [Chip.l, yoke_yokeAfter]; rfl

/-- A further change of the Yoke is part of the instruction. -/
@[simp] theorem onYoke_yokeAfter : (yokeAfter s d f).onYoke d g = yokeAfter s d fun y => g (f y) :=
  Chip.upd_upd ..

@[simp] theorem setL_yokeAfter (D : Nat) (v : Word) :
    (yokeAfter s d f).setL d D v = yokeAfter s d fun y => (f y).put D v := onYoke_yokeAfter ..

@[simp] theorem code_yokeAfter (c : Nat) :
    (yokeAfter s d f).code d c = yokeAfter s d fun y => (f y).put 15 (BitVec.ofNat 32 c) := setL_yokeAfter ..

end

/-- Two changes that agree on the Yoke that issues give one S9. -/
theorem yokeAfter_congr {s : Chip} {d : Fin 4} {f g : YokeSt → YokeSt}
    (h : f { (s.d d).yoke with pc := ((s.d d).yoke.pc + 1) % 16384, passBp := false } =
      g { (s.d d).yoke with pc := ((s.d d).yoke.pc + 1) % 16384, passBp := false }) :
    yokeAfter s d f = yokeAfter s d g := by
  exact Chip.upd_congr (congrArg (fun y => { s.d d with yoke := y }) h)

/-! ### Issue -/

section
variable {s : Chip} {d : Fin 4}

/-- A Yoke with an instruction to issue stands on a die that runs, in a tick. -/
theorem up_of_yokeReady (h : yokeReady s d = true) : up s d = true := by
  simp only [yokeReady, Bool.and_eq_true] at h
  obtain ⟨⟨⟨⟨⟨hup, -⟩, -⟩, -⟩, -⟩, -⟩ := h
  exact hup

/-- Nothing stops an instruction that the Yoke issues: it acts on the S9 with the address moved on. -/
theorem yIssue_of_issues (h : YokeIssues s d) {k : Chip → Chip × Bool} {x : Chip}
    (hk : k (yokeAfter s d id) = (x, true)) : yIssue d k s = x := by
  obtain ⟨hready, hrun, hreq, hbp⟩ := h
  have hstop : (if (s.d d).yoke.passBp then none else yBreak s d) = none := by
    rcases hbp with hbp | hbp <;> simp [hbp]
  have hgo : yGo s d k = x := by
    have hk' : k (s.onYoke d fun y => { y with pc := (y.pc + 1) % 16384, passBp := false }) = (x, true) := hk
    simp [yGo, hk', hrun]
  simp [yIssue, hready, hrun, hreq, hstop, hgo]

theorem yPlain_of_issues (h : YokeIssues s d) (k : Chip → Chip) : yPlain d k s = k (yokeAfter s d id) :=
  yIssue_of_issues h rfl

end

end Sys2Proof.Machine
end

section
/-! Yoke arithmetic, control and mailboxes (R114, R123, R126, R138, R184). -/

namespace Sys2Proof.Says

open Sys2Proof.Machine

/-- An instruction that always issues makes of the S9 what it makes of the one whose Yoke has moved on. -/
theorem gives_plain {c : Instr} {d : Fin 4} {s : State} {f : Chip → Chip} {k : Chip} (hi : YokeIssues s.chip d)
    (hx : exec c s = .next ⟨yPlain d f s.chip, s.pending⟩) (hk : f (yokeAfter s.chip d id) = k) : Gives c s k :=
  .of_effect hx ((yPlain_of_issues hi f).trans hk)

/-! ### Arithmetic -/

/-- l0 reads 0 and ignores writes; another register reads what was written last (R114). -/
theorem yokeSt_get_put (y : YokeSt) (v : Word) : y.get 0 = 0 ∧ y.put 0 v = y ∧
    ∀ D A : Fin 16, D ≠ 0 → (y.put D.val v).get A.val = if A = D then v else y.get A.val := by
  refine ⟨rfl, rfl, fun D A hD => ?_⟩
  split
  · next h => rw [h, y.get_put_same v (Fin.val_ne_zero_iff.2 hD)]
  · next h => exact y.get_put_ne v (Fin.val_ne_of_ne h)

/-- Settles O3: each instruction is the write of l[D] on the S9 whose Yoke has moved on, which reads what the
S9 read. -/
theorem yokeArithmeticWritesItsDestination : Obligations.YokeArithmeticWritesItsDestination := by
  unfold Obligations.YokeArithmeticWritesItsDestination
  refine ⟨fun d D A B K K16 s hi => ?_, yokeSt_get_put⟩
  have writes {c : Instr} {D : Nat} {v : Chip → Word} {w : Word}
      (hx : exec c s = .next ⟨yPlain d (fun k => k.setL d D (v k)) s.chip, s.pending⟩)
      (hv : v (yokeAfter s.chip d id) = w) : Gives c s (yokeAfter s.chip d fun y => y.put D w) :=
    gives_plain hi hx (by rw [setL_yokeAfter, hv]; rfl)
  refine ⟨gives_plain hi rfl rfl, writes rfl ?_, writes rfl ?_, writes rfl ?_, writes rfl ?_, writes rfl ?_,
    writes rfl ?_, writes rfl ?_, writes rfl ?_, writes rfl ?_, writes rfl ?_, writes rfl ?_, writes (v := fun _ => _) rfl rfl,
    writes (v := fun k => yRdtValue k d 0) rfl ?_, writes (v := fun k => yRdtValue k d 1) rfl ?_,
    writes (v := fun k => yRdtValue k d 2) rfl ?_, writes (v := fun k => yRdtValue k d 3) rfl ?_⟩
  all_goals simp [sextK, zextK, yRdtValue]

/-! ### Control -/

section
variable {d : Fin 4} {s : State}

/-- A branch moves to T when it is taken, and to the next word otherwise. -/
theorem gives_branch {c : Instr} {p : Chip → Bool} {T : BitVec 14} (hi : YokeIssues s.chip d)
    (hx : exec c s = .next ⟨yPlain d (fun k => yBranch k d (p k) T.toNat) s.chip, s.pending⟩) :
    Gives c s (if p (yokeAfter s.chip d id) then yokeAfter s.chip d fun y => { y with pc := T.toNat }
      else yokeAfter s.chip d id) :=
  gives_plain hi hx (by simp [yBranch, yJump, Nat.mod_eq_of_lt T.isLt])

/-- The tick program that ends stays at the address of its last instruction. -/
theorem yEnds_yokeAfter {s : Chip} (hpc : (s.d d).yoke.pc < 2 ^ 14) :
    yEnds (yokeAfter s d id) d = yokeAfter s d fun y => { y with run := false, pc := (s.d d).yoke.pc } := by
  have h : (((s.d d).yoke.pc + 1) % 16384 + 16383) % 16384 = (s.d d).yoke.pc := by omega
  rw [yEnds, onYoke_yokeAfter]
  exact yokeAfter_congr (by simp only [id, h])

end

/-- A Yoke that WAITT stalls goes on once the offset is reached. -/
theorem gives_waittResume {d : Fin 4} {s : State} {off : Nat} (hup : up s.chip d = true)
    (hw : (s.chip.d d).yoke.wait = .till off) :
    Gives (.waittResume d) s (if off ≤ elapsed s.chip d then
      s.chip.upd d fun x => { x with yoke := { x.yoke with wait := .none } } else s.chip) :=
  .of_effect rfl ((whenUp_of_up hup _).trans (by rw [hw]; rfl))

/-- A record made at an instruction is the one that the S9 would have made before it. -/
theorem mkRec_yokeAfter (s : Chip) (d e : Fin 4) (f : YokeSt → YokeSt) (src kind : Nat) (t : Fin 256) (pay : Nat)
    (basted g2 : Bool) : mkRec (yokeAfter s d f) e src kind t pay basted g2 = mkRec s e src kind t pay basted g2 := by
  simp [mkRec, uncertain]

/-- The Yoke leaves the stores and the registers of every die alone. -/
theorem storesKept_yokeAfter (s : Chip) (d : Fin 4) (f : YokeSt → YokeSt) : StoresKept s (yokeAfter s d f) := by
  intro e
  rw [d_yokeAfter]
  exact ⟨rfl, rfl, rfl, rfl, rfl, rfl, rfl⟩

theorem StoresKept.trans {s m k : Chip} (h : StoresKept s m) (h' : StoresKept m k) : StoresKept s k := fun e => by
  simpa only [h e] using h' e

theorem reaches_yokeIllegalOpcode {d : Fin 4} {s : State} (hi : YokeIssues s.chip d)
    (hpc : (s.chip.d d).yoke.pc < 2 ^ 14) :
    Reaches (.yokeIllegalOpcode d) s fun k =>
      (k.d d).yoke = { (s.chip.d d).yoke with run := false, passBp := false } ∧
      (k.d d).fly = (s.chip.d d).fly ++ [mkRec s.chip d 0x003 K.YOKEFLT 0 (s.chip.d d).yoke.pc false false] ∧
      StoresKept s.chip k ∧ RegsKept s.chip k 0 [(Rf.EVT_KCOUNT_COUNT.at K.YOKEFLT).key] := by
  obtain ⟨m, hm⟩ : ∃ m, m = yokeAfter s.chip d fun y => { y with run := false, pc := (s.chip.d d).yoke.pc } := ⟨_, rfl⟩
  have hyoke : (m.d d).yoke = { (s.chip.d d).yoke with run := false, passBp := false } := by rw [hm, yoke_yokeAfter]
  refine .of_effect (k := raise m d yokeSrc K.YOKEFLT 0 (s.chip.d d).yoke.pc) rfl
    ((yPlain_of_issues hi _).trans ?_) ⟨?_, ?_, ?_, fun e j hj => ?_⟩
  · rw [yIllegal, yEnds_yokeAfter hpc, ← hm, hyoke]
  · rw [yoke_of_timing (timing_raise ..), hyoke]
  · rw [fly_raise, if_pos rfl, hm, fly_yokeAfter, mkRec_yokeAfter]
  · exact StoresKept.trans (hm ▸ storesKept_yokeAfter _ _ _) (onlyRegs_sendRec ..).storesKept
  · rw [reg_raise m d e _ _ _ _ (hj.imp_right (by simpa using ·)), hm, reg_yokeAfter]

/-- Settles O4: a branch chooses between T and the next word, END and an illegal opcode stay at their address, and
WAITT compares the offset with the time since the tick began. -/
theorem yokeControlMovesWaitsAndEnds : Obligations.YokeControlMovesWaitsAndEnds := by
  unfold Obligations.YokeControlMovesWaitsAndEnds
  refine ⟨fun d D A B T K s hi => ⟨gives_plain hi rfl ?_, ?_, ?_, ?_, ?_, gives_plain hi rfl ?_, gives_plain hi rfl ?_,
      fun hpc => gives_plain hi rfl (yEnds_yokeAfter hpc), gives_plain hi rfl ?_⟩,
    fun d off s hup hw => gives_waittResume hup hw, fun d s hi hpc => reaches_yokeIllegalOpcode hi hpc⟩
  · simp [yJump, Nat.mod_eq_of_lt T.isLt]
  · simpa using gives_branch (T := T) hi (c := .yBeq d A B T) rfl
  · simpa using gives_branch (T := T) hi (c := .yBne d A B T) rfl
  · simpa [BitVec.slt] using gives_branch (T := T) hi (c := .yBlt d A B T) rfl
  · rw [← ite_not]
    simpa [BitVec.slt] using gives_branch (T := T) hi (c := .yBge d A B T) rfl
  · simp only [setL_yokeAfter, yJump, onYoke_yokeAfter, Nat.mod_eq_of_lt T.isLt, yoke_yokeAfter]
    exact yokeAfter_congr rfl
  · simp [yJump]
  · simp only [yWait, elapsed_yokeAfter, l_yokeAfter_id, onYoke_yokeAfter, id]

/-! ### Messages -/

/-- A value whose low two bits are `d` names die `d`. -/
theorem ofNat_eq_of_mod {n : Nat} {d : Fin 4} (h : n % 4 = d.val) : Fin.ofNat 4 n = d := Fin.ext h

/-- A message to the own die goes behind the others, unless those and the ones under way fill the mailbox. -/
theorem ySend_own (s : Chip) (d : Fin 4) (v : Word) :
    ySend s d d v = if 8 ≤ (s.d d).yoke.mail.length + (s.d d).yoke.mailFly.length then s.code d 3
      else (s.onYoke d fun y => { y with mail := y.mail ++ [v] }).code d 0 := by simp [ySend]

/-- The oldest message under way arrives in a mailbox with room. -/
theorem mailArrive_room {s : Chip} {d : Fin 4} {v : Word} {vs : List Word} (hup : up s d = true)
    (hfly : (s.d d).yoke.mailFly = v :: vs) (hroom : (s.d d).yoke.mail.length < 8) :
    mailArrive d s = s.upd d fun x => { x with yoke := { x.yoke with mail := x.yoke.mail ++ [v], mailFly := vs } } :=
  (whenUp_of_up hup _).trans (Chip.upd_congr (by simp [hfly, hroom]))

/-- Settles O5: a message joins the mailbox at its end, and leaves it from its front. -/
theorem mailboxIsFirstInFirstOut : Obligations.MailboxIsFirstInFirstOut := by
  unfold Obligations.MailboxIsFirstInFirstOut
  intro d A B D s v vs hi
  dsimp only
  intro hd
  have sends {k : Chip} (hk : ySend (yokeAfter s.chip d id) d d (s.chip.l d B.val) = k) : Gives (.ySend d A B) s k :=
    gives_plain hi rfl (by simpa only [l_yokeAfter_id, ofNat_eq_of_mod hd] using hk)
  refine ⟨fun hroom => sends ?_, fun hfull => sends ?_, fun hempty => gives_plain hi rfl ?_,
    fun hmail => gives_plain hi rfl ?_,
    fun hfly hroom => .of_effect rfl (mailArrive_room (up_of_yokeReady hi.1) hfly hroom)⟩
  · rw [ySend_own, yoke_yokeAfter, id, if_neg (Nat.not_le.2 hroom), onYoke_yokeAfter, code_yokeAfter]
    exact yokeAfter_congr rfl
  · rw [ySend_own, yoke_yokeAfter, id, if_pos (Nat.le_add_right_of_le hfull), code_yokeAfter]
    exact yokeAfter_congr rfl
  · simp only [yRecv, yoke_yokeAfter, id, hempty, code_yokeAfter]
    exact yokeAfter_congr (by rw [← hempty]; rfl)
  · simp only [yRecv, yoke_yokeAfter, id, hmail, onYoke_yokeAfter, setL_yokeAfter, code_yokeAfter]
    rfl

/-! ### Values that name no tenant -/

/-- A register value above 255 names no tenant (R126). -/
theorem tenOf_eq_none {v : Word} (h : 255 < v.toNat) : tenOf v = none := if_neg (by omega)

/-- Settles O6: where the value names no tenant, each instruction takes its first branch. -/
theorem tenantValueAbove255IsRange : Obligations.TenantValueAbove255IsRange := by
  unfold Obligations.TenantValueAbove255IsRange
  intro d D A B F s hi
  have range {c : Instr} {f : Chip → Chip} (hx : exec c s = .next ⟨yPlain d f s.chip, s.pending⟩)
      (hf : f (yokeAfter s.chip d id) = (yokeAfter s.chip d id).code d 9) : Gives c s (reports s.chip d 9) :=
    gives_plain hi hx (hf.trans (code_yokeAfter ..))
  refine ⟨fun h => .of_effect rfl (yIssue_of_issues hi ?_), fun h => ?_⟩
  · simp only [l_yokeAfter_id, tenOf_eq_none h, code_yokeAfter]
    rfl
  · have hno : tenOf ((yokeAfter s.chip d id).l d A.val) = none := by rw [l_yokeAfter_id, tenOf_eq_none h]
    refine ⟨range rfl ?_, range rfl ?_, range rfl ?_, range rfl ?_, gives_plain hi rfl ?_⟩
    · simp only [yDisp, hno]
    · simp only [yVerdict, hno]
    · simp only [yVerdict, hno]
    · simp only [yDraw, hno]
    · simp only [yLedger, hno, setL_yokeAfter, id]

end Sys2Proof.Says
end

section
/-! The Yoke's accesses to registers and to the scratchpad (R123, R125, R127, R128). -/

namespace Sys2Proof.Says

open Sys2Proof.Machine

/-- l15 reads the result code that has been written into it. -/
theorem l_code (s : Chip) (d : Fin 4) (c : Nat) : (s.code d c).l d 15 = BitVec.ofNat 32 c :=
  l_setL_same s d _ (by decide)

/-- A load writes l[D] and then its result code. -/
theorem loads_setL_code (s : Chip) (d : Fin 4) (D : Fin 16) (v : Word) (c : Nat) :
    Loads ((s.setL d D.val v).code d c) d D v c := by
  refine ⟨l_code .., fun h0 h15 => ?_⟩
  rw [Chip.code, l_setL_ne (D := 15) _ _ _ (Fin.val_ne_of_ne h15), l_setL_same _ _ _ (Fin.val_ne_zero_iff.2 h0)]

/-! ### One equation for each way an access can go -/

section
variable {s : Chip} {d : Fin 4} {a : Word} {lane : Nat} (D : Nat) (hp : yPosted s d = false)
include hp

theorem yLdr_fault (ho : regAddrOk (a.toNat % 2 ^ 30) = false) :
    yLdr s d D a = (((yRegFault s d a).setL d D 0).code d 11, true) := by
  simp only [yLdr, hp, ho]
  rfl

theorem yStr_fault (ho : regAddrOk (a.toNat % 2 ^ 30) = false) :
    yStr s d D a = ((yRegFault s d a).code d 11, true) := by
  simp only [yStr, hp, ho]
  rfl

theorem yLdr_own (ho : regAddrOk (a.toNat % 2 ^ 30) = true) (he : Fin.ofNat 4 (a.toNat / 2 ^ 30) = d) :
    yLdr s d D a =
      (((regRead s d 0 (a.toNat % 2 ^ 30 / 2 ^ 24) (a.toNat % 2 ^ 30 % 2 ^ 24)).1.setL d D
        (regRead s d 0 (a.toNat % 2 ^ 30 / 2 ^ 24) (a.toNat % 2 ^ 30 % 2 ^ 24)).2).code d 0, true) := by
  simp only [yLdr, hp, ho, if_pos he]
  rfl

theorem yStr_own (ho : regAddrOk (a.toNat % 2 ^ 30) = true) (he : Fin.ofNat 4 (a.toNat / 2 ^ 30) = d) :
    yStr s d D a =
      ((regWrite s d 0 (a.toNat % 2 ^ 30 / 2 ^ 24) (a.toNat % 2 ^ 30 % 2 ^ 24) (s.l d D)).code d 0, true) := by
  simp only [yStr, hp, ho, if_pos he]
  rfl

theorem yLdr_remote (ho : regAddrOk (a.toNat % 2 ^ 30) = true) (he : Fin.ofNat 4 (a.toNat / 2 ^ 30) ≠ d) :
    yLdr s d D a =
      ((remoteAdd s d (Fin.ofNat 4 (a.toNat / 2 ^ 30)) (.yoke (some (Fin.ofNat 16 D))) 0
        (.regRead (a.toNat % 2 ^ 30) 4) false).onYoke d fun y => { y with wait := .remote s.nextId }, true) := by
  simp only [yLdr, hp, ho, if_neg he]
  rfl

theorem yStr_remote (ho : regAddrOk (a.toNat % 2 ^ 30) = true) (he : Fin.ofNat 4 (a.toNat / 2 ^ 30) ≠ d) :
    yStr s d D a =
      (remoteAdd s d (Fin.ofNat 4 (a.toNat / 2 ^ 30)) (.yoke none) 0 (.regWrite (a.toNat % 2 ^ 30) 4 (s.l d D)) false,
        true) := by
  simp only [yStr, hp, ho, if_neg he]
  rfl

theorem yLdl_fault (hb : memWords .spad * 4 ≤ lane) :
    yLdl s d D lane = (((yLaneFault s d lane).setL d D 0).code d 11, true) := by
  simp only [yLdl, hp, if_pos hb]
  rfl

theorem yStl_fault (hb : memWords .spad * 4 ≤ lane) : yStl s d D lane = ((yLaneFault s d lane).code d 11, true) := by
  simp only [yStl, hp, if_pos hb]
  rfl

theorem yLdl_val (hb : lane < memWords .spad * 4) {q : Quadlane} {b : Bool}
    (hr : (readMem s d .spad (lane / 4) (2 ^ (lane % 4)) .outside).2 = .val q b) :
    yLdl s d D lane = (((readMem s d .spad (lane / 4) (2 ^ (lane % 4)) .outside).1.setL d D
      ((getLane q (lane % 4)).signExtend 32)).code d 0, true) := by
  simp only [yLdl, hp, if_neg (Nat.not_le.2 hb), hr]
  rfl

theorem yStl_done (hb : lane < memWords .spad * 4)
    (hw : (writeMem s d .spad (lane / 4) (2 ^ (lane % 4)) (splatLane (BitVec.ofNat 14 (s.l d D).toNat))
      .plain).2 = .done) :
    yStl s d D lane = ((writeMem s d .spad (lane / 4) (2 ^ (lane % 4))
      (splatLane (BitVec.ofNat 14 (s.l d D).toNat)) .plain).1.code d 0, true) := by
  simp only [yStl, hp, if_neg (Nat.not_le.2 hb), if_pos hw]
  rfl

end

/-- A new access joins those under way. -/
theorem length_remoteAdd (s : Chip) (d e : Fin 4) (init : RInit) (t : Fin 256) (op : ROp) (b : Bool) :
    (remoteAdd s d e init t op b).remotes.length = s.remotes.length + 1 := List.length_append

/-- Settles O9: each access takes the branch that its address chooses, and a load writes l[D] before its code. -/
theorem yokeMemoryAccessLoadsAndStores : Obligations.YokeMemoryAccessLoadsAndStores := by
  unfold Obligations.YokeMemoryAccessLoadsAndStores
  intro d D A K s hi hp
  dsimp only
  have hp1 : yPosted (yokeAfter s.chip d id) d = false := hp
  have hl : (yokeAfter s.chip d id).l d A.val + sextK K = s.chip.l d A.val + K.signExtend 32 := by
    rw [l_yokeAfter_id]; rfl
  have hD : (yokeAfter s.chip d id).l d D.val = s.chip.l d D.val := l_yokeAfter_id ..
  generalize s.chip.l d A.val + K.signExtend 32 = a at hl ⊢
  have ldr {x : Chip} (h : yLdr (yokeAfter s.chip d id) d D.val a = (x, true)) : Gives (.yLdr d D A K) s x :=
    .of_effect rfl (yIssue_of_issues hi (by rw [hl, h]))
  have str {x : Chip} (h : yStr (yokeAfter s.chip d id) d D.val a = (x, true)) : Gives (.yStr d D A K) s x :=
    .of_effect rfl (yIssue_of_issues hi (by rw [hl, h]))
  have ldl {x : Chip} (h : yLdl (yokeAfter s.chip d id) d D.val a.toNat = (x, true)) : Gives (.yLdl d D A K) s x :=
    .of_effect rfl (yIssue_of_issues hi (by rw [hl, h]))
  have stl {x : Chip} (h : yStl (yokeAfter s.chip d id) d D.val a.toNat = (x, true)) : Gives (.yStl d D A K) s x :=
    .of_effect rfl (yIssue_of_issues hi (by rw [hl, h]))
  refine ⟨fun ho => ⟨_, ldr (yLdr_fault _ hp1 ho), loads_setL_code ..⟩,
    fun ho => ⟨_, str (yStr_fault _ hp1 ho), l_code ..⟩,
    fun ho he => ⟨_, ldr (yLdr_own _ hp1 ho he), loads_setL_code ..⟩,
    fun ho he => str (by rw [yStr_own _ hp1 ho he, hD]),
    fun ho he => ⟨_, ldr (yLdr_remote _ hp1 ho he), ?_, ?_, rfl⟩,
    fun ho he => ⟨_, str (yStr_remote _ hp1 ho he), rfl, ?_, rfl⟩,
    fun hb => ⟨_, ldl (yLdl_fault _ hp1 hb), loads_setL_code ..⟩,
    fun hb => ⟨_, stl (yStl_fault _ hp1 hb), l_code ..⟩,
    fun q b hb hr => ⟨_, ldl (yLdl_val _ hp1 hb hr), loads_setL_code ..⟩,
    fun hb hw => stl (by rw [yStl_done _ hp1 hb (hD.symm ▸ hw), hD])⟩
  · rw [yoke_onYoke]
    rfl
  · exact length_remoteAdd ..
  · exact length_remoteAdd ..

end Sys2Proof.Says
end

section
/-! Accesses to another die: served, answered, and abandoned at the timeout (R146, R148). -/

namespace Sys2Proof.Says

open Sys2Proof.Machine

section
variable {s : Chip} {a : RAcc}

/-! ### At the target -/

/-- A request of the kind that arrives is served when both dies run, the Seam joins them, and no earlier one waits. -/
theorem requestArrives_serves (wr : Bool) (ha : s.remote a.id = some a) (hwr : a.op.writes = wr) (hs : a.served = false)
    (hup : up s a.target = true) (hr : reaches s a.die a.target = true) (hl : servedLater s a = false) :
    requestArrives wr a.id s = serve s a := by
  rw [requestArrives, ha]
  simp [hwr, hs, hup, hr, hl]

theorem serve_regRead {off n : Nat} (ho : a.op = .regRead off n) :
    serve s a = markServed (regRead s a.target a.ten (off / 2 ^ 24) (off % 2 ^ 24)).1 a
      (.word (regRead s a.target a.ten (off / 2 ^ 24) (off % 2 ^ 24)).2) := by
  simp only [serve, serveReg, ho]

theorem serve_regWrite {off n : Nat} {v : Word} (ho : a.op = .regWrite off n v) :
    serve s a = markServed (regWrite s a.target a.ten (off / 2 ^ 24) (off % 2 ^ 24) v) a .none := by
  simp only [serve, serveReg, ho]

/-! ### At the Yoke that waits -/

/-- An answer for the access that the Yoke waits for ends the wait and loads l[D]; what the die has sent and the other
accesses stay. -/
theorem yAnswer_waiting {d : Fin 4} {n : Nat} (hw : (s.d d).yoke.wait = .remote n) (D : Fin 16) (v : Word) (c : Nat) :
    Loads (yAnswer s d n (some D) v c) d D v c ∧ ((yAnswer s d n (some D) v c).d d).yoke.wait = .none ∧
      ((yAnswer s d n (some D) v c).d d).fly = (s.d d).fly ∧ (yAnswer s d n (some D) v c).remotes = s.remotes := by
  have heq : yAnswer s d n (some D) v c = ((s.onYoke d fun y => { y with wait := .none }).setL d D.val v).code d c := by
    simp [yAnswer, yWaits, hw]
  rw [heq]
  refine ⟨loads_setL_code .., ?_, ?_, rfl⟩
  · rw [Chip.code, wait_setL, wait_setL, yoke_onYoke]
  · rw [Chip.code, fly_setL, fly_setL, fly_onYoke]

/-- The answer to a served load reaches the Yoke, and the access is over. -/
theorem readResponse_load {D : Fin 16} {v : Word} (ha : s.remote a.id = some a) (hs : a.served = true)
    (hup : up s a.die = true) (hr : reaches s a.target a.die = true) (hab : a.abandoned = false)
    (hi : a.init = .yoke (some D)) (hv : a.data = .word v) :
    readResponse a.id s = yAnswer (dropRemote s a) a.die a.id (some D) v 0 := by
  rw [readResponse, ha]
  simp [hs, hup, hr, hab, hi, hv]

/-- At its timeout a load is abandoned: the event is raised, and the Yoke goes on with code 7. -/
theorem remoteTimeout_load {D : Fin 16} (ha : s.remote a.id = some a) (hab : a.abandoned = false)
    (hup : up s a.die = true) (hdue : rtoDue s a = true) (hi : a.init = .yoke (some D)) :
    remoteTimeout a.id s = yAnswer (raise { s with remotes := s.remotes.map fun b =>
      if b.id == a.id then { b with abandoned := true } else b } a.die yokeSrc K.RTIMEOUT a.ten a.target.val) a.die a.id
      (some D) 0 7 := by
  rw [remoteTimeout, ha]
  simp [hup, hdue, hab, hi, abandonAt, initSource]

end

/-- Settles O11: a request that arrives is served, and an answer or the timeout ends the wait of the Yoke. -/
theorem remoteAccessServedAnsweredOrAbandoned : Obligations.RemoteAccessServedAnsweredOrAbandoned := by
  unfold Obligations.RemoteAccessServedAnsweredOrAbandoned
  intro s a off n v D ha
  refine ⟨fun hs hup hr hl ho => ?_, fun hs hup hr hl ho => ?_, fun hs hup hr hab hi hv hw => ?_,
    fun hab hup hdue hi hw => ?_⟩
  · exact .of_effect rfl ((requestArrives_serves false ha (by rw [ho]; rfl) hs hup hr hl).trans (serve_regRead ho))
  · exact .of_effect rfl ((requestArrives_serves true ha (by rw [ho]; rfl) hs hup hr hl).trans (serve_regWrite ho))
  · obtain ⟨hload, hwait, -, hrem⟩ := yAnswer_waiting (s := dropRemote s.chip a) hw D v 0
    refine .of_effect rfl (readResponse_load ha hs hup hr hab hi hv) ⟨hload, hwait, fun b hb => ?_⟩
    rw [hrem] at hb
    simpa [dropRemote] using (List.mem_filter.1 hb).2
  · refine .of_effect rfl (remoteTimeout_load ha hab hup hdue hi) ?_
    generalize hm : ({ s.chip with remotes := _ } : Chip) = m
    have hw' : ((raise m a.die yokeSrc K.RTIMEOUT a.ten a.target.val).d a.die).yoke.wait = .remote a.id := by
      rw [yoke_of_timing (timing_raise ..), ← hm]
      exact hw
    obtain ⟨hload, hwait, hfly, -⟩ := yAnswer_waiting hw' D 0 7
    obtain ⟨r, hr, hkind, hten, -⟩ := sent_raise m a.die yokeSrc K.RTIMEOUT a.ten a.target.val
    exact ⟨hload, hwait, r, hfly ▸ hr, hkind, hten⟩

end Sys2Proof.Says
end

section
/-! The work of a tenant that the Yoke names (R133, R137, R206 to R209). -/

namespace Sys2Proof.Says

open Sys2Proof.Machine

/-- A work item of tenant 5 that costs 1,000 nJ. -/
def strayItem : WorkItem :=
  { ten := 5, cmd := none, first := 0, count := 1, args := [], entry := 0, unpick := 0, cost := 1000 }

/-- The Yoke of die 0 runs in PROCESS with the set of cluster 0 in l2, reservations are capped, and the item of tenant 5
lies in the work queue of tenant 0, which no cap refuses. -/
def strayQueue : State :=
  { chip := (Chip.reset.upd 0 fun x =>
      { x with
        yoke := { x.yoke with l := [(2, 0x100)], run := true, prog := true }
        tick := { x.tick with phase := .process }
        workq := [(0, [strayItem])] }).setFld 0 Rf.LEDGER_STAT_CAPLEVEL 1 }

/-- Refutes O8: DISP reserves for the tenant of the item, and the statement asks that the tenant of the queue may
reserve. -/
theorem not_workInstructionsActForTenant : ¬ Obligations.WorkInstructionsActForTenant := by
  unfold Obligations.WorkInstructionsActForTenant
  intro h
  obtain ⟨hdisp, -⟩ := h 0 3 1 2 0 0 strayQueue strayItem [] 0 1 (by decide +kernel) (by decide +kernel)
  obtain ⟨k, hk, ⟨hcode, -⟩, -⟩ := hdisp (by decide +kernel) (by decide +kernel) (by decide +kernel) (by decide +kernel)
    (by decide +kernel)
  rw [(gives_iff rfl).1 hk] at hcode
  exact absurd hcode (by decide +kernel)

end Sys2Proof.Says
end

section
/-! Service calls and RELOAD (R139, R140). -/

namespace Sys2Proof.Machine

open Sys2Proof.Says

section
variable (s : Chip) (d e : Fin 4) (f : YokeSt → YokeSt)

/-! ### What an instruction reads beside the Yoke -/

@[simp] theorem hem_yokeAfter : ((yokeAfter s d f).d e).hem = (s.d e).hem := by rw [d_yokeAfter]
@[simp] theorem wdog_yokeAfter : ((yokeAfter s d f).d e).wdog = (s.d e).wdog := by rw [d_yokeAfter]
@[simp] theorem present_yokeAfter (u : Nat) : present (yokeAfter s d f) e u = present s e u := by simp [present]
@[simp] theorem wdogIsOpen_yokeAfter : wdogIsOpen (yokeAfter s d f) e = wdogIsOpen s e := by
  unfold wdogIsOpen wdogOpen wdogF wdogCount wdogFull
  rw [wdog_yokeAfter, hem_yokeAfter]

theorem reg_onYoke (j : Nat) : (s.onYoke d f).reg e j = s.reg e j := Chip.reg_upd s d e j _ fun _ => rfl

theorem fld_code (c : Nat) (x : Fld) : (s.code d c).fld e x = s.fld e x := by
  rw [Chip.fld, Chip.code, Chip.setL, reg_onYoke, Chip.fld]

/-! ### The watchdog -/

/-- A service that is accepted restarts the count (R831). -/
theorem count_wdogServe (host : Bool) : ((wdogServe s d host).d d).wdog.count = 0 ∧
    ((wdogServe s d host).d d).wdog.running = (s.d d).wdog.running := by
  unfold wdogServe
  split <;> simp [wdogReload, Chip.onWdog, Chip.addFld]

theorem svcWdog_open {s : Chip} {d : Fin 4} (h : wdogIsOpen s d = true) (strict : Bool) :
    svcWdog s d strict = wdogServe s d false := by
  have hrun : (s.d d).wdog.running = true := by
    simp only [wdogIsOpen, Bool.and_eq_true] at h
    obtain ⟨⟨hrun, -⟩, -⟩ := h
    exact hrun
  simp [svcWdog, h, hrun]

/-! ### The interlock -/

theorem ilkState_ilkRaise (kind pay : Nat) : ilkState (ilkRaise s kind pay) = ilkState s := by
  unfold ilkRaise
  split
  · refine fld_raise _ _ _ _ _ _ _ ?_
    simp only [Fld.key, Fld.at, Rf.ILK_STAT_STATE, Rf.EVT_KCOUNT_COUNT]
    omega
  · rfl

theorem ilk_ilkRaise (kind pay : Nat) : (ilkRaise s kind pay).ilk = s.ilk := by
  unfold ilkRaise
  split <;> rfl

end

/-- A clear request is accepted in FAULT when both channels have been safe for the time it takes (R473): the interlock
is in NORMAL and counts no disagreement. -/
theorem ilkClear_accepted {s : Chip} (hs : ilkState s = 3) (hsafe : 100002000 ≤ s.ilk.safe) :
    ilkState (ilkClear s) = 1 ∧ (ilkClear s).ilk.disc = 0 := by
  obtain ⟨m, hm⟩ : ∃ m, m = ((s.setFld 0 Rf.ILK_STAT_STATE 1).setFld 0 Rf.ILK_STAT_CLEARED 1).setFld 0
    Rf.ILK_STAT_REFUSED 0 := ⟨_, rfl⟩
  have heq : ilkClear s = ilkRaise { m with ilk := { m.ilk with disc := 0, block := true } } K.ILKCLEAR 0 := by
    rw [hm, ilkClear, if_neg (by omega), if_pos hsafe]
  have hst : ilkState m = 1 := by
    rw [ilkState, hm, Chip.fld_setFld_disjoint (f := Rf.ILK_STAT_REFUSED)
        (g := Rf.ILK_STAT_STATE) _ _ _ rfl (by decide) (by decide),
      Chip.fld_setFld_disjoint (f := Rf.ILK_STAT_CLEARED) (g := Rf.ILK_STAT_STATE) _ _ _ rfl (by decide)
        (by decide), Chip.fld_setFld_same _ _ _ _ (by decide)]
    rfl
  exact ⟨by rw [heq, ilkState_ilkRaise]; exact hst, by rw [heq, ilk_ilkRaise]⟩

/-- A masked vector that is signalled becomes pending (R172). -/
theorem pba_signalVector_masked {s : Chip} {v : Nat} (h : vecMasked s v = true) :
    mapGet (fun _ => false) (signalVector s v).pba v = true := by
  simp [signalVector, h]

/-! ### RELOAD -/

section
variable {s : Chip} {d : Fin 4} {a : Nat} (b : Nat)

/-- A RELOAD with bad fields, or of a region that is not valid, is out of range. -/
theorem yReload_range
    (h : a / 64 % 4 ≠ 0 ∨ a / 1024 ≠ 0 ∨ s.flag d (Rf.CLK_REGION_VALID.at (a % 64)) = false) :
    yReload s d a b = s.code d 9 := by
  rw [yReload, if_pos (by simpa using h)]

/-- Before SLACK a RELOAD waits for it. -/
theorem yReload_waits (h1 : a / 64 % 4 = 0) (h2 : a / 1024 = 0)
    (hv : s.flag d (Rf.CLK_REGION_VALID.at (a % 64)) = true) (hp : present s (Fin.ofNat 4 (a / 256)) 0x0F = true)
    (hph : (s.d d).tick.phase ≠ .slack) :
    yReload s d a b = s.onYoke d fun y =>
      { y with wait := .slack (a % 64) ((Fin.ofNat 4 (a / 256)).val * 2 ^ 38 + b * 64) } := by
  rw [yReload, if_neg (by simp [h1, h2, hv]), if_neg (by rw [hp]; decide), if_neg hph]

end

end Sys2Proof.Machine

namespace Sys2Proof.Says

open Sys2Proof.Machine

/-- Where the Yoke of a die stays, its registers read as before. -/
theorem l_of_timing {s k : Chip} (h : timing k.die = timing s.die) (d : Fin 4) (A : Nat) : k.l d A = s.l d A := by
  rw [Chip.l, yoke_of_timing h, Chip.l]

theorem reaches_svcWdog {d : Fin 4} {A : Fin 16} {s : State} (hi : YokeIssues s.chip d)
    (ho : wdogIsOpen s.chip d = true) :
    Reaches (.svcWdog d A) s fun k => k.l d 15 = 0 ∧ (k.d d).wdog.count = 0 ∧ (k.d d).wdog.running = true := by
  obtain ⟨m, hm⟩ : ∃ m, m = (yokeAfter s.chip d id).code d 0 := ⟨_, rfl⟩
  have hopen : wdogIsOpen m d = true := by rw [hm, code_yokeAfter, wdogIsOpen_yokeAfter, ho]
  obtain ⟨hcount, hrun⟩ := count_wdogServe m d false
  refine .of_effect rfl ((yPlain_of_issues hi _).trans (hm ▸ svcWdog_open hopen _)) ⟨?_, hcount, ?_⟩
  · rw [l_of_timing (timing_wdogServe ..), hm, l_code]
    rfl
  · simp only [wdogIsOpen, Bool.and_eq_true] at hopen
    obtain ⟨⟨h, -⟩, -⟩ := hopen
    rw [hrun, h]

/-- Settles O10: each service acts on the S9 whose Yoke has moved on, and writes its result code. -/
theorem serviceCallsAndReloadTakeEffect : Obligations.ServiceCallsAndReloadTakeEffect := by
  unfold Obligations.ServiceCallsAndReloadTakeEffect
  intro d A B s hi
  refine ⟨reaches_svcWdog hi, .of_effect rfl (yPlain_of_issues hi _) ⟨l_code .., ?_⟩,
    .of_effect rfl (yPlain_of_issues hi _) ⟨l_code .., ?_⟩, ?_, ?_, ?_, ?_⟩
  · rw [Chip.code, fly_setL, fly_raise, if_pos rfl, fly_yokeAfter, mkRec_yokeAfter, l_yokeAfter_id]
  · intro hmask
    rw [l_yokeAfter_id]
    exact pba_signalVector_masked (s := yokeAfter s.chip d id) hmask
  · intro hd
    refine .of_effect rfl ((yPlain_of_issues hi _).trans (if_neg fun h => hd h.1)) (l_code ..)
  · rintro rfl hp hs hsafe
    have hp' : present (yokeAfter s.chip 0 id) 0 9 = true := by rw [present_yokeAfter, hp]
    obtain ⟨hst, hdisc⟩ := ilkClear_accepted (s := yokeAfter s.chip 0 id)
      (by rw [ilkState, fld_yokeAfter]; exact hs) hsafe
    refine .of_effect rfl ((yPlain_of_issues hi _).trans (if_pos ⟨rfl, hp'⟩)) ⟨l_code .., ?_, hdisc⟩
    rw [ilkState, fld_code]
    exact hst
  · intro h
    refine gives_plain hi rfl ?_
    rw [l_yokeAfter_id, yReload_range _ (by simpa using h), code_yokeAfter]
    rfl
  · intro h1 h2 hv hp hph
    refine gives_plain hi rfl ?_
    simp only [l_yokeAfter_id]
    rw [yReload_waits _ h1 h2 (by simpa using hv) (by rw [present_yokeAfter, hp]) (by simpa using hph),
      onYoke_yokeAfter]
    rfl

end Sys2Proof.Says
end

section
/-! Host queues: doorbells, fetched commands, MOVE and completions (R163 to R171, R188, R371). -/

namespace Sys2Proof.Machine

/-! ### What a tenant may access does not depend on registers beside the descriptors (R144) -/

section
variable {α : Type} {p : Nat → Bool} {k : Nat}

theorem any_mapErase (hp : p k = false) (m : SMap α) : ((mapErase m k).any fun e => p e.1) = m.any fun e => p e.1 := by
  induction m with
  | nil => rfl
  | cons e m ih =>
    obtain ⟨j, v⟩ := e
    by_cases hj : j = k
    · simp [mapErase, hj, hp, ih]
    · simp [mapErase, hj, ih]

theorem any_mapInsert (hp : p k = false) (m : SMap α) (v : α) :
    ((mapInsert m k v).any fun e => p e.1) = m.any fun e => p e.1 := by
  induction m with
  | nil => simp [mapInsert, hp]
  | cons e m ih =>
    obtain ⟨j, w⟩ := e
    by_cases hj : k < j
    · simp [mapInsert, hj, hp]
    · simp [mapInsert, hj, ih]

/-- A key that no test is about can be written. -/
theorem any_mapPut [DecidableEq α] (hp : p k = false) (dflt : Nat → α) (m : SMap α) (v : α) :
    ((mapPut dflt m k v).any fun e => p e.1) = m.any fun e => p e.1 := by
  unfold mapPut
  split
  · exact any_mapErase hp m
  · rw [any_mapInsert hp, any_mapErase hp]

end

/-- The register with key `j` is the second word of a descriptor that covers the access. -/
def keyCovers (s : Chip) (d : Fin 4) (t : Fin 256) (wr : Bool) (off size j : Nat) : Bool :=
  let o := j - (1048576 + 0x10004)
  decide (1048576 + 0x10004 ≤ j) && o % 16 == 0 && decide (o / 16 < 1024) && descCovers s d (o / 16) t wr off size

/-- An access is permitted to tenant 0, and where some listed register covers it. -/
theorem permitted_eq (s : Chip) (d : Fin 4) (t : Fin 256) (wr : Bool) (off size : Nat) :
    permitted s d t wr off size = (t == 0 || (s.d d).regs.any fun e => keyCovers s d t wr off size e.1) := rfl

/-- What the range check of a move on die `d` reads is in `k` what it is in `s`. -/
structure SameRanges (s k : Chip) (d : Fin 4) : Prop where
  cfg : k.cfg = s.cfg
  state : k.fld 0 Rf.CFG_STAT_STATE = s.fld 0 Rf.CFG_STAT_STATE
  keysel : k.fld 0 Rf.CFG_STAT_KEYSEL = s.fld 0 Rf.CFG_STAT_KEYSEL
  frames : (k.d d).frames = (s.d d).frames
  permitted : ∀ t wr off n, permitted k d t wr off n = permitted s d t wr off n

namespace SameRanges

variable {s m k : Chip} {d : Fin 4}

theorem trans (h : SameRanges s m d) (h' : SameRanges m k d) : SameRanges s k d :=
  ⟨h'.cfg.trans h.cfg, h'.state.trans h.state, h'.keysel.trans h.keysel, h'.frames.trans h.frames,
    fun t wr off n => (h'.permitted t wr off n).trans (h.permitted t wr off n)⟩

/-- A change of a die beside its registers and its image. -/
theorem upd (s : Chip) (d : Fin 4) {f : DieSt → DieSt} (h : ∀ x, (f x).regs = x.regs ∧ (f x).frames = x.frames) :
    SameRanges s (s.upd d f) d := by
  have hfld (e : Fin 4) (g : Fld) : (s.upd d f).fld e g = s.fld e g := by
    rw [Chip.fld, Chip.reg_upd s d e g.key f fun x => (h x).1, Chip.fld]
  refine ⟨rfl, hfld .., hfld .., ?_, fun t wr off n => ?_⟩
  · rw [Chip.d_upd_same, (h _).2]
  · simp only [Machine.permitted, Chip.d_upd_same, (h _).1, descCovers, Chip.flag, hfld]

/-- The queues of the hosts play no part. -/
theorem withHosts (s : Chip) (hosts : SMap HostTen) (d : Fin 4) : SameRanges s { s with hosts := hosts } d :=
  ⟨rfl, rfl, rfl, rfl, fun _ _ _ _ => rfl⟩

/-- A field of the scratchpad's window is stored. -/
theorem setFld (s : Chip) (d : Fin 4) {f : Fld} (v : Nat) (h5 : 5 * 1048576 ≤ f.key) (h6 : f.key < 6 * 1048576) :
    SameRanges s (s.setFld d f v) d := by
  have hfld {g : Fld} (hg : g.key < 5 * 1048576 ∨ 6 * 1048576 ≤ g.key) (e : Fin 4) :
      (s.setFld d f v).fld e g = s.fld e g := Chip.fld_setFld_ne s v (.inr (by omega))
  refine ⟨rfl, hfld (by decide) 0, hfld (by decide) 0, by simp, fun t wr off n => ?_⟩
  have hrd {g : Fld} {i : Nat} (hi : i < 1024) (hu : g.unit = 1) (ho : g.off < 0x10010) (hs : g.stride = 16) :
      (s.setFld d f v).fld d (g.at i) = s.fld d (g.at i) :=
    hfld (.inl (by simp only [Fld.key, Fld.at, hu, hs]; omega)) d
  have hcov (j : Nat) : keyCovers (s.setFld d f v) d t wr off n j = keyCovers s d t wr off n j := by
    by_cases hi : (j - (1048576 + 0x10004)) / 16 < 1024
    · simp (disch := decide) only [keyCovers, descCovers, Chip.flag, hrd hi]
    · simp [keyCovers, hi]
  have hkey : keyCovers s d t wr off n f.key = false := by
    have hi : ¬ (f.key - (1048576 + 0x10004)) / 16 < 1024 := by omega
    simp [keyCovers, hi]
  have hregs : ((s.setFld d f v).d d).regs =
      mapPut regReset (s.d d).regs f.key (putBits (s.reg d f.key) f.lo f.w v) := by
    rw [Chip.setFld, Chip.setReg, Chip.d_upd_same]
  simp only [permitted_eq, hcov, hregs, any_mapPut hkey]

theorem keyWords (h : SameRanges s k d) (w n : Nat) : keyWords k d w n = keyWords s d w n := by
  unfold Machine.keyWords cfgLoading
  rw [h.cfg, h.state, h.keysel]

theorem fifoAmong (h : SameRanges s k d) (w n : Nat) : fifoAmong k d w n = fifoAmong s d w n := by
  unfold Machine.fifoAmong isFifo grainFrames
  rw [h.frames]

/-- The range check of a move gives what it gave (R373, R383). -/
theorem moveLanes (h : SameRanges s k d) (j : MoveJob) : moveLanes k d j = moveLanes s d j := by
  unfold Machine.moveLanes laneRange
  split
  · cases laneAt (j.lane % 2 ^ 38) with
    | none => rfl
    | some p =>
      dsimp only
      rw [h.keyWords, h.fifoAmong, h.permitted]
  · rfl

end SameRanges

/-! ### A MOVE command starts on a free channel (R371, R377, R392) -/

section
variable {s : Chip} {d : Fin 4} {m : Nat} {j : MoveJob}

/-- The registers of channels 0 to 3 of the movers lie in the scratchpad's window. -/
theorem movKey {f : Fld} (hm : m < 2) (hu : f.unit = 5) (ho : f.off < 0x2000) (hs : f.stride = 32) :
    5 * 1048576 ≤ (f.at m).key ∧ (f.at m).key < 6 * 1048576 := by
  simp only [Fld.key, Fld.at, hu, hs]
  omega

theorem sameRanges_showMove (s : Chip) (d : Fin 4) (hm : m < 2) (j : MoveJob) : SameRanges s (showMove s d m j) d := by
  have set (k : Chip) {f : Fld} (v : Nat) (hu : f.unit = 5) (ho : f.off < 0x2000) (hs : f.stride = 32) :
      SameRanges k (k.setFld d (f.at m) v) d := .setFld k d v (movKey hm hu ho hs).1 (movKey hm hu ho hs).2
  unfold showMove
  exact (set (f := Rf.SPAD_MOV_LANE_LO_LANE) _ _ rfl (by decide) rfl).trans <|
    (set (f := Rf.SPAD_MOV_LANE_HI_LANE) _ _ rfl (by decide) rfl).trans <|
    (set (f := Rf.SPAD_MOV_BYTE_LO_ADDR) _ _ rfl (by decide) rfl).trans <|
    (set (f := Rf.SPAD_MOV_BYTE_HI_ADDR) _ _ rfl (by decide) rfl).trans <|
    (set (f := Rf.SPAD_MOV_LEN_WORDS) _ _ rfl (by decide) rfl).trans <|
    (set (f := Rf.SPAD_MOV_CTL_DIR) _ _ rfl (by decide) rfl).trans <|
    (set (f := Rf.SPAD_MOV_CTL_LAYOUT) _ _ rfl (by decide) rfl).trans <|
    set (f := Rf.SPAD_MOV_CTL_TENANT) _ _ rfl (by decide) rfl

theorem hosts_showMove (s : Chip) (d : Fin 4) (m : Nat) (j : MoveJob) : (showMove s d m j).hosts = s.hosts := by
  simp [showMove]

/-- The byte side of a MOVE command is in host memory, of which the S9 checks the alignment only. -/
theorem moveBytesOk_of_cmd (hc : j.cmd.isSome = true) (k : Chip) : moveBytesOk k d j = moveBytesOk s d j := by
  simp [moveBytesOk, hc]

@[simp] theorem Chip.moveAt_setMove_same (s : Chip) (d : Fin 4) (m : Nat) (j : Option MoveJob) :
    (s.setMove d m j).moveAt d m = j := by simp [moveAt, setMove]

theorem Chip.fld_setMove (s : Chip) (d e : Fin 4) (m : Nat) (j : Option MoveJob) (f : Fld) :
    (s.setMove d m j).fld e f = s.fld e f :=
  congrArg (getBits · f.lo f.w) (Chip.reg_upd s d e f.key _ fun _ => rfl)

/-- A field of register `m` of a family reads as before another field of that register was stored. -/
theorem Chip.fld_setFld_at_disjoint (s : Chip) (d : Fin 4) {f g : Fld} (m v : Nat) (hk : (g.at m).key = (f.at m).key)
    (h : f.lo + f.w ≤ 32) (hd : g.lo + g.w ≤ f.lo ∨ f.lo + f.w ≤ g.lo) :
    (s.setFld d (f.at m) v).fld d (g.at m) = s.fld d (g.at m) := Chip.fld_setFld_disjoint s d v hk h hd

/-- A move whose range may be accessed runs on its channel, which is BUSY. -/
theorem moveStart_taken (hm : m < 2) (hc : j.cmd.isSome = true) (hlen : 0 < j.len)
    (hl : (moveLanes s d j).isSome = true) (hb : moveBytesOk s d j = true) :
    (moveStart s d m j).moveAt d m = some j ∧
      (moveStart s d m j).flag d (Rf.SPAD_MOV_STAT_BUSY.at m) = true ∧ (moveStart s d m j).hosts = s.hosts := by
  obtain ⟨k, hk⟩ : ∃ k, k = showMove s d m j := ⟨_, rfl⟩
  have hlanes : moveLanes k d j = moveLanes s d j := hk ▸ (sameRanges_showMove s d hm j).moveLanes j
  have heq : moveStart s d m j = (((k.setFld d (Rf.SPAD_MOV_STAT_BUSY.at m) 1).setFld d
      (Rf.SPAD_MOV_STAT_RESULT.at m) 0).setFld d (Rf.SPAD_MOV_STAT_DONE.at m) 0).setMove d m (some j) := by
    unfold moveStart
    rw [if_pos hm, ← hk, if_neg hlen.ne', hlanes, moveBytesOk_of_cmd hc k (s := s), hb,
      if_neg (by simpa [Option.isSome_iff_ne_none] using hl)]
    rfl
  rw [heq]
  refine ⟨?_, ?_, ?_⟩
  · exact Chip.moveAt_setMove_same ..
  · rw [Chip.flag, Chip.fld_setMove,
      Chip.fld_setFld_at_disjoint (f := Rf.SPAD_MOV_STAT_DONE) (g := Rf.SPAD_MOV_STAT_BUSY) _ _ _ _ rfl (by decide)
        (by decide),
      Chip.fld_setFld_at_disjoint (f := Rf.SPAD_MOV_STAT_RESULT) (g := Rf.SPAD_MOV_STAT_BUSY) _ _ _ _ rfl (by decide)
        (by decide),
      Chip.fld_setFld_same _ d (Rf.SPAD_MOV_STAT_BUSY.at m) _ (by simp [Fld.at, Rf.SPAD_MOV_STAT_BUSY])]
    rfl
  · rw [← hosts_showMove s d m j, ← hk]
    rfl

/-- A MOVE command that reaches a die where none waits and the channel whose turn it is is free runs there. -/
theorem moveAdd_runs (hc : j.cmd.isSome = true) (hq : (s.d d).moveQ = []) (hfree : s.moveAt d (s.d d).moveTurn = none)
    (hturn : (s.d d).moveTurn < 2) (hlen : 0 < j.len) (hl : (moveLanes s d j).isSome = true)
    (hb : moveBytesOk s d j = true) :
    (moveAdd s d j).moveAt d (s.d d).moveTurn = some j ∧
      (moveAdd s d j).flag d (Rf.SPAD_MOV_STAT_BUSY.at (s.d d).moveTurn) = true ∧ (moveAdd s d j).hosts = s.hosts := by
  obtain ⟨k, hk⟩ : ∃ k, k = s.upd d fun x => { x with moveQ := [], moveTurn := 1 - (s.d d).moveTurn } := ⟨_, rfl⟩
  have hadd : moveAdd s d j = moveStart k d (s.d d).moveTurn j := by
    have hfree' : mapGet (fun _ => none) (s.d d).moves (s.d d).moveTurn = none := hfree
    simp [hk, moveAdd, movesGo, Chip.moveAt, hq, hfree', Chip.upd_upd]
  have hrange : SameRanges s k d := hk ▸ .upd s d fun _ => ⟨rfl, rfl⟩
  obtain ⟨hat, hbusy, hhosts⟩ := moveStart_taken (s := k) hturn hc hlen (by rw [hrange.moveLanes, hl])
    (by rw [moveBytesOk_of_cmd hc, hb])
  rw [hadd]
  exact ⟨hat, hbusy, hhosts.trans (hk ▸ rfl)⟩

end

/-! ### Doorbells and queue registers (R163, R164, R171, R188) -/

section
variable {s : Chip} {t : Fin 256} {v : Word}

theorem sqTail_taken (he : tenEnabled s t = true) (hq : (s.host t).sqEn = true) (hv : v.toNat < 2 ^ (s.host t).sqLog) :
    sqTail s t v = s.setHost t { s.host t with sqTail := v.toNat } := by simp [sqTail, he, hq, hv]

theorem sqTail_bad (he : tenEnabled s t = true) (h : (s.host t).sqEn = false ∨ 2 ^ (s.host t).sqLog ≤ v.toNat) :
    sqTail s t v = badDoorbell s t v := by
  rw [sqTail, if_neg (by simp [he]), if_pos (by simpa using h)]

theorem cqHead_taken (he : tenEnabled s t = true) (hq : (s.host t).cqEn = true) (hv : v.toNat < 2 ^ (s.host t).cqLog) :
    cqHead s t v = s.setHost t { s.host t with cqHead := v.toNat } := by simp [cqHead, he, hq, hv]

theorem sqCtl_enables (hq : (s.host t).sqEn = false) (hv : getBits v 4 1 = 1) :
    sqCtl s t v = s.setHost t { s.host t with sqEn := true, sqHead := 0, sqTail := 0 } := by simp [sqCtl, hq, hv]

theorem sqCtl_sizes (hq : (s.host t).sqEn = false) (hv : getBits v 4 1 = 0) :
    sqCtl s t v = s.setHost t { s.host t with sqLog := clampN 4 12 (getBits v 0 4) } := by simp [sqCtl, hq, hv]

theorem cqCtl_enables (hq : (s.host t).cqEn = false) (hv : getBits v 4 1 = 1) :
    cqCtl s t v = s.setHost t
      { s.host t with cqEn := true, cqHead := 0, cqTail := 0, phase := true, cqIrq := getBits v 5 1 == 1 } := by
  simp [cqCtl, hq, hv]

end

/-! ### A fetched command (R165, R169) -/

section
variable {s : Chip} {t : Fin 256} {c : List Word}

/-- A descriptor that passes the check waits for its start. -/
theorem settleCmds_of_good (hc : (s.host t).cmds = [c]) (hb : badWord c = none) : settleCmds s t = s := by
  have hhead : headCmd s t = none ∨ headCmd s t = some c := by
    simp only [headCmd, hc]
    split <;> simp
  rw [settleCmds, hc]
  rcases hhead with h | h <;> simp [badCmds, h, hb]

/-- One that fails it completes at once when it may start. -/
theorem settleCmds_of_bad {i : Nat} (hc : (s.host t).cmds = [c]) (hb : badWord c = some i) (hh : headCmd s t = some c) :
    settleCmds s t = complete (openCmd s t) t (cmdCompl c 9 i) := by
  simp [settleCmds, hc, badCmds, hh, hb]

/-- The machine with descriptor `c` fetched from tenant `t`'s queue: its only command, the head one place on. -/
def fetched (s : Chip) (t : Fin 256) (c : List Word) : Chip :=
  s.setHost t { s.host t with sqHead := ((s.host t).sqHead + 1) % 2 ^ (s.host t).sqLog, cmds := [c] }

theorem host_fetched (s : Chip) (t : Fin 256) (c : List Word) : (fetched s t c).host t =
    { s.host t with sqHead := ((s.host t).sqHead + 1) % 2 ^ (s.host t).sqLog, cmds := [c] } :=
  Chip.host_setHost_same ..

theorem commandFetch_fetches (hf : canFetch s t = true) (hc : (s.host t).cmds = []) :
    commandFetch t c s = settleCmds (fetched s t c) t := by
  simp [commandFetch, hf, hc, fetched]

/-- The fetched descriptor may start when no earlier command of its tenant holds it back. -/
theorem headCmd_fetched (ha : alive s = true) (hm : (s.host t).moving = false)
    (hfence : cmdFence c = true → (s.host t).open_ = 0) : headCmd (fetched s t c) t = some c := by
  have halive : alive (fetched s t c) = true := ha
  have hgo : (!cmdFence c || (s.host t).open_ == 0) = true := by
    cases hf : cmdFence c with
    | true => simp [hfence hf]
    | false => rfl
  simp [headCmd, host_fetched, halive, hm, hgo]

theorem alive_of_canFetch (h : canFetch s t = true) : alive s = true := by
  simp only [canFetch, Bool.and_eq_true] at h
  obtain ⟨⟨⟨⟨hlink, -⟩, -⟩, -⟩, -⟩ := h
  exact Says.alive_of_linkUp hlink

end

/-! ### NOP, RUN and MOVE at the command that may start (R167) -/

section
variable {s : Chip} {t : Fin 256} {c : List Word} (h : CmdReady s t c)
include h

theorem cmdNop_completes (hop : cmdOp c = 0) :
    startCmd s t 0 0x01 (fun s c => complete s t (cmdCompl c 0 0)) = complete (openCmd s t) t (cmdCompl c 0 0) :=
  h.startCmd_eq hop rfl ((cmds_complete ..).trans h.cmds_openCmd)

theorem cmdRun_queues (hop : cmdOp c = 1) (hroom : (s.workOf (cmdDie c) t).length < 16) :
    cmdRun s t = (openCmd s t).setWork (cmdDie c) t (s.workOf (cmdDie c) t ++ [runItem t c]) := by
  have hfull : workFull s t c = false := by simp [workFull, hroom]
  rw [cmdRun, h.alone, if_neg (by simp [hfull])]
  exact h.startCmd_eq hop rfl h.cmds_openCmd

/-- A MOVE whose range may be accessed runs on the free channel, and its tenant's later commands wait for it. -/
theorem cmdMove_runs (hop : cmdOp c = 5) (hq : (s.d (cmdDie c)).moveQ = [])
    (hfree : s.moveAt (cmdDie c) (s.d (cmdDie c)).moveTurn = none) (hturn : (s.d (cmdDie c)).moveTurn < 2)
    (hlen : 0 < (cmdMoveJob t c).len) (hl : (moveLanes s (cmdDie c) (cmdMoveJob t c)).isSome = true)
    (hb : moveBytesOk s (cmdDie c) (cmdMoveJob t c) = true) :
    (cmdMove s t).moveAt (cmdDie c) (s.d (cmdDie c)).moveTurn = some (cmdMoveJob t c) ∧
      (cmdMove s t).flag (cmdDie c) (Rf.SPAD_MOV_STAT_BUSY.at (s.d (cmdDie c)).moveTurn) = true ∧
      ((cmdMove s t).host t).moving = true := by
  obtain ⟨hosts, hm⟩ : ∃ hosts, (openCmd s t).setHost t { (openCmd s t).host t with moving := true } =
    { s with hosts := hosts } := ⟨_, rfl⟩
  have hhost : ({ s with hosts := hosts } : Chip).host t = { (openCmd s t).host t with moving := true } := by
    rw [← hm, Chip.host_setHost_same]
  obtain ⟨hat, hbusy, hhosts⟩ := moveAdd_runs (s := { s with hosts := hosts }) (j := cmdMoveJob t c) rfl hq hfree hturn
    hlen ((SameRanges.withHosts s hosts _).moveLanes _ ▸ hl) ((moveBytesOk_of_cmd rfl _).trans hb)
  have hkept : (moveAdd { s with hosts := hosts } (cmdDie c) (cmdMoveJob t c)).host t =
      { (openCmd s t).host t with moving := true } := by
    rw [Chip.host, hhosts]
    exact hhost
  have hmove : cmdMove s t = moveAdd { s with hosts := hosts } (cmdDie c) (cmdMoveJob t c) :=
    h.startCmd_eq hop (by rw [hm]) (by rw [hkept, h.cmds_openCmd])
  rw [hmove]
  exact ⟨hat, hbusy, by rw [hkept]⟩

end

/-! ### Completion entries (R168, R170) -/

section
variable {s : Chip} {t : Fin 256} {q : Compl} {qs : List Compl} (hq : (s.host t).compl = q :: qs)
include hq

/-- The oldest completion is written while the queue has room. -/
theorem completionWrite_room (hlink : linkUp s = true) (hen : (s.host t).cqEn = true)
    (hroom : ((s.host t).cqTail + 1) % 2 ^ (s.host t).cqLog ≠ (s.host t).cqHead) (hc : (s.host t).cmds = [])
    (hirq : q.irq = false) :
    completionWrite t s = (s.hostWrite ((s.host t).cqBase.toNat + 16 * (s.host t).cqTail)
      (complBytes q (s.host t).phase)).setHost t
        { s.host t with compl := qs, cqTail := ((s.host t).cqTail + 1) % 2 ^ (s.host t).cqLog,
                        phase := if ((s.host t).cqTail + 1) % 2 ^ (s.host t).cqLog = 0 then !(s.host t).phase
                          else (s.host t).phase } := by
  rw [completionWrite, hq]
  dsimp only
  rw [if_neg (by simp [hlink, hen, hroom]), hirq]
  simp only [Bool.false_and, Bool.false_eq_true, if_false]
  exact settleCmds_of_nil (by rw [Chip.host_setHost_same]; exact hc)

/-- A full queue takes nothing. -/
theorem completionWrite_full (hfull : ((s.host t).cqTail + 1) % 2 ^ (s.host t).cqLog = (s.host t).cqHead) :
    completionWrite t s = s := by
  rw [completionWrite, hq]
  exact if_pos (by simp [hfull])

end

end Sys2Proof.Machine

namespace Sys2Proof.Says

open Sys2Proof.Machine

/-- A descriptor that fails the check completes with BADCMD in its place, when nothing of its tenant holds it back. -/
theorem reaches_commandFetch_bad {t : Fin 256} {c : List Word} {s : State} {i : Nat} (hf : canFetch s.chip t = true)
    (hc : (s.chip.host t).cmds = []) (hb : badWord c = some i) (hm : (s.chip.host t).moving = false)
    (hfence : cmdFence c = true → (s.chip.host t).open_ = 0) :
    Reaches (.commandFetch t c) s fun k => ∃ q ∈ (k.host t).compl, q.cid = cmdCid c ∧ q.status = 9 ∧ q.detail = i := by
  refine .of_effect rfl ((commandFetch_fetches hf hc).trans
    (settleCmds_of_bad (by rw [host_fetched]) hb (headCmd_fetched (alive_of_canFetch hf) hm hfence))) ?_
  exact ⟨{ cmdCompl c 9 i with sqHead := ((openCmd (fetched s.chip t c) t).host t).sqHead }, by simp [complete],
    rfl, rfl, rfl⟩

/-- Settles O21: each write of a queue register is the change of one field or more of the tenant's queues, a command
that starts leaves the fetched ones, and a completion moves the tail. -/
theorem hostQueuesStartAndCompleteCommands : Obligations.HostQueuesStartAndCompleteCommands := by
  unfold Obligations.HostQueuesStartAndCompleteCommands
  refine ⟨fun t v s hup => ⟨fun he hq hv => ?_, fun he h => ?_, fun he hq hv => ?_, fun hq hv => ?_, fun hq hv => ?_,
      fun hq hv => ?_⟩,
    fun t c s i => ⟨fun hf hc hb => ?_, fun hf hc hb hm hfence => reaches_commandFetch_bad hf hc hb hm hfence,
      fun ⟨h1, h2, h3, h4, h5⟩ hop => ?_, fun ⟨h1, h2, h3, h4, h5⟩ hop hroom => ?_,
      fun ⟨h1, h2, h3, h4, h5⟩ hop hq hfree hturn hlen hl hb => ?_⟩,
    fun t q qs s hlink hq hen => ⟨fun hroom hc hirq => ?_, fun hfull => ?_⟩⟩
  · exact .of_effect rfl ((whenUp_of_up hup _).trans (sqTail_taken he hq hv))
  · exact .of_effect rfl ((whenUp_of_up hup _).trans (sqTail_bad he h)) ⟨rfl, sent_raise ..⟩
  · exact .of_effect rfl ((whenUp_of_up hup _).trans (cqHead_taken he hq hv))
  · exact .of_effect rfl ((whenUp_of_up hup _).trans (sqCtl_enables hq hv))
  · exact .of_effect rfl ((whenUp_of_up hup _).trans (sqCtl_sizes hq hv))
  · exact .of_effect rfl ((whenUp_of_up hup _).trans (cqCtl_enables hq hv))
  · exact .of_effect rfl ((commandFetch_fetches hf hc).trans
      (settleCmds_of_good (by rw [host_fetched]) hb))
  · have h : CmdReady s.chip t c := ⟨h1, h2, h3, h4, h5⟩
    exact .of_effect rfl (cmdNop_completes h hop) ⟨(cmds_complete ..).trans h.cmds_openCmd, told_complete ..⟩
  · have h : CmdReady s.chip t c := ⟨h1, h2, h3, h4, h5⟩
    refine .of_effect rfl (cmdRun_queues h hop hroom) ⟨?_, h.cmds_openCmd, ?_⟩
    · simp [Chip.workOf, Chip.setWork]
    · show ((openCmd s.chip t).host t).open_ = _
      rw [openCmd, Chip.host_setHost_same]
  · have h : CmdReady s.chip t c := ⟨h1, h2, h3, h4, h5⟩
    exact .of_effect rfl rfl (cmdMove_runs h hop hq hfree hturn hlen hl hb)
  · exact .of_effect rfl (completionWrite_room hq hlink hen hroom hc hirq)
  · exact .of_effect rfl (completionWrite_full hq hfull)

end Sys2Proof.Says
end

section
/-! The state after reset (R141, R190, R939): what the fuses, the rails and the load source decide stands in the
register files, and every other register reads its reset value. -/

namespace Sys2Proof.Machine

/-- A key that the map does not list reads as its default. -/
theorem mapGet_of_unlisted {α : Type} {dflt : Nat → α} {m : SMap α} {k : Nat} (h : k ∉ m.map Prod.fst) :
    mapGet dflt m k = dflt k := by
  induction m with
  | nil => rfl
  | cons e m ih =>
    obtain ⟨hne, hrest⟩ := not_or.1 (mt List.mem_cons.2 h)
    exact (if_neg (Ne.symm hne)).trans (ih hrest)

end Sys2Proof.Machine

namespace Sys2Proof.Says

open Sys2Proof.Machine

/-- The registers that the fuses, the rails and the load source decide. -/
def decidedKeys : List Nat :=
  [Rf.ILK_CEIL_CEIL.key, Rf.CFG_STAT_STATE.key, Rf.HEM_UNITEN_UNITEN.key, Rf.HEM_FEATEN_FEATEN.key,
    Rf.PWR_RAIL_VCORE.key]

theorem reset_lists_decided (d : Fin 4) : (Chip.reset.d d).regs.map Prod.fst ⊆ decidedKeys := by
  fin_cases d <;> decide

/-- Every other register reads its reset value. -/
theorem reg_reset {d : Fin 4} {j : Nat} (h : j ∉ decidedKeys) : Chip.reset.reg d j = regReset j :=
  mapGet_of_unlisted fun hj => h (reset_lists_decided d hj)

theorem reset_regs_wf (d : Fin 4) : mapWf regReset (Chip.reset.d d).regs = true := by
  fin_cases d <;> decide

/-- After reset every register file and memory is in its canonical form and both logs are empty. -/
theorem inv_reset : Inv State.reset := by
  refine ⟨fun d => ?_, Nat.zero_le _, Nat.zero_le _⟩
  obtain ⟨hmems, hcells⟩ := reset_memory d
  exact ⟨reset_regs_wf d, hmems .spad, hmems .cst, hmems .bmem, hmems .lining, by rw [hcells]; rfl⟩

/-- A tenant's control register resets with ENABLE clear and every bit of G2MASK set. -/
theorem regReset_tenCtl (t : Fin 256) : regReset (Rf.YOKE_TEN_CTL_ENABLE.at t.val).key = 0xFC := by
  have := t.isLt
  have hspec : regAt (1 * 1048576 + (0x400 + 4 * t.val)) = some (regsYOKE[3]'(by decide)) := by
    rw [regAt_key 1 (by omega)]
    refine findReg_getElem regsYOKE 3 (by decide) ?_ ?_
    · simp [regsYOKE, RegSpec.Has]
    · simp [regsYOKE, RegSpec.Has]; omega
  have hkey : (Rf.YOKE_TEN_CTL_ENABLE.at t.val).key = 1 * 1048576 + (0x400 + 4 * t.val) := rfl
  rw [hkey, regReset, hspec]
  rfl

/-- After reset only the supervisor is enabled (R141). -/
theorem tenEnabled_reset {t : Fin 256} (ht : t ≠ 0) : tenEnabled Chip.reset t = false := by
  have hkey : (Rf.YOKE_TEN_CTL_ENABLE.at t.val).key ∉ decidedKeys := by
    have := t.isLt
    simp [decidedKeys, Fld.key, Fld.at, Rf.YOKE_TEN_CTL_ENABLE, Rf.ILK_CEIL_CEIL, Rf.CFG_STAT_STATE,
      Rf.HEM_UNITEN_UNITEN, Rf.HEM_FEATEN_FEATEN, Rf.PWR_RAIL_VCORE]
    omega
  have hreg : Chip.reset.reg 0 (Rf.YOKE_TEN_CTL_ENABLE.at t.val).key = 0xFC :=
    (reg_reset hkey).trans (regReset_tenCtl t)
  have hflag : Chip.reset.flag 0 (Rf.YOKE_TEN_CTL_ENABLE.at t.val) = false := by
    rw [Chip.flag, Chip.fld, hreg]
    simp [getBits, Fld.at, Rf.YOKE_TEN_CTL_ENABLE]
  simp [tenEnabled, ht, hflag]

/-- After reset every die is up and idle, and its lane memory and DRAM list nothing. -/
theorem reset_die (d : Fin 4) : up Chip.reset d = true ∧ (Chip.reset.d d).tick.phase = .idle ∧
    (Chip.reset.d d).yoke.run = false ∧ (Chip.reset.d d).spad = [] ∧ (Chip.reset.d d).dram.cells = [] := by
  fin_cases d <;> exact ⟨rfl, rfl, rfl, rfl, rfl⟩

/-- Settles O60: the reset state lists only the registers that the fuses, the rails and the load source decide. -/
theorem resetHoldsInvariantAndTableValues : Obligations.ResetHoldsInvariantAndTableValues := by
  unfold Obligations.ResetHoldsInvariantAndTableValues
  refine ⟨inv_reset, rfl, rfl, rfl, by decide, fun t => tenEnabled_reset, rfl, fun d => ?_⟩
  obtain ⟨hup, hphase, hrun, hspad, hcells⟩ := reset_die d
  exact ⟨hup, hphase, hrun, hspad, hcells, fun j => reg_reset⟩

end Sys2Proof.Says
end

section
/-! What leaves the energy ledgers, the reservoir and the registers of LEDGER alone. -/

namespace Sys2Proof.Machine

/-- From `s` to `k` the ledger of every die, the reservoir and every register with a key below `b` are as they were. -/
structure LedgerKept (b : Nat) (s k : Chip) : Prop where
  led : ∀ e, k.led e = s.led e
  reservoir : k.reservoir = s.reservoir
  reservoirRem : k.reservoirRem = s.reservoirRem
  reg : ∀ e j, j < b → k.reg e j = s.reg e j

/-- The end of the window of LEDGER. -/
abbrev ledgerEnd : Nat := 3 * 1048576

theorem le_key_at {f : Fld} {b : Nat} (i : Nat) (h : b ≤ f.key) : b ≤ (f.at i).key :=
  h.trans (by simp only [Fld.key, Fld.at]; omega)

namespace LedgerKept

variable {b : Nat} {s m k : Chip}

theorem refl (b : Nat) (s : Chip) : LedgerKept b s s := ⟨fun _ => rfl, rfl, rfl, fun _ _ _ => rfl⟩

theorem trans (h : LedgerKept b s m) (h' : LedgerKept b m k) : LedgerKept b s k :=
  ⟨fun e => (h'.led e).trans (h.led e), h'.reservoir.trans h.reservoir, h'.reservoirRem.trans h.reservoirRem,
    fun e j hj => (h'.reg e j hj).trans (h.reg e j hj)⟩

/-- A field of a register below `b` reads as before. -/
theorem fld (h : LedgerKept b s k) (e : Fin 4) {f : Fld} (hf : f.key < b) : k.fld e f = s.fld e f := by
  rw [Chip.fld, h.reg e _ hf, Chip.fld]

theorem setFld (h : LedgerKept b s m) (d : Fin 4) {f : Fld} (v : Nat) (hf : b ≤ f.key) :
    LedgerKept b s (m.setFld d f v) :=
  h.trans ⟨fun e => Chip.ledger_of_setFld m d e f v, rfl, rfl, fun _ _ hj =>
    Chip.reg_setFld_ne m f v (.inr (Nat.ne_of_lt (hj.trans_le hf)))⟩

theorem setFld_at (h : LedgerKept b s m) (d : Fin 4) {f : Fld} (i v : Nat) (hf : b ≤ f.key) :
    LedgerKept b s (m.setFld d (f.at i) v) := h.setFld d v (le_key_at i hf)

/-- A change of a die beside its ledger and its registers. -/
theorem upd (h : LedgerKept b s m) (d : Fin 4) {f : DieSt → DieSt}
    (hf : ∀ x, (f x).ledger = x.ledger ∧ (f x).regs = x.regs) : LedgerKept b s (m.upd d f) := by
  refine h.trans ⟨fun e => ?_, rfl, rfl, fun e j _ => Chip.reg_upd m d e j f fun x => (hf x).2⟩
  rw [Chip.led, Chip.d_upd]
  split
  · subst e; exact (hf _).1
  · rfl

/-- A record that is sent changes a register of EVT. -/
theorem raise (h : LedgerKept b s m) (d : Fin 4) (src kind : Nat) (t : Fin 256) (pay : Nat)
    (hb : b ≤ 24 * 1048576) : LedgerKept b s (raise m d src kind t pay) := by
  obtain ⟨hd, _⟩ := Says.onlyRegs_sendRec m d (mkRec m d src kind t pay false false)
  refine h.trans ⟨fun e => (congrArg DieSt.ledger (hd e) :), rfl, rfl, fun e j hj => reg_raise m d e src kind t pay ?_⟩
  simp only [Fld.key, Fld.at, Rf.EVT_KCOUNT_COUNT]
  omega

theorem guarded {p : Prop} [Decidable p] (h : LedgerKept b s m) (h' : LedgerKept b s k) :
    LedgerKept b s (if p then m else k) := by
  split
  · exact h
  · exact h'

theorem overAll {α : Type} (f : Chip → α → Chip) (l : List α) (h : LedgerKept b s m)
    (hf : ∀ n a, LedgerKept b s n → LedgerKept b s (f n a)) : LedgerKept b s (overAll f m l) :=
  overAll_keeps (LedgerKept b s) f hf m l h

theorem countCycles (h : LedgerKept b s m) (d : Fin 4) : LedgerKept b s (countCycles m d) :=
  h.upd d fun _ => ⟨rfl, rfl⟩

/-! #### The reservoir's alarms and RESERVE -/

theorem checkLow (h : LedgerKept b s m) (old : Nat) (hb : b ≤ 24 * 1048576) : LedgerKept b s (checkLow m old) :=
  .guarded (h.raise _ _ _ _ _ hb) h

theorem setReserve (h : LedgerKept b s m) (on : Bool) (hb : b ≤ Rf.LEDGER_STAT_RESERVE.key) :
    LedgerKept b s (setReserve m on) := by
  have hr := h.overAll (fun n d => n.setFld d Rf.LEDGER_STAT_RESERVE (b2n on)) dies fun _ d hn => hn.setFld d _ hb
  have hb' : b ≤ 24 * 1048576 := hb.trans (by decide)
  exact .guarded (hr.raise _ _ _ _ _ hb') (.guarded (hr.raise _ _ _ _ _ hb') hr)

theorem reserveNow (h : LedgerKept b s m) (hb : b ≤ Rf.LEDGER_STAT_RESERVE.key) : LedgerKept b s (reserveNow m) :=
  .guarded (h.setReserve true hb) h

/-! #### Banks and lanes at a change of the cap level -/

theorem moveBank (h : LedgerKept ledgerEnd s m) (d : Fin 4) (n v : Nat) :
    LedgerKept ledgerEnd s (moveBank m d n v) := by
  have hto : LedgerKept ledgerEnd s (setBankTo m d n v) := h.upd d fun _ => ⟨rfl, rfl⟩
  exact .guarded (hto.setFld_at d _ _ (by decide)) <| .guarded (hto.setFld_at d _ _ (by decide)) <|
    (hto.setFld_at d _ _ (by decide)).setFld_at d _ _ (by decide)

theorem capBanks (h : LedgerKept ledgerEnd s m) (d : Fin 4) (old new : Nat) :
    LedgerKept ledgerEnd s (capBanks m d old new) :=
  h.overAll _ _ fun _ n hn =>
    .guarded hn <| .guarded (.guarded (hn.moveBank d n 1) hn) (.guarded (hn.moveBank d n _) hn)

theorem capBanksWindow (h : LedgerKept ledgerEnd s m) (d : Fin 4) : LedgerKept ledgerEnd s (capBanksWindow m d) :=
  (LedgerKept.guarded (h.overAll _ _ fun _ n hn => .guarded (hn.moveBank d n 1) hn) h).upd
    (f := fun x => { x with bankUsed := [] }) d fun _ => ⟨rfl, rfl⟩

theorem setLane (h : LedgerKept b s m) (d : Fin 4) (n : Nat) (x : LaneSt) : LedgerKept b s (m.setLane d n x) :=
  h.upd d fun _ => ⟨rfl, rfl⟩

theorem clearTaps (h : LedgerKept ledgerEnd s m) (d : Fin 4) (n : Nat) : LedgerKept ledgerEnd s (clearTaps m d n) := by
  have hkey (t : Nat) : ledgerEnd ≤ (tapF n t).key := by
    simp only [ledgerEnd, Fld.key, tapF, Fld.at, Rf.LANE_DFE1_TAP]; omega
  exact h.overAll (fun c t => setTap c d n t 0) _ fun _ t hn => hn.setFld d _ (hkey t)

theorem netLost (h : LedgerKept ledgerEnd s m) (d : Fin 4) (g : Nat) : LedgerKept ledgerEnd s (netLost m d g) := by
  have hnet {c : Chip} (hc : LedgerKept ledgerEnd s c) (x : NetSt) : LedgerKept ledgerEnd s (c.setNet d g x) :=
    hc.upd d fun _ => ⟨rfl, rfl⟩
  unfold Machine.netLost
  dsimp only
  refine .guarded (.raise (hnet ?_ _) _ _ _ _ _ (by decide)) (.raise ?_ _ _ _ _ _ (by decide)) <;>
    exact h.setFld_at d g 1 (by decide)

theorem sourcesLost (h : LedgerKept ledgerEnd s m) (d : Fin 4) (p : Nat → Bool) :
    LedgerKept ledgerEnd s (sourcesLost m d p) :=
  h.overAll (fun c g => Machine.netLost c d g) _ fun _ g hn => hn.netLost d g

theorem laneDark (h : LedgerKept ledgerEnd s m) (d : Fin 4) (n : Nat) : LedgerKept ledgerEnd s (laneDark m d n) := by
  have set {f : Fld} (hf : ledgerEnd ≤ f.key) (v : Nat) {c : Chip} (hc : LedgerKept ledgerEnd s c) :
      LedgerKept ledgerEnd s (c.setFld d (f.at n) v) := hc.setFld_at d n v hf
  unfold Machine.laneDark
  dsimp only
  refine .guarded (.sourcesLost ?_ d _) ?_ <;>
    exact set (by decide) _ <| set (by decide) _ <| set (by decide) _ <| set (by decide) _ <|
      .guarded (set (by decide) _ <| set (by decide) _ h) h

theorem laneGo (h : LedgerKept ledgerEnd s m) (d : Fin 4) (n v : Nat) : LedgerKept ledgerEnd s (laneGo m d n v) := by
  have hdark := (h.laneDark d n).setFld_at d (f := Rf.LANE_STAT_PLLLOCK) n 0 (by decide)
  unfold Machine.laneGo
  dsimp only
  refine .guarded h <| .guarded ?_ <| .guarded ?_ <| .guarded ?_ <| .guarded ?_ ?_ <;>
    refine setFld_at ?_ d n _ (by decide)
  · exact ((hdark.setFld_at d n _ (by decide)).setFld_at d n _ (by decide)).setLane ..
  · exact (hdark.setFld_at d n _ (by decide)).setLane ..
  · exact h.setLane ..
  · exact h.setLane ..
  · exact .guarded (h.setLane ..) ((h.setLane ..).clearTaps d n)

theorem laneAsk (h : LedgerKept ledgerEnd s m) (d : Fin 4) (n v : Nat) : LedgerKept ledgerEnd s (laneAsk m d n v) :=
  .guarded (h.setLane ..) (h.laneGo ..)

theorem capLanes (h : LedgerKept ledgerEnd s m) (d : Fin 4) (old new : Nat) :
    LedgerKept ledgerEnd s (capLanes m d old new) :=
  h.overAll _ _ fun _ n hn =>
    have hask (v : Chip → Nat) := hn.overAll (fun c i => Machine.laneAsk c d i (v c)) (groupOf _ d n) fun c i hc =>
      hc.laneAsk d i (v c)
    .guarded hn <| .guarded (.guarded (hask fun _ => 2) hn) (.guarded (hask _) hn)

theorem capLanesWindow (h : LedgerKept ledgerEnd s m) (d : Fin 4) : LedgerKept ledgerEnd s (capLanesWindow m d) :=
  h.overAll _ _ fun _ n hn =>
    have hdeep := LedgerKept.guarded (hn.overAll _ _ fun _ i hc => hc.laneAsk d i 2) hn
    .guarded (hdeep.setLane d n _) hdeep

end LedgerKept

/-! ### Changes of a ledger -/

section
variable {s : Chip} {d : Fin 4}

@[simp] theorem led_onLedger (f : LedgerSt → LedgerSt) : (s.onLedger d f).led d = f (s.led d) := by
  simp [Chip.led, Chip.onLedger]

@[simp] theorem fld_onLedger (f : LedgerSt → LedgerSt) (e : Fin 4) (g : Fld) : (s.onLedger d f).fld e g = s.fld e g :=
  congrArg (getBits · g.lo g.w) (Chip.reg_upd s d e g.key _ fun _ => rfl)

end

end Sys2Proof.Machine
end

section
/-! The energy that a die meters, and the reservoir (R192 to R199). -/

namespace Sys2Proof.Machine

section
variable {s : Chip} {d : Fin 4}

/-! ### Energy (R192, R195) -/

theorem ledgerKept_setPowers (n : Nat) (ch : List Nat) : LedgerKept 0 s (setPowers s d n ch) := by
  induction ch generalizing s n with
  | nil => exact .refl ..
  | cons e es ih =>
    exact .trans (.guarded ((LedgerKept.refl 0 s).setFld d _ (Nat.zero_le _)) (.refl ..)) (ih (n + 1))

/-- A sample at a whole µs adds its metered channels to ENERGY and to what is owed to die 0. -/
theorem led_energySample (hup : up s d = true) (hus : (s.now d).toNat % 1000 = 0) (ch : List Nat) :
    ((energySample d ch s).led d).energy = (s.led d).energy + BitVec.ofNat 64 (sampleSum d 0 (ch.take 11)) ∧
      ((energySample d ch s).led d).unsent = (s.led d).unsent + sampleSum d 0 (ch.take 11) ∧
      ((energySample d ch s).led d).bal = (s.led d).bal := by
  have hled : (setPowers s d 0 (ch.take 11)).led d = s.led d := (ledgerKept_setPowers 0 (ch.take 11)).led d
  have hovh (m : Chip) (n : Nat) :
      (if (m.d d).tick.phase = .slack then m.addFld d Rf.LEDGER_OVERHEAD_OVH n else m).led d = m.led d :=
    (LedgerKept.guarded ((LedgerKept.refl 0 m).setFld d _ (Nat.zero_le _)) (.refl ..)).led d
  simp only [energySample, whenUp, hup, hus, if_true, hovh, led_onLedger, hled, and_self]

/-! ### The reservoir (R196 to R199) -/

/-- While ticks do not run the timer sends what is owed as a total. -/
theorem energyReportTimer_idle (hup : up s d = true) (hidle : ticking s d = false)
    (h64 : (s.now d).toNat % 65536 = 0) : energyReportTimer d s = sendTotal s d := by
  simp [energyReportTimer, whenUp, hup, hidle, h64]

/-- What follows a change of the reservoir leaves it and the ledgers (R217, R219). -/
theorem ledgerKept_afterReservoir (m : Chip) (old : Nat) : LedgerKept 0 m (reserveNow (checkLow m old)) :=
  ((LedgerKept.refl 0 m).checkLow _ (Nat.zero_le _)).reserveNow (Nat.zero_le _)

theorem resvEn_onLedger (f : LedgerSt → LedgerSt) : resvEn (s.onLedger d f) = resvEn s :=
  congrArg (· == 1) (fld_onLedger f 0 Rf.LEDGER_CTL_RESV_EN)

/-- A total that reaches die 0 leaves the queue of its die. -/
theorem energyTotal_oldest (hup : up s 0 = true) {e : Nat} {es : List Nat} (h : (s.led d).totals = e :: es) :
    energyTotal d s = subtract (s.onLedger d fun l => { l with totals := es }) e := by
  simp [energyTotal, whenUp, hup, h]

theorem subtract_unused (h : resvEn s = false) (e : Nat) : subtract s e = s := by simp [subtract, h]

/-- A total is subtracted in nJ, as far as the reservoir goes. -/
theorem reservoir_subtract (he : resvEn s = true) (hr : 0 < s.reservoir) (e : Nat) :
    (subtract s e).reservoir * 1000 + (subtract s e).reservoirRem = s.reservoir * 1000 + s.reservoirRem - e := by
  have hk (m : Chip) := ledgerKept_afterReservoir m s.reservoir
  have hr' : s.reservoir ≠ 0 := Nat.ne_of_gt hr
  simp only [subtract, he, hr', Bool.not_true, Bool.false_eq_true, if_false, (hk _).reservoir, (hk _).reservoirRem]
  omega

/-- Loading the reservoir leaves the ledgers. -/
theorem led_withReservoir (n r : Nat) (e : Fin 4) :
    ({ s with reservoir := n, reservoirRem := r } : Chip).led e = s.led e := rfl

/-- The totals of every die are discarded. -/
theorem led_discardTotals (e : Fin 4) :
    (overAll (fun s d => s.onLedger d fun l => { l with totals := [] }) s dies).led e =
      { s.led e with totals := [] } := by
  fin_cases e <;> simp [dies, overAll, Chip.led, Chip.onLedger, Chip.d_upd]

theorem fld_discardTotals (e : Fin 4) (f : Fld) :
    (overAll (fun s d => s.onLedger d fun l => { l with totals := [] }) s dies).fld e f = s.fld e f :=
  overAll_keeps (fun m => m.fld e f = s.fld e f) _ (fun _ _ hm => (fld_onLedger ..).trans hm) s dies rfl

/-- RESV_HI loads the reservoir from both halves, and discards the totals on their way. -/
theorem resvHi_loads (v : Word) : (resvHi s v).reservoir = s.fld 0 Rf.LEDGER_RESV_LO_RESV + 2 ^ 32 * getBits v 0 8 ∧
    (resvHi s v).reservoirRem = 0 ∧ ∀ e, ((resvHi s v).led e).totals = [] := by
  have hk (m : Chip) := ledgerKept_afterReservoir m s.reservoir
  refine ⟨(hk _).reservoir.trans ?_, (hk _).reservoirRem, fun e => ?_⟩
  · have hlo : Rf.LEDGER_RESV_LO_RESV.key ≠ Rf.LEDGER_RESV_HI_RESV.key := by decide
    dsimp only
    rw [fld_discardTotals, Chip.fld_setFld_ne s _ (.inr hlo)]
  · refine (congrArg LedgerSt.totals ((hk _).led e)).trans ?_
    rw [led_withReservoir, led_discardTotals]

theorem clampI_eq_min_max {lo hi : Int} (h : lo ≤ hi) (i : Int) : clampI lo hi i = min hi (max lo i) := by
  unfold clampI
  split
  · omega
  · split <;> omega

/-- RESV_ADJ adds a signed number to the reservoir, and leaves the remainder and the totals. -/
theorem resvAdj_adds (v : Word) :
    (resvAdj s v).reservoir = (min (2 ^ 40 - 1) (max 0 ((s.reservoir : Int) + v.toInt))).toNat ∧
      (resvAdj s v).reservoirRem = s.reservoirRem ∧ ∀ e, ((resvAdj s v).led e).totals = (s.led e).totals := by
  have hk (m : Chip) := ledgerKept_afterReservoir m s.reservoir
  refine ⟨(hk _).reservoir.trans ?_, (hk _).reservoirRem, fun e => congrArg LedgerSt.totals ((hk _).led e)⟩
  exact congrArg Int.toNat (clampI_eq_min_max (by decide) _)

end

end Sys2Proof.Machine

namespace Sys2Proof.Says

open Sys2Proof.Machine

/-- Settles O23: each command changes the ledger of its die or loads the reservoir, and the alarms and RESERVE that
follow leave both as they are. -/
theorem energyAndReservoirAreCounted : Obligations.EnergyAndReservoirAreCounted := by
  unfold Obligations.EnergyAndReservoirAreCounted
  refine ⟨fun d ch e es s hup => ⟨fun hus => ?_, fun hidle h64 => ?_, fun hup0 htot hoff => ?_,
    fun hup0 htot hon hpos => ?_⟩, fun t v s hm => ⟨?_, ?_⟩⟩
  · exact .of_effect rfl rfl (led_energySample hup hus ch)
  · exact .of_effect rfl (energyReportTimer_idle hup hidle h64)
  · refine .of_effect rfl ((energyTotal_oldest hup0 htot).trans ?_)
    exact subtract_unused ((resvEn_onLedger _).trans hoff) e
  · refine .of_effect rfl (energyTotal_oldest hup0 htot) ?_
    exact reservoir_subtract ((resvEn_onLedger _).trans hon) hpos e
  · exact .of_effect rfl (whenGranted_granted hm _) (resvHi_loads v)
  · exact .of_effect rfl (whenGranted_granted hm _) (resvAdj_adds v)

end Sys2Proof.Says
end

section
/-! Reservations, caps, and thermal control (R207 to R209, R221 to R226, R244). -/

namespace Sys2Proof.Machine

section
variable {s : Chip} {d : Fin 4}

/-! ### Reservations (R207 to R209, R244) -/

@[simp] theorem balOf_setBal (t : Fin 256) (v : Int) : balOf (setBal s d t v) d t = clampBal v := by
  simp [balOf, setBal]

/-- A tenant that becomes EXHAUSTED is noted as told, and the ledger is the same otherwise. -/
theorem led_exhaust (t : Fin 256) : ∃ told, (exhaust s d t).led d = { s.led d with told := told } := by
  have hset : (s.setFld d (Rf.LEDGER_TSTAT_EXHAUSTED.at t.val) 1).led d = s.led d := Chip.ledger_of_setFld ..
  unfold exhaust
  dsimp only
  split
  · exact ⟨_, hset⟩
  · exact ⟨_, (((LedgerKept.refl 0 _).raise _ _ _ _ _ (Nat.zero_le _)).led d).trans (by rw [led_onLedger, hset])⟩

theorem reserve_accepted {t : Fin 256} {x : Nat} (h : refusal s d t x = none) :
    (reserve s d t x).2 = none ∧ balOf (reserve s d t x).1 d t = clampBal (balOf s d t - x) ∧
      ((reserve s d t x).1.led d).resvd = (s.led d).resvd + x := by
  have hbal (m : Chip) (f : LedgerSt → LedgerSt) (hf : ∀ l, (f l).bal = l.bal) :
      balOf (m.onLedger d f) d t = balOf m d t := by rw [balOf, led_onLedger, hf, balOf]
  simp only [reserve, h]
  refine ⟨trivial, ?_, by simp [setBal]⟩
  rw [hbal, balOf_setBal]
  exact fun _ => rfl

/-- A refused request changes at most who has been told of EXHAUST. -/
theorem reserve_refused {t : Fin 256} {x r : Nat} (h : refusal s d t x = some r) :
    (reserve s d t x).2 = some r ∧ ∃ told, (reserve s d t x).1.led d = { s.led d with told := told } := by
  unfold reserve
  rw [h]
  split
  next hr => cases hr; exact ⟨rfl, led_exhaust t⟩
  next hr => cases hr; exact ⟨rfl, _, rfl⟩
  next hr => cases hr

/-! ### Caps and cap levels (R221 to R223) -/

/-- The cap on its way to a die becomes the cap that it holds for the next epoch. -/
theorem dieCap_arrives (hup : up s d = true) {c : Nat} (h : (s.led d).capSent = some c) :
    dieCap d s = s.upd d fun x => { x with ledger := { x.ledger with capSent := none, capNew := some c } } := by
  rw [dieCap, whenUp, if_pos hup]
  have hcap : (s.d d).ledger.capSent = some c := h
  refine Chip.upd_congr ?_
  simp only [hcap]

theorem getBits_lt (w : Word) (lo n : Nat) : getBits w lo n < 2 ^ n := Nat.mod_lt _ (by positivity)

theorem fld_setLevel (l : Nat) :
    (setLevel s d l).fld d Rf.LEDGER_STAT_CAPLEVEL = l % 2 ^ Rf.LEDGER_STAT_CAPLEVEL.w := by
  unfold setLevel
  dsimp only
  split
  next hl => rw [hl]; exact (Nat.mod_eq_of_lt (getBits_lt ..)).symm
  next =>
    have hk (m : Chip) (src kind pay old : Nat) : LedgerKept ledgerEnd m
        (capLanes (capBanks (raise m d src kind 0 pay) d old l) d old l) :=
      ((LedgerKept.refl ledgerEnd m).raise _ _ _ _ _ (by decide) |>.capBanks ..).capLanes ..
    rw [(hk ..).fld d (by decide), Chip.fld_setFld_same _ _ _ _ (by decide)]

/-- At its end a cap window begins anew, at the next level. -/
theorem capWindowEnd_next (hup : up s d = true) (hend : (s.now d).toNat % 64000 = 0) :
    ((capWindowEnd d s).led d).win = 0 ∧ (capWindowEnd d s).fld d Rf.LEDGER_STAT_CAPLEVEL =
      nextLevel (dieCapMw s d) (s.led d).win (s.fld d Rf.LEDGER_STAT_CAPLEVEL) % 2 ^ Rf.LEDGER_STAT_CAPLEVEL.w := by
  have hk (m : Chip) : LedgerKept ledgerEnd m (capLanesWindow (capBanksWindow m d) d) :=
    ((LedgerKept.refl ledgerEnd m).capBanksWindow d).capLanesWindow d
  have hlt : Rf.LEDGER_STAT_CAPLEVEL.key < ledgerEnd := by decide
  simp only [capWindowEnd, whenUp, hup, hend, if_true, (hk _).led, (hk _).fld d hlt, led_onLedger, fld_onLedger,
    fld_setLevel, and_self]

/-! ### Sensors and thermal control (R224 to R226) -/

/-- A field of a register that is no sensor's reads as before. -/
theorem fld_setTemps_ne {g : Fld} (n : Nat) (vs : List (BitVec 12))
    (hg : ∀ i, n ≤ i → i < n + vs.length → g.key ≠ (Rf.LEDGER_TEMP_TEMP.at i).key) :
    (setTemps s d n vs).fld d g = s.fld d g := by
  induction vs generalizing s n with
  | nil => rfl
  | cons v vs ih =>
    rw [List.length_cons] at hg
    rw [setTemps, ih _ fun i h1 h2 => hg i (by omega) (by omega),
      Chip.fld_setFld_ne s _ (.inr (hg n (Nat.le_refl n) (by omega)))]

theorem fld_setTemps_head (n : Nat) (v : BitVec 12) (vs : List (BitVec 12)) :
    (setTemps s d n (v :: vs)).fld d (Rf.LEDGER_TEMP_TEMP.at n) = v.toNat := by
  have hne (i : Nat) (hi : n + 1 ≤ i) (_ : i < n + 1 + vs.length) :
      (Rf.LEDGER_TEMP_TEMP.at n).key ≠ (Rf.LEDGER_TEMP_TEMP.at i).key := by
    simp only [Fld.key, Fld.at, Rf.LEDGER_TEMP_TEMP]; omega
  rw [setTemps, fld_setTemps_ne _ _ hne, Chip.fld_setFld_same _ _ _ _ (by simp [Fld.at, Rf.LEDGER_TEMP_TEMP])]
  exact v.toNat_mod_cancel

/-- Each sensor reads its new value. -/
theorem fld_setTemps (n : Nat) (vs : List (BitVec 12)) (i : Nat) (hi : i < vs.length) :
    (setTemps s d n vs).fld d (Rf.LEDGER_TEMP_TEMP.at (n + i)) = vs[i].toNat := by
  induction vs generalizing s n i with
  | nil => simp at hi
  | cons v vs ih =>
    cases i with
    | zero => rw [Nat.add_zero, fld_setTemps_head, List.getElem_cons_zero]
    | succ i =>
      rw [setTemps, show n + (i + 1) = n + 1 + i by omega]
      exact ih (n + 1) i (by simpa using hi)

/-- The highest reading depends on the eight sensors only. -/
theorem highestTemp_congr {k : Chip}
    (h : ∀ i < 8, k.fld d (Rf.LEDGER_TEMP_TEMP.at i) = s.fld d (Rf.LEDGER_TEMP_TEMP.at i)) :
    highestTemp k d = highestTemp s d := by
  have hlt : ∀ i ∈ range 0 8, i < 8 := by decide
  have hmap := List.map_congr_left fun i hi => congrArg (ofBits 12) (h i (hlt i hi))
  rw [highestTemp, hmap, highestTemp]

theorem LedgerKept.vreqFollow {b : Nat} {m : Chip} (h : LedgerKept b s m) (d : Fin 4) (top : Int)
    (hb : b ≤ 24 * 1048576) : LedgerKept b s (vreqFollow m d top) :=
  .guarded h <| (h.setFld d _ (hb.trans (by decide))).raise _ _ _ _ _ hb

@[simp] theorem fld_setThermDiv (v : Nat) : (setThermDiv s d v).fld d Rf.LEDGER_STAT_THERMDIV = v % 4 :=
  Chip.fld_setFld_same _ _ _ _ (by decide)

/-- The S9 once die `d` has taken its readings and VREQ has followed them (R224, R900). -/
def sensed (s : Chip) (d : Fin 4) (temps : List (BitVec 12)) : Chip :=
  vreqFollow (setTemps s d 0 (temps.take 8)) d (highestTemp (setTemps s d 0 (temps.take 8)) d)

theorem fld_sensed (temps : List (BitVec 12)) {f : Fld} (hf : f.key < ledgerEnd) :
    (sensed s d temps).fld d f = (setTemps s d 0 (temps.take 8)).fld d f :=
  ((LedgerKept.refl ledgerEnd _).vreqFollow d _ (by decide)).fld d hf

theorem tempKey_lt {i : Nat} (hi : i < 8) : (Rf.LEDGER_TEMP_TEMP.at i).key < ledgerEnd := by
  simp only [ledgerEnd, Fld.key, Fld.at, Rf.LEDGER_TEMP_TEMP]; omega

/-- After the readings the ledger notes how long the die has been hot or cool, and at THR a whole rate halves. -/
theorem sensorUpdate_eq (hup : up s d = true) (temps : List (BitVec 12)) : ∃ f pay,
    sensorUpdate d temps s =
      if thrQ (sensed s d temps) d ≤ highestTemp (sensed s d temps) d ∧
          (sensed s d temps).fld d Rf.LEDGER_STAT_THERMDIV = 0 then
        raise (setThermDiv ((sensed s d temps).onLedger d f) d 1) d ledgerSrc K.THERMTHR 0 pay
      else (sensed s d temps).onLedger d f := by
  have htop : highestTemp (sensed s d temps) d = highestTemp (setTemps s d 0 (temps.take 8)) d :=
    highestTemp_congr fun i hi => fld_sensed temps (tempKey_lt hi)
  have hiff (f : LedgerSt → LedgerSt) (top : Int) : (decide (thrQ (sensed s d temps) d ≤ top) &&
      ((sensed s d temps).onLedger d f).fld d Rf.LEDGER_STAT_THERMDIV == 0) = true ↔
      thrQ (sensed s d temps) d ≤ top ∧ (sensed s d temps).fld d Rf.LEDGER_STAT_THERMDIV = 0 := by simp
  rw [htop, sensorUpdate, whenUp, if_pos hup]
  exact ⟨_, _, if_congr (hiff _ _) rfl rfl⟩

/-- Beside STAT the registers of LEDGER hold what they held, and the readings. -/
theorem fld_sensorUpdate (hup : up s d = true) (temps : List (BitVec 12)) {g : Fld} (hg : g.key < ledgerEnd)
    (hstat : g.key ≠ Rf.LEDGER_STAT_THERMDIV.key) :
    (sensorUpdate d temps s).fld d g = (setTemps s d 0 (temps.take 8)).fld d g := by
  obtain ⟨f, pay, he⟩ := sensorUpdate_eq hup temps
  rw [he]
  split
  · rw [((LedgerKept.refl ledgerEnd _).raise _ _ _ _ _ (by decide)).fld d hg, setThermDiv,
      Chip.fld_setFld_ne _ _ (.inr hstat), ((LedgerKept.refl ledgerEnd _).countCycles d).fld d hg, fld_onLedger,
      fld_sensed temps hg]
  · rw [fld_onLedger, fld_sensed temps hg]

theorem fld_sensorUpdate_temp (hup : up s d = true) {temps : List (BitVec 12)} (h8 : temps.length = 8) {i : Nat}
    (hi : i < temps.length) : (sensorUpdate d temps s).fld d (Rf.LEDGER_TEMP_TEMP.at i) = temps[i].toNat := by
  have hstat : (Rf.LEDGER_TEMP_TEMP.at i).key ≠ Rf.LEDGER_STAT_THERMDIV.key := by
    simp only [Fld.key, Fld.at, Rf.LEDGER_TEMP_TEMP, Rf.LEDGER_STAT_THERMDIV]; omega
  have hset := fld_setTemps (s := s) (d := d) 0 temps i hi
  rw [fld_sensorUpdate hup temps (tempKey_lt (h8 ▸ hi)) hstat, List.take_of_length_le (Nat.le_of_eq h8)]
  rwa [Nat.zero_add] at hset

/-- At THR a die that runs at its whole rate runs at half of it. -/
theorem thermDiv_sensorUpdate (hup : up s d = true) (temps : List (BitVec 12))
    (hhot : thrQ s d ≤ highestTemp (sensorUpdate d temps s) d) (hdiv : s.fld d Rf.LEDGER_STAT_THERMDIV = 0) :
    (sensorUpdate d temps s).fld d Rf.LEDGER_STAT_THERMDIV = 1 := by
  have hset {g : Fld} (hg : g.key < (Rf.LEDGER_TEMP_TEMP.at 0).key) :
      (sensed s d temps).fld d g = s.fld d g := by
    rw [fld_sensed temps (hg.trans (tempKey_lt (by decide))), fld_setTemps_ne]
    intro i _ _
    exact Nat.ne_of_lt (hg.trans_le (le_key_at i (Nat.le_refl _)))
  have htop : highestTemp (sensorUpdate d temps s) d = highestTemp (sensed s d temps) d :=
    highestTemp_congr fun i hi => by
      rw [fld_sensorUpdate hup temps (tempKey_lt hi), fld_sensed temps (tempKey_lt hi)]
      simp only [Fld.key, Fld.at, Rf.LEDGER_TEMP_TEMP, Rf.LEDGER_STAT_THERMDIV]; omega
  have hthr : thrQ (sensed s d temps) d = thrQ s d := by rw [thrQ, hset (by decide), thrQ]
  obtain ⟨f, pay, he⟩ := sensorUpdate_eq hup temps
  rw [htop, ← hthr] at hhot
  rw [he, if_pos ⟨hhot, (hset (by decide)).trans hdiv⟩, fld_raise _ _ _ _ _ _ _ (by decide), fld_setThermDiv]

/-- A die that has been at THR for 1 ms halves its rate again. -/
theorem thermDiv_thermalStep (hup : up s d = true) {t : Time} (hdiv : s.fld d Rf.LEDGER_STAT_THERMDIV = 1)
    (hhot : (s.led d).hot = some t) (hms : 1000000 ≤ (s.now d - t).toNat) :
    (thermalStep d s).fld d Rf.LEDGER_STAT_THERMDIV = 2 := by
  have hdue : msSince s d (s.led d).hot = true := by
    rw [hhot]
    exact decide_eq_true hms
  simp only [thermalStep, whenUp, hup, hdiv, hdue, beq_self_eq_true, Bool.and_self, if_true, fld_setThermDiv]

/-! ### The thermal stop (R226) -/

/-- The always-on log holds at most 32 entries after a record is put into it, whatever it held (R939). -/
theorem length_aol_logRecord (r : Rec) : (logRecord s r).aol.length ≤ 32 := by
  unfold logRecord
  split
  · simpa using ‹_›
  · simp only [List.length_cons, List.length_take]; omega

theorem length_aol_fatalStop (src kind pay : Nat) (f : StopSt → StopSt) :
    (fatalStop s d src kind pay f).aol.length ≤ 32 := by
  simp only [fatalStop, Chip.aol_setFld, raiseFatal]
  exact length_aol_logRecord _

/-- At 160 °C the device stops, and the always-on log stays within its size. -/
theorem thermalTrip_stops (halive : alive s = true) {junction : Int} (h : 160 ≤ junction) :
    (thermalTrip d junction s).stop.thermal = true ∧ alive (thermalTrip d junction s) = false ∧
      (thermalTrip d junction s).aol.length ≤ 32 := by
  have h1 : ¬ junction < 156 := by omega
  have h2 : ¬ junction < 160 := by omega
  simp only [thermalTrip, halive, h, h1, h2, Bool.not_true, Bool.false_eq_true, or_self, decide_true, Bool.true_or,
    if_true, if_false]
  exact ⟨rfl, by simp [alive, fatalStop], length_aol_fatalStop ..⟩

theorem thermalTrip_cool {junction : Int} (h : junction < 156) : thermalTrip d junction s = s := if_pos (.inr h)

end

end Sys2Proof.Machine

namespace Sys2Proof.Says

open Sys2Proof.Machine

/-- Settles O24: the request takes the branch that its check chooses, and of the caps and the thermal steps each reads
its limit from registers that the work it starts leaves alone. -/
theorem reservationsCapsAndThermalSteps : Obligations.ReservationsCapsAndThermalSteps := by
  unfold Obligations.ReservationsCapsAndThermalSteps
  refine ⟨fun s d t x => ⟨reserve_accepted, fun r hr => ?_⟩, fun d temps junction c t0 s hup => ⟨fun hcap => ?_,
    fun hend => ?_, fun h8 => ?_, fun hdiv hhot hms => ?_, fun htrip => ?_, fun hcool => ?_⟩⟩
  · obtain ⟨hres, told, hled⟩ := reserve_refused hr
    rw [hled]
    exact ⟨hres, rfl, rfl, rfl⟩
  · exact .of_effect rfl (dieCap_arrives hup hcap)
  · exact .of_effect rfl rfl (capWindowEnd_next hup hend)
  · exact .of_effect rfl rfl ⟨fun i hi => fld_sensorUpdate_temp hup h8 hi, thermDiv_sensorUpdate hup temps⟩
  · exact .of_effect rfl rfl (thermDiv_thermalStep hup hdiv hhot hms)
  · obtain ⟨hstop, hdead, haol⟩ := thermalTrip_stops (d := d) (Bool.and_eq_true .. ▸ hup).1 htrip
    exact .of_effect rfl rfl ⟨hstop, hdead, haol.trans (Nat.le_max_right ..)⟩
  · exact .of_effect rfl (thermalTrip_cool hcool)

end Sys2Proof.Says
end

section
/-! Resolution of basted work: the combined outcome, and what it makes of a word (R267, R271, R272). -/

namespace Sys2Proof.Machine

/-! ### The combined outcome (R267) -/

theorem mem_allReports {s : Chip} {r : TenReport} :
    r ∈ allReports s ↔ ∃ d rep, s.resolve.got.get d = some rep ∧ r ∈ rep.tens := by
  have hdies (d : Fin 4) : d ∈ dies := by revert d; decide
  rw [allReports, List.mem_flatMap]
  refine exists_congr fun d => ?_
  cases s.resolve.got.get d <;> simp [hdies]

/-- A mask gathered bit by bit is empty exactly if it started empty and every report added nothing. -/
theorem foldl_lor_reasons_eq_zero_iff {rs : List TenReport} {m : Nat} :
    rs.foldl (fun m r => Nat.lor m r.reasons) m = 0 ↔ m = 0 ∧ ∀ r ∈ rs, r.reasons = 0 := by
  induction rs generalizing m with
  | nil => simp
  | cons r rs ih =>
    have hor : Nat.lor m r.reasons = 0 ↔ m = 0 ∧ r.reasons = 0 := Nat.or_eq_zero_iff
    rw [List.foldl_cons, ih, hor, List.forall_mem_cons, and_assoc]

/-- A reason that a report holds against a tenant is in the tenant's mask, and die 0's own reasons only add to it. -/
theorem reasonsOf_ne_zero_of_report {s : Chip} {r : TenReport} (hr : r ∈ allReports s) (hne : r.reasons ≠ 0) :
    reasonsOf s r.ten ≠ 0 := by
  intro h
  have hmine : r ∈ (allReports s).filter fun q => q.ten == r.ten := List.mem_filter.mpr ⟨hr, beq_self_eq_true _⟩
  have hreported : ((allReports s).filter fun q => q.ten == r.ten).foldl (fun m q => Nat.lor m q.reasons) 0 = 0 := by
    dsimp only [reasonsOf] at h
    omega
  exact hne ((foldl_lor_reasons_eq_zero_iff.mp hreported).2 r hmine)

/-- The outcome's verdict on a tenant is its reason mask, and a stitch where that is empty. -/
theorem verdict_of_mem_combine {s : Chip} {v : Verdict} (hv : v ∈ combine s) :
    v.reasons = reasonsOf s v.ten ∧ v.stitch = (reasonsOf s v.ten == 0) := by
  obtain ⟨t, -, rfl⟩ := List.mem_map.mp hv
  exact ⟨rfl, rfl⟩

theorem stitch_iff_reasons_of_mem_combine {s : Chip} {v : Verdict} (hv : v ∈ combine s) :
    v.stitch = true ↔ v.reasons = 0 := by
  obtain ⟨hreasons, hstitch⟩ := verdict_of_mem_combine hv
  rw [hreasons, hstitch, beq_iff_eq]

/-! ### Words at the resolution (R271, R272) -/

section
variable {t : Fin 256} {w : MWord}

/-- A BASTED or INGEST word of the tenant becomes COMMITTED as it stands, and its shadow entry is freed. -/
theorem stitchWord_own (hten : w.ten = t) (htag : w.tag = .basted ∨ w.tag = .ingest) :
    stitchWord t w = { w with tag := .committed, ten := 0, shadow := none, overwritten := false } :=
  if_pos (by simpa [hten] using htag)

theorem stitchWord_other (hten : w.ten ≠ t) : stitchWord t w = w := if_neg (by simp [hten])

theorem unpickWord_ingest (hten : w.ten = t) (htag : w.tag = .ingest) :
    unpickWord t w = { data := w.data, written := w.written, tag := .void } := by
  rw [unpickWord, if_neg (not_not.mpr hten), if_pos htag]

/-- A BASTED word of the tenant has the value of its shadow entry again, VOID if it was VOID then. -/
theorem unpickWord_basted {sh : Shadow} (hten : w.ten = t) (htag : w.tag = .basted) (hsh : w.shadow = some sh) :
    unpickWord t w =
      { data := sh.data, poison := sh.poison, written := sh.written,
        tag := if sh.void then .void else .committed } := by
  have hingest : w.tag ≠ .ingest := by simp [htag]
  rw [unpickWord, if_neg (not_not.mpr hten), if_neg hingest, if_pos htag, hsh]

theorem unpickWord_other (hten : w.ten ≠ t) : unpickWord t w = w := if_pos hten

end

end Sys2Proof.Machine

namespace Sys2Proof.Says

open Sys2Proof.Machine

/-- Settles O25: the verdict reads the mask that gathers every report, and stitch and unpick choose by the word's tag
and tenant. -/
theorem stitchKeepsAndUnpickRestores : Obligations.StitchKeepsAndUnpickRestores := by
  unfold Obligations.StitchKeepsAndUnpickRestores
  refine ⟨fun s v hv => ⟨stitch_iff_reasons_of_mem_combine hv, fun d rep hgot r hr hten hne => ?_⟩,
    fun t w sh hten => ⟨fun htag => ?_, fun htag => ?_, fun htag hsh => ?_, fun u hu => ?_⟩⟩
  · have hmask := reasonsOf_ne_zero_of_report (mem_allReports.mpr ⟨d, rep, hgot, hr⟩) hne
    rw [(verdict_of_mem_combine hv).2, ← hten]
    exact beq_false_of_ne hmask
  · rw [stitchWord_own hten (.inl htag)]
    exact ⟨rfl, rfl⟩
  · rw [stitchWord_own hten (.inr htag), unpickWord_ingest hten htag]
    exact ⟨rfl, rfl, rfl⟩
  · rw [unpickWord_basted hten htag hsh]
    exact ⟨rfl, rfl, rfl⟩
  · exact ⟨stitchWord_other hu, unpickWord_other hu⟩

end Sys2Proof.Says
end

section
/-! PLLs, their sources and the clock networks (R303 to R306, R327 to R330, R339, R340). -/

namespace Sys2Proof.Machine

/-! ### What the loss and the return of clock sources leave alone -/

/-- From `s` to `k` every register with a key below `b`, the PLLs and the time of every die are as they were, and the
records on their way are still on it. -/
structure ClocksKept (b : Nat) (s k : Chip) : Prop where
  reg : ∀ e j, j < b → k.reg e j = s.reg e j
  plls : ∀ e, (k.d e).plls = (s.d e).plls
  now : ∀ e, k.now e = s.now e
  fly : ∀ e, ∀ r ∈ (s.d e).fly, r ∈ (k.d e).fly

/-- The key of the first register of the networks, which follow the registers of the inputs and the PLLs. -/
abbrev gselStart : Nat := Rf.CLK_GSEL_SRC.key

/-- The key of the first register of the PLLs, which follow the registers of the inputs. -/
abbrev pllStart : Nat := Rf.CLK_PLL_SRC_SRC.key

/-- The end of the window of CLK. -/
abbrev clkEnd : Nat := 5 * 1048576

/-- The registers of the networks and of the regions lie in the window of CLK. -/
theorem clkKey_at_lt {f : Fld} {i : Nat} (hi : i < 64) (hu : f.unit = 4) (ho : f.off < 4096) (hs : f.stride = 4) :
    (f.at i).key < clkEnd := by
  simp only [Fld.key, Fld.at, hu, hs, clkEnd]
  omega

namespace ClocksKept

variable {b : Nat} {s m k : Chip}

theorem refl (b : Nat) (s : Chip) : ClocksKept b s s := ⟨fun _ _ _ => rfl, fun _ => rfl, fun _ => rfl, fun _ _ => id⟩

theorem trans (h : ClocksKept b s m) (h' : ClocksKept b m k) : ClocksKept b s k :=
  ⟨fun e j hj => (h'.reg e j hj).trans (h.reg e j hj), fun e => (h'.plls e).trans (h.plls e),
    fun e => (h'.now e).trans (h.now e), fun e r hr => h'.fly e r (h.fly e r hr)⟩

theorem fld (h : ClocksKept b s k) (e : Fin 4) {f : Fld} (hf : f.key < b) : k.fld e f = s.fld e f := by
  rw [Chip.fld, h.reg e _ hf, Chip.fld]

theorem flag (h : ClocksKept b s k) (e : Fin 4) {f : Fld} (hf : f.key < b) : k.flag e f = s.flag e f := by
  rw [Chip.flag, h.fld e hf, Chip.flag]

theorem sent (h : ClocksKept b s k) {d : Fin 4} {kind : Nat} {t : Fin 256} (hs : Says.Sent s d kind t) :
    Says.Sent k d kind t := by
  obtain ⟨r, hr, hkind, hten, htime⟩ := hs
  exact ⟨r, h.fly d r hr, hkind, hten, htime.trans (h.now d).symm⟩

theorem setFld_at (h : ClocksKept b s m) (d : Fin 4) {f : Fld} (i v : Nat) (hf : b ≤ f.key) :
    ClocksKept b s (m.setFld d (f.at i) v) :=
  h.trans ⟨fun _ _ hj => Chip.reg_setFld_ne m _ v (.inr (Nat.ne_of_lt (hj.trans_le (le_key_at i hf)))),
    fun e => Chip.plls_of_setFld m d e _ v, fun e => congrArg TimeBase.now (Chip.tb_of_setFld m d e _ v),
    fun e _ hr => (Chip.fly_of_setFld m d e _ v).symm ▸ hr⟩

theorem setNet (h : ClocksKept b s m) (d : Fin 4) (g : Nat) (x : NetSt) : ClocksKept b s (m.setNet d g x) := by
  refine h.trans ⟨fun e j _ => Chip.reg_upd m d e j _ fun _ => rfl, fun e => ?_, fun e => ?_, fun e r hr => ?_⟩ <;>
    by_cases he : e = d <;> simp_all [Chip.setNet, Chip.now, Chip.d_upd]

theorem raise (h : ClocksKept b s m) (d : Fin 4) (src kind : Nat) (t : Fin 256) (pay : Nat) (hb : b ≤ 24 * 1048576) :
    ClocksKept b s (raise m d src kind t pay) := by
  obtain ⟨hd, _⟩ := Says.onlyRegs_sendRec m d (mkRec m d src kind t pay false false)
  refine h.trans ⟨fun e j hj => reg_raise m d e src kind t pay ?_, fun e => (congrArg DieSt.plls (hd e) :),
    fun e => now_raise .., fun e r hr => ?_⟩
  · simp only [Fld.key, Fld.at, Rf.EVT_KCOUNT_COUNT]
    omega
  · rw [fly_raise]
    split
    · subst e
      exact List.mem_append_left _ hr
    · exact hr

theorem guarded {p : Prop} [Decidable p] (h : ClocksKept b s m) (h' : ClocksKept b s k) :
    ClocksKept b s (if p then m else k) := by
  split
  · exact h
  · exact h'

theorem overAll {α : Type} (f : Chip → α → Chip) (l : List α) (h : ClocksKept b s m)
    (hf : ∀ n a, ClocksKept b s n → ClocksKept b s (f n a)) : ClocksKept b s (overAll f m l) :=
  overAll_keeps (ClocksKept b s) f hf m l h

/-- A network that loses its source changes its own register, its switch and the count of the record. -/
theorem netLost (h : ClocksKept b s m) (d : Fin 4) (g : Nat) (hb : b ≤ gselStart) :
    ClocksKept b s (netLost m d g) := by
  have hb' : b ≤ 24 * 1048576 := hb.trans (by decide)
  exact .guarded (((h.setFld_at d (f := Rf.CLK_GSEL_ON_BACKUP) g 1 hb).setNet d g _).raise _ _ _ _ _ hb')
    ((h.setFld_at d (f := Rf.CLK_GSEL_STOPPED) g 1 hb).raise _ _ _ _ _ hb')

theorem sourcesLost (h : ClocksKept b s m) (d : Fin 4) (p : Nat → Bool) (hb : b ≤ gselStart) :
    ClocksKept b s (sourcesLost m d p) :=
  h.overAll (fun c g => Machine.netLost c d g) _ fun _ g hn => hn.netLost d g hb

theorem sourcesBack (h : ClocksKept b s m) (d : Fin 4) (p : Nat → Bool) (hb : b ≤ gselStart) :
    ClocksKept b s (sourcesBack m d p) :=
  h.overAll _ _ fun _ g hn => .guarded (hn.setFld_at d (f := Rf.CLK_GSEL_STOPPED) g 0 hb) hn

end ClocksKept

/-! ### PLLs (R304 to R306, R327, R339) -/

section
variable {s : Chip} {d : Fin 4}

/-- A flag shows the low bit of what was stored in it. -/
theorem Chip.flag_setFld_same {f : Fld} (hlo : f.lo < 32) (hw : f.w = 1) (v : Nat) :
    (s.setFld d f v).flag d f = (v % 2 == 1) := by
  rw [flag, fld_setFld_same s d f v (by omega), hw, pow_one]

/-- The status fields of a PLL are bits of one register, apart from each other, below the networks. -/
theorem pllStat_place (k : Fin 6) :
    (pllUnlF k).key = (pllLockF k).key ∧ (pllLockF k).key < gselStart ∧
      (pllLockF k).lo = 0 ∧ (pllLockF k).w = 1 ∧ (pllUnlF k).lo = 2 ∧ (pllUnlF k).w = 1 := by
  revert k
  decide

theorem pllEnF_unit (k : Fin 6) : (pllEnF k).unit = 4 := by revert k; decide

theorem pllFracF_unit (k : Fin 6) : (pllFracF k).unit = 4 := by revert k; decide

/-- A PLL that is enabled takes its settings where its limits hold, and says BADCFG where they do not. -/
theorem pllSrcWrite_enables {k : Nat} {v : Word} (hk : k < 4) (hv : getBits v 31 1 = 1)
    (hoff : s.flag d (pllEnF k) = false) {c : Chip} (hc : c = s.setReg d (pllEnF k).key (v &&& 0x8000003F)) :
    pllSrcWrite s d k v = if pllOk c d k (pllTake c d k) then (c.setFld d (pllBadF k) 0).setPll d k (pllTake c d k)
      else c.setFld d (pllBadF k) 1 := by
  simp [pllSrcWrite, hv, hoff, hk, hc]

theorem pllLock_locks (hup : up s d = true) {k : Nat} (hon : (s.pll d k).on = true)
    (hl : s.flag d (pllLockF k) = false) :
    pllLock d k s = sourcesBack (s.setFld d (pllLockF k) 1) d (pllCodes k) :=
  (whenUp_of_up hup _).trans (if_pos (by simp [hon, hl]))

theorem pllUnlock_unlocks (hup : up s d = true) {k : Nat} (hl : s.flag d (pllLockF k) = true) :
    pllUnlock d k s = sourcesLost (raise ((s.setFld d (pllLockF k) 0).setFld d (pllUnlF k) 1) d 0x004 K.PLLUNLK 0 k) d
      (pllCodes k) :=
  (whenUp_of_up hup _).trans (if_pos hl)

theorem pllLock_shows (hup : up s d = true) (k : Fin 6) (hon : (s.pll d k).on = true)
    (hl : s.flag d (pllLockF k) = false) :
    (pllLock d k s).flag d (pllLockF k) = true ∧ ((pllLock d k s).d d).plls = (s.d d).plls := by
  obtain ⟨-, hkey, hlo, hw, -, -⟩ := pllStat_place k
  rw [pllLock_locks hup hon hl]
  have hkept := (ClocksKept.refl gselStart (s.setFld d (pllLockF k) 1)).sourcesBack d (pllCodes k) le_rfl
  refine ⟨?_, (hkept.plls d).trans (Chip.plls_of_setFld ..)⟩
  rw [hkept.flag d hkey]
  exact Chip.flag_setFld_same (by omega) hw 1

theorem pllUnlock_shows (hup : up s d = true) (k : Fin 6) (hl : s.flag d (pllLockF k) = true) :
    (pllUnlock d k s).flag d (pllLockF k) = false ∧ (pllUnlock d k s).flag d (pllUnlF k) = true ∧
      Says.Sent (pllUnlock d k s) d K.PLLUNLK 0 := by
  obtain ⟨hsame, hkey, hlo, hw, hlo', hw'⟩ := pllStat_place k
  rw [pllUnlock_unlocks hup hl]
  generalize hc : (s.setFld d (pllLockF k) 0).setFld d (pllUnlF k) 1 = c
  have hraised := (ClocksKept.refl gselStart c).raise d 0x004 K.PLLUNLK 0 k (by decide)
  have hlost := ClocksKept.sourcesLost (.refl gselStart (raise c d 0x004 K.PLLUNLK 0 k)) d (pllCodes k) le_rfl
  refine ⟨?_, ?_, hlost.sent (Says.sent_raise ..)⟩
  · rw [(hraised.trans hlost).flag d hkey, ← hc, Chip.flag,
      Chip.fld_setFld_disjoint _ d 1 hsame.symm (by omega) (by omega)]
    exact Chip.flag_setFld_same (by omega) hw 0
  · rw [(hraised.trans hlost).flag d (hsame.trans_lt hkey), ← hc]
    exact Chip.flag_setFld_same (by omega) hw' 1

/-! ### The two sources of a jitter-cleaning PLL (R306) -/

/-- The source that is active is lost: the other takes over where AUTO lets it and it runs, and the PLL holds over
otherwise. -/
theorem jcSourceLoss_eq (hup : up s d = true) {j : Nat} (hon : (s.pll d (4 + j)).on = true)
    (hlost : srcRuns s d (if s.flag d (Rf.CLK_JC_STAT_ACTIVE_B.at j) then (s.pll d (4 + j)).srcB
      else (s.pll d (4 + j)).src) = false) :
    jcSourceLoss d j s =
      if s.flag d (Rf.CLK_JC_SRC_AUTO.at j) && srcRuns s d (if s.flag d (Rf.CLK_JC_STAT_ACTIVE_B.at j) then
          (s.pll d (4 + j)).src else (s.pll d (4 + j)).srcB) then
        (s.setFld d (Rf.CLK_JC_STAT_ACTIVE_B.at j) (b2n !s.flag d (Rf.CLK_JC_STAT_ACTIVE_B.at j))).setFld d
          (Rf.CLK_JC_STAT_HOLDOVER.at j) 0
      else s.setFld d (Rf.CLK_JC_STAT_HOLDOVER.at j) 1 :=
  (whenUp_of_up hup _).trans (if_neg (by simp [hon, hlost]))

/-! ### Inputs (R303, R332, R340) -/

/-- A bit that is cleared reads 0. -/
theorem bit_clrBit (n i : Nat) : bit (clrBit n i) i = false := by
  unfold clrBit
  split
  next h =>
    have hp : 0 < 2 ^ i := by positivity
    have hb : n / 2 ^ i % 2 = 1 := by simpa [bit] using h
    have hle : 2 ^ i ≤ n := by
      by_contra hlt
      simp [Nat.div_eq_of_lt (Nat.not_le.1 hlt)] at hb
    obtain ⟨m, rfl⟩ := Nat.exists_eq_add_of_le' hle
    rw [Nat.add_div_right _ hp] at hb
    rw [Nat.add_sub_cancel, bit, beq_eq_false_iff_ne]
    omega
  next h => simpa using h

/-- A bit of a stored field is that bit of what was stored. -/
theorem bit_fld_setFld (f : Fld) (hf : f.lo + f.w ≤ 32) (v : Nat) {i : Nat} (hi : i < f.w) :
    bit ((s.setFld d f v).fld d f) i = bit v i := by
  rw [Chip.fld_setFld_same _ _ _ _ hf, bit_mod_two_pow hi]

/-- The registers of the inputs lie below those of the PLLs. -/
theorem ckinFreq_key_lt {i : Nat} (hi : i < 8) : (Rf.CLK_CKIN_FREQ_FREQ.at i).key < pllStart := by
  simp only [pllStart, Fld.key, Fld.at, Rf.CLK_CKIN_FREQ_FREQ, Rf.CLK_PLL_SRC_SRC]
  omega

/-- An input with edges is present; the PLLs that hold over for it and the networks that wait for it go on. -/
theorem ckinMeasure_present (hup : up s d = true) {i khz : Nat} (hkhz : khz ≠ 0) :
    ∃ n, ClocksKept pllStart
      ((s.setFld d (Rf.CLK_CKIN_FREQ_FREQ.at i) khz).setFld d Rf.CLK_CKIN_STAT_PRESENT (setBit n i))
      (ckinMeasure d i khz s) := by
  rw [ckinMeasure, whenUp_of_up hup, if_neg hkhz]
  refine ⟨_, ((ClocksKept.refl pllStart _).overAll _ _ fun n j hn => .guarded ?_ hn).sourcesBack d _ (by decide)⟩
  exact hn.setFld_at d (f := Rf.CLK_JC_STAT_HOLDOVER) j 0 (by decide)

theorem ckinMeasure_shows (hup : up s d = true) {i khz : Nat} (hi : i < 8) (hlt : khz < 2 ^ 20) :
    (ckinMeasure d i khz s).fld d (Rf.CLK_CKIN_FREQ_FREQ.at i) = khz ∧
      (khz ≠ 0 → bit ((ckinMeasure d i khz s).fld d Rf.CLK_CKIN_STAT_PRESENT) i = true) := by
  have hfreq : (s.setFld d (Rf.CLK_CKIN_FREQ_FREQ.at i) khz).fld d (Rf.CLK_CKIN_FREQ_FREQ.at i) = khz :=
    (Chip.fld_setFld_same s d (Rf.CLK_CKIN_FREQ_FREQ.at i) khz (show 0 + 20 ≤ 32 by decide)).trans
      (Nat.mod_eq_of_lt hlt)
  by_cases hkhz : khz = 0
  · rw [ckinMeasure, whenUp_of_up hup, if_pos hkhz]
    exact ⟨hfreq, fun h => absurd hkhz h⟩
  · obtain ⟨n, hn⟩ := ckinMeasure_present (i := i) hup hkhz
    refine ⟨?_, fun _ => ?_⟩
    · rw [hn.fld d (ckinFreq_key_lt hi), Chip.fld_setFld_ne _ _ (.inr ?_), hfreq]
      simp only [Fld.key, Fld.at, Rf.CLK_CKIN_FREQ_FREQ, Rf.CLK_CKIN_STAT_PRESENT]
      omega
    · rw [hn.fld d (by decide), bit_fld_setFld _ (by decide) _ hi]
      exact bit_setBit ..

theorem ckinLost_quiet {quiet : Nat} (h : quiet < 512) (i : Nat) : ckinLost d i quiet s = s := by
  unfold ckinLost whenUp
  split
  · exact if_pos (.inl h)
  · rfl

theorem ckinLost_shows (hup : up s d = true) {i quiet : Nat} (hi : i < 8) (h : 512 ≤ quiet)
    (hp : bit (s.fld d Rf.CLK_CKIN_STAT_PRESENT) i = true) :
    bit ((ckinLost d i quiet s).fld d Rf.CLK_CKIN_STAT_PRESENT) i = false ∧
      bit ((ckinLost d i quiet s).fld d Rf.CLK_CKIN_STAT_LOST) i = true := by
  rw [ckinLost, whenUp_of_up hup, if_neg (by simp [hp, h])]
  dsimp only
  have hkept := fun c => (ClocksKept.refl pllStart c).sourcesLost d (fun n => n == i) (by decide)
  refine ⟨?_, ?_⟩ <;> rw [(hkept _).fld d (by decide)]
  · rw [Chip.fld_setFld_disjoint (f := Rf.CLK_CKIN_STAT_LOST) (g := Rf.CLK_CKIN_STAT_PRESENT) _ _ _ rfl (by decide)
        (by decide),
      bit_fld_setFld _ (by decide) _ hi]
    exact bit_clrBit ..
  · rw [bit_fld_setFld _ (by decide) _ hi]
    exact bit_setBit ..

/-! ### Networks (R328 to R330, R340) -/

/-- A network whose source stops goes to its backup, where AUTO lets it and the backup runs. -/
theorem netLost_backup {g : Nat} (hg : g < 16) (hauto : s.flag d (Rf.CLK_GSEL_AUTO.at g) = true)
    (hon : s.flag d (Rf.CLK_GSEL_ON_BACKUP.at g) = false)
    (hruns : srcRuns s d (s.fld d (Rf.CLK_GSEL_BACKUP.at g)) = true) :
    (netLost s d g).flag d (Rf.CLK_GSEL_ON_BACKUP.at g) = true ∧ Says.Sent (netLost s d g) d K.CKSWITCH 0 := by
  rw [netLost, if_pos (by simp [hauto, hon, hruns])]
  refine ⟨?_, Says.sent_raise ..⟩
  refine ((((ClocksKept.refl clkEnd _).setNet d g _).raise _ _ _ _ _ (by decide)).flag d ?_).trans
    (Chip.flag_setFld_same (f := Rf.CLK_GSEL_ON_BACKUP.at g) (show 24 < 32 by decide) rfl 1)
  exact clkKey_at_lt (by omega) rfl (by decide) rfl

theorem netLost_stops {g : Nat} (hg : g < 16) (hauto : s.flag d (Rf.CLK_GSEL_AUTO.at g) = false) :
    (netLost s d g).flag d (Rf.CLK_GSEL_STOPPED.at g) = true ∧ Says.Sent (netLost s d g) d K.CKSTOP 0 := by
  rw [netLost, if_neg (by simp [hauto])]
  refine ⟨?_, Says.sent_raise ..⟩
  refine (((ClocksKept.refl clkEnd _).raise _ _ _ _ _ (by decide)).flag d ?_).trans
    (Chip.flag_setFld_same (f := Rf.CLK_GSEL_STOPPED.at g) (show 25 < 32 by decide) rfl 1)
  exact clkKey_at_lt (by omega) rfl (by decide) rfl

/-- A write of a network's register is taken where both codes are codes of R307 and both sources keep to 650 MHz, and
refused otherwise. -/
theorem gselWrite_eq (t : Fin 256) (g : Nat) (v : Word) : gselWrite s d t g v =
    if gselCode (getBits v 0 6) = true ∧ gselCode (getBits v 8 6) = true ∧
        (nominalOf s d (getBits v 0 6)).atMost 650000 = true ∧ (nominalOf s d (getBits v 8 6)).atMost 650000 = true then
      (s.setReg d (Rf.CLK_GSEL_SRC.at g).key (v &&& 0x0000FF3F)).setNet d g
        { s.net d g with sw := true, force := getBits v 16 1 == 1 }
    else refusedWrite s d t (Rf.CLK_GSEL_SRC.at g) := by
  have hnet (j : Nat) (w : Word) : (s.setReg d j w).net d g = s.net d g :=
    congrArg (mapGet _ · g) (Chip.nets_of_setReg ..)
  unfold gselWrite
  dsimp only
  rw [hnet]
  refine Eq.trans (if_congr ?_ rfl rfl) (ite_not ..)
  simp [or_assoc, imp_iff_not_or]

/-- A refusal leaves the networks. -/
theorem net_refusedWrite (t : Fin 256) (f : Fld) (g : Nat) : (refusedWrite s d t f).net d g = s.net d g := by
  obtain ⟨hd, -⟩ := Says.onlyRegs_sendRec s d (mkRec s d 0 K.NOGRANT t _ false false)
  exact (congrArg (fun x : DieSt => mapGet (fun _ => {}) x.nets g) (hd d) :)

theorem clockSwitchComplete_forced (hup : up s d = true) {g : Nat} (hsw : (s.net d g).sw = true)
    (hforce : (s.net d g).force = true) :
    clockSwitchComplete d g s = (s.setNet d g { src := netWant s d g }).setFld d (Rf.CLK_GSEL_STOPPED.at g)
      (b2n (netWant s d g != 63 && !srcRuns s d (netWant s d g))) :=
  (whenUp_of_up hup _).trans (if_neg (by simp [hsw, hforce]))

end

end Sys2Proof.Machine

namespace Sys2Proof.Says

open Sys2Proof.Machine

/-- Settles O27: each command takes the branch that its source's state chooses, and the networks that it starts or stops
leave the registers of the inputs and the PLLs alone. -/
theorem pllsAndNetworksFollowTheirSources : Obligations.PllsAndNetworksFollowTheirSources := by
  unfold Obligations.PllsAndNetworksFollowTheirSources
  intro t d k j i g v khz quiet s hm
  obtain ⟨hup, hg⟩ := hm
  have hen (f : Fld) (hf : f.unit = 4) : MayWrite s.chip d f.unit t := hf ▸ ⟨hup, hg⟩
  refine ⟨fun hk hv hoff => ?_, ?_, fun hon hl => ?_, fun hl => ?_, fun hon hlost hauto hother => ?_,
    fun hon hlost hno => ?_, ?_, fun hq hp => ?_, fun hq => ?_, fun hauto hon hruns => ?_, fun hauto => ?_,
    fun hok => ?_, fun hbad => ?_, fun hsw hforce => ?_⟩
  · exact .of_effect rfl ((whenGranted_granted (hen _ (pllEnF_unit k)) _).trans (pllSrcWrite_enables hk hv hoff rfl))
  · exact .of_effect rfl (whenGranted_granted (hen _ (pllFracF_unit k)) _)
  · exact .of_effect rfl rfl (pllLock_shows hup k hon hl)
  · exact .of_effect rfl rfl (pllUnlock_shows hup k hl)
  · exact .of_effect rfl ((jcSourceLoss_eq hup hon hlost).trans (if_pos (by simp [hauto, hother])))
  · exact .of_effect rfl ((jcSourceLoss_eq hup hon hlost).trans (if_neg (by rcases hno with h | h <;> simp [h])))
  · obtain ⟨hfreq, hpresent⟩ := ckinMeasure_shows hup i.isLt khz.isLt
    exact .of_effect rfl rfl ⟨hfreq, fun hne => hpresent fun h0 => hne (BitVec.eq_of_toNat_eq h0)⟩
  · exact .of_effect rfl rfl (ckinLost_shows hup i.isLt hq hp)
  · exact .of_effect rfl (ckinLost_quiet hq i)
  · exact netLost_backup g.isLt hauto hon hruns
  · exact netLost_stops g.isLt hauto
  · exact .of_effect rfl ((whenGranted_granted (hen _ rfl) _).trans ((gselWrite_eq t g v).trans (if_pos hok)))
  · exact .of_effect rfl ((whenGranted_granted (hen _ rfl) _).trans ((gselWrite_eq t g v).trans (if_neg hbad)))
      ⟨sent_nogrant .., net_refusedWrite ..⟩
  · exact .of_effect rfl (clockSwitchComplete_forced hup hsw hforce)

end Sys2Proof.Says
end

section
/-! Fabric domains, region resets and region reloads (R313, R315, R319, R320, R326, R784). -/

namespace Sys2Proof.Machine

section
variable {s : Chip} {d : Fin 4}

/-! ### Domains and the resets of regions (R313, R315, R319, R326) -/

theorem fabricResetRelease_leaves (hup : up s d = true) {g : Nat} (hr : domainReset s d g = false)
    (hn : netRuns s d g = true) :
    fabricResetRelease d g s = s.upd d fun x => { x with domRun := mapPut (fun _ => false) x.domRun g true } :=
  (whenUp_of_up hup _).trans (if_neg (by simp [hr, hn]))

theorem fabricResetRelease_held (hup : up s d = true) {g : Nat} (hr : domainReset s d g = true) :
    fabricResetRelease d g s = s :=
  (whenUp_of_up hup _).trans (if_pos (by simp [hr]))

section
variable {t : Fin 256} {r : Nat}

theorem regionCtl_granted (hg : granted s d 4 t = true) (hb : s.flag d (Rf.CLK_REGION_CTL_RELOADING.at r) = false)
    (v : Word) :
    regionCtl s d t r v =
      ((s.setFld d (Rf.CLK_REGION_CTL_ISOLATE.at r) (getBits v 0 1)).setFld d (Rf.CLK_REGION_CTL_RESET.at r)
        (getBits v 1 1)).setFld d (Rf.CLK_REGION_CTL_ISOVAL.at r) (getBits v 2 1) := by
  simp [regionCtl, hg, hb]

/-- A region that reloads stays isolated and in reset, whoever writes. -/
theorem regionCtl_granted_reloading (hg : granted s d 4 t = true)
    (hb : s.flag d (Rf.CLK_REGION_CTL_RELOADING.at r) = true) (v : Word) :
    regionCtl s d t r v = s.setFld d (Rf.CLK_REGION_CTL_ISOVAL.at r) (getBits v 2 1) := by
  simp [regionCtl, hg, hb]

theorem regionCtl_owner (hg : granted s d 4 t = false) (ho : regionOwner s d r = t)
    (hb : s.flag d (Rf.CLK_REGION_CTL_RELOADING.at r) = false) (v : Word) :
    regionCtl s d t r v = s.setFld d (Rf.CLK_REGION_CTL_RESET.at r) (getBits v 1 1) := by
  simp [regionCtl, hg, ho, hb]

theorem regionCtl_refused (hg : granted s d 4 t = false) (ho : regionOwner s d r ≠ t) (v : Word) :
    regionCtl s d t r v = refusedWrite s d t (Rf.CLK_REGION_CTL_RESET.at r) := by
  simp [regionCtl, hg, ho]

end

/-! ### Reloads (R320, R784) -/

section
variable {q : Reload} (hup : up s d = true) (hq : (s.d d).reload = some q)
include hup hq

theorem regionDrained_eq :
    regionDrained d s =
      if portsDrained s d q.region then s.upd d fun x => { x with reload := some { q with drained := true } }
      else s := by
  rw [regionDrained, whenUp_of_up hup, hq]

theorem reloadFramesDone_writes (hd : q.drained = true) (hw : q.written = false) (hbody : (reloadBody s d q).2 = 0) :
    reloadFramesDone d s =
      (((reloadBody s d q).1.setFld d (Rf.CLK_REGION_CTL_RELOADING.at q.region) 0).setFld d
        (Rf.CLK_REGION_CTL_RESET.at q.region) 0).upd d fun x =>
          { x with reload := some { q with written := true } } := by
  rw [reloadFramesDone, whenUp_of_up hup, hq]
  simp [hd, hw, hbody]

/-- A region that is written has left RELOADING and RESET, and waits for its isolation to be lifted. -/
theorem reloadFramesDone_shows (hd : q.drained = true) (hw : q.written = false) (hbody : (reloadBody s d q).2 = 0) :
    (reloadFramesDone d s).fld d (Rf.CLK_REGION_CTL_RELOADING.at q.region) = 0 ∧
      (reloadFramesDone d s).fld d (Rf.CLK_REGION_CTL_RESET.at q.region) = 0 ∧
        ((reloadFramesDone d s).d d).reload = some { q with written := true } := by
  rw [reloadFramesDone_writes hup hq hd hw hbody]
  have hupd (c : Chip) (f : Fld) :
      (c.upd d fun x => { x with reload := some { q with written := true } }).fld d f = c.fld d f :=
    congrArg (getBits · f.lo f.w) (Chip.reg_upd c d d f.key _ fun _ => rfl)
  refine ⟨?_, ?_, by simp⟩ <;> rw [hupd]
  · rw [Chip.fld_setFld_at_disjoint (f := Rf.CLK_REGION_CTL_RESET) (g := Rf.CLK_REGION_CTL_RELOADING) _ _ _ _ rfl
      (by decide) (by decide)]
    exact (Chip.fld_setFld_same _ d (Rf.CLK_REGION_CTL_RELOADING.at q.region) 0 (show 8 + 1 ≤ 32 by decide)).trans rfl
  · exact (Chip.fld_setFld_same _ d (Rf.CLK_REGION_CTL_RESET.at q.region) 0 (show 1 + 1 ≤ 32 by decide)).trans rfl

end

/-- An event raised leaves the reload of every die and those that wait. -/
theorem reload_raise (s : Chip) (d e : Fin 4) (src kind : Nat) (t : Fin 256) (pay : Nat) :
    ((raise s d src kind t pay).d e).reload = (s.d e).reload ∧
      ((raise s d src kind t pay).d e).reloadQ = (s.d e).reloadQ := by
  obtain ⟨hd, -⟩ := Says.onlyRegs_sendRec s d (mkRec s d src kind t pay false false)
  exact ⟨(congrArg DieSt.reload (hd e) :), (congrArg DieSt.reloadQ (hd e) :)⟩

/-- Where no reload waits, none begins. -/
theorem reloadNext_idle (h : (s.d d).reloadQ = []) : reloadNext s d = s := by
  rw [reloadNext, h]
  rfl

/-- The S9 where the reload of region `r` has ended and the isolation is lifted. -/
def rejoined (s : Chip) (d : Fin 4) (r : Nat) : Chip :=
  (s.setFld d (Rf.CLK_REGION_CTL_ISOLATE.at r) 0).upd d fun x => { x with reload := none }

theorem fld_rejoined (r : Nat) (f : Fld) :
    (rejoined s d r).fld d f = (s.setFld d (Rf.CLK_REGION_CTL_ISOLATE.at r) 0).fld d f :=
  congrArg (getBits · f.lo f.w) (Chip.reg_upd _ d d f.key _ fun _ => rfl)

theorem regionOwner_rejoined (r : Nat) : regionOwner (rejoined s d r) d r = regionOwner s d r := by
  rw [regionOwner, fld_rejoined, Chip.fld_setFld_ne _ _ (.inr ?_), regionOwner]
  simp only [Fld.key, Fld.at, Rf.YOKE_PRR_OWNER_TENANT, Rf.CLK_REGION_CTL_ISOLATE]
  omega

/-- A reload that has written its region ends, and its record goes to the owner. -/
theorem regionIsolateClear_rejoins {q : Reload} (hup : up s d = true) (hq : (s.d d).reload = some q)
    (hw : q.written = true) (hidle : (s.d d).reloadQ = []) :
    regionIsolateClear d s =
      raise (rejoined s d q.region) d 0x230 K.RLDDONE (regionOwner s d q.region) (reloadPay q) := by
  have hnext (pay : Nat) (t : Fin 256) :
      reloadNext (raise (rejoined s d q.region) d 0x230 K.RLDDONE t pay) d =
        raise (rejoined s d q.region) d 0x230 K.RLDDONE t pay := by
    refine reloadNext_idle ?_
    rw [(reload_raise ..).2]
    simp [rejoined, hidle]
  rw [regionIsolateClear, whenUp_of_up hup, hq]
  dsimp only
  rw [if_pos hw, ← rejoined, hnext, regionOwner_rejoined]

theorem regionIsolateClear_shows {q : Reload} (hup : up s d = true) (hq : (s.d d).reload = some q)
    (hw : q.written = true) (hidle : (s.d d).reloadQ = []) (hr : q.region < 64) :
    (regionIsolateClear d s).fld d (Rf.CLK_REGION_CTL_ISOLATE.at q.region) = 0 ∧
      ((regionIsolateClear d s).d d).reload = none ∧
        Says.Sent (regionIsolateClear d s) d K.RLDDONE (regionOwner s d q.region) := by
  rw [regionIsolateClear_rejoins hup hq hw hidle]
  refine ⟨?_, ?_, Says.sent_raise ..⟩
  · have hkept := (ClocksKept.refl clkEnd (rejoined s d q.region)).raise d 0x230 K.RLDDONE
      (regionOwner s d q.region) (reloadPay q) (by decide)
    rw [hkept.fld d (clkKey_at_lt hr rfl (by decide) rfl), fld_rejoined]
    exact (Chip.fld_setFld_same s d (Rf.CLK_REGION_CTL_ISOLATE.at q.region) 0 (show 0 + 1 ≤ 32 by decide)).trans rfl
  · rw [(reload_raise ..).1]
    simp [rejoined]

end

end Sys2Proof.Machine

namespace Sys2Proof.Says

open Sys2Proof.Machine

/-- Settles O28: the state of the domain, of the write's sender and of the reload chooses the branch, and the fields of
one region's register do not meet. -/
theorem regionsResetAndReload : Obligations.RegionsResetAndReload := by
  unfold Obligations.RegionsResetAndReload
  intro t d g r v q s hup
  have hctl {k : Chip} (h : regionCtl s.chip d t r v = k) : Gives (.regionResetWrite t d r v) s k :=
    .of_effect rfl ((whenUp_of_up hup _).trans h)
  refine ⟨fun hr hn => ?_, fun hr => ?_, fun hg hb => ?_, fun hg hb => ?_, fun hg ho hb => ?_, fun hg ho => ?_,
    fun hq hp => ?_, fun hq hp => ?_, fun hq hd hw hbody _ => ?_, fun hq hw hidle hr => ?_⟩
  · exact .of_effect rfl (fabricResetRelease_leaves hup hr hn)
  · exact .of_effect rfl (fabricResetRelease_held hup hr)
  · exact hctl (regionCtl_granted hg hb v)
  · exact hctl (regionCtl_granted_reloading hg hb v)
  · exact hctl (regionCtl_owner hg ho hb v)
  · exact hctl (regionCtl_refused hg ho v)
  · exact .of_effect rfl ((regionDrained_eq hup hq).trans (if_pos hp))
  · exact .of_effect rfl ((regionDrained_eq hup hq).trans (if_neg (by simp [hp])))
  · exact .of_effect rfl rfl (reloadFramesDone_shows hup hq hd hw hbody)
  · exact .of_effect rfl rfl (regionIsolateClear_shows hup hq hw hidle hr)

end Sys2Proof.Says
end

section
/-! The canonical form of memory and registers: what it says of a die and of the S9, and that the updates of the state
keep it. -/

namespace Sys2Proof.Machine

/-- Entries taken out of a map leave it in canonical form. -/
theorem mapFrom_filter {α : Type} [DecidableEq α] (dflt : Nat → α) (p : Nat × α → Bool) (m : SMap α) (b : Nat)
    (h : mapFrom dflt b m = true) : mapFrom dflt b (m.filter p) = true := by
  induction m generalizing b with
  | nil => rfl
  | cons e m ih =>
    obtain ⟨k, v⟩ := e
    simp only [mapFrom, Bool.and_eq_true, decide_eq_true_eq] at h
    obtain ⟨⟨hb, hv⟩, hm⟩ := h
    by_cases hp : p (k, v) = true
    · simp only [List.filter, hp, mapFrom, Bool.and_eq_true, decide_eq_true_eq]
      exact ⟨⟨hb, hv⟩, ih _ hm⟩
    · simp only [List.filter, hp]
      exact mapFrom_mono dflt (by omega) _ (ih _ hm)

/-- Every map of a die that the invariant speaks of is in canonical form. -/
structure StoredWf (x : DieSt) : Prop where
  regs : mapWf regReset x.regs = true
  spad : mapWf word0 x.spad = true
  cst : mapWf word0 x.cst = true
  bmem : mapWf word0 x.bmem = true
  lining : mapWf word0 x.lining = true
  cells : mapWf (fun _ => none) x.dram.cells = true

/-- The maps of a die that the invariant speaks of. -/
def DieSt.stored (x : DieSt) :
    SMap Word × SMap MWord × SMap MWord × SMap MWord × SMap MWord × SMap (Option Byte) :=
  (x.regs, x.spad, x.cst, x.bmem, x.lining, x.dram.cells)

namespace StoredWf
variable {x y : DieSt}

/-- The canonical form is about these maps alone. -/
theorem of_stored (h : StoredWf x) (he : y.stored = x.stored) : StoredWf y := by
  simp only [DieSt.stored, Prod.mk.injEq] at he
  obtain ⟨hregs, hspad, hcst, hbmem, hlining, hcells⟩ := he
  exact ⟨hregs ▸ h.regs, hspad ▸ h.spad, hcst ▸ h.cst, hbmem ▸ h.bmem, hlining ▸ h.lining, hcells ▸ h.cells⟩

theorem mem (h : StoredWf x) : MemsWf x
  | .spad => h.spad
  | .cst => h.cst
  | .bmem => h.bmem
  | .lining => h.lining

theorem setMem (h : StoredWf x) {m : Mem} {v : SMap MWord} (hv : mapWf word0 v = true) : StoredWf (x.setMem m v) := by
  cases m
  · exact { h with spad := hv }
  · exact { h with cst := hv }
  · exact { h with bmem := hv }
  · exact { h with lining := hv }

theorem clearDie (h : StoredWf x) : StoredWf (clearDie x) where
  regs := regsWf_resetRegs _ _ _ h.regs
  spad := mapWf_mapEach _ _ _ h.spad
  cst := rfl
  bmem := rfl
  lining := h.lining
  cells := h.cells

theorem pornDie (h : StoredWf x) : StoredWf (pornDie x) where
  regs := regsWf_resetRegs _ _ _ h.regs
  spad := rfl
  cst := rfl
  bmem := rfl
  lining := rfl
  cells := rfl

theorem srstDie (h : StoredWf x) (keep : Bool) : StoredWf (srstDie keep x) where
  regs := regsWf_resetRegs _ _ _ h.regs
  spad := mapWf_mapEach _ _ _ h.spad
  cst := mapWf_mapEach _ _ _ h.cst
  bmem := mapWf_mapEach _ _ _ h.bmem
  lining := mapWf_mapEach _ _ _ h.lining
  cells := h.cells

/-- A reset of some registers. -/
theorem resetRegs (h : StoredWf x) (keep : Nat → Bool) (p : Rst → Bool) :
    StoredWf { x with regs := resetRegs keep p x.regs } := { h with regs := regsWf_resetRegs _ _ _ h.regs }

end StoredWf

/-- The invariant of `Says.Inv`, of the S9: every die's maps are in canonical form, and the two logs hold at most as many
entries as their memories have (R826, R939). -/
structure Canonical (s : Chip) : Prop where
  dies : ∀ d, StoredWf (s.d d)
  aol : s.aol.length ≤ 32
  log : s.vbat.log.length ≤ 16

theorem inv_iff_canonical (s : State) : Says.Inv s ↔ Canonical s.chip := by
  constructor
  · rintro ⟨hd, ha, hv⟩
    refine ⟨fun d => ?_, ha, hv⟩
    obtain ⟨hregs, hspad, hcst, hbmem, hlining, hcells⟩ := hd d
    exact ⟨hregs, hspad, hcst, hbmem, hlining, hcells⟩
  · rintro ⟨hd, ha, hv⟩
    exact ⟨fun d => ⟨(hd d).regs, (hd d).spad, (hd d).cst, (hd d).bmem, (hd d).lining, (hd d).cells⟩, ha, hv⟩

namespace Canonical
variable {s k : Chip}

/-! ### Branches and lists -/

theorem guarded {p : Prop} [Decidable p] (h : Canonical s) (h' : Canonical k) : Canonical (if p then s else k) := by
  split
  · exact h
  · exact h'

theorem guardedFst {α : Type} {p : Prop} [Decidable p] {a b : Chip × α} (h : Canonical a.1) (h' : Canonical b.1) :
    Canonical (if p then a else b).1 := by
  split
  · exact h
  · exact h'

/-- The chip of an answer that carries more. -/
theorem pair {α : Type} {a : α} (h : Canonical s) : Canonical (s, a).1 := h

/-- The chip of an answer, said of the whole answer: the kernel then compares two answers before it takes them apart. -/
def OfFst {α : Type} (r : Chip × α) : Prop := Canonical r.1

theorem OfFst.guarded {α : Type} {p : Prop} [Decidable p] {a b : Chip × α} (h : OfFst a) (h' : OfFst b) :
    OfFst (if p then a else b) := by
  split
  · exact h
  · exact h'

theorem overAll {α : Type} (h : Canonical s) {f : Chip → α → Chip} (hf : ∀ m a, Canonical m → Canonical (f m a))
    (l : List α) : Canonical (overAll f s l) := overAll_keeps Canonical f hf s l h

/-! ### What lies beside the dies and the logs -/

section
variable {compat : Nat} {g2pin ticked hostSvc epochRuns perst : Bool} {first : Option Time}
  {settings : List (BitVec 48 × Setting)} {merge : List Rec} {overflowed pba : SMap Bool} {resolve : ResolveSt}
  {lcMove : Option LcMove} {wdout auth : Option Nat} {stop : StopSt} {remotes : List RAcc}
  {nextId reservoir reservoirRem epochTick epochE free : Nat} {tenActive : SMap Nat} {pulses : SMap (List Pulse)}
  {ilk : IlkSt} {ps : PsSt} {hosts : SMap HostTen} {cfg : CfgLoad} {trace : TraceSt} {msix : SMap Word}
  {reply : Reply} {hostMem : SMap (Option Byte)}

/-- A change of anything of the S9 but the dies, the always-on log and the VBAT domain. -/
theorem beside (h : Canonical s) :
    Canonical
      { s with
        compat, g2pin, ticked, hostSvc, epochRuns, perst, first, settings, merge, overflowed, pba, resolve, lcMove, wdout,
        auth, stop, remotes, nextId, reservoir, reservoirRem, epochTick, epochE, free, tenActive, pulses, ilk, ps, hosts,
        cfg, trace, msix, reply, hostMem } :=
  ⟨h.dies, h.aol, h.log⟩

/-- A change of every die that keeps its maps in canonical form. -/
theorem mapWf (h : Canonical s) {f : DieSt → DieSt} (hf : ∀ x, StoredWf x → StoredWf (f x)) :
    Canonical
      { s with
        die := s.die.map f
        compat, g2pin, ticked, hostSvc, epochRuns, perst, first, settings, merge, overflowed, pba, resolve, lcMove, wdout,
        auth, stop, remotes, nextId, reservoir, reservoirRem, epochTick, epochE, free, tenActive, pulses, ilk, ps, hosts,
        cfg, trace, msix, reply, hostMem } := by
  refine ⟨fun e => ?_, h.aol, h.log⟩
  rw [Chip.d, Quad.get_map]
  exact hf _ (h.dies e)

/-- A change of every die that leaves these maps alone. -/
theorem map (h : Canonical s) {f : DieSt → DieSt} (hf : ∀ x, (f x).stored = x.stored) :
    Canonical
      { s with
        die := s.die.map f
        compat, g2pin, ticked, hostSvc, epochRuns, perst, first, settings, merge, overflowed, pba, resolve, lcMove, wdout,
        auth, stop, remotes, nextId, reservoir, reservoirRem, epochTick, epochE, free, tenActive, pulses, ilk, ps, hosts,
        cfg, trace, msix, reply, hostMem } := h.mapWf fun x hx => hx.of_stored (hf x)

/-- A change of the VBAT domain that keeps its log bounded. -/
theorem vbatLe (h : Canonical s) {v : VbatSt} (hv : v.log.length ≤ 16) :
    Canonical
      { s with
        vbat := v
        compat, g2pin, ticked, hostSvc, epochRuns, perst, first, settings, merge, overflowed, pba, resolve, lcMove, wdout,
        auth, stop, remotes, nextId, reservoir, reservoirRem, epochTick, epochE, free, tenActive, pulses, ilk, ps, hosts,
        cfg, trace, msix, reply, hostMem } := ⟨h.dies, h.aol, hv⟩

/-- A change of the VBAT domain that leaves its log alone. -/
theorem vbat (h : Canonical s) {v : VbatSt} (hv : v.log = s.vbat.log) :
    Canonical
      { s with
        vbat := v
        compat, g2pin, ticked, hostSvc, epochRuns, perst, first, settings, merge, overflowed, pba, resolve, lcMove, wdout,
        auth, stop, remotes, nextId, reservoir, reservoirRem, epochTick, epochE, free, tenActive, pulses, ilk, ps, hosts,
        cfg, trace, msix, reply, hostMem } := h.vbatLe (hv ▸ h.log)

end

theorem withAol (h : Canonical s) {l : List Rec} (hl : l.length ≤ 32) : Canonical { s with aol := l } :=
  ⟨h.dies, hl, h.log⟩

theorem setHost (h : Canonical s) (t : Fin 256) (x : HostTen) : Canonical (s.setHost t x) := h.beside

theorem onCfg (h : Canonical s) (f : CfgLoad → CfgLoad) : Canonical (s.onCfg f) := h.beside

/-! ### Dies -/

/-- A change of one die that keeps its maps in canonical form. -/
theorem updWf (h : Canonical s) {d : Fin 4} {f : DieSt → DieSt} (hf : ∀ x, StoredWf x → StoredWf (f x)) :
    Canonical (s.upd d f) := by
  refine ⟨fun e => ?_, h.aol, h.log⟩
  rw [Chip.d_upd]
  split
  · exact hf _ (h.dies d)
  · exact h.dies e

/-- A change of one die that leaves these maps alone. -/
theorem upd (h : Canonical s) {d : Fin 4} {f : DieSt → DieSt} (hf : ∀ x, (f x).stored = x.stored) :
    Canonical (s.upd d f) := h.updWf fun x hx => hx.of_stored (hf x)

theorem setReg (h : Canonical s) (d : Fin 4) (j : Nat) (v : Word) : Canonical (s.setReg d j v) :=
  h.updWf fun _ hx => { hx with regs := mapWf_mapPut _ _ _ _ hx.regs }

theorem setFld (h : Canonical s) (d : Fin 4) (f : Fld) (v : Nat) : Canonical (s.setFld d f v) := h.setReg ..

theorem addFld (h : Canonical s) (d : Fin 4) (f : Fld) (n : Nat) : Canonical (s.addFld d f n) := h.setFld ..

theorem setWord (h : Canonical s) (d : Fin 4) (m : Mem) (i : Nat) (w : MWord) : Canonical (s.setWord d m i w) :=
  h.updWf fun _ hx => hx.setMem (mapWf_mapPut _ _ _ _ (hx.mem m))

/-- A change of the DRAM controller that keeps the contents in canonical form. -/
theorem onDramWf (h : Canonical s) {d : Fin 4} {f : DramSt → DramSt}
    (hf : ∀ x : DramSt, Machine.mapWf (fun _ => none) x.cells = true → Machine.mapWf (fun _ => none) (f x).cells = true) :
    Canonical (s.onDram d f) := h.updWf fun _ hx => { hx with cells := hf _ hx.cells }

/-- A change of the DRAM controller that leaves the contents alone. -/
theorem onDram (h : Canonical s) {d : Fin 4} {f : DramSt → DramSt} (hf : ∀ x, (f x).cells = x.cells) :
    Canonical (s.onDram d f) := h.onDramWf fun x hx => (hf x).symm ▸ hx

/-! ## The named operations over the state -/

/-! ### Running and stopped -/

theorem took (h : Canonical s) : Canonical s.took := .beside h

/-! ### Event records (R77, R81, R82, R931, R932, R939) -/

theorem countKind (h : Canonical s) (k : Nat) : Canonical (countKind s k) := .addFld h ..

theorem logRecord (h : Canonical s) (r : Rec) : Canonical (logRecord s r) := by
  have hle := aol_logRecord_le s r h.aol
  unfold Machine.logRecord at hle ⊢
  split at hle
  case isTrue hlt =>
    rw [if_pos hlt]
    exact .withAol h hle
  case isFalse hlt =>
    rw [if_neg hlt]
    exact .withAol (.addFld h ..) hle

theorem sendRec (h : Canonical s) (d : Fin 4) (r : Rec) : Canonical (sendRec s d r) := .upd (.countKind h
    ..) fun _ => by rfl

theorem raise (h : Canonical s) (d : Fin 4) (src kind : Nat) (t : Fin 256) (pay : Nat) :
    Canonical (raise s d src kind t pay) :=
  .sendRec h ..

theorem raiseG2 (h : Canonical s) (d : Fin 4) (src kind : Nat) (t : Fin 256) (pay : Nat) :
    Canonical (raiseG2 s d src kind t pay) :=
  .sendRec h ..

theorem raiseHeld (h : Canonical s) (d : Fin 4) (src kind : Nat) (t : Fin 256) (pay : Nat) :
    Canonical (raiseHeld s d src kind t pay) := by
  unfold Machine.raiseHeld
  extract_lets
  exact .upd (.countKind h ..) fun _ => by rfl

theorem raiseB (h : Canonical s) (d : Fin 4) (src kind : Nat) (t : Fin 256) (pay : Nat) (basted : Bool) :
    Canonical (raiseB s d src kind t pay basted) :=
  .guarded (.raiseHeld h ..) (.raise h ..)

theorem raiseFatal (h : Canonical s) (d : Fin 4) (src kind pay : Nat) :
    Canonical (raiseFatal s d src kind pay) :=
  .logRecord (.countKind h ..) ..

theorem fatalStop (h : Canonical s) (d : Fin 4) (src kind pay : Nat) (f : StopSt → StopSt) :
    Canonical (fatalStop s d src kind pay f) := by
  unfold Machine.fatalStop
  extract_lets s1
  have hs1 : Canonical s1 := .setFld (.raiseFatal h ..) ..
  exact .map hs1 fun _ => by rfl

/-! ### Clusters (R395, R411, R412) -/

theorem setCluster (h : Canonical s) (d : Fin 4) (c : Nat) (x : Cluster) : Canonical (s.setCluster d c x) :=
    .upd h fun _ => by rfl

theorem countCycles (h : Canonical s) (d : Fin 4) : Canonical (countCycles s d) := .upd h fun _ => by rfl

/-! ### Completions (R165, R168, R275) -/

theorem complete (h : Canonical s) (t : Fin 256) (c : Compl) : Canonical (complete s t c) := by
  unfold Machine.complete
  extract_lets
  exact .setHost h ..

theorem tellItem (h : Canonical s) (d : Fin 4) (r : RanItem) (st : Nat) : Canonical (tellItem s d r st) := by
  unfold Machine.tellItem
  extract_lets s1
  have hs1 : Canonical s1 := .upd h fun _ => by rfl
  split
  · exact .complete hs1 ..
  · exact hs1

theorem tellPlain (h : Canonical s) (d : Fin 4) (id : Nat) : Canonical (tellPlain s d id) := by
  unfold Machine.tellPlain
  split
  · exact .tellItem h ..
  · exact h

theorem endProgram (h : Canonical s) (d : Fin 4) (c : Nat) (killed : Bool) (st det : Nat) :
    Canonical (endProgram s d c killed st det) := by
  unfold Machine.endProgram
  extract_lets _ _ s1
  have hs1 : Canonical s1 := .setCluster h ..
  exact .guarded (.guarded hs1 (.tellPlain (.upd hs1 fun _ => by rfl) ..)) h

/-! ### Accumulation sets and recipe instances (R151, R506, R509, R533) -/

theorem onPleat (h : Canonical s) (d : Fin 4) (f : PleatSt → PleatSt) : Canonical (s.onPleat d f) :=
    .upd h fun _ => by rfl

theorem setPset (h : Canonical s) (d : Fin 4) (k : Nat) (x : PSet) : Canonical (s.setPset d k x) :=
  .setFld (.onPleat h ..) ..

theorem discardSet (h : Canonical s) (d : Fin 4) (k : Nat) : Canonical (discardSet s d k) := by
  unfold Machine.discardSet
  extract_lets
  exact .setPset h ..

theorem setInst (h : Canonical s) (d : Fin 4) (i : Nat) (r : Option RInst) : Canonical (s.setInst d i r) :=
    .upd h fun _ => by rfl

theorem endInst (h : Canonical s) (d : Fin 4) (i st : Nat) : Canonical (endInst s d i st) := by
  unfold Machine.endInst
  split
  · exact h
  · extract_lets s1 s2
    have hs1 : Canonical s1 := .setInst h ..
    have hs2 : Canonical s2 := by
      unfold s2
      split
      · exact .discardSet (.setFld hs1 ..) ..
      · exact hs1
    exact .complete hs2 ..

theorem endInstsOf (h : Canonical s) (d : Fin 4) (t : Fin 256) (st : Nat) : Canonical (endInstsOf s d t st) := by
  unfold Machine.endInstsOf
  refine .overAll h (fun _ _ hm => ?_) ..
  split
  · exact .guarded (.endInst hm ..) hm
  · exact hm

theorem markFaulted (h : Canonical s) (t : Fin 256) : Canonical (markFaulted s t) :=
  .overAll (.setFld h ..) (fun _ _ hm => .endInstsOf (.overAll hm (fun _ _ hn => .endProgram hn ..) ..) ..) ..

theorem raiseT (h : Canonical s) (d : Fin 4) (src kind : Nat) (t : Fin 256) (pay : Nat) (basted : Bool) :
    Canonical (raiseT s d src kind t pay basted) :=
  .markFaulted (.raiseB h ..) ..

theorem nogrant (h : Canonical s) (d : Fin 4) (t : Fin 256) (u off : Nat) (rd : Bool) :
    Canonical (nogrant s d t u off rd) :=
  .raise h ..

theorem refusedWrite (h : Canonical s) (d : Fin 4) (t : Fin 256) (f : Fld) : Canonical (refusedWrite s d t f) :=
  .nogrant h ..

theorem accFault (h : Canonical s) (d : Fin 4) (src : Nat) (t : Fin 256) (addr : Nat) (basted : Bool) :
    Canonical (accFault s d src t addr basted) :=
  .raiseT h ..

theorem absentFault (h : Canonical s) (d : Fin 4) (src : Nat) (t : Fin 256) (u feat : Nat) (at_ : Fin 4)
    (basted : Bool) :
    Canonical (absentFault s d src t u feat at_ basted) :=
  .raiseT h ..

/-! ### Writes to a register that has a behaviour of its own (R8, R15, R45) -/

theorem whenGranted (h : Canonical s) {g : Chip → Chip} (hg : ∀ m, Canonical m → Canonical (g m)) (d : Fin 4)
    (t : Fin 256) (f : Fld) : Canonical (whenGranted s d t f g) :=
  .guarded h (.guarded (hg s h) (.refusedWrite h ..))

theorem whenSuper (h : Canonical s) {g : Chip → Chip} (hg : ∀ m, Canonical m → Canonical (g m)) (d : Fin 4)
    (t : Fin 256) (f : Fld) : Canonical (whenSuper s d t f g) :=
  .guarded h (.guarded (hg s h) (.refusedWrite h ..))

theorem whenUp (h : Canonical s) {g : Chip → Chip} (hg : ∀ m, Canonical m → Canonical (g m)) (d : Fin 4) :
    Canonical (whenUp s d g) := .guarded (hg s h) h

/-! ## The end of a configuration load that fails -/

theorem zeroKey (h : Canonical s) : Canonical (zeroKey s) :=
  h.updWf fun _ hx => { hx with lining := mapFrom_filter _ _ _ _ hx.lining }

theorem stopEngines (h : Canonical s) : Canonical (stopEngines s) := .map h fun _ => by rfl

theorem cfgFail (h : Canonical s) (d : Fin 4) (cause : Nat) : Canonical (cfgFail s d cause) := by
  unfold Machine.cfgFail
  extract_lets s1 s2 s3 _ _ s4
  have hs1 : Canonical s1 := .stopEngines (.guarded h (.zeroKey h))
  have hs2 : Canonical s2 := .setFld (.setFld hs1 ..) ..
  have hs3 : Canonical s3 := .setFld (.setFld hs2 ..) ..
  have hs4 : Canonical s4 := .beside hs3
  exact .raise hs4 ..

theorem cfgEndIf (h : Canonical s) (d : Fin 4) (cause : Nat) : Canonical (cfgEndIf s d cause) :=
  .guarded (.cfgFail h ..) h

theorem cfgWiped (h : Canonical s) : Canonical (cfgWiped s) := .cfgEndIf h ..

/-! ## The DRAM controller of a die -/

/-! ### Contents -/

theorem writeGran (h : Canonical s) (d : Fin 4) (g : Nat) (bs : List Byte) : Canonical (writeGran s d g bs) :=
  h.onDramWf fun x hx => cellsWf_putCells bs x (16 * g) hx

theorem poisonGran (h : Canonical s) (d : Fin 4) (g : Nat) : Canonical (poisonGran s d g) := .onDram h fun _ => by rfl

/-! ### Events (R640, R642, R681 to R685) -/

theorem dramEvent (h : Canonical s) (d : Fin 4) (kind chip syms src off : Nat) :
    Canonical (dramEvent s d kind chip syms src off) := by
  unfold Machine.dramEvent
  extract_lets s1
  have hs1 : Canonical s1 := .setFld (.setFld (.setFld (.setFld h ..) ..) ..) ..
  exact .raise hs1 ..

theorem countChip (h : Canonical s) (d : Fin 4) (c : Nat) : Canonical (countChip s d c) := by
  unfold Machine.countChip
  extract_lets _ s1 _ s2
  have hs1 : Canonical s1 := .addFld (.onDram h fun _ => by rfl) ..
  have hs2 : Canonical s2 := .setFld (.setFld hs1 ..) ..
  exact .guarded (.guarded (.guarded hs1 (.onDram (.raise hs1 ..) fun _ => by rfl)) (.raise
    (.onDram hs2 fun _ => by rfl) ..)) hs1

theorem corrected (h : Canonical s) (d : Fin 4) (e : List (Nat × Nat)) (src off : Nat) :
    Canonical (corrected s d e src off) := by
  unfold Machine.corrected
  extract_lets _ _ s1
  have hs1 : Canonical s1 := .dramEvent (.addFld h ..) ..
  exact .overAll hs1 (fun _ _ hm => .countChip hm ..) ..

theorem miscorrected (h : Canonical s) (d : Fin 4) (g src off : Nat) : Canonical (miscorrected s d g src off) := by
  unfold Machine.miscorrected
  extract_lets _ s1 _ s2
  have hs1 : Canonical s1 := .took h
  have hs2 : Canonical s2 := .writeGran (.beside hs1) ..
  exact .countChip (.dramEvent (.addFld hs2 ..) ..) ..

theorem uncorrectable (h : Canonical s) (d : Fin 4) (g src off : Nat) :
    Canonical (uncorrectable s d g src off) :=
  .dramEvent (.addFld (.poisonGran h ..) ..) ..

theorem decodeGran (h : Canonical s) (d : Fin 4) (g src off : Nat) (e : List (Nat × Nat)) :
    Canonical (decodeGran s d g src off e).1 := by
  unfold Machine.decodeGran
  extract_lets s1
  have hs1 : Canonical s1 := .guarded (.took h) h
  refine .guardedFst h (.guardedFst (.pair (.guarded h (.dramEvent (.addFld h ..) ..))) (.guardedFst
    (.pair (.uncorrectable (.took h) ..)) ?_))
  split
  · exact hs1
  · exact .pair (.corrected hs1 ..)
  · exact .pair (.uncorrectable (.took hs1) ..)
  · exact .pair (.miscorrected (.took hs1) ..)

/-! ### The merge buffer (R645 to R649, R670, R676) -/

theorem flushEntry (h : Canonical s) (d : Fin 4) (errs : List Nat) (e : MergeEnt) :
    Canonical (flushEntry s d errs e) := by
  unfold Machine.flushEntry
  extract_lets s1 r
  have hs1 : Canonical s1 := .onDram h fun _ => by rfl
  have hr : Canonical r.1 := .decodeGran hs1 ..
  exact .guarded (.guarded (.writeGran hr ..) hr) (.onDramWf hs1 fun x hx => cellsWf_putCells _ x _ hx)

theorem flushBurst (h : Canonical s) (d : Fin 4) (b : Nat) (errs : List Nat) :
    Canonical (flushBurst s d b errs) :=
  .overAll h (fun _ _ hm => .flushEntry hm ..) ..

theorem fenceFlush (h : Canonical s) (d : Fin 4) : Canonical (fenceFlush s d) :=
  .overAll h (fun _ _ hm => .guarded (.flushBurst hm ..) hm) ..

theorem mergeWrite (h : Canonical s) (d : Fin 4) (g off i : Nat) (bs : List Byte) :
    Canonical (mergeWrite s d g off i bs) := by
  unfold Machine.mergeWrite
  extract_lets _ s1
  have hs1 : Canonical s1 := by
    unfold s1
    split
    · exact .guarded h (.flushBurst h ..)
    · exact h
  split
  · extract_lets
    exact .guarded (.writeGran h ..) (.onDram h fun _ => by rfl)
  · exact .onDram hs1 fun _ => by rfl

theorem dramPut (h : Canonical s) (n : Nat) (d : Fin 4) (off : Nat) (bs : List Byte) :
    Canonical (dramPut n s d off bs) := by
  induction n generalizing s off bs with
  | zero => exact h
  | succ n ih =>
    rw [Machine.dramPut]
    exact .guarded h (ih (.guarded (.writeGran h ..) (.mergeWrite h ..)) ..)

theorem dramWriteBytes (h : Canonical s) (d : Fin 4) (off : Nat) (bs : List Byte) :
    Canonical (dramWriteBytes s d off bs) :=
  .dramPut h ..

theorem readGrans (h : Canonical s) (n : Nat) (d : Fin 4) (off i : Nat) (errs : List Nat) :
    Canonical (readGrans n s d off i errs).1 := by
  induction n generalizing s off i with
  | zero => exact h
  | succ n ih =>
    rw [Machine.readGrans]
    exact ih (.decodeGran (.guarded (.flushBurst h ..) h) ..) ..

theorem dramReadBytes (h : Canonical s) (d : Fin 4) (off n : Nat) (errs : List Nat) :
    Canonical (dramReadBytes s d off n errs).1 := by
  unfold Machine.dramReadBytes
  extract_lets _ r
  have hr : Canonical r.1 := .readGrans h ..
  exact .guardedFst h hr

theorem dramPutSome (h : Canonical s) (d : Fin 4) (off : Nat) (bs : List (Option Byte)) :
    Canonical (dramPutSome s d off bs) := by
  induction bs generalizing s off with
  | nil => exact h
  | cons b bs ih =>
    cases b with
    | none => exact ih h _
    | some v => exact ih (.dramWriteBytes h ..) _

theorem wakeDram (h : Canonical s) (d : Fin 4) : Canonical (wakeDram s d) := .guarded (.setFld h ..) h

theorem dramFetch (h : Canonical s) (d : Fin 4) (off n : Nat) : Canonical (dramFetch s d off n).1 := by
  unfold Machine.dramFetch
  extract_lets r
  have hr : Canonical r.1 := .dramReadBytes (.wakeDram h ..) ..
  exact hr

theorem dramStore (h : Canonical s) (d : Fin 4) (off : Nat) (bs : List (Option Byte)) :
    Canonical (dramStore s d off bs) :=
  .guarded (.dramWriteBytes (.wakeDram h ..) ..) (.dramPutSome (.wakeDram h ..) ..)

/-! ### Regulators and held requests (R655, R660, R662, R672) -/

theorem serveReq (h : Canonical s) (d : Fin 4) (q : DramReq) : Canonical (serveReq s d q) := by
  unfold Machine.serveReq
  extract_lets s1 r m
  have hs1 : Canonical s1 := .guarded (.onDram h fun _ => by rfl) h
  have hr : Canonical r.1 := .dramReadBytes hs1 ..
  have hm : Canonical m := hr
  exact .guarded (.dramWriteBytes hs1 ..) (.beside hm)

theorem admitHeld (h : Canonical s) (d : Fin 4) (full : List Nat) (qs : List DramReq) :
    Canonical (admitHeld s d full qs) := by
  induction qs generalizing s d full with
  | nil => exact h
  | cons a as ih =>
    unfold Machine.admitHeld
    exact .guarded (ih (.serveReq (.onDram h fun _ => by rfl) ..) ..) (ih h ..)

theorem admitAll (h : Canonical s) (d : Fin 4) : Canonical (admitAll s d) := .admitHeld h ..

theorem presentReq (h : Canonical s) (d : Fin 4) (q : DramReq) : Canonical (presentReq s d q) := by
  unfold Machine.presentReq
  extract_lets s1
  have hs1 : Canonical s1 := .onDram h fun _ => by rfl
  exact .guarded (.setFld hs1 ..) (.admitAll hs1 ..)

theorem dramRead (h : Canonical s) (d : Fin 4) (port : Fin 16) (off : BitVec 38) (n : Nat) (errs : List Nat) :
    Canonical (dramRead d port off n errs s) := by
  unfold Machine.dramRead
  refine .whenUp h (fun _ hm => .guarded (.presentReq hm ..) ?_) ..
  extract_lets m
  have hm : Canonical m := .accFault hm ..
  exact .beside hm

theorem dramWrite (h : Canonical s) (d : Fin 4) (port : Fin 16) (off : BitVec 38) (data : List Byte) :
    Canonical (dramWrite d port off data s) :=
  .whenUp h (fun _ hm => .guarded (.presentReq hm ..) (.accFault hm ..)) ..

theorem mergeFlush (h : Canonical s) (d : Fin 4) (g : Nat) (errs : List Nat) :
    Canonical (mergeFlush d g errs s) :=
  .whenUp h (fun _ hm => .guarded (.flushBurst hm ..) hm) ..

theorem refillPort (h : Canonical s) (d : Fin 4) (p : Nat) : Canonical (refillPort s d p) := by
  unfold Machine.refillPort
  extract_lets
  exact .onDram h fun _ => by rfl

theorem regulatorRefill (h : Canonical s) (d : Fin 4) : Canonical (regulatorRefill d s) :=
  .whenUp h (fun _ hm => .guarded (.admitAll (.overAll hm (fun _ _ hn => .refillPort hn ..) ..) ..) hm) ..

theorem refreshDue (h : Canonical s) (d : Fin 4) (rank : Fin 2) (bank : Fin 8) (rtQueued : Bool) :
    Canonical (refreshDue d rank bank rtQueued s) := by
  unfold Machine.refreshDue
  refine .whenUp h (fun _ hm => ?_) ..
  extract_lets
  exact .onDram hm fun _ => by rfl

theorem hotCode (h : Canonical s) (d : Fin 4) (rank old new : Nat) : Canonical (hotCode s d rank old new) :=
  .guarded (.raise h ..) h

theorem mr4Poll (h : Canonical s) (d : Fin 4) (c0 c1 : BitVec 3) : Canonical (mr4Poll d c0 c1 s) := by
  unfold Machine.mr4Poll
  refine .whenUp h (fun _ hm => ?_) ..
  extract_lets _ _ s1 s2
  have hs1 : Canonical s1 := .hotCode hm ..
  have hs2 : Canonical s2 := .guarded (.hotCode hs1 ..) hs1
  exact .setFld (.onDram hs2 fun _ => by rfl) ..

theorem retrainDue (h : Canonical s) (d : Fin 4) (ok : Bool) (rank : Fin 2) :
    Canonical (retrainDue d ok rank s) := by
  unfold Machine.retrainDue
  refine .whenUp h (fun _ hm => .guarded ?_ hm) ..
  extract_lets s1
  have hs1 : Canonical s1 := .onDram hm fun _ => by rfl
  exact .guarded hs1 (.raise hs1 ..)

theorem patrolRead (h : Canonical s) (d : Fin 4) (errs : List Nat) : Canonical (patrolRead d errs s) := by
  unfold Machine.patrolRead
  refine .whenUp h (fun _ hm => .guarded ?_ hm) ..
  extract_lets _ s1
  have hs1 : Canonical s1 := by
    unfold s1
    refine .overAll hm (fun _ _ hn => ?_) ..
    extract_lets
    exact .guarded hn (.decodeGran hn ..)
  exact .onDram hs1 fun _ => by rfl

theorem dramLose (h : Canonical s) (d : Fin 4) : Canonical (dramLose s d) := h.onDramWf fun _ _ => rfl

theorem dramInitStart (h : Canonical s) (d : Fin 4) : Canonical (dramInitStart s d) :=
  .guarded h (.setFld (.setFld (.setFld (.dramLose h ..) ..) ..) ..)

theorem dramInit (h : Canonical s) (t : Fin 256) (d : Fin 4) : Canonical (dramInit t d s) :=
  .whenGranted h (fun _ hm => .dramInitStart hm ..) ..

theorem dramInitDone (h : Canonical s) (d : Fin 4) (ok : Bool) (rank : Fin 2) :
    Canonical (dramInitDone d ok rank s) := by
  unfold Machine.dramInitDone
  refine .whenUp h (fun _ hm => .guarded ?_ hm) ..
  extract_lets s1
  have hs1 : Canonical s1 := .setFld hm ..
  exact .guarded (.onDram (.setFld hs1 ..) fun _ => by rfl) (.raise (.setFld hs1 ..) ..)

theorem dramClearStart (h : Canonical s) (d : Fin 4) : Canonical (dramClearStart s d) := .guarded h (.setFld h ..)

theorem dramClear (h : Canonical s) (t : Fin 256) (d : Fin 4) : Canonical (dramClear t d s) :=
  .whenGranted h (fun _ hm => .dramClearStart hm ..) ..

theorem dramClearDone (h : Canonical s) (d : Fin 4) : Canonical (dramClearDone d s) :=
  .whenUp h (fun _ hm => .guarded (.admitAll (.setFld (.setFld (hm.onDramWf fun _ _ => rfl) ..) ..) ..) hm) ..

theorem dramFence (h : Canonical s) (t : Fin 256) (d : Fin 4) : Canonical (dramFence t d s) :=
  .whenGranted h (fun _ hm => .fenceFlush hm ..) ..

theorem enterSelfRefresh (h : Canonical s) (d : Fin 4) : Canonical (enterSelfRefresh s d) :=
  .setFld (.setFld (.fenceFlush h ..) ..) ..

theorem dramSelfRefresh (h : Canonical s) (t : Fin 256) (d : Fin 4) : Canonical (dramSelfRefresh t d s) :=
  .whenGranted h (fun _ hm => .guarded hm (.enterSelfRefresh hm ..)) ..

theorem dramSrExit (h : Canonical s) (d : Fin 4) : Canonical (dramSrExit d s) :=
  .whenUp h (fun _ hm => .guarded (.admitAll (.setFld hm ..) ..) hm) ..

theorem dramEnableNow (h : Canonical s) (d : Fin 4) : Canonical (dramEnableNow s d) :=
  .guarded h (.guarded (.setFld h ..) (.guarded (.setFld h ..) (.setFld (.setFld h ..) ..)))

theorem dramEnable (h : Canonical s) (t : Fin 256) (d : Fin 4) : Canonical (dramEnable t d s) :=
  .whenGranted h (fun _ hm => .dramEnableNow hm ..) ..

theorem dramMarkWrite (h : Canonical s) (t : Fin 256) (d : Fin 4) (v : Word) :
    Canonical (dramMarkWrite t d v s) :=
  .whenGranted h (fun _ hm => .setFld (.setFld hm ..) ..) ..

theorem dramCtlWrite (h : Canonical s) (d : Fin 4) (v : Word) : Canonical (dramCtlWrite s d v) := by
  unfold Machine.dramCtlWrite
  extract_lets s1 s2 s3 s4
  have hs1 : Canonical s1 := .guarded (.dramInitStart h ..) h
  have hs2 : Canonical s2 := .guarded (.dramEnableNow hs1 ..) (.setFld hs1 ..)
  have hs3 : Canonical s3 := .guarded (.dramClearStart hs2 ..) hs2
  have hs4 : Canonical s4 := .guarded (.fenceFlush hs3 ..) hs3
  exact .guarded (.guarded hs4 (.enterSelfRefresh hs4 ..)) (.setFld hs4 ..)

/-! ## The lane memories of a die -/

/-! ### Words -/

theorem corrLaneFrom (h : Canonical s) (d : Fin 4) (src : Nat) (m : Mem) (i k : Nat) (w : MWord) :
    Canonical (corrLaneFrom s d src m i k w) := by
  unfold Machine.corrLaneFrom
  extract_lets s1
  have hs1 : Canonical s1 := by
    unfold s1
    split
    · exact .addFld h ..
    · exact .addFld h ..
    · exact .addFld h ..
    · exact h
  exact .guarded h (.raise hs1 ..)

theorem corrLane (h : Canonical s) (d : Fin 4) (m : Mem) (i k : Nat) (w : MWord) :
    Canonical (corrLane s d m i k w) :=
  .corrLaneFrom h ..

theorem poisonWord (h : Canonical s) (d : Fin 4) (m : Mem) (i : Nat) : Canonical (poisonWord s d m i) := by
  unfold Machine.poisonWord
  extract_lets
  exact .setWord h ..

theorem foundBadFrom (h : Canonical s) (d : Fin 4) (src : Nat) (m : Mem) (i k : Nat) :
    Canonical (foundBadFrom s d src m i k) := by
  unfold Machine.foundBadFrom
  extract_lets s1 s2
  have hs1 : Canonical s1 := .poisonWord h ..
  have hs2 : Canonical s2 := by
    unfold s2
    split
    · exact .setFld (.setFld (.addFld hs1 ..) ..) ..
    · exact .setFld (.setFld (.addFld hs1 ..) ..) ..
    · exact .setFld (.setFld (.addFld hs1 ..) ..) ..
    · exact hs1
  exact .raise hs2 ..

theorem foundBad (h : Canonical s) (d : Fin 4) (m : Mem) (i k : Nat) : Canonical (foundBad s d m i k) :=
  .foundBadFrom h ..

theorem readPhys (h : Canonical s) (d : Fin 4) (m : Mem) (i mask : Nat) : Canonical (readPhys s d m i mask).1 := by
  unfold Machine.readPhys
  extract_lets
  refine .guardedFst h (.guardedFst (.pair (.poisonWord h ..)) ?_)
  split
  · exact .pair (.foundBad h ..)
  · exact .pair (.overAll h (fun _ _ hm => .corrLane hm ..) ..)

/-! ### Reads of tagged words (R259) -/

theorem physRes {r : Chip × Option Quadlane} (h : Canonical r.1) (basted : Bool) : Canonical (physRes r basted).1 := by
  unfold Machine.physRes
  split <;> exact h

theorem readWord (h : Canonical s) (d : Fin 4) (m : Mem) (i mask : Nat) (r : Reader) :
    Canonical (readWord s d m i mask r).1 := by
  have hphys (b : Bool) : Canonical (Machine.physRes (Machine.readPhys s d m i mask) b).1 := .physRes (.readPhys h ..) b
  unfold Machine.readWord
  dsimp only
  split
  case h_10 =>
    split
    · exact .guardedFst h (.guardedFst h h)
    · exact h
  case h_3 | h_4 => exact .guardedFst (hphys _) h
  case h_1 | h_7 | h_8 => exact hphys _
  all_goals exact h

/-! ### Writes -/

theorem injectInto (h : Canonical s) (d : Fin 4) (m : Mem) (w : MWord) : Canonical (injectInto s d m w).1 := by
  unfold Machine.injectInto
  split
  · exact .guardedFst (.pair (.setFld h ..)) h
  · exact .guardedFst (.pair (.setFld h ..)) h
  · exact h

theorem storeWord (h : Canonical s) (d : Fin 4) (m : Mem) (i : Nat) (w : MWord) :
    Canonical (storeWord s d m i w) := by
  unfold Machine.storeWord
  extract_lets r
  have hr : Canonical r.1 := .injectInto h ..
  exact .setWord hr ..

theorem rawWrite (h : Canonical s) (d : Fin 4) (m : Mem) (i mask : Nat) (q : Quadlane) :
    Canonical (rawWrite s d m i mask q) :=
  .storeWord h ..

theorem onBaste (h : Canonical s) (d : Fin 4) (f : BasteSt → BasteSt) : Canonical (s.onBaste d f) :=
    .upd h fun _ => by rfl

theorem baseHwm (h : Canonical s) (d : Fin 4) : Canonical (baseHwm s d) := .setFld (.setFld h ..) ..

theorem bstall (h : Canonical s) (d : Fin 4) (t : Fin 256) (kind : Nat) : Canonical (bstall s d t kind) := by
  unfold Machine.bstall
  extract_lets _ s1
  have hs1 : Canonical s1 := .addFld (.onBaste h ..) ..
  exact .guarded h (.raise hs1 ..)

theorem takeShadow (h : Canonical s) (d : Fin 4) (m : Mem) (i mask : Nat) (q : Quadlane) (t : Fin 256) :
    Canonical (takeShadow s d m i mask q t).1 := by
  unfold Machine.takeShadow
  extract_lets
  exact .guardedFst (.pair (.baseHwm (.storeWord h ..) ..)) (.pair (.bstall h ..))

theorem writeWord (h : Canonical s) (d : Fin 4) (m : Mem) (i mask : Nat) (q : Quadlane) (who : Writer) :
    Canonical (writeWord s d m i mask q who).1 := by
  have hraw : Canonical (Machine.rawWrite s d m i mask q) := .rawWrite h ..
  have hshadow : Canonical (match (s.word d m i).shadow with
      | some sh => (s.setWord d m i { s.word d m i with shadow := some (shadowWrite m sh mask q), overwritten := true },
          WriteRes.done)
      | none => (Machine.rawWrite s d m i mask q, WriteRes.done)).1 := by
    split
    · exact .setWord h ..
    · exact hraw
  unfold Machine.writeWord
  dsimp only
  split
  case h_1 | h_2 => exact hraw
  case h_3 | h_6 => exact .takeShadow h ..
  case h_4 | h_5 => exact .storeWord h ..
  case h_7 => exact hshadow
  case h_8 => exact .guardedFst h (.guardedFst hraw hshadow)
  case h_9 => exact h
  case h_10 => exact .guardedFst h hraw

theorem ingestWord (h : Canonical s) (d : Fin 4) (i mask : Nat) (q : Quadlane) (t : Fin 256) (basted : Bool) :
    Canonical (ingestWord s d i mask q t basted) := by
  unfold Machine.ingestWord
  extract_lets
  exact .storeWord h ..

/-! ### Scratchpad banks (R355, R360, R361) -/

theorem touchBank (h : Canonical s) (d : Fin 4) (k : Nat) : Canonical (touchBank s d k) := .upd h fun _ => by rfl

theorem wakeBank (h : Canonical s) (d : Fin 4) (k : Nat) : Canonical (wakeBank s d k) := by
  unfold Machine.wakeBank
  extract_lets s1 s2
  have hs1 : Canonical s1 := .touchBank h ..
  have hs2 : Canonical s2 := .upd hs1 fun _ => by rfl
  exact .setFld (.setFld (.setFld hs2 ..) ..) ..

theorem readMem (h : Canonical s) (d : Fin 4) (m : Mem) (i mask : Nat) (r : Reader) :
    Canonical (readMem s d m i mask r).1 :=
  .guardedFst (.guardedFst (.readWord (.touchBank h ..) ..) (.pair (.wakeBank h ..))) (.readWord h ..)

theorem writeMem (h : Canonical s) (d : Fin 4) (m : Mem) (i mask : Nat) (q : Quadlane) (who : Writer) :
    Canonical (writeMem s d m i mask q who).1 :=
  .guardedFst (.guardedFst (.writeWord (.touchBank h ..) ..) (.pair (.wakeBank h ..))) (.writeWord h ..)

/-! ### The poison rule (R778, R803) -/

theorem poisonFault (h : Canonical s) (d : Fin 4) (m : Mem) (i k : Nat) (t : Fin 256) (basted : Bool) :
    Canonical (poisonFault s d m i k t basted) :=
  .raiseT h ..

theorem dramPoisonFault (h : Canonical s) (d : Fin 4) (off : Nat) (t : Fin 256) (basted : Bool) :
    Canonical (dramPoisonFault s d off t basted) :=
  .raiseT h ..

theorem readLining (h : Canonical s) (d : Fin 4) (i mask : Nat) (r : Reader) :
    Canonical (readLining s d i mask r).1 :=
  .guardedFst h (.readWord h ..)

theorem writeLining (h : Canonical s) (d : Fin 4) (i mask : Nat) (q : Quadlane) :
    Canonical (writeLining s d i mask q) :=
  .guarded h (.rawWrite h ..)

/-! ## Scratchpad bank power, error injection, block memories at their fabric ports, and Lining wipes -/

/-! ### Banks and armed captures (R360 to R365) -/

theorem setBankTo (h : Canonical s) (d : Fin 4) (k v : Nat) : Canonical (setBankTo s d k v) := .upd h fun _ => by rfl

theorem moveBank (h : Canonical s) (d : Fin 4) (k v : Nat) : Canonical (moveBank s d k v) := by
  unfold Machine.moveBank
  extract_lets
  exact .guarded (.setFld (.setBankTo h ..) ..) (.guarded (.setFld (.setBankTo h ..) ..) (.setFld
    (.setFld (.setBankTo h ..) ..) ..))

theorem releaseBanks (h : Canonical s) (d : Fin 4) : Canonical (releaseBanks s d) :=
  .overAll h (fun _ _ hm => .guarded (.moveBank hm ..) hm) ..

theorem bankWrite (h : Canonical s) (d : Fin 4) (k : Nat) (v : Word) : Canonical (bankWrite s d k v) := by
  unfold Machine.bankWrite
  extract_lets _ s1 s2
  have hs1 : Canonical s1 := .setFld (.setFld h ..) ..
  have hs2 : Canonical s2 := .guarded (.setFld hs1 ..) hs1
  exact .moveBank hs2 ..

theorem loseBank (h : Canonical s) (d : Fin 4) (k : Nat) : Canonical (loseBank s d k) :=
  h.updWf fun _ hx => { hx with spad := mapFrom_filter _ _ _ _ hx.spad }

theorem bankStateDone (h : Canonical s) (d : Fin 4) (k : Fin 32) : Canonical (bankStateDone d k s) := by
  unfold Machine.bankStateDone
  refine .whenUp h (fun _ hm => ?_) ..
  extract_lets _ s1
  have hs1 : Canonical s1 := .setFld hm ..
  exact .guarded (.guarded (.loseBank hs1 ..) hs1) hm

theorem drainIngest (h : Canonical s) (d : Fin 4) (busy : List Nat) (es : List IngestEnt) :
    Canonical (drainIngest s d busy es) := by
  induction es generalizing s d busy with
  | nil => exact h
  | cons a as ih =>
    unfold Machine.drainIngest
    extract_lets s1
    have hs1 : Canonical s1 := .upd h fun _ => by rfl
    exact .guarded (ih (.ingestWord (.touchBank hs1 ..) ..) ..) (ih h ..)

theorem bankWakeDone (h : Canonical s) (d : Fin 4) (k : Fin 32) : Canonical (bankWakeDone d k s) := by
  unfold Machine.bankWakeDone
  refine .whenUp h (fun _ hm => .guarded ?_ hm) ..
  extract_lets s1
  have hs1 : Canonical s1 := .setFld hm ..
  exact .drainIngest hs1 ..

theorem ingestPut (h : Canonical s) (d : Fin 4) (e : IngestEnt) : Canonical (ingestPut s d e) := by
  unfold Machine.ingestPut
  extract_lets s1 s2
  have hs1 : Canonical s1 := .guarded h (.wakeBank h ..)
  have hs2 : Canonical s2 := .upd hs1 fun _ => by rfl
  exact .guarded (.ingestWord (.touchBank h ..) ..) (.setFld hs2 ..)

theorem capBanks (h : Canonical s) (d : Fin 4) (old new : Nat) : Canonical (capBanks s d old new) :=
  .overAll h (fun _ _ hm => .guarded hm (.guarded (.guarded (.moveBank hm ..) hm) (.guarded (.moveBank hm ..) hm))) ..

theorem capBanksWindow (h : Canonical s) (d : Fin 4) : Canonical (capBanksWindow s d) := by
  unfold Machine.capBanksWindow
  extract_lets s1
  have hs1 : Canonical s1 := .guarded (.overAll h (fun _ _ hm => .guarded (.moveBank hm ..) hm) ..) h
  exact .upd hs1 fun _ => by rfl

/-! ### Error injection (R378) -/

theorem spadInject (h : Canonical s) (d : Fin 4) (v : Word) : Canonical (spadInject s d v) :=
  .setFld (.setFld (.setFld h ..) ..) ..

theorem bmemInject (h : Canonical s) (d : Fin 4) (v : Word) : Canonical (bmemInject s d v) :=
  .setFld (.setFld (.setFld h ..) ..) ..

/-! ### Block memories (R350 to R353) -/

theorem bmemPortAccess (h : Canonical s) (d : Fin 4) (b : Fin 1536) (wr : Bool) (word : Fin 1024) (en : BitVec 4)
    (data : BitVec 56) :
    Canonical (bmemPortAccess d b wr word en data s) := by
  unfold Machine.bmemPortAccess
  refine .whenUp h (fun _ hm => .guarded hm (.guarded (.writeWord hm ..) ?_)) ..
  extract_lets r m
  have hr : Canonical r.1 := .readWord hm ..
  have hm : Canonical m := hr
  exact .beside hm

theorem setFifo (h : Canonical s) (d : Fin 4) (b : Nat) (f : FifoSt) : Canonical (setFifo s d b f) :=
    .upd h fun _ => by rfl

theorem bmemFifoWrite (h : Canonical s) (d : Fin 4) (b : Fin 1536) (data : BitVec 56) :
    Canonical (bmemFifoWrite d b data s) := by
  unfold Machine.bmemFifoWrite
  refine .whenUp h (fun _ hm => ?_) ..
  extract_lets
  exact .guarded hm (.guarded (.setFld hm ..) (.setFld (.writeWord hm ..) ..))

theorem bmemFifoRead (h : Canonical s) (d : Fin 4) (b : Fin 1536) : Canonical (bmemFifoRead d b s) := by
  refine .whenUp h (fun m hm => .guarded hm (.guarded (.beside (.setFld hm ..)) (.beside
    (.setFld (.setFifo ?_ ..) ..)))) ..
  exact .readWord hm ..

/-! ### Lining wipes (R368, R369, R385, R391) -/

theorem beginWipe (h : Canonical s) (e : Fin 4) (cause : Nat) : Canonical (beginWipe s e cause) := by
  unfold Machine.beginWipe
  extract_lets s1
  have hs1 : Canonical s1 := .guarded h (.setFld h ..)
  exact .setFld hs1 ..

theorem wipeLining (h : Canonical s) (cause : Fin 4 → Nat) : Canonical (wipeLining s cause) :=
  .cfgWiped (.overAll h (fun _ _ hm => .beginWipe hm ..) ..)

theorem liningWipe (h : Canonical s) : Canonical (liningWipe s) := .wipeLining h ..

theorem endWipe (h : Canonical s) (d : Fin 4) : Canonical (endWipe s d) := by
  have hs1 : Canonical (s.upd d fun x => { x with lining := [] }) := h.updWf fun _ hx => { hx with lining := rfl }
  exact .raise (.addFld (.setFld (.setFld hs1 ..) ..) ..) ..

theorem liningWipeDone (h : Canonical s) (d : Fin 4) : Canonical (liningWipeDone d s) :=
  .whenUp h (fun _ hm => .guarded (.endWipe hm ..) hm) ..

/-! ## Pleat's sum store and accumulation sets -/

/-! ### Entries (R505, R508) -/

theorem workSample (h : Canonical s) (d : Fin 4) (k i : Nat) (x : Lane) : Canonical (workSample s d k i x) := by
  unfold Machine.workSample
  extract_lets
  exact .onPleat h ..

/-! ### Commit and discard (R509 to R511, R519) -/

theorem commitNow (h : Canonical s) (d : Fin 4) (k : Nat) : Canonical (commitNow s d k) := by
  unfold Machine.commitNow
  extract_lets _ s1 _ s2 s3
  have hs1 : Canonical s1 := .setPset h ..
  have hs2 : Canonical s2 := .setFld hs1 ..
  have hs3 : Canonical s3 := .setFld hs2 ..
  exact .guarded (.guarded (.onPleat hs3 ..) hs3) hs2

theorem commitSet (h : Canonical s) (d : Fin 4) (k : Nat) : Canonical (commitSet s d k) := by
  unfold Machine.commitSet
  extract_lets
  exact .guarded (.setPset h ..) (.commitNow h ..)

theorem releaseSet (h : Canonical s) (d : Fin 4) (k : Nat) : Canonical (releaseSet s d k) :=
  .guarded (.commitNow h ..) h

theorem settleChan (h : Canonical s) (d : Fin 4) (ch : Nat) (commit : Bool) :
    Canonical (settleChan s d ch commit) :=
  .overAll h (fun _ _ hm => .guarded (.commitSet hm ..) (.discardSet hm ..)) ..

theorem settlePlain (h : Canonical s) (d : Fin 4) (ch : Nat) (atA valid : Bool) :
    Canonical (settlePlain s d ch atA valid) :=
  .guarded h (.overAll h (fun _ _ hm => .guarded (.guarded (.commitSet hm ..) (.discardSet hm ..)) hm) ..)

/-! ### Which set takes a capture (R507, R544) -/

theorem plskip (h : Canonical s) (d : Fin 4) (ch : Nat) (t : Fin 256) (set reason : Nat) :
    Canonical (plskip s d ch t set reason) := by
  unfold Machine.plskip
  extract_lets s1
  have hs1 : Canonical s1 := .guarded (.addFld h ..) h
  exact .raise hs1 ..

theorem chooseSet (h : Canonical s) (d : Fin 4) (ch : Nat) (t : Fin 256) (len : Nat) :
    Canonical (chooseSet s d ch t len) := by
  unfold Machine.chooseSet
  extract_lets
  split
  · extract_lets
    exact .setPset h ..
  · split
    · exact .plskip h ..
    · exact .plskip h ..

theorem sumFound (h : Canonical s) (d : Fin 4) (k i : Nat) (e : SumErr) : Canonical (sumFound s d k i e) := by
  unfold Machine.sumFound
  split
  · exact h
  · exact .raise h ..
  · exact .raiseT (.discardSet (.setFld h ..) ..) ..

theorem pleatSample (h : Canonical s) (d : Fin 4) (ch : Nat) (t : Fin 256) (len i : Nat) (x : Lane) (e : SumErr) :
    Canonical (pleatSample s d ch t len i x e) := by
  unfold Machine.pleatSample
  extract_lets s1
  have hs1 : Canonical s1 := .guarded (.chooseSet h ..) h
  split
  · extract_lets s2
    have hs2 : Canonical s2 := .sumFound hs1 ..
    exact .guarded hs2 (.workSample hs2 ..)
  · exact hs1

/-! ## Acquisition -/

/-! ### Instants (R452); times from tick start in steps of 25 ps, 40 to a tq -/

theorem setCap (h : Canonical s) (d : Fin 4) (c : Nat) (x : Option Capture) : Canonical (s.setCap d c x) :=
    .upd h fun _ => by rfl

/-! ### ARM (R450, R451) -/

theorem descWord (h : Canonical s) (d : Fin 4) (w : Nat) : Canonical (descWord s d w).1 := by
  unfold Machine.descWord
  extract_lets r
  have hr : Canonical r.1 := .readMem h ..
  split
  · exact hr
  · exact hr

theorem armCapture (h : Canonical s) (d : Fin 4) (la : Nat) (t : Fin 256) (f0 : Bool) :
    Canonical (armCapture s d la t f0).1 := by
  unfold Machine.armCapture
  extract_lets _ _ r0 r1 r2 r3 s1
  have hr0 : Canonical r0.1 := .descWord h ..
  have hr1 : Canonical r1.1 := .descWord hr0 ..
  have hr2 : Canonical r2.1 := .descWord hr1 ..
  have hr3 : Canonical r3.1 := .descWord hr2 ..
  have hs1 : Canonical s1 := hr3
  refine .guardedFst h (.guardedFst h (.guardedFst h (.guardedFst h (.guardedFst h
    (.guardedFst (.pair (.overAll h (fun _ _ hm => .wakeBank hm ..) ..)) ?_)))))
  split
  · extract_lets _ _ _ s2 m _ s3
    have hs2 : Canonical s2 := .setCap hs1 ..
    have hm : Canonical m := .setFld hs2 ..
    have hs3 : Canonical s3 := .guarded (.beside hm) hs2
    split
    · exact hs1
    · exact .guardedFst hs1 (.guardedFst hs1 hs3)
  · exact hr3

/-! ### Samples (R447, R448, R453, R459, R460) -/

theorem closeRecovery (h : Canonical s) (d : Fin 4) (ch : Nat) (c : Capture) :
    Canonical (closeRecovery s d ch c).1 := by
  unfold Machine.closeRecovery
  split
  · exact h
  · extract_lets
    exact .pair (.sendRec h ..)

theorem fastSample (h : Canonical s) (d : Fin 4) (ch : Nat) (c : Capture) (x : Lane) (severe : Bool) :
    Canonical (fastSample s d ch c x severe).1 := by
  unfold Machine.fastSample
  extract_lets r
  have hr : Canonical r.1 := .closeRecovery h ..
  refine .guardedFst hr ?_
  split
  · extract_lets _ _ q
    have hq : Canonical q.1 := .closeRecovery h ..
    exact .guardedFst hq h
  · exact h

theorem storeSample (h : Canonical s) (d : Fin 4) (ch : Nat) (c : Capture) (k : Nat) (x : Lane) :
    Canonical (storeSample s d ch c k x) := by
  unfold Machine.storeSample
  extract_lets
  exact .ingestPut h ..

theorem ingestWrite (h : Canonical s) (d : Fin 4) (ch : Fin 10) (x : BitVec 14) (severe : Bool) (sumRead : Nat) :
    Canonical (ingestWrite d ch x severe sumRead s) := by
  unfold Machine.ingestWrite
  refine .whenUp h (fun _ hm => ?_) ..
  split
  · exact hm
  · extract_lets r _ _ q s1 s2
    have hr : Canonical r.1 := .guardedFst (.fastSample hm ..) hm
    have hq : Canonical q.1 := .guardedFst (.closeRecovery hr ..) hr
    have hs1 : Canonical s1 := .guarded (.storeSample hq ..) hq
    have hs2 : Canonical s2 := .guarded (.pleatSample hs1 ..) hs1
    exact .guarded hm (.setCap hs2 ..)

/-! ### DONE and validity (R454, R455, R457, R460) -/

theorem putHeader (h : Canonical s) (d : Fin 4) (ch : Nat) (c : Capture) (i : Nat) (ws : List Nat) :
    Canonical (putHeader s d ch c i ws) := by
  induction ws generalizing s i with
  | nil => exact h
  | cons a as ih =>
    unfold Machine.putHeader
    exact ih (.ingestPut h ..) ..

theorem wakeHeader (h : Canonical s) (d : Fin 4) (c : Capture) : Canonical (wakeHeader s d c) :=
  .overAll h (fun _ _ hm => .guarded hm (.wakeBank hm ..)) ..

theorem captureDone (h : Canonical s) (d : Fin 4) (ch : Fin 10) : Canonical (captureDone d ch s) := by
  unfold Machine.captureDone
  refine .whenUp h (fun _ hm => ?_) ..
  split
  · exact hm
  · extract_lets _ s1
    have hs1 : Canonical s1 := .putHeader hm ..
    exact .guarded hm (.guarded (.wakeHeader hm ..) (.settlePlain (.releaseBanks (.setCap hs1 ..) ..) ..))

theorem caplate (h : Canonical s) (d : Fin 4) (ch : Nat) (c : Capture) (abandoned : Bool) :
    Canonical (caplate s d ch c abandoned) :=
  .raise h ..

theorem capturesAtA (h : Canonical s) (d : Fin 4) : Canonical (capturesAtA s d) := by
  unfold Machine.capturesAtA
  refine .overAll h (fun _ _ hm => ?_) ..
  split
  · exact hm
  · extract_lets _ s1 s2 s3
    have hs1 : Canonical s1 := .setCap hm ..
    have hs2 : Canonical s2 := .guarded hs1 (.caplate hs1 ..)
    have hs3 : Canonical s3 := .settlePlain hs2 ..
    exact .guarded hm (.guarded (.upd hs3 fun _ => by rfl) hs3)

theorem abandon (h : Canonical s) (d : Fin 4) (ch : Nat) (c : Capture) : Canonical (abandon s d ch c) := by
  unfold Machine.abandon
  extract_lets s1 s2
  have hs1 : Canonical s1 := .setCap h ..
  have hs2 : Canonical s2 := .upd hs1 fun _ => by rfl
  exact .settleChan (.releaseBanks (.caplate hs2 ..) ..) ..

theorem capturesAtStart (h : Canonical s) (d : Fin 4) : Canonical (capturesAtStart s d) := by
  unfold Machine.capturesAtStart
  refine .overAll h (fun _ _ hm => ?_) ..
  split
  · exact .guarded (.abandon hm ..) hm
  · exact hm

/-! ### Converters (R449, R494) -/

theorem setEnable (h : Canonical s) (d : Fin 4) (i : Nat) (f : Fld) (v : Bool) :
    Canonical (setEnable s d i f v) := by
  unfold Machine.setEnable
  extract_lets s1 s2
  have hs1 : Canonical s1 := .setFld h ..
  have hs2 : Canonical s2 := .setFld hs1 ..
  refine .guarded hs1 (.overAll hs2 (fun _ _ hm => ?_) ..)
  split
  · exact .guarded (.abandon hm ..) hm
  · exact hm

theorem acqCtl (h : Canonical s) (d : Fin 4) (v : Word) : Canonical (acqCtl s d v) := by
  unfold Machine.acqCtl
  extract_lets s1 s2 s3
  have hs1 : Canonical s1 := .setEnable h ..
  have hs2 : Canonical s2 := .setEnable hs1 ..
  have hs3 : Canonical s3 := .setEnable hs2 ..
  exact .setFld hs3 ..

theorem converterReady (h : Canonical s) (d : Fin 4) (i : Fin 3) : Canonical (converterReady d i s) := by
  unfold Machine.converterReady
  refine .whenUp h (fun _ hm => ?_) ..
  extract_lets
  exact .guarded (.setFld hm ..) hm

/-! ### Pulse outputs (R131, R132, R463 to R465, R498) -/

theorem setPulses (h : Canonical s) (k : Nat) (ps : List Pulse) : Canonical (setPulses s k ps) := .beside h

theorem firePulse (h : Canonical s) (k edge width : Nat) : Canonical (firePulse s k edge width).1 := by
  unfold Machine.firePulse
  extract_lets
  exact .guardedFst h (.guardedFst h (.guardedFst h (.pair (.setPulses h ..))))

theorem pulseEdge (h : Canonical s) (k : Fin 4) : Canonical (pulseEdge k s) :=
  .whenUp h (fun _ hm => .setPulses hm ..) ..

theorem pulseEnd (h : Canonical s) (k : Fin 4) : Canonical (pulseEnd k s) :=
  .whenUp h (fun _ hm => .setPulses hm ..) ..

theorem pmonEdge (h : Canonical s) (k : Fin 4) (at50 : Nat) : Canonical (pmonEdge k at50 s) := by
  unfold Machine.pmonEdge
  refine .whenUp h (fun _ hm => ?_) ..
  extract_lets
  exact .setPulses hm ..

theorem pmonWindowExpire (h : Canonical s) (k : Fin 4) : Canonical (pmonWindowExpire k s) := by
  unfold Machine.pmonWindowExpire
  refine .whenUp h (fun _ hm => ?_) ..
  extract_lets _ _ s1
  have hs1 : Canonical s1 := .setPulses hm ..
  split
  · exact hm
  · exact .raise (.setFld hs1 ..) ..

theorem dropPulses (h : Canonical s) : Canonical (dropPulses s) := .overAll h (fun _ _ hm => .setPulses hm ..) ..

/-! ## Clock sources, global networks and fabric resets -/

/-! ### PLLs (R304 to R306, R327) -/

theorem setPll (h : Canonical s) (d : Fin 4) (k : Nat) (x : PllSt) : Canonical (s.setPll d k x) :=
    .upd h fun _ => by rfl

/-! ### Networks (R307, R328 to R330, R340) -/

theorem setNet (h : Canonical s) (d : Fin 4) (g : Nat) (x : NetSt) : Canonical (s.setNet d g x) :=
    .upd h fun _ => by rfl

theorem netLost (h : Canonical s) (d : Fin 4) (g : Nat) : Canonical (netLost s d g) := by
  unfold Machine.netLost
  extract_lets _ s1
  have hs1 : Canonical s1 := .setFld h ..
  exact .guarded (.raise (.setNet hs1 ..) ..) (.raise (.setFld h ..) ..)

theorem sourcesLost (h : Canonical s) (d : Fin 4) (p : Nat → Bool) : Canonical (sourcesLost s d p) :=
  .overAll h (fun _ _ hm => .netLost hm ..) ..

theorem sourcesBack (h : Canonical s) (d : Fin 4) (p : Nat → Bool) : Canonical (sourcesBack s d p) :=
  .overAll h (fun _ _ hm => .guarded (.setFld hm ..) hm) ..

theorem pllSrcWrite (h : Canonical s) (d : Fin 4) (k : Nat) (v : Word) : Canonical (pllSrcWrite s d k v) := by
  unfold Machine.pllSrcWrite
  extract_lets _ _ s1 s2 _ _ _ s3
  have hs1 : Canonical s1 := .guarded h (.setReg h ..)
  have hs2 : Canonical s2 := .guarded hs1 (.setFld (.setFld hs1 ..) ..)
  have hs3 : Canonical s3 := .setPll (.setFld (.setFld hs1 ..) ..) ..
  exact .guarded (.guarded h (.setFld (.setFld h ..) ..)) (.guarded (.guarded (.setPll (.setFld hs2 ..) ..)
    (.setFld hs2 ..)) (.guarded (.sourcesLost hs3 ..) hs3))

theorem pllFrac (h : Canonical s) (d : Fin 4) (k : Nat) (v : Word) : Canonical (pllFrac s d k v) := .setFld h ..

theorem pllLock (h : Canonical s) (d : Fin 4) (k : Nat) : Canonical (pllLock d k s) :=
  .whenUp h (fun _ hm => .guarded (.sourcesBack (.setFld hm ..) ..) hm) ..

theorem pllUnlock (h : Canonical s) (d : Fin 4) (k : Nat) : Canonical (pllUnlock d k s) := by
  unfold Machine.pllUnlock
  refine .whenUp h (fun _ hm => .guarded ?_ hm) ..
  extract_lets s1
  have hs1 : Canonical s1 := .setFld (.setFld hm ..) ..
  exact .sourcesLost (.raise hs1 ..) ..

theorem jcSourceLoss (h : Canonical s) (d : Fin 4) (j : Nat) : Canonical (jcSourceLoss d j s) := by
  unfold Machine.jcSourceLoss
  refine .whenUp h (fun _ hm => ?_) ..
  extract_lets
  exact .guarded hm (.guarded (.setFld (.setFld hm ..) ..) (.setFld hm ..))

theorem ckinMeasure (h : Canonical s) (d : Fin 4) (k khz : Nat) : Canonical (ckinMeasure d k khz s) := by
  unfold Machine.ckinMeasure
  refine .whenUp h (fun _ hm => ?_) ..
  extract_lets s1 s2 s3
  have hs1 : Canonical s1 := .setFld hm ..
  have hs2 : Canonical s2 := .setFld hs1 ..
  have hs3 : Canonical s3 := by
    unfold s3
    refine .overAll hs2 (fun _ _ hn => ?_) ..
    extract_lets
    exact .guarded (.setFld hn ..) hn
  exact .guarded hs1 (.sourcesBack hs3 ..)

theorem ckinLost (h : Canonical s) (d : Fin 4) (k quiet : Nat) : Canonical (ckinLost d k quiet s) := by
  unfold Machine.ckinLost
  refine .whenUp h (fun _ hm => .guarded hm ?_) ..
  extract_lets s1 s2
  have hs1 : Canonical s1 := .setFld hm ..
  have hs2 : Canonical s2 := .setFld hs1 ..
  exact .sourcesLost hs2 ..

theorem gselWrite (h : Canonical s) (d : Fin 4) (t : Fin 256) (g : Nat) (v : Word) :
    Canonical (gselWrite s d t g v) := by
  unfold Machine.gselWrite
  extract_lets _ _ s1
  have hs1 : Canonical s1 := .setReg h ..
  exact .guarded (.refusedWrite h ..) (.setNet hs1 ..)

theorem clockSwitchComplete (h : Canonical s) (d : Fin 4) (g : Nat) : Canonical (clockSwitchComplete d g s) := by
  unfold Machine.clockSwitchComplete
  refine .whenUp h (fun _ hm => ?_) ..
  extract_lets
  exact .guarded hm (.setFld (.setNet hm ..) ..)

/-! ### Fabric resets (R313 to R315, R336) -/

theorem domainsReset (h : Canonical s) (d : Fin 4) : Canonical (domainsReset s d) := .upd h fun _ => by rfl

theorem fabricResetRelease (h : Canonical s) (d : Fin 4) (g : Nat) : Canonical (fabricResetRelease d g s) :=
  .whenUp h (fun _ hm => .guarded hm (.upd hm fun _ => by rfl)) ..

theorem fabricResetWrite (h : Canonical s) (d : Fin 4) (hold : Bool) (v : Word) :
    Canonical (fabricResetWrite s d hold v) :=
  .domainsReset (.guarded (.setFld h ..) (.setFld h ..)) ..

/-! ### Regions (R316, R319, R321, R326, R334) -/

theorem regionCtl (h : Canonical s) (d : Fin 4) (t : Fin 256) (r : Nat) (v : Word) :
    Canonical (regionCtl s d t r v) := by
  unfold Machine.regionCtl
  extract_lets _ reset s1
  have hreset : ∀ m, Canonical m → Canonical (reset m) := by
    intro m hm
    unfold reset
    exact .guarded hm (.setFld hm ..)
  have hs1 : Canonical s1 := .guarded h (.setFld h ..)
  exact .guarded (.setFld (hreset _ hs1) ..) (.guarded (hreset _ h) (.refusedWrite h ..))

/-! ## Serial lanes -/

theorem setLane (h : Canonical s) (d : Fin 4) (k : Nat) (x : LaneSt) : Canonical (s.setLane d k x) :=
    .upd h fun _ => by rfl

/-! ### DFE taps (R560 to R562) -/

theorem setTap (h : Canonical s) (d : Fin 4) (k t : Nat) (v : Int) : Canonical (setTap s d k t v) := .setFld h ..

theorem clearTaps (h : Canonical s) (d : Fin 4) (k : Nat) : Canonical (clearTaps s d k) :=
  .overAll h (fun _ _ hm => .setTap hm ..) ..

theorem dfeAdapt (h : Canonical s) (d : Fin 4) (k : Nat) (accs : List Int) : Canonical (dfeAdapt d k accs s) := by
  unfold Machine.dfeAdapt
  refine .whenUp h (fun _ hm => ?_) ..
  extract_lets
  refine .guarded hm (.overAll hm (fun _ _ hn => ?_) ..)
  extract_lets
  exact .guarded (.setTap hn ..) (.guarded (.setTap hn ..) hn)

theorem dfeSnapshot (h : Canonical s) (d : Fin 4) (k : Nat) : Canonical (dfeSnapshot s d k) := by
  unfold Machine.dfeSnapshot
  extract_lets _ _ m1
  have hm1 : Canonical m1 := .setLane h ..
  exact .beside hm1

theorem dfeTapRead (h : Canonical s) (d : Fin 4) (k t : Nat) : Canonical (dfeTapRead s d k t).1 := by
  unfold Machine.dfeTapRead
  extract_lets
  split
  · exact .pair (.setLane h ..)
  · exact h

/-! ### Power states (R564 to R569) -/

theorem laneDark (h : Canonical s) (d : Fin 4) (k : Nat) : Canonical (laneDark s d k) := by
  unfold Machine.laneDark
  extract_lets _ s1 s2 s3
  have hs1 : Canonical s1 := .guarded (.setFld (.setFld h ..) ..) h
  have hs2 : Canonical s2 := .setFld (.setFld hs1 ..) ..
  have hs3 : Canonical s3 := .setFld (.setFld hs2 ..) ..
  exact .guarded (.sourcesLost hs3 ..) hs3

theorem laneGo (h : Canonical s) (d : Fin 4) (k v : Nat) : Canonical (laneGo s d k v) := by
  unfold Machine.laneGo
  extract_lets _ _ enters wakes s1 s2 _ _ _ s3
  have henters : ∀ m, Canonical m → Canonical (enters m) := by
    intro m hm
    unfold enters
    exact .setFld hm ..
  have hwakes : ∀ m, Canonical m → Canonical (wakes m) := by
    intro m hm
    unfold wakes
    exact .setFld hm ..
  have hs1 : Canonical s1 := .setFld (.laneDark h ..) ..
  have hs2 : Canonical s2 := .setFld (.setFld hs1 ..) ..
  have hs3 : Canonical s3 := .setLane h ..
  exact .guarded h (.guarded (henters _ (.setLane hs2 ..)) (.guarded (henters _ (.setLane (.setFld hs1 ..) ..))
    (.guarded (henters _ (.setLane h ..)) (.guarded (hwakes _ (.setLane h ..)) (hwakes _
      (.guarded hs3 (.clearTaps hs3 ..)))))))

theorem laneAsk (h : Canonical s) (d : Fin 4) (k v : Nat) : Canonical (laneAsk s d k v) := by
  unfold Machine.laneAsk
  extract_lets
  exact .guarded (.setLane h ..) (.laneGo h ..)

theorem laneSettle (h : Canonical s) (d : Fin 4) (k : Nat) : Canonical (laneSettle s d k) := by
  unfold Machine.laneSettle
  extract_lets _ _ s1 s2 s3 s4
  have hs1 : Canonical s1 := .setFld h ..
  have hs2 : Canonical s2 := .guarded (.setFld hs1 ..) hs1
  have hs3 : Canonical s3 := by
    unfold s3
    refine .guarded ?_ hs2
    split
    · extract_lets s5
      have hs5 : Canonical s5 := .setFld hs2 ..
      exact .overAll hs5 (fun _ _ hm => .setFld hm ..) ..
    · exact hs2
  have hs4 : Canonical s4 := .setLane hs3 ..
  split
  · exact .laneGo hs4 ..
  · exact hs4

theorem laneStateDone (h : Canonical s) (d : Fin 4) (k : Nat) : Canonical (laneStateDone d k s) :=
  .whenUp h (fun _ hm => .overAll hm (fun _ _ hn => .guarded (.laneSettle hn ..) hn) ..) ..

theorem laneDemand (h : Canonical s) (d : Fin 4) (k : Nat) (sd : Bool) : Canonical (laneDemand s d k sd) := by
  unfold Machine.laneDemand
  extract_lets _ _ s1 _ _ _ _ s2
  have hs1 : Canonical s1 := .guarded (.setFld h ..) (.setLane h ..)
  have hs2 : Canonical s2 := .raise hs1 ..
  exact .guarded hs1 (.overAll hs2 (fun _ _ hm => .laneAsk hm ..) ..)

theorem capLanes (h : Canonical s) (d : Fin 4) (old new : Nat) : Canonical (capLanes s d old new) :=
  .overAll h (fun _ _ hm => .guarded hm (.guarded (.guarded (.overAll hm (fun _ _ hn => .laneAsk hn ..) ..) hm)
    (.guarded (.overAll hm (fun _ _ hn => .laneAsk hn ..) ..) hm))) ..

theorem capLanesWindow (h : Canonical s) (d : Fin 4) : Canonical (capLanesWindow s d) := by
  unfold Machine.capLanesWindow
  refine .overAll h (fun _ _ hm => ?_) ..
  extract_lets s1
  have hs1 : Canonical s1 := .guarded (.overAll hm (fun _ _ hn => .laneAsk hn ..) ..) hm
  exact .guarded (.setLane hs1 ..) hs1

/-! ### APPLY (R553, R554, R575, R578, R579, R585) -/

theorem loadProfile (h : Canonical s) (d : Fin 4) (k : Nat) (x : LaneSet) : Canonical (loadProfile s d k x) := by
  unfold Machine.loadProfile
  extract_lets _ s1 s2 s3 s4 s5 s6
  have hs1 : Canonical s1 := .setFld (.setFld h ..) ..
  have hs2 : Canonical s2 := .setFld (.setFld hs1 ..) ..
  have hs3 : Canonical s3 := .setReg (.setFld hs2 ..) ..
  have hs4 : Canonical s4 := .setFld (.setFld hs3 ..) ..
  have hs5 : Canonical s5 := .setFld (.setFld hs4 ..) ..
  have hs6 : Canonical s6 := .setFld (.setFld hs5 ..) ..
  exact .guarded h (.guarded (.setFld (.setFld hs6 ..) ..) hs6)

theorem laneApply (h : Canonical s) (d : Fin 4) (k : Nat) : Canonical (laneApply s d k) := by
  unfold Machine.laneApply
  extract_lets _ s1 _ s2 _ s3
  have hs1 : Canonical s1 := .setFld h ..
  have hs2 : Canonical s2 := .loadProfile hs1 ..
  have hs3 : Canonical s3 := .setLane hs2 ..
  refine .guarded hs1 (.overAll hs3 (fun _ _ hm => ?_) ..)
  extract_lets _ s4 s5
  have hs4 : Canonical s4 := .setFld hm ..
  have hs5 : Canonical s5 := .setFld (.laneDark hs4 ..) ..
  exact .guarded hs4 (.setFld (.setLane hs5 ..) ..)

/-! ### Register writes (R551, R552, R555, R558, R559, R572, R573) -/

theorem laneWrite (h : Canonical s) {g : Chip → Chip} (hg : ∀ m, Canonical m → Canonical (g m)) (d : Fin 4)
    (t : Fin 256) (k : Nat) (f : Fld) : Canonical (laneWrite s d t k f g) := .guarded (.refusedWrite h ..) (hg s h)

theorem leadWrite (h : Canonical s) {g : Chip → Chip} (hg : ∀ m, Canonical m → Canonical (g m)) (d : Fin 4)
    (t : Fin 256) (k : Nat) (f : Fld) : Canonical (leadWrite s d t k f g) :=
  .laneWrite h (fun m hm => .guarded (hg m hm) hm) ..

theorem laneCtl (h : Canonical s) (d : Fin 4) (k : Nat) (v : Word) : Canonical (laneCtl s d k v) := by
  unfold Machine.laneCtl
  extract_lets s1 s2
  have hs1 : Canonical s1 := .setReg h ..
  have hs2 : Canonical s2 := .overAll hs1 (fun _ _ hm => .laneAsk hm ..) ..
  exact .guarded (.laneApply hs2 ..) hs2

theorem txfirWrite (h : Canonical s) (d : Fin 4) (k : Nat) (v : Word) : Canonical (txfirWrite s d k v) := by
  unfold Machine.txfirWrite
  extract_lets
  exact .guarded (.setFld h ..) (.setReg h ..)

theorem ctleWrite (h : Canonical s) (d : Fin 4) (k : Nat) (v : Word) : Canonical (ctleWrite s d k v) := .setFld h ..

theorem dfeCtl (h : Canonical s) (d : Fin 4) (k : Nat) (v : Word) : Canonical (dfeCtl s d k v) := by
  unfold Machine.dfeCtl
  extract_lets s1
  have hs1 : Canonical s1 := .setFld (.setFld h ..) ..
  exact .guarded (.clearTaps hs1 ..) hs1

theorem dfeTap (h : Canonical s) (d : Fin 4) (k t : Nat) (v : Word) : Canonical (dfeTap s d k t v) := .setFld h ..

theorem rateWrite (h : Canonical s) (d : Fin 4) (k : Nat) (v : Word) : Canonical (rateWrite s d k v) := .setReg h ..

theorem modeWrite (h : Canonical s) (d : Fin 4) (k : Nat) (v : Word) : Canonical (modeWrite s d k v) := .setReg h ..

theorem prbsWrite (h : Canonical s) (d : Fin 4) (k : Nat) (v : Word) : Canonical (prbsWrite s d k v) := by
  unfold Machine.prbsWrite
  extract_lets _ s1 s2 s3
  have hs1 : Canonical s1 := .setFld (.setFld h ..) ..
  have hs2 : Canonical s2 := .setFld hs1 ..
  have hs3 : Canonical s3 := .guarded (.setFld hs2 ..) hs2
  exact .guarded hs3 (.laneDemand hs3 ..)

theorem eyeWrite (h : Canonical s) (d : Fin 4) (k : Nat) (v : Word) : Canonical (eyeWrite s d k v) := by
  unfold Machine.eyeWrite
  extract_lets s1 s2
  have hs1 : Canonical s1 := .setFld (.setFld h ..) ..
  have hs2 : Canonical s2 := .setFld (.setFld hs1 ..) ..
  exact .guarded h (.guarded (.setFld hs2 ..) hs2)

/-! ### Events of the line (R563, R570, R572, R573, R586 to R589) -/

theorem laneLockLoss (h : Canonical s) (d : Fin 4) (k : Nat) (sdFell : Bool) :
    Canonical (laneLockLoss d k sdFell s) := by
  unfold Machine.laneLockLoss
  refine .whenUp h (fun _ hm => .guarded hm ?_) ..
  extract_lets s1 s2
  have hs1 : Canonical s1 := .laneDark hm ..
  have hs2 : Canonical s2 := .guarded (.setFld hs1 ..) hs1
  exact .raise hs2 ..

theorem laneCdrLock (h : Canonical s) (d : Fin 4) (k : Nat) : Canonical (laneCdrLock d k s) := by
  unfold Machine.laneCdrLock
  refine .whenUp h (fun _ hm => ?_) ..
  extract_lets
  exact .guarded (.sourcesBack (.setFld (.setFld hm ..) ..) ..) hm

theorem lanePllUnlock (h : Canonical s) (d : Fin 4) (k : Nat) : Canonical (lanePllUnlock d k s) :=
  .whenUp h (fun _ hm => .guarded (.raise (.setFld hm ..) ..) hm) ..

theorem lanePllRelock (h : Canonical s) (d : Fin 4) (k : Nat) : Canonical (lanePllRelock d k s) :=
  .whenUp h (fun _ hm => .guarded (.setFld hm ..) hm) ..

theorem prbsCount (h : Canonical s) (d : Fin 4) (k : Nat) (bits : BitVec 64) (errs : Nat) :
    Canonical (prbsCount s d k bits errs) := by
  unfold Machine.prbsCount
  extract_lets _ s1
  have hs1 : Canonical s1 := .setFld (.setFld h ..) ..
  exact .addFld hs1 ..

theorem prbsCheckerLock (h : Canonical s) (d : Fin 4) (k : Nat) (lock : Bool) (bits : BitVec 64) (errs : Nat) :
    Canonical (prbsCheckerLock d k lock bits errs s) := by
  unfold Machine.prbsCheckerLock
  refine .whenUp h (fun _ hm => .guarded hm ?_) ..
  extract_lets s1
  have hs1 : Canonical s1 := .guarded (.prbsCount hm ..) hm
  exact .setFld hs1 ..

theorem prbsBitsRead (h : Canonical s) (d : Fin 4) (k : Nat) (bits : BitVec 64) (errs : Nat) :
    Canonical (prbsBitsRead s d k bits errs) := by
  unfold Machine.prbsBitsRead
  extract_lets s1 _ _ s2 m
  have hs1 : Canonical s1 := .guarded (.prbsCount h ..) h
  have hs2 : Canonical s2 := .upd hs1 fun _ => by rfl
  have hm : Canonical m := .setFld (.setFld hs2 ..) ..
  exact .beside hm

theorem eyeScanDone (h : Canonical s) (d : Fin 4) (k errs : Nat) : Canonical (eyeScanDone d k errs s) :=
  .whenUp h (fun _ hm => .guarded (.setFld (.setFld hm ..) ..) hm) ..

theorem pcsHiber (h : Canonical s) (d : Fin 4) (k : Nat) : Canonical (pcsHiber d k s) := by
  unfold Machine.pcsHiber
  refine .whenUp h (fun _ hm => ?_) ..
  extract_lets
  exact .guarded hm (.raise (.setFld hm ..) ..)

theorem pcsBlockLock (h : Canonical s) (d : Fin 4) (k : Nat) (lock : Bool) :
    Canonical (pcsBlockLock d k lock s) := by
  unfold Machine.pcsBlockLock
  refine .whenUp h (fun _ hm => ?_) ..
  extract_lets
  exact .guarded hm (.setFld (.setFld hm ..) ..)

theorem fecCounts (h : Canonical s) (d : Fin 4) (fec : List Nat) : Canonical (fecCounts s d fec) := by
  unfold Machine.fecCounts
  refine .overAll h (fun _ _ hm => ?_) ..
  extract_lets _ _ _ s1
  have hs1 : Canonical s1 := .addFld (.addFld hm ..) ..
  exact .guarded hm (.guarded hs1 (.raise hs1 ..))

theorem lanesOff (h : Canonical s) (d : Fin 4) : Canonical (lanesOff s d) :=
  .overAll h (fun _ _ hm => .setLane (.setFld (.laneGo hm ..) ..) ..) ..

theorem lanesBack (h : Canonical s) (d : Fin 4) : Canonical (lanesBack s d) :=
  .overAll h (fun _ _ hm => .laneAsk hm ..) ..

/-! ## Flows and check-value units -/

/-! ### Flow state -/

theorem setFlow (h : Canonical s) (d : Fin 4) (f : Nat) (x : FlowSt) : Canonical (s.setFlow d f x) :=
    .upd h fun _ => by rfl

theorem endRv (h : Canonical s) (d : Fin 4) (f rv shown : Nat) : Canonical (endRv s d f rv shown) := by
  unfold Machine.endRv
  extract_lets
  exact .setFlow (.setFld h ..) ..

theorem rvWrite (h : Canonical s) (d : Fin 4) (f : Nat) (v : Word) : Canonical (rvWrite s d f v) := by
  unfold Machine.rvWrite
  extract_lets
  exact .setFlow (.setFld h ..) ..

/-! ### Transmit (R599 to R601, R605, R606, R620, R625, R626) -/

theorem readTemplate (h : Canonical s) (n : Nat) (d : Fin 4) (addr : Nat) (acc : List Byte) :
    Canonical (readTemplate n s d addr acc).1 := by
  induction n generalizing s d addr acc with
  | zero => exact h
  | succ n ih =>
    unfold Machine.readTemplate
    extract_lets r
    have hr : Canonical r.1 := .readMem h ..
    split
    · exact ih hr ..
    · exact hr
    · exact hr

theorem template (h : Canonical s) (d : Fin 4) (f : Nat) : Canonical (template s d f).1 := by
  unfold Machine.template
  extract_lets _ r
  have hr : Canonical r.1 := .readTemplate h ..
  split
  · exact hr
  · exact hr

theorem abortFrame (h : Canonical s) (d : Fin 4) (f word : Nat) : Canonical (abortFrame s d f word) := by
  unfold Machine.abortFrame
  extract_lets m
  have hm : Canonical m := .poisonFault h ..
  exact .beside hm

theorem sendFrame (h : Canonical s) (d : Fin 4) (f : Nat) (body : List Byte) :
    Canonical (sendFrame s d f body) := by
  unfold Machine.sendFrame
  extract_lets _ _ _ _ _ _ _ _ _ s1 s2 s3 _ s4
  have hs1 : Canonical s1 := .guarded h (.endRv h ..)
  have hs2 : Canonical s2 := .guarded (.setFld hs1 ..) hs1
  have hs3 : Canonical s3 := .setFld hs2 ..
  have hs4 : Canonical s4 := .setFlow (.addFld hs3 ..) ..
  exact .beside hs4

theorem passFlow (h : Canonical s) (d : Fin 4) (k f : Nat) : Canonical (passFlow s d k f) := .upd h fun _ => by rfl

theorem flowTxFrame (h : Canonical s) (d : Fin 4) (k : Nat) : Canonical (flowTxFrame d k s) := by
  unfold Machine.flowTxFrame
  refine .whenUp h (fun _ hm => .guarded hm ?_) ..
  split
  · exact hm
  · extract_lets s1 _ r
    have hs1 : Canonical s1 := .laneDemand hm ..
    have hr : Canonical r.1 := .template hs1 ..
    refine .guarded hs1 ?_
    split
    · exact .passFlow (.sendFrame hs1 ..) ..
    · refine .guarded (.passFlow (.setFlow hs1 ..) ..) ?_
      split
      · exact .passFlow (.sendFrame hr ..) ..
      · exact .passFlow (.abortFrame hr ..) ..
      · exact hr

theorem releaseFrames (h : Canonical s) (d : Fin 4) (t : Fin 256) : Canonical (releaseFrames s d t) := by
  unfold Machine.releaseFrames
  refine .overAll h (fun _ _ hm => ?_) ..
  extract_lets _ s1 r
  have hs1 : Canonical s1 := .setFlow hm ..
  have hr : Canonical r.1 := .template hs1 ..
  split
  · exact .setFlow hr ..
  · exact .abortFrame hr ..
  · exact hr

theorem discardFrames (h : Canonical s) (d : Fin 4) (t : Fin 256) : Canonical (discardFrames s d t) := by
  unfold Machine.discardFrames
  refine .overAll h (fun _ _ hm => ?_) ..
  extract_lets _ s1 s2
  have hs1 : Canonical s1 := .setFlow hm ..
  have hs2 : Canonical s2 := .setFld hs1 ..
  exact .raise (.addFld hs2 ..) ..

/-! ### Receive (R602 to R607, R615 to R619, R622 to R624) -/

theorem reachBank (h : Canonical s) (d : Fin 4) (i : Nat) : Canonical (reachBank s d i) :=
  .guarded (.touchBank h ..) (.wakeBank h ..)

theorem advanceProd (h : Canonical s) (d : Fin 4) (f : Nat) : Canonical (advanceProd s d f) := .setFld h ..

theorem writeCut (h : Canonical s) (d : Fin 4) (e : SfEnt) (t : Fin 256) : Canonical (writeCut s d e t) :=
  .advanceProd (.overAll h (fun _ _ hm => .ingestWord (.reachBank hm ..) ..) ..) ..

theorem writeStored (h : Canonical s) (d : Fin 4) (e : SfEnt) : Canonical (writeStored s d e) :=
  .advanceProd (.overAll h (fun _ _ hm => .writeWord (.reachBank hm ..) ..) ..) ..

theorem drainStored (h : Canonical s) (d : Fin 4) (busy : List Nat) (es : List SfEnt) :
    Canonical (drainStored s d busy es) := by
  induction es generalizing s d busy with
  | nil => exact h
  | cons a as ih =>
    unfold Machine.drainStored
    exact .guarded (ih h ..) (ih (.writeStored (.upd h fun _ => by rfl) ..) ..)

theorem flDrop (h : Canonical s) (d : Fin 4) (f : Nat) (t : Fin 256) (pay : Nat) :
    Canonical (flDrop s d f t pay) := by
  unfold Machine.flDrop
  extract_lets
  exact .guarded h (.raise (.guarded (.setFlow h ..) h) ..)

theorem flChk (h : Canonical s) (d : Fin 4) (f : Nat) : Canonical (flChk s d f) := by
  unfold Machine.flChk
  extract_lets s1
  have hs1 : Canonical s1 := .addFld h ..
  exact .guarded (.setFlow hs1 ..) (.raise hs1 ..)

theorem judgeAlive (h : Canonical s) (d : Fin 4) (f : Nat) (body : List Byte) :
    Canonical (judgeAlive s d f body).1 := by
  unfold Machine.judgeAlive
  refine .guardedFst h ?_
  split
  · exact h
  · extract_lets _ _ _ _ s1
    have hs1 : Canonical s1 := .setFld (.setFld h ..) ..
    exact .guardedFst hs1 (.guardedFst hs1 (.guardedFst (.pair (.addFld hs1 ..)) (.pair (.raise (.addFld hs1 ..) ..))))

theorem frameBasis (h : Canonical s) (d : Fin 4) (t : Fin 256) (bad late : Bool) :
    Canonical (frameBasis s d t bad late) :=
  .onBaste h ..

theorem receiveFrame (h : Canonical s) (d : Fin 4) (f : Nat) (start stop : Time) (data : List Byte) :
    Canonical (receiveFrame s d f start stop data) := by
  unfold Machine.receiveFrame
  extract_lets _ _ _ _ _ _ _ _ _ _ _ _ _ _ s1 s2 s3 r _ _ s4
  have hs1 : Canonical s1 := .guarded h (.endRv h ..)
  have hs2 : Canonical s2 := .addFld hs1 ..
  have hs3 : Canonical s3 := .guarded (.flChk hs2 ..) hs2
  have hr : Canonical r.1 := .guardedFst hs3 (.judgeAlive hs3 ..)
  have hs4 : Canonical s4 := .upd hr fun _ => by rfl
  exact .guarded (.flDrop (.addFld hr ..) ..) (.guarded (.writeCut (.frameBasis hr ..) ..) (.drainStored hs4 ..))

theorem flowRxFrame (h : Canonical s) (d : Fin 4) (k f : Nat) (start stop : Time) (data : List Byte) :
    Canonical (flowRxFrame d k f start stop data s) :=
  .whenUp h (fun _ hm => .guarded hm (.guarded (.receiveFrame hm ..) (.flDrop (.addFld hm ..) ..))) ..

theorem flowsTickEnd (h : Canonical s) (d : Fin 4) : Canonical (flowsTickEnd s d) := by
  unfold Machine.flowsTickEnd
  refine .overAll h (fun _ _ hm => ?_) ..
  extract_lets _ s1
  have hs1 : Canonical s1 := .guarded hm (.raise hm ..)
  exact .setFlow hs1 ..

theorem flowsTickStart (h : Canonical s) (d : Fin 4) : Canonical (flowsTickStart s d) :=
  .overAll h (fun _ _ hm => .setFld hm ..) ..

/-! ### Register writes (R600, R611 to R614) -/

theorem txreqWrite (h : Canonical s) (d : Fin 4) (f : Nat) (v : Word) : Canonical (txreqWrite s d f v) := .addFld h ..

theorem disableFlow (h : Canonical s) (d : Fin 4) (f : Nat) : Canonical (disableFlow s d f) := by
  unfold Machine.disableFlow
  extract_lets s1
  have hs1 : Canonical s1 := .setFld (.setFld h ..) ..
  exact .setFlow hs1 ..

theorem flowCtlWrite (h : Canonical s) (d : Fin 4) (t : Fin 256) (f : Nat) (v : Word) :
    Canonical (flowCtlWrite s d t f v) := by
  unfold Machine.flowCtlWrite
  extract_lets _ _ s1
  have hs1 : Canonical s1 := .setReg h ..
  refine .guarded (.guarded h (.disableFlow h ..)) (.guarded (.refusedWrite h ..) (.guarded ?_ (.disableFlow hs1 ..)))
  split
  · exact .setFld hs1 ..
  · exact hs1
  · exact .accFault hs1 ..

theorem aliveWrite (h : Canonical s) (d : Fin 4) (f : Nat) (v : Word) : Canonical (aliveWrite s d f v) := .setReg h ..

theorem chkCfgWrite (h : Canonical s) (d : Fin 4) (t : Fin 256) (c : Nat) (v : Word) :
    Canonical (chkCfgWrite s d t c v) := by
  unfold Machine.chkCfgWrite
  extract_lets s1
  have hs1 : Canonical s1 := .setFld (.setFld h ..) ..
  exact .guarded (.refusedWrite h ..) (.setFld hs1 ..)

theorem chkData (h : Canonical s) (d : Fin 4) (c : Nat) (v : Word) : Canonical (chkData s d c v) := by
  unfold Machine.chkData
  extract_lets
  exact .setFld h ..

/-! ## How a Rentik cluster issues a bundle -/

/-! ### Device addresses of sixteen lanes (R398, R417) -/

theorem readVec (h : Canonical s) (d : Fin 4) (m : Mem) (l : Nat) (r : Reader) (v : Vec) (b : Bool) (ws : List
    (Nat × Nat)) :
    Canonical (readVec s d m l r v b ws).1 := by
  induction ws generalizing s v b with
  | nil => exact h
  | cons a as ih =>
    unfold Machine.readVec
    extract_lets res
    have hres : Canonical res.1 := .guardedFst (.readLining h ..) (.readMem h ..)
    split
    · exact hres
    · exact hres
    · exact ih hres ..

theorem writeVec (h : Canonical s) (d : Fin 4) (m : Mem) (l : Nat) (who : Writer) (v : Vec) (ws : List (Nat × Nat)) :
    Canonical (writeVec s d m l who v ws).1 := by
  induction ws generalizing s with
  | nil => exact h
  | cons a as ih =>
    unfold Machine.writeVec
    extract_lets r
    have hr : Canonical r.1 := .writeMem h ..
    refine .guardedFst (ih (.writeLining h ..) ..) ?_
    split
    · exact ih hr ..
    · exact hr
    · exact hr

/-! ### Buffered writes (R257, R260) -/

theorem bufferWrites (h : Canonical s) (d : Fin 4) (t : Fin 256) (ws : List BufWrite) :
    Canonical (bufferWrites s d t ws).1 :=
  .guardedFst (.pair (.baseHwm (.onBaste h ..) ..)) (.pair (.bstall h ..))

/-! ### The M slot -/

theorem loadPoison (h : Canonical s) (d : Fin 4) (x : Cluster) (m : Mem) (w : Nat) :
    Canonical (loadPoison s d x m w) :=
  .poisonFault h ..

theorem mLoad (h : Canonical s) (d : Fin 4) (c : Nat) (x : Cluster) (w : Int) (words size mask : Nat) (f : Vec → Wrs)
    (more : Wrs) : Canonical (mLoad s d c x w words size mask f more).1 := by
  unfold Machine.mLoad
  extract_lets l r
  have hr : Canonical r.1 := .readVec h ..
  refine .guardedFst ?_ h
  split
  · exact hr
  · exact .pair (.loadPoison hr ..)
  · exact hr

theorem mStore (h : Canonical s) (d : Fin 4) (c : Nat) (x : Cluster) (w : Int) (words size mask : Nat) (v : Vec)
    (more : Wrs) :
    Canonical (mStore s d c x w words size mask v more).1 := by
  unfold Machine.mStore
  extract_lets _ _ r
  have hr : Canonical r.1 := .writeVec h ..
  refine .guardedFst ?_ h
  split
  · exact hr
  · exact .pair (.bstall h ..)
  · exact h

theorem mXld (h : Canonical s) (d : Fin 4) (c : Fin 192) (x : Cluster) (R A F mask : Nat) :
    Canonical (mXld s d c x R A F mask).1 := by
  suffices OfFst (Machine.mXld s d c x R A F mask) from this
  -- Unfolded before it meets its arguments: compared with its body applied, the kernel would evaluate `xCheck`.
  generalize hf : Machine.mXld = f
  delta Machine.mXld at hf
  subst hf
  beta_reduce
  extract_lets +onlyGivenNames addr
  split
  · exact h
  · exact h
  · refine .guardedFst ?_ (.pair (.beside h))
    split
    · extract_lets r
      have hr : Canonical r.1 := .readVec h ..
      split
      · exact .pair (.beside hr)
      · exact .pair (.loadPoison hr ..)
      · exact hr
    · extract_lets r
      have hr : Canonical r.1 := .dramFetch h ..
      split
      · exact .pair (.beside hr)
      · exact .pair (.dramPoisonFault hr ..)

theorem mXst (h : Canonical s) (d : Fin 4) (c : Fin 192) (x : Cluster) (R A F mask : Nat) :
    Canonical (mXst s d c x R A F mask).1 := by
  suffices OfFst (Machine.mXst s d c x R A F mask) from this
  -- Unfolded before it meets its arguments: compared with its body applied, the kernel would evaluate `xCheck`.
  generalize hf : Machine.mXst = f
  delta Machine.mXst at hf
  subst hf
  beta_reduce
  extract_lets +onlyGivenNames addr b
  split
  · exact h
  · exact h
  · refine .guarded ?_ (.guarded ?_ (.beside h))
    · extract_lets r
      have hr : Canonical r.1 := .bufferWrites h ..
      split
      · exact .beside hr
      · exact hr
    · split
      · extract_lets r
        have hr : Canonical r.1 := .writeVec h ..
        split
        · exact .beside hr
        · exact .bstall h ..
        · exact h
      · exact .beside (.dramStore h ..)

theorem runM (h : Canonical s) (d : Fin 4) (c : Fin 192) (x : Cluster) (mask : Nat) (op : MOp) :
    Canonical (runM s d c x mask op).1 := by
  unfold Machine.runM
  split
  · exact h
  · exact .guardedFst h (.mLoad h ..)
  · exact .guardedFst h (.mStore h ..)
  · exact .guardedFst (.mLoad h ..) h
  · exact .guardedFst (.mStore h ..) h
  · exact h
  · exact h
  · exact .guardedFst h (.guardedFst h (.mXld h ..))
  · exact .guardedFst h (.guardedFst h (.mXst h ..))
  · exact .guardedFst h (.guardedFst h h)

/-! ### Halts (R861, R863, R882) -/

theorem haltCluster (h : Canonical s) (d : Fin 4) (c cause bp : Nat) : Canonical (haltCluster s d c cause bp) := by
  unfold Machine.haltCluster
  extract_lets _ s1
  have hs1 : Canonical s1 := .setCluster h ..
  exact .raise hs1 ..

theorem crossTrigger (h : Canonical s) : Canonical (crossTrigger s) := .overAll h (fun _ _ hm =>
    .upd hm fun _ => by rfl) ..

/-! ### Stimulus records (R865, R866) -/

theorem traceLost (h : Canonical s) (port : Bool) : Canonical (traceLost s port) := by
  unfold Machine.traceLost
  extract_lets _ m
  have hm : Canonical m := .addFld h ..
  exact .beside hm

theorem stim (h : Canonical s) (d : Fin 4) (x : Cluster) (n : Nat) (v : BitVec 28) :
    Canonical (stim s d x n v) := by
  unfold Machine.stim
  extract_lets _ s1
  have hs1 : Canonical s1 := .countKind h ..
  exact .guarded (.guarded (.guarded (.upd hs1 fun _ => by rfl) (.traceLost hs1 ..)) (.sendRec h ..)) h

/-! ### Issue -/

theorem rFault (h : Canonical s) (d : Fin 4) (c kind pay st det : Nat) (x : Cluster) :
    Canonical (rFault s d c kind pay st det x) :=
  .raiseT (.endProgram h ..) ..

theorem issueBundle (h : Canonical s) (d : Fin 4) (c : Fin 192) (b : Bundle) : Canonical (issueBundle s d c b) := by
  unfold Machine.issueBundle
  extract_lets _ _ r
  have hr : Canonical r.1 := .runM h ..
  refine .guarded h ?_
  split
  · exact hr
  · exact .rFault hr ..
  · exact .rFault hr ..
  · extract_lets _ _ _ m s1 s2
    have hm : Canonical m := .setCluster hr ..
    have hs1 : Canonical s1 := .beside hm
    have hs2 : Canonical s2 := by
      unfold s2
      split
      · exact .guarded (.stim hs1 ..) hs1
      · exact hs1
    refine .guarded (.endProgram hs2 ..) ?_
    split
    · exact .guarded (.endProgram hs2 ..) hs2
    · exact hs2

theorem issueAny (h : Canonical s) (d : Fin 4) (c : Fin 192) (b : Bundle ⊕ Nat) : Canonical (issueAny s d c b) := by
  unfold Machine.issueAny
  extract_lets
  split
  · split
    · exact .issueBundle h ..
    · exact .rFault h ..
  · exact .rFault h ..

theorem issue (h : Canonical s) (d : Fin 4) (c : Fin 192) (b : Bundle) : Canonical (issue d c b s) := by
  unfold Machine.issue
  extract_lets
  refine .guarded h ?_
  split
  · exact .haltCluster h ..
  · split
    · extract_lets s1
      have hs1 : Canonical s1 := .haltCluster h ..
      exact .guarded (.crossTrigger hs1) hs1
    · exact .issueAny h ..

theorem putBundle (h : Canonical s) (d : Fin 4) (c a : Nat) (w : BitVec 128) : Canonical (putBundle s d c a w) :=
  .upd h fun _ => by rfl

theorem stepCluster (h : Canonical s) (d : Fin 4) (c : Fin 192) : Canonical (stepCluster s d c) := by
  unfold Machine.stepCluster
  extract_lets _ s1
  have hs1 : Canonical s1 := .issueAny (.setCluster h ..) ..
  exact .guarded h (.guarded (.haltCluster hs1 ..) hs1)

/-! ### Start and end of programs (R133, R273, R409 to R411) -/

theorem startCluster (h : Canonical s) (d : Fin 4) (it : WorkItem) (id : Nat) (handler : Option Nat) (pre : Bool)
    (c : Nat) :
    Canonical (startCluster s d it id handler pre c) := by
  unfold Machine.startCluster
  extract_lets
  exact .setCluster h ..

theorem quietCluster (h : Canonical s) (d : Fin 4) (c : Nat) : Canonical (quietCluster s d c) := by
  unfold Machine.quietCluster
  extract_lets
  exact .guarded (.setCluster h ..) h

theorem xAccessComplete (h : Canonical s) (d : Fin 4) (c : Fin 192) (i : Nat) :
    Canonical (xAccessComplete d c i s) := by
  unfold Machine.xAccessComplete
  refine .whenUp h (fun _ hm => ?_) ..
  extract_lets
  split
  · exact .guarded hm (.setCluster hm ..)
  · exact hm

/-! ### Code loads (R429) -/

theorem iloadCtl (h : Canonical s) (d : Fin 4) (v : Word) : Canonical (iloadCtl s d v) := by
  unfold Machine.iloadCtl
  extract_lets s1
  have hs1 : Canonical s1 := .setFld (.setFld (.setFld h ..) ..) ..
  exact .upd (.setFld hs1 ..) fun _ => by rfl

theorem iloadBundle (h : Canonical s) (d : Fin 4) (w : BitVec 128) : Canonical (iloadBundle s d w) := by
  unfold Machine.iloadBundle
  extract_lets _ s1
  have hs1 : Canonical s1 := .overAll h (fun _ _ hm => .guarded (.putBundle hm ..) (.setFld hm ..)) ..
  exact .guarded (.upd (.setFld hs1 ..) fun _ => by rfl) (.setFld h ..)

theorem iloadData (h : Canonical s) (d : Fin 4) (v : Word) : Canonical (iloadData s d v) := by
  unfold Machine.iloadData
  split
  · exact .iloadBundle (.upd h fun _ => by rfl) ..
  · exact .upd h fun _ => by rfl

/-! ## Resolution of basted work -/

/-! ### Reports (R268) -/

theorem basteReport (h : Canonical s) (d : Fin 4) : Canonical (basteReport d s) := by
  unfold Machine.basteReport
  refine .whenUp h (fun _ hm => .guarded hm ?_) ..
  extract_lets _ s1
  have hs1 : Canonical s1 := .onBaste hm ..
  exact .guarded (.beside hs1) hs1

theorem basteReportMsg (h : Canonical s) (d : Fin 4) : Canonical (basteReportMsg d s) := by
  unfold Machine.basteReportMsg
  refine .whenUp h (fun _ hm => ?_) ..
  split
  · exact hm
  · extract_lets s1
    have hs1 : Canonical s1 := .onBaste hm ..
    exact .guarded hs1 (.beside hs1)

/-! ### The combined outcome (R267, R269) -/

theorem basteOutcomeSend (h : Canonical s) : Canonical (basteOutcomeSend s) := by
  unfold Machine.basteOutcomeSend
  refine .whenUp h (fun _ hm => .guarded hm ?_) ..
  extract_lets _ _ s1
  have hs1 : Canonical s1 := .beside hm
  exact .overAll hs1 (fun _ _ hn => .onBaste hn ..) ..

theorem basteReportTimeout (h : Canonical s) : Canonical (basteReportTimeout s) :=
  .whenUp h (fun _ hm => .guarded hm (.overAll hm (fun _ _ hn => .guarded hn (.raise (.beside hn) ..)) ..)) ..

theorem basteOutcome (h : Canonical s) (d : Fin 4) : Canonical (basteOutcome d s) :=
  .whenUp h (fun _ hm => .onBaste hm ..) ..

/-! ### Stitch and unpick (R271, R272) -/

theorem eachWord (h : Canonical s) (d : Fin 4) (f : MWord → MWord) : Canonical (eachWord s d f) :=
  .overAll h (fun _ m hm => hm.updWf fun _ hx => hx.setMem (mapWf_mapEach _ _ _ (hx.mem m))) ..

theorem stitchMem (h : Canonical s) (d : Fin 4) (t : Fin 256) : Canonical (stitchMem s d t) := by
  unfold Machine.stitchMem
  extract_lets _ s1 s2
  have hs1 : Canonical s1 := .eachWord h ..
  have hs2 : Canonical s2 := .upd hs1 fun _ => by rfl
  exact .overAll hs2 (fun _ _ hm => .raise (.addFld hm ..) ..) ..

theorem unpickMem (h : Canonical s) (d : Fin 4) (t : Fin 256) : Canonical (unpickMem s d t) := by
  unfold Machine.unpickMem
  extract_lets _ s1 _ s2
  have hs1 : Canonical s1 := .eachWord h ..
  have hs2 : Canonical s2 := .overAll hs1 (fun _ _ hm => .setWord hm ..) ..
  exact .onBaste (.upd hs2 fun _ => by rfl) ..

theorem settleBuf (h : Canonical s) (d : Fin 4) (t : Fin 256) (stitch : Bool) :
    Canonical (settleBuf s d t stitch) :=
  .onBaste h ..

theorem settleSets (h : Canonical s) (d : Fin 4) (t : Fin 256) (stitch : Bool) :
    Canonical (settleSets s d t stitch) :=
  .guarded (.overAll h (fun _ _ hm => .guarded (.commitSet hm ..) (.discardSet hm ..)) ..) h

theorem tellBasted (h : Canonical s) (d : Fin 4) (p : Fin 256 → Bool) (stitch : Bool) :
    Canonical (tellBasted s d p stitch) :=
  .overAll h (fun _ _ hm => .tellItem hm ..) ..

theorem noteVerdict (h : Canonical s) (d : Fin 4) (v : Verdict) : Canonical (noteVerdict s d v) := by
  unfold Machine.noteVerdict
  extract_lets s1
  have hs1 : Canonical s1 := .upd h fun _ => by rfl
  exact .setFld (.setFld hs1 ..) ..

theorem markHandlers (h : Canonical s) (d : Fin 4) (t : Fin 256) : Canonical (markHandlers s d t) :=
    .upd h fun _ => by rfl

theorem applyVerdict (h : Canonical s) (d : Fin 4) (v : Verdict) : Canonical (applyVerdict s d v) := by
  unfold Machine.applyVerdict
  extract_lets s1 s2 s3
  have hs1 : Canonical s1 := .guarded (.releaseFrames (.settleBuf (.stitchMem h ..) ..) ..) (.discardFrames
      (.settleBuf (.unpickMem h ..) ..) ..)
  have hs2 : Canonical s2 := .tellBasted (.settleSets hs1 ..) ..
  have hs3 : Canonical s3 := .noteVerdict hs2 ..
  exact .guarded hs3 (.markHandlers hs3 ..)

theorem applyRest (h : Canonical s) (d : Fin 4) (vs : List Verdict) : Canonical (applyRest s d vs) := by
  unfold Machine.applyRest
  extract_lets _ s1
  have hs1 : Canonical s1 := by
    unfold s1
    refine .guarded (.overAll h (fun _ _ hm => ?_) ..) h
    extract_lets
    exact .guarded (.commitSet hm ..) (.discardSet hm ..)
  exact .tellBasted hs1 ..

/-! ### The end of a resolution (R82, R276) -/

theorem releaseRecs (h : Canonical s) (d : Fin 4) (unpicked : Fin 256 → Bool) :
    Canonical (releaseRecs s d unpicked) :=
  .upd h fun _ => by rfl

theorem resolveRec (h : Canonical s) (v : Verdict) : Canonical (resolveRec s v) := by
  unfold Machine.resolveRec
  extract_lets
  exact .sendRec h ..

theorem finishResolve (h : Canonical s) : Canonical (finishResolve s) := by
  unfold Machine.finishResolve
  split
  · extract_lets s1 s2
    have hs1 : Canonical s1 := .overAll h (fun _ _ hm => .resolveRec hm ..) ..
    have hs2 : Canonical s2 := .overAll hs1 (fun _ _ hm => .releaseRecs hm ..) ..
    exact .guarded (.beside hs2) h
  · exact h

theorem applyAll (h : Canonical s) (d : Fin 4) (vs : List Verdict) : Canonical (applyAll s d vs) := by
  unfold Machine.applyAll
  extract_lets _ s1 s2
  have hs1 : Canonical s1 := .applyRest (.overAll h (fun _ _ hm => .applyVerdict hm ..) ..) ..
  have hs2 : Canonical s2 := .drainStored hs1 ..
  exact .finishResolve (.onBaste hs2 ..)

theorem basteApply (h : Canonical s) (d : Fin 4) : Canonical (basteApply d s) := by
  unfold Machine.basteApply
  refine .whenUp h (fun _ hm => ?_) ..
  split
  · exact .guarded hm (.applyAll hm ..)
  · exact hm

/-! ### Write-back (R272, R292, R777) -/

theorem shadowWriteback (h : Canonical s) (d : Fin 4) (bad : Bool) : Canonical (shadowWriteback d bad s) := by
  unfold Machine.shadowWriteback
  refine .whenUp h (fun _ hm => ?_) ..
  split
  · exact hm
  · extract_lets s1
    have hs1 : Canonical s1 := .onBaste hm ..
    exact .guarded (.foundBad hs1 ..) hs1

/-! ### Handlers (R273, R274, R293) -/

theorem startHandlers (h : Canonical s) (d : Fin 4) (ten : List Nat) (es : List RanItem) :
    Canonical (startHandlers s d ten es) := by
  induction es generalizing s d ten with
  | nil => exact h
  | cons a as ih =>
    unfold Machine.startHandlers
    extract_lets _ s1 s2
    have hs1 : Canonical s1 := .upd h fun _ => by rfl
    have hs2 : Canonical s2 := .overAll hs1 (fun _ _ hm => .startCluster hm ..) ..
    exact .guarded (ih h ..) (.guarded (ih h ..) (ih hs2 ..))

theorem handlersGo (h : Canonical s) (d : Fin 4) : Canonical (handlersGo s d) := .guarded (.startHandlers h ..) h

theorem clusterQuiet (h : Canonical s) (d : Fin 4) (c : Fin 192) : Canonical (clusterQuiet d c s) :=
  .whenUp h (fun _ hm => .handlersGo (.quietCluster hm ..) ..) ..

theorem stopHandlers (h : Canonical s) (d : Fin 4) : Canonical (stopHandlers s d) := by
  unfold Machine.stopHandlers
  refine .overAll h (fun _ _ hm => ?_) ..
  extract_lets
  exact .raise (.endProgram hm ..) ..

/-! ### The edges of a tick (R270, R277, R279) -/

theorem basteStitchStart (h : Canonical s) (d : Fin 4) : Canonical (basteStitchStart s d) := by
  unfold Machine.basteStitchStart
  extract_lets s1
  have hs1 : Canonical s1 := .onBaste h ..
  exact .guarded (.beside hs1) hs1

theorem basteSplit (h : Canonical s) (d : Fin 4) : Canonical (basteSplit s d) := by
  unfold Machine.basteSplit
  extract_lets _ _ s1 s2
  have hs1 : Canonical s1 := .raise h ..
  have hs2 : Canonical s2 := .applyAll hs1 ..
  refine .guarded h ?_
  split
  · exact .applyAll h ..
  · exact .releaseRecs hs2 ..

theorem basteTickStart (h : Canonical s) (d : Fin 4) : Canonical (basteTickStart s d) := by
  unfold Machine.basteTickStart
  extract_lets _ s1
  have hs1 : Canonical s1 := .onBaste h ..
  exact .guarded (.beside hs1) hs1

theorem verdict (h : Canonical s) (d : Fin 4) (t : Fin 256) (stitch : Bool) : Canonical (verdict s d t stitch).1 := by
  unfold Machine.verdict
  exact .guardedFst h (.pair (.onBaste h ..))

/-! ## The energy ledger -/

theorem onLedger (h : Canonical s) (d : Fin 4) (f : LedgerSt → LedgerSt) : Canonical (s.onLedger d f) :=
    .upd h fun _ => by rfl

/-! ### Measurement (R192 to R195, R211) -/

theorem setPowers (h : Canonical s) (d : Fin 4) (i : Nat) (ps : List Nat) : Canonical (setPowers s d i ps) := by
  induction ps generalizing s i with
  | nil => exact h
  | cons a as ih =>
    unfold Machine.setPowers
    exact ih (.guarded (.setFld h ..) h) ..

theorem energySample (h : Canonical s) (d : Fin 4) (ch : List Nat) : Canonical (energySample d ch s) := by
  unfold Machine.energySample
  refine .whenUp h (fun _ hm => .guarded ?_ hm) ..
  extract_lets _ s1 _ s2
  have hs1 : Canonical s1 := .setPowers hm ..
  have hs2 : Canonical s2 := .onLedger hs1 ..
  exact .guarded (.addFld hs2 ..) hs2

/-! ### The reservoir and RESERVE (R196 to R199, R217 to R219) -/

theorem sendTotal (h : Canonical s) (d : Fin 4) : Canonical (sendTotal s d) := .onLedger h ..

theorem checkLow (h : Canonical s) (old : Nat) : Canonical (checkLow s old) := by
  unfold Machine.checkLow
  extract_lets
  exact .guarded (.raise h ..) h

theorem setReserve (h : Canonical s) (on : Bool) : Canonical (setReserve s on) := by
  unfold Machine.setReserve
  extract_lets _ s1
  have hs1 : Canonical s1 := .overAll h (fun _ _ hm => .setFld hm ..) ..
  exact .guarded (.raise hs1 ..) (.guarded (.raise hs1 ..) hs1)

theorem reserveNow (h : Canonical s) : Canonical (reserveNow s) := .guarded (.setReserve h ..) h

theorem reserveAtTick (h : Canonical s) : Canonical (reserveAtTick s) := .setReserve h ..

theorem subtract (h : Canonical s) (e : Nat) : Canonical (subtract s e) := by
  unfold Machine.subtract
  extract_lets
  exact .guarded h (.guarded (.beside h) (.reserveNow (.checkLow (.beside h) ..)))

theorem energyTotal (h : Canonical s) (d : Fin 4) : Canonical (energyTotal d s) := by
  unfold Machine.energyTotal
  refine .whenUp h (fun _ hm => ?_) ..
  split
  · exact .subtract (.onLedger hm ..) ..
  · exact hm

theorem energyReportTimer (h : Canonical s) (d : Fin 4) : Canonical (energyReportTimer d s) :=
  .whenUp h (fun _ hm => .guarded (.sendTotal hm ..) hm) ..

theorem resvHi (h : Canonical s) (v : Word) : Canonical (resvHi s v) := by
  unfold Machine.resvHi
  extract_lets _ s1 s2
  have hs1 : Canonical s1 := .setFld h ..
  have hs2 : Canonical s2 := .overAll hs1 (fun _ _ hm => .onLedger hm ..) ..
  exact .reserveNow (.checkLow (.beside hs2) ..)

theorem resvAdj (h : Canonical s) (v : Word) : Canonical (resvAdj s v) := by
  unfold Machine.resvAdj
  extract_lets
  exact .reserveNow (.checkLow (.beside h) ..)

/-! ### Costs and reservations (R200, R201, R206 to R210, R135) -/

theorem setBal (h : Canonical s) (d : Fin 4) (t : Fin 256) (v : Int) : Canonical (setBal s d t v) := .onLedger h ..

theorem exhaust (h : Canonical s) (d : Fin 4) (t : Fin 256) : Canonical (exhaust s d t) := by
  unfold Machine.exhaust
  extract_lets s1
  have hs1 : Canonical s1 := .setFld h ..
  exact .guarded hs1 (.raise (.onLedger hs1 ..) ..)

theorem reserve (h : Canonical s) (d : Fin 4) (t : Fin 256) (x : Nat) : Canonical (reserve s d t x).1 := by
  unfold Machine.reserve
  split
  · exact .pair (.exhaust h ..)
  · exact h
  · exact .pair (.onLedger (.setBal h ..) ..)

theorem drawReserve (h : Canonical s) (d : Fin 4) (t : Fin 256) (x : Nat) : Canonical (drawReserve s d t x).1 := by
  unfold Machine.drawReserve
  extract_lets r
  have hr : Canonical r.1 := .reserve h ..
  split
  · exact hr
  · exact .pair (.onLedger hr ..)

theorem dispReserve (h : Canonical s) (d : Fin 4) (t : Fin 256) (x : Nat) : Canonical (dispReserve s d t x).1 := by
  unfold Machine.dispReserve
  extract_lets u r
  have hr : Canonical r.1 := .reserve h ..
  split
  · exact hr
  · exact .pair (.onLedger hr ..)

/-! ### Tick starts, epochs and reconciliation (R204, R205, R211 to R216, R229) -/

theorem epochTenant (h : Canonical s) (d : Fin 4) (t : Fin 256) : Canonical (epochTenant s d t) := by
  unfold Machine.epochTenant
  extract_lets _ s1
  have hs1 : Canonical s1 := .setBal h ..
  exact .guarded (.exhaust hs1 ..) (.setFld hs1 ..)

theorem epochDie (h : Canonical s) (d : Fin 4) (first : Bool) : Canonical (epochDie s d first) := by
  unfold Machine.epochDie
  extract_lets s1 s2
  have hs1 : Canonical s1 := .onLedger h ..
  have hs2 : Canonical s2 := .overAll hs1 (fun _ _ hm => .epochTenant hm ..) ..
  split
  · exact .setFld (.onLedger hs2 ..) ..
  · exact .guarded hs2 (.raise hs2 ..)

theorem ledgerTickStart (h : Canonical s) (d : Fin 4) : Canonical (ledgerTickStart s d) := by
  unfold Machine.ledgerTickStart
  extract_lets s1 s2
  have hs1 : Canonical s1 := .overAll h (fun _ _ hm => .guarded (.setBal hm ..) hm) ..
  have hs2 : Canonical s2 := .sendTotal hs1 ..
  exact .upd (.onLedger hs2 ..) fun _ => by rfl

theorem epochAdvance (h : Canonical s) (n : Nat) : Canonical (epochAdvance s n) := by
  unfold Machine.epochAdvance
  extract_lets _ s1
  have hs1 : Canonical s1 := .beside h
  exact .guarded hs1 (.setFld hs1 ..)

theorem chargeTenant (h : Canonical s) (d : Fin 4) (dyn cycles : Nat) (t : Fin 256) :
    Canonical (chargeTenant s d dyn cycles t).1 := by
  unfold Machine.chargeTenant
  extract_lets _ _ _ s1 s2 s3
  have hs1 : Canonical s1 := .setBal h ..
  have hs2 : Canonical s2 := .setFld hs1 ..
  have hs3 : Canonical s3 := .guarded (.exhaust hs2 ..) hs2
  exact .pair (.guarded (.raise hs3 ..) hs3)

theorem chargeAll (h : Canonical s) (d : Fin 4) (dyn cycles : Nat) (ts : List (Fin 256)) :
    Canonical (chargeAll s d dyn cycles ts).1 := by
  induction ts generalizing s with
  | nil => exact h
  | cons a as ih =>
    unfold Machine.chargeAll
    extract_lets r q
    have hr : Canonical r.1 := .chargeTenant h ..
    have hq : Canonical q.1 := ih hr ..
    exact hq

theorem reconcile (h : Canonical s) (d : Fin 4) : Canonical (reconcile s d) := by
  unfold Machine.reconcile
  extract_lets s1 _ _ _ r s2
  have hs1 : Canonical s1 := .countCycles h ..
  have hr : Canonical r.1 := .chargeAll hs1 ..
  have hs2 : Canonical s2 := .addFld hr ..
  exact .onLedger hs2 ..

/-! ### Die caps (R220, R221) -/

theorem sendCaps (h : Canonical s) : Canonical (sendCaps s) := by
  unfold Machine.sendCaps
  extract_lets
  exact .overAll h (fun _ _ hm => .onLedger hm ..) ..

theorem dieCap (h : Canonical s) (d : Fin 4) : Canonical (dieCap d s) := .whenUp h (fun _ hm => .onLedger hm ..) ..

/-! ### Thermal control (R224 to R226, R247, R248) -/

theorem setThermDiv (h : Canonical s) (d : Fin 4) (v : Nat) : Canonical (setThermDiv s d v) :=
  .setFld (.countCycles h ..) ..

theorem setTemps (h : Canonical s) (d : Fin 4) (i : Nat) (ts : List (BitVec 12)) :
    Canonical (setTemps s d i ts) := by
  induction ts generalizing s i with
  | nil => exact h
  | cons a as ih =>
    unfold Machine.setTemps
    exact ih (.setFld h ..) ..

theorem vreqFollow (h : Canonical s) (d : Fin 4) (top : Int) : Canonical (vreqFollow s d top) := by
  unfold Machine.vreqFollow
  extract_lets _ _ s1
  have hs1 : Canonical s1 := .setFld h ..
  exact .guarded h (.raise hs1 ..)

theorem sensorUpdate (h : Canonical s) (d : Fin 4) (temps : List (BitVec 12)) :
    Canonical (sensorUpdate d temps s) := by
  unfold Machine.sensorUpdate
  refine .whenUp h (fun _ hm => ?_) ..
  extract_lets s1 _ s2 _ _ s3
  have hs1 : Canonical s1 := .setTemps hm ..
  have hs2 : Canonical s2 := .vreqFollow hs1 ..
  have hs3 : Canonical s3 := .onLedger hs2 ..
  exact .guarded (.raise (.setThermDiv hs3 ..) ..) hs3

theorem thermalStep (h : Canonical s) (d : Fin 4) : Canonical (thermalStep d s) := by
  unfold Machine.thermalStep
  refine .whenUp h (fun _ hm => ?_) ..
  extract_lets
  exact .guarded (.setThermDiv hm ..) (.guarded (.onLedger (.setThermDiv hm ..) ..) hm)

theorem thermalTrip (h : Canonical s) (d : Fin 4) (junction : Int) : Canonical (thermalTrip d junction s) := by
  unfold Machine.thermalTrip
  extract_lets _ s1
  have hs1 : Canonical s1 := .guarded (.took h) h
  exact .guarded h (.guarded (.fatalStop hs1 ..) hs1)

/-! ## The cap window of a die and the cap levels -/

theorem setLevel (h : Canonical s) (d : Fin 4) (l : Nat) : Canonical (setLevel s d l) := by
  unfold Machine.setLevel
  extract_lets _ s1 s2
  have hs1 : Canonical s1 := .setFld (.countCycles h ..) ..
  have hs2 : Canonical s2 := .raise hs1 ..
  exact .guarded h (.capLanes (.capBanks hs2 ..) ..)

theorem capWindowEnd (h : Canonical s) (d : Fin 4) : Canonical (capWindowEnd d s) := by
  unfold Machine.capWindowEnd
  refine .whenUp h (fun _ hm => .guarded ?_ hm) ..
  extract_lets s'
  have hs' : Canonical s' := .setLevel hm ..
  exact .capLanesWindow (.capBanksWindow (.onLedger hs' ..) ..) ..

/-! ## The laser interlock -/

theorem laserOff (h : Canonical s) : Canonical (laserOff s) := by
  unfold Machine.laserOff
  extract_lets s1
  have hs1 : Canonical s1 := .setFld h ..
  refine .guarded (.overAll hs1 (fun _ _ hm => ?_) ..) h
  split
  · exact .guarded (.setCap hm ..) hm
  · exact hm

theorem ilkRaise (h : Canonical s) (kind pay : Nat) : Canonical (ilkRaise s kind pay) := .guarded (.raise h ..) h

theorem ilkFault (h : Canonical s) : Canonical (ilkFault s) := by
  unfold Machine.ilkFault
  extract_lets _ s1
  have hs1 : Canonical s1 := .laserOff (.setFld h ..)
  exact .ilkRaise (.addFld hs1 ..) ..

theorem setSafe (h : Canonical s) (a b : Bool) : Canonical (setSafe s a b) := by
  unfold Machine.setSafe
  extract_lets s1
  have hs1 : Canonical s1 := .setFld (.setFld h ..) ..
  exact .guarded hs1 (.beside hs1)

theorem ilkMove (h : Canonical s) (a b : Bool) : Canonical (ilkMove s a b) := by
  unfold Machine.ilkMove
  extract_lets m _ m2
  have hm : Canonical m := .setFld h ..
  have hm2 : Canonical m2 := .setFld h ..
  exact .guarded (.beside hm) (.guarded h (.beside hm2))

theorem ilkDrop (h : Canonical s) (a b : Bool) : Canonical (ilkDrop s a b) := .guarded (.ilkRaise (.laserOff h) ..) h

theorem ilkSample (h : Canonical s) (a b : Bool) : Canonical (ilkSample a b s) := by
  unfold Machine.ilkSample
  extract_lets s1 _ _ _ _ s2 s3 s4 s5
  have hs1 : Canonical s1 := .ilkDrop h ..
  have hs2 : Canonical s2 := .guarded (.took hs1) hs1
  have hs3 : Canonical s3 := .guarded (.ilkFault hs2) hs2
  have hs4 : Canonical s4 := .setSafe hs3 ..
  have hs5 : Canonical s5 := .guarded hs4 (.ilkMove hs4 ..)
  exact .guarded h (.guarded (.setFld hs5 ..) (.laserOff hs5))

theorem ilkUnsafe (h : Canonical s) (chB : Bool) (ns : Nat) : Canonical (ilkUnsafe chB ns s) := by
  unfold Machine.ilkUnsafe
  extract_lets _ s1 s2
  have hs1 : Canonical s1 := .guarded (.took h) h
  have hs2 : Canonical s2 := .ilkDrop hs1 ..
  exact .guarded h (.guarded (.beside hs2) hs1)

theorem ilkTimeout (h : Canonical s) : Canonical (ilkTimeout s) :=
  .guarded h (.guarded (.ilkFault h) (.guarded (.ilkFault (.took h)) (.took h)))

theorem ilkClear (h : Canonical s) : Canonical (ilkClear s) := by
  unfold Machine.ilkClear
  extract_lets refuse accept
  have hrefuse : ∀ m, Canonical m → Canonical (refuse m) := by
    intro m hm
    unfold refuse
    extract_lets s1
    have hs1 : Canonical s1 := .setFld (.setFld hm ..) ..
    exact .ilkRaise hs1 ..
  have haccept : ∀ m, Canonical m → Canonical (accept m) := by
    intro m hm
    unfold accept
    extract_lets s1
    have hs1 : Canonical s1 := .setFld (.setFld (.setFld hm ..) ..) ..
    exact .ilkRaise (.beside hs1) ..
  exact .guarded (hrefuse _ h) (.guarded (haccept _ h) (.guarded (haccept _ (.took h)) (hrefuse _ (.took h))))

theorem ilkTd (h : Canonical s) (v : Word) : Canonical (ilkTd s v) := .setFld h ..

theorem disarmLaser (h : Canonical s) : Canonical (disarmLaser s) := .laserOff (.setFld h ..)

theorem ilkTq (h : Canonical s) : Canonical (ilkTq s) := by
  unfold Machine.ilkTq
  extract_lets
  exact .guarded (.beside h) h

/-! ## Fuses and lifecycle -/

theorem onHem (h : Canonical s) (d : Fin 4) (f : HemSt → HemSt) : Canonical (s.onHem d f) := .upd h fun _ => by rfl

/-! ### Sensing (R809 to R815) -/

theorem loadTrims (h : Canonical s) (d : Fin 4) : Canonical (loadTrims s d) := by
  unfold Machine.loadTrims
  extract_lets _ s1
  have hs1 : Canonical s1 := by
    unfold s1
    refine .overAll h (fun _ _ hm => ?_) ..
    extract_lets
    exact .setFld hm ..
  exact .setFld hs1 ..

theorem senseDie (h : Canonical s) (found : List HemFinding) (d : Fin 4) : Canonical (senseDie s found d) := by
  have hraise (m : Chip) (failed : List Nat) (hm : Canonical m) : Canonical (match failed with
      | [] => m
      | r :: _ => Machine.raise m d 0x240 K.HEMALARM 0 (r + failKinds failed * 2 ^ 9 + min failed.length 255 * 2 ^
          16)) := by
    split
    · exact hm
    · exact .raise hm ..
  unfold Machine.senseDie
  extract_lets hem cut broken mine failed fixed s1 hem' s2 s3 s4 s5 s6 s7 s8 s9 s10 s11
  have h6 : Canonical s6 := .setFld (.setFld (.setFld (.setFld (.setFld (.onHem h ..) ..) ..) ..) ..) ..
  have h11 : Canonical s11 := .setFld (.setFld (.setFld (.setFld (.setFld h6 ..) ..) ..) ..) ..
  refine .overAll (hraise _ _ (.guarded ?_ (.loadTrims h11 ..))) (fun _ _ hm => .raise hm ..) ..
  exact .setFld (.setFld (.setFld (.loadTrims h11 ..) ..) ..) ..

theorem senseAll (h : Canonical s) (found : List HemFinding) : Canonical (senseAll s found) :=
  .overAll h (fun _ _ hm => .senseDie hm ..) ..

/-! ### Row programming (R820, R845) -/

theorem hemProgram (h : Canonical s) (t : Fin 256) (d : Fin 4) : Canonical (hemProgram t d s) := by
  unfold Machine.hemProgram
  refine .whenSuper h (fun _ hm => ?_) ..
  extract_lets
  exact .guarded hm (.guarded (.setFld hm ..) (.setFld (.onHem hm ..) ..))

theorem hemProgramDone (h : Canonical s) (d : Fin 4) (ok : Bool) : Canonical (hemProgramDone d ok s) := by
  unfold Machine.hemProgramDone
  refine .whenUp h (fun _ hm => ?_) ..
  split
  · exact hm
  · extract_lets s1
    have hs1 : Canonical s1 := .setFld (.onHem hm ..) ..
    exact .guarded (.setFld hs1 ..) (.raise (.setFld hs1 ..) ..)

/-! ### Lifecycle transitions (R818, R819, R845) -/

theorem zeroBbkey (h : Canonical s) : Canonical (zeroBbkey s) := .setFld (.vbat h (by rfl)) ..

theorem lcEnd (h : Canonical s) (m : LcMove) : Canonical (lcEnd s m) := by
  unfold Machine.lcEnd
  extract_lets s1 s2
  have hs1 : Canonical s1 := .overAll h (fun _ _ hm => .setFld (.onHem hm ..) ..) ..
  have hs2 : Canonical s2 := .setFld (.beside hs1) ..
  exact .raise hs2 ..

theorem lcRequest (h : Canonical s) (t : Fin 256) (v : Word) : Canonical (lcRequest t v s) := by
  unfold Machine.lcRequest
  refine .whenSuper h (fun _ hm => ?_) ..
  extract_lets _ s1 _ _ _ _ s2 s3
  have hs1 : Canonical s1 := .setFld hm ..
  have hs2 : Canonical s2 := .wipeLining hs1 ..
  have hs3 : Canonical s3 := .guarded (.zeroBbkey hs2) hs2
  refine .guarded (.refusedWrite hs1 ..) ?_
  split
  · exact .setFld (.beside hs3) ..
  · exact .lcEnd hs3 ..

theorem lcRowProgrammed (h : Canonical s) (ok : Bool) : Canonical (lcRowProgrammed ok s) := by
  unfold Machine.lcRowProgrammed
  refine .whenUp h (fun _ hm => ?_) ..
  split
  · exact hm
  · split
    · exact .lcEnd hm ..
    · extract_lets _ s1 s2
      have hs1 : Canonical s1 := .onHem hm ..
      have hs2 : Canonical s2 := .guarded hs1 (.raise hs1 ..)
      split
      · exact .lcEnd hs2 ..
      · exact .beside hs2

/-! ### Tamper (R821 to R824, R827, R846) -/

theorem tamperEntry (h : Canonical s) (w1 w2 : Nat) : Canonical (tamperEntry s w1 w2) := by
  refine h.vbatLe ?_
  simp only [List.length_cons, List.length_take]
  omega

theorem tamperTrips (h : Canonical s) (d : Fin 4) (src : Nat) : Canonical (tamperTrips s d src) := by
  unfold Machine.tamperTrips
  extract_lets off wipes loading present w2 s1 s2 s3 s4
  have h2 : Canonical s2 := .guarded (.setFld h ..) (.wipeLining (.setFld h ..) ..)
  have h4 : Canonical s4 := .tamperEntry (.guarded (.zeroBbkey h2) h2) ..
  exact .guarded (.setFld (.vbat h4 (by rfl)) ..) (.guarded (.raise h4 ..) h4)

theorem setHeld (h : Canonical s) : Canonical (setHeld s) := by
  unfold Machine.setHeld
  extract_lets
  exact .overAll h (fun _ _ hm => .setFld hm ..) ..

theorem tamperTrip (h : Canonical s) (d : Fin 4) (src ns : Nat) : Canonical (tamperTrip d src ns s) := by
  unfold Machine.tamperTrip
  extract_lets _ _ _ s1 s2 s3
  have hs1 : Canonical s1 := .guarded (.took h) h
  have hs2 : Canonical s2 := .setFld hs1 ..
  have hs3 : Canonical s3 := .guarded (.tamperTrips hs2 ..) hs2
  exact .guarded hs1 (.setHeld hs3)

theorem tamperEnds (h : Canonical s) (d : Fin 4) (src : Nat) : Canonical (tamperEnds d src s) :=
  .setHeld (.setFld h ..)

theorem tamperEn (h : Canonical s) (t : Fin 256) (d : Fin 4) (v : Word) : Canonical (tamperEn t d v s) := by
  unfold Machine.tamperEn
  refine .whenSuper h (fun _ hm => ?_) ..
  extract_lets
  exact .setHeld (.setFld hm ..)

theorem bbkeyCommit (h : Canonical s) (t : Fin 256) : Canonical (bbkeyCommit t s) :=
  .whenSuper h (fun _ hm => .guarded (.refusedWrite hm ..) (.setFld (.vbat hm (by rfl)) ..)) ..

theorem bbkeyWord (h : Canonical s) (t : Fin 256) (n : Nat) (v : Word) : Canonical (bbkeyWord s t n v) := by
  unfold Machine.bbkeyWord
  extract_lets
  exact .guarded (.refusedWrite h ..) (.vbat h (by rfl))

theorem bbkeyErase (h : Canonical s) (t : Fin 256) : Canonical (bbkeyErase t s) :=
  .whenSuper h (fun _ hm => .guarded (.refusedWrite hm ..) (.zeroBbkey hm)) ..

theorem tamperLogClear (h : Canonical s) (t : Fin 256) : Canonical (tamperLogClear t s) :=
  .whenSuper h (fun m hm => .guarded (hm.vbatLe (v := { m.vbat with log := [], ovf := 0 }) (Nat.zero_le _))
    (.refusedWrite hm ..)) ..

/-! ### The watchdog (R828 to R834, R847) -/

theorem onWdog (h : Canonical s) (d : Fin 4) (f : WdogSt → WdogSt) : Canonical (s.onWdog d f) := .upd h fun _ => by rfl

theorem wdogReload (h : Canonical s) (d : Fin 4) : Canonical (wdogReload s d) := .onWdog h ..

theorem wdogStart (h : Canonical s) (d : Fin 4) : Canonical (wdogStart s d) :=
  .guarded h (.setFld (.onWdog (.wdogReload h ..) ..) ..)

theorem wdogExpiry (h : Canonical s) (d : Fin 4) (early host : Bool) : Canonical (wdogExpiry s d early host) := by
  unfold Machine.wdogExpiry
  extract_lets _ s1 s2
  have hs1 : Canonical s1 := .guarded h (.beside h)
  have hs2 : Canonical s2 := .raise hs1 ..
  exact .guarded (.overAll hs2 (fun _ _ hm => .onWdog hm ..) ..) (.fatalStop hs1 ..)

theorem wdogServe (h : Canonical s) (d : Fin 4) (host : Bool) : Canonical (wdogServe s d host) :=
  .guarded (.wdogReload h ..) (.addFld (.onWdog (.wdogReload h ..) ..) ..)

theorem svcWdog (h : Canonical s) (d : Fin 4) (strict : Bool) : Canonical (svcWdog s d strict) :=
  .guarded h (.guarded (.wdogServe h ..) (.guarded (.wdogExpiry h ..) h))

theorem hostService (h : Canonical s) : Canonical (hostService s) := by
  unfold Machine.hostService
  extract_lets
  split
  · exact .wdogExpiry h ..
  · exact .overAll h (fun _ _ hm => .guarded (.wdogServe hm ..) hm) ..

theorem wdogSvcWrite (h : Canonical s) (v : Word) : Canonical (wdogSvcWrite s v) :=
  .guarded (.guarded (.hostService (.beside h)) (.raise (.addFld (.beside h) ..) ..)) (.guarded (.beside h)
    (.raise (.addFld h ..) ..))

theorem wdogExpire (h : Canonical s) (d : Fin 4) : Canonical (wdogExpire d s) := .guarded (.wdogExpiry h ..) h

theorem wdogWindowOpen (h : Canonical s) (d : Fin 4) : Canonical (wdogWindowOpen d s) :=
  .whenUp h (fun _ hm => .setFld hm ..) ..

theorem wdogEnable (h : Canonical s) (t : Fin 256) (d : Fin 4) (v : Word) : Canonical (wdogEnable t d v s) :=
  .whenSuper h (fun _ hm => .guarded (.setFld (.wdogStart hm ..) ..) hm) ..

theorem wdogTq (h : Canonical s) : Canonical (wdogTq s) :=
  .guarded h <| h.map fun x => by split <;> rfl

/-! ## The Seam -/

/-! ### The ring (R689) -/

theorem setLink (h : Canonical s) (d : Fin 4) (n : Nat) (x : LinkSt) : Canonical (s.setLink d n x) :=
    .upd h fun _ => by rfl

/-! ### Die stop (R697) -/

theorem dieStop (h : Canonical s) (d : Fin 4) : Canonical (dieStop s d) := .upd h fun _ => by rfl

theorem splitCheck (h : Canonical s) : Canonical (splitCheck s) := by
  unfold Machine.splitCheck
  extract_lets _ s'
  have hs' : Canonical s' := .overAll h (fun _ _ hm => .dieStop hm ..) ..
  exact .guarded h (.finishResolve (.raise hs' ..))

/-! ### Retry and failure (R693, R694, R720, R721) -/

theorem endFails (h : Canonical s) (cause : Nat) (e : Fin 4 × Nat) : Canonical (endFails s cause e) := by
  unfold Machine.endFails
  extract_lets s1
  have hs1 : Canonical s1 := .setLink h ..
  exact .guarded h (.raise hs1 ..)

theorem leaveGroup (h : Canonical s) (v : Nat) : Canonical (leaveGroup s v) := by
  unfold Machine.leaveGroup
  extract_lets s1 s2
  have hs1 : Canonical s1 := .guarded (.setFld h ..) h
  have hs2 : Canonical s2 := .setFld (.setFld hs1 ..) ..
  exact .setFld hs2 ..

theorem groupLost (h : Canonical s) : Canonical (groupLost s) := by
  unfold Machine.groupLost
  extract_lets _ _ s'
  have hs' : Canonical s' := .overAll h (fun _ _ hm => .raise hm ..) ..
  exact .guarded (.guarded (.setFld hs' ..) (.guarded (.raise (.leaveGroup h ..) ..) h)) h

theorem linkFails (h : Canonical s) (d : Fin 4) (n cause : Nat) : Canonical (linkFails s d n cause) := by
  unfold Machine.linkFails
  extract_lets s'
  have hs' : Canonical s' := .overAll h (fun _ _ hm => .endFails hm ..) ..
  exact .guarded (.splitCheck hs') (.groupLost hs')

theorem retryEnds (h : Canonical s) (d : Fin 4) (n k : Nat) : Canonical (retryEnds s d n k) := by
  unfold Machine.retryEnds
  extract_lets s1
  have hs1 : Canonical s1 := .addFld h ..
  exact .guarded h (.raise hs1 ..)

theorem flitSent (h : Canonical s) (d : Fin 4) (n : Nat) : Canonical (flitSent s d n) := by
  unfold Machine.flitSent
  extract_lets
  exact .guarded (.setLink h ..) h

theorem crcFail (h : Canonical s) (d : Fin 4) (n : Nat) : Canonical (crcFail s d n) := by
  unfold Machine.crcFail
  extract_lets s1 _ _ _ s2 s3
  have hs1 : Canonical s1 := .flitSent h ..
  have hs2 : Canonical s2 := .setLink hs1 ..
  have hs3 : Canonical s3 := .overAll hs2 (fun _ _ hm => .setLink hm ..) ..
  exact .guarded (.linkFails (.retryEnds hs1 ..) ..) (.guarded (.linkFails (.retryEnds hs3 ..) ..) hs3)

theorem flitCrcFail (h : Canonical s) (d : Fin 4) (n : Nat) : Canonical (flitCrcFail d n s) :=
  .guarded h (.guarded (.linkFails (.retryEnds h ..) ..) (.crcFail h ..))

theorem linkRetryTimeout (h : Canonical s) (d : Fin 4) (n : Nat) : Canonical (linkRetryTimeout d n s) :=
  .guarded (.linkFails (.retryEnds h ..) ..) h

/-! ### Membership (R704 to R707, R717, R724) -/

theorem groupMsg (h : Canonical s) (m : GroupMsg) : Canonical (groupMsg s m) := by
  unfold Machine.groupMsg
  extract_lets _ s1 s2
  have hs1 : Canonical s1 := .setFld (.setFld h ..) ..
  have hs2 : Canonical s2 := .setFld hs1 ..
  split
  · extract_lets s3
    have hs3 : Canonical s3 := .upd hs2 fun _ => by rfl
    exact .guarded (.raise hs3 ..) h
  · extract_lets s3
    have hs3 : Canonical s3 := .setFld (.setFld h ..) ..
    exact .guarded (.raise hs3 ..) h
  · exact .guarded (.setFld h ..) h
  · exact .guarded (.raise (.leaveGroup h ..) ..) h

theorem joinRequest (h : Canonical s) (p : Fin 8) (started : Bool) (image : BitVec 64) (size : Fin 8) :
    Canonical (joinRequest p started image size s) := by
  unfold Machine.joinRequest
  refine .whenUp h (fun _ hm => .guarded hm ?_) ..
  extract_lets
  exact .guarded (.raise (.setFld hm ..) ..) (.raise hm ..)

theorem groupEnable (h : Canonical s) (v : Word) : Canonical (groupEnable s v) := by
  unfold Machine.groupEnable
  extract_lets _ s1 s2 s3 _ _ s4 s5 s6
  have hs1 : Canonical s1 := .setFld h ..
  have hs2 : Canonical s2 := .setFld hs1 ..
  have hs3 : Canonical s3 := .setFld hs2 ..
  have hs4 : Canonical s4 := by
    unfold s4
    refine .overAll hs3 (fun _ _ hm => ?_) ..
    extract_lets s7 _ s8
    have hs7 : Canonical s7 := .setFld hm ..
    have hs8 : Canonical s8 := by
      unfold s8
      split
      · exact .setLane hs7 ..
      · exact hs7
    exact .laneAsk hs8 ..
  have hs5 : Canonical s5 := .setLink (.setLink hs4 ..) ..
  have hs6 : Canonical s6 := .overAll hs3 (fun _ _ hm => .setFld hm ..) ..
  exact .guarded (.guarded (.setFld (.setFld hs5 ..) ..) hs5) (.guarded
    (.leaveGroup (.setLink (.setLink hs6 ..) ..) ..) hs3)

theorem groupJoin (h : Canonical s) : Canonical (groupJoin s) := .guarded h (.guarded (.setFld h ..) (.setFld h ..))

theorem groupLeave (h : Canonical s) : Canonical (groupLeave s) := .guarded (.leaveGroup h ..) h

/-! ### Training (R691, R696, R701, R719, R723) -/

theorem agreeCheck (h : Canonical s) : Canonical (agreeCheck s) := by
  unfold Machine.agreeCheck
  extract_lets _ s1
  have hs1 : Canonical s1 := .beside h
  exact .guarded h (.guarded hs1 (.raise (.setFld hs1 ..) ..))

theorem linkTrainingDone (h : Canonical s) (d : Fin 4) (n : Nat) (ok : Bool) (lat : BitVec 16) :
    Canonical (linkTrainingDone d n ok lat s) := by
  unfold Machine.linkTrainingDone
  refine .whenUp h (fun _ hm => ?_) ..
  extract_lets _ s1 s2
  have hs1 : Canonical s1 := .setLink (.setFld hm ..) ..
  have hs2 : Canonical s2 := .linkFails hm ..
  exact .guarded hm (.guarded (.agreeCheck (.guarded (.raise hs1 ..) hs1)) (.guarded
    (.overAll hm (fun _ _ hn => .setLink hn ..) ..) (.agreeCheck hs2)))

theorem linkRetrain (h : Canonical s) (d : Fin 4) (n : Nat) : Canonical (linkRetrain s d n) :=
  .guarded h (.overAll h (fun _ _ hm => .setLink hm ..) ..)

theorem linkInject (h : Canonical s) (d : Fin 4) (n : Nat) : Canonical (linkInject s d n) := by
  unfold Machine.linkInject
  extract_lets
  exact .guarded (.setLink h ..) h

theorem linksTickStart (h : Canonical s) (d : Fin 4) : Canonical (linksTickStart s d) := by
  unfold Machine.linksTickStart
  refine .overAll h (fun _ _ hm => ?_) ..
  extract_lets
  exact .guarded (.setLink hm ..) hm

/-! ### Flits (R692, R693) -/

theorem flitReceive (h : Canonical s) (d : Fin 4) (n : Nat) (m : Option GroupMsg) :
    Canonical (flitReceive d n m s) := by
  unfold Machine.flitReceive
  extract_lets _ s1 _ s2 s3
  have hs1 : Canonical s1 := .flitSent h ..
  have hs2 : Canonical s2 := .retryEnds hs1 ..
  have hs3 : Canonical s3 := .addFld (.setLink hs2 ..) ..
  refine .guarded h (.guarded (.linkFails (.retryEnds h ..) ..) (.guarded (.crcFail (.setLink h ..) ..) ?_))
  split
  · exact .guarded (.groupMsg hs3 ..) hs3
  · exact hs3

theorem flitAck (h : Canonical s) (d : Fin 4) (n : Nat) (lack : BitVec 8) (nak : Bool) :
    Canonical (flitAck d n lack nak s) := by
  unfold Machine.flitAck
  extract_lets _ _ _ _ s1
  have hs1 : Canonical s1 := .setLink h ..
  exact .guarded h (.guarded (.setLink hs1 ..) hs1)

/-! ## Loading a configuration stream -/

theorem beginLoad (h : Canonical s) (src : Nat) : Canonical (beginLoad s src) := by
  unfold Machine.beginLoad
  extract_lets s1 s2 s3
  have hs1 : Canonical s1 := .setFld (.setFld h ..) ..
  have hs2 : Canonical s2 := .setFld (.setFld hs1 ..) ..
  have hs3 : Canonical s3 := .beside hs2
  exact .map hs3 fun _ => by rfl

/-! ### Clearing before another attempt (R751) -/

theorem cfgClear (h : Canonical s) : Canonical (cfgClear s) :=
  .overAll (h.mapWf fun _ hx => hx.clearDie) (fun _ _ hm => .loadTrims hm ..) ..

/-! ### Boot flash (R726, R727, R785 to R788) -/

theorem cfgLoadStart (h : Canonical s) (rec0 rec1 : List Byte) (xspi8 wrOk : Bool) :
    Canonical (cfgLoadStart rec0 rec1 xspi8 wrOk s) := by
  unfold Machine.cfgLoadStart
  refine .whenUp h (fun _ hm => .guarded hm ?_) ..
  extract_lets _ _ _ _ _ s1 s2 _ s3 s4 s5 s6 s7
  have hs1 : Canonical s1 := .setFld (.setFld hm ..) ..
  have hs2 : Canonical s2 := .setFld hs1 ..
  have hs3 : Canonical s3 := .setFld hs2 ..
  have hs4 : Canonical s4 := .setFld hs3 ..
  have hs5 : Canonical s5 := .setFld hs4 ..
  have hs6 : Canonical s6 := .guarded (.raise (.setFld hs5 ..) ..) hs5
  have hs7 : Canonical s7 := .setFld (.setFld hs6 ..) ..
  exact .beginLoad hs7 ..

theorem cfgFallback (h : Canonical s) : Canonical (cfgFallback s) := by
  unfold Machine.cfgFallback
  refine .whenUp h (fun _ hm => .guarded hm ?_) ..
  extract_lets s1 s2
  have hs1 : Canonical s1 := .cfgClear hm
  have hs2 : Canonical s2 := .setFld (.setFld hs1 ..) ..
  exact .beginLoad hs2 ..

theorem cfgLoad (h : Canonical s) (t : Fin 256) (v : Word) : Canonical (cfgLoad t v s) := by
  unfold Machine.cfgLoad
  refine .whenSuper h (fun _ hm => ?_) ..
  extract_lets s1
  have hs1 : Canonical s1 := .setFld hm ..
  exact .guarded hs1 (.guarded (.beginLoad (.guarded (.cfgClear hs1) hs1) ..) (.refusedWrite hs1 ..))

/-! ### Stream bytes (R728) -/

theorem streamWord (h : Canonical s) (v : Word) : Canonical (streamWord s v) := .onCfg h ..

theorem cfgDataWrite (h : Canonical s) (t : Fin 256) (v : Word) : Canonical (cfgDataWrite t v s) :=
  .whenSuper h (fun _ hm => .guarded (.streamWord hm ..) (.refusedWrite hm ..)) ..

theorem jtagWord (h : Canonical s) (v : Word) : Canonical (jtagWord s v) :=
  .guarded h (.guarded (.streamWord (.beginLoad h ..) ..) (.guarded (.streamWord h ..) h))

theorem cfgSourceLost (h : Canonical s) (quietMs : Nat) : Canonical (cfgSourceLost quietMs s) :=
  .whenUp h (fun _ hm => .guarded (.cfgFail hm ..) hm) ..

theorem takeBytes (h : Canonical s) {bs : List Byte} (hk : takeBytes s bs = some k) : Canonical k := by
  unfold Machine.takeBytes at hk
  split at hk
  · exact Option.some.inj hk ▸ h
  · split at hk
    · exact Option.some.inj hk ▸ h.onCfg ..
    · cases hk

/-! ### The header (R730 to R732, R735) -/

theorem placeKey (h : Canonical s) (k : BitVec 256) : Canonical (placeKey s k) :=
  .overAll h (fun _ _ hm => .rawWrite hm ..) ..

theorem setDigest (h : Canonical s) (hdr : List Byte) : Canonical (setDigest s hdr) :=
  .overAll h (fun _ _ hm => .setFld hm ..) ..

theorem cfgHeader (h : Canonical s) (hdr : List Byte) : Canonical (cfgHeader hdr s) := by
  refine .whenUp h (fun m hm => .guarded hm ?_) ..
  split
  · exact hm
  next k hk =>
    have h1 : Canonical (Machine.setDigest (k.setFld 0 Rf.CFG_STAT_KEYSEL (field hdr 6 1)) hdr) :=
      .setDigest (.setFld (hm.takeBytes hk) ..) ..
    dsimp only
    split
    · exact .cfgFail h1 ..
    · refine .guarded (.cfgFail h1 ..) (.onCfg ?_ ..)
      split
      · exact .guarded h1 (.placeKey h1 ..)
      · exact h1

/-! ### Chunk records (R733, R734) -/

theorem checkNext (h : Canonical s) : Canonical (checkNext s) := .guarded (.cfgEndIf h ..) h

theorem cfgChunk (h : Canonical s) (bs : List Byte) : Canonical (cfgChunk bs s) := by
  refine .whenUp h (fun m hm => .guarded hm ?_) ..
  split
  · exact hm
  next k hk =>
    have h1 := (hm.takeBytes hk).onCfg
    dsimp only
    split
    · exact .cfgFail (h1 ..) ..
    · have h2 : ∀ f g n, Canonical (((k.onCfg f).onCfg g).setFld 0 Rf.CFG_POS_POS n) := fun f g n =>
        .setFld (.onCfg (h1 f) g) ..
      exact .guarded (.checkNext (h2 ..)) (h2 ..)

/-! ### Boot flash operations (R792) -/

theorem flashGo (h : Canonical s) (t : Fin 256) (v : Word) : Canonical (flashGo s t v) := by
  unfold Machine.flashGo
  extract_lets _ s1 s2
  have hs1 : Canonical s1 := .guarded (.setFld h ..) h
  have hs2 : Canonical s2 := .guarded hs1 (.setFld hs1 ..)
  exact .guarded hs2 (.guarded (.refusedWrite hs2 ..) (.guarded (.setFld hs2 ..) (.setFld hs2 ..)))

theorem flashOp (h : Canonical s) (t : Fin 256) (op : Nat) (v : Word) : Canonical (flashOp t op v s) :=
  .whenSuper h (fun _ hm => .flashGo hm ..) ..

theorem flashOpDone (h : Canonical s) (ok : Bool) (data : List Word) : Canonical (flashOpDone ok data s) := by
  unfold Machine.flashOpDone
  refine .whenUp h (fun _ hm => .guarded hm ?_) ..
  extract_lets s1
  have hs1 : Canonical s1 := .setFld hm ..
  exact .guarded (.setFld hs1 ..) (.guarded (.overAll hs1 (fun _ _ hn => .setFld hn ..) ..) hs1)

/-! ## Ranges of lane memory and DRAM as movers and Pleat jobs use them -/

theorem banksReady (h : Canonical s) (d : Fin 4) (m : Mem) (w n : Nat) : Canonical (banksReady s d m w n).1 := by
  unfold Machine.banksReady
  extract_lets
  exact .guardedFst (.pair (.overAll h (fun _ _ hm => .wakeBank hm ..) ..)) h

theorem readOne (h : Canonical s) (d : Fin 4) (m : Mem) (w mask : Nat) : Canonical (readOne s d m w mask).1 :=
  .guardedFst (.readLining h ..) (.readMem h ..)

theorem readRun (h : Canonical s) (n : Nat) (d : Fin 4) (m : Mem) (i : Nat) :
    Canonical (readRun n s d m i).1 := by
  induction n generalizing s d m i with
  | zero => exact h
  | succ n ih =>
    unfold Machine.readRun
    extract_lets r rest
    have hr : Canonical r.1 := .readOne h ..
    have hrest : Canonical rest.1 := ih hr ..
    split
    · exact hrest
    · exact hr

theorem writeOne (h : Canonical s) (d : Fin 4) (m : Mem) (w mask : Nat) (q : Quadlane) :
    Canonical (writeOne s d m w mask q) :=
  .guarded (.writeLining h ..) (.writeMem h ..)

theorem writeRun (h : Canonical s) (d : Fin 4) (m : Mem) (i : Nat) (qs : List Quadlane) :
    Canonical (writeRun s d m i qs) := by
  induction qs generalizing s d m i with
  | nil => exact h
  | cons a as ih =>
    unfold Machine.writeRun
    exact ih (.writeOne h ..) ..

/-! ## The fabric memory ports of a die -/

theorem setSportQ (h : Canonical s) (d : Fin 4) (p : Nat) (q : List PortReq) : Canonical (s.setSportQ d p q) :=
  .setFld (.upd h fun _ => by rfl) ..

theorem sportRequest (h : Canonical s) (d : Fin 4) (p : Nat) (q : PortReq) : Canonical (sportRequest d p q s) :=
  .whenUp h (fun _ hm => .guarded (.setSportQ hm ..) hm) ..

theorem sportAnswer (h : Canonical s) (d : Fin 4) (p : Nat) (r : Reply) : Canonical (sportAnswer s d p r) := by
  unfold Machine.sportAnswer
  extract_lets m
  have hm : Canonical m := .setSportQ h ..
  exact .beside hm

theorem sportResponse (h : Canonical s) (d : Fin 4) (p : Nat) : Canonical (sportResponse d p s) := by
  unfold Machine.sportResponse
  refine .whenUp h (fun _ hm => ?_) ..
  split
  · exact hm
  · extract_lets
    split
    · exact .sportAnswer (.accFault hm ..) ..
    · extract_lets r r1
      have hr : Canonical r.1 := .writeMem hm ..
      have hr1 : Canonical r1.1 := .readMem hm ..
      refine .guarded (.guarded (.sportAnswer hr ..) hr) ?_
      split
      · exact .sportAnswer hr1 ..
      · exact .sportAnswer (.poisonFault hr1 ..) ..
      · exact hr1

/-! ### DRAM ports (R323, R341 to R343) -/

theorem setDportQ (h : Canonical s) (d : Fin 4) (q : Nat) (l : List PortRead) : Canonical (s.setDportQ d q l) :=
  .setFld (.upd h fun _ => by rfl) ..

theorem dportAdd (h : Canonical s) (d : Fin 4) (q : Nat) (e : PortRead) : Canonical (dportAdd s d q e) :=
  .setDportQ h ..

theorem dportRequest (h : Canonical s) (d : Fin 4) (q : Fin 8) (wr : Bool) (addr : BitVec 40) (en : BitVec 64)
    (data : List Byte) :
    Canonical (dportRequest d q wr addr en data s) := by
  unfold Machine.dportRequest
  refine .whenUp h (fun _ hm => .guarded hm ?_) ..
  extract_lets _ _ _ _ _ _ r _ s1
  have hr : Canonical r.1 := .dramFetch hm ..
  have hs1 : Canonical s1 := .beside hm
  refine .guarded (.dportAdd (.accFault hm ..) ..) (.guarded (.guarded (.dramStore hm ..) ?_) (.guarded hs1
    (.dportAdd hs1 ..)))
  split
  · exact .dportAdd hr ..
  · exact .dportAdd (.dramPoisonFault hr ..) ..

theorem dportResponse (h : Canonical s) (d : Fin 4) (q : Nat) : Canonical (dportResponse d q s) := by
  refine .whenUp h (fun m hm => ?_) ..
  split
  · exact hm
  · split
    case h_6 => exact hm
    all_goals exact .beside (.setDportQ hm ..)

/-! ## Region reloads -/

theorem reloadFails (h : Canonical s) (d : Fin 4) (r : Reload) (cause : Nat) (incomplete : Bool) :
    Canonical (reloadFails s d r cause incomplete) :=
  .raiseT h ..

theorem engineRead (h : Canonical s) (d : Fin 4) (addr n : Nat) : Canonical (engineRead s d addr n).1 := by
  unfold Machine.engineRead
  extract_lets
  exact .guardedFst (.dramFetch h ..) h

theorem reloadStart (h : Canonical s) (d : Fin 4) (r : Reload) : Canonical (reloadStart s d r) := by
  unfold Machine.reloadStart
  extract_lets s1 h1 s2
  have hs1 : Canonical s1 := .guarded (.setFld h ..) h
  have hh1 : Canonical h1.1 := .engineRead hs1 ..
  have hs2 : Canonical s2 := .setFld (.setFld hh1 ..) ..
  split
  · exact .reloadFails hh1 ..
  · exact .upd (.setFld hs2 ..) fun _ => by rfl

theorem reloadsGo (h : Canonical s) (n : Nat) (d : Fin 4) : Canonical (reloadsGo n s d) := by
  induction n generalizing s d with
  | zero => exact h
  | succ n ih =>
    unfold Machine.reloadsGo
    refine .guarded h ?_
    split
    · exact h
    · exact ih (.reloadStart (.upd h fun _ => by rfl) ..) ..

theorem reloadNext (h : Canonical s) (d : Fin 4) : Canonical (reloadNext s d) := .reloadsGo h ..

theorem reloadAccept (h : Canonical s) (d : Fin 4) (r : Reload) : Canonical (reloadAccept s d r) := by
  unfold Machine.reloadAccept
  extract_lets
  exact .reloadNext (.upd h fun _ => by rfl) ..

theorem judgeDarner (h : Canonical s) (d : Fin 4) : Canonical (judgeDarner s d) := by
  unfold Machine.judgeDarner
  refine .overAll h (fun _ _ hm => .guarded hm (.guarded (.reloadAccept hm ..) (.guarded hm ?_))) ..
  extract_lets s1
  have hs1 : Canonical s1 := .upd hm fun _ => by rfl
  exact .raise hs1 ..

theorem judgeReload (h : Canonical s) (d : Fin 4) (r addr : Nat) : Canonical (judgeReload s d r addr).1 :=
  .guardedFst (.pair (.reloadAccept h ..)) h

theorem reloadLate (h : Canonical s) (d : Fin 4) : Canonical (reloadLate s d) := by
  unfold Machine.reloadLate
  split
  · exact .guarded h (.raise (.upd h fun _ => by rfl) ..)
  · exact h

theorem reloadsStop (h : Canonical s) (d : Fin 4) : Canonical (reloadsStop s d) := by
  unfold Machine.reloadsStop
  extract_lets s1
  have hs1 : Canonical s1 := .upd h fun _ => by rfl
  exact .overAll hs1 (fun _ _ hm => .setFld hm ..) ..

theorem regionDrained (h : Canonical s) (d : Fin 4) : Canonical (regionDrained d s) := by
  unfold Machine.regionDrained
  refine .whenUp h (fun _ hm => ?_) ..
  split
  · exact .guarded (.upd hm fun _ => by rfl) hm
  · exact hm

theorem regionIsolateClear (h : Canonical s) (d : Fin 4) : Canonical (regionIsolateClear d s) := by
  unfold Machine.regionIsolateClear
  refine .whenUp h (fun _ hm => ?_) ..
  split
  · extract_lets s1
    have hs1 : Canonical s1 := .upd (.setFld hm ..) fun _ => by rfl
    exact .guarded (.reloadNext (.raise hs1 ..) ..) hm
  · exact hm

/-! ## The Darner -/

/-! ### Frames -/

theorem setUpsets (h : Canonical s) (d : Fin 4) (f : Nat) (us : List Nat) : Canonical (s.setUpsets d f us) :=
    .upd h fun _ => by rfl

theorem setFrameWord (h : Canonical s) (d : Fin 4) (f w : Nat) (v : Word) : Canonical (s.setFrameWord d f w v) :=
  .upd h fun _ => by rfl

/-! ### Passes (R772 to R774) -/

theorem onDarner (h : Canonical s) (d : Fin 4) (f : DarnerSt → DarnerSt) : Canonical (s.onDarner d f) :=
    .upd h fun _ => by rfl

theorem passBegin (h : Canonical s) (d : Fin 4) : Canonical (passBegin s d) := by
  unfold Machine.passBegin
  extract_lets s1
  have hs1 : Canonical s1 := .onDarner h ..
  exact .guarded h (.setFld (.setFld hs1 ..) ..)

theorem passIdle (h : Canonical s) (d : Fin 4) : Canonical (passIdle s d) := .guarded h (.passBegin h ..)

theorem setFrame (h : Canonical s) (d : Fin 4) (f : Nat) : Canonical (setFrame s d f) := .setFld (.onDarner h ..) ..

/-! ### Actions (R775, R776, R800, R801) -/

theorem fixFrame (h : Canonical s) (d : Fin 4) (f : Nat) (us : List Nat) : Canonical (fixFrame s d f us) := by
  unfold Machine.fixFrame
  extract_lets s1
  have hs1 : Canonical s1 := by
    unfold s1
    refine .overAll h (fun _ _ hm => ?_) ..
    extract_lets
    exact .guarded hm (.setFrameWord hm ..)
  exact .setUpsets hs1 ..

theorem frameMulti (h : Canonical s) (d : Fin 4) (f : Nat) : Canonical (frameMulti s d f) := by
  unfold Machine.frameMulti
  extract_lets count
  have hcount : ∀ m, Canonical m → Canonical (count m) := by
    intro m hm
    unfold count
    exact .addFld hm ..
  split
  · extract_lets s1
    have hs1 : Canonical s1 := .onDarner (.setFld (hcount _ h) ..) ..
    exact .guarded h (.guarded (.raise hs1 ..) (.raise (hcount _ h) ..))
  · exact .raise (hcount _ h) ..

theorem frameCheck (h : Canonical s) (d : Fin 4) (flips : List Nat) : Canonical (frameCheck d flips s) := by
  unfold Machine.frameCheck
  refine .whenUp h (fun _ hm => ?_) ..
  extract_lets s1 _ _ s2 s3
  have hs1 : Canonical s1 := .passIdle hm ..
  have hs2 : Canonical s2 := .setUpsets hs1 ..
  have hs3 : Canonical s3 := by
    unfold s3
    split
    · exact hs2
    · exact .raise (.addFld (.fixFrame hs2 ..) ..) ..
    · exact .frameMulti hs2 ..
  exact .guarded hs1 (.guarded (.setFrame hs1 ..) (.setFrame hs3 ..))

theorem scrubWord (h : Canonical s) (d : Fin 4) (m : Mem) (i : Nat) : Canonical (scrubWord s d m i) := by
  unfold Machine.scrubWord
  extract_lets _ _ s1
  have hs1 : Canonical s1 := .overAll h (fun _ _ hm => .corrLaneFrom hm ..) ..
  refine .guarded (.addFld h ..) (.guarded h ?_)
  split
  · exact .addFld (.foundBadFrom h ..) ..
  · exact .addFld (.setWord hs1 ..) ..

theorem memRead (h : Canonical s) (d : Fin 4) (e : Fin 3) : Canonical (memRead d e s) := by
  unfold Machine.memRead
  refine .whenUp h (fun _ hm => ?_) ..
  extract_lets s1
  have hs1 : Canonical s1 := .passIdle hm ..
  exact .guarded hs1 (.scrubWord (.onDarner hs1 ..) ..)

theorem passEnd (h : Canonical s) (d : Fin 4) : Canonical (passEnd d s) := by
  unfold Machine.passEnd
  refine .whenUp h (fun _ hm => ?_) ..
  extract_lets _ _ s1
  have hs1 : Canonical s1 := .setFld (.addFld hm ..) ..
  exact .guarded hm (.passIdle (.setReg (.onDarner hs1 ..) ..) ..)

theorem passAbandon (h : Canonical s) (d : Fin 4) : Canonical (passAbandon s d) := .onDarner h ..

/-! ## The SMBus controller of the host port -/

theorem smbCtlWrite (h : Canonical s) (v : Word) : Canonical (smbCtlWrite s v) := by
  unfold Machine.smbCtlWrite
  extract_lets s1
  have hs1 : Canonical s1 := .setReg h ..
  exact .guarded h (.guarded (.setFld hs1 ..) hs1)

theorem smbDataWrite (h : Canonical s) (n : Nat) (v : Word) : Canonical (smbDataWrite s n v) :=
  .guarded h (.setFld h ..)

theorem smbStart (h : Canonical s) (t : Fin 256) (prot : Nat) (v : Word) : Canonical (smbStart t prot v s) :=
  .whenGranted h (fun _ hm => .smbCtlWrite hm ..) ..

theorem smbPut (h : Canonical s) (i : Nat) (bs : List Byte) : Canonical (smbPut s i bs) := by
  induction bs generalizing s i with
  | nil => exact h
  | cons a as ih =>
    unfold Machine.smbPut
    extract_lets
    exact ih (.setFld h ..) ..

theorem smbEnd (h : Canonical s) (nack pecerr : Bool) (data : List Byte) :
    Canonical (smbEnd nack pecerr data s) := by
  unfold Machine.smbEnd
  refine .whenUp h (fun _ hm => .guarded hm ?_) ..
  extract_lets _ _ s1 s2 s3 s4
  have hs1 : Canonical s1 := .setFld (.setFld hm ..) ..
  have hs2 : Canonical s2 := .guarded (.setFld hs1 ..) hs1
  have hs3 : Canonical s3 := .guarded (.setFld hs2 ..) hs2
  have hs4 : Canonical s4 := .guarded (.setFld hs3 ..) hs3
  exact .smbPut hs4 ..

theorem smbTimeout (h : Canonical s) : Canonical (smbTimeout s) :=
  .whenUp h (fun _ hm => .guarded (.setFld (.setFld (.setFld hm ..) ..) ..) hm) ..

/-! ## Pleat's stream formats P0 to P3, set outputs and jobs -/

/-! ### Where streams go (R515 to R517) -/

theorem placeReady (h : Canonical s) (d : Fin 4) (p : Place) (n : Nat) (wr : Bool) :
    Canonical (placeReady s d p n wr).1 := by
  unfold Machine.placeReady
  split
  · exact .guardedFst h (.banksReady h ..)
  · exact h

theorem putStream (h : Canonical s) (d : Fin 4) (p : Place) (x : Stream) : Canonical (putStream s d p x) := by
  unfold Machine.putStream
  split
  · exact .writeRun h ..
  · exact .dramStore h ..

/-! ### Set outputs (R511, R533, R534, R548) -/

theorem setStream (h : Canonical s) (d : Fin 4) (k : Nat) : Canonical (setStream s d k).1 := by
  unfold Machine.setStream
  extract_lets
  split
  · exact h
  · extract_lets _ r
    have hr : Canonical r.1 := by
      unfold r
      split
      · extract_lets q m
        have hq : Canonical q.1 := .dramFetch h ..
        have hm : Canonical m := hq
        exact .pair (.beside hm)
      · exact h
    exact hr

theorem endOutput (h : Canonical s) (d : Fin 4) (k : Nat) : Canonical (endOutput s d k) := by
  unfold Machine.endOutput
  extract_lets s1
  have hs1 : Canonical s1 := .setFld (.onPleat h ..) ..
  exact .releaseSet (.setFld hs1 ..) ..

theorem plout (h : Canonical s) (d : Fin 4) (k bits : Nat) : Canonical (plout s d k bits) := .raise h ..

theorem pleatOutputEnd (h : Canonical s) (d : Fin 4) (bad : Option Nat) : Canonical (pleatOutputEnd d bad s) := by
  unfold Machine.pleatOutputEnd
  refine .whenUp h (fun _ hm => ?_) ..
  split
  · split
    · exact .plout (.endOutput (.sumFound hm ..) ..) ..
    · extract_lets r
      have hr : Canonical r.1 := .setStream hm ..
      split
      · exact .plout (.endOutput (.accFault hm ..) ..) ..
      · extract_lets q m
        have hq : Canonical q.1 := .placeReady hr ..
        have hm : Canonical m := hq
        exact .guarded (.plout (.endOutput (.putStream hq ..) ..) ..) (.beside hm)
  · exact hm

/-! ### Set registers (R506, R543) -/

theorem restartSet (h : Canonical s) (d : Fin 4) (k : Nat) : Canonical (restartSet s d k) := by
  unfold Machine.restartSet
  extract_lets s1 s2 _ s3
  have hs1 : Canonical s1 := .discardSet h ..
  have hs2 : Canonical s2 := .setFld (.setFld hs1 ..) ..
  have hs3 : Canonical s3 := .guarded (.onPleat hs2 ..) hs2
  exact .setFld hs3 ..

theorem enableSet (h : Canonical s) (d : Fin 4) (k : Nat) (v : Bool) : Canonical (enableSet s d k v) :=
  .guarded (.guarded h (.setFld h ..)) (.discardSet (.setFld h ..) ..)

theorem setCtlWrite (h : Canonical s) (d : Fin 4) (k : Nat) (v : Word) : Canonical (setCtlWrite s d k v) := by
  unfold Machine.setCtlWrite
  extract_lets s1
  have hs1 : Canonical s1 := .enableSet h ..
  exact .guarded h (.guarded (.restartSet hs1 ..) hs1)

/-! ### Jobs (R515 to R519, R536, R546, R547) -/

theorem writeMasked (h : Canonical s) (d : Fin 4) (m : Mem) (i : Nat) (qs : List (Nat × Quadlane)) :
    Canonical (writeMasked s d m i qs) := by
  induction qs generalizing s d m i with
  | nil => exact h
  | cons a as ih =>
    unfold Machine.writeMasked
    exact ih (.writeOne h ..) ..

theorem encodeLanes (h : Canonical s) (d : Fin 4) (p : JobPar) : Canonical (encodeLanes s d p).1 := by
  unfold Machine.encodeLanes
  extract_lets f w
  split
  · exact .pair (.accFault h ..)
  · extract_lets b r got vs x
    have hb : Canonical b.1 := .banksReady h ..
    have hr : Canonical r.1 := .readRun hb ..
    refine .guardedFst (.pair (.accFault h ..)) (.guardedFst (.pair hb) ?_)
    split
    · exact .pair (.accFault h ..)
    · extract_lets o s1
      have ho : Canonical o.1 := .placeReady hr ..
      have h1 : Canonical s1 := .putStream ho ..
      refine .guardedFst (.pair ho) ?_
      split
      · exact .pair (.poisonFault h1 ..)
      · exact .pair h1

theorem encodeSet (h : Canonical s) (d : Fin 4) (p : JobPar) (bad : Option Nat) :
    Canonical (encodeSet s d p bad).1 := by
  unfold Machine.encodeSet
  extract_lets n es l x
  split
  · exact .pair (.accFault h ..)
  · extract_lets o s1
    have ho : Canonical o.1 := .placeReady h ..
    have h1 : Canonical s1 := .putStream ho ..
    refine .guardedFst (.pair ho) ?_
    split
    · exact .pair (.sumFound h1 ..)
    · exact .pair h1

theorem readSource (h : Canonical s) (d : Fin 4) (p : Place) (bits : Nat) :
    Canonical (readSource s d p bits).1 := by
  unfold Machine.readSource
  split
  · extract_lets r
    have hr : Canonical r.1 := .readRun h ..
    exact hr
  · extract_lets r
    have hr : Canonical r.1 := .dramFetch h ..
    exact hr

theorem decodeJob (h : Canonical s) (d : Fin 4) (p : JobPar) : Canonical (decodeJob s d p).1 := by
  unfold Machine.decodeJob
  extract_lets f w all
  split
  · exact .pair (.accFault h ..)
  · split
    · exact .pair (.accFault h ..)
    · extract_lets b c r poisoned good s1
      have hc : Canonical c.1 := .banksReady (.placeReady h ..) ..
      have h1 : Canonical s1 := .writeMasked (.readSource hc ..) ..
      refine .guardedFst (.pair (.accFault h ..)) (.guardedFst (.pair hc) ?_)
      split
      · exact .pair (.poisonFault h1 ..)
      · exact .pair (.dramPoisonFault h1 ..)
      · exact .pair (.raise h1 ..)
      · exact .pair h1

theorem jobCtlWrite (h : Canonical s) (d : Fin 4) (j : Nat) (v : Word) : Canonical (jobCtlWrite s d j v) := by
  unfold Machine.jobCtlWrite
  extract_lets _ s1
  have hs1 : Canonical s1 := .setReg h ..
  exact .guarded h (.guarded (.setFld hs1 ..) hs1)

theorem pleatJobStart (h : Canonical s) (d : Fin 4) (bad : Option Nat) : Canonical (pleatJobStart d bad s) := by
  unfold Machine.pleatJobStart
  refine .whenUp h (fun _ hm => ?_) ..
  split
  · extract_lets _ r
    have hr : Canonical r.1 := .guardedFst hm (.guardedFst (.decodeJob hm ..) (.guardedFst (.encodeSet hm ..)
        (.encodeLanes hm ..)))
    split
    · exact hr
    · exact .onPleat hr ..
  · exact hm

theorem pleatJobEnd (h : Canonical s) (d : Fin 4) : Canonical (pleatJobEnd d s) := by
  unfold Machine.pleatJobEnd
  refine .whenUp h (fun _ hm => ?_) ..
  split
  · exact hm
  · extract_lets s1 s2
    have hs1 : Canonical s1 := .setFld (.setFld (.setFld hm ..) ..) ..
    have hs2 : Canonical s2 := .onPleat hs1 ..
    exact .overAll hs2 (fun _ _ hn => .releaseSet hn ..) ..

/-! ## Panel sense -/

theorem recapture (h : Canonical s) : Canonical (recapture s) := by
  unfold Machine.recapture
  extract_lets m
  have hm : Canonical m := .setFld h ..
  exact .beside hm

theorem psenseCtl (h : Canonical s) (v : Word) : Canonical (psenseCtl s v) := by
  unfold Machine.psenseCtl
  extract_lets _ _ _ s1 _ s2
  have hs1 : Canonical s1 := .setFld (.setFld h ..) ..
  have hs2 : Canonical s2 := .guarded (.recapture (.beside hs1)) hs1
  exact .guarded (.recapture hs2) hs2

theorem scanNodes (h : Canonical s) (now : Time) (i : Nat) (raws : List Int) :
    Canonical (scanNodes now s i raws).1 := by
  induction raws generalizing s i with
  | nil => exact h
  | cons a as ih =>
    unfold Machine.scanNodes
    extract_lets _ s1 s2 q
    have hs1 : Canonical s1 := .beside h
    have hs2 : Canonical s2 := .guarded (.raise hs1 ..) hs1
    have hq : Canonical q.1 := ih hs2 ..
    exact hq

theorem driftNodes (h : Canonical s) (ends : Bool) (is : List Nat) : Canonical (driftNodes s ends is) := by
  induction is generalizing s with
  | nil => exact h
  | cons a as ih =>
    unfold Machine.driftNodes
    exact ih (.beside h) ..

theorem captureNodes (h : Canonical s) (last : Bool) (i : Nat) (raws : List Int) :
    Canonical (captureNodes last s i raws) := by
  induction raws generalizing s i with
  | nil => exact h
  | cons a as ih =>
    unfold Machine.captureNodes
    exact ih (.beside h) ..

theorem psenseScan (h : Canonical s) (raws : List Int) : Canonical (psenseScan raws s) := by
  unfold Machine.psenseScan
  refine .whenUp h (fun _ hm => .guarded hm ?_) ..
  extract_lets _ r s1 _ s2 _ s3 _ s4
  have hr : Canonical r.1 := .scanNodes hm ..
  have hs1 : Canonical s1 := .guarded hr (.raise hr ..)
  have hs2 : Canonical s2 := .driftNodes hs1 ..
  have hs3 : Canonical s3 := .captureNodes hm ..
  have hs4 : Canonical s4 := .guarded (.beside hs2) (.beside hs3)
  exact .beside hs4

theorem putFrame (h : Canonical s) (w : Nat) (qs : List Quadlane) : Canonical (putFrame s w qs) := by
  induction qs generalizing s w with
  | nil => exact h
  | cons a as ih =>
    unfold Machine.putFrame
    exact ih (.ingestWord (.touchBank h ..) ..) ..

theorem psenseFrame (h : Canonical s) : Canonical (psenseFrame s) := by
  unfold Machine.psenseFrame
  refine .whenUp h (fun _ hm => .guarded hm ?_) ..
  extract_lets _ _ _ _ _ _ s1 s2 s3 s4 s5
  have hs1 : Canonical s1 := .putFrame hm ..
  have hs2 : Canonical s2 := .setFld hs1 ..
  have hs3 : Canonical s3 := .setFld hs2 ..
  have hs4 : Canonical s4 := .setFld hs3 ..
  have hs5 : Canonical s5 := .setFld (.setFld hs4 ..) ..
  exact .guarded (.overAll hm (fun _ _ hn => .guarded hn (.wakeBank hn ..)) ..) (.beside hs5)

/-! ## Event records at die 0 -/

/-! ### Host memory and vectors (R172) -/

theorem hostWrite (h : Canonical s) (a : Nat) (bs : List Byte) : Canonical (s.hostWrite a bs) := .beside h

theorem sendVector (h : Canonical s) (v : Nat) : Canonical (sendVector s v) := by
  unfold Machine.sendVector
  extract_lets m
  have hm : Canonical m := .hostWrite h ..
  exact .beside hm

theorem signalVector (h : Canonical s) (v : Nat) : Canonical (signalVector s v) :=
  .guarded (.beside h) (.sendVector h ..)

theorem unmaskVector (h : Canonical s) (v : Nat) : Canonical (unmaskVector s v) := by
  unfold Machine.unmaskVector
  extract_lets _ s1
  have hs1 : Canonical s1 := .beside h
  exact .guarded (.sendVector hs1 ..) hs1

/-! ### Rings (R81, R84, R85, R95, R96) -/

theorem setOvf (h : Canonical s) (t : Fin 256) (b : Bool) : Canonical (setOvf s t b) := .beside h

theorem ringLose (h : Canonical s) (t : Fin 256) : Canonical (ringLose s t) := .setOvf (.addFld h ..) ..

theorem ringWrite (h : Canonical s) (t : Fin 256) (r : Rec) : Canonical (ringWrite s t r) := by
  unfold Machine.ringWrite
  extract_lets _ _ _ _ _ _ _ _ _ s1
  have hs1 : Canonical s1 := .guarded (.dramStore h ..) (.hostWrite h ..)
  exact .guarded (.ringLose h ..) (.setFld (.setOvf hs1 ..) ..)

theorem deliver (h : Canonical s) (r : Rec) : Canonical (deliver s r) :=
  .overAll h (fun _ _ hm => .ringWrite hm ..) ..

/-! ### Trace (R867 to R870, R884) -/

theorem traceRing (h : Canonical s) (r : Rec) : Canonical (traceRing s r) := by
  unfold Machine.traceRing
  extract_lets _ _ _ s1 m
  have hs1 : Canonical s1 := .dramStore h ..
  have hm : Canonical m := .setFld hs1 ..
  exact .guarded (.traceLost (.setFld h ..) ..) (.guarded (.traceLost h ..) (.beside hm))

theorem traceFill (h : Canonical s) : Canonical (traceFill s) := .setFld h ..

theorem traceRec (h : Canonical s) (r : Rec) : Canonical (traceRec s r) := by
  unfold Machine.traceRec
  extract_lets _ s1
  have hs1 : Canonical s1 := .guarded (.traceRing h ..) h
  exact .guarded h (.guarded (.traceLost h ..) (.guarded (.traceFill (.beside hs1)) hs1))

theorem tracePortSend (h : Canonical s) : Canonical (tracePortSend s) := by
  unfold Machine.tracePortSend
  extract_lets
  exact .guarded (.traceFill (.beside h)) h

theorem traceTickStart (h : Canonical s) : Canonical (traceTickStart s) := by
  unfold Machine.traceTickStart
  extract_lets
  exact .guarded h (.raise (.beside h) ..)

/-! ### Records reach die 0 (R81, R83, R936, R939) -/

theorem latchAlarm (h : Canonical s) (k : Nat) : Canonical (latchAlarm s k) := by
  unfold Machine.latchAlarm
  extract_lets
  exact .guarded h (.signalVector (.setFld h ..) ..)

theorem holdRecord (h : Canonical s) (r : Rec) : Canonical (holdRecord s r) := by
  unfold Machine.holdRecord
  extract_lets
  exact .guarded (.deliver (.addFld h ..) ..) (.beside h)

theorem arriveRecord (h : Canonical s) (r : Rec) : Canonical (arriveRecord s r) := by
  unfold Machine.arriveRecord
  extract_lets s1 s2 s3
  have hs1 : Canonical s1 := .guarded (.latchAlarm h ..) h
  have hs2 : Canonical s2 := .guarded (.logRecord hs1 ..) hs1
  have hs3 : Canonical s3 := .guarded (.traceRec hs2 ..) hs2
  exact .guarded (.traceRec h ..) (.guarded hs3 (.holdRecord hs3 ..))

theorem eventRecord (h : Canonical s) (d : Fin 4) : Canonical (eventRecord d s) := by
  unfold Machine.eventRecord
  refine .guarded h ?_
  split
  · exact .arriveRecord (.upd h fun _ => by rfl) ..
  · exact h

theorem mergeRelease (h : Canonical s) : Canonical (mergeRelease s) := by
  unfold Machine.mergeRelease
  split
  · exact .guarded (.deliver (.beside h) ..) h
  · exact h

theorem ringCtlWrite (h : Canonical s) (i : Fin 256) (v : Word) : Canonical (ringCtlWrite s i v) := by
  unfold Machine.ringCtlWrite
  extract_lets
  exact .setFld (.setFld (.setFld h ..) ..) ..

theorem alarmWrite (h : Canonical s) (i : Nat) (v : Word) : Canonical (alarmWrite s i v) := by
  unfold Machine.alarmWrite
  extract_lets
  exact .setFld h ..

theorem aolEmpty (h : Canonical s) : Canonical (aolEmpty s) := ⟨h.dies, Nat.zero_le _, h.log⟩

/-! ## The mover channels of a die -/

theorem setMove (h : Canonical s) (d : Fin 4) (m : Nat) (j : Option MoveJob) : Canonical (s.setMove d m j) :=
    .upd h fun _ => by rfl

theorem moveEnd (h : Canonical s) (d : Fin 4) (m : Nat) (j : MoveJob) (result done : Nat) :
    Canonical (moveEnd s d m j result done) := by
  unfold Machine.moveEnd
  extract_lets s1 s2 s3 _ s4
  have hs1 : Canonical s1 := .setMove h ..
  have hs2 : Canonical s2 := .setFld (.setFld hs1 ..) ..
  have hs3 : Canonical s3 := .setFld hs2 ..
  have hs4 : Canonical s4 := .setHost hs3 ..
  split
  · exact .complete hs4 ..
  · exact hs3

theorem showMove (h : Canonical s) (d : Fin 4) (m : Nat) (j : MoveJob) : Canonical (showMove s d m j) := by
  unfold Machine.showMove
  extract_lets s1 s2 s3
  have hs1 : Canonical s1 := .setFld (.setFld h ..) ..
  have hs2 : Canonical s2 := .setFld (.setFld hs1 ..) ..
  have hs3 : Canonical s3 := .setFld (.setFld hs2 ..) ..
  exact .setFld (.setFld hs3 ..) ..

theorem moveStart (h : Canonical s) (d : Fin 4) (m : Nat) (j : MoveJob) : Canonical (moveStart s d m j) := by
  unfold Machine.moveStart
  extract_lets s1 s2
  have hs1 : Canonical s1 := .guarded (.showMove h ..) h
  have hs2 : Canonical s2 := .setFld (.setFld hs1 ..) ..
  exact .guarded (.moveEnd hs1 ..) (.guarded (.moveEnd (.accFault hs1 ..) ..) (.guarded
    (.moveEnd (.accFault hs1 ..) ..) (.setMove (.setFld hs2 ..) ..)))

theorem movesGo (h : Canonical s) (n : Nat) (d : Fin 4) : Canonical (movesGo n s d) := by
  induction n generalizing s d with
  | zero => exact h
  | succ n ih =>
    unfold Machine.movesGo
    split
    · exact h
    · extract_lets
      exact .guarded h (ih (.moveStart (.upd h fun _ => by rfl) ..) ..)

theorem moveAdd (h : Canonical s) (d : Fin 4) (j : MoveJob) : Canonical (moveAdd s d j) := by
  unfold Machine.moveAdd
  extract_lets s1
  have hs1 : Canonical s1 := .upd h fun _ => by rfl
  exact .movesGo hs1 ..

theorem movCtlWrite (h : Canonical s) (d : Fin 4) (m : Nat) (v : Word) : Canonical (movCtlWrite s d m v) := by
  unfold Machine.movCtlWrite
  extract_lets s1 s2
  have hs1 : Canonical s1 := .setFld (.setFld h ..) ..
  have hs2 : Canonical s2 := .setFld hs1 ..
  exact .guarded h (.guarded (.moveStart hs2 ..) hs2)

theorem readDramWords (h : Canonical s) (n : Nat) (d : Fin 4) (off i : Nat) :
    Canonical (readDramWords n s d off i).1 := by
  induction n generalizing s d off i with
  | zero => exact h
  | succ n ih =>
    unfold Machine.readDramWords
    extract_lets r rest
    have hr : Canonical r.1 := .dramFetch h ..
    have hrest : Canonical rest.1 := ih hr ..
    split
    · exact hrest
    · exact hr

theorem moveOut (h : Canonical s) (d : Fin 4) (m : Nat) (j : MoveJob) (mem : Mem) (w : Nat) :
    Canonical (moveOut s d m j mem w) := by
  unfold Machine.moveOut
  extract_lets r _ s1
  have hr : Canonical r.1 := .readRun h ..
  have hs1 : Canonical s1 := .guarded (.hostWrite hr ..) (.dramWriteBytes hr ..)
  split
  · exact .moveEnd (.poisonFault hs1 ..) ..
  · exact .moveEnd hs1 ..

theorem moveIn (h : Canonical s) (d : Fin 4) (m : Nat) (j : MoveJob) (mem : Mem) (w : Nat) (data : List Byte) :
    Canonical (moveIn s d m j mem w data) := by
  unfold Machine.moveIn
  extract_lets r s1
  have hr : Canonical r.1 := .guardedFst h (.readDramWords h ..)
  have hs1 : Canonical s1 := .writeRun hr ..
  split
  · exact .moveEnd (.dramPoisonFault hs1 ..) ..
  · exact .moveEnd hs1 ..

theorem moverComplete (h : Canonical s) (d : Fin 4) (m : Nat) (data : List Byte) :
    Canonical (moverComplete d m data s) := by
  unfold Machine.moverComplete
  refine .whenUp h (fun _ hm => ?_) ..
  split
  · exact hm
  · split
    · exact hm
    · extract_lets _ ready
      have hready : Canonical ready.1 := .banksReady hm ..
      exact .guarded hm (.guarded hready (.guarded (.movesGo (.moveOut hm ..) ..) (.guarded hm
        (.movesGo (.moveIn hm ..) ..))))

/-! ## Placket -/

theorem onYoke (h : Canonical s) (d : Fin 4) (f : YokeSt → YokeSt) : Canonical (s.onYoke d f) := .upd h fun _ => by rfl

/-! ### Access (R855, R875) -/

theorem setDbgStatus (h : Canonical s) (d : Fin 4) (v : Nat) : Canonical (setDbgStatus s d v) := .setFld h ..

theorem whenDebug (h : Canonical s) {g : Chip → Chip} (hg : ∀ m, Canonical m → Canonical (g m)) (d : Fin 4)
    (t : Fin 256) (f : Fld) : Canonical (whenDebug s d t f g) :=
  .whenSuper h (fun m hm => .guarded (.setDbgStatus hm ..) (hg m hm)) ..

/-! ### The Yoke (R861 to R863, R882) -/

theorem haltYoke (h : Canonical s) (d : Fin 4) (cause bp : Nat) : Canonical (haltYoke s d cause bp) := by
  unfold Machine.haltYoke
  extract_lets s1
  have hs1 : Canonical s1 := .upd (.onYoke h ..) fun _ => by rfl
  exact .raise hs1 ..

theorem yokeHalt (h : Canonical s) (d : Fin 4) : Canonical (yokeHalt s d) := by
  unfold Machine.yokeHalt
  extract_lets
  exact .guarded h (.guarded (.haltYoke h ..) (.upd h fun _ => by rfl))

theorem yokeResume (h : Canonical s) (d : Fin 4) : Canonical (yokeResume s d) := .onYoke h ..

theorem yokeStep (h : Canonical s) (d : Fin 4) : Canonical (yokeStep s d) :=
  .guarded (.onYoke h ..) (.setDbgStatus h ..)

theorem yregWrite (h : Canonical s) (d : Fin 4) (i : Nat) (v : Word) : Canonical (yregWrite s d i v) :=
  .guarded (.setDbgStatus h ..) (.guarded h (.onYoke h ..))

theorem yregRead (h : Canonical s) (d : Fin 4) (i : Nat) : Canonical (yregRead s d i).1 := by
  unfold Machine.yregRead
  extract_lets
  exact .guardedFst h (.pair (.setDbgStatus h ..))

/-! ### Clusters (R861 to R863) -/

theorem haltOne (h : Canonical s) (d : Fin 4) (c : Fin 192) : Canonical (haltOne s d c) :=
  .guarded (.haltCluster h ..) h

theorem resumeOne (h : Canonical s) (d : Fin 4) (c : Fin 192) : Canonical (resumeOne s d c) := by
  unfold Machine.resumeOne
  extract_lets
  exact .guarded h (.guarded (.setCluster h ..) (.setCluster h ..))

theorem stepOne (h : Canonical s) (d : Fin 4) (c : Fin 192) : Canonical (stepOne s d c) :=
  .guarded (.stepCluster h ..) (.setDbgStatus h ..)

theorem onSet (h : Canonical s) {g : Chip → Fin 4 → Fin 192 → Chip}
    (hg : ∀ m d c, Canonical m → Canonical (g m d c)) (d : Fin 4) (v : Word) : Canonical (onSet s d v g) :=
  .overAll (.setFld (.setFld h ..) ..) (fun m c hm => hg m d c hm) ..

/-! ### Cluster state through CLSEL (R862, R885) -/

theorem clSelect (h : Canonical s) (d : Fin 4) (v : Word) : Canonical (clSelect s d v) := .setReg h ..

theorem clselGo (h : Canonical s) (d : Fin 4) (wr : Bool) (v : Word) : Canonical (clselGo s d wr v) := by
  unfold Machine.clselGo
  extract_lets s1
  have hs1 : Canonical s1 := .clSelect h ..
  refine .guarded hs1 (.guarded (.setDbgStatus hs1 ..) (.guarded (.guarded (.putBundle hs1 ..) (.setCluster hs1 ..))
    ?_))
  split
  · exact .overAll hs1 (fun _ _ hm => .setFld hm ..) ..
  · exact hs1

theorem clselWrite (h : Canonical s) (d : Fin 4) (v : Word) : Canonical (clselWrite s d v) := by
  unfold Machine.clselWrite
  extract_lets
  exact .guarded (.clselGo h ..) (.clSelect h ..)

/-! ### HALT_CTL and CLH_SET as registers -/

theorem haltCtlWrite (h : Canonical s) (d : Fin 4) (v : Word) : Canonical (haltCtlWrite s d v) := by
  unfold Machine.haltCtlWrite
  extract_lets s1 s2 s3 s4
  have hs1 : Canonical s1 := .setFld (.setFld h ..) ..
  have hs2 : Canonical s2 := .guarded (.setFld hs1 ..) hs1
  have hs3 : Canonical s3 := .guarded (.yokeHalt hs2 ..) hs2
  have hs4 : Canonical s4 := .guarded (.yokeResume hs3 ..) hs3
  exact .guarded (.yokeStep hs4 ..) hs4

theorem clhWrite (h : Canonical s) (d : Fin 4) (v : Word) : Canonical (clhWrite s d v) := by
  have hhalt (m : Chip) (e : Fin 4) (c : Fin 192) (hm : Canonical m) :
      Canonical (if bit v.toNat 16 then Machine.haltOne m e c else m) := .guarded (.haltOne hm ..) hm
  have h1 : Canonical (Machine.onSet s d v fun s d c =>
      let s := if bit v.toNat 16 then Machine.haltOne s d c else s
      if bit v.toNat 17 then Machine.resumeOne s d c else s) :=
    .onSet h (fun m e c hm => .guarded (.resumeOne (hhalt m e c hm) ..) (hhalt m e c hm)) ..
  exact .guarded (.onSet h1 (fun _ _ _ hm => .stepOne hm ..) ..) h1

/-! ### Authentication (R856, R857, R879, R883) -/

theorem authNewchal (h : Canonical s) : Canonical (authNewchal s) := by
  unfold Machine.authNewchal
  extract_lets s'
  have hs' : Canonical s' := .overAll h (fun _ _ hm => .setFld hm ..) ..
  exact .setFld (.beside hs') ..

theorem authGo (h : Canonical s) : Canonical (authGo s) := by
  unfold Machine.authGo
  extract_lets m
  have hm : Canonical m := .setFld (.setFld h ..) ..
  exact .guarded h (.beside hm)

theorem authDone (h : Canonical s) : Canonical (authDone s) := by
  unfold Machine.authDone
  split
  · exact h
  · extract_lets s1 s2 _ s3
    have hs1 : Canonical s1 := .setFld (.setFld (.beside h) ..) ..
    have hs2 : Canonical s2 := .guarded hs1 (.addFld hs1 ..)
    have hs3 : Canonical s3 := .guarded (.setFld hs2 ..) hs2
    exact .guarded (.raise (.setFld hs1 ..) ..) (.raise hs3 ..)

/-! ### Trace settings (R868, R869, R876) -/

theorem traceDest (h : Canonical s) : Canonical (traceDest s) := by
  unfold Machine.traceDest
  extract_lets
  exact .guarded h (.traceFill (.beside h))

theorem traceCtlWrite (h : Canonical s) (t : Fin 256) (v : Word) : Canonical (traceCtlWrite s t v) := by
  unfold Machine.traceCtlWrite
  extract_lets _ _ _ s1 s2
  have hs1 : Canonical s1 := .setFld (.setFld h ..) ..
  have hs2 : Canonical s2 := .guarded (.refusedWrite hs1 ..) (.traceDest (.setFld hs1 ..))
  exact .guarded (.refusedWrite hs2 ..) (.setFld hs2 ..)

theorem traceBaseWrite (h : Canonical s) (t : Fin 256) (v : Word) : Canonical (traceBaseWrite s t v) :=
  .guarded (.setFld h ..) (.refusedWrite h ..)

/-! ### The end of every halt (R852) -/

theorem endHalts (h : Canonical s) (d : Fin 4) : Canonical (endHalts s d) := .upd h fun _ => by rfl

/-! ## The Yoke -/

/-! ### Registers and result codes (R114, R124) -/

theorem setL (h : Canonical s) (d : Fin 4) (D : Nat) (v : Word) : Canonical (s.setL d D v) := .onYoke h ..

theorem code (h : Canonical s) (d : Fin 4) (c : Nat) : Canonical (s.code d c) := .setL h ..

/-! ### Issue (R115, R116, R118, R861, R862) -/

theorem yStepped (h : Canonical s) (d : Fin 4) : Canonical (yStepped s d) := by
  unfold Machine.yStepped
  extract_lets
  exact .guarded (.haltYoke h ..) (.upd (.onYoke h ..) fun _ => by rfl)

theorem yGo (h : Canonical s) {g : Chip → Chip × Bool} (hg : ∀ m, Canonical m → Canonical (g m).1) (d : Fin 4) :
    Canonical (yGo s d g) := by
  unfold Machine.yGo
  extract_lets y r s1
  have hr : Canonical r.1 := hg _ (.onYoke h ..)
  have h1 : Canonical s1 := .guarded hr (.onYoke hr ..)
  exact .guarded (.yStepped h1 ..) h1

theorem yIssue (h : Canonical s) {g : Chip → Chip × Bool} (hg : ∀ m, Canonical m → Canonical (g m).1) (d : Fin 4) :
    Canonical (yIssue d g s) := by
  have hgo : Canonical (Machine.yGo s d g) := .yGo h hg d
  unfold Machine.yIssue
  refine .guarded h (.guarded hgo ?_)
  split
  · exact .haltYoke h ..
  · split
    · exact .guarded (.crossTrigger (.haltYoke h ..)) (.haltYoke h ..)
    · exact hgo

theorem yPlain (h : Canonical s) {g : Chip → Chip} (hg : ∀ m, Canonical m → Canonical (g m)) (d : Fin 4) :
    Canonical (yPlain d g s) := .yIssue h hg d

/-! ### Control (R121, R123) -/

theorem yJump (h : Canonical s) (d : Fin 4) (T : Nat) : Canonical (yJump s d T) := .onYoke h ..

theorem yEnds (h : Canonical s) (d : Fin 4) : Canonical (yEnds s d) := .onYoke h ..

theorem yBranch (h : Canonical s) (d : Fin 4) (c : Bool) (T : Nat) : Canonical (yBranch s d c T) :=
  .guarded (.yJump h ..) h

/-! ### Time (R123, R175) -/

theorem yWait (h : Canonical s) (d : Fin 4) (off : Nat) : Canonical (yWait s d off) := .guarded h (.onYoke h ..)

theorem waittResume (h : Canonical s) (d : Fin 4) : Canonical (waittResume d s) := by
  unfold Machine.waittResume
  refine .whenUp h (fun _ hm => ?_) ..
  split
  · exact .guarded (.onYoke hm ..) hm
  · exact hm

theorem yRdt (h : Canonical s) (d : Fin 4) (D F : Nat) : Canonical (yRdt s d D F) := by
  unfold Machine.yRdt
  extract_lets
  exact .setL (.guarded (.took h) h) ..

/-! ### Acquisition (R129 to R132, R185) -/

theorem armFor (h : Canonical s) (d : Fin 4) (lane : Nat) (t : Fin 256) (laser : Bool) :
    Canonical (armFor s d lane t laser).1 := by
  unfold Machine.armFor
  extract_lets r
  have hr : Canonical r.1 := .armCapture h ..
  exact .pair (.guarded (.absentFault hr ..) hr)

theorem fireFor (h : Canonical s) (d : Fin 4) (D edge width : Nat) (t : Fin 256) :
    Canonical (fireFor s d D edge width t).1 := by
  unfold Machine.fireFor
  exact .guardedFst (.pair (.absentFault h ..)) (.guardedFst (.pair (.absentFault h ..)) (.guardedFst h
    (.firePulse h ..)))

theorem yAcqst (h : Canonical s) (d : Fin 4) (D A : Nat) : Canonical (yAcqst s d D A) := by
  unfold Machine.yAcqst
  split
  · exact .code (.setL (.absentFault h ..) ..) ..
  · exact .code (.setL h ..) ..

/-! ### Dispatch (R133 to R136, R178, R179, R181, R186) -/

theorem setWork (h : Canonical s) (d : Fin 4) (t : Fin 256) (q : List WorkItem) : Canonical (s.setWork d t q) :=
  .upd h fun _ => by rfl

theorem deferEvent (h : Canonical s) (d : Fin 4) (t : Fin 256) (cid reason : Nat) :
    Canonical (deferEvent s d t cid reason) :=
  .raise h ..

theorem startItem (h : Canonical s) (d : Fin 4) (it : WorkItem) : Canonical (startItem s d it) := by
  unfold Machine.startItem
  extract_lets _ _ s1
  have hs1 : Canonical s1 := .upd h fun _ => by rfl
  exact .overAll hs1 (fun _ _ hm => .startCluster hm ..) ..

theorem dispItem (h : Canonical s) (d : Fin 4) (it : WorkItem) (set cid : Nat) :
    Canonical (dispItem s d it set cid).1 := by
  unfold Machine.dispItem
  split
  · exact h
  · extract_lets r
    have hr : Canonical r.1 := .dispReserve h ..
    refine .guardedFst h ?_
    split
    · exact .pair (.deferEvent hr ..)
    · exact .pair (.startItem hr ..)

theorem dispFor (h : Canonical s) (d : Fin 4) (t : Fin 256) (set : Nat) : Canonical (dispFor s d t set).1 := by
  unfold Machine.dispFor
  split
  · exact h
  · split
    · exact h
    · extract_lets r
      have hr : Canonical r.1 := .dispItem h ..
      exact .pair (.guarded (.setWork hr ..) hr)

theorem yDisp (h : Canonical s) (d : Fin 4) (D A B : Nat) : Canonical (yDisp s d D A B) := by
  unfold Machine.yDisp
  split
  · exact .code h ..
  · extract_lets r
    have hr : Canonical r.1 := .dispFor h ..
    exact .code (.guarded (.setL hr ..) hr) ..

/-! ### Verdicts and the ledger (R126, R137, R207 to R210, R230) -/

theorem yVerdict (h : Canonical s) (d : Fin 4) (A : Nat) (stitch : Bool) : Canonical (yVerdict s d A stitch) := by
  unfold Machine.yVerdict
  split
  · exact .code h ..
  · extract_lets r
    have hr : Canonical r.1 := .verdict h ..
    exact .code hr ..

theorem drawFor (h : Canonical s) (d : Fin 4) (t : Fin 256) (x : Nat) : Canonical (drawFor s d t x).1 := by
  unfold Machine.drawFor
  extract_lets r
  have hr : Canonical r.1 := .drawReserve h ..
  refine .guardedFst h (.guardedFst h ?_)
  split
  · exact .pair (.deferEvent hr ..)
  · exact hr

theorem yDraw (h : Canonical s) (d : Fin 4) (A B : Nat) : Canonical (yDraw s d A B) := by
  unfold Machine.yDraw
  split
  · exact .code h ..
  · extract_lets r
    have hr : Canonical r.1 := .drawFor h ..
    exact .code hr ..

theorem yLedger (h : Canonical s) (d : Fin 4) (D A F : Nat) : Canonical (yLedger s d D A F) := .setL h ..

/-! ### The scratchpad (R127, R128, R361, R778) -/

theorem yLaneFault (h : Canonical s) (d : Fin 4) (lane : Nat) : Canonical (yLaneFault s d lane) := .accFault h ..

theorem yLdl (h : Canonical s) (d : Fin 4) (D lane : Nat) : Canonical (yLdl s d D lane).1 := by
  unfold Machine.yLdl
  extract_lets r
  have hr : Canonical r.1 := .readMem h ..
  refine .guardedFst h (.guardedFst (.pair (.code (.setL (.yLaneFault h ..) ..) ..)) ?_)
  split
  · exact .pair (.code (.setL hr ..) ..)
  · exact .pair (.code (.setL (.poisonFault hr ..) ..) ..)
  · exact hr

theorem yStl (h : Canonical s) (d : Fin 4) (D lane : Nat) : Canonical (yStl s d D lane).1 := by
  unfold Machine.yStl
  extract_lets r
  have hr : Canonical r.1 := .writeMem h ..
  exact .guardedFst h (.guardedFst (.pair (.code (.yLaneFault h ..) ..)) (.guardedFst (.pair (.code hr ..)) hr))

/-! ### Messages and service calls (R138, R139) -/

theorem ySend (h : Canonical s) (d e : Fin 4) (v : Word) : Canonical (ySend s d e v) := by
  unfold Machine.ySend
  extract_lets
  exact .guarded (.code h ..) (.guarded (.code h ..) (.guarded (.code (.onYoke h ..) ..) (.code (.onYoke h ..) ..)))

theorem mailArrive (h : Canonical s) (d : Fin 4) : Canonical (mailArrive d s) :=
  .whenUp h (fun _ hm => .onYoke hm ..) ..

theorem yRecv (h : Canonical s) (d : Fin 4) (D : Nat) : Canonical (yRecv s d D) := by
  unfold Machine.yRecv
  split
  · exact .code (.setL (.onYoke h ..) ..) ..
  · exact .code h ..

theorem yIlkclr (h : Canonical s) (d : Fin 4) : Canonical (yIlkclr s d) :=
  .guarded (.code (.ilkClear h) ..) (.code (.absentFault h ..) ..)

/-! ### RELOAD (R140, R781) -/

theorem yReload (h : Canonical s) (d : Fin 4) (a b : Nat) : Canonical (yReload s d a b) := by
  unfold Machine.yReload
  extract_lets _ _ _ q
  have hq : Canonical q.1 := .judgeReload h ..
  exact .guarded (.code h ..) (.guarded (.code (.absentFault h ..) ..) (.guarded (.code hq ..) (.onYoke h ..)))

theorem reloadAtSlack (h : Canonical s) (d : Fin 4) : Canonical (reloadAtSlack s d) := by
  unfold Machine.reloadAtSlack
  split
  · extract_lets q
    have hq : Canonical q.1 := .judgeReload h ..
    exact .code (.onYoke hq ..) ..
  · exact h

theorem yIllegal (h : Canonical s) (d : Fin 4) : Canonical (yIllegal s d) := by
  unfold Machine.yIllegal
  extract_lets s1
  have hs1 : Canonical s1 := .yEnds h ..
  exact .raise hs1 ..

/-! ## A tenant's submission and completion queues, the descriptor check, and the NOP, RUN and MOVE commands -/

/-! ### Order and completion (R165, R167, R169) -/

theorem openCmd (h : Canonical s) (t : Fin 256) : Canonical (openCmd s t) := by
  unfold Machine.openCmd
  extract_lets
  exact .setHost h ..

theorem badCmds (h : Canonical s) (n : Nat) (t : Fin 256) : Canonical (badCmds n s t) := by
  induction n generalizing s t with
  | zero => exact h
  | succ n ih =>
    unfold Machine.badCmds
    split
    · split
      · exact ih (.complete (.openCmd h ..) ..) ..
      · exact h
    · exact h

theorem settleCmds (h : Canonical s) (t : Fin 256) : Canonical (settleCmds s t) := .badCmds h ..

theorem startCmd (h : Canonical s) {g : Chip → List Word → Chip} (hg : ∀ m c, Canonical m → Canonical (g m c))
    (t : Fin 256) (op unit : Nat) : Canonical (startCmd s t op unit g) := by
  unfold Machine.startCmd
  split
  · have h1 : Canonical (Machine.openCmd s t) := .openCmd h ..
    exact .guarded (.settleCmds (.guarded (.complete h1 ..) (.guarded (.complete h1 ..) (hg _ _ h1))) ..) h
  · exact h

/-! ### Queue registers and doorbells (R163, R164, R171, R182, R188) -/

theorem badDoorbell (h : Canonical s) (t : Fin 256) (v : Word) : Canonical (badDoorbell s t v) := .raise h ..

theorem sqTail (h : Canonical s) (t : Fin 256) (v : Word) : Canonical (sqTail s t v) := by
  unfold Machine.sqTail
  extract_lets
  exact .guarded h (.guarded (.badDoorbell h ..) (.setHost h ..))

theorem cqHead (h : Canonical s) (t : Fin 256) (v : Word) : Canonical (cqHead s t v) := by
  unfold Machine.cqHead
  extract_lets
  exact .guarded h (.setHost h ..)

theorem sqCtl (h : Canonical s) (t : Fin 256) (v : Word) : Canonical (sqCtl s t v) := by
  unfold Machine.sqCtl
  extract_lets
  exact .setHost h ..

theorem cqCtl (h : Canonical s) (t : Fin 256) (v : Word) : Canonical (cqCtl s t v) := by
  unfold Machine.cqCtl
  extract_lets
  exact .setHost h ..

/-! ### Fetching and completion entries (R165, R168, R170 to R172) -/

theorem commandFetch (h : Canonical s) (t : Fin 256) (desc : List Word) : Canonical (commandFetch t desc s) := by
  unfold Machine.commandFetch
  extract_lets
  exact .guarded (.settleCmds (.setHost h ..) ..) h

theorem completionWrite (h : Canonical s) (t : Fin 256) : Canonical (completionWrite t s) := by
  unfold Machine.completionWrite
  extract_lets
  split
  · exact h
  · extract_lets s1 s2
    have hs1 : Canonical s1 := .hostWrite h ..
    have hs2 : Canonical s2 := .setHost hs1 ..
    exact .guarded h (.settleCmds (.guarded (.signalVector hs2 ..) hs2) ..)

/-! ### NOP, RUN and MOVE -/

theorem cmdRun (h : Canonical s) (t : Fin 256) : Canonical (cmdRun s t) :=
  .guarded h (.startCmd h (fun _ _ hm => .setWork hm ..) ..)

theorem cmdMove (h : Canonical s) (t : Fin 256) : Canonical (cmdMove s t) :=
  .startCmd h (fun _ _ hm => .moveAdd (.setHost hm ..) ..) ..

/-! ## The recipe scheduler of the Yoke's ROM -/

/-! ### Recipe commands (R34, R150, R151, R167) -/

theorem recipeStart (h : Canonical s) (t : Fin 256) (block : List Word) : Canonical (recipeStart t block s) := by
  refine .startCmd h (fun m c hm => .guarded (.complete hm ..) ?_) ..
  split
  · exact .complete hm ..
  · exact .setInst hm ..

theorem recipeStop (h : Canonical s) (t : Fin 256) : Canonical (recipeStop t s) := by
  refine .startCmd h (fun m c hm => ?_) ..
  split
  · exact .complete (.endInst hm ..) ..
  · exact .complete hm ..

theorem recipeUpdate (h : Canonical s) (t : Fin 256) (block : List Word) : Canonical (recipeUpdate t block s) := by
  refine .startCmd h (fun m c hm => ?_) ..
  split
  · split
    · exact .complete hm ..
    · exact .complete (.setInst hm ..) ..
  · exact .complete hm ..

/-! ### Tick start (R149, R155, R484, R533, R534, R609) -/

theorem setDstTo (h : Canonical s) (d : Fin 4) (k a : Nat) : Canonical (setDstTo s d k a) := .setFld (.setFld h ..) ..

theorem setupSet (h : Canonical s) (d : Fin 4) (i : Nat) (r : RInst) : Canonical (setupSet s d i r).1 := by
  unfold Machine.setupSet
  extract_lets log s1 s2 s3 s4 s5 s6 pset s7
  have h1 : Canonical s1 := .restartSet (.enableSet h ..) ..
  have h4 : Canonical s4 := .setFld (.setFld (.setFld (.setFld (.setFld (.setFld h1 ..) ..) ..) ..) ..) ..
  have h5 : Canonical s5 := .setFld (.setFld h4 ..) ..
  have h7 : Canonical s7 := .setPset (.setDstTo (.setFld h5 ..) ..) ..
  split
  · exact .pair (.enableSet (.setFld h7 ..) ..)
  · exact .pair h7

theorem enableFlow (h : Canonical s) (d : Fin 4) (r : RInst) (f : Nat) : Canonical (enableFlow s d r f) := by
  unfold Machine.enableFlow
  extract_lets
  exact .flowCtlWrite h ..

theorem panelSetup (h : Canonical s) (r : RInst) : Canonical (panelSetup s r) := by
  unfold Machine.panelSetup
  extract_lets _ _ s1
  have hs1 : Canonical s1 := .setFld (.setFld h ..) ..
  exact .guarded (.psenseCtl (.setFld hs1 ..) ..) (.accFault h ..)

theorem instSetup (h : Canonical s) (d : Fin 4) (i : Nat) (r : RInst) (first : Bool) :
    Canonical (instSetup s d i r first) := by
  unfold Machine.instSetup
  split
  · exact .overAll h (fun _ _ hm => .enableFlow hm ..) ..
  · extract_lets s1
    have hs1 : Canonical s1 := .overAll h (fun _ _ hm => .enableFlow hm ..) ..
    split
    · exact .guarded (.setInst hs1 ..) hs1
    · exact hs1
  · exact .panelSetup h ..
  · exact h
  · extract_lets q
    have hq : Canonical q.1 := .setupSet h ..
    exact .guarded (.guarded (.setInst hq ..) (.raiseT hq ..)) h

theorem instStep (h : Canonical s) (d : Fin 4) (i : Nat) (r : RInst) : Canonical (instStep s d i r) := by
  unfold Machine.instStep
  split
  · extract_lets s1 s2
    have hs1 : Canonical s1 := .enableSet h ..
    have hs2 : Canonical s2 := .setDstTo hs1 ..
    exact .guarded (.setInst (.enableSet hs2 ..) ..) h
  · exact h

theorem instTick (h : Canonical s) (d : Fin 4) (i : Nat) : Canonical (instTick s d i) := by
  unfold Machine.instTick
  split
  · exact h
  · extract_lets _ _ _ _ _ s1
    have hs1 : Canonical s1 := .setInst h ..
    exact .guarded (.instSetup (.instStep hs1 ..) ..) (.instStep hs1 ..)

theorem recipesTick (h : Canonical s) (d : Fin 4) : Canonical (recipesTick s d) :=
  .guarded h (.overAll (.svcWdog h ..) (fun _ _ hm => .instTick hm ..) ..)

/-! ### Actions at tick offsets (R153 to R155, R484) -/

theorem putDesc (h : Canonical s) (d : Fin 4) (i : Nat) (ws : List Nat) : Canonical (putDesc s d i ws).1 := by
  induction ws generalizing s d i with
  | nil => exact h
  | cons a as ih =>
    unfold Machine.putDesc
    extract_lets r
    have hr : Canonical r.1 := .writeMem h ..
    exact .guardedFst (ih hr ..) hr

theorem instArm (h : Canonical s) (d : Fin 4) (r : RInst) : Canonical (instArm s d r).1 := by
  unfold Machine.instArm
  extract_lets q
  have hq : Canonical q.1 := .putDesc h ..
  exact .guardedFst h (.guardedFst (.pair (.armFor hq ..)) hq)

theorem meterArm (h : Canonical s) (d : Fin 4) (r : RInst) : Canonical (meterArm s d r) := by
  unfold Machine.meterArm
  extract_lets
  exact .guarded h (.setCap h ..)

theorem instDraw (h : Canonical s) (d : Fin 4) (i : Nat) (r : RInst) : Canonical (instDraw s d i r) := by
  unfold Machine.instDraw
  extract_lets q _ s1
  have hq : Canonical q.1 := .drawFor h ..
  have hs1 : Canonical s1 := by
    unfold s1
    split
    · exact .setInst hq ..
    · exact hq
  exact .guarded (.fireFor hs1 ..) hs1

theorem instDisp (h : Canonical s) (d : Fin 4) (i : Nat) (r : RInst) : Canonical (instDisp s d i r) :=
  .guarded h (.dispItem h ..)

theorem instVerdict (h : Canonical s) (d : Fin 4) (r : RInst) : Canonical (instVerdict s d r) := by
  unfold Machine.instVerdict
  extract_lets
  exact .verdict h ..

theorem instDid (h : Canonical s) (d : Fin 4) (i k : Nat) : Canonical (instDid s d i k) := by
  unfold Machine.instDid
  split
  · exact .setInst h ..
  · exact h

theorem instAct (h : Canonical s) (d : Fin 4) (i k : Nat) : Canonical (instAct s d i k) := by
  unfold Machine.instAct
  split
  · exact h
  · extract_lets q
    have hq : Canonical q.1 := .instArm h ..
    exact .guarded h (.guarded (.guarded (.instDid (.meterArm h ..) ..) (.guarded (.instDid hq ..) hq)) (.guarded
      (.instDid (.instDraw h ..) ..) (.guarded (.instDid (.instDisp h ..) ..) h)))

theorem recipesAct (h : Canonical s) (d : Fin 4) : Canonical (recipesAct s d) :=
  .guarded (.overAll h (fun _ _ hm => .overAll hm (fun _ _ hn => .instAct hn ..) ..) ..) h

theorem instAtA (h : Canonical s) (d : Fin 4) (i : Nat) : Canonical (instAtA s d i) := by
  unfold Machine.instAtA
  split
  · exact h
  · refine .guarded h (.instDid ?_ ..)
    split
    · exact .instVerdict h ..
    · exact .instVerdict h ..
    · exact .overAll h (fun _ _ hm => .guarded (.txreqWrite hm ..) hm) ..
    · exact .verdict h ..
    · exact h

theorem recipesAtA (h : Canonical s) (d : Fin 4) : Canonical (recipesAtA s d) :=
  .guarded h (.overAll h (fun _ _ hm => .instAtA hm ..) ..)

/-! ### The end of a tick (R151, R609, R610) -/

theorem flowReport (h : Canonical s) (d : Fin 4) (i : Nat) (r : RInst) : Canonical (flowReport s d i r) := by
  unfold Machine.flowReport
  extract_lets _ _ _ _ s1
  have hs1 : Canonical s1 := .setInst h ..
  exact .guarded (.guarded (.dramStore hs1 ..) hs1) (.accFault hs1 ..)

theorem instEnd (h : Canonical s) (d : Fin 4) (i : Nat) : Canonical (instEnd s d i) := by
  unfold Machine.instEnd
  split
  · exact h
  · extract_lets s1
    have hs1 : Canonical s1 := .guarded (.flowReport h ..) h
    exact .guarded (.endInst hs1 ..) hs1

theorem recipesEnd (h : Canonical s) (d : Fin 4) : Canonical (recipesEnd s d) :=
  .guarded h (.overAll h (fun _ _ hm => .instEnd hm ..) ..)

theorem recipeOutput (h : Canonical s) (d : Fin 4) (k : Nat) : Canonical (recipeOutput s d k) := by
  unfold Machine.recipeOutput
  split
  · exact .guarded (.guarded (.endInst h ..) (.setInst h ..)) h
  · exact h

theorem outputEnd (h : Canonical s) (d : Fin 4) (bad : Option Nat) : Canonical (outputEnd d bad s) := by
  unfold Machine.outputEnd
  extract_lets s'
  have hs' : Canonical s' := .pleatOutputEnd h ..
  split
  · exact .guarded hs' (.recipeOutput hs' ..)
  · exact hs'

/-! ## The tick -/

theorem onTick (h : Canonical s) (d : Fin 4) (f : TickSt → TickSt) : Canonical (s.onTick d f) := .upd h fun _ => by rfl

theorem onTb (h : Canonical s) (d : Fin 4) (f : TimeBase → TimeBase) : Canonical (s.onTb d f) := .upd h fun _ => by rfl

/-! ### Settings (R63, R64, R89, R90) -/

theorem applySetting (h : Canonical s) : Canonical (applySetting s) := by
  unfold Machine.applySetting
  extract_lets _ _ s1
  have hs1 : Canonical s1 := .setFld h ..
  exact .guarded (.beside hs1) hs1

/-! ### Marks (R66 to R69, R864) -/

theorem sendMark (h : Canonical s) (m : Mark) : Canonical (sendMark s m) :=
  .overAll (.onTick h ..) (fun _ _ hm => .guarded (.upd hm fun _ => by rfl) hm) ..

theorem capsFor (h : Canonical s) (n : BitVec 48) (skip : Bool) : Canonical (capsFor s n skip) :=
  .guarded (.sendCaps h) h

theorem masterMark (h : Canonical s) : Canonical (masterMark s) := by
  unfold Machine.masterMark
  extract_lets _ _ s1
  have hs1 : Canonical s1 := .guarded (.guarded (.capsFor h ..) (.guarded h (.capsFor h ..))) (.capsFor h ..)
  exact .guarded (.sendMark hs1 ..) h

theorem runWrite (h : Canonical s) (on : Bool) : Canonical (runWrite s on) := by
  unfold Machine.runWrite
  extract_lets s1
  have hs1 : Canonical s1 := .setFld h ..
  exact .guarded hs1 (.guarded (.guarded hs1 (.map hs1 fun _ => by rfl)) (.guarded (.masterMark hs1)
    (.sendMark (.beside hs1) ..)))

theorem tickCtlWrite (h : Canonical s) (v : Word) : Canonical (tickCtlWrite s v) := by
  unfold Machine.tickCtlWrite
  extract_lets s1
  have hs1 : Canonical s1 := .guarded (.applySetting h) h
  exact .guarded hs1 (.runWrite hs1 ..)

theorem absorbSkip (h : Canonical s) (d : Fin 4) : Canonical (absorbSkip s d) := .onTick h ..

theorem missTick (h : Canonical s) (d : Fin 4) : Canonical (missTick s d) := by
  unfold Machine.missTick
  extract_lets _ _ s1 _ s2 s3
  have hs1 : Canonical s1 := .upd h fun _ => by rfl
  have hs2 : Canonical s2 := .addFld (.addFld hs1 ..) ..
  have hs3 : Canonical s3 := .raise hs2 ..
  exact .guarded (.raise hs3 ..) hs3

theorem takeMark (h : Canonical s) (d : Fin 4) (m : Mark) : Canonical (takeMark s d m) := by
  unfold Machine.takeMark
  extract_lets
  exact .guarded (.guarded (.setFld (.onTick h ..) ..) (.missTick h ..)) (.guarded h (.onTick (.absorbSkip h ..) ..))

theorem tickMark (h : Canonical s) (d : Fin 4) (m : Mark) : Canonical (tickMark d m s) := by
  unfold Machine.tickMark
  extract_lets s1
  have hs1 : Canonical s1 := .overAll h (fun _ _ hm => .guarded (.upd hm fun _ => by rfl) hm) ..
  exact .guarded (.guarded (.takeMark hs1 ..) h) (.guarded (.takeMark (.upd h fun _ => by rfl) ..) h)

/-! ### Tick start (R67, R115, R118, R142, R861) -/

theorem yokeEntry (h : Canonical s) (d : Fin 4) : Canonical (yokeEntry s d) := by
  unfold Machine.yokeEntry
  extract_lets _ _ s1 _ s2 s3
  have hs1 : Canonical s1 := .guarded (.raise h ..) h
  have hs2 : Canonical s2 := .onYoke hs1 ..
  have hs3 : Canonical s3 := .setL (.setL hs2 ..) ..
  exact .guarded (.haltYoke hs3 ..) hs3

theorem deviceTickStart (h : Canonical s) : Canonical (deviceTickStart s) := by
  unfold Machine.deviceTickStart
  extract_lets _ s1 s2 _ s3 _ s4
  have hs1 : Canonical s1 := .dropPulses h
  have hs2 : Canonical s2 := .overAll hs1 (fun _ _ hm => .setFld hm ..) ..
  have hs3 : Canonical s3 := .setFld hs2 ..
  have hs4 : Canonical s4 := .beside hs3
  exact .traceTickStart (.reserveAtTick hs4)

theorem epochTickStart (h : Canonical s) (d : Fin 4) : Canonical (epochTickStart s d) := by
  unfold Machine.epochTickStart
  extract_lets
  exact .guarded (.epochDie (.guarded (.epochAdvance h ..) h) ..) h

theorem oldTickEnds (h : Canonical s) (d : Fin 4) : Canonical (oldTickEnds s d) := by
  unfold Machine.oldTickEnds
  extract_lets s1
  have hs1 : Canonical s1 := .guarded (.flowsTickEnd h ..) h
  exact .capturesAtStart (.stopHandlers (.basteSplit hs1 ..) ..) ..

theorem startTick (h : Canonical s) (d : Fin 4) (n : BitVec 48) (start : Time) (k : Setting) (waiting : Bool)
    (fec : List Nat) :
    Canonical (startTick s d n start k waiting fec) := by
  unfold Machine.startTick
  extract_lets s1 s2 s3 s4 s5
  have hs1 : Canonical s1 := .ledgerTickStart (.oldTickEnds h ..) ..
  have hs2 : Canonical s2 := .onTick hs1 ..
  have hs3 : Canonical s3 := .upd hs2 fun _ => by rfl
  have hs4 : Canonical s4 := .guarded (.deviceTickStart hs3) hs3
  have hs5 : Canonical s5 := .fecCounts (.linksTickStart (.flowsTickStart (.basteTickStart (.epochTickStart hs4 ..)
      ..) ..) ..) ..
  exact .reloadLate (.recipesTick (.yokeEntry hs5 ..) ..) ..

theorem tickStart (h : Canonical s) (d : Fin 4) (fec : List Nat) : Canonical (tickStart d fec s) := by
  unfold Machine.tickStart
  refine .whenUp h (fun _ hm => ?_) ..
  split
  · exact hm
  · exact .guarded hm (.guarded (.guarded hm (.absorbSkip hm ..)) (.guarded (.setFld (.startTick hm ..) ..) hm))

theorem tickPredictedStart (h : Canonical s) (d : Fin 4) : Canonical (tickPredictedStart d s) := by
  unfold Machine.tickPredictedStart
  refine .whenUp h (fun _ hm => ?_) ..
  extract_lets
  exact .guarded hm (.startTick hm ..)

theorem tickMarkTimeout (h : Canonical s) (d : Fin 4) : Canonical (tickMarkTimeout d s) :=
  .whenUp h (fun _ hm => .guarded (.missTick hm ..) hm) ..

theorem skippedTickMark (h : Canonical s) : Canonical (skippedTickMark s) := by
  unfold Machine.skippedTickMark
  refine .whenUp h (fun _ hm => ?_) ..
  extract_lets
  split
  · extract_lets s1
    have hs1 : Canonical s1 := .guarded hm (.raise hm ..)
    exact .guarded (.masterMark (.absorbSkip hs1 ..)) hm
  · exact hm

/-! ### Phases (R62, R70 to R76, R457) -/

theorem acquireEnd (h : Canonical s) (d : Fin 4) : Canonical (acquireEnd d s) := by
  unfold Machine.acquireEnd
  refine .whenUp h (fun _ hm => ?_) ..
  extract_lets _ s1
  have hs1 : Canonical s1 := .capturesAtA (.onTick hm ..) ..
  exact .guarded (.recipesAtA (.guarded (.disarmLaser hs1) hs1) ..) hm

theorem noteFault (h : Canonical s) (t : Fin 256) : Canonical (noteFault s t) :=
  .overAll (.setFld h ..) (fun _ _ hm => .endInstsOf hm ..) ..

theorem overrun (h : Canonical s) (d : Fin 4) (c : Nat) : Canonical (overrun s d c) := by
  unfold Machine.overrun
  extract_lets
  exact .noteFault (.raiseB (.endProgram h ..) ..) ..

theorem beginStitch (h : Canonical s) (d : Fin 4) (t : Time) : Canonical (beginStitch s d t) :=
  .basteStitchStart (.onTick h ..) ..

theorem decideExtension (h : Canonical s) : Canonical (decideExtension s) := by
  unfold Machine.decideExtension
  extract_lets _ s1
  have hs1 : Canonical s1 := .overAll h (fun _ _ hm => .onTick hm ..) ..
  exact .guarded h (.guarded (.raiseG2 hs1 ..) (.overAll h (fun _ _ hm => .beginStitch hm ..) ..))

theorem stitchStart (h : Canonical s) (d : Fin 4) : Canonical (stitchStart d s) := by
  unfold Machine.stitchStart
  refine .whenUp h (fun _ hm => ?_) ..
  extract_lets
  exact .guarded hm (.guarded (.decideExtension (.onTick hm ..)) (.beginStitch
    (.overAll hm (fun _ _ hn => .overrun hn ..) ..) ..))

theorem extendedStitchStart (h : Canonical s) : Canonical (extendedStitchStart s) := by
  unfold Machine.extendedStitchStart
  refine .whenUp h (fun _ hm => ?_) ..
  extract_lets
  exact .guarded hm (.overAll hm (fun _ _ hn => .beginStitch hn ..) ..)

theorem extensionDeadline (h : Canonical s) (d : Fin 4) : Canonical (extensionDeadline d s) := by
  unfold Machine.extensionDeadline
  refine .whenUp h (fun _ hm => ?_) ..
  extract_lets
  exact .guarded (.beginStitch (.overAll hm (fun _ _ hn => .overrun hn ..) ..) ..) hm

theorem slackStart (h : Canonical s) (d : Fin 4) : Canonical (slackStart d s) := by
  unfold Machine.slackStart
  refine .whenUp h (fun _ hm => ?_) ..
  split
  · extract_lets s1 s2 s3
    have hs1 : Canonical s1 := .onTick hm ..
    have hs2 : Canonical s2 := .recipesEnd (.handlersGo (.reconcile hs1 ..) ..) ..
    have hs3 : Canonical s3 := .passBegin (.reloadAtSlack (.judgeDarner hs2 ..) ..) ..
    exact .guarded hm (.guarded (.masterMark hs3) hs3)
  · exact hm

theorem tickEnds (h : Canonical s) (d : Fin 4) : Canonical (tickEnds s d) := by
  unfold Machine.tickEnds
  extract_lets
  exact .guarded (.onTick (.flowsTickEnd h ..) ..) h

/-! ### Time discipline (R55 to R61, R106, R107, R706, R707) -/

theorem exchangeDie (h : Canonical s) (d : Fin 4) (t0 : Time) : Canonical (exchangeDie s d t0) := by
  unfold Machine.exchangeDie
  extract_lets _ _ _ _ s1 s2
  have hs1 : Canonical s1 := .setFld (.setFld h ..) ..
  have hs2 : Canonical s2 := .onTb hs1 ..
  exact .guarded (.onTb h ..) (.guarded (.raise hs2 ..) hs2)

theorem dropMember (h : Canonical s) (p : Fin 8) (skew : Int) : Canonical (dropMember s p skew) := by
  unfold Machine.dropMember
  extract_lets
  exact .guarded (.raise (.setFld h ..) ..) h

theorem exchangeGroup (h : Canonical s) (p : Fin 8) (t0 : Time) : Canonical (exchangeGroup s p t0) := by
  unfold Machine.exchangeGroup
  extract_lets _ _ _ _ s1
  have hs1 : Canonical s1 := .setFld (.setFld h ..) ..
  exact .guarded (.onTb hs1 ..) (.guarded (.dropMember h ..) h)

theorem timeExchange (h : Canonical s) (d : Fin 4) (grp : Option (Fin 8)) (t0 : Time) :
    Canonical (timeExchange d grp t0 s) := by
  unfold Machine.timeExchange
  refine .whenUp h (fun _ hm => ?_) ..
  split
  · exact .guarded (.exchangeDie hm ..) hm
  · exact .guarded (.exchangeGroup hm ..) hm

theorem tbrefHoldover (h : Canonical s) : Canonical (tbrefHoldover s) :=
  .whenUp h (fun _ hm => .guarded (.raise (.setFld (.setFld hm ..) ..) ..) hm) ..

theorem tbrefLock (h : Canonical s) : Canonical (tbrefLock s) :=
  .whenUp h (fun _ hm => .guarded (.setFld (.setFld hm ..) ..) hm) ..

theorem timeCtlWrite (h : Canonical s) (t : Fin 256) (v : Word) : Canonical (timeCtlWrite s t v) := by
  unfold Machine.timeCtlWrite
  extract_lets _ s1
  have hs1 : Canonical s1 := .guarded h (.setFld (.setFld (.setFld h ..) ..) ..)
  exact .guarded hs1 (.guarded (.refusedWrite hs1 ..) (.onTb hs1 ..))

/-! ## A write that reaches a register -/

/-! ### Registers and their access codes (R27, R28) -/

theorem plainWrite (h : Canonical s) (d : Fin 4) (u off : Nat) (v : Word) : Canonical (plainWrite s d u off v) := by
  unfold Machine.plainWrite
  split
  · extract_lets
    exact .setReg h ..
  · exact h

theorem maskedWrite (h : Canonical s) (d : Fin 4) (u off : Nat) (v : Word) (m : Nat) :
    Canonical (maskedWrite s d u off v m) :=
  .plainWrite h ..

/-! ### What each unit does with a write -/

theorem writeSys (h : Canonical s) (d : Fin 4) (t : Fin 256) (off : Nat) (v : Word) :
    Canonical (writeSys s d t off v) :=
  .guarded (.guarded (.nogrant h ..) (.beside h)) (.guarded h (.plainWrite h ..))

theorem rtoWrite (h : Canonical s) (t : Fin 256) (v : Word) : Canonical (rtoWrite s t v) := by
  unfold Machine.rtoWrite
  extract_lets
  exact .guarded (.refusedWrite h ..) (.setFld h ..)

theorem rdWrite (h : Canonical s) (d : Fin 4) (n : Nat) (v : Word) : Canonical (rdWrite s d n v) := by
  unfold Machine.rdWrite
  extract_lets s1
  have hs1 : Canonical s1 := .plainWrite h ..
  exact .guarded hs1 (.setFld hs1 ..)

theorem writeYoke (h : Canonical s) (d : Fin 4) (t : Fin 256) (off : Nat) (v : Word) :
    Canonical (writeYoke s d t off v) := by
  unfold Machine.writeYoke
  refine .guarded (.guarded (.rtoWrite h ..) h) (.guarded (.maskedWrite h ..) ?_)
  split
  · exact .rdWrite h ..
  · exact .plainWrite h ..

theorem writeLedger (h : Canonical s) (d : Fin 4) (off : Nat) (v : Word) : Canonical (writeLedger s d off v) :=
  .guarded (.maskedWrite h ..) (.guarded (.plainWrite h ..) (.guarded (.guarded (.resvHi h ..) h) (.guarded
    (.guarded (.resvAdj h ..) h) (.guarded (.setFld (.setFld h ..) ..) (.plainWrite h ..)))))

theorem writeBaste (h : Canonical s) (d : Fin 4) (off : Nat) (v : Word) : Canonical (writeBaste s d off v) := by
  unfold Machine.writeBaste
  split
  · exact .setFld h ..
  · exact .plainWrite h ..

theorem pllDivWrite (h : Canonical s) (d : Fin 4) (off : Nat) (v : Word) : Canonical (pllDivWrite s d off v) :=
  .plainWrite h ..

theorem portWrite (h : Canonical s) (d : Fin 4) (off grain : Nat) (v : Word) :
    Canonical (portWrite s d off grain v) := by
  unfold Machine.portWrite
  split
  · exact .plainWrite h ..
  · exact .plainWrite h ..

theorem writeClk (h : Canonical s) (d : Fin 4) (t : Fin 256) (off : Nat) (v : Word) :
    Canonical (writeClk s d t off v) := by
  unfold Machine.writeClk
  refine .guarded (.fabricResetWrite h ..) (.guarded (.fabricResetWrite h ..) ?_)
  split
  · exact .pllSrcWrite h ..
  · exact .pllDivWrite h ..
  · exact .pllSrcWrite h ..
  · exact .pllDivWrite h ..
  · split
    · exact .gselWrite h ..
    · exact .regionCtl h ..
    · exact .portWrite h ..
    · exact .portWrite h ..
    · exact .plainWrite h ..

theorem writeSpad (h : Canonical s) (d : Fin 4) (off : Nat) (v : Word) : Canonical (writeSpad s d off v) := by
  unfold Machine.writeSpad
  refine .guarded (.spadInject h ..) ?_
  split
  · exact .bankWrite h ..
  · extract_lets
    exact .guarded (.guarded (.movCtlWrite h ..) (.guarded h (.plainWrite h ..))) (.plainWrite h ..)

theorem writeBmem (h : Canonical s) (d : Fin 4) (off : Nat) (v : Word) : Canonical (writeBmem s d off v) :=
  .guarded (.bmemInject h ..) (.plainWrite h ..)

theorem writeRentik (h : Canonical s) (d : Fin 4) (off : Nat) (v : Word) : Canonical (writeRentik s d off v) :=
  .guarded (.iloadCtl h ..) (.guarded (.iloadData h ..) (.plainWrite h ..))

theorem writeAcq (h : Canonical s) (d : Fin 4) (off : Nat) (v : Word) : Canonical (writeAcq s d off v) := by
  unfold Machine.writeAcq
  extract_lets
  exact .guarded (.acqCtl h ..) (.plainWrite h ..)

theorem writeIlk (h : Canonical s) (off : Nat) (v : Word) : Canonical (writeIlk s off v) :=
  .guarded (.guarded (.ilkClear h) h) (.guarded (.ilkTd h ..) (.plainWrite h ..))

theorem writePsense (h : Canonical s) (off : Nat) (v : Word) : Canonical (writePsense s off v) :=
  .guarded (.psenseCtl h ..) (.guarded (.setFld (.setFld h ..) ..) (.guarded (.setFld h ..) (.plainWrite h ..)))

theorem setCfgWrite (h : Canonical s) (d : Fin 4) (k off : Nat) (v : Word) :
    Canonical (setCfgWrite s d k off v) := by
  unfold Machine.setCfgWrite
  extract_lets
  exact .guarded h (.plainWrite h ..)

theorem writePleat (h : Canonical s) (d : Fin 4) (off : Nat) (v : Word) : Canonical (writePleat s d off v) := by
  unfold Machine.writePleat
  extract_lets
  exact .guarded (.guarded (.setCtlWrite h ..) (.setCfgWrite h ..)) (.guarded
    (.guarded (.jobCtlWrite h ..) (.guarded h (.plainWrite h ..))) (.plainWrite h ..))

theorem writeLaneBlock (h : Canonical s) (d : Fin 4) (t : Fin 256) (k o : Nat) (v : Word) :
    Canonical (writeLaneBlock s d t k o v) := by
  have hplain (m : Chip) (hm : Canonical m) : Canonical (Machine.plainWrite m d 12 (0x1000 + 0x100 * k + o) v) :=
    .plainWrite hm ..
  unfold Machine.writeLaneBlock
  refine .guarded (.leadWrite h (fun _ hm => .laneCtl hm ..) ..) (.guarded (.leadWrite h hplain ..) (.guarded
    (.leadWrite h (fun _ hm => .rateWrite hm ..) ..) (.guarded (.leadWrite h (fun _ hm => .modeWrite hm ..) ..)
      (.guarded (.guarded (.eyeWrite h ..) (hplain s h)) (.laneWrite h (fun m hm => ?_) ..)))))
  refine .guarded (.txfirWrite hm ..) (.guarded (.ctleWrite hm ..) (.guarded (.dfeCtl hm ..) (.guarded
    (.prbsWrite hm ..) ?_)))
  split
  · exact .dfeTap hm ..
  · exact hplain m hm

theorem writeLane (h : Canonical s) (d : Fin 4) (t : Fin 256) (off : Nat) (v : Word) :
    Canonical (writeLane s d t off v) :=
  .guarded (.writeLaneBlock h ..) (.plainWrite h ..)

theorem writeFlow (h : Canonical s) (d : Fin 4) (t : Fin 256) (off : Nat) (v : Word) :
    Canonical (writeFlow s d t off v) := by
  unfold Machine.writeFlow
  extract_lets
  exact .guarded (.guarded (.flowCtlWrite h ..) (.guarded (.aliveWrite h ..) (.guarded (.guarded h (.plainWrite h ..))
    (.guarded (.txreqWrite h ..) (.guarded (.rvWrite h ..) (.plainWrite h ..)))))) (.plainWrite h ..)

theorem writeChk (h : Canonical s) (d : Fin 4) (t : Fin 256) (off : Nat) (v : Word) :
    Canonical (writeChk s d t off v) := by
  unfold Machine.writeChk
  split
  · exact .chkCfgWrite h ..
  · exact .chkData h ..
  · exact .plainWrite h ..

theorem writeDram (h : Canonical s) (d : Fin 4) (t : Fin 256) (off : Nat) (v : Word) :
    Canonical (writeDram s d t off v) := by
  unfold Machine.writeDram
  extract_lets
  refine .guarded (.dramCtlWrite h ..) (.guarded (.guarded (.nogrant h ..) (.plainWrite h ..)) ?_)
  split
  · exact .plainWrite h ..
  · exact .plainWrite h ..

theorem writeSeam (h : Canonical s) (d : Fin 4) (t : Fin 256) (off : Nat) (v : Word) :
    Canonical (writeSeam s d t off v) := by
  unfold Machine.writeSeam
  split
  · extract_lets s1
    have hs1 : Canonical s1 := .guarded (.guarded (.linkRetrain h ..) (.nogrant h ..)) h
    exact .guarded h (.guarded (.linkInject hs1 ..) hs1)
  · extract_lets s1 _ s2
    have hs1 : Canonical s1 := .groupEnable h ..
    have hs2 : Canonical s2 := .guarded (.groupJoin hs1) hs1
    exact .guarded (.guarded h (.guarded (.nogrant hs1 ..) (.guarded (.groupLeave hs2) hs2))) (.plainWrite h ..)

theorem writeCfg (h : Canonical s) (d : Fin 4) (t : Fin 256) (off : Nat) (v : Word) :
    Canonical (writeCfg s d t off v) :=
  .guarded h (.guarded (.cfgLoad h ..) (.guarded (.cfgDataWrite h ..) (.guarded (.flashGo h ..) (.plainWrite h ..))))

theorem writeDarner (h : Canonical s) (d : Fin 4) (off : Nat) (v : Word) : Canonical (writeDarner s d off v) := by
  unfold Machine.writeDarner
  refine .guarded (.passIdle (.plainWrite h ..) ..) ?_
  split
  · exact .guarded h (.plainWrite h ..)
  · exact .plainWrite h ..

theorem writeHem (h : Canonical s) (d : Fin 4) (t : Fin 256) (off : Nat) (v : Word) :
    Canonical (writeHem s d t off v) :=
  .guarded (.guarded (.hemProgram h ..) h) (.guarded (.guarded h (.guarded (.lcRequest h ..) (.setFld h ..)))
    (.plainWrite h ..))

theorem writeLining' (h : Canonical s) (d : Fin 4) (off : Nat) (v : Word) : Canonical (writeLining' s d off v) :=
  .guarded (.guarded (.liningWipe h) h) (.plainWrite h ..)

theorem writeWdog (h : Canonical s) (d : Fin 4) (t : Fin 256) (off : Nat) (v : Word) :
    Canonical (writeWdog s d t off v) :=
  .guarded (.wdogEnable h ..) (.guarded (.setFld h ..) (.guarded (.guarded (.setFld h ..) h) (.plainWrite h ..)))

theorem dbgBegin (h : Canonical s) (d : Fin 4) (a : DbgAcc) : Canonical (dbgBegin s d a) :=
  .guarded (.setDbgStatus h ..) (.setFld (.upd h fun _ => by rfl) ..)

theorem dbgCmdWrite (h : Canonical s) (d : Fin 4) (v : Word) : Canonical (dbgCmdWrite s d v) := by
  unfold Machine.dbgCmdWrite
  extract_lets s1
  have hs1 : Canonical s1 := .setFld (.setFld h ..) ..
  exact .guarded (.dbgBegin hs1 ..) hs1

theorem writePlacket (h : Canonical s) (d : Fin 4) (t : Fin 256) (off : Nat) (v : Word) :
    Canonical (writePlacket s d t off v) := by
  unfold Machine.writePlacket
  extract_lets s1
  have hs1 : Canonical s1 := .guarded (.authNewchal h) h
  refine .guarded (.guarded (.guarded (.authGo hs1) hs1) (.plainWrite h ..)) (.guarded (.setDbgStatus h ..)
    (.guarded (.dbgCmdWrite h ..) (.guarded (.haltCtlWrite h ..) (.guarded (.clhWrite (.maskedWrite h ..) ..)
      (.guarded (.clselWrite h ..) (.guarded (.guarded (.traceCtlWrite h ..) h) (.guarded
        (.guarded (.traceBaseWrite h ..) h) ?_)))))))
  split
  · exact .yregWrite h ..
  · exact .plainWrite h ..

theorem writeHost (h : Canonical s) (off : Nat) (v : Word) : Canonical (writeHost s off v) := by
  unfold Machine.writeHost
  refine .guarded (.smbCtlWrite h ..) ?_
  split
  · exact .smbDataWrite h ..
  · exact .plainWrite h ..

theorem writeEvt (h : Canonical s) (d : Fin 4) (off : Nat) (v : Word) : Canonical (writeEvt s d off v) := by
  unfold Machine.writeEvt
  refine .guarded h (.guarded (.setFld h ..) (.guarded (.guarded (.aolEmpty h) h) ?_))
  split
  · exact .ringCtlWrite h ..
  · exact .alarmWrite h ..
  · exact .plainWrite h ..

theorem writeTime (h : Canonical s) (d : Fin 4) (t : Fin 256) (off : Nat) (v : Word) :
    Canonical (writeTime s d t off v) :=
  .guarded (.guarded (.timeCtlWrite h ..) h) (.guarded (.guarded (.tickCtlWrite h ..) h) (.plainWrite h ..))

theorem writeTamper (h : Canonical s) (d : Fin 4) (t : Fin 256) (off : Nat) (v : Word) :
    Canonical (writeTamper s d t off v) := by
  unfold Machine.writeTamper
  extract_lets s1
  have hs1 : Canonical s1 := .guarded (.bbkeyCommit h ..) h
  refine .guarded (.tamperEn h ..) (.guarded (.guarded h (.guarded (.bbkeyErase hs1 ..) hs1)) (.guarded
    (.guarded (.tamperLogClear h ..) h) ?_))
  split
  · exact .guarded (.bbkeyWord h ..) h
  · exact .plainWrite h ..

theorem unitWrite (h : Canonical s) (d : Fin 4) (t : Fin 256) (u off : Nat) (v : Word) :
    Canonical (unitWrite s d t u off v) := by
  unfold Machine.unitWrite
  split
  · exact .writeSys h ..
  · exact .writeYoke h ..
  · exact .writeLedger h ..
  · exact .writeBaste h ..
  · exact .writeClk h ..
  · exact .writeSpad h ..
  · exact .writeBmem h ..
  · exact .writeRentik h ..
  · exact .writeAcq h ..
  · exact .writeIlk h ..
  · exact .writePsense h ..
  · exact .writePleat h ..
  · exact .writeLane h ..
  · exact .writeFlow h ..
  · exact .writeChk h ..
  · exact .writeDram h ..
  · exact .writeSeam h ..
  · exact .writeCfg h ..
  · exact .writeDarner h ..
  · exact .writeHem h ..
  · exact .writeLining' h ..
  · exact .writeWdog h ..
  · exact .writePlacket h ..
  · exact .writeHost h ..
  · exact .writeEvt h ..
  · exact .writeTime h ..
  · exact .writeTamper h ..
  · exact .plainWrite h ..

theorem regWrite (h : Canonical s) (d : Fin 4) (t : Fin 256) (u off : Nat) (v : Word) :
    Canonical (regWrite s d t u off v) :=
  .guarded h (.guarded (.nogrant h ..) (.guarded (.unitWrite h ..) h))

/-! ## A read that reaches a register -/

/-! ### What a read does -/

theorem setLatch (h : Canonical s) (d : Fin 4) (k : Nat) (v : Option Word) : Canonical (s.setLatch d k v) :=
    .upd h fun _ => by rfl

theorem openCount (h : Canonical s) (n : Nat) : Canonical (openCount s n).1 := .pair (.took h)

theorem commonRead (h : Canonical s) (d : Fin 4) (u off : Nat) (r : RegSpec) :
    Canonical (commonRead s d u off r).1 := by
  unfold Machine.commonRead
  extract_lets _ _ _ s1
  have hs1 : Canonical s1 := .setReg h ..
  split
  · exact .pair (.setLatch h ..)
  · split
    · extract_lets _ _ s2
      have hs2 : Canonical s2 := .setLatch hs1 ..
      exact .pair (.guarded (.setReg hs2 ..) hs2)
    · exact hs1

theorem placketRead (h : Canonical s) (d : Fin 4) (off : Nat) (r : RegSpec) :
    Canonical (placketRead s d off r).1 := by
  unfold Machine.placketRead
  extract_lets
  refine .guardedFst (.pair (.setDbgStatus h ..)) ?_
  split
  · exact .yregRead h ..
  · exact .commonRead h ..

theorem dfeRead (h : Canonical s) (d : Fin 4) (k t : Nat) : Canonical (dfeRead s d k t).1 := by
  unfold Machine.dfeRead
  extract_lets _ m r
  have hm : Canonical m := .dfeSnapshot h ..
  have hr : Canonical r.1 := .dfeTapRead h ..
  exact .guardedFst (.pair (.beside hm)) hr

theorem unitRead (h : Canonical s) (d : Fin 4) (u off : Nat) (r : RegSpec) :
    Canonical (unitRead s d u off r).1 := by
  unfold Machine.unitRead
  split
  · exact .openCount h ..
  · extract_lets
    refine .guardedFst (.placketRead h ..) (.guardedFst ?_ (.commonRead h ..))
    split
    · exact .dfeRead h ..
    · exact .commonRead h ..

theorem regRead (h : Canonical s) (d : Fin 4) (t : Fin 256) (u off : Nat) : Canonical (regRead s d t u off).1 := by
  unfold Machine.regRead
  refine .guardedFst h (.guardedFst (.pair (.nogrant h ..)) (.guardedFst h (.guardedFst h ?_)))
  split
  · exact .unitRead h ..
  · exact h

/-! ## Register accesses of the Yoke, and accesses to another die -/

/-! ### The host lane window at its die (R159, R160, R367, R389) -/

theorem hostReadLanes (h : Canonical s) (n : Nat) (e : Fin 4) (m : Mem) (l k : Nat) :
    Canonical (hostReadLanes n s e m l k).1 := by
  induction n generalizing s l k with
  | zero => exact h
  | succ n ih =>
    unfold Machine.hostReadLanes
    extract_lets p r out rest
    have hr : Canonical r.1 := .readOne h ..
    refine .guardedFst h ?_
    cases out with
    | none => exact .pair hr
    | some bs => exact .pair (ih hr ..)

theorem hostWriteLanes (h : Canonical s) (n : Nat) (d : Fin 4) (m : Mem) (l : Nat) (bs : List Byte) :
    Canonical (hostWriteLanes n s d m l bs).1 := by
  induction n generalizing s d m l bs with
  | zero => exact h
  | succ n ih =>
    unfold Machine.hostWriteLanes
    extract_lets _ _ r
    have hr : Canonical r.1 := .guardedFst (.pair (.writeLining h ..)) (.writeMem h ..)
    exact .guardedFst h (.guardedFst (ih hr ..) hr)

/-! ### LDR and STR (R127, R128) -/

theorem remoteAdd (h : Canonical s) (d e : Fin 4) (init : RInit) (t : Fin 256) (op : ROp) (basted : Bool) :
    Canonical (remoteAdd s d e init t op basted) :=
  .beside h

theorem yRegFault (h : Canonical s) (d : Fin 4) (a : Word) : Canonical (yRegFault s d a) := .accFault h ..

theorem yLdr (h : Canonical s) (d : Fin 4) (D : Nat) (a : Word) : Canonical (yLdr s d D a).1 := by
  unfold Machine.yLdr
  extract_lets e off
  exact .guardedFst h (.guardedFst (.pair (.code (.setL (.yRegFault h ..) ..) ..))
    (.guardedFst (.pair (.code (.setL (.regRead h ..) ..) ..)) (.pair (.onYoke (.remoteAdd h ..) ..))))

theorem yStr (h : Canonical s) (d : Fin 4) (D : Nat) (a : Word) : Canonical (yStr s d D a).1 := by
  unfold Machine.yStr
  extract_lets
  exact .guardedFst h (.guardedFst (.pair (.code (.yRegFault h ..) ..)) (.guardedFst
    (.pair (.code (.regWrite h ..) ..)) (.pair (.remoteAdd h ..))))

/-! ### A remote access at its target -/

theorem markServed (h : Canonical s) (a : RAcc) (x : RData) : Canonical (markServed s a x) := .beside h

theorem serveVecRead (h : Canonical s) (a : RAcc) (off f : Nat) : Canonical (serveVecRead s a off f) := by
  unfold Machine.serveVecRead
  extract_lets
  split
  · extract_lets r
    have hr : Canonical r.1 := .readVec h ..
    split
    · exact .markServed hr ..
    · exact .markServed (.poisonFault hr ..) ..
    · exact hr
  · extract_lets r
    have hr : Canonical r.1 := .dramFetch h ..
    split
    · exact .markServed hr ..
    · exact .markServed (.dramPoisonFault hr ..) ..
  · exact .markServed (.accFault h ..) ..

theorem serveVecWrite (h : Canonical s) (a : RAcc) (off f mask : Nat) (v : Vec) :
    Canonical (serveVecWrite s a off f mask v) := by
  unfold Machine.serveVecWrite
  extract_lets
  split
  · extract_lets r
    have hr : Canonical r.1 := .writeVec h ..
    split
    · exact .markServed hr ..
    · exact hr
  · extract_lets
    exact .markServed (.dramStore h ..) ..
  · exact .markServed (.accFault h ..) ..

theorem servePort (h : Canonical s) (a : RAcc) : Canonical (servePort s a) := by
  unfold Machine.servePort
  extract_lets
  split
  · extract_lets r
    have hr : Canonical r.1 := .dramFetch h ..
    refine .guarded (.markServed (.accFault h ..) ..) ?_
    split
    · exact .markServed hr ..
    · exact .markServed (.dramPoisonFault hr ..) ..
  · exact .guarded (.markServed (.accFault h ..) ..) (.markServed (.dramStore h ..) ..)
  · exact h

theorem serveReg (h : Canonical s) (a : RAcc) : Canonical (serveReg s a) := by
  unfold Machine.serveReg
  split
  · extract_lets r
    have hr : Canonical r.1 := .regRead h ..
    exact .markServed hr ..
  · exact .markServed (.regWrite h ..) ..
  · exact h

theorem serveLanes (h : Canonical s) (a : RAcc) : Canonical (serveLanes s a) := by
  unfold Machine.serveLanes
  extract_lets _ bad
  have hbad : ∀ a0, Canonical (bad a0) := by
    intro a0
    unfold bad
    exact .markServed (.accFault h ..) ..
  split
  · split
    · exact hbad _
    · extract_lets r
      have hr : Canonical r.1 := .hostReadLanes h ..
      split
      · exact .markServed hr ..
      · exact hr
  · split
    · exact hbad _
    · extract_lets r
      have hr : Canonical r.1 := .hostWriteLanes h ..
      exact .guarded (.markServed hr ..) hr
  · exact h

theorem serve (h : Canonical s) (a : RAcc) : Canonical (serve s a) := by
  unfold Machine.serve
  split
  · exact .serveReg h ..
  · exact .serveReg h ..
  · exact .serveVecRead h ..
  · exact .serveVecWrite h ..
  · exact .servePort h ..
  · exact .servePort h ..
  · exact .serveLanes h ..
  · exact .serveLanes h ..

theorem requestArrives (h : Canonical s) (wr : Bool) (id : Nat) : Canonical (requestArrives wr id s) := by
  unfold Machine.requestArrives
  split
  · exact .guarded (.serve h ..) h
  · exact h

/-! ### Its answer (R148) -/

theorem dropRemote (h : Canonical s) (a : RAcc) : Canonical (dropRemote s a) := .beside h

theorem yAnswer (h : Canonical s) (d : Fin 4) (id : Nat) (dst : Option (Fin 16)) (v : Word) (c : Nat) :
    Canonical (yAnswer s d id dst v c) := by
  unfold Machine.yAnswer
  split
  · exact .guarded (.code (.setL (.onYoke h ..) ..) ..) h
  · exact .code h ..

theorem xAnswer (h : Canonical s) (a : RAcc) (c : Fin 192) : Canonical (xAnswer s a c) := by
  unfold Machine.xAnswer
  extract_lets
  split
  · exact .dropRemote h ..
  · extract_lets
    exact .guarded h (.dropRemote (.setCluster h ..) ..)

theorem readResponse (h : Canonical s) (id : Nat) : Canonical (readResponse id s) := by
  unfold Machine.readResponse
  split
  next a ha =>
    have h1 : Canonical (Machine.dropRemote s a) := .dropRemote h ..
    refine .guarded h (.guarded (.raise h1 ..) ?_)
    split
    · cases a.data <;> exact .yAnswer h1 ..
    · exact .beside h1
    · exact .xAnswer h ..
    · exact .setDportQ h1 ..
  · exact h

/-! ### The timeout (R148, R161, R187, R343, R441) -/

theorem abandonAt (h : Canonical s) (a : RAcc) : Canonical (abandonAt s a) := by
  unfold Machine.abandonAt
  split
  · exact .yAnswer h ..
  · exact .beside h
  · extract_lets
    split
    · extract_lets
      exact .setCluster h ..
    · exact h
  · exact .setDportQ h ..

theorem remoteTimeout (h : Canonical s) (id : Nat) : Canonical (remoteTimeout id s) := by
  unfold Machine.remoteTimeout
  split
  · extract_lets _ s1
    have hs1 : Canonical s1 := .beside h
    exact .guarded h (.abandonAt (.raise hs1 ..) ..)
  · exact h

/-! ## The commands of a configuration stream on every die -/

/-! ### The commands on a die -/

theorem onEngine (h : Canonical s) (d : Fin 4) (f : CfgDie → CfgDie) : Canonical (s.onEngine d f) :=
    .upd h fun _ => by rfl

theorem putFrames (h : Canonical s) (d : Fin 4) (f : Nat) (ws : List Word) : Canonical (putFrames s d f ws) := by
  unfold Machine.putFrames
  extract_lets s1
  have hs1 : Canonical s1 := .overAll h (fun _ _ hm => .upd hm fun _ => by rfl) ..
  exact .overAll hs1 (fun _ _ hm => .setUpsets hm ..) ..

theorem frameWrite (h : Canonical s) (d : Fin 4) (n : Nat) (cmp : Bool) (data : List Word) :
    Canonical (frameWrite s d n cmp data).1 := by
  unfold Machine.frameWrite
  extract_lets
  refine .guardedFst h ?_
  split
  · exact h
  · exact .guardedFst h (.pair (.onEngine (.putFrames h ..) ..))

theorem memLoad (h : Canonical s) (d region : Fin 4) (n : Nat) (cmp : Bool) (lane : Nat) (data : List Word) :
    Canonical (memLoad s d region n cmp lane data).1 := by
  unfold Machine.memLoad
  extract_lets
  refine .guardedFst h (.guardedFst h (.guardedFst h ?_))
  split
  · exact h
  · exact .pair (.overAll h (fun _ _ hm => .guarded (.writeLining hm ..) (.rawWrite hm ..)) ..)

theorem codeRentik (h : Canonical s) (d : Fin 4) (set : Nat) (image : List Word) :
    Canonical (codeRentik s d set image).1 := by
  unfold Machine.codeRentik
  extract_lets
  exact .guardedFst h (.guardedFst h (.pair (.overAll h (fun _ _ hm => .overAll hm (fun _ _ hn => .putBundle hn ..)
    ..) ..)))

theorem codeYoke (h : Canonical s) (d : Fin 4) (a : Nat) (words : List Word) :
    Canonical (codeYoke s d a words).1 :=
  .guardedFst h (.pair (.overAll h (fun _ _ hm => .setFld hm ..) ..))

theorem streamWrite (h : Canonical s) (d : Fin 4) (u off : Nat) (v : Word) :
    Canonical (streamWrite s d u off v).1 :=
  .guardedFst h (.guardedFst h (.guardedFst (.pair (.onCfg h ..)) (.pair (.regWrite h ..))))

theorem regionDeclare (h : Canonical s) (d : Fin 4) (r a b : Nat) : Canonical (regionDeclare s d r a b).1 := by
  unfold Machine.regionDeclare
  extract_lets _ s1
  have hs1 : Canonical s1 := .setFld (.setFld h ..) ..
  exact .guardedFst h (.guardedFst h (.pair (.onEngine (.setFld hs1 ..) ..)))

theorem pollHolds (h : Canonical s) (d : Fin 4) (u off : Nat) (mask v : Word) :
    Canonical (pollHolds s d u off mask v).1 := by
  unfold Machine.pollHolds
  extract_lets r
  have hr : Canonical r.1 := .regRead h ..
  exact hr

theorem requireHolds (h : Canonical s) (d : Fin 4) (u off : Nat) (mask v : Word) :
    Canonical (requireHolds s d u off mask v).1 := by
  unfold Machine.requireHolds
  extract_lets r
  have hr : Canonical r.1 := .pollHolds h ..
  exact .guardedFst h hr

theorem imageId (h : Canonical s) (d : Fin 4) (lo hi : Word) : Canonical (imageId s d lo hi).1 := by
  unfold Machine.imageId
  extract_lets s1 s2
  have hs1 : Canonical s1 := .onEngine h ..
  have hs2 : Canonical s2 := .setFld (.setFld hs1 ..) ..
  exact .guardedFst hs1 hs2

theorem runOn (h : Canonical s) (d : Fin 4) (i : Instr) : Canonical (runOn s d i).1 := by
  unfold Machine.runOn
  split
  · exact .guardedFst (.pair (.onEngine h ..)) h
  · exact .frameWrite h ..
  · exact .streamWrite h ..
  · exact .regionDeclare h ..
  · exact .guardedFst (.pair (.onEngine h ..)) h
  · exact .pair (.onEngine h ..)
  · exact .guardedFst h (.pair (.onEngine h ..))
  · exact .requireHolds h ..
  · exact .imageId h ..
  · exact .memLoad h ..
  · exact .codeRentik h ..
  · exact .codeYoke h ..
  · exact h

theorem ranOut (d : Fin 4) {r : Ran} (h : Canonical r.1) : Canonical (ranOut d r) := .guarded h (.cfgEndIf h ..)

/-! ### The stream at die 0 (R736, R743 to R746) -/

theorem streamTake (h : Canonical s) (n : Nat) (restart : Bool) : Canonical (streamTake s n restart) := .onCfg h ..

theorem streamEnd (h : Canonical s) (n : Nat) : Canonical (streamEnd s n) := by
  unfold Machine.streamEnd
  extract_lets s1
  have hs1 : Canonical s1 := .streamTake h ..
  refine .guarded (.cfgFail h ..) (.guarded h (.guarded (.cfgFail hs1 ..) ?_))
  split
  · exact .cfgFail hs1 ..
  · exact .onCfg (.guarded hs1 (.zeroKey hs1)) ..

theorem streamStep (h : Canonical s) (i : Instr) (n : Nat) : Canonical (streamStep s i n) := by
  have htake (b : Bool) : Canonical (Machine.streamTake s n b) := .streamTake h ..
  generalize hf : Machine.streamStep = f
  delta Machine.streamStep at hf
  subst hf
  beta_reduce
  extract_lets d
  refine .guarded (.cfgFail h ..) ?_
  clear_value d
  cases i with
  | cSync => exact .checkNext (.onCfg (htake _) ..)
  | cDie e => exact .guarded (.cfgFail h ..) (.checkNext (.onCfg (htake _) ..))
  | cCheck v => exact .guarded (.checkNext (htake _)) (.cfgFail h ..)
  | cEnd => exact .streamEnd h ..
  | _ =>
    refine .guarded h (.checkNext (.guarded ?_ (.onEngine (.onCfg (htake _) ..) ..)))
    exact .ranOut _ (.runOn (.onCfg (htake _) ..) ..)

theorem cfgStep (h : Canonical s) (i : Instr) : Canonical (cfgStep i s) := by
  unfold Machine.cfgStep
  refine .whenUp h (fun _ hm => .guarded hm (.guarded (.cfgFail hm ..) (.guarded hm ?_))) ..
  split
  · exact .guarded (.streamStep hm ..) hm
  · exact hm

theorem configForward (h : Canonical s) (d : Fin 4) : Canonical (configForward d s) := by
  refine .whenUp h (fun m hm => .guarded hm (.guarded (.cfgFail hm ..) (.guarded hm ?_))) ..
  split
  · exact hm
  · exact .ranOut _ (.runOn (.onEngine hm ..) ..)

theorem waitElapsed (h : Canonical s) (d : Fin 4) : Canonical (waitElapsed d s) := by
  unfold Machine.waitElapsed
  refine .whenUp h (fun _ hm => ?_) ..
  split
  · exact .guarded (.onEngine hm ..) hm
  · exact hm

theorem waitPollRead (h : Canonical s) (d : Fin 4) : Canonical (waitPollRead d s) := by
  unfold Machine.waitPollRead
  refine .whenUp h (fun _ hm => ?_) ..
  split
  · extract_lets r
    have hr : Canonical r.1 := .pollHolds hm ..
    exact .guarded (.onEngine hr ..) (.guarded (.cfgEndIf hr ..) hr)
  · exact hm

theorem cfgRelease (h : Canonical s) : Canonical (cfgRelease s) := by
  unfold Machine.cfgRelease
  refine .whenUp h (fun _ hm => ?_) ..
  split
  · exact hm
  · extract_lets _ _ s1 s2 s3 s4 s5 s6
    have hs1 : Canonical s1 := .setFld (.setFld hm ..) ..
    have hs2 : Canonical s2 := .onCfg hs1 ..
    have hs3 : Canonical s3 := .overAll hs2 (fun _ _ hn => .upd hn fun _ => by rfl) ..
    have hs4 : Canonical s4 := .guarded (.overAll hs3 (fun _ _ hn => .wdogStart hn ..) ..) hs3
    have hs5 : Canonical s5 := .raise hs4 ..
    have hs6 : Canonical s6 := .overAll hs5 (fun _ _ hn => .regWrite hn ..) ..
    exact .guarded hm (.guarded (.cfgFail hm ..) (.overAll hs6 (fun _ _ hn => .passIdle hn ..) ..))

/-! ### The frames of a region reload (R320, R749) -/

theorem containerWords (h : Canonical s) (n : Nat) (d : Fin 4) (addr len off chunk : Nat) :
    Canonical (containerWords n s d addr len off chunk).1 := by
  induction n generalizing s d addr len off chunk with
  | zero => exact h
  | succ n ih =>
    unfold Machine.containerWords
    extract_lets h1
    have hh1 : Canonical h1.1 := .engineRead h ..
    split
    · exact hh1
    · extract_lets _ b r
      have hb : Canonical b.1 := .engineRead hh1 ..
      have hr : Canonical r.1 := ih hb ..
      split
      · exact hb
      · split
        · exact hb
        · exact hb
        · exact hr

theorem runSection (h : Canonical s) (n : Nat) (d : Fin 4) (r : Nat) (at_ : SecAt) (crc : Nat) (ws : List Word) :
    Canonical (runSection n s d r at_ crc ws).1 := by
  induction n generalizing s at_ crc ws with
  | zero => exact h
  | succ n ih =>
    suffices OfFst (Machine.runSection (n + 1) s d r at_ crc ws) from this
    -- One step of the recursion, of the function before it meets its arguments.
    generalize hf : Machine.runSection (n + 1) = f
    conv at hf =>
      lhs
      whnf
    subst hf
    beta_reduce
    cases cfgDecode ws with
    | cmd i k =>
      have hreq u a b c : Canonical (Machine.requireHolds s d u a b c).1 := .requireHolds h ..
      have hrun (i) : Canonical (Machine.runOn s d i).1 := .runOn h ..
      have key (x : Ran) (hx : Canonical x.1) (p : SecAt) (a : Nat) (b : List Word) :
          OfFst (if x.2 = 0 then Machine.runSection n x.1 d r p a b else (x.1, if x.2 = 10 then 9 else x.2)) :=
        .guarded (ih hx ..) hx
      cases at_ with
      | start => cases i with
        | cSync => exact ih h ..
        | _ => exact h
      | synced => cases i with
        | cRegionbegin r' a b => exact .guarded h (ih (.onEngine h ..) ..)
        | _ => exact h
      | inside => cases i with
        | cRegionend r' => exact .guarded (ih h ..) h
        | cCheck v => exact .guarded (ih h ..) h
        | cWait us => exact ih h ..
        | cWaitPoll us u off mask v =>
          exact key _ (hreq ..) .inside .. 
        | _ => exact .guarded h (.guarded (ih (hrun _) ..) (hrun _))
      | closed => cases i with
        | cEnd => exact h
        | _ => exact h
    | _ => exact h

theorem reloadBody (h : Canonical s) (d : Fin 4) (q : Reload) : Canonical (reloadBody s d q).1 := by
  unfold Machine.reloadBody
  extract_lets hd
  have h1 : Canonical hd.1 := .engineRead h ..
  split
  · exact .pair h1
  · extract_lets len b
    have h2 : Canonical b.1 := .containerWords h1 ..
    split
    · exact .pair h2
    · exact .pair (.onEngine (.runSection (.onEngine h2 ..) ..) ..)

theorem reloadFramesDone (h : Canonical s) (d : Fin 4) : Canonical (reloadFramesDone d s) := by
  unfold Machine.reloadFramesDone
  refine .whenUp h (fun _ hm => ?_) ..
  split
  · extract_lets r s1
    have hr : Canonical r.1 := .reloadBody hm ..
    have hs1 : Canonical s1 := .setFld (.setFld hr ..) ..
    exact .guarded hm (.guarded (.upd hs1 fun _ => by rfl) (.reloadNext (.upd (.reloadFails hr ..) fun _ => by rfl) ..))
  · exact hm

/-! ## The debug access port and the TAP -/

/-! ### The debug access port (R858 to R860) -/

theorem inDebugDomain (h : Canonical s) {g : Chip → Chip} (hg : ∀ m, Canonical m → Canonical (g m)) (d : Fin 4) :
    Canonical (inDebugDomain s d g) := by
  unfold Machine.inDebugDomain
  extract_lets stop off s1
  have h0 : Canonical { s with stop := {} } := .beside h
  have h1 : Canonical s1 := hg _ (.upd h0 fun _ => by rfl)
  exact .upd (.beside h1) fun _ => by rfl

theorem dbgReg (h : Canonical s) (d : Fin 4) (wr : Bool) (off : Nat) (data : BitVec 56) :
    Canonical (dbgReg s d wr off data).1 := by
  have hwrite (m : Chip) (hm : Canonical m) : Canonical
      (Machine.regWrite m d 0 (off / 2 ^ 24) (off % 2 ^ 24) (BitVec.ofNat 32 data.toNat)) := .regWrite hm ..
  unfold Machine.dbgReg
  extract_lets u k r
  refine .guardedFst h (.guardedFst h (.guardedFst ?_ (.regRead h ..)))
  exact .guarded (.inDebugDomain h hwrite d) (hwrite s h)

theorem dbgLanes (h : Canonical s) (d : Fin 4) (wr one : Bool) (off : Nat) (data : BitVec 56) :
    Canonical (dbgLanes s d wr one off data).1 := by
  unfold Machine.dbgLanes
  split
  · exact h
  · extract_lets _ _ s1 _ r r1
    have hs1 : Canonical s1 := .guarded (.touchBank h ..) h
    have hr : Canonical r.1 := .guardedFst (.pair (.writeLining hs1 ..)) (.writeWord hs1 ..)
    have hr1 : Canonical r1.1 := .guardedFst (.readLining hs1 ..) (.readWord hs1 ..)
    refine .guardedFst h (.guardedFst h (.guardedFst hr ?_))
    split
    · exact hr1
    · exact hr1

theorem dbgDram (h : Canonical s) (d : Fin 4) (wr : Bool) (off : Nat) (data : BitVec 56) :
    Canonical (dbgDram s d wr off data).1 := by
  unfold Machine.dbgDram
  extract_lets r
  have hr : Canonical r.1 := .dramFetch h ..
  refine .guardedFst h (.guardedFst (.pair (.dramStore h ..)) ?_)
  split <;> exact hr

theorem dbgServe (h : Canonical s) (d : Fin 4) (a : DbgAcc) : Canonical (dbgServe s d a).1 := by
  unfold Machine.dbgServe
  extract_lets
  exact .guardedFst h (.guardedFst (.dbgReg h ..) (.guardedFst h (.guardedFst (.dbgDram h ..) (.dbgLanes h ..))))

theorem debugAccessDone (h : Canonical s) (d : Fin 4) : Canonical (debugAccessDone d s) := by
  unfold Machine.debugAccessDone
  split
  · exact h
  · extract_lets r s1
    have hr : Canonical r.1 := .dbgServe (.setDbgStatus h ..) ..
    have hs1 : Canonical s1 := hr
    refine .guarded h ?_
    split
    · exact .setDbgStatus hr ..
    · extract_lets _ s2 s3 s4
      have hs2 : Canonical s2 := .setFld (.setDbgStatus hs1 ..) ..
      have hs3 : Canonical s3 := .setFld hs2 ..
      have hs4 : Canonical s4 := .guarded hs3 (.setFld (.setFld hs3 ..) ..)
      exact .upd hs4 fun _ => by rfl

theorem debugGo (h : Canonical s) (t : Fin 256) (d : Fin 4) (op : Nat) (v : Word) : Canonical (debugGo t d op v s) :=
  .whenDebug h (fun _ hm => .dbgCmdWrite hm ..) ..

/-! ### The TAP (R703, R871 to R873) -/

theorem onTap (h : Canonical s) (d : Fin 4) (f : TapSt → TapSt) : Canonical (s.onTap d f) := .upd h fun _ => by rfl

theorem whenTap (h : Canonical s) {g : Chip → Chip} (hg : ∀ m, Canonical m → Canonical (g m)) :
    Canonical (whenTap s g) := .guarded (hg s h) h

theorem tapSelect (h : Canonical s) (d : Fin 4) (code : Nat) : Canonical (tapSelect s d code) := .onTap h ..

theorem tapReset (h : Canonical s) : Canonical (tapReset s) :=
  .whenTap h fun _ hm => .overAll hm (fun _ _ hn => .tapSelect hn ..) ..

theorem tapSample (h : Canonical s) (d : Fin 4) (pins : List Bool) : Canonical (tapSample d pins s) :=
  .whenTap h fun _ hm => .onTap (.tapSelect hm ..) ..

theorem tapIdcode (h : Canonical s) (d : Fin 4) : Canonical (tapIdcode d s) :=
  .whenTap h fun _ hm => .beside (.tapSelect hm ..)

theorem tapDbgacc (h : Canonical s) (d : Fin 4) (addr : BitVec 40) (lane wr : Bool) (data : BitVec 56) :
    Canonical (tapDbgacc d addr lane wr data s) := by
  refine .whenTap h fun m hm => ?_
  have h1 : Canonical (Machine.tapSelect m d 0x008) := .tapSelect hm ..
  exact .guarded (.dbgBegin (.guarded (.onTap h1 ..) h1) ..) h1

theorem tapCfgdata (h : Canonical s) (d : Fin 4) (v : Word) : Canonical (tapCfgdata d v s) := by
  refine .whenTap h fun m hm => ?_
  have h1 (ir : Nat) : Canonical (Machine.tapSelect m d ir) := .tapSelect hm ..
  exact .guarded (.whenUp (h1 _) (fun _ hn => .jtagWord hn ..) ..) (h1 _)

/-! ## How accesses reach registers and memories from outside -/

/-! ### Tenant pages (R163, R171, R182) -/

theorem pageWrite (h : Canonical s) (t : Fin 256) (o : Nat) (v : Word) : Canonical (pageWrite s t o v) := by
  unfold Machine.pageWrite
  extract_lets
  exact .guarded (.guarded h (.setHost h ..)) (.guarded (.guarded h (.setHost h ..)) (.guarded (.sqCtl h ..)
    (.guarded (.sqTail h ..) (.guarded (.guarded h (.setHost h ..)) (.guarded (.guarded h (.setHost h ..))
      (.guarded (.cqCtl h ..) (.guarded (.cqHead h ..) (.guarded (.guarded (.wdogSvcWrite h ..)
        (.nogrant h ..)) h))))))))

/-! ### BAR0 (R158) -/

theorem hostFault (h : Canonical s) (t : Fin 256) (off : Nat) : Canonical (hostFault s t off) := .accFault h ..

theorem tableWrite (h : Canonical s) (k : Nat) (v : Word) : Canonical (tableWrite s k v) :=
  .guarded (.guarded (.beside h) (.unmaskVector h ..)) (.beside h)

theorem barWrite (h : Canonical s) (spi : Bool) (off bytes : Nat) (v : Word) :
    Canonical (barWrite s spi off bytes v) := by
  unfold Machine.barWrite
  dsimp only
  refine .guarded (.hostFault h ..) ?_
  split
  · exact .guarded (.regWrite h ..) (.remoteAdd h ..)
  · exact .pageWrite h ..
  · exact .tableWrite h ..
  · exact h
  · exact .hostFault h ..

theorem barRead (h : Canonical s) (spi : Bool) (off bytes : Nat) : Canonical (barRead s spi off bytes) := by
  unfold Machine.barRead
  dsimp only
  refine .guarded (.beside (.hostFault h ..)) ?_
  split
  · exact .guarded (.beside (.regRead h ..)) (.beside (.remoteAdd h ..))
  · exact .beside h
  · exact .beside h
  · exact .beside h
  · exact .beside (.hostFault h ..)

/-! ### Device addresses (R18, R24, R25, R44) -/

theorem registerWrite (h : Canonical s) (a : RegAddr) (bytes : Nat) (v : Word) :
    Canonical (registerWrite a bytes v s) := by
  unfold Machine.registerWrite
  split
  · extract_lets
    refine .whenUp h (fun _ hm => ?_) ..
    split
    · exact .regWrite hm ..
    · exact .accFault hm ..
  · exact .guarded (.barWrite h ..) h

theorem registerRead (h : Canonical s) (a : RegAddr) (bytes : Nat) : Canonical (registerRead a bytes s) := by
  unfold Machine.registerRead
  split
  · extract_lets
    refine .whenUp h (fun _ hm => ?_) ..
    split
    · extract_lets r m
      have hr : Canonical r.1 := .regRead hm ..
      have hm : Canonical m := hr
      exact .beside hm
    · extract_lets m
      have hm : Canonical m := .accFault hm ..
      exact .beside hm
  · exact .guarded (.barRead h ..) h

theorem namedWrite (h : Canonical s) (d : Fin 4) (t : Fin 256) (u off : Nat) (v : Word) :
    Canonical (namedWrite s d t u off v) :=
  .whenUp h (fun _ hm => .regWrite hm ..) ..

theorem namedRead (h : Canonical s) (d : Fin 4) (t : Fin 256) (u off : Nat) :
    Canonical (namedRead s d t u off) := by
  unfold Machine.namedRead
  refine .whenUp h (fun _ hm => ?_) ..
  extract_lets r m
  have hr : Canonical r.1 := .regRead hm ..
  have hm : Canonical m := hr
  exact .beside hm

theorem prbsRead (h : Canonical s) (t : Fin 256) (d : Fin 4) (k : Fin 8) (bits : BitVec 64) (errs : Nat) :
    Canonical (prbsRead t d k bits errs s) := by
  unfold Machine.prbsRead
  extract_lets
  refine .whenUp h (fun _ hm => .guarded (.beside hm) (.guarded (.prbsBitsRead hm ..) ?_)) ..
  extract_lets m
  have hm : Canonical m := .nogrant hm ..
  exact .beside hm

/-! ### The lane window (R159, R160) -/

theorem hostLaneRead (h : Canonical s) (off : BitVec 28) (bytes : Nat) : Canonical (hostLaneRead off bytes s) := by
  unfold Machine.hostLaneRead
  extract_lets _ _ m m1
  have hm : Canonical m := .remoteAdd h ..
  have hm1 : Canonical m1 := .hostFault h ..
  refine .guarded h (.guarded (.beside hm) ?_)
  split
  · exact .beside hm1
  · extract_lets r m2
    have hr : Canonical r.1 := .hostReadLanes h ..
    have hm2 : Canonical m2 := hr
    exact .beside hm2

theorem hostLaneWrite (h : Canonical s) (off : BitVec 28) (data : List Byte) :
    Canonical (hostLaneWrite off data s) := by
  unfold Machine.hostLaneWrite
  extract_lets
  refine .guarded h (.guarded (.remoteAdd h ..) ?_)
  split
  · exact .hostFault h ..
  · exact .hostWriteLanes h ..

/-! ### The drain of the Basting buffer (R257, R271) -/

/-- The entry that drains leaves both answers in canonical form: the chip of a finished entry, and the other. -/
theorem drainEntry (h : Canonical s) (d : Fin 4) (b : BufEntry) :
    (∀ m ∈ (drainEntry s d b).1, Canonical m) ∧ Canonical (drainEntry s d b).2 := by
  have done {m k : Chip} (hm : Canonical m) (hk : Canonical k) : (∀ n ∈ some m, Canonical n) ∧ Canonical k :=
    ⟨fun n hn => Option.some.inj hn ▸ hm, hk⟩
  unfold Machine.drainEntry
  extract_lets addr e off
  split
  · exact done h h
  · split
    · exact done (.guarded h (.dramStore h ..)) h
    · split
      · split
        · exact done (.writeLining h ..) h
        · have hr := h.writeMem e
          dsimp only
          split
          · exact done (hr ..) h
          · exact ⟨fun _ hn => absurd hn (Option.not_mem_none _), hr ..⟩
      · exact done h h
    · exact done (.regWrite h ..) h

theorem basteDrain (h : Canonical s) (d : Fin 4) : Canonical (basteDrain d s) := by
  refine .whenUp h (fun m hm => ?_) ..
  split
  · exact hm
  next b bs _ =>
    obtain ⟨hdone, hleft⟩ := hm.drainEntry d b
    split
    next k _ hk => exact .onBaste (hdone k (by rw [hk]; rfl)) ..
    next k hk => rw [hk] at hleft; exact hleft

/-! ## Resets, stops and rails -/

/-! ### PORN (R55, R427, R663, R851, R903, R904) -/

theorem pornAll (h : Canonical s) : Canonical (pornAll s) := (h.mapWf fun _ hx => hx.pornDie).setFld ..

theorem pornStart (h : Canonical s) (g2 : Bool) (bootsel : Fin 4) (found : List HemFinding) :
    Canonical (pornStart g2 bootsel found s) := by
  unfold Machine.pornStart
  extract_lets s0 s1 s2 s3 w2 v
  have h1 : Canonical s1 := .beside (.pornAll h)
  have h3 : Canonical s3 := .setFld (.setFld (.senseAll h1 ..) ..) ..
  clear_value w2 s3
  have h4 : Canonical { s3 with vbat := { v with offEvent := false } } := .vbat h3 (by rfl)
  exact .guarded (.raise h4 ..) h3

theorem holdReset (h : Canonical s) : Canonical (holdReset s) := by
  unfold Machine.holdReset
  extract_lets m
  have hm : Canonical m := .pornAll h
  exact .beside hm

theorem pornFall (h : Canonical s) (ns : Nat) : Canonical (pornFall ns s) := by
  unfold Machine.pornFall
  extract_lets _ _ s1
  have hs1 : Canonical s1 := .guarded (.took h) h
  exact .guarded (.holdReset hs1) hs1

theorem pornRelease (h : Canonical s) (g2 : Bool) (bootsel : Fin 4) (found : List HemFinding) :
    Canonical (pornRelease g2 bootsel found s) :=
  .guarded (.pornStart h ..) h

/-! ### SRST (R905 and the reset rules of each unit) -/

theorem srstLoad (h : Canonical s) : Canonical (srstLoad s) := by
  unfold Machine.srstLoad
  extract_lets boot checked s1 s2 s3 s4
  have h3 : Canonical s3 := .beside (.cfgClear (.guarded h (.zeroKey h)))
  have h4 : Canonical s4 := h3.updWf fun _ hx => hx.resetRegs ..
  exact .guarded (.setFld (.setFld h4 ..) ..) h

theorem srstBegin (h : Canonical s) : Canonical (srstBegin s) := by
  unfold Machine.srstBegin
  extract_lets s1 s2 keep s3 s4 stop s5
  have h1 : Canonical s1 := .overAll h (fun _ _ hm => .fenceFlush hm ..) ..
  have h2 : Canonical s2 := .overAll h1 (fun _ d hm => .passAbandon (.reloadsStop hm d) d) ..
  have h3 : Canonical s3 := .disarmLaser (.took h2)
  have h4 : Canonical s4 := h3.mapWf fun _ hx => hx.srstDie keep
  have h5 : Canonical s5 := .beside h4
  exact .srstLoad (.setFld (.setFld h5 ..) ..)

theorem srstNFall (h : Canonical s) (ns : Nat) : Canonical (srstNFall ns s) := by
  unfold Machine.srstNFall
  extract_lets _ _ s1
  have hs1 : Canonical s1 := .guarded (.took h) h
  exact .guarded h (.guarded (.srstBegin hs1) hs1)

theorem srstEnd (h : Canonical s) : Canonical (srstEnd s) := by
  unfold Machine.srstEnd
  extract_lets
  exact .guarded (.overAll (.beside h) (fun _ _ hm => .passIdle hm ..) ..) h

/-! ### PERST_N and the PCI Express link (R906) -/

theorem linkDown (h : Canonical s) : Canonical (linkDown s) := .setReg h ..

theorem perstNAssert (h : Canonical s) : Canonical (perstNAssert s) := by
  unfold Machine.perstNAssert
  extract_lets m
  have hm : Canonical m := .linkDown h
  exact .beside hm

theorem perstNRelease (h : Canonical s) : Canonical (perstNRelease s) := .beside h

theorem pcieLinkUp (h : Canonical s) (width : BitVec 3) (speed : BitVec 2) :
    Canonical (pcieLinkUp width speed s) := by
  unfold Machine.pcieLinkUp
  extract_lets
  exact .guarded h (.setFld (.setFld (.setFld h ..) ..) ..)

/-! ### The debug domain (R851, R852, R874, R881) -/

theorem debugReset (h : Canonical s) : Canonical (debugReset s) := by
  unfold Machine.debugReset
  extract_lets s1 one s2 s3
  have h1 : Canonical s1 := .overAll h (fun _ _ hm => .endHalts hm ..) ..
  have h2 : Canonical s2 := h1.mapWf fun x hx => { hx with regs := regsWf_resetRegs _ _ _ hx.regs }
  exact .beside (.setFld (.setFld (.setFld h2 ..) ..) ..)

/-! ### The always-on domain (R474, R822, R825, R896, R930, R939) -/

theorem setRail (h : Canonical s) (d : Fin 4) (b : Nat) (ok : Bool) : Canonical (setRail s d b ok) := .setReg h ..

theorem vbatLost (h : Canonical s) : Canonical (vbatLost s) :=
  (h.vbatLe (v := { vaonAbsent := s.vbat.vaonAbsent }) (Nat.zero_le _)).updWf fun _ hx => hx.resetRegs ..

theorem tamperLost (h : Canonical s) (d : Fin 4) : Canonical (tamperLost s d) := by
  unfold Machine.tamperLost
  extract_lets _ _ s1 s2 s3
  have hs1 : Canonical s1 := .setFld h ..
  have hs2 : Canonical s2 := .setFld hs1 ..
  have hs3 : Canonical s3 := .setFld hs2 ..
  exact .setFld (.setFld hs3 ..) ..

theorem vaonLoss (h : Canonical s) (vbat : Bool) : Canonical (vaonLoss vbat s) := by
  unfold Machine.vaonLoss
  extract_lets s1 v s2 s3 s4 s5 s6
  have h1 : Canonical s1 := .debugReset (.holdReset h)
  have h1' : Canonical { s1 with wdout := none, vbat := { v with vaonAbsent := true } } := .vbat h1 (by rfl)
  have h2 : Canonical s2 := .setFld (.aolEmpty h1') ..
  have h3 : Canonical s3 := h2.updWf fun _ hx => hx.resetRegs ..
  have h4 : Canonical s4 := .overAll (.beside h3) (fun _ _ hm => .tamperLost hm ..) ..
  have h6 : Canonical s6 := .setRail (.overAll h4 (fun _ d hm => .setRail hm d ..) ..) ..
  exact .guarded h6 (.vbatLost h6)

theorem vaonPowerUp (h : Canonical s) (aSafe bSafe : Bool) : Canonical (vaonPowerUp aSafe bSafe s) := by
  unfold Machine.vaonPowerUp
  refine .guarded h (.ilkMove (.setSafe (.overAll (.vbat h (by rfl)) (fun _ _ hm => .setRail hm ..) ..) ..) ..)

/-! ### Brown-out (R908 to R910, R920 to R923, R927) -/

theorem brownoutDip (h : Canonical s) (d : Fin 4) (aux : Bool) (ns mv : Nat) :
    Canonical (brownoutDip d aux ns mv s) := by
  unfold Machine.brownoutDip
  extract_lets _ _ _ _ s1 s2 s3
  have hs1 : Canonical s1 := .guarded (.took h) h
  have hs2 : Canonical s2 := .addFld hs1 ..
  have hs3 : Canonical s3 := .setFld (.setFld hs2 ..) ..
  exact .guarded h (.guarded hs1 (.overAll (.fatalStop hs3 ..) (fun _ _ hm => .dramLose hm ..) ..))

theorem brownoutRestart (h : Canonical s) (g2 : Bool) (bootsel : Fin 4) (found : List HemFinding) :
    Canonical (brownoutRestart g2 bootsel found s) :=
  .guarded (.pornStart h ..) h

/-! ### The end of the WDOUT pulse (R833, R924) -/

theorem wdoutPulseEnd (h : Canonical s) (found : List HemFinding) (g2 : Bool) (bootsel : Fin 4) :
    Canonical (wdoutPulseEnd found g2 bootsel s) := by
  unfold Machine.wdoutPulseEnd
  extract_lets s1
  have hs1 : Canonical s1 := .beside h
  exact .guarded h (.guarded hs1 (.guarded (.beside hs1) (.pornStart hs1 ..)))

/-! ### Rails (R631, R903, R907, R928) -/

theorem railLost (h : Canonical s) (d : Fin 4) (b : Nat) : Canonical (railLost s d b) :=
  .guarded (.holdReset h) (.guarded (.guarded (.vbatLost h) h) (.guarded
    (.guarded (.setFld (.setFld (.setFld (.dramLose h ..) ..) ..) ..) h) (.guarded (.lanesOff h ..)
      (.guarded (.linkDown h) h))))

theorem railBack (h : Canonical s) (d : Fin 4) (b : Nat) : Canonical (railBack s d b) := .guarded (.lanesBack h ..) h

theorem railChange (h : Canonical s) (d : Fin 4) (b : Nat) (ok : Bool) : Canonical (railChange d b ok s) := by
  unfold Machine.railChange
  extract_lets s1 s2
  have hs1 : Canonical s1 := .guarded (.overAll h (fun _ _ hm => .setRail hm ..) ..) (.setRail h ..)
  have hs2 : Canonical s2 := .upd hs1 fun _ => by rfl
  exact .guarded h (.guarded (.railBack hs2 ..) (.railLost hs2 ..))

theorem setRailFlags (h : Canonical s) (d : Fin 4) (b v : Nat) : Canonical (setRailFlags s d b v) :=
    .upd h fun _ => by rfl

theorem railLowTimeout (h : Canonical s) (d : Fin 4) (b : Nat) : Canonical (railLowTimeout d b s) := by
  unfold Machine.railLowTimeout
  refine .whenUp h (fun _ hm => .guarded hm ?_) ..
  extract_lets s1
  have hs1 : Canonical s1 := .setRailFlags hm ..
  exact .raise (.setFld hs1 ..) ..

theorem railOkTimeout (h : Canonical s) (d : Fin 4) (b : Nat) : Canonical (railOkTimeout d b s) :=
  .whenUp h (fun _ hm => .guarded hm (.raise (.setRailFlags hm ..) ..)) ..

/-! ## What the block does in one tq in which no command waits -/

theorem timeTq (h : Canonical s) : Canonical (timeTq s) :=
  .guarded (h.map fun x => by split <;> rfl) h

theorem vbatTq (h : Canonical s) : Canonical (vbatTq s) := by
  refine .guarded h (h.vbatLe ?_)
  split <;> exact h.log

theorem wdoutTq (h : Canonical s) : Canonical (wdoutTq s) := .guarded h (.beside h)

theorem clocksTq (h : Canonical s) : Canonical (clocksTq s) := .wdoutTq (.vbatTq (.ilkTq (.wdogTq (.timeTq h))))

theorem dieDue (h : Canonical s) (d : Fin 4) : Canonical (dieDue s d) := .guarded (.tickEnds (.recipesAct h ..) ..) h

theorem dueNow (h : Canonical s) : Canonical (dueNow s) := by
  unfold Machine.dueNow
  extract_lets s1 s2
  have hs1 : Canonical s1 := .overAll h (fun _ _ hm => .dieDue hm ..) ..
  have hs2 : Canonical s2 := .masterMark (.overAll hs1 (fun _ _ hm => .settleCmds hm ..) ..)
  exact .guarded (.guarded (.cfgFail hs2 ..) hs2) h

theorem idle (h : Canonical s) : Canonical (idle s) := .dueNow (.clocksTq h)

/-! ## Commands -/

/-- The next state of an outcome, where there is one, meets the invariant. -/
def OfNext (o : Out) : Prop := ∀ k, o = .next k → Canonical k.chip

theorem OfNext.next {x : State} (h : Canonical x.chip) : OfNext (.next x) := by
  rintro k ⟨⟩
  exact h

theorem exec (i : Instr) {x : State} (h : Canonical x.chip) : OfNext (Machine.exec i x) := by
  cases i with
  | cSync | cDie | cFrameaddr | cFramewrite | cRegwrite | cRegionbegin | cRegionend | cCheck | cWait | cWaitPoll
  | cWaitRequire | cImageid | cLoadmem | cLoadcodeRentik | cLoadcodeYoke | cEnd => exact .next (.cfgStep h ..)
  | pornFall => exact .next (.pornFall h ..)
  | pornRelease => exact .next (.pornRelease h ..)
  | srstNFall => exact .next (.srstNFall h ..)
  | srstEnd => exact .next (.srstEnd h)
  | perstNAssert => exact .next (.perstNAssert h)
  | dbgPorn => exact .next (.debugReset h)
  | vaonPowerUp => exact .next (.vaonPowerUp h ..)
  | registerWrite => exact .next (.registerWrite h ..)
  | sysCompatWrite | sysGrantWrite | yokeImemWrite | yokeRtoWrite | rdValidWrite => exact .next (.namedWrite h ..)
  | timeExchange => exact .next (.timeExchange h ..)
  | tbrefHoldover => exact .next (.tbrefHoldover h)
  | tbrefLock => exact .next (.tbrefLock h)
  | tickStart => exact .next (.tickStart h ..)
  | acquireEnd => exact .next (.acquireEnd h ..)
  | stitchStart => exact .next (.stitchStart h ..)
  | extendedStitchStart => exact .next (.extendedStitchStart h)
  | extensionDeadline => exact .next (.extensionDeadline h ..)
  | slackStart => exact .next (.slackStart h ..)
  | tickMark => exact .next (.tickMark h ..)
  | tickPredictedStart => exact .next (.tickPredictedStart h ..)
  | tickMarkTimeout => exact .next (.tickMarkTimeout h ..)
  | tickApply | tickRunSet | tickRunClear => exact .next (.whenGranted h (fun _ hm => .tickCtlWrite hm ..) ..)
  | timeSet => exact .next (.whenGranted h (fun _ hm => .timeCtlWrite hm ..) ..)
  | timeNowRead | dfeSnapshotRead => exact .next (.namedRead h ..)
  | ringEnable => exact .next (.whenGranted h (fun _ hm => .ringCtlWrite hm ..) ..)
  | eventRecord => exact .next (.eventRecord h ..)
  | recordMergeRelease => exact .next (.mergeRelease h)
  | yNop => exact .next (.yPlain h (fun _ hm => hm) ..)
  | yEnd => exact .next (.yPlain h (fun _ hm => .yEnds hm ..) ..)
  | yJ | yJr => exact .next (.yPlain h (fun _ hm => .yJump hm ..) ..)
  | yBeq | yBne | yBlt | yBge => exact .next (.yPlain h (fun _ hm => .yBranch hm ..) ..)
  | yJl => exact .next (.yPlain h (fun _ hm => .yJump (.setL hm ..) ..) ..)
  | yAdd | ySub | yAnd | yOr | yXor | yShl | yShr | ySra | yAddi | yOri | yLui | yAndi =>
    exact .next (.yPlain h (fun _ hm => .setL hm ..) ..)
  | yWaitt => exact .next (.yPlain h (fun _ hm => .yWait hm ..) ..)
  | waittResume => exact .next (.waittResume h ..)
  | yRdt => exact .next (.yPlain h (fun _ hm => .yRdt hm ..) ..)
  | yArm =>
    refine .next (.yIssue h (fun _ hm => ?_) ..)
    split
    · exact .pair (.code hm ..)
    · extract_lets r
      have hr : Canonical r.1 := .armFor hm ..
      exact .guardedFst (.pair hr) (.pair (.code hr ..))
  | yFire => exact .next (.yPlain h (fun _ hm => .code (.fireFor hm ..) ..) ..)
  | yAcqst => exact .next (.yPlain h (fun _ hm => .yAcqst hm ..) ..)
  | yDisp => exact .next (.yPlain h (fun _ hm => .yDisp hm ..) ..)
  | yStitch | yUnpick => exact .next (.yPlain h (fun _ hm => .yVerdict hm ..) ..)
  | yDraw => exact .next (.yPlain h (fun _ hm => .yDraw hm ..) ..)
  | yLedger => exact .next (.yPlain h (fun _ hm => .yLedger hm ..) ..)
  | yLdr => exact .next (.yIssue h (fun _ hm => .yLdr hm ..) ..)
  | yStr => exact .next (.yIssue h (fun _ hm => .yStr hm ..) ..)
  | yLdl => exact .next (.yIssue h (fun _ hm => .yLdl hm ..) ..)
  | yStl => exact .next (.yIssue h (fun _ hm => .yStl hm ..) ..)
  | ySend => exact .next (.yPlain h (fun _ hm => .ySend hm ..) ..)
  | yRecv => exact .next (.yPlain h (fun _ hm => .yRecv hm ..) ..)
  | svcWdog => exact .next (.yPlain h (fun _ hm => .svcWdog (.code hm ..) ..) ..)
  | svcEvent => exact .next (.yPlain h (fun _ hm => .code (.raise hm ..) ..) ..)
  | svcNotify => exact .next (.yPlain h (fun _ hm => .code (.signalVector hm ..) ..) ..)
  | svcIlkclr => exact .next (.yPlain h (fun _ hm => .yIlkclr hm ..) ..)
  | yReload => exact .next (.yPlain h (fun _ hm => .yReload hm ..) ..)
  | yokeIllegalOpcode => exact .next (.yPlain h (fun _ hm => .yIllegal hm ..) ..)
  | mailboxMessage => exact .next (.mailArrive h ..)
  | remoteReadRequest | remoteWrite => exact .next (.requestArrives h ..)
  | readResponse => exact .next (.readResponse h ..)
  | remoteAccessTimeout => exact .next (.remoteTimeout h ..)
  | sqTailWrite => exact .next (.whenUp h (fun _ hm => .sqTail hm ..) ..)
  | cqHeadWrite => exact .next (.whenUp h (fun _ hm => .cqHead hm ..) ..)
  | queueEnable => exact .next (.whenUp h (fun _ hm => .guarded (.cqCtl hm ..) (.sqCtl hm ..)) ..)
  | commandFetch => exact .next (.commandFetch h ..)
  | cmdNop t => exact .next (.startCmd h (fun _ c hm => .complete hm t (cmdCompl c 0 0)) ..)
  | cmdRun => exact .next (.cmdRun h ..)
  | cmdRecipe => exact .next (.recipeStart h ..)
  | cmdRecipeStop => exact .next (.recipeStop h ..)
  | cmdRecipeUpdate => exact .next (.recipeUpdate h ..)
  | cmdMove => exact .next (.cmdMove h ..)
  | completionWrite => exact .next (.completionWrite h ..)
  | hostWdogService => exact .next (.guarded (.pageWrite h ..) h)
  | hostLaneRead => exact .next (.hostLaneRead h ..)
  | hostLaneWrite => exact .next (.hostLaneWrite h ..)
  | hspiWrite => exact .next (.guarded (.barWrite h ..) h)
  | hspiRead => exact .next (.guarded (.barRead h ..) h)
  | hspiStatus => exact .next (.guarded (.beside h) h)
  | smbSendByte | smbReceiveByte | smbWriteByte | smbReadByte | smbWriteWord | smbReadWord | smbBlockWrite
  | smbBlockRead => exact .next (.smbStart h ..)
  | smbTransactionEnd => exact .next (.smbEnd h ..)
  | smbTimeout => exact .next (.smbTimeout h)
  | energySample => exact .next (.energySample h ..)
  | energyTotal => exact .next (.energyTotal h ..)
  | energyReportTimer => exact .next (.energyReportTimer h ..)
  | resvHiWrite => exact .next (.whenGranted h (fun _ hm => .resvHi hm ..) ..)
  | resvAdjWrite => exact .next (.whenGranted h (fun _ hm => .resvAdj hm ..) ..)
  | dieCap => exact .next (.dieCap h ..)
  | capWindowEnd => exact .next (.capWindowEnd h ..)
  | sensorUpdate => exact .next (.sensorUpdate h ..)
  | thermalStep => exact .next (.thermalStep h ..)
  | thermalTrip => exact .next (.thermalTrip h ..)
  | basteReport => exact .next (.basteReport h ..)
  | basteReportMsg => exact .next (.basteReportMsg h ..)
  | basteOutcomeSend => exact .next (.basteOutcomeSend h)
  | basteReportTimeout => exact .next (.basteReportTimeout h)
  | basteOutcome => exact .next (.basteOutcome h ..)
  | basteApply => exact .next (.basteApply h ..)
  | basteDrainEntry => exact .next (.basteDrain h ..)
  | shadowWriteback => exact .next (.shadowWriteback h ..)
  | pllEnable => exact .next (.whenGranted h (fun _ hm => .pllSrcWrite hm ..) ..)
  | pllFracWrite => exact .next (.whenGranted h (fun _ hm => .pllFrac hm ..) ..)
  | pllLock => exact .next (.pllLock h ..)
  | pllUnlock => exact .next (.pllUnlock h ..)
  | jcSourceLoss => exact .next (.jcSourceLoss h ..)
  | ckinMeasure => exact .next (.ckinMeasure h ..)
  | ckinLost => exact .next (.ckinLost h ..)
  | gselWrite => exact .next (.whenGranted h (fun _ hm => .gselWrite hm ..) ..)
  | clockSwitchComplete => exact .next (.clockSwitchComplete h ..)
  | fabricResetRelease => exact .next (.fabricResetRelease h ..)
  | regionResetWrite => exact .next (.whenUp h (fun _ hm => .regionCtl hm ..) ..)
  | regionDrained => exact .next (.regionDrained h ..)
  | reloadFramesDone => exact .next (.reloadFramesDone h ..)
  | regionIsolateClear => exact .next (.regionIsolateClear h ..)
  | sportRequest => exact .next (.sportRequest h ..)
  | sportResponse => exact .next (.sportResponse h ..)
  | dportRequest => exact .next (.dportRequest h ..)
  | dportResponse => exact .next (.dportResponse h ..)
  | bmemPortAccess => exact .next (.bmemPortAccess h ..)
  | bmemFifoWrite => exact .next (.bmemFifoWrite h ..)
  | bmemFifoRead => exact .next (.bmemFifoRead h ..)
  | bankReqWrite => exact .next (.whenGranted h (fun _ hm => .bankWrite hm ..) ..)
  | bankStateDone => exact .next (.bankStateDone h ..)
  | bankWakeDone => exact .next (.bankWakeDone h ..)
  | ingestWrite => exact .next (.ingestWrite h ..)
  | liningWipe => exact .next (.whenSuper h (fun _ hm => .liningWipe hm) ..)
  | liningWipeDone => exact .next (.liningWipeDone h ..)
  | moverGo => exact .next (.whenGranted h (fun _ hm => .movCtlWrite hm ..) ..)
  | moverComplete => exact .next (.moverComplete h ..)
  | spadInjectWrite => exact .next (.whenGranted h (fun _ hm => .spadInject hm ..) ..)
  | bmemInjectWrite => exact .next (.whenGranted h (fun _ hm => .bmemInject hm ..) ..)
  | rNop | rLdv | rLdvp | rStv | rStvp | rLds | rSts | rGetl | rPutl | rXld | rXst | rFence | rMac | rMacz | rMsu
  | rMacb | rMacbz | rTapm | rTapmz | rAadd | rAclr | rVadd | rVsub | rMin | rMax | rAbs | rVand | rVor | rVxor
  | rShli | rSrai | rSrar | rMov | rBcst | rSplat | rClt | rCeq | rCmk | rAccn | rAccc | rDivs | rDivf | rSadd
  | rSsub | rSand | rSor | rSxor | rSshl | rSshr | rSaddi | rLi | rLih | rSlt | rSeq | rSpred | rBr | rBz | rBnz
  | rLoop | rLoopw | rSetwb | rMode | rSrdt | rSstim | rDone => exact .next (.issue h ..)
  | iloadCtlWrite => exact .next (.whenGranted h (fun _ hm => .iloadCtl hm ..) ..)
  | iloadDataWrite => exact .next (.whenGranted h (fun _ hm => .iloadData hm ..) ..)
  | acqCtlWrite => exact .next (.whenGranted h (fun _ hm => .acqCtl hm ..) ..)
  | converterReady => exact .next (.converterReady h ..)
  | captureDone => exact .next (.captureDone h ..)
  | pulseEdge => exact .next (.pulseEdge h ..)
  | pulseEnd => exact .next (.pulseEnd h ..)
  | pmonEdge => exact .next (.pmonEdge h ..)
  | pmonWindowExpire => exact .next (.pmonWindowExpire h ..)
  | ilkSample => exact .next (.ilkSample h ..)
  | ilkUnsafe => exact .next (.ilkUnsafe h ..)
  | ilkDiscrepancyTimeout => exact .next (.ilkTimeout h)
  | ilkClearWrite => exact .next (.whenSuper h (fun _ hm => .ilkClear hm) ..)
  | ilkTdWrite => exact .next (.whenSuper h (fun _ hm => .ilkTd hm ..) ..)
  | psenseEnWrite | psenseRecapture => exact .next (.whenGranted h (fun _ hm => .psenseCtl hm ..) ..)
  | psenseScan => exact .next (.psenseScan h ..)
  | psenseFrame => exact .next (.psenseFrame h)
  | pleatOutputEnd => exact .next (.outputEnd h ..)
  | pleatSetEnable => exact .next (.whenGranted h (fun _ hm => .setCtlWrite hm ..) ..)
  | pleatSetRestart => exact .next (.whenGranted h (fun _ hm => .guarded hm (.restartSet hm ..)) ..)
  | pleatJobGo => exact .next (.whenGranted h (fun _ hm => .jobCtlWrite hm ..) ..)
  | pleatJobStart => exact .next (.pleatJobStart h ..)
  | pleatJobEnd => exact .next (.pleatJobEnd h ..)
  | laneReqWrite => exact .next (.whenGranted h (fun _ hm => .leadWrite hm (fun _ hn => .laneCtl hn ..) ..) ..)
  | laneApply =>
    exact .next (.whenGranted h (fun _ hm => .leadWrite (.setFld (.setFld hm ..) ..) (fun _ hn => .laneCtl hn ..) ..)
      ..)
  | laneStateDone => exact .next (.laneStateDone h ..)
  | laneDemand => exact .next (.whenUp h (fun _ hm => .laneDemand hm ..) ..)
  | laneLockLoss => exact .next (.laneLockLoss h ..)
  | lanePllUnlock => exact .next (.lanePllUnlock h ..)
  | dfeAdapt => exact .next (.dfeAdapt h ..)
  | dfeTapWrite => exact .next (.whenGranted h (fun _ hm => .laneWrite hm (fun _ hn => .dfeTap hn ..) ..) ..)
  | dfeReset => exact .next (.whenGranted h (fun _ hm => .laneWrite hm (fun _ hn => .clearTaps hn ..) ..) ..)
  | txfirWrite => exact .next (.whenGranted h (fun _ hm => .laneWrite hm (fun _ hn => .txfirWrite hn ..) ..) ..)
  | ctleWrite => exact .next (.whenGranted h (fun _ hm => .laneWrite hm (fun _ hn => .ctleWrite hn ..) ..) ..)
  | prbsBitsRead => exact .next (.prbsRead h ..)
  | eyeScanGo => exact .next (.whenGranted h (fun _ hm => .eyeWrite hm ..) ..)
  | eyeScanDone => exact .next (.eyeScanDone h ..)
  | pcsHiber => exact .next (.pcsHiber h ..)
  | flowTxreqWrite =>
    exact .next (.whenUp h (fun _ hm => .guarded hm (.guarded (.txreqWrite hm ..) (.refusedWrite hm ..))) ..)
  | flowTxFrame => exact .next (.flowTxFrame h ..)
  | flowRxFrame => exact .next (.flowRxFrame h ..)
  | flowEnable => exact .next (.whenGranted h (fun _ hm => .flowCtlWrite hm ..) ..)
  | flowRvWrite => exact .next (.whenGranted h (fun _ hm => .rvWrite hm ..) ..)
  | flowAliveWrite => exact .next (.whenGranted h (fun _ hm => .aliveWrite hm ..) ..)
  | chkDataWrite => exact .next (.whenGranted h (fun _ hm => .chkData hm ..) ..)
  | chkRestart => exact .next (.whenGranted h (fun _ hm => .setFld hm ..) ..)
  | chkAlgWrite => exact .next (.whenGranted h (fun _ hm => .chkCfgWrite hm ..) ..)
  | dramRead => exact .next (.dramRead h ..)
  | dramWrite => exact .next (.dramWrite h ..)
  | mergeFlush => exact .next (.mergeFlush h ..)
  | regulatorRefill => exact .next (.regulatorRefill h ..)
  | refreshDue => exact .next (.refreshDue h ..)
  | mr4Poll => exact .next (.mr4Poll h ..)
  | retrainDue => exact .next (.retrainDue h ..)
  | patrolRead => exact .next (.patrolRead h ..)
  | dramInit => exact .next (.dramInit h ..)
  | dramInitDone => exact .next (.dramInitDone h ..)
  | dramClear => exact .next (.dramClear h ..)
  | dramClearDone => exact .next (.dramClearDone h ..)
  | dramFence => exact .next (.dramFence h ..)
  | dramSelfRefresh => exact .next (.dramSelfRefresh h ..)
  | dramSrExit => exact .next (.dramSrExit h ..)
  | dramEnable => exact .next (.dramEnable h ..)
  | dramMarkWrite => exact .next (.dramMarkWrite h ..)
  | linkTrainingDone => exact .next (.linkTrainingDone h ..)
  | flitReceive => exact .next (.flitReceive h ..)
  | flitCrcFail => exact .next (.flitCrcFail h ..)
  | flitAck => exact .next (.flitAck h ..)
  | linkRetryTimeout => exact .next (.linkRetryTimeout h ..)
  | linkRetrain => exact .next (.whenSuper h (fun _ hm => .linkRetrain hm ..) ..)
  | linkInject => exact .next (.whenGranted h (fun _ hm => .linkInject hm ..) ..)
  | groupEnable => exact .next (.whenGranted h (fun _ hm => .groupEnable hm ..) ..)
  | groupJoin => exact .next (.whenSuper h (fun _ hm => .groupJoin hm) ..)
  | joinRequest => exact .next (.joinRequest h ..)
  | groupLeave => exact .next (.whenSuper h (fun _ hm => .groupLeave hm) ..)
  | cfgLoadStart => exact .next (.cfgLoadStart h ..)
  | cfgLoad => exact .next (.cfgLoad h ..)
  | cfgDataWrite => exact .next (.cfgDataWrite h ..)
  | cfgHeader => exact .next (.cfgHeader h ..)
  | cfgChunk => exact .next (.cfgChunk h ..)
  | cfgSourceLost => exact .next (.cfgSourceLost h ..)
  | waitElapsed => exact .next (.waitElapsed h ..)
  | waitPollRead => exact .next (.waitPollRead h ..)
  | configForward => exact .next (.configForward h ..)
  | cfgRelease => exact .next (.cfgRelease h)
  | cfgFallback => exact .next (.cfgFallback h)
  | darnerFrameCheck => exact .next (.frameCheck h ..)
  | darnerMemRead => exact .next (.memRead h ..)
  | darnerPassEnd => exact .next (.passEnd h ..)
  | flashRead | flashProgram | flashErase4k | flashErase64k => exact .next (.flashOp h ..)
  | flashOpDone => exact .next (.flashOpDone h ..)
  | lifecycleTransition => exact .next (.lcRequest h ..)
  | lcRowProgrammed => exact .next (.lcRowProgrammed h ..)
  | hemProgram => exact .next (.hemProgram h ..)
  | hemProgramDone => exact .next (.hemProgramDone h ..)
  | tamperTrip => exact .next (.tamperTrip h ..)
  | tamperEnWrite => exact .next (.tamperEn h ..)
  | bbkeyCommit => exact .next (.bbkeyCommit h ..)
  | bbkeyErase => exact .next (.bbkeyErase h ..)
  | tamperLogClear => exact .next (.tamperLogClear h ..)
  | wdogEnable => exact .next (.wdogEnable h ..)
  | wdogWindowOpen => exact .next (.wdogWindowOpen h ..)
  | wdogExpire => exact .next (.wdogExpire h ..)
  | wdoutPulseEnd => exact .next (.wdoutPulseEnd h ..)
  | debugRead | debugWrite => exact .next (.debugGo h ..)
  | debugAccessDone => exact .next (.debugAccessDone h ..)
  | yokeHalt => exact .next (.whenDebug h (fun _ hm => .yokeHalt hm ..) ..)
  | yokeResume => exact .next (.whenDebug h (fun _ hm => .yokeResume hm ..) ..)
  | yokeStep => exact .next (.whenDebug h (fun _ hm => .yokeStep hm ..) ..)
  | clusterHalt => exact .next (.whenDebug h (fun _ hm => .onSet hm (fun _ d c hn => .haltOne hn d c) ..) ..)
  | clusterResume => exact .next (.whenDebug h (fun _ hm => .onSet hm (fun _ d c hn => .resumeOne hn d c) ..) ..)
  | clusterStep => exact .next (.whenDebug h (fun _ hm => .onSet hm (fun _ d c hn => .stepOne hn d c) ..) ..)
  | yregWrite => exact .next (.whenDebug h (fun _ hm => .yregWrite hm ..) ..)
  | clselRead | clselWrite => exact .next (.whenDebug h (fun _ hm => .clselGo hm ..) ..)
  | authNewchal => exact .next (.whenSuper h (fun _ hm => .authNewchal hm) ..)
  | authGo => exact .next (.whenSuper h (fun _ hm => .authGo hm) ..)
  | authDone => exact .next (.whenUp h (fun _ hm => .authDone hm) ..)
  | traceCtlWrite => exact .next (.whenDebug h (fun _ hm => .traceCtlWrite hm ..) ..)
  | tapReset => exact .next (.tapReset h)
  | tapExtest | tapHighz | tapClamp | tapBypass => exact .next (.whenTap h (fun _ hm => .tapSelect hm ..) ..)
  | tapSample => exact .next (.tapSample h ..)
  | tapIdcode => exact .next (.tapIdcode h ..)
  | tapDbgaccRead | tapDbgaccWrite => exact .next (.tapDbgacc h ..)
  | tapCfgdata => exact .next (.tapCfgdata h ..)
  | railChange => exact .next (.railChange h ..)
  | railLowTimeout => exact .next (.railLowTimeout h ..)
  | railOkTimeout => exact .next (.railOkTimeout h ..)
  | brownoutDip => exact .next (.brownoutDip h ..)
  | brownoutRestart => exact .next (.brownoutRestart h ..)
  | alarmClear => exact .next (.whenSuper h (fun _ hm => .alarmWrite hm ..) ..)
  | aolClear => exact .next (.whenSuper h (fun _ hm => .aolEmpty hm) ..)
  | tamperConditionEnd => exact .next (.tamperEnds h ..)
  | vaonLoss => exact .next (.vaonLoss h ..)
  | perstNRelease => exact .next (.perstNRelease h)
  | pcieLinkUp => exact .next (.pcieLinkUp h ..)
  | msixVectorUnmask => exact .next (.guarded (.unmaskVector h ..) h)
  | registerRead => exact .next (.registerRead h ..)
  | laneCdrLock => exact .next (.laneCdrLock h ..)
  | lanePllRelock => exact .next (.lanePllRelock h ..)
  | prbsCheckerLock => exact .next (.prbsCheckerLock h ..)
  | pcsBlockLock => exact .next (.pcsBlockLock h ..)
  | tracePortSend => exact .next (.tracePortSend h)
  | skippedTickMark => exact .next (.skippedTickMark h)
  | clusterQuiet => exact .next (.clusterQuiet h ..)
  | xAccessComplete => exact .next (.xAccessComplete h ..)

/-- What falls due in an idle tq, or the command at the front of the queue. -/
theorem step {x : State} (h : Canonical x.chip) : OfNext (Machine.step x) := by
  unfold Machine.step
  split
  · exact .next h.idle
  · exact .exec _ h

end Canonical

end Sys2Proof.Machine

namespace Sys2Proof.Says

open Sys2Proof.Machine

/-- Settles O59: every function of the model that changes the S9 keeps the invariant, so each command does, and so does
what falls due in an idle tq. -/
theorem stepKeepsCanonicalForm : Obligations.StepKeepsCanonicalForm := by
  unfold Obligations.StepKeepsCanonicalForm
  intro s k hs hk
  rw [inv_iff_canonical] at hs ⊢
  exact hs.step k hk

end Sys2Proof.Says
end

section
/-! Scratchpad banks, block memories at their fabric ports, error injection and Lining wipes: what their operations do,
and what the fields and words they name hold afterwards. -/

namespace Sys2Proof.Machine

/-! ### Fields -/

theorem Chip.fld_lt (s : Chip) (d : Fin 4) (f : Fld) : s.fld d f < 2 ^ f.w := getBits_lt ..

/-- A field of register `i` of a family reads what was stored in it. -/
theorem Chip.fld_setFld_at_same (s : Chip) (d : Fin 4) {f : Fld} (i : Nat) {v : Nat} (h : f.lo + f.w ≤ 32)
    (hv : v < 2 ^ f.w) : (s.setFld d (f.at i) v).fld d (f.at i) = v :=
  (Chip.fld_setFld_same s d (f.at i) v h).trans (Nat.mod_eq_of_lt hv)

/-- Three fields of one register, stored in their order, hold what was stored, and no store of memory changes. -/
theorem Chip.stored_three (s : Chip) (d : Fin 4) {f g h : Fld} {a b c : Nat} (hfg : f.lo + f.w ≤ g.lo)
    (hgh : g.lo + g.w ≤ h.lo) (hh : h.lo + h.w ≤ 32) (hkf : f.key = h.key) (hkg : g.key = h.key)
    (ha : a < 2 ^ f.w) (hb : b < 2 ^ g.w) (hc : c < 2 ^ h.w) :
    let x := ((s.setFld d f a).setFld d g b).setFld d h c
    x.fld d f = a ∧ x.fld d g = b ∧ x.fld d h = c ∧ Says.StoresKept s x := by
  refine ⟨?_, ?_, ?_, ?_⟩
  · rw [fld_setFld_disjoint _ d _ hkf hh (.inl (by omega)),
      fld_setFld_disjoint _ d _ (hkf.trans hkg.symm) (by omega) (.inl hfg), fld_setFld_same _ d f _ (by omega),
      Nat.mod_eq_of_lt ha]
  · rw [fld_setFld_disjoint _ d _ hkg hh (.inl hgh), fld_setFld_same _ d g _ (by omega), Nat.mod_eq_of_lt hb]
  · rw [fld_setFld_same _ d h _ hh, Nat.mod_eq_of_lt hc]
  · have h1 := (Says.RegChange.refl d [h.key] s).setFld (List.mem_singleton.2 hkf) a
    have h3 := (h1.setFld (List.mem_singleton.2 hkg) b).setFld (List.mem_singleton.2 rfl) c
    obtain ⟨honly, -⟩ := h3
    exact honly.storesKept

section
variable {s : Chip} {d : Fin 4}

/-! ### Scratchpad banks (R360 to R362) -/

/-- The state that a write of SPAD.BANK_k asks for: 3 in REQ stores 0 (R376). -/
def bankReq (v : Word) : Nat := if getBits v 0 2 = 3 then 0 else getBits v 0 2

theorem bankReq_lt (v : Word) : bankReq v < 4 := by
  have h : getBits v 0 2 < 2 ^ 2 := getBits_lt ..
  unfold bankReq
  split <;> omega

/-- The S9 after a write of SPAD.BANK_k has stored its fields, before the bank moves. -/
def bankTaken (s : Chip) (d : Fin 4) (k : Nat) (v : Word) : Chip :=
  let s := (s.setFld d (Rf.SPAD_BANK_REQ.at k) (bankReq v)).setFld d (Rf.SPAD_BANK_CAPRET.at k) (getBits v 2 1)
  if getBits v 7 1 = 1 then s.setFld d (Rf.SPAD_BANK_AUTOWOKE.at k) 0 else s

theorem bankWrite_eq (s : Chip) (d : Fin 4) (k : Nat) (v : Word) :
    bankWrite s d k v = moveBank (bankTaken s d k v) d k (bankReq v) := rfl

theorem state_bankTaken (s : Chip) (d : Fin 4) (k : Nat) (v : Word) :
    (bankTaken s d k v).fld d (Rf.SPAD_BANK_STATE.at k) = s.fld d (Rf.SPAD_BANK_STATE.at k) := by
  have hstored : ((s.setFld d (Rf.SPAD_BANK_REQ.at k) (bankReq v)).setFld d (Rf.SPAD_BANK_CAPRET.at k)
      (getBits v 2 1)).fld d (Rf.SPAD_BANK_STATE.at k) = s.fld d (Rf.SPAD_BANK_STATE.at k) := by
    rw [Chip.fld_setFld_at_disjoint (f := Rf.SPAD_BANK_CAPRET) (g := Rf.SPAD_BANK_STATE) _ _ _ _ rfl (by decide)
        (by decide),
      Chip.fld_setFld_at_disjoint (f := Rf.SPAD_BANK_REQ) (g := Rf.SPAD_BANK_STATE) _ _ _ _ rfl (by decide) (by decide)]
  unfold bankTaken
  split
  · rw [Chip.fld_setFld_at_disjoint (f := Rf.SPAD_BANK_AUTOWOKE) (g := Rf.SPAD_BANK_STATE) _ _ _ _ rfl (by decide)
      (by decide), hstored]
  · exact hstored

theorem req_bankTaken (s : Chip) (d : Fin 4) (k : Nat) (v : Word) :
    (bankTaken s d k v).fld d (Rf.SPAD_BANK_REQ.at k) = bankReq v := by
  have hstored : ((s.setFld d (Rf.SPAD_BANK_REQ.at k) (bankReq v)).setFld d (Rf.SPAD_BANK_CAPRET.at k)
      (getBits v 2 1)).fld d (Rf.SPAD_BANK_REQ.at k) = bankReq v := by
    rw [Chip.fld_setFld_at_disjoint (f := Rf.SPAD_BANK_CAPRET) (g := Rf.SPAD_BANK_REQ) _ _ _ _ rfl (by decide)
      (by decide)]
    exact Chip.fld_setFld_at_same s d k (by decide) (bankReq_lt v)
  unfold bankTaken
  split
  · rw [Chip.fld_setFld_at_disjoint (f := Rf.SPAD_BANK_AUTOWOKE) (g := Rf.SPAD_BANK_REQ) _ _ _ _ rfl (by decide)
      (by decide), hstored]
  · exact hstored

theorem bankCovered_bankTaken (s : Chip) (d : Fin 4) (k : Nat) (v : Word) :
    bankCovered (bankTaken s d k v) d k = bankCovered s d k := by
  unfold bankTaken
  split <;> simp [bankCovered]

theorem Chip.fld_setBankTo (s : Chip) (d e : Fin 4) (k v : Nat) (f : Fld) : (setBankTo s d k v).fld e f = s.fld e f :=
  congrArg (getBits · f.lo f.w) (reg_upd s d e f.key _ fun _ => rfl)

/-- A bank that no capture holds ON goes through its transition to the state asked for. -/
theorem moveBank_moves {k v : Nat} (hne : s.fld d (Rf.SPAD_BANK_STATE.at k) ≠ v)
    (hc : s.fld d (Rf.SPAD_BANK_STATE.at k) = 0 → bankCovered s d k = false) :
    moveBank s d k v =
      ((setBankTo s d k v).setFld d (Rf.SPAD_BANK_STATE.at k) 3).setFld d (Rf.SPAD_BANK_HELD.at k) 0 := by
  have hfree : ¬ (s.fld d (Rf.SPAD_BANK_STATE.at k) = 0 ∧ bankCovered s d k = true) := by
    rintro ⟨h0, hcov⟩
    simp [hc h0] at hcov
  rw [moveBank, if_neg hne, if_neg hfree]

theorem moveBank_shows {k v : Nat} (hne : s.fld d (Rf.SPAD_BANK_STATE.at k) ≠ v)
    (hc : s.fld d (Rf.SPAD_BANK_STATE.at k) = 0 → bankCovered s d k = false) :
    (moveBank s d k v).fld d (Rf.SPAD_BANK_REQ.at k) = s.fld d (Rf.SPAD_BANK_REQ.at k) ∧
      (moveBank s d k v).fld d (Rf.SPAD_BANK_STATE.at k) = 3 ∧
      mapGet (fun _ => 0) ((moveBank s d k v).d d).bankTo k = v := by
  rw [moveBank_moves hne hc]
  refine ⟨?_, ?_, ?_⟩
  · rw [Chip.fld_setFld_at_disjoint (f := Rf.SPAD_BANK_HELD) (g := Rf.SPAD_BANK_REQ) _ _ _ _ rfl (by decide)
        (by decide),
      Chip.fld_setFld_at_disjoint (f := Rf.SPAD_BANK_STATE) (g := Rf.SPAD_BANK_REQ) _ _ _ _ rfl (by decide) (by decide),
      Chip.fld_setBankTo]
  · rw [Chip.fld_setFld_at_disjoint (f := Rf.SPAD_BANK_HELD) (g := Rf.SPAD_BANK_STATE) _ _ _ _ rfl (by decide)
      (by decide)]
    exact Chip.fld_setFld_at_same _ d k (by decide) (by decide)
  · simp [setBankTo]

/-- A write of SPAD.BANK_k that asks for another state starts the bank's transition to it. -/
theorem bankWrite_shows {k : Nat} {v : Word} (hne : s.fld d (Rf.SPAD_BANK_STATE.at k) ≠ bankReq v)
    (hc : s.fld d (Rf.SPAD_BANK_STATE.at k) = 0 → bankCovered s d k = false) :
    (bankWrite s d k v).fld d (Rf.SPAD_BANK_REQ.at k) = bankReq v ∧
      (bankWrite s d k v).fld d (Rf.SPAD_BANK_STATE.at k) = 3 ∧
      mapGet (fun _ => 0) ((bankWrite s d k v).d d).bankTo k = bankReq v := by
  rw [← state_bankTaken s d k v] at hne hc
  rw [← bankCovered_bankTaken s d k v] at hc
  obtain ⟨hreq, hstate, hto⟩ := moveBank_shows hne hc
  exact ⟨hreq.trans (req_bankTaken s d k v), hstate, hto⟩

/-- The entries of a map whose keys pass a test read as before; the others read as unwritten. -/
theorem mapGet_filter {α : Type} (dflt : Nat → α) (p : Nat → Bool) (m : SMap α) (j : Nat) :
    mapGet dflt (m.filter fun e => p e.1) j = if p j then mapGet dflt m j else dflt j := by
  induction m with
  | nil => simp [mapGet]
  | cons e m ih =>
    obtain ⟨i, v⟩ := e
    by_cases hp : p i = true <;> by_cases hi : i = j
    · subst hi; simp [mapGet, hp]
    · simp [mapGet, hp, hi, ih]
    · subst hi; simp [hp, ih]
    · simp [mapGet, hp, hi, ih]

/-- The words of a bank that keeps none are unwritten; those of the other banks stay. -/
theorem word_loseBank (s : Chip) (d : Fin 4) (k j : Nat) :
    (loseBank s d k).word d .spad j = if j % 32 = k then {} else s.word d .spad j := by
  simp only [loseBank, Chip.word, Chip.d_upd_same, DieSt.mem, mapGet_filter word0 (fun i => i % 32 != k)]
  by_cases h : j % 32 = k <;> simp [h, word0]

theorem Chip.word_setFld (s : Chip) (d e : Fin 4) (f : Fld) (v : Nat) (m : Mem) (j : Nat) :
    (s.setFld d f v).word e m j = s.word e m j := by
  cases m <;> simp [word, DieSt.mem]

theorem fld_loseBank (s : Chip) (d e : Fin 4) (k : Nat) (f : Fld) : (loseBank s d k).fld e f = s.fld e f :=
  congrArg (getBits · f.lo f.w) (Chip.reg_upd s d e f.key _ fun _ => rfl)

section
variable (hup : up s d = true) {k : Fin 32} (hs : s.fld d (Rf.SPAD_BANK_STATE.at k.val) = 3)
include hup hs

theorem bankStateDone_retain (hto : mapGet (fun _ => 0) (s.d d).bankTo k.val = 1) :
    bankStateDone d k s = s.setFld d (Rf.SPAD_BANK_STATE.at k.val) 1 := by
  simp [bankStateDone, whenUp_of_up hup, hs, hto]

theorem bankStateDone_off (hto : mapGet (fun _ => 0) (s.d d).bankTo k.val = 2) :
    bankStateDone d k s = loseBank (s.setFld d (Rf.SPAD_BANK_STATE.at k.val) 2) d k.val := by
  simp [bankStateDone, whenUp_of_up hup, hs, hto]

/-- A bank that has woken is ON, and no word waited for it. -/
theorem bankWakeDone_on (hto : mapGet (fun _ => 0) (s.d d).bankTo k.val = 0) (hq : (s.d d).ingestQ = []) :
    bankWakeDone d k s = s.setFld d (Rf.SPAD_BANK_STATE.at k.val) 0 := by
  simp [bankWakeDone, whenUp_of_up hup, hs, hto, hq, drainIngest]

end

/-! ### Block memories (R350 to R353) -/

theorem fifoAt_setFld (s : Chip) (d : Fin 4) (f : Fld) (v b : Nat) :
    fifoAt (s.setFld d f v) d b = fifoAt s d b := by
  simp [fifoAt]

theorem fifoAt_setFifo_same (s : Chip) (d : Fin 4) (b : Nat) (f : FifoSt) : fifoAt (setFifo s d b f) d b = f := by
  simp [fifoAt, setFifo]

section
variable (hup : up s d = true) {b : Fin 1536}
include hup

theorem bmemPortAccess_write (hf : isFifo s d b.val = false) (w : Fin 1024) (en : BitVec 4) (data : BitVec 56) :
    bmemPortAccess d b true w en data s = (writeWord s d .bmem (1024 * b.val + w.val) en.toNat data .plain).1 := by
  simp [bmemPortAccess, whenUp_of_up hup, hf]

theorem bmemPortAccess_read (hf : isFifo s d b.val = false) (w : Fin 1024) (en : BitVec 4) (data : BitVec 56) :
    (bmemPortAccess d b false w en data s).reply =
      laneReply (readWord s d .bmem (1024 * b.val + w.val) 15 .far).2 := by
  simp [bmemPortAccess, whenUp_of_up hup, hf]

variable (hf : isFifo s d b.val = true)
include hf

/-- A FIFO with room takes a word: COUNT counts it. -/
theorem count_bmemFifoWrite (data : BitVec 56) (hn : s.fld d (Rf.BMEM_MODE_COUNT.at b.val) < 1024) :
    (bmemFifoWrite d b data s).fld d (Rf.BMEM_MODE_COUNT.at b.val) = s.fld d (Rf.BMEM_MODE_COUNT.at b.val) + 1 := by
  simp only [bmemFifoWrite, whenUp_of_up hup, hf, Bool.not_true, Bool.false_eq_true, if_false, if_neg (Nat.not_le.2 hn)]
  exact Chip.fld_setFld_at_same _ d b.val (by decide)
    (show _ + 1 < 2 ^ 11 by omega)

/-- A full FIFO drops the word and shows overflow. -/
theorem bmemFifoWrite_full (data : BitVec 56) (hn : 1024 ≤ s.fld d (Rf.BMEM_MODE_COUNT.at b.val)) :
    bmemFifoWrite d b data s = s.setFld d (Rf.BMEM_MODE_OVERFLOW.at b.val) 1 := by
  simp only [bmemFifoWrite, whenUp_of_up hup, hf, Bool.not_true, Bool.false_eq_true, if_false, if_pos hn]

/-- An empty FIFO gives its last word again and shows underflow. -/
theorem bmemFifoRead_empty (hn : s.fld d (Rf.BMEM_MODE_COUNT.at b.val) = 0) :
    bmemFifoRead d b s =
      { s.setFld d (Rf.BMEM_MODE_UNDERFLOW.at b.val) 1 with reply := .lanes (fifoAt s d b.val).last } := by
  simp only [bmemFifoRead, whenUp_of_up hup, hf, Bool.not_true, Bool.false_eq_true, if_false, if_pos hn]

/-- A FIFO that holds words gives the oldest, and its head moves on. -/
theorem bmemFifoRead_oldest {q : Quadlane} {y : Bool} (hn : 0 < s.fld d (Rf.BMEM_MODE_COUNT.at b.val))
    (hr : (readWord s d .bmem (1024 * b.val + (fifoAt s d b.val).head) 15 .far).2 = .val q y) :
    let x := bmemFifoRead d b s
    x.reply = .lanes q ∧ x.fld d (Rf.BMEM_MODE_COUNT.at b.val) = s.fld d (Rf.BMEM_MODE_COUNT.at b.val) - 1 ∧
      fifoAt x d b.val = { head := ((fifoAt s d b.val).head + 1) % 1024, last := q } := by
  have hlt := Chip.fld_lt s d (Rf.BMEM_MODE_COUNT.at b.val)
  simp only [bmemFifoRead, whenUp_of_up hup, hf, Bool.not_true, Bool.false_eq_true, if_false, if_neg hn.ne', hr]
  refine ⟨rfl, ?_, ?_⟩
  · exact Chip.fld_setFld_at_same (f := Rf.BMEM_MODE_COUNT) _ d b.val (by decide) (lt_of_le_of_lt (Nat.sub_le ..) hlt)
  · exact (fifoAt_setFld ..).trans (fifoAt_setFifo_same ..)

end

/-! ### Lining wipes (R368, R369, R391) -/

theorem present_lining (s : Chip) (d : Fin 4) : present s d Rf.LINING_CTL_WIPE.unit = true :=
  present_of_carried s (by simp [carried, Rf.LINING_CTL_WIPE]) rfl

theorem wiping_beginWipe (s : Chip) (d e : Fin 4) (cause : Nat) :
    (beginWipe s d cause).fld e Rf.LINING_STAT_WIPING = if e = d then 1 else s.fld e Rf.LINING_STAT_WIPING := by
  unfold beginWipe
  by_cases h : e = d
  · subst h
    rw [if_pos rfl]
    exact Chip.fld_setFld_same _ e Rf.LINING_STAT_WIPING _ (by decide)
  · rw [if_neg h, Chip.fld_setFld_ne _ _ (.inl h)]
    split
    · rfl
    · exact Chip.fld_setFld_ne _ _ (.inl h)

theorem cfgLoading_beginWipe (s : Chip) (d : Fin 4) (cause : Nat) :
    cfgLoading (beginWipe s d cause) = cfgLoading s := by
  have hset (m : Chip) {f : Fld} (v : Nat) (h : Rf.CFG_STAT_STATE.key ≠ f.key) :
      cfgLoading (m.setFld d f v) = cfgLoading m := by simp [cfgLoading, Chip.fld_setFld_ne m v (.inr h)]
  unfold beginWipe
  rw [hset _ _ (by decide)]
  split
  · rfl
  · exact hset _ _ (by decide)

/-- A wipe that begins on a list of dies runs on each of them, and on those where one ran. -/
theorem wiping_beginWipes (cause : Fin 4 → Nat) (l : List (Fin 4)) (e : Fin 4)
    (h : e ∈ l ∨ s.fld e Rf.LINING_STAT_WIPING = 1) :
    (overAll (fun s e => beginWipe s e (cause e)) s l).fld e Rf.LINING_STAT_WIPING = 1 := by
  induction l generalizing s with
  | nil => exact h.resolve_left List.not_mem_nil
  | cons a l ih =>
    refine ih ?_
    rw [wiping_beginWipe]
    by_cases he : e = a
    · exact .inr (if_pos he)
    · rw [if_neg he]
      exact h.imp_left fun hm => (List.mem_cons.1 hm).resolve_left he

/-- Outside a load a wipe runs on every die. -/
theorem wiping_liningWipe (h : cfgLoading s = false) (e : Fin 4) :
    (liningWipe s).fld e Rf.LINING_STAT_WIPING = 1 := by
  have hload : cfgLoading (overAll (fun s e => beginWipe s e 4) s dies) = false :=
    overAll_keeps (fun m => cfgLoading m = false) _ (fun m a hm => (cfgLoading_beginWipe m a 4).trans hm) s dies h
  rw [liningWipe, wipeLining, cfgWiped, cfgEndIf, hload, if_neg (by decide)]
  exact wiping_beginWipes _ _ e (.inl (by fin_cases e <;> decide))

theorem lining_raise (s : Chip) (d e : Fin 4) (src kind : Nat) (t : Fin 256) (pay : Nat) :
    ((raise s d src kind t pay).d e).lining = (s.d e).lining :=
  (congrArg DieSt.lining ((Says.onlyRegs_sendRec s d (mkRec s d src kind t pay false false)).1 e) :)

/-- The end of a wipe leaves no word in the Lining, says that it was wiped and sends the record. -/
theorem endWipe_shows (s : Chip) (d : Fin 4) :
    let x := endWipe s d
    (x.d d).lining = [] ∧ x.fld d Rf.LINING_STAT_WIPING = 0 ∧ x.fld d Rf.LINING_STAT_WIPED = 1 ∧
      Says.Sent x d K.LINWIPE 0 := by
  unfold endWipe
  refine ⟨?_, ?_, ?_, Says.sent_raise ..⟩
  · rw [lining_raise]
    simp [Chip.addFld]
  · rw [fld_raise _ _ _ _ _ _ _ (by decide), Chip.addFld, Chip.fld_setFld_ne _ _ (.inr (by decide)),
      Chip.fld_setFld_disjoint (f := Rf.LINING_STAT_WIPED) (g := Rf.LINING_STAT_WIPING) _ d _ rfl (by decide)
        (by decide),
      Chip.fld_setFld_same _ d _ _ (by decide)]
    rfl
  · rw [fld_raise _ _ _ _ _ _ _ (by decide), Chip.addFld, Chip.fld_setFld_ne _ _ (.inr (by decide)),
      Chip.fld_setFld_same _ d _ _ (by decide)]
    rfl

theorem liningWipeDone_wiping (hup : up s d = true) (h : s.flag d Rf.LINING_STAT_WIPING = true) :
    liningWipeDone d s = endWipe s d := by
  rw [liningWipeDone, whenUp_of_up hup, if_pos h]

/-! ### Writes of the supervisor's -/

section
variable (hup : up s d = true) {f : Fld} (hp : present s d f.unit = true)
include hup hp

theorem whenSuper_supervisor (k : Chip → Chip) : whenSuper s d 0 f k = k s := by simp [whenSuper, hup, hp]

theorem whenSuper_refused {t : Fin 256} (ht : t ≠ 0) (k : Chip → Chip) :
    whenSuper s d t f k = refusedWrite s d t f := by simp [whenSuper, hup, hp, ht]

end

end

end Sys2Proof.Machine

namespace Sys2Proof.Says

open Sys2Proof.Machine

/-- Settles O30: the kind of the block memory and its COUNT, the state and destination of the bank, and the sender of the
write choose the branch; the fields of one register do not meet. -/
theorem laneMemoryCommandsAct : Obligations.LaneMemoryCommandsAct := by
  unfold Obligations.LaneMemoryCommandsAct
  intro t d b portB w en data k v s hup
  refine ⟨fun hf => ?_, fun q y hf hr => ?_, fun hf hn => ?_, fun hf hn => ?_, fun hf hn => ?_, fun q y hf hn hr => ?_,
    fun hg hne hc => ?_, fun hs hd => ?_, fun hs hd => ?_, fun hs hd hq => ?_, fun hg => ?_, fun hg => ?_, fun hl => ?_,
    fun ht => ?_, fun hw => ?_⟩
  · exact .of_effect rfl (bmemPortAccess_write hup hf w en data)
  · exact .of_effect rfl rfl ((bmemPortAccess_read hup hf w en data).trans (by rw [hr]; rfl))
  · exact .of_effect rfl rfl (count_bmemFifoWrite hup hf data hn)
  · exact .of_effect rfl (bmemFifoWrite_full hup hf data hn)
  · exact .of_effect rfl (bmemFifoRead_empty hup hf hn)
  · exact .of_effect rfl rfl (bmemFifoRead_oldest hup hf hn hr)
  · exact .of_effect rfl (whenGranted_granted ⟨hup, hg⟩ _) (bankWrite_shows hne hc)
  · exact .of_effect rfl (bankStateDone_retain hup hs hd)
  · exact .of_effect rfl (bankStateDone_off hup hs hd) ⟨(fld_loseBank ..).trans
      (Chip.fld_setFld_at_same _ d k.val (by decide) (by decide)), fun j => (word_loseBank ..).trans
        (by rw [Chip.word_setFld])⟩
  · exact .of_effect rfl (bankWakeDone_on hup hs hd hq)
  · exact .of_effect rfl (whenGranted_granted ⟨hup, hg⟩ _) (Chip.stored_three s.chip d (by decide) (by decide)
      (by decide) rfl rfl (getBits_lt ..) (getBits_lt ..) (getBits_lt ..))
  · exact .of_effect rfl (whenGranted_granted ⟨hup, hg⟩ _) (Chip.stored_three s.chip d (by decide) (by decide)
      (by decide) rfl rfl (getBits_lt ..) (getBits_lt ..) (getBits_lt ..))
  · exact .of_effect rfl (whenSuper_supervisor hup (present_lining ..) _) (wiping_liningWipe hl)
  · exact .of_effect rfl (whenSuper_refused hup (present_lining ..) ht _)
  · exact .of_effect rfl (liningWipeDone_wiping hup hw) (endWipe_shows ..)

end Sys2Proof.Says
end

section
/-! Rentik registers after a write, and the formats of lane and accumulator results (R395 to R401, R414, R421). -/

namespace Sys2Proof.Machine

/-! ### Lanes of a vector -/

@[simp] theorem Lanes.get_ofFn {α : Type} (f : Nat → α) {j : Nat} (h : j < 16) : (Lanes.ofFn f).get j = f j := by
  interval_cases j <;> rfl

/-! ### Reads of a register after a write of a bundle (R395, R396, R414) -/

section
variable (x : Cluster)

theorem vk_apply_vec (k k' mask : Nat) (u : Vec) : ((Wr.vec k mask u).apply x).vk k' =
    if k' = k then Lanes.ofFn fun j => if bit mask j then u.get j else (x.vk k).get j else x.vk k' :=
  mapGet_mapPut ..

theorem get_vk_apply_vec (k mask : Nat) (u : Vec) {j : Nat} (hj : j < 16) :
    (((Wr.vec k mask u).apply x).vk k).get j = if bit mask j then u.get j else (x.vk k).get j := by
  rw [vk_apply_vec, if_pos rfl, Lanes.get_ofFn _ hj]

theorem a_apply_acc (A B : Fin 8) (i j : Fin 16) (a : AccLane) :
    ((Wr.acc A.val i.val a).apply x).a B.val j.val = if A = B ∧ i = j then a else x.a B.val j.val := by
  have hkey : 16 * B.val + j.val = 16 * A.val + i.val ↔ A = B ∧ i = j := by omega
  rw [← if_congr hkey rfl rfl]
  exact mapGet_mapPut ..

theorem s_apply_s (n m : Nat) (w : BitVec 28) : ((Wr.s n w).apply x).s m = if m = n then w else x.s m :=
  mapGet_mapPut ..

theorem p_zero : x.p 0 = 0xFFFF := rfl

/-- The 16 bits that a predicate holds after a write under a mask. -/
def maskedBits (mask v old : Nat) : BitVec 16 :=
  BitVec.ofNat 16 (Nat.xor (Nat.land v mask) (Nat.land old (0xFFFF - mask)))

theorem p_apply_p {i : Nat} (hi : i ≠ 0) (mask v j : Nat) : ((Wr.p i mask v).apply x).p j =
    if j = i then (maskedBits mask v (x.p i)).toNat else x.p j := by
  by_cases hj : j = 0
  · rw [if_neg (by omega), hj, p_zero, p_zero]
  · simp only [Wr.apply, Cluster.p, hi, hj, if_false, mapGet_mapPut, maskedBits, apply_ite BitVec.toNat]

theorem bit_maskedBits {mask v old j : Nat} (hmask : mask < 2 ^ 16) (hj : j < 16) :
    bit (maskedBits mask v old).toNat j = if bit mask j then bit v j else bit old j := by
  have hrest : (0xFFFF - mask).testBit j = !mask.testBit j := by
    have h := Nat.testBit_two_pow_sub_succ hmask j
    rw [decide_eq_true hj, Bool.true_and] at h
    rw [← h]
    congr 1
    omega
  have hbits : bit (maskedBits mask v old).toNat j =
      ((v.testBit j && mask.testBit j) ^^ (old.testBit j && !mask.testBit j)) := by
    have h := Nat.testBit_xor (Nat.land v mask) (Nat.land old (0xFFFF - mask)) j
    rw [show (Nat.land v mask).testBit j = _ from Nat.testBit_and .., show (Nat.land old _).testBit j = _ from
      Nat.testBit_and .., hrest] at h
    rw [bit_eq_testBit, maskedBits, BitVec.toNat_ofNat, Nat.testBit_mod_two_pow, decide_eq_true hj, Bool.true_and]
    exact h
  rw [hbits, bit_eq_testBit, bit_eq_testBit, bit_eq_testBit]
  cases mask.testBit j <;> simp

end

/-! ### Saturation (R399, R400) -/

theorem clampI_eq {lo hi : Int} (h : lo ≤ hi) (i : Int) : clampI lo hi i = max lo (min hi i) := by
  unfold clampI
  split
  · omega
  · split <;> omega

theorem toInt_intLane {i : Int} (hlo : -8192 ≤ i) (hhi : i ≤ 8191) : (intLane i).toInt = i :=
  BitVec.toInt_ofInt_eq_self (by decide) (by omega) (by omega)

theorem toInt_satLane_plain (i : Int) : (satLane false i).toInt = max (-8192) (min 8191 i) := by
  rw [satLane, if_neg (by decide), clampI_eq (by decide), toInt_intLane (by omega) (by omega)]

theorem toInt_satLane_mark (i : Int) : (satLane true i).toInt = max (-8191) (min 8190 i) := by
  rw [satLane, if_pos rfl, clampI_eq (by decide), toInt_intLane (by omega) (by omega)]

theorem toInt_ofInt56 {i : Int} (hlo : -(2 ^ 55) ≤ i) (hhi : i ≤ 2 ^ 55 - 1) : (BitVec.ofInt 56 i).toInt = i :=
  BitVec.toInt_ofInt_eq_self (by decide) hlo (by omega)

/-- An accumulator result that lies outside the format saturates, one inside it is kept (R399, R434). -/
theorem sat56_spec (i : Int) : (sat56 i).1.toInt = max (-(2 ^ 55)) (min (2 ^ 55 - 1) i) ∧
    ((sat56 i).2 = true ↔ (sat56 i).1.toInt ≠ i) := by
  unfold sat56
  split
  · rw [toInt_ofInt56 (by omega) (by omega)]
    simp only [true_iff]
    omega
  · split
    · rw [toInt_ofInt56 (by omega) (by omega)]
      simp only [true_iff]
      omega
    · rw [toInt_ofInt56 (by omega) (by omega)]
      simp only [Bool.false_eq_true, false_iff]
      omega

/-! ### Marks (R401) -/

section
variable (f : Int → Int → Int) {a b : Lane}

theorem arith2_plain (a b : Lane) : arith2 false f a b = satLane false (f a.toInt b.toInt) := rfl

theorem arith2_unmarked (ha : isMark a = false) (hb : isMark b = false) :
    arith2 true f a b = satLane true (f a.toInt b.toInt) := by
  simp [arith2, ha, hb, laneInt]

theorem arith2_under (h : a = 0x2000 ∨ b = 0x2000) : arith2 true f a b = 0x2000 := by
  rcases h with rfl | rfl <;> simp [arith2, isMark, markResult]

theorem arith2_over (ha : a ≠ 0x2000) (hb : b ≠ 0x2000) (h : a = 0x1FFF ∨ b = 0x1FFF) :
    arith2 true f a b = 0x1FFF := by
  rcases h with rfl | rfl <;> simp_all [arith2, isMark, markResult]

end

/-! ### Rounding half to even (R421) -/

/-- What is rounded away is at most half a step, and a half is rounded to an even number. -/
theorem roundEven_spec (i : Int) (n : Nat) : (2 * (i - 2 ^ n * roundEven i n)).natAbs ≤ 2 ^ n ∧
    ((2 * (i - 2 ^ n * roundEven i n)).natAbs = 2 ^ n → 0 < n → roundEven i n % 2 = 0) := by
  unfold roundEven
  split
  next hn => subst hn; simp
  next hn =>
    obtain ⟨m, rfl⟩ := Nat.exists_eq_succ_of_ne_zero hn
    have hdiv : (2 : Int) ^ (m + 1) * (i / 2 ^ (m + 1)) = i - i % 2 ^ (m + 1) := by
      have := Int.mul_ediv_add_emod i (2 ^ (m + 1)); omega
    have hlo := Int.emod_nonneg i (b := 2 ^ (m + 1)) (by positivity)
    have hhi := Int.emod_lt_of_pos i (b := 2 ^ (m + 1)) (by positivity)
    have hstep : (2 : Int) ^ (m + 1) = 2 * 2 ^ m := by ring
    have hcast : ((2 ^ (m + 1) : Nat) : Int) = 2 ^ (m + 1) := by norm_cast
    have hup : (2 : Int) ^ (m + 1) * (i / 2 ^ (m + 1) + 1) = i - i % 2 ^ (m + 1) + 2 ^ (m + 1) := by
      rw [mul_add, hdiv, mul_one]
    simp only [Nat.succ_eq_add_one, Nat.add_sub_cancel]
    split
    · rw [hdiv]; omega
    · split
      · rw [hup]; omega
      · split
        · rw [hdiv]; omega
        · rw [hup]; omega

end Sys2Proof.Machine

namespace Sys2Proof.Says

open Sys2Proof.Machine

/-- Settles O34: each write is a write of one key of its register file, and a lane result takes the branch that MARK and
its inputs choose. -/
theorem rentikResultsStayInTheirFormats : Obligations.RentikResultsStayInTheirFormats := by
  unfold Obligations.RentikResultsStayInTheirFormats
  refine ⟨fun x k k' mask v u a A B i j n m w e f => ⟨get_vk_apply_vec x k mask u j.isLt, fun hk => ?_,
    a_apply_acc x A B i j a, ?_, p_zero _, fun he hm hv => ?_, fun hf => ?_⟩, fun f a b i n => ?_⟩
  · rw [vk_apply_vec, if_neg hk]
  · rw [s_apply_s, if_congr (Fin.val_inj.trans eq_comm) rfl rfl]
  · rw [p_apply_p x (Fin.val_ne_zero_iff.2 he), if_pos rfl, bit_maskedBits hm j.isLt]
  · by_cases he : e = 0
    · subst he; rfl
    · rw [p_apply_p x (Fin.val_ne_zero_iff.2 he), if_neg (Fin.val_ne_of_ne hf)]
  · obtain ⟨hnear, heven⟩ := roundEven_spec i n
    obtain ⟨hval, hsat⟩ := sat56_spec i
    exact ⟨toInt_satLane_plain i, toInt_satLane_mark i, arith2_plain f a b, arith2_unmarked f, arith2_under f,
      arith2_over f, hnear, heven, hval, hsat⟩

end Sys2Proof.Says
end

section
/-! How a cluster issues a bundle: what stops it, and what a bundle that issues makes of the S9 (R403 to R405, R410,
R414, R438, R861). -/

namespace Sys2Proof.Machine

open Sys2Proof.Says

/-! ### Clusters -/

theorem Chip.cluster_setCluster (s : Chip) (d e : Fin 4) (c c' : Nat) (x : Cluster) :
    (s.setCluster d c x).cluster e c' = if e = d ∧ c' = c then x else s.cluster e c' := by
  rw [Chip.cluster, Chip.setCluster, Chip.d_upd]
  by_cases he : e = d
  · subst he; simp [mapGet_mapPut, Chip.cluster]
  · simp [he, Chip.cluster]

@[simp] theorem Chip.cluster_setCluster_same (s : Chip) (d : Fin 4) (c : Nat) (x : Cluster) :
    (s.setCluster d c x).cluster d c = x := by
  rw [Chip.cluster_setCluster, if_pos ⟨rfl, rfl⟩]

@[simp] theorem Chip.reg_setCluster (s : Chip) (d e : Fin 4) (c j : Nat) (x : Cluster) :
    (s.setCluster d c x).reg e j = s.reg e j := Chip.reg_upd s d e j _ fun _ => rfl

@[simp] theorem Chip.fly_setCluster (s : Chip) (d e : Fin 4) (c : Nat) (x : Cluster) :
    ((s.setCluster d c x).d e).fly = (s.d e).fly := by
  rw [Chip.setCluster, Chip.d_upd]
  split
  · next h => rw [h]
  · rfl

/-! ### The writes of a bundle (R403, R405) -/

/-- Writes that are all made at one latency are made in their order. -/
theorem applyWrs_map {l : Nat} (hl : l = 1 ∨ l = 2 ∨ l = 3) (x : Cluster) (ws : List Wr) :
    applyWrs x (ws.map (Prod.mk l)) = ws.foldl (fun y w => w.apply y) x := by
  have made (y : Cluster) : ((ws.map (Prod.mk l)).filter fun w => w.1 == l).foldl (fun z w => w.2.apply z) y =
      ws.foldl (fun y w => w.apply y) y := by
    rw [List.filter_eq_self.2 (by simp), List.foldl_map]
  have waits {n : Nat} (hn : n ≠ l) : (ws.map (Prod.mk l)).filter (fun w => w.1 == n) = [] := by
    simp [List.filter_eq_nil_iff, Ne.symm hn]
  unfold applyWrs
  dsimp only
  rcases hl with rfl | rfl | rfl
  · rw [made, waits (by decide), waits (by decide)]; rfl
  · rw [made, waits (by decide), waits (by decide)]; rfl
  · rw [made, waits (by decide), waits (by decide)]; rfl

/-! ### Issue -/

/-- What STIM and DONE of an S slot do beside register writes: `x` is the cluster before the bundle, `z` the one
after. -/
def SOp.acts (op : SOp) (d : Fin 4) (c : Fin 192) (x z : Cluster) (s : Chip) : Chip :=
  match op with
  | .stim A K => Machine.stim s d z K (x.s A)
  | .done => endProgram s d c false 0 0
  | _ => s

/-- A FENCE that has waited clears the mark of a failed access (R416). -/
def MOp.clears (op : MOp) (on : Bool) (z : Cluster) : Cluster :=
  match op with
  | .fence _ => if on then { z with fenceBad := false } else z
  | _ => z

/-- The cluster after bundle `b` of a cluster that was `x` when its slots read their operands; `y` is the cluster as the
M slot left it, with register writes `mw` and new accesses `xs`. -/
def Bundle.after (s : Chip) (d : Fin 4) (b : Bundle) (x y : Cluster) (mw : Wrs) (xs : List XAcc) (basted : Bool) :
    Cluster :=
  b.m.clears (bit (x.p b.mg) 0) <|
    applyWrs { y with pc := y.pc + 1, passBp := false, basted := y.basted || basted, xq := y.xq ++ xs }
      (mw ++ runV0 x (x.p b.v0g) b.v0 ++ runV1 x (x.p b.v1g) (divOpen s) b.v1 ++
        if bit (x.p b.sg) 0 then runS x (rdtValue s d x) b.sop else [])

section
variable {s : Chip} {d : Fin 4} {c : Fin 192} {codes : List Nat} {b : Bundle}

/-- Nothing stops the bundle that a cluster issues before its slots are looked at. -/
theorem issue_of_issues (h : ClusterIssues s d c codes) : issue d c b s = issueAny s d c (.inl b) := by
  obtain ⟨hup, hrun, hcyc, hreq, hbp, -, -⟩ := h
  have hstop : (if (s.cluster d c.val).passBp then none else rBreak s d c.val (s.cluster d c.val).pc.toNat) = none := by
    rcases hbp with hbp | hbp <;> simp [hbp]
  simp [issue, hup, hrun, hreq, hstop, Nat.not_lt.2 hcyc]

theorem issue_illegal (h : ClusterIssues s d c codes) {i : Nat} (hb : b.illegal = some i) :
    issue d c b s =
      rFault s d c K.RILLEGAL ((s.cluster d c.val).pc.toNat + i * 2 ^ 12) 4 0 (s.cluster d c.val) := by
  rw [issue_of_issues h]
  simp [issueAny, hb]

theorem issue_legal (h : ClusterIssues s d c codes) (hb : b.illegal = none) : issue d c b s = issueBundle s d c b := by
  rw [issue_of_issues h]
  simp [issueAny, hb]

/-- A bundle that names a register with an XLD outstanding waits (R404). -/
theorem issueBundle_pending {a : XAcc} (ha : a ∈ (s.cluster d c.val).xq) (hs : a.store = false)
    (hk : a.reg ∈ b.keys (s.cluster d c.val)) : issueBundle s d c b = s := by
  unfold issueBundle
  rw [if_pos]
  simp only [List.any_eq_true, List.contains_iff_mem, List.mem_map, List.mem_filter]
  exact ⟨a.reg, hk, a, ⟨ha, by simp [hs]⟩, rfl⟩

/-- No XLD is outstanding into a register that the bundle names. -/
theorem not_pending (h : ClusterIssues s d c codes)
    (hk : ∀ k ∈ b.keys (s.cluster d c.val), k ∈ codes.map (vkey (s.cluster d c.val))) :
    (b.keys (s.cluster d c.val)).any
      (((s.cluster d c.val).xq.filter fun a => !a.store).map fun a => a.reg).contains = false := by
  obtain ⟨-, -, -, -, -, -, hx⟩ := h
  rw [List.any_eq_false]
  intro k hkb hpend
  obtain ⟨a, ha, rfl⟩ := List.mem_map.1 (List.contains_iff_mem.1 hpend)
  obtain ⟨hmem, hs⟩ := List.mem_filter.1 ha
  exact hx a hmem (by simpa using hs) (hk _ hkb)

section
variable (h : ClusterIssues s d c codes) (hb : b.illegal = none)
  (hk : ∀ k ∈ b.keys (s.cluster d c.val), k ∈ codes.map (vkey (s.cluster d c.val)))
include h hb hk

/-- A bundle whose M slot is done issues: every slot makes its writes, and STIM and DONE act. -/
theorem issue_ok {k : Chip} {mw : Wrs} {xs : List XAcc} {basted : Bool}
    (hm : runM s d c (s.cluster d c.val) ((s.cluster d c.val).p b.mg) b.m = (k, .ok mw xs basted false)) :
    let x := s.cluster d c.val
    let z := b.after s d x (k.cluster d c.val) mw xs basted
    let k' := { k.setCluster d c.val z with free := k.free + bundleChoices b }
    issue d c b s = if bit (x.p b.sg) 0 then b.sop.acts d c x z k' else k' := by
  intro x z k'
  rw [issue_legal h hb]
  unfold issueBundle
  extract_lets pend r sOn y
  rw [if_neg (ne_true_of_eq_false (not_pending h hk))]
  have hr : r = (k, .ok mw xs basted false) := hm
  clear_value r
  subst hr
  obtain ⟨mg, m, v0g, v0, v1g, v1, sg, sop⟩ := b
  cases sop with
  | stim A K => rfl
  | done => rfl
  | _ => exact (ite_self _).symm

theorem issue_stall {k : Chip} (hm : runM s d c (s.cluster d c.val) ((s.cluster d c.val).p b.mg) b.m = (k, .stall)) :
    issue d c b s = k := by
  rw [issue_legal h hb]
  unfold issueBundle
  simp [not_pending h hk, hm]

end

end

end Sys2Proof.Machine
end

section
/-! What leaves the clusters alone, and what the end of a program makes of them (R411, R412, R438, R863). -/

namespace Sys2Proof.Machine

/-- The clusters of every die are as they were. -/
structure ClustersKept (s k : Chip) : Prop where
  clusters : ∀ e, (k.d e).clusters = (s.d e).clusters

namespace ClustersKept

variable {s m k : Chip}

theorem cluster (h : ClustersKept s k) (e : Fin 4) (c : Nat) : k.cluster e c = s.cluster e c :=
  congrArg (mapGet cluster0 · c) (h.clusters e)

theorem refl (s : Chip) : ClustersKept s s := ⟨fun _ => rfl⟩

theorem trans (h : ClustersKept s m) (h' : ClustersKept m k) : ClustersKept s k :=
  ⟨fun e => (h'.clusters e).trans (h.clusters e)⟩

/-- A change of a die beside its clusters. -/
theorem upd (s : Chip) (d : Fin 4) {f : DieSt → DieSt} (h : ∀ x, (f x).clusters = x.clusters) :
    ClustersKept s (s.upd d f) := by
  refine ⟨fun e => ?_⟩
  rw [Chip.d_upd]
  split
  · next he => subst he; exact h _
  · rfl

theorem setFld (s : Chip) (d : Fin 4) (f : Fld) (v : Nat) : ClustersKept s (s.setFld d f v) :=
  ⟨fun e => Chip.clusters_of_setFld s d e f v⟩

theorem addFld (s : Chip) (d : Fin 4) (f : Fld) (n : Nat) : ClustersKept s (s.addFld d f n) := setFld ..

theorem of_onlyRegs (h : Says.OnlyRegs s k) : ClustersKept s k :=
  ⟨fun e => (congrArg DieSt.clusters (h.1 e) :)⟩

theorem raise (s : Chip) (d : Fin 4) (src kind : Nat) (t : Fin 256) (pay : Nat) :
    ClustersKept s (raise s d src kind t pay) := of_onlyRegs (Says.onlyRegs_sendRec ..)

theorem setWord (s : Chip) (d : Fin 4) (m : Mem) (i : Nat) (w : MWord) : ClustersKept s (s.setWord d m i w) :=
  upd s d fun _ => by cases m <;> rfl

theorem overAll {α : Type} {f : Chip → α → Chip} (hf : ∀ s a, ClustersKept s (f s a)) (s : Chip) (l : List α) :
    ClustersKept s (overAll f s l) := overAll_keeps (ClustersKept s) f (fun m a h => h.trans (hf m a)) s l (refl s)

theorem guarded {p : Prop} [Decidable p] (h : ClustersKept s m) (h' : ClustersKept s k) :
    ClustersKept s (if p then m else k) := by
  split
  · exact h
  · exact h'

/-! ### Completions and recipes -/

theorem complete (s : Chip) (t : Fin 256) (c : Compl) : ClustersKept s (complete s t c) := ⟨fun _ => rfl⟩

theorem tellItem (s : Chip) (d : Fin 4) (r : RanItem) (st : Nat) : ClustersKept s (tellItem s d r st) := by
  unfold Machine.tellItem
  extract_lets s1
  have h1 : ClustersKept s s1 := upd s d fun _ => rfl
  split
  · exact h1.trans (complete ..)
  · exact h1

theorem tellPlain (s : Chip) (d : Fin 4) (id : Nat) : ClustersKept s (tellPlain s d id) := by
  unfold Machine.tellPlain
  split
  · exact tellItem ..
  · exact refl s

theorem discardSet (s : Chip) (d : Fin 4) (n : Nat) : ClustersKept s (discardSet s d n) := by
  unfold Machine.discardSet Chip.setPset Chip.onPleat
  refine trans (upd s d ?_) (setFld ..)
  exact fun _ => rfl

theorem endInst (s : Chip) (d : Fin 4) (i st : Nat) : ClustersKept s (endInst s d i st) := by
  unfold Machine.endInst
  split
  · exact refl s
  · extract_lets s1 s2
    have h1 : ClustersKept s s1 := upd s d fun _ => rfl
    refine h1.trans (trans (m := s2) ?_ (complete ..))
    unfold s2
    split
    · exact (setFld ..).trans (discardSet ..)
    · exact refl s1

theorem endInstsOf (s : Chip) (d : Fin 4) (t : Fin 256) (st : Nat) : ClustersKept s (endInstsOf s d t st) :=
  overAll (fun m i => by
    split
    · exact guarded (endInst ..) (refl m)
    · exact refl m) s _

/-! ### Lane memories -/

theorem corrLane (s : Chip) (d : Fin 4) (m : Mem) (i k : Nat) (w : MWord) : ClustersKept s (corrLane s d m i k w) := by
  unfold Machine.corrLane corrLaneFrom
  refine guarded (refl s) (trans ?_ (raise ..))
  cases m
  case cst => exact refl s
  all_goals exact addFld ..

theorem foundBad (s : Chip) (d : Fin 4) (m : Mem) (i k : Nat) : ClustersKept s (foundBad s d m i k) := by
  unfold Machine.foundBad foundBadFrom
  extract_lets s1 s2
  have h1 : ClustersKept s s1 := setWord ..
  refine h1.trans (trans (m := s2) ?_ (raise ..))
  unfold s2
  cases m
  case cst => exact refl s1
  all_goals exact (addFld ..).trans ((setFld ..).trans (setFld ..))

theorem readPhys (s : Chip) (d : Fin 4) (m : Mem) (i mask : Nat) : ClustersKept s (readPhys s d m i mask).1 := by
  unfold Machine.readPhys
  extract_lets w ls
  split
  · exact refl s
  · split
    · exact setWord ..
    · split
      · exact foundBad ..
      · exact overAll (fun _ _ => corrLane ..) s ls

theorem physRes {r : Chip × Option Quadlane} (h : ClustersKept s r.1) (b : Bool) : ClustersKept s (physRes r b).1 := by
  unfold Machine.physRes
  split
  · exact h
  · exact h

theorem readWord (s : Chip) (d : Fin 4) (m : Mem) (i mask : Nat) (r : Reader) :
    ClustersKept s (readWord s d m i mask r).1 := by
  have read (b : Bool) : ClustersKept s (Machine.physRes (Machine.readPhys s d m i mask) b).1 := physRes (readPhys ..) b
  have mine {p : Prop} [Decidable p] :
      ClustersKept s (if p then Machine.physRes (Machine.readPhys s d m i mask) true else (s, .stall)).1 := by
    split
    · exact read true
    · exact refl s
  unfold Machine.readWord
  extract_lets w
  split
  · exact read false
  · exact refl s
  · exact mine
  · exact mine
  · exact refl s
  · exact refl s
  · exact read true
  · exact read true
  · exact refl s
  · split
    · split
      · exact refl s
      · split
        · exact refl s
        · exact refl s
    · exact refl s

theorem touchBank (s : Chip) (d : Fin 4) (k : Nat) : ClustersKept s (touchBank s d k) := upd s d fun _ => rfl

theorem wakeBank (s : Chip) (d : Fin 4) (k : Nat) : ClustersKept s (wakeBank s d k) := by
  unfold Machine.wakeBank
  refine (touchBank s d k).trans (trans (upd _ d ?_) ((setFld ..).trans ((setFld ..).trans (setFld ..))))
  exact fun _ => rfl

theorem readMem (s : Chip) (d : Fin 4) (m : Mem) (i mask : Nat) (r : Reader) :
    ClustersKept s (readMem s d m i mask r).1 := by
  unfold Machine.readMem
  split
  · split
    · exact (touchBank ..).trans (readWord ..)
    · exact wakeBank ..
  · exact readWord ..

theorem readLining (s : Chip) (d : Fin 4) (i mask : Nat) (r : Reader) : ClustersKept s (readLining s d i mask r).1 := by
  unfold Machine.readLining
  split
  · exact refl s
  · exact readWord ..

/-- The reads of a vector leave the clusters alone (R259, R416). -/
theorem readVec (s : Chip) (d : Fin 4) (m : Mem) (l : Nat) (r : Reader) (v : Vec) (b : Bool) (ws : List (Nat × Nat)) :
    ClustersKept s (readVec s d m l r v b ws).1 := by
  induction ws generalizing s v b with
  | nil => exact refl s
  | cons p ws ih =>
    obtain ⟨w, mask⟩ := p
    unfold Machine.readVec
    extract_lets res
    have hres : ClustersKept s res.1 := by
      unfold res
      split
      · exact readLining ..
      · exact readMem ..
    split
    · exact hres
    · exact hres
    · exact hres.trans (ih ..)

end ClustersKept

/-! ### The end of a program (R411, R412) -/

section
variable (s : Chip) (d : Fin 4) (c : Nat) (killed : Bool) (st det : Nat)

/-- A running cluster whose program ends is stopping. -/
theorem stopping_endProgram (h : (s.cluster d c).st = .running) :
    ((endProgram s d c killed st det).cluster d c).st = .stopping ∧
      ((endProgram s d c killed st det).cluster d c).killed = killed := by
  unfold endProgram
  extract_lets x cyc s1
  have h1 : (s1.cluster d c).st = .stopping ∧ (s1.cluster d c).killed = killed := by
    rw [Chip.cluster_setCluster_same]
    exact ⟨if_neg (by rw [h]; decide), rfl⟩
  rw [if_pos (show x.live = true by simp [x, Cluster.live, h])]
  split
  · exact h1
  · rw [(ClustersKept.trans (.upd s1 d ?_) (.tellPlain ..)).cluster]
    · exact h1
    · exact fun _ => rfl

/-- Vectors stay when a program ends. -/
theorem vec_endProgram (e : Fin 4) (n : Nat) :
    ((endProgram s d c killed st det).cluster e n).vec = (s.cluster e n).vec := by
  unfold endProgram
  extract_lets x cyc s1
  have h1 : (s1.cluster e n).vec = (s.cluster e n).vec := by
    rw [Chip.cluster_setCluster]
    split
    · next h => obtain ⟨rfl, rfl⟩ := h; rfl
    · rfl
  split
  · split
    · exact h1
    · rw [(ClustersKept.trans (.upd s1 d ?_) (.tellPlain ..)).cluster, h1]
      exact fun _ => rfl
  · rfl

end

/-- Vectors stay when a tenant faults and its work ends (R190, R442). -/
theorem vec_markFaulted (s : Chip) (t : Fin 256) (e : Fin 4) (n : Nat) :
    ((markFaulted s t).cluster e n).vec = (s.cluster e n).vec := by
  have ended (m : Chip) (d : Fin 4) (l : List Nat) :
      ((overAll (fun s c => endProgram s d c true 4 0) m l).cluster e n).vec = (m.cluster e n).vec :=
    overAll_keeps (fun k => (k.cluster e n).vec = (m.cluster e n).vec) _
      (fun k c h => (vec_endProgram k d c true 4 0 e n).trans h) m l rfl
  have marked : ((s.setFld 0 (Rf.YOKE_TEN_CTL_FAULTED.at t.val) 1).cluster e n).vec = (s.cluster e n).vec :=
    congrArg Cluster.vec ((ClustersKept.setFld ..).cluster e n)
  refine overAll_keeps (fun k => (k.cluster e n).vec = (s.cluster e n).vec) _ (fun k d h => ?_) _ dies marked
  rw [(ClustersKept.endInstsOf ..).cluster, ended, h]

end Sys2Proof.Machine
end

section
/-! Rentik operations of the S slot (R414, R422, R425). -/

namespace Sys2Proof.Machine

open Sys2Proof.Says

section
variable {s : Chip} {d : Fin 4} {c : Fin 192} {codes : List Nat} {b : Bundle}

@[simp] theorem cluster_clusterDid (s : Chip) (d : Fin 4) (c : Fin 192) (ws : List Wr) :
    (clusterDid s d c ws).cluster d c.val = ws.foldl (fun y w => w.apply y)
      { s.cluster d c.val with pc := (s.cluster d c.val).pc + 1, passBp := false } :=
  Chip.cluster_setCluster_same ..

/-- A bundle whose M slot holds NOP and whose writes are made at one latency makes its register writes and nothing else,
but for STIM and DONE. -/
theorem issue_writes (h : ClusterIssues s d c codes) (hb : b.illegal = none)
    (hk : ∀ k ∈ b.keys (s.cluster d c.val), k ∈ codes.map (vkey (s.cluster d c.val))) (hm : b.m = .nop)
    {l : Nat} (hl : l = 1 ∨ l = 2 ∨ l = 3) {ws : List Wr}
    (hws : let x := s.cluster d c.val
      runV0 x (x.p b.v0g) b.v0 ++ runV1 x (x.p b.v1g) (divOpen s) b.v1 ++
        (if bit (x.p b.sg) 0 then runS x (rdtValue s d x) b.sop else []) = ws.map (Prod.mk l)) :
    let k := { clusterDid s d c ws with free := s.free + bundleChoices b }
    issue d c b s = if bit ((s.cluster d c.val).p b.sg) 0 then
      b.sop.acts d c (s.cluster d c.val) (k.cluster d c.val) k else k := by
  intro k
  have hk' : { s.setCluster d c.val (b.after s d (s.cluster d c.val) (s.cluster d c.val) [] [] false) with
      free := s.free + bundleChoices b } = k := by
    have hz : b.after s d (s.cluster d c.val) (s.cluster d c.val) [] [] false = ws.foldl (fun y w => w.apply y)
        { s.cluster d c.val with pc := (s.cluster d c.val).pc + 1, passBp := false } := by
      rw [← applyWrs_map hl, ← hws]
      simp [Bundle.after, MOp.clears, hm]
    rw [hz]
    rfl
  have hrun : runM s d c (s.cluster d c.val) ((s.cluster d c.val).p b.mg) b.m = (s, .ok [] [] false false) := by
    rw [hm]; rfl
  rw [issue_ok h hb hk hrun, hk']
  congr 2
  rw [← hk']
  exact (Chip.cluster_setCluster_same ..).symm

/-- The S9 after a bundle with one S-slot operation. -/
theorem issue_scalar (h : ClusterIssues s d c []) (g : Nat) (op : SOp) {ws : List Wr}
    (hws : runS (s.cluster d c.val) (rdtValue s d (s.cluster d c.val)) op = ws.map (Prod.mk 1)) :
    let on := bit ((s.cluster d c.val).p g) 0
    let k := { clusterDid s d c (if on then ws else []) with free := s.free + bundleChoices { sg := g, sop := op } }
    issue d c { sg := g, sop := op } s =
      if on then op.acts d c (s.cluster d c.val) (k.cluster d c.val) k else k := by
  refine issue_writes (b := { sg := g, sop := op }) h rfl (fun _ hk => hk) rfl (.inl rfl) ?_
  simp only [hws, runV0, runV1, List.nil_append, apply_ite (List.map _), List.map_nil]

/-- What STIM and DONE do is done on the S9 whose cluster has moved to the next bundle. -/
theorem issue_acts (h : ClusterIssues s d c []) (g : Nat) (op : SOp)
    (hws : runS (s.cluster d c.val) (rdtValue s d (s.cluster d c.val)) op = [])
    (hfree : bundleChoices { sg := g, sop := op } = 0) (hon : bit ((s.cluster d c.val).p g) 0 = true) :
    let x := s.cluster d c.val
    issue d c { sg := g, sop := op } s =
      op.acts d c x { x with pc := x.pc + 1, passBp := false } (clusterDid s d c []) := by
  refine (issue_scalar h g op (ws := []) hws).trans ?_
  simp only [hon, hfree, if_true]
  rw [show ({ clusterDid s d c [] with free := s.free + 0 } : Chip) = clusterDid s d c [] from rfl, cluster_clusterDid]
  rfl

@[simp] theorem fld_clusterDid (s : Chip) (d e : Fin 4) (c : Fin 192) (ws : List Wr) (f : Fld) :
    (clusterDid s d c ws).fld e f = s.fld e f := congrArg (getBits · f.lo f.w) (Chip.reg_setCluster ..)

@[simp] theorem fly_clusterDid (s : Chip) (d e : Fin 4) (c : Fin 192) (ws : List Wr) :
    ((clusterDid s d c ws).d e).fly = (s.d e).fly := Chip.fly_setCluster ..

end

/-! ### LOOPW (R425) -/

theorem loopwWrs_eq (x : Cluster) (A T : Nat) :
    let n0 := (x.s A).toNat % 2 ^ 14
    let e0 := (x.s A).toNat / 2 ^ 14
    let n := n0 - 1
    let e := if n0 = 0 then e0 - 1 else e0
    let shifts : List Wr :=
      [.wb (x.wb - 1), .p 6 0xFFFF (x.p 5), .p 5 0xFFFF (x.p 4), .p 4 0xFFFF (x.p 3), .p 3 0xFFFF (x.p 2),
        .p 2 0xFFFF (x.p 1), .p 1 0xFFFF (if decide (0 < n) then 0xFFFF else 0),
        .s A (BitVec.ofNat 28 (e * 2 ^ 14 + n))]
    loopwWrs x A T = (shifts ++ if n = 0 ∧ e = 0 then [] else [Wr.pc T]).map (Prod.mk 1) := by
  intro n0 e0 n e shifts
  have hn : (if 0 < n0 then n0 - 1 else 0) = n := by unfold n; split <;> omega
  have he : (if 0 < n0 then e0 else e0 - 1) = e := by unfold e; split <;> split <;> omega
  have hgo : (decide (0 < n) || decide (0 < e)) = !decide (n = 0 ∧ e = 0) := by
    rw [Bool.eq_iff_iff]; simp; omega
  unfold loopwWrs
  extract_lets m f
  have hm : m = n := hn
  have hf : f = e := he
  rw [hm, hf, hgo]
  by_cases hz : n = 0 ∧ e = 0
  · simp [hz, shifts]
  · simp [hz, shifts]

/-! ### STIM (R865) -/

theorem fly_stim {s : Chip} {d : Fin 4} {x : Cluster} {n : Nat}
    (hen : bit (s.fld d (Rf.PLACKET_STIM_EN_PORTS.at x.ten.val)) n = true)
    (hb : x.basted = false) (v : BitVec 28) :
    ((stim s d x n v).d d).fly = (s.d d).fly ++ [mkRec s d (0x300 + n) K.STIM x.ten v.toNat false false] := by
  simp [stim, hen, hb, fly_sendRec]

theorem stim_disabled {s : Chip} {d : Fin 4} {x : Cluster} {n : Nat}
    (hen : bit (s.fld d (Rf.PLACKET_STIM_EN_PORTS.at x.ten.val)) n = false) (v : BitVec 28) : stim s d x n v = s := by
  simp [stim, hen]

end Sys2Proof.Machine

namespace Sys2Proof.Says

open Sys2Proof.Machine

section
variable {d : Fin 4} {c : Fin 192} {s : State} {i : Instr} {g : Nat} {op : SOp}

/-- An S-slot operation other than STIM and DONE makes its register writes where lane 0 of its guard is set. -/
theorem gives_scalar (h : ClusterIssues s.chip d c [])
    (hx : exec i s = .next ⟨issue d c { sg := g, sop := op } s.chip, s.pending⟩)
    {ws : List Wr}
    (hws : runS (s.chip.cluster d c.val) (rdtValue s.chip d (s.chip.cluster d c.val)) op = ws.map (Prod.mk 1))
    (hacts : ∀ x z k, op.acts d c x z k = k := by intros; rfl)
    (hfree : bundleChoices { sg := g, sop := op } = 0 := by rfl) :
    Gives i s (clusterDid s.chip d c (if bit ((s.chip.cluster d c.val).p g) 0 then ws else [])) := by
  refine .of_effect hx ((issue_scalar h g op hws).trans ?_)
  simp only [hacts, ite_self, hfree]
  rfl

/-- An S-slot operation that lane 0 of its guard does not enable moves to the next bundle. -/
theorem gives_scalar_off (h : ClusterIssues s.chip d c [])
    (hx : exec i s = .next ⟨issue d c { sg := g, sop := op } s.chip, s.pending⟩)
    (hfree : bundleChoices { sg := g, sop := op } = 0) (hws : runS (s.chip.cluster d c.val)
      (rdtValue s.chip d (s.chip.cluster d c.val)) op = [])
    (hoff : bit ((s.chip.cluster d c.val).p g) 0 = false) : Gives i s (clusterDid s.chip d c []) := by
  refine .of_effect hx ((issue_scalar h g op (ws := []) hws).trans ?_)
  simp only [hoff, hfree]
  rfl

end

/-- Settles O35: the operations that only write registers make the writes of the table; STIM sends its record where its
port is enabled, and DONE ends the program. -/
theorem rentikScalarOperationsTakeEffect : Obligations.RentikScalarOperationsTakeEffect := by
  unfold Obligations.RentikScalarOperationsTakeEffect
  intro d c g E D A B K5 K14 K19 K16 K6 m T s hi
  let x := s.chip.cluster d c.val
  have jump {p q : Prop} [Decidable p] [Decidable q] (h : p ↔ q) : (if p then [(1, Wr.pc T.toNat)] else []) =
      List.map (Prod.mk 1) (if q then [Wr.pc T.toNat] else []) := by
    rw [if_congr h rfl rfl, apply_ite (List.map _)]
    rfl
  have hmod (n : Nat) : BitVec.ofNat 28 (n % 2 ^ 28) = BitVec.ofNat 28 n := BitVec.eq_of_toNat_eq (by simp)
  refine ⟨?_, gives_scalar hi rfl rfl, gives_scalar hi rfl rfl, gives_scalar hi rfl rfl,
    gives_scalar hi rfl rfl, gives_scalar hi rfl rfl, gives_scalar hi rfl rfl, gives_scalar hi rfl rfl,
    gives_scalar hi rfl rfl, gives_scalar hi rfl rfl, gives_scalar hi rfl rfl, gives_scalar hi rfl ?_,
    gives_scalar hi rfl ?_, gives_scalar hi rfl rfl, gives_scalar hi rfl rfl, gives_scalar hi rfl ?_,
    gives_scalar hi rfl ?_, gives_scalar hi rfl ?_, gives_scalar hi rfl ?_, gives_scalar hi rfl ?_,
    gives_scalar hi rfl rfl, gives_scalar hi rfl rfl, gives_scalar hi rfl ?_, gives_scalar hi rfl ?_,
    fun hoff => ?_, fun hon hen hb => ?_, gives_scalar_off hi rfl rfl rfl, fun hon => ?_⟩
  · have h := gives_scalar (i := .rNop d c) (g := 0) (op := .nop) (ws := []) hi rfl rfl
    rwa [ite_self] at h
  · have hlt : x.si A.val < x.si B.val ↔ (x.s A.val).slt (x.s B.val) = true := by simp [BitVec.slt, Cluster.si]
    simp only [runS, x, hlt]
    rfl
  · simp [runS]
  · exact jump (by simp)
  · exact jump (by simp)
  · exact congrArg (_ :: ·) ((jump (q := ¬ x.s A.val - 1 = 0) Iff.rfl).trans (by rw [ite_not]))
  · exact loopwWrs_eq ..
  · simp [runS]
  · exact congrArg (fun v => [(1, Wr.s D.val v)]) (hmod _)
  · exact congrArg (fun v => [(1, Wr.s D.val v)]) (hmod _)
  · rcases hoff with hoff | hdis
    · exact gives_scalar_off hi rfl rfl rfl hoff
    · cases hon : bit (x.p g.val) 0 with
      | false => exact gives_scalar_off hi rfl rfl rfl hon
      | true =>
        refine .of_effect rfl ((issue_acts hi g.val (.stim A.val K5.val) rfl rfl hon).trans (stim_disabled ?_ _))
        rw [fld_clusterDid]
        exact hdis
  · refine .of_effect rfl (issue_acts hi g.val (.stim A.val K5.val) rfl rfl hon)
      ⟨mkRec (clusterDid s.chip d c []) d (0x300 + K5.val) K.STIM x.ten (x.s A.val).toNat false false, ?_, rfl, rfl,
        (Nat.add_assoc ..).symm, rfl⟩
    rw [← fly_clusterDid s.chip d d c []]
    refine fly_stim ?_ hb _
    rw [fld_clusterDid]
    exact hen
  · have hrun : ((clusterDid s.chip d c []).cluster d c.val).st = .running := by
      obtain ⟨-, hrun, -⟩ := hi
      rw [cluster_clusterDid]
      exact hrun
    obtain ⟨hst, hkilled⟩ := stopping_endProgram (clusterDid s.chip d c []) d c.val false 0 0 hrun
    refine .of_effect rfl (issue_acts hi g.val .done rfl rfl hon) ⟨hst, hkilled, (vec_endProgram ..).trans ?_⟩
    rw [cluster_clusterDid]
    rfl

end Sys2Proof.Says
end

section
/-! Rentik operations of the V0 and V1 slots (R399 to R401, R404, R414, R419 to R421, R423, R424, R438). -/

namespace Sys2Proof.Machine

open Sys2Proof.Says

/-! ### The vector operands of an operation (R397, R404) -/

/-- The codes of the vector operands that a V0-slot operation reads or writes. -/
def V0Op.codes : V0Op → List Nat
  | .mac _ _ tap _ _ X Y => [X, Y] ++ if tap && X < 127 then [X + 1] else []
  | .aadd _ X => [X]
  | _ => []

/-- The codes of the vector operands that a V1-slot operation reads or writes. -/
def V1Op.codes : V1Op → List Nat
  | .two _ D X Y => [D, X, Y]
  | .abs D X => [D, X]
  | .shift _ D X _ => [D, X]
  | .mov D X => [D, X]
  | .bcst D X _ => [D, X]
  | .splat D _ => [D]
  | .cmp _ _ X Y => [X, Y]
  | .accn D _ _ => [D]
  | .accc D _ => [D]
  | .divs _ X Y _ => [X, Y]
  | .divf D _ X Y => [D, X, Y]
  | .nop => []

theorem keys_v0 (x : Cluster) (g : Nat) (op : V0Op) :
    Bundle.keys x { v0g := g, v0 := op } = op.codes.map (vkey x) := by
  cases op with
  | mac neg zero tap lane A X Y => simp [Bundle.keys, V0Op.codes]
  | _ => rfl

theorem keys_v1 (x : Cluster) (g : Nat) (op : V1Op) :
    Bundle.keys x { v1g := g, v1 := op } = op.codes.map (vkey x) := by
  cases op <;> rfl

/-- A V0-slot operation is legal when its codes name registers, and a tap reads a warp register. -/
theorem V0Op.legal_of_codes {op : V0Op} (h : ∀ v ∈ op.codes, vecCode v = true)
    (htap : ∀ neg zero lane A X Y, op = .mac neg zero true lane A X Y → 64 ≤ X) : op.legal = true := by
  cases op with
  | nop => rfl
  | aclr A => rfl
  | aadd A X => exact h X (by simp [V0Op.codes])
  | mac neg zero tap lane A X Y =>
    have hX := h X (by simp [V0Op.codes])
    have hY := h Y (by simp [V0Op.codes])
    cases tap with
    | false => simp [V0Op.legal, hX, hY]
    | true => simp [V0Op.legal, hX, hY, htap neg zero lane A X Y rfl]

/-- A V1-slot operation is legal when its codes name registers, and ACCN shifts by 42 at most. -/
theorem V1Op.legal_of_codes {op : V1Op} (h : ∀ v ∈ op.codes, vecCode v = true)
    (hshift : ∀ D E SH, op = .accn D E SH → SH ≤ 42) : op.legal = true := by
  cases op with
  | accn D E SH => simp_all [V1Op.codes, V1Op.legal]
  | _ => simp_all [V1Op.codes, V1Op.legal]

/-! ### Writes under a mask -/

theorem accWrs_eq (A : Fin 8) (mask : Nat) (f : Nat → AccLane × Bool) :
    accWrs A.val mask f = (accWrites A mask f).map (Prod.mk 1) := by
  rw [accWrs, accWrites, List.map_append, List.map_map, apply_ite (List.map _)]
  rfl

section
variable (x : Cluster) (mask : Nat) (neg zero : Bool) (A : Fin 8) (X Y L : Nat)

theorem runV0_mac : runV0 x mask (.mac neg zero false none A.val X Y) =
    (accWrites A mask fun j => macLane x.mark neg zero (x.a A.val j) ((x.v X).get j) ((x.v Y).get j)).map (Prod.mk 1) :=
  (List.append_nil _).trans (accWrs_eq ..)

theorem runV0_macb : runV0 x mask (.mac neg zero false (some L) A.val X Y) =
    (accWrites A mask fun j => macLane x.mark neg zero (x.a A.val j) ((x.v X).get j) ((x.v Y).get L)).map (Prod.mk 1) :=
  (List.append_nil _).trans (accWrs_eq ..)

/-- A tap moves its vector to the next warp register, where there is one (R423). -/
theorem runV0_tap : runV0 x mask (.mac neg zero true (some L) A.val X Y) =
    ((accWrites A mask fun j => macLane x.mark neg zero (x.a A.val j) ((x.v X).get j) ((x.v Y).get L)) ++
      if X < 127 then [Wr.vec (vkey x (X + 1)) mask (x.v X)] else []).map (Prod.mk 1) := by
  rw [List.map_append, ← accWrs_eq, apply_ite (List.map _)]
  simp [runV0]

end

/-! ### Faults of a program (R438, R442) -/

/-- A fault of a program that has not entered basted mode ends the program and marks its tenant. -/
theorem rFault_plain {x : Cluster} (hb : x.basted = false) (s : Chip) (d : Fin 4) (c kind pay st det : Nat) :
    rFault s d c kind pay st det x =
      markFaulted (raise (endProgram s d c true st det) d (rSource c) kind x.ten pay) x.ten := by
  simp [rFault, raiseT, raiseB, hb]

theorem sent_rFault {x : Cluster} (hb : x.basted = false) (s : Chip) (d : Fin 4) (c kind pay st det : Nat) :
    Sent (rFault s d c kind pay st det x) d kind x.ten := by
  simp only [rFault_plain hb, Sent, fly_markFaulted, now_markFaulted]
  exact sent_raise ..

theorem faulted_rFault {x : Cluster} (hb : x.basted = false) (s : Chip) (d : Fin 4) (c kind pay st det : Nat) :
    (rFault s d c kind pay st det x).fld 0 (Rf.YOKE_TEN_CTL_FAULTED.at x.ten.val) = 1 := by
  rw [rFault_plain hb]
  exact fld_faulted_markFaulted ..

theorem vec_rFault {x : Cluster} (hb : x.basted = false) (s : Chip) (d e : Fin 4) (c n kind pay st det : Nat) :
    ((rFault s d c kind pay st det x).cluster e n).vec = (s.cluster e n).vec := by
  rw [rFault_plain hb, vec_markFaulted, (ClustersKept.raise ..).cluster, vec_endProgram]

end Sys2Proof.Machine

namespace Sys2Proof.Says

open Sys2Proof.Machine

section
variable {d : Fin 4} {c : Fin 192} {s : State} {i : Instr} {codes : List Nat} {g : Nat}

/-- A V0-slot operation makes its accumulator and tap writes. -/
theorem gives_v0 (h : ClusterIssues s.chip d c codes) {op : V0Op}
    (hx : exec i s = .next ⟨issue d c { v0g := g, v0 := op } s.chip, s.pending⟩) {ws : List Wr}
    (hws : runV0 (s.chip.cluster d c.val) ((s.chip.cluster d c.val).p g) op = ws.map (Prod.mk 1))
    (hcodes : op.codes ⊆ codes := by exact fun _ hv => hv)
    (htap : ∀ neg zero lane A X Y, op = .mac neg zero true lane A X Y → 64 ≤ X := by nofun) :
    Gives i s (clusterDid s.chip d c ws) := by
  have hlegal : op.legal = true := by
    obtain ⟨-, -, -, -, -, hnames, -⟩ := h
    exact V0Op.legal_of_codes (fun v hv => hnames v (hcodes hv)) htap
  refine .of_effect hx ((issue_writes h ?_ ?_ rfl (.inl rfl) (ws := ws) ?_).trans ?_)
  · simp [Bundle.illegal, MOp.legal, V1Op.legal, hlegal]
  · rw [keys_v0]
    exact fun _ hk => List.map_subset _ hcodes hk
  · simp [hws, runV1, runS]
  · exact ite_self _

/-- A V1-slot operation makes its writes, and takes its open choices. -/
theorem gives_v1 (h : ClusterIssues s.chip d c codes) {op : V1Op}
    (hx : exec i s = .next ⟨issue d c { v1g := g, v1 := op } s.chip, s.pending⟩) {l : Nat} (hl : l = 1 ∨ l = 2 ∨ l = 3)
    {ws : List Wr}
    (hws : runV1 (s.chip.cluster d c.val) ((s.chip.cluster d c.val).p g) (divOpen s.chip) op = ws.map (Prod.mk l))
    (hcodes : op.codes ⊆ codes := by exact fun _ hv => hv)
    (hshift : ∀ D E SH, op = .accn D E SH → SH ≤ 42 := by nofun) :
    Gives i s { clusterDid s.chip d c ws with free := s.chip.free + bundleChoices { v1g := g, v1 := op } } := by
  have hlegal : op.legal = true := by
    obtain ⟨-, -, -, -, -, hnames, -⟩ := h
    exact V1Op.legal_of_codes (fun v hv => hnames v (hcodes hv)) hshift
  refine .of_effect hx ((issue_writes h ?_ ?_ rfl hl (ws := ws) ?_).trans ?_)
  · simp [Bundle.illegal, MOp.legal, V0Op.legal, hlegal]
  · rw [keys_v1]
    exact fun _ hk => List.map_subset _ hcodes hk
  · simp [hws, runV0, runS]
  · exact ite_self _

/-- The same of an operation without open choices. -/
theorem gives_v1_closed (h : ClusterIssues s.chip d c codes) {op : V1Op}
    (hx : exec i s = .next ⟨issue d c { v1g := g, v1 := op } s.chip, s.pending⟩) {l : Nat} {ws : List Wr}
    (hws : runV1 (s.chip.cluster d c.val) ((s.chip.cluster d c.val).p g) (divOpen s.chip) op = ws.map (Prod.mk l))
    (hl : l = 1 ∨ l = 2 ∨ l = 3 := by decide) (hcodes : op.codes ⊆ codes := by exact fun _ hv => hv)
    (hshift : ∀ D E SH, op = .accn D E SH → SH ≤ 42 := by nofun)
    (hfree : bundleChoices { v1g := g, v1 := op } = 0 := by rfl) : Gives i s (clusterDid s.chip d c ws) := by
  have hg := gives_v1 h hx hl hws hcodes hshift
  rwa [hfree] at hg

end

/-- The operands of a tap on warp register X, and the register past it where there is one (R423). -/
theorem codes_tap (neg zero : Bool) (lane : Option Nat) (A : Nat) (X Y : BitVec 7) :
    (V0Op.mac neg zero true lane A X.toNat Y.toNat).codes ⊆
      (if X.toNat < 127 then [X, Y, X + 1] else [X, Y]).map BitVec.toNat := by
  by_cases hX : X.toNat < 127
  · have hnext : (X + 1).toNat = X.toNat + 1 := by bv_omega
    simp only [V0Op.codes, hX, decide_true, Bool.and_self, if_true, List.map_cons, List.map_nil, hnext]
    exact fun _ hv => hv
  · simp [V0Op.codes, hX]

/-- Settles O36: each operation makes the writes of its row, all at one latency; an operation on a register that an XLD
still fills waits, and a code that names no register faults. -/
theorem rentikVectorOperationsTakeEffect : Obligations.RentikVectorOperationsTakeEffect := by
  unfold Obligations.RentikVectorOperationsTakeEffect
  intro d c g A D X Y L n S SH first s x mask lx ly acc does puts two one arith macs push tapCodes
  refine ⟨fun h => gives_v0 h rfl (runV0_mac ..), fun h => gives_v0 h rfl (runV0_mac ..),
    fun h => gives_v0 h rfl (runV0_mac ..), fun h => gives_v0 h rfl (runV0_macb ..),
    fun h => gives_v0 h rfl (runV0_macb ..),
    fun hX h => gives_v0 h rfl (runV0_tap ..) (codes_tap ..) fun _ _ _ _ _ _ hop => by cases hop; exact hX,
    fun hX h => gives_v0 h rfl (runV0_tap ..) (codes_tap ..) fun _ _ _ _ _ _ hop => by cases hop; exact hX,
    fun h => gives_v0 h rfl ?_, fun h => gives_v0 h rfl ?_,
    fun h => gives_v1_closed h rfl rfl, fun h => gives_v1_closed h rfl rfl, fun h => gives_v1_closed h rfl rfl,
    fun h => gives_v1_closed h rfl rfl, fun h => gives_v1_closed h rfl rfl, fun h => gives_v1_closed h rfl rfl,
    fun h => gives_v1_closed h rfl rfl, fun h => gives_v1_closed h rfl rfl, fun h => gives_v1_closed h rfl rfl,
    fun h => gives_v1_closed h rfl rfl, fun h => gives_v1_closed h rfl rfl, fun h => gives_v1_closed h rfl rfl,
    fun h => gives_v1_closed h rfl rfl, fun h => gives_v1_closed h rfl rfl, fun h => gives_v1_closed h rfl rfl,
    fun h => gives_v1_closed h rfl rfl, fun h => gives_v1_closed h rfl rfl (hcodes := by simp [V1Op.codes]),
    fun hSH h => gives_v1_closed h rfl rfl (hshift := fun _ _ _ hop => by cases hop; exact hSH),
    fun h => gives_v1_closed h rfl rfl, fun h => ?_, fun h => gives_v1_closed h rfl ?_ (.inr (.inl rfl)),
    fun a ha hload hreg h hX hD => ?_, fun h hD hb => ?_⟩
  · exact accWrs_eq ..
  · exact accWrs_eq ..
  · exact gives_v1 (op := .divs A.val X.toNat Y.toNat first) h rfl (.inl rfl) (by rw [List.map_map]; rfl)
  · rw [List.map_append, List.map_append, List.map_map]
    rfl
  · refine .of_effect rfl ((issue_legal h ?_).trans (issueBundle_pending ha hload ?_))
    · simp [Bundle.illegal, MOp.legal, V0Op.legal, V1Op.legal, hX, hD]
    · rw [keys_v1, hreg]
      exact List.mem_map_of_mem (by simp [V1Op.codes])
  · exact .of_effect rfl (issue_illegal (i := 2) h (by simp [Bundle.illegal, MOp.legal, V0Op.legal, V1Op.legal, hD]))
      ⟨sent_rFault hb .., faulted_rFault hb .., vec_rFault hb ..⟩

end Sys2Proof.Says
end

section
/-! Vector accesses to the cluster stores: the words that sixteen lanes lie in, and what a store puts there (R346, R398,
R416). -/

namespace Sys2Proof.Machine

/-! ### Lists of numbers -/

theorem range_eq_range' (lo n : Nat) : range lo n = List.range' lo n := by
  induction n generalizing lo with
  | zero => rfl
  | succ n ih => rw [range, ih, List.range'_succ]

theorem mem_range {lo n i : Nat} : i ∈ range lo n ↔ lo ≤ i ∧ i < lo + n := by
  rw [range_eq_range', List.mem_range'_1]

/-! ### Lanes of a word (R19, R346) -/

theorem getLane_ofLanes (f : Nat → Lane) {k : Nat} (hk : k < 4) :
    getLane (ofLanes (f 0) (f 1) (f 2) (f 3)) k = f k := by
  have h0 := (f 0).isLt
  have h1 := (f 1).isLt
  have h2 := (f 2).isLt
  have h3 := (f 3).isLt
  apply BitVec.eq_of_toNat_eq
  simp only [getLane, ofLanes, BitVec.toNat_ofNat]
  interval_cases k <;> omega

theorem getLane_overLanes (mask : Nat) (old new : Quadlane) {k : Nat} (hk : k < 4) :
    getLane (overLanes mask old new) k = if bit mask k then getLane new k else getLane old k :=
  getLane_ofLanes (fun k => if bit mask k then getLane new k else getLane old k) hk

theorem getLane_vecWordData {l w : Nat} (v : Vec) {k : Nat} (hk : k < 4) (h : l ≤ 4 * w + k) :
    getLane (vecWordData l w v) k = v.get (4 * w + k - l) :=
  (getLane_ofLanes (fun k => if l ≤ 4 * w + k then v.get (4 * w + k - l) else 0) hk).trans (if_pos h)

/-- The bits of a mask of four lanes. -/
theorem bit_fourLanes (p : Nat → Prop) [DecidablePred p] {k : Nat} (hk : k < 4) :
    bit (((range 0 4).map fun k => if p k then 2 ^ k else 0).foldl (· + ·) 0) k = decide (p k) := by
  have h : ∀ a b c e : Bool, ∀ k : Fin 4, bit (((([a, b, c, e].zipIdx).map fun q => if q.1 then 2 ^ q.2 else 0)).foldl
      (· + ·) 0) k.val = [a, b, c, e].getD k.val false := by decide
  have hp := h (decide (p 0)) (decide (p 1)) (decide (p 2)) (decide (p 3)) ⟨k, hk⟩
  simp only [List.zipIdx_cons, List.zipIdx_nil, List.map_cons, List.map_nil, decide_eq_true_eq] at hp
  refine Eq.trans (Eq.trans ?_ hp) ?_
  · rfl
  · interval_cases k <;> rfl

/-! ### The words of a vector (R398) -/

/-- Lane `k` of word `w` is one of the sixteen from lane `l`, and the guard enables it. -/
abbrev laneOn (l mask w k : Nat) : Prop := l ≤ 4 * w + k ∧ 4 * w + k < l + 16 ∧ bit mask (4 * w + k - l) = true

/-- The lanes of word `w` that the guard enables. -/
def wordMask (l mask w : Nat) : Nat :=
  ((range 0 4).map fun k =>
    if l ≤ 4 * w + k ∧ 4 * w + k < l + 16 ∧ bit mask (4 * w + k - l) then 2 ^ k else 0).foldl (· + ·) 0

theorem bit_wordMask (l mask w : Nat) {k : Nat} (hk : k < 4) :
    bit (wordMask l mask w) k = decide (laneOn l mask w k) := bit_fourLanes (laneOn l mask w) hk

theorem laneOn_of_wordMask {l mask w : Nat} (h : wordMask l mask w ≠ 0) : ∃ k < 4, laneOn l mask w k := by
  by_contra hnone
  have hoff (k : Nat) (hk : k < 4) : (if laneOn l mask w k then 2 ^ k else 0) = 0 :=
    if_neg fun hon => hnone ⟨k, hk, hon⟩
  refine h ?_
  show 0 + (if laneOn l mask w 0 then 2 ^ 0 else 0) + (if laneOn l mask w 1 then 2 ^ 1 else 0) +
    (if laneOn l mask w 2 then 2 ^ 2 else 0) + (if laneOn l mask w 3 then 2 ^ 3 else 0) = 0
  rw [hoff 0 (by decide), hoff 1 (by decide), hoff 2 (by decide), hoff 3 (by decide)]

theorem wordMask_of_laneOn {l mask w k : Nat} (hk : k < 4) (h : laneOn l mask w k) : wordMask l mask w ≠ 0 := by
  intro h0
  have hbit := bit_wordMask l mask w hk
  rw [h0, decide_eq_true h] at hbit
  simp [bit] at hbit

/-- The words of a vector are those of which the guard enables a lane, each once. -/
theorem mem_vecWords {l mask : Nat} {p : Nat × Nat} : p ∈ vecWords l mask ↔
    (∃ k < 4, laneOn l mask p.1 k) ∧ p.2 = wordMask l mask p.1 := by
  have hmem : p ∈ vecWords l mask ↔ (∃ w ∈ range (l / 4) 5, (w, wordMask l mask w) = p) ∧ (p.2 != 0) = true := by
    rw [← List.mem_map]
    exact List.mem_filter
  obtain ⟨w, m⟩ := p
  simp only [hmem, mem_range, Prod.mk.injEq, bne_iff_ne]
  constructor
  · rintro ⟨⟨w, hw, rfl, rfl⟩, hm⟩
    exact ⟨laneOn_of_wordMask hm, rfl⟩
  · rintro ⟨⟨k, hk, hon⟩, rfl⟩
    obtain ⟨hlo, hhi, hbit⟩ := hon
    exact ⟨⟨w, by omega, rfl, rfl⟩, wordMask_of_laneOn hk ⟨hlo, hhi, hbit⟩⟩

/-- The lanes of a vector at a word boundary. -/
theorem laneOn_aligned (W mask : Nat) {q k : Nat} (hq : q < 4) (hk : k < 4) :
    laneOn (4 * W) mask (W + q) k ↔ bit mask (4 * q + k) = true := by
  have hlane : 4 * (W + q) + k - 4 * W = 4 * q + k := by omega
  unfold laneOn
  rw [hlane]
  exact ⟨fun ⟨_, _, hbit⟩ => hbit, fun hbit => ⟨by omega, by omega, hbit⟩⟩

theorem nodup_vecWords (l mask : Nat) : ((vecWords l mask).map Prod.fst).Nodup := by
  have hsub : ((vecWords l mask).map Prod.fst).Sublist
      (((range (l / 4) 5).map fun w => (w, wordMask l mask w)).map Prod.fst) :=
    List.filter_sublist.map _
  refine hsub.nodup ?_
  rw [List.map_map, range_eq_range']
  exact (List.nodup_range' ..).map fun _ _ h => h

/-! ### Stores of a program that is not in basted mode (R255, R416) -/

/-- From `s` to `k` the words `ws` of the cluster stores of die `d` have taken lanes of `v`, laid out from lane `l`; no
other word of them has changed, and no cluster. -/
structure Stored (s k : Chip) (d : Fin 4) (l : Nat) (v : Vec) (ws : List (Nat × Nat)) : Prop where
  kept : ClustersKept s k
  data : ∀ p ∈ ws, (k.word d .cst p.1).data = overLanes p.2 (s.word d .cst p.1).data (vecWordData l p.1 v)
  beside : ∀ i, i ∉ ws.map Prod.fst → k.word d .cst i = s.word d .cst i

theorem writeMem_committed {s : Chip} {d : Fin 4} {i : Nat} (h : (s.word d .cst i).tag = .committed) (mask : Nat)
    (q : Quadlane) (t : Fin 256) : writeMem s d .cst i mask q (.prog t false) =
      (s.setWord d .cst i (rawWord .cst (s.word d .cst i) mask q), .done) := by
  simp [writeMem, writeWord, h, rawWrite, storeWord, injectInto]

/-- A store to committed words is made. -/
theorem stored_writeVec (d : Fin 4) (l : Nat) (t : Fin 256) (v : Vec) (ws : List (Nat × Nat))
    (hnodup : (ws.map Prod.fst).Nodup) (s : Chip) (htag : ∀ p ∈ ws, (s.word d .cst p.1).tag = .committed) :
    (writeVec s d .cst l (.prog t false) v ws).2 = .val v false ∧
      Stored s (writeVec s d .cst l (.prog t false) v ws).1 d l v ws := by
  induction ws generalizing s with
  | nil => exact ⟨rfl, .refl s, by simp, fun _ _ => rfl⟩
  | cons p ws ih =>
    obtain ⟨w, m⟩ := p
    obtain ⟨hw, hnodup⟩ := List.nodup_cons.1 hnodup
    have hput := writeMem_committed (htag (w, m) (by simp)) m (vecWordData l w v) t
    set s1 := s.setWord d .cst w (rawWord .cst (s.word d .cst w) m (vecWordData l w v)) with hs1
    have hword (i : Nat) (hi : i ≠ w) : s1.word d .cst i = s.word d .cst i := Chip.word_setWord_ne s _ (.inr (.inr hi))
    have hne (p : Nat × Nat) (hp : p ∈ ws) : p.1 ≠ w := fun h => hw (List.mem_map.2 ⟨p, hp, h⟩)
    obtain ⟨hval, hkept, hdata, hbeside⟩ := ih hnodup s1 fun p hp => by
      rw [hword _ (hne p hp)]
      exact htag p (by simp [hp])
    have hrec : writeVec s d .cst l (.prog t false) v ((w, m) :: ws) = writeVec s1 d .cst l (.prog t false) v ws := by
      rw [writeVec, if_neg (by decide), hput]
    rw [hrec]
    refine ⟨hval, (ClustersKept.setWord ..).trans hkept, fun p hp => ?_, fun i hi => ?_⟩
    · rcases List.mem_cons.1 hp with rfl | hp
      · rw [hbeside _ hw, hs1, Chip.word_setWord_same]
        rfl
      · rw [hdata p hp, hword _ (hne p hp)]
    · simp only [List.map_cons, List.mem_cons, not_or] at hi
      obtain ⟨hi, hrest⟩ := hi
      rw [hbeside i hrest, hword i hi]

section
variable {s k : Chip} {d : Fin 4} {l mask : Nat} {v : Vec} (h : Stored s k d l v (vecWords l mask))
include h

/-- Each lane that the guard enables holds the lane of the vector, and every other lane what it held. -/
theorem Stored.lane (w : Nat) {q : Nat} (hq : q < 4) : getLane (k.word d .cst w).data q =
    if laneOn l mask w q then v.get (4 * w + q - l) else getLane (s.word d .cst w).data q := by
  by_cases hw : ∃ k < 4, laneOn l mask w k
  · rw [h.data (w, wordMask l mask w) (mem_vecWords.2 ⟨hw, rfl⟩), getLane_overLanes _ _ _ hq, bit_wordMask l mask w hq]
    by_cases hon : laneOn l mask w q
    · rw [if_pos (decide_eq_true hon), if_pos hon, getLane_vecWordData v hq hon.1]
    · rw [if_neg (by simpa using hon), if_neg hon]
  · rw [h.beside w fun hmem => ?_, if_neg fun hon => hw ⟨q, hq, hon⟩]
    obtain ⟨p, hp, rfl⟩ := List.mem_map.1 hmem
    exact hw (mem_vecWords.1 hp).1

/-- A word of which the guard enables no lane stays. -/
theorem Stored.other {w : Nat} (hw : ∀ q < 4, ¬ laneOn l mask w q) : k.word d .cst w = s.word d .cst w := by
  refine h.beside w fun hmem => ?_
  obtain ⟨p, hp, rfl⟩ := List.mem_map.1 hmem
  obtain ⟨⟨q, hq, hon⟩, -⟩ := mem_vecWords.1 hp
  exact hw q hq hon

end

end Sys2Proof.Machine
end

section
/-! Rentik operations of the M slot: local and remote accesses, FENCE, and code loads (R414, R416 to R418, R428,
R429). -/

namespace Sys2Proof.Machine

open Sys2Proof.Says

theorem Chip.word_setCluster (s : Chip) (d e : Fin 4) (c : Nat) (x : Cluster) (m : Mem) (i : Nat) :
    (s.setCluster d c x).word e m i = s.word e m i := by
  rw [Chip.word, Chip.setCluster, Chip.d_upd]
  split
  · next h => subst h; cases m <;> rfl
  · rfl

/-! ### Issue of an M-slot operation -/

/-- The codes of the vector operands that an M-slot operation reads or writes. -/
def MOp.codes : MOp → List Nat
  | .ld _ R _ _ => [R]
  | .st _ R _ _ => [R]
  | .getl _ X _ => [X]
  | .putl R _ _ => [R]
  | .xld R _ _ => [R]
  | .xst R _ _ => [R]
  | _ => []

theorem keys_m (x : Cluster) (g : Nat) (op : MOp) : Bundle.keys x { mg := g, m := op } = op.codes.map (vkey x) := by
  cases op <;> rfl

section
variable {s : Chip} {d : Fin 4} {c : Fin 192} {codes : List Nat} {g : Nat} {op : MOp} (h : ClusterIssues s d c codes)
  (hlegal : op.legal = true) (hcodes : op.codes ⊆ codes)
include h hlegal hcodes

/-- An M-slot operation that is done makes its register writes and adds its accesses, and the cluster moves on. -/
theorem issue_memory {k : Chip} {mw : Wrs} {xs : List XAcc} {basted : Bool}
    (hm : runM s d c (s.cluster d c.val) ((s.cluster d c.val).p g) op = (k, .ok mw xs basted false))
    (hkept : ClustersKept s k) :
    let x := s.cluster d c.val
    issue d c { mg := g, m := op } s = k.setCluster d c.val (op.clears (bit (x.p g) 0)
      (applyWrs { x with pc := x.pc + 1, passBp := false, basted := x.basted || basted, xq := x.xq ++ xs } mw)) := by
  have hb : ({ mg := g, m := op } : Bundle).illegal = none := by simp [Bundle.illegal, V0Op.legal, V1Op.legal, hlegal]
  have hk : ∀ q ∈ Bundle.keys (s.cluster d c.val) { mg := g, m := op }, q ∈ codes.map (vkey (s.cluster d c.val)) := by
    rw [keys_m]
    exact fun _ hk => List.map_subset _ hcodes hk
  refine (issue_ok (b := { mg := g, m := op }) h hb hk hm).trans ((ite_self _).trans ?_)
  simp only [Bundle.after, runV0, runV1, runS, ite_self, List.append_nil, hkept.cluster]
  rfl

/-- The same of an operation that only writes registers. -/
theorem issue_memory_writes {l : Nat} (hl : l = 1 ∨ l = 2 ∨ l = 3) {ws : List Wr}
    (hm : runM s d c (s.cluster d c.val) ((s.cluster d c.val).p g) op = (s, .ok (ws.map (Prod.mk l)) [] false false))
    (hclears : ∀ on z, op.clears on z = z) : issue d c { mg := g, m := op } s = clusterDid s d c ws := by
  refine (issue_memory h hlegal hcodes hm (.refl s)).trans ?_
  rw [hclears, applyWrs_map hl, Bool.or_false, List.append_nil]
  rfl

/-- An M-slot operation that waits holds its bundle. -/
theorem issue_memory_stall {k : Chip}
    (hm : runM s d c (s.cluster d c.val) ((s.cluster d c.val).p g) op = (k, .stall)) :
    issue d c { mg := g, m := op } s = k := by
  refine issue_stall (b := { mg := g, m := op }) h ?_ ?_ hm
  · simp [Bundle.illegal, V0Op.legal, V1Op.legal, hlegal]
  · rw [keys_m]
    exact fun _ hk => List.map_subset _ hcodes hk

end

/-- The one code that a bundle names is that of a register. -/
theorem vecCode_of_issues {s : Chip} {d : Fin 4} {c : Fin 192} {v : Nat} (h : ClusterIssues s d c [v]) :
    vecCode v = true := by
  obtain ⟨-, -, -, -, -, hnames, -⟩ := h
  exact hnames v (List.mem_singleton.2 rfl)

/-! ### What each operation of the M slot answers -/

section
variable {s : Chip} {d : Fin 4} {c : Fin 192} {x : Cluster} {w : Int} {words size mask : Nat}

theorem mLoad_val (hok : cstOk x c.val false w words size = true) {u : Vec} {b : Bool} {r : Chip × VRes}
    (hr : readVec s d .cst (c.val * 32768 + 4 * w.toNat) (.prog x.ten) vec0 false
      (vecWords (c.val * 32768 + 4 * w.toNat) mask) = r) (hv : r.2 = .val u b) (f : Vec → Wrs) (more : Wrs) :
    mLoad s d c.val x w words size mask f more = (r.1, .ok (f u ++ more) [] b false) := by
  subst hr
  simp [mLoad, hok, hv]

/-- A store outside basted mode to committed words is made; it begins at a word boundary. -/
theorem mStore_committed {W : Nat} (hW : c.val * 8192 + w.toNat = W) (hok : cstOk x c.val true w words size = true)
    (hb : writesBasted s d x = false) (htag : ∀ p ∈ vecWords (4 * W) mask, (s.word d .cst p.1).tag = .committed)
    (v : Vec) (more : Wrs) : ∃ k, mStore s d c.val x w words size mask v more = (k, .ok more [] false false) ∧
      Stored s k d (4 * W) v (vecWords (4 * W) mask) := by
  have hl : c.val * 32768 + 4 * w.toNat = 4 * W := by rw [← hW]; ring
  obtain ⟨hval, hstored⟩ := stored_writeVec d (4 * W) x.ten v _ (nodup_vecWords ..) s htag
  refine ⟨_, ?_, hstored⟩
  rw [mStore, if_pos hok]
  simp only [hl, hb, hval]

end

section
variable {s : Chip} {d e : Fin 4} {c : Fin 192} {x : Cluster} {R A F mask : Nat}

/-- An XLD from lane memory of its own die reads at its issue. -/
theorem mXld_lanes {m : Mem} {l : Nat} (hchk : xCheck s d x.ten (xAddr x A) F false false = .ok d (.lanes m l))
    {u : Vec} {b : Bool} (hv : (readVec s d m l (.prog x.ten) vec0 false (vecWords l mask)).2 = .val u b) :
    mXld s d c x R A F mask =
      ({ (readVec s d m l (.prog x.ten) vec0 false (vecWords l mask)).1 with nextId := s.nextId + 1 },
        .ok [] [XAcc.mk s.nextId false (vkey x R) mask (xAddr x A) F u false] b false) := by
  -- Unfolded before it meets its arguments: compared with its body applied, the kernel would evaluate `xCheck`.
  generalize hf : mXld = f
  delta mXld at hf
  subst hf
  beta_reduce
  extract_lets addr
  split
  · next h => exact absurd (h.symm.trans hchk) nofun
  · next h => exact absurd (h.symm.trans hchk) nofun
  · next h =>
    obtain ⟨rfl, rfl⟩ := XCheck.ok.inj (h.symm.trans hchk)
    rw [if_pos rfl]
    simp only [hv, bne_self_eq_false]
    rfl

/-- An XST to another die outside basted mode is sent. -/
theorem mXst_remote {p : XPlace} (he : e ≠ d) (hb : writesBasted s d x = false)
    (hchk : xCheck s d x.ten (xAddr x A) F true false = .ok e p) : ∃ a : RAcc, mXst s d c x R A F mask =
      ({ s with nextId := s.nextId + 1, remotes := s.remotes ++ [a] },
        .ok [] [XAcc.mk s.nextId true 0 mask (xAddr x A) F vec0 true] false false) := by
  refine ⟨{ id := s.nextId, die := d, target := e, init := .rentik c s.nextId, ten := x.ten,
            op := .vecWrite (xAddr x A % 2 ^ 38) F mask (x.v R), issued := s.now d, basted := false }, ?_⟩
  generalize hf : mXst = f
  delta mXst at hf
  subst hf
  beta_reduce
  extract_lets +onlyGivenNames addr b
  have hfalse : b = false := hb
  clear_value b
  subst hfalse
  split
  · next h => exact absurd (h.symm.trans hchk) nofun
  · next h => exact absurd (h.symm.trans hchk) nofun
  · next e' p' h =>
    obtain ⟨rfl, rfl⟩ := XCheck.ok.inj (hchk.symm.trans h)
    have hne : (e != d) = true := bne_iff_ne.2 he
    rw [Bool.false_and, if_neg Bool.false_ne_true, if_neg he, hne]
    rfl

end

/-- A write of a vector three cycles after issue, and that of a post-increment one cycle after (R403, R416). -/
theorem applyWrs_load (x : Cluster) (post : Bool) (a b : Wr) :
    applyWrs x ([(3, a)] ++ if post then [(1, b)] else []) = a.apply (if post then b.apply x else x) := by
  cases post <;> rfl

theorem applyWrs_post (x : Cluster) (post : Bool) (b : Wr) :
    applyWrs x (if post then [(1, b)] else []) = if post then b.apply x else x := by
  cases post <;> rfl

/-- What a cluster reads after a load: the lanes of its guard, and the post-increment where the form has one. -/
theorem reads_after_load (x : Cluster) (post basted : Bool) (R A mask : Nat) (u : Vec) (v : BitVec 28)
    (xs : List XAcc) :
    let z := applyWrs { x with pc := x.pc + 1, passBp := false, basted := basted, xq := xs }
      ([(3, .vec (vkey x R) mask u)] ++ if post then [(1, .s A v)] else [])
    (∀ j, j < 16 → (z.v R).get j = if bit mask j then u.get j else (x.v R).get j) ∧
      z.s A = (if post then v else x.s A) ∧ z.pc = x.pc + 1 := by
  intro z
  have hz : z = _ := applyWrs_load ..
  clear_value z
  subst hz
  cases post with
  | true => exact ⟨fun j hj => get_vk_apply_vec _ _ mask u hj, (s_apply_s ..).trans (if_pos rfl), rfl⟩
  | false => exact ⟨fun j hj => get_vk_apply_vec _ _ mask u hj, rfl, rfl⟩

/-- What a cluster reads after a store: the post-increment where the form has one. -/
theorem reads_after_store (x : Cluster) (post basted : Bool) (A : Nat) (v : BitVec 28) (xs : List XAcc) :
    (applyWrs { x with pc := x.pc + 1, passBp := false, basted := basted, xq := xs }
      (if post then [(1, .s A v)] else [])).s A = if post then v else x.s A := by
  rw [applyWrs_post]
  cases post with
  | true => exact (s_apply_s ..).trans (if_pos rfl)
  | false => rfl

theorem maskedBits_all (v old : Nat) : maskedBits 0xFFFF v old = BitVec.ofNat 16 v := by
  have h : Nat.land v 0xFFFF = v % 2 ^ 16 := Nat.and_two_pow_sub_one_eq_mod v 16
  have h0 : Nat.land old (0xFFFF - 0xFFFF) = 0 := Nat.and_zero old
  have hx : Nat.xor (v % 2 ^ 16) 0 = v % 2 ^ 16 := Nat.xor_zero _
  rw [maskedBits, h, h0, hx]
  exact BitVec.eq_of_toNat_eq (by simp)

/-! ### FENCE (R417) -/

theorem fence_done {s : Chip} {d : Fin 4} {c : Fin 192} {x : Cluster} {mask : Nat} (hon : bit mask 0 = true)
    (hxq : x.xq = []) (E : Nat) : runM s d c x mask (.fence E) =
      (s, .ok [(1, .p E 0xFFFF (if x.fenceBad then 0 else 0xFFFF))] [] false false) := by
  simp [runM, hon, hxq]

theorem fence_waits {s : Chip} {d : Fin 4} {c : Fin 192} {x : Cluster} {mask : Nat} (hon : bit mask 0 = true)
    (hxq : x.xq ≠ []) (E : Nat) : runM s d c x mask (.fence E) = (s, .stall) := by
  simp [runM, hon, hxq]

/-! ### The lanes of STS (R416) -/

/-- Under the guard of STS lanes 0 and 1 of its word take the two halves of a scalar. -/
theorem laneOn_scalar (W w : Nat) {q : Nat} (hq : q < 4) : laneOn (4 * W) 3 w q ↔ w = W ∧ q < 2 := by
  have hbits : ∀ j, j < 16 → (bit 3 j = true ↔ j < 2) := by decide
  unfold laneOn
  refine ⟨fun ⟨hlo, hhi, hbit⟩ => ?_, fun ⟨hw, hlt⟩ => ?_⟩
  · have := (hbits _ (by omega)).1 hbit
    omega
  · exact ⟨by omega, by omega, (hbits _ (by omega)).2 (by omega)⟩

/-! ### X accesses that complete (R418) -/

/-- An access of its own die that nothing before it overlaps is over. -/
theorem xAccessComplete_local {s : Chip} {d : Fin 4} {c : Fin 192} {i : Nat} {a : XAcc} {as : List XAcc}
    (hup : up s d = true) (hdrop : (s.cluster d c.val).xq.drop i = a :: as) (hloc : a.remote = false)
    (hfirst : ((s.cluster d c.val).xq.take i).any (xOverlap a) = false) :
    xAccessComplete d c i s = s.setCluster d c.val (finishX (s.cluster d c.val) a a.data) :=
  (whenUp_of_up hup _).trans (by simp only [hdrop, hloc, hfirst, Bool.false_or, Bool.false_eq_true, if_false])

section
variable {s k : Chip} {d : Fin 4} {W : Nat}

/-- The words of a vector at a word boundary are four. -/
theorem committed_of_aligned (mask : Nat) (htag : ∀ q < 4, (s.word d .cst (W + q)).tag = .committed) :
    ∀ p ∈ vecWords (4 * W) mask, (s.word d .cst p.1).tag = .committed := by
  intro p hp
  obtain ⟨⟨q, hq, hlo, hhi, -⟩, -⟩ := mem_vecWords.1 hp
  have h := htag (p.1 - W) (by omega)
  rwa [Nat.add_sub_cancel' (by omega)] at h

theorem committed_of_scalar (htag : (s.word d .cst W).tag = .committed) :
    ∀ p ∈ vecWords (4 * W) 3, (s.word d .cst p.1).tag = .committed := by
  intro p hp
  obtain ⟨⟨q, hq, hlane⟩, -⟩ := mem_vecWords.1 hp
  rwa [((laneOn_scalar W p.1 hq).1 hlane).1]

/-- What the words of a cluster store hold after a vector store at a word boundary. -/
theorem Stored.vector {mask : Nat} {v : Vec} (h : Stored s k d (4 * W) v (vecWords (4 * W) mask)) :
    (∀ q < 4, ∀ l < 4, getLane (k.word d .cst (W + q)).data l =
      if bit mask (4 * q + l) then v.get (4 * q + l) else getLane (s.word d .cst (W + q)).data l) ∧
    ∀ i, (i < W ∨ W + 4 ≤ i) → k.word d .cst i = s.word d .cst i := by
  refine ⟨fun q hq l hl => ?_, fun i hi => h.other fun q hq ⟨hlo, hhi, _⟩ => by omega⟩
  rw [h.lane _ hl, if_congr (laneOn_aligned _ _ hq hl) rfl rfl, show 4 * (W + q) + l - 4 * W = 4 * q + l by omega]

/-- What they hold after a store of the halves of a scalar. -/
theorem Stored.scalar {n : Nat} (h : Stored s k d (4 * W) (Lanes.ofFn fun j => BitVec.ofNat 14 (n / 2 ^ (14 * j)))
    (vecWords (4 * W) 3)) :
    getLane (k.word d .cst W).data 0 = BitVec.ofNat 14 n ∧
    getLane (k.word d .cst W).data 1 = BitVec.ofNat 14 (n / 2 ^ 14) ∧
    getLane (k.word d .cst W).data 2 = getLane (s.word d .cst W).data 2 ∧
    getLane (k.word d .cst W).data 3 = getLane (s.word d .cst W).data 3 ∧
    ∀ j, j ≠ W → k.word d .cst j = s.word d .cst j := by
  have hlane {q : Nat} (hq : q < 4) : getLane (k.word d .cst W).data q =
      if q < 2 then BitVec.ofNat 14 (n / 2 ^ (14 * q)) else getLane (s.word d .cst W).data q := by
    rw [h.lane W hq, if_congr ((laneOn_scalar W W hq).trans (and_iff_right rfl)) rfl rfl, Nat.add_sub_cancel_left,
      Lanes.get_ofFn _ (by omega)]
  exact ⟨(hlane (by decide)).trans (by simp), (hlane (by decide)).trans (by simp), hlane (by decide), hlane (by decide),
    fun j hj => h.other fun q hq hon => hj ((laneOn_scalar W j hq).1 hon).1⟩

end

/-! ### Code loads (R429) -/

theorem istoreAt_of_die {s k : Chip} {d : Fin 4} (h : (k.d d).istore = (s.d d).istore)
    (hz : (k.d d).istZero = (s.d d).istZero) (c a : Nat) : istoreAt k d c a = istoreAt s d c a := by
  have hd : istoreDflt k d = istoreDflt s d := by
    funext i
    simp only [istoreDflt, hz]
  rw [istoreAt, istoreAt, hd, h]

theorem istoreAt_setFld (s : Chip) (d : Fin 4) (f : Fld) (v c a : Nat) :
    istoreAt (s.setFld d f v) d c a = istoreAt s d c a :=
  istoreAt_of_die (Chip.istore_of_setFld ..) (Chip.istZero_of_setFld ..) c a

theorem Chip.fld_upd {s : Chip} {d e : Fin 4} {f : DieSt → DieSt} {g : Fld} (h : ∀ x, (f x).regs = x.regs) :
    (s.upd d f).fld e g = s.fld e g := by
  rw [Chip.fld, Chip.reg_upd s d e _ f h, Chip.fld]

theorem iloadOk_upd {s : Chip} {d : Fin 4} {f : DieSt → DieSt} (h : ∀ x, (f x).regs = x.regs) :
    iloadOk (s.upd d f) d = iloadOk s d := by
  rw [iloadOk, Chip.fld_upd h, Chip.fld_upd h, iloadOk]

/-- What a complete bundle does at one cluster of its set. -/
def putIdle (d : Fin 4) (a : Nat) (w : BitVec 128) (s : Chip) (c : Nat) : Chip :=
  if (s.cluster d c).st = .idle then putBundle s d c a w else s.setFld d Rf.RENTIK_ILOAD_STAT_SKIPPED 1

section
variable {d : Fin 4} {a : Nat} {w : BitVec 128} {s : Chip} {c : Nat}

theorem ClustersKept.putIdle (s : Chip) (b : Nat) : ClustersKept s (putIdle d a w s b) :=
  .guarded (.upd s d fun _ => rfl) (.setFld ..)

theorem istoreAt_putIdle_same (ha : a < 4096) (hst : (s.cluster d c).st = .idle) :
    istoreAt (putIdle d a w s c) d c a = w := by
  rw [Machine.putIdle, if_pos hst, istoreAt_putBundle _ _ _ _ _ _ _ _ ha ha, if_pos ⟨rfl, rfl, rfl⟩]

theorem istoreAt_putIdle_kept (ha : a < 4096) (h : istoreAt s d c a = w) (b : Nat) :
    istoreAt (putIdle d a w s b) d c a = w := by
  unfold Machine.putIdle
  split
  · rw [istoreAt_putBundle _ _ _ _ _ _ _ _ ha ha, h, ite_self]
  · rw [istoreAt_setFld, h]

/-- Every idle cluster of the set takes the bundle. -/
theorem istoreAt_overAll (ha : a < 4096) {l : List Nat} (hc : c ∈ l) (hst : (s.cluster d c).st = .idle) :
    istoreAt (overAll (putIdle d a w) s l) d c a = w := by
  induction l generalizing s with
  | nil => exact absurd hc List.not_mem_nil
  | cons b l ih =>
    rcases List.mem_cons.1 hc with rfl | hc
    · exact overAll_keeps (fun k => istoreAt k d c a = w) _ (fun _ b h => istoreAt_putIdle_kept ha h b) _ l
        (istoreAt_putIdle_same ha hst)
    · exact ih hc (by rwa [(ClustersKept.putIdle s b).cluster])

theorem istoreAt_iloadBundle (hok : iloadOk s d = true) (hend : (s.d d).iloadEnd = false)
    (hst : (s.cluster d c).st = .idle) (hlo : s.fld d Rf.RENTIK_ILOAD_CTL_FIRST ≤ c)
    (hhi : c < s.fld d Rf.RENTIK_ILOAD_CTL_FIRST + s.fld d Rf.RENTIK_ILOAD_CTL_COUNT) :
    istoreAt (iloadBundle s d w) d c (s.fld d Rf.RENTIK_ILOAD_STAT_NEXT) = w := by
  rw [iloadBundle, if_pos (by rw [hok, hend]; rfl)]
  refine (istoreAt_of_die ?_ ?_ c _).trans
    (istoreAt_overAll (Chip.fld_lt s d Rf.RENTIK_ILOAD_STAT_NEXT) (mem_range.2 ⟨hlo, hhi⟩) hst)
  · simp only [Chip.d_upd_same, Chip.istore_of_setFld]
    rfl
  · simp only [Chip.d_upd_same, Chip.istZero_of_setFld]
    rfl

end

/-- A word that does not complete a bundle is kept. -/
theorem iloadData_part (s : Chip) (d : Fin 4) (v : Word) (h : (s.d d).iload.length < 3) :
    iloadData s d v = s.upd d fun y => { y with iload := y.iload ++ [v] } := by
  unfold iloadData
  split
  · next hw =>
    have hlen := congrArg List.length hw
    rw [List.length_append] at hlen
    exact absurd hlen (by simpa using h.ne)
  · exact Chip.upd_congr rfl

/-- The fourth word completes a bundle. -/
theorem iloadData_fourth {s : Chip} {d : Fin 4} {w0 w1 w2 : Word} (h : (s.d d).iload = [w0, w1, w2]) (v : Word) :
    iloadData s d v = iloadBundle (s.upd d fun y => { y with iload := [] }) d
      (BitVec.ofNat 128 (w0.toNat + w1.toNat * 2 ^ 32 + w2.toNat * 2 ^ 64 + v.toNat * 2 ^ 96)) := by
  rw [iloadData, h]
  rfl

theorem istoreAt_iloadData {s : Chip} {d : Fin 4} {c : Nat} {w0 w1 w2 : Word} (h : (s.d d).iload = [w0, w1, w2])
    (hok : iloadOk s d = true) (hend : (s.d d).iloadEnd = false) (hst : (s.cluster d c).st = .idle)
    (hlo : s.fld d Rf.RENTIK_ILOAD_CTL_FIRST ≤ c)
    (hhi : c < s.fld d Rf.RENTIK_ILOAD_CTL_FIRST + s.fld d Rf.RENTIK_ILOAD_CTL_COUNT) (v : Word) :
    istoreAt (iloadData s d v) d c (s.fld d Rf.RENTIK_ILOAD_STAT_NEXT) =
      BitVec.ofNat 128 (w0.toNat + w1.toNat * 2 ^ 32 + w2.toNat * 2 ^ 64 + v.toNat * 2 ^ 96) := by
  rw [iloadData_fourth h]
  set f : DieSt → DieSt := fun y => { y with iload := [] }
  have hregs (y : DieSt) : (f y).regs = y.regs := rfl
  have hfld (g : Fld) : (s.upd d f).fld d g = s.fld d g := Chip.fld_upd hregs
  rw [← hfld Rf.RENTIK_ILOAD_STAT_NEXT]
  refine istoreAt_iloadBundle ((iloadOk_upd hregs).trans hok) ?_ ?_ ?_ ?_
  · rw [Chip.d_upd_same]
    exact hend
  · rwa [(ClustersKept.upd (f := f) s d fun _ => rfl).cluster]
  · rwa [hfld]
  · rwa [hfld, hfld]

theorem iloadCtl_stored (s : Chip) (d : Fin 4) (v : Word) :
    let k := iloadCtl s d v
    k.fld d Rf.RENTIK_ILOAD_CTL_FIRST = getBits v 0 8 ∧ k.fld d Rf.RENTIK_ILOAD_CTL_COUNT = getBits v 8 8 ∧
      k.fld d Rf.RENTIK_ILOAD_STAT_NEXT = getBits v 16 12 ∧ (k.d d).iload = [] := by
  obtain ⟨hfirst, hcount, -, -⟩ := Chip.stored_three s d (f := Rf.RENTIK_ILOAD_CTL_FIRST)
    (g := Rf.RENTIK_ILOAD_CTL_COUNT) (h := Rf.RENTIK_ILOAD_CTL_ADDR) (by decide) (by decide) (by decide) rfl rfl
    (getBits_lt v 0 8) (getBits_lt v 8 8) (getBits_lt v 16 12)
  have hfld (x : Chip) (g : Fld) : (x.upd d fun y => { y with iload := [], iloadEnd := false }).fld d g = x.fld d g :=
    Chip.fld_upd fun _ => rfl
  dsimp only [iloadCtl]
  refine ⟨?_, ?_, ?_, ?_⟩
  · rw [hfld, Chip.fld_setFld_ne _ _ (.inr (by decide)), hfirst]
  · rw [hfld, Chip.fld_setFld_ne _ _ (.inr (by decide)), hcount]
  · rw [hfld, Chip.fld_setFld_same _ d _ _ (by decide)]
    exact Nat.mod_eq_of_lt (getBits_lt v 16 12)
  · rw [Chip.d_upd_same]

end Sys2Proof.Machine

namespace Sys2Proof.Says

open Sys2Proof.Machine

/-- Settles O37, operation by operation: what the M slot answers at issue, and what a store puts in the words of its
lanes. -/
theorem rentikMemoryOperationsTakeEffect : Obligations.RentikMemoryOperationsTakeEffect := by
  unfold Obligations.RentikMemoryOperationsTakeEffect
  intro d c g E R S A K L F t v s x mask at_ lane0 reads loads stores
  have load {i : Instr} {post : Bool} (hx : exec i s = .next ⟨issue d c
      { mg := g.val, m := .ld post R.toNat A.val K.toInt } s.chip, s.pending⟩) : loads i post := by
    intro u b h hmask hok hval
    have hrun : runM s.chip d c x mask (.ld post R.toNat A.val K.toInt) = (_, .ok _ [] b false) :=
      (if_neg hmask).trans (mLoad_val hok rfl hval _ _)
    refine .of_effect hx (issue_memory (g := g.val) (op := .ld post R.toNat A.val K.toInt) h (vecCode_of_issues h)
      (fun _ hv => hv) hrun (.readVec ..)) ?_
    rw [Chip.cluster_setCluster_same]
    exact reads_after_load ..
  have store {i : Instr} {post : Bool} (hx : exec i s = .next ⟨issue d c
      { mg := g.val, m := .st post R.toNat A.val K.toInt } s.chip, s.pending⟩) : stores i post := by
    intro h hmask hok hb htag
    obtain ⟨k, hst, hstored⟩ := mStore_committed rfl hok hb (committed_of_aligned mask htag) (x.v R.toNat)
      (if post then [(1, .s A.val (x.s A.val + BitVec.ofInt 28 K.toInt))] else [])
    have hrun : runM s.chip d c x mask (.st post R.toNat A.val K.toInt) = (k, .ok _ [] false false) :=
      (if_neg hmask).trans hst
    refine .of_effect hx (issue_memory (g := g.val) (op := .st post R.toNat A.val K.toInt) h (vecCode_of_issues h)
      (fun _ hv => hv) hrun hstored.kept) ?_
    simp only [Chip.word_setCluster, Chip.cluster_setCluster_same]
    obtain ⟨hlanes, hothers⟩ := hstored.vector
    exact ⟨hlanes, fun i hi => hothers i (by simpa only [Nat.add_zero] using hi), reads_after_store ..⟩
  refine ⟨load rfl, load rfl, store rfl, store rfl, fun u b h hon hok hval => ?_, fun h hon hok hb htag => ?_,
    fun h => ?_, fun h => ?_, fun m l u b h hmask hlen hA hF hchk hval => ?_,
    fun e p h hmask hlen hA hF he hb hchk => ?_, fun h hon hxq => ?_, fun h hon hxq => ?_,
    fun i a as hup hdrop hloc hfirst => ?_, fun hw => ?_, fun hw hlen => ?_,
    fun w0 w1 w2 hw hld hok hend hst hlo hhi => ?_⟩
  -- LDS
  · have hrun : runM s.chip d c x mask (.lds S.val A.val K.toInt) = (_, .ok _ [] b false) :=
      (if_pos hon).trans (mLoad_val hok rfl hval _ _)
    refine .of_effect rfl (issue_memory (g := g.val) (op := .lds S.val A.val K.toInt) h rfl (fun _ hv => hv) hrun
      (.readVec ..)) ?_
    rw [Chip.cluster_setCluster_same]
    exact (s_apply_s ..).trans (if_pos rfl)
  -- STS
  · obtain ⟨k, hst, hstored⟩ := mStore_committed rfl hok hb (committed_of_scalar htag)
      (Lanes.ofFn fun j => BitVec.ofNat 14 ((x.s S.val).toNat / 2 ^ (14 * j))) []
    have hrun : runM s.chip d c x mask (.sts S.val A.val K.toInt) = (k, .ok [] [] false false) := (if_pos hon).trans hst
    refine .of_effect rfl (issue_memory (g := g.val) (op := .sts S.val A.val K.toInt) h rfl (fun _ hv => hv) hrun
      hstored.kept) ?_
    simp only [Chip.word_setCluster]
    exact hstored.scalar
  -- GETL
  · refine .of_effect rfl (issue_memory_writes (g := g.val) (op := .getl S.val R.toNat L.val) h (vecCode_of_issues h)
      (fun _ hv => hv) (.inr (.inl rfl)) ?_ fun _ _ => rfl)
    rw [apply_ite (List.map _)]
    rfl
  -- PUTL
  · refine .of_effect rfl (issue_memory_writes (g := g.val) (op := .putl R.toNat A.val L.val) h (vecCode_of_issues h)
      (fun _ hv => hv) (.inr (.inl rfl)) ?_ fun _ _ => rfl)
    rw [apply_ite (List.map _)]
    rfl
  -- XLD
  · have hrun : runM s.chip d c x mask (.xld R.toNat A.val F.val) = _ :=
      (if_neg hmask).trans ((if_neg (by omega)).trans (mXld_lanes hchk hval))
    refine .of_effect rfl (issue_memory (g := g.val) (op := .xld R.toNat A.val F.val) h
      (by simp [MOp.legal, vecCode_of_issues h, hA, hF]) (fun _ hv => hv) hrun
      ⟨(ClustersKept.readVec ..).clusters⟩) ⟨?_, rfl⟩
    rw [Chip.cluster_setCluster_same]
    rfl
  -- XST
  · obtain ⟨a, hst⟩ := mXst_remote (c := c) (R := R.toNat) (mask := mask) he hb hchk
    have hrun : runM s.chip d c x mask (.xst R.toNat A.val F.val) = _ :=
      (if_neg hmask).trans ((if_neg (by omega)).trans hst)
    refine .of_effect rfl (issue_memory (g := g.val) (op := .xst R.toNat A.val F.val) h
      (by simp [MOp.legal, vecCode_of_issues h, hA, hF]) (fun _ hv => hv) hrun ⟨fun _ => rfl⟩) ⟨?_, List.length_append⟩
    rw [Chip.cluster_setCluster_same]
    rfl
  -- FENCE with no access outstanding
  · refine .of_effect rfl (issue_memory (g := g.val) (op := .fence E.val) h rfl (fun _ hv => hv)
      (fence_done hon hxq E.val) (.refl _)) ?_
    rw [Chip.cluster_setCluster_same, show bit ((s.chip.cluster d c.val).p g.val) 0 = true from hon]
    refine ⟨rfl, fun hE => ?_⟩
    refine (p_apply_p _ (Fin.val_ne_zero_iff.2 hE) ..).trans ((if_pos rfl).trans ?_)
    rw [maskedBits_all]
    show BitVec.toNat (BitVec.ofNat 16 (if x.fenceBad then 0 else 0xFFFF)) = _
    cases x.fenceBad <;> rfl
  -- FENCE with one
  · exact .of_effect rfl (issue_memory_stall (g := g.val) (op := .fence E.val) h rfl (fun _ hv => hv)
      (fence_waits hon hxq E.val))
  -- X_ACCESS_COMPLETE
  · exact .of_effect rfl (xAccessComplete_local hup hdrop hloc hfirst)
  -- ILOAD_CTL_WRITE
  · exact .of_effect rfl (whenGranted_granted hw _) (iloadCtl_stored ..)
  -- ILOAD_DATA_WRITE of a word that does not complete a bundle, and of one that does
  · exact .of_effect rfl ((whenGranted_granted hw _).trans (iloadData_part _ d v hlen))
  · exact .of_effect rfl (whenGranted_granted hw _) (istoreAt_iloadData hld hok hend hst hlo hhi v)

end Sys2Proof.Says
end

section
/-! Fields that do not meet, and the laser interlock: what each of its steps leaves of the state that the others read. -/

namespace Sys2Proof.Machine

/-- Two fields share no bit: they lie in two registers, or in two places of one. -/
abbrev Fld.Apart (f g : Fld) : Prop := g.key ≠ f.key ∨ g.lo + g.w ≤ f.lo ∨ f.lo + f.w ≤ g.lo

/-- A field reads as before when one apart from it is stored. -/
theorem Chip.fld_setFld_apart (s : Chip) {d e : Fin 4} {f g : Fld} (v : Nat) (h : f.lo + f.w ≤ 32)
    (ha : f.Apart g) : (s.setFld d f v).fld e g = s.fld e g := by
  by_cases hk : e ≠ d ∨ g.key ≠ f.key
  · exact Chip.fld_setFld_ne s v hk
  · rw [not_or, not_not, not_not] at hk
    obtain ⟨rfl, hkey⟩ := hk
    exact Chip.fld_setFld_disjoint s e v hkey h (ha.resolve_left (not_not.2 hkey))

/-- A flag that is not 1 is 0. -/
theorem Chip.fld_of_not_flag {s : Chip} {d : Fin 4} {f : Fld} (hw : f.w = 1) (h : ¬ s.flag d f = true) :
    s.fld d f = 0 := by
  have hlt := s.fld_lt d f
  simp only [Chip.flag, beq_iff_eq, hw] at h hlt
  omega

theorem b2n_lt (b : Bool) : b2n b < 2 := by cases b <;> decide

theorem alive_of_stop {s k : Chip} (h : k.stop = s.stop) : alive k = alive s := by rw [alive, alive, h]

theorem alive_of_up {s : Chip} {d : Fin 4} (h : up s d = true) : alive s = true := (Bool.and_eq_true .. ▸ h).1

theorem Chip.fld_setCap (s : Chip) (d e : Fin 4) (c : Nat) (x : Option Capture) (f : Fld) :
    (s.setCap d c x).fld e f = s.fld e f := Chip.fld_upd fun _ => rfl

/-- From `s` to `k` nothing that the interlock reads has changed but LASEN, and no record is lost. -/
structure IlkKept (s k : Chip) : Prop where
  ilk : k.ilk = s.ilk
  stop : k.stop = s.stop
  fld : ∀ f : Fld, f.key < 24 * 1048576 → Rf.ILK_STAT_LASEN.Apart f → k.fld 0 f = s.fld 0 f
  sent : ∀ kind, Says.Sent s 0 kind 0 → Says.Sent k 0 kind 0

namespace IlkKept

variable {s m k : Chip}

theorem refl (s : Chip) : IlkKept s s := ⟨rfl, rfl, fun _ _ _ => rfl, fun _ h => h⟩

theorem trans (h : IlkKept s m) (h' : IlkKept m k) : IlkKept s k :=
  ⟨h'.ilk.trans h.ilk, h'.stop.trans h.stop, fun f hk ha => (h'.fld f hk ha).trans (h.fld f hk ha),
    fun kind hs => h'.sent kind (h.sent kind hs)⟩

theorem setCap (s : Chip) (d : Fin 4) (c : Nat) (x : Option Capture) : IlkKept s (s.setCap d c x) := by
  have hd (e : Fin 4) : ((s.setCap d c x).d e).fly = (s.d e).fly ∧ ((s.setCap d c x).d e).tb = (s.d e).tb := by
    rw [Chip.setCap, Chip.d_upd]
    split
    · subst e; exact ⟨rfl, rfl⟩
    · exact ⟨rfl, rfl⟩
  refine ⟨rfl, rfl, fun f _ _ => Chip.fld_setCap .., fun kind hs => ?_⟩
  rw [Says.Sent, Chip.now, (hd 0).1, (hd 0).2]
  exact hs

theorem setLasen (s : Chip) (v : Nat) : IlkKept s (s.setFld 0 Rf.ILK_STAT_LASEN v) := by
  refine ⟨Chip.ilk_setFld .., Chip.stop_setFld .., fun f _ ha => Chip.fld_setFld_apart s v (by decide) ha,
    fun kind hs => ?_⟩
  rw [Says.Sent, Chip.now, Chip.fly_of_setFld, Chip.tb_of_setFld]
  exact hs

theorem overAll {α : Type} {f : Chip → α → Chip} (hf : ∀ s a, IlkKept s (f s a)) (s : Chip) (l : List α) :
    IlkKept s (overAll f s l) := overAll_keeps (IlkKept s) f (fun m a h => h.trans (hf m a)) s l (refl s)

theorem laserOff (s : Chip) : IlkKept s (laserOff s) := by
  unfold Machine.laserOff
  split
  · refine (setLasen s 0).trans (overAll (fun m ch => ?_) _ _)
    split
    · split
      · exact setCap ..
      · exact refl m
    · exact refl m
  · exact refl s

theorem ilkRaise (s : Chip) (kind pay : Nat) : IlkKept s (ilkRaise s kind pay) := by
  unfold Machine.ilkRaise
  split
  · refine ⟨rfl, rfl, fun f hf _ => fld_raise s 0 0 _ kind 0 pay ?_, fun _ hs => hs.raise ..⟩
    simp only [Fld.key, Fld.at, Rf.EVT_KCOUNT_COUNT] at hf ⊢
    omega
  · exact refl s

theorem ilkDrop (s : Chip) (a b : Bool) : IlkKept s (ilkDrop s a b) := by
  unfold Machine.ilkDrop
  split
  · exact (laserOff s).trans (ilkRaise ..)
  · exact refl s

theorem took (s : Chip) : IlkKept s s.took := ⟨rfl, rfl, fun _ _ _ => rfl, fun _ h => h⟩

theorem state (h : IlkKept s k) : ilkState k = ilkState s := h.fld Rf.ILK_STAT_STATE (by decide) (by decide)

theorem alive (h : IlkKept s k) : alive k = alive s := alive_of_stop h.stop

end IlkKept

/-- Other fields of the interlock's register are stored without loss of records. -/
theorem sent_setFld {s : Chip} {d e : Fin 4} {f : Fld} {v kind : Nat} {t : Fin 256} (h : Says.Sent s e kind t) :
    Says.Sent (s.setFld d f v) e kind t := by
  rw [Says.Sent, Chip.now, Chip.fly_of_setFld, Chip.tb_of_setFld]
  exact h

/-- An event of the interlock is sent while the device runs. -/
theorem sent_ilkRaise {s : Chip} (h : alive s = true) (kind pay : Nat) : Says.Sent (ilkRaise s kind pay) 0 kind 0 := by
  rw [ilkRaise, if_pos h]
  exact Says.sent_raise ..

/-! ### The outputs drop -/

theorem lasen_ilkRaise (s : Chip) (kind pay : Nat) :
    (ilkRaise s kind pay).fld 0 Rf.ILK_STAT_LASEN = s.fld 0 Rf.ILK_STAT_LASEN := by
  unfold ilkRaise
  split
  · refine fld_raise s 0 0 _ kind 0 pay ?_
    simp only [Fld.key, Fld.at, Rf.EVT_KCOUNT_COUNT, Rf.ILK_STAT_LASEN]
    omega
  · rfl

/-- The drop of the outputs is a store of LASEN, and marks captures. -/
theorem lasen_laserOff (s : Chip) : (laserOff s).fld 0 Rf.ILK_STAT_LASEN = 0 := by
  unfold laserOff
  split
  · refine overAll_keeps (fun k => k.fld 0 Rf.ILK_STAT_LASEN = 0) _ (fun m ch hm => ?_) _ _
      (Chip.fld_setFld_same s 0 _ 0 (by decide))
    split
    · split
      · exact (Chip.fld_setCap ..).trans hm
      · exact hm
    · exact hm
  · exact Chip.fld_of_not_flag rfl ‹_›

/-- With a channel not safe the outputs drop. -/
theorem lasen_ilkDrop {s : Chip} {a b : Bool} (h : (a && b) = false) : (ilkDrop s a b).fld 0 Rf.ILK_STAT_LASEN = 0 := by
  unfold ilkDrop
  split
  · rw [lasen_ilkRaise, lasen_laserOff]
  · next hn => exact Chip.fld_of_not_flag rfl (by simpa [h] using hn)

/-- An enabled output that drops is told. -/
theorem sent_ilkDrop {s : Chip} {a b : Bool} (h : (a && b) = false) (hon : s.fld 0 Rf.ILK_STAT_LASEN = 1)
    (hal : alive s = true) : Says.Sent (ilkDrop s a b) 0 K.ILKUNSAFE 0 := by
  have hc : (s.flag 0 Rf.ILK_STAT_LASEN && !(a && b)) = true := by simp [Says.flag_eq_true hon, h]
  rw [ilkDrop, if_pos hc]
  exact sent_ilkRaise ((IlkKept.laserOff s).alive.trans hal) ..

/-! ### FAULT -/

theorem ilkFault_latches {s : Chip} :
    ilkState (ilkFault s) = 3 ∧ (ilkFault s).fld 0 Rf.ILK_STAT_LASEN = 0 ∧
      (alive s = true → Says.Sent (ilkFault s) 0 K.ILKFAULT 0) ∧
      ∀ kind, Says.Sent s 0 kind 0 → Says.Sent (ilkFault s) 0 kind 0 := by
  have hoff := IlkKept.laserOff (s.setFld 0 Rf.ILK_STAT_STATE 3)
  have hraise (x : Chip) (v : Nat) := IlkKept.ilkRaise x K.ILKFAULT v
  refine ⟨?_, ?_, fun hal => ?_, fun kind hs => ?_⟩ <;> dsimp only [ilkFault]
  · rw [(hraise ..).state, ilkState, Chip.addFld, Chip.fld_setFld_ne _ _ (.inr (by decide))]
    exact hoff.state.trans (Chip.fld_setFld_same s 0 _ 3 (by decide))
  · rw [lasen_ilkRaise, Chip.addFld, Chip.fld_setFld_ne _ _ (.inr (by decide)), lasen_laserOff]
  · exact sent_ilkRaise ((alive_of_stop (Chip.stop_setFld ..)).trans (hoff.alive.trans ((alive_of_stop (Chip.stop_setFld ..)).trans hal))) ..
  · exact (hraise ..).sent kind (sent_setFld (hoff.sent kind (sent_setFld hs)))

/-! ### The readings and the state (R468) -/

section
variable (s : Chip) (a b : Bool)

/-- What the readings of the two channels leave: both shown, and the time of both safe ended unless they are. -/
theorem setSafe_spec :
    (setSafe s a b).fld 0 Rf.ILK_STAT_A_SAFE = b2n a ∧ (setSafe s a b).fld 0 Rf.ILK_STAT_B_SAFE = b2n b ∧
      ilkState (setSafe s a b) = ilkState s ∧ (setSafe s a b).ilk.safe = (if a && b then s.ilk.safe else 0) ∧
      (setSafe s a b).ilk.block = s.ilk.block ∧ (setSafe s a b).stop = s.stop ∧
      (setSafe s a b).fld 0 Rf.ILK_STAT_ARMED = s.fld 0 Rf.ILK_STAT_ARMED := by
  obtain ⟨m, hm⟩ : ∃ m, m = (s.setFld 0 Rf.ILK_STAT_A_SAFE (b2n a)).setFld 0 Rf.ILK_STAT_B_SAFE (b2n b) := ⟨_, rfl⟩
  have ha : m.fld 0 Rf.ILK_STAT_A_SAFE = b2n a := by
    rw [hm, Chip.fld_setFld_apart _ _ (by decide) (by decide), Chip.fld_setFld_same _ _ _ _ (by decide)]
    exact Nat.mod_eq_of_lt (b2n_lt a)
  have hb : m.fld 0 Rf.ILK_STAT_B_SAFE = b2n b := by
    rw [hm, Chip.fld_setFld_same _ _ _ _ (by decide)]
    exact Nat.mod_eq_of_lt (b2n_lt b)
  have hf {f : Fld} (h : Rf.ILK_STAT_A_SAFE.Apart f) (h' : Rf.ILK_STAT_B_SAFE.Apart f) : m.fld 0 f = s.fld 0 f := by
    rw [hm, Chip.fld_setFld_apart _ _ (by decide) h', Chip.fld_setFld_apart _ _ (by decide) h]
  have hst : ilkState m = ilkState s := hf (by decide) (by decide)
  have harm : m.fld 0 Rf.ILK_STAT_ARMED = s.fld 0 Rf.ILK_STAT_ARMED := hf (by decide) (by decide)
  have hilk : m.ilk = s.ilk := by rw [hm, Chip.ilk_setFld, Chip.ilk_setFld]
  have hstop : m.stop = s.stop := by rw [hm, Chip.stop_setFld, Chip.stop_setFld]
  rw [setSafe, ← hm]
  split
  · exact ⟨ha, hb, hst, (congrArg IlkSt.safe hilk :), (congrArg IlkSt.block hilk :), hstop, harm⟩
  · exact ⟨ha, hb, hst, rfl, (congrArg IlkSt.block hilk :), hstop, harm⟩

/-- The state is that of readings that agree, or DISCREPANT. -/
theorem ilkState_ilkMove : ilkState (ilkMove s a b) = if a = b then b2n a else 2 := by
  have hset (v : Nat) (hv : v < 4) : ilkState (s.setFld 0 Rf.ILK_STAT_STATE v) = v :=
    (Chip.fld_setFld_same s 0 _ v (by decide)).trans (Nat.mod_eq_of_lt hv)
  unfold ilkMove
  generalize s.setFld 0 Rf.ILK_STAT_STATE = m at hset
  by_cases hab : a = b
  · rw [if_pos (beq_iff_eq.2 hab), if_pos hab]
    exact hset _ (by have := b2n_lt a; omega)
  · rw [if_neg (by simpa using hab), if_neg hab]
    split
    · assumption
    · exact hset 2 (by decide)

/-- A move of the state leaves every field apart from it, and what the time of both safe and the block hold. -/
theorem ilkMove_keeps :
    (ilkMove s a b).ilk.safe = s.ilk.safe ∧ (ilkMove s a b).ilk.block = s.ilk.block ∧ (ilkMove s a b).stop = s.stop ∧
      ∀ f, Rf.ILK_STAT_STATE.Apart f → (ilkMove s a b).fld 0 f = s.fld 0 f := by
  have hf (v : Nat) (f : Fld) (ha : Rf.ILK_STAT_STATE.Apart f) : (s.setFld 0 Rf.ILK_STAT_STATE v).fld 0 f = s.fld 0 f :=
    Chip.fld_setFld_apart s v (by decide) ha
  have hstop (v : Nat) : (s.setFld 0 Rf.ILK_STAT_STATE v).stop = s.stop := Chip.stop_setFld ..
  unfold ilkMove
  generalize s.setFld 0 Rf.ILK_STAT_STATE = m at hf hstop
  split
  · exact ⟨rfl, rfl, hstop _, hf _⟩
  · split
    · exact ⟨rfl, rfl, rfl, fun _ _ => rfl⟩
    · exact ⟨rfl, rfl, hstop _, hf _⟩

/-- What ILK_SAMPLE does once the outputs have dropped and FAULT has latched where they must: it takes the readings. -/
def ilkRead : Chip :=
  if ilkState (setSafe s a b) = 3 then setSafe s a b else ilkMove (setSafe s a b) a b

/-- The outputs as the conditions of R469 have them. -/
def ilkOutputs : Chip := if lasenAllowed s then s.setFld 0 Rf.ILK_STAT_LASEN 1 else laserOff s

theorem ilkState_ilkRead : ilkState (ilkRead s a b) = if ilkState s = 3 then 3 else if a = b then b2n a else 2 := by
  obtain ⟨-, -, hst, -⟩ := setSafe_spec s a b
  rw [ilkRead, hst]
  split
  · exact hst.trans ‹_›
  · exact ilkState_ilkMove ..

theorem ilkRead_keeps :
    (ilkRead s a b).ilk.safe = (if a && b then s.ilk.safe else 0) ∧ (ilkRead s a b).ilk.block = s.ilk.block ∧
      (ilkRead s a b).stop = s.stop ∧ (ilkRead s a b).fld 0 Rf.ILK_STAT_ARMED = s.fld 0 Rf.ILK_STAT_ARMED := by
  obtain ⟨-, -, -, hsafe, hblock, hstop, harm⟩ := setSafe_spec s a b
  obtain ⟨hsafe', hblock', hstop', hf⟩ := ilkMove_keeps (setSafe s a b) a b
  unfold ilkRead
  split
  · exact ⟨hsafe, hblock, hstop, harm⟩
  · exact ⟨hsafe'.trans hsafe, hblock'.trans hblock, hstop'.trans hstop, (hf _ (by decide)).trans harm⟩

theorem sent_ilkRead {kind : Nat} (h : Says.Sent s 0 kind 0) : Says.Sent (ilkRead s a b) 0 kind 0 := by
  have hset : Says.Sent (setSafe s a b) 0 kind 0 := by
    have h' : Says.Sent ((s.setFld 0 Rf.ILK_STAT_A_SAFE (b2n a)).setFld 0 Rf.ILK_STAT_B_SAFE (b2n b)) 0 kind 0 :=
      sent_setFld (sent_setFld h)
    unfold setSafe
    generalize (s.setFld 0 Rf.ILK_STAT_A_SAFE (b2n a)).setFld 0 Rf.ILK_STAT_B_SAFE (b2n b) = m at h'
    dsimp only
    split
    · exact h'
    · exact h'
  have hmove : Says.Sent (ilkMove (setSafe s a b) a b) 0 kind 0 := by
    generalize setSafe s a b = m at hset
    have h' (v : Nat) : Says.Sent (m.setFld 0 Rf.ILK_STAT_STATE v) 0 kind 0 := sent_setFld hset
    unfold ilkMove
    generalize m.setFld 0 Rf.ILK_STAT_STATE = x at h'
    split
    · exact h' _
    · split
      · exact hset
      · exact h' _
  unfold ilkRead
  split
  · exact hset
  · exact hmove

theorem ilkKept_ilkOutputs : IlkKept s (ilkOutputs s) := by
  unfold ilkOutputs
  split
  · exact IlkKept.setLasen s 1
  · exact IlkKept.laserOff s

/-- The outputs are enabled exactly under the conditions of R469. -/
theorem lasen_ilkOutputs : (ilkOutputs s).fld 0 Rf.ILK_STAT_LASEN = b2n (lasenAllowed s) := by
  unfold ilkOutputs
  cases h : lasenAllowed s
  · exact lasen_laserOff s
  · exact Chip.fld_setFld_same s 0 _ 1 (by decide)

end

/-- No condition but state SAFE enables the outputs. -/
theorem lasenAllowed_of_state {s : Chip} (h : ilkState s ≠ 1) : lasenAllowed s = false := by simp [lasenAllowed, h]

/-! ### A sample -/

section
variable {s : Chip} {a b : Bool} (hrun : ilkRuns s = true)
include hrun

/-- A sample drops the outputs, may latch FAULT where a discrepancy ends, takes the readings and sets the outputs. -/
theorem ilkSample_cases : ∃ m, ilkSample a b s = ilkOutputs (ilkRead m a b) ∧
    (IlkKept (ilkDrop s a b) m ∨ (ilkState s = 2 ∧ a = b ∧ ∃ x, IlkKept (ilkDrop s a b) x ∧ m = ilkFault x)) := by
  have hstate := (IlkKept.ilkDrop s a b).state
  unfold ilkSample
  rw [if_neg (by simp [hrun])]
  refine ⟨_, rfl, ?_⟩
  have htook (p : Bool) : IlkKept (ilkDrop s a b) (if p = true then (ilkDrop s a b).took else ilkDrop s a b) := by
    cases p
    · exact .refl _
    · exact .took _
  split
  · next hlate =>
    simp only [hstate, Bool.and_eq_true, decide_eq_true_eq, beq_iff_eq] at hlate
    obtain ⟨⟨h2, hab⟩, -⟩ := hlate
    exact .inr ⟨h2, hab, _, htook _, rfl⟩
  · exact .inl (htook _)

/-- Where no discrepancy ends, the state after a sample is the one of its readings, and FAULT stays. -/
theorem ilkState_ilkSample (h : ilkState s = 2 → a ≠ b) :
    ilkState (ilkSample a b s) = if ilkState s = 3 then 3 else if a = b then b2n a else 2 := by
  obtain ⟨m, hm, hk⟩ := ilkSample_cases (a := a) (b := b) hrun
  have hmk : IlkKept (ilkDrop s a b) m := hk.resolve_right fun ⟨h2, hab, _⟩ => h h2 hab
  rw [hm, (ilkKept_ilkOutputs _).state, ilkState_ilkRead, hmk.state, (IlkKept.ilkDrop s a b).state]

/-- Outputs of a sample are laser-off unless it leaves state SAFE. -/
theorem lasen_ilkSample (h : ilkState (ilkSample a b s) ≠ 1) : (ilkSample a b s).fld 0 Rf.ILK_STAT_LASEN = 0 := by
  obtain ⟨m, hm, -⟩ := ilkSample_cases (a := a) (b := b) hrun
  rw [hm, (ilkKept_ilkOutputs _).state] at h
  rw [hm, lasen_ilkOutputs, lasenAllowed_of_state h]
  rfl

/-- A channel that is not safe drops the outputs and ends the time of both safe, and the drop is told. -/
theorem ilkSample_unsafe (h : a = false ∨ b = false) :
    (ilkSample a b s).fld 0 Rf.ILK_STAT_LASEN = 0 ∧ (ilkSample a b s).ilk.safe = 0 ∧
      (s.fld 0 Rf.ILK_STAT_LASEN = 1 → alive s = true → Says.Sent (ilkSample a b s) 0 K.ILKUNSAFE 0) := by
  have hab : (a && b) = false := by rcases h with rfl | rfl <;> simp
  obtain ⟨m, hm, hk⟩ := ilkSample_cases (a := a) (b := b) hrun
  obtain ⟨hsafe, -⟩ := ilkRead_keeps m a b
  have hout := ilkKept_ilkOutputs (ilkRead m a b)
  refine ⟨lasen_ilkSample hrun ?_, ?_, fun hon hal => ?_⟩
  · rw [hm, hout.state, ilkState_ilkRead]
    rcases h with rfl | rfl
    · cases b <;> (split <;> decide)
    · cases a <;> (split <;> decide)
  · rw [hm, hout.ilk, hsafe, hab]
    rfl
  · rw [hm]
    refine hout.sent _ (sent_ilkRead _ a b ?_)
    have hdrop := sent_ilkDrop hab hon hal
    rcases hk with hk | ⟨-, -, x, hx, rfl⟩
    · exact hk.sent _ hdrop
    · exact ilkFault_latches.2.2.2 _ (hx.sent _ hdrop)

/-- Both channels safe, for long enough, with the laser armed and no block: the outputs are enabled (R469). -/
theorem ilkSample_enables (hst : ilkState s = 1) (hsafe : 10000 ≤ s.ilk.safe)
    (harm : s.flag 0 Rf.ILK_STAT_ARMED = true) (hblock : s.ilk.block = false) (hal : alive s = true) :
    (ilkSample true true s).fld 0 Rf.ILK_STAT_LASEN = 1 ∧ ilkState (ilkSample true true s) = 1 := by
  have h2 : ilkState s ≠ 2 := by omega
  refine ⟨?_, by rw [ilkState_ilkSample hrun fun h => absurd h h2, hst]; rfl⟩
  obtain ⟨m, hm, hk⟩ := ilkSample_cases (a := true) (b := true) hrun
  have hmk := (IlkKept.ilkDrop s true true).trans (hk.resolve_right fun ⟨h, _⟩ => h2 h)
  obtain ⟨hsafe', hblock', hstop', harm'⟩ := ilkRead_keeps m true true
  have harm'' := harm'.trans (hmk.fld Rf.ILK_STAT_ARMED (by decide) (by decide))
  rw [Chip.flag, beq_iff_eq] at harm
  have hst' : ilkState (ilkRead m true true) = 1 := by rw [ilkState_ilkRead, hmk.state, hst]; rfl
  rw [hm, lasen_ilkOutputs, lasenAllowed, hst', alive_of_stop (hstop'.trans hmk.stop), hal, hblock', hmk.ilk, hblock,
    Says.flag_eq_true (harm''.trans harm), hsafe', hmk.ilk]
  simp [hsafe, b2n]

/-- A channel that is not safe for 50 ns or more drops the outputs. -/
theorem ilkUnsafe_drops {ns : Nat} (h : 50 ≤ ns) (chB : Bool) :
    (ilkUnsafe chB ns s).fld 0 Rf.ILK_STAT_LASEN = 0 ∧ (ilkUnsafe chB ns s).ilk.safe = 0 := by
  have hn : (!ilkRuns s || ns == 0) = false := by simp [hrun]; omega
  have h50 : ¬ ns < 50 := by omega
  unfold ilkUnsafe
  simp only [hn, h50, h, decide_true, Bool.true_or, if_true, if_false, Bool.false_eq_true]
  exact ⟨lasen_ilkDrop (by cases chB <;> rfl), trivial⟩

theorem ilkTimeout_faults (hst : ilkState s = 2) (h : discLimit s + 2000 ≤ s.ilk.disc) : ilkTimeout s = ilkFault s := by
  have hn : ¬ s.ilk.disc + 2000 ≤ discLimit s := by omega
  simp [ilkTimeout, hrun, hst, hn, h]

end

theorem ilkTimeout_early {s : Chip} (h : s.ilk.disc + 2000 ≤ discLimit s) : ilkTimeout s = s := by
  simp [ilkTimeout, h]

/-! ### A clear request (R473) -/

section
variable {s : Chip} (hal : alive s = true)
include hal

/-- A FAULT that both channels have been safe for ends, with the outputs blocked until the laser is armed again. -/
theorem ilkClear_told (hst : ilkState s = 3) (hsafe : 100002000 ≤ s.ilk.safe) :
    ilkState (ilkClear s) = 1 ∧ (ilkClear s).fld 0 Rf.ILK_STAT_CLEARED = 1 ∧ (ilkClear s).ilk.block = true ∧
      Says.Sent (ilkClear s) 0 K.ILKCLEAR 0 := by
  have hn : ¬ (ilkState s ≠ 3 ∨ s.ilk.safe < 99998000) := by omega
  obtain ⟨m, hm⟩ : ∃ m, m = ((s.setFld 0 Rf.ILK_STAT_STATE 1).setFld 0 Rf.ILK_STAT_CLEARED 1).setFld 0
    Rf.ILK_STAT_REFUSED 0 := ⟨_, rfl⟩
  have hstate : m.fld 0 Rf.ILK_STAT_STATE = 1 := by
    rw [hm, Chip.fld_setFld_apart _ _ (by decide) (by decide), Chip.fld_setFld_apart _ _ (by decide) (by decide)]
    exact Chip.fld_setFld_same s 0 _ 1 (by decide)
  have hcleared : m.fld 0 Rf.ILK_STAT_CLEARED = 1 := by
    rw [hm, Chip.fld_setFld_apart _ _ (by decide) (by decide)]
    exact Chip.fld_setFld_same _ 0 _ 1 (by decide)
  have heq : ilkClear s = ilkRaise { m with ilk := { m.ilk with disc := 0, block := true } } K.ILKCLEAR 0 := by
    rw [hm, ilkClear, if_neg hn, if_pos hsafe]
  have hstop : m.stop = s.stop := by simp [hm]
  have hk := IlkKept.ilkRaise { m with ilk := { m.ilk with disc := 0, block := true } } K.ILKCLEAR 0
  rw [heq]
  refine ⟨hk.state.trans hstate, (hk.fld _ (by decide) (by decide)).trans hcleared, ?_, sent_ilkRaise ?_ ..⟩
  · rw [hk.ilk]
  · exact (alive_of_stop hstop).trans hal

/-- Outside FAULT, or too soon, a clear is refused and the state stays. -/
theorem ilkClear_refused (h : ilkState s ≠ 3 ∨ s.ilk.safe < 99998000) :
    ilkState (ilkClear s) = ilkState s ∧ (ilkClear s).fld 0 Rf.ILK_STAT_REFUSED = 1 ∧
      Says.Sent (ilkClear s) 0 K.ILKCLRREF 0 := by
  obtain ⟨m, hm⟩ : ∃ m, m = (s.setFld 0 Rf.ILK_STAT_REFUSED 1).setFld 0 Rf.ILK_STAT_CLEARED 0 := ⟨_, rfl⟩
  have heq : ilkClear s = ilkRaise m K.ILKCLRREF (min (m.ilk.safe / 1000) (2 ^ 32 - 1)) := by
    rw [hm, ilkClear, if_pos h]
  have hstop : m.stop = s.stop := by simp [hm]
  have hk := IlkKept.ilkRaise m K.ILKCLRREF (min (m.ilk.safe / 1000) (2 ^ 32 - 1))
  rw [heq]
  refine ⟨hk.state.trans ?_, (hk.fld _ (by decide) (by decide)).trans ?_,
    sent_ilkRaise ((alive_of_stop hstop).trans hal) ..⟩
  · rw [ilkState, hm, Chip.fld_setFld_apart _ _ (by decide) (by decide),
      Chip.fld_setFld_apart _ _ (by decide) (by decide)]
    rfl
  · rw [hm, Chip.fld_setFld_apart _ _ (by decide) (by decide)]
    exact Chip.fld_setFld_same s 0 _ 1 (by decide)

end

end Sys2Proof.Machine

namespace Sys2Proof.Says

open Sys2Proof.Machine

/-- Settles O39: a sample drops the outputs, takes its readings and enables the outputs under the conditions of R469
alone; FAULT latches when a discrepancy lasts, and the clear request and the write of T_D are the supervisor's. -/
theorem interlockDropsAndLatches : Obligations.InterlockDropsAndLatches := by
  unfold Obligations.InterlockDropsAndLatches
  intro t a b chB ns v s hrun
  have hp : present s.chip 0 9 = true := (Bool.and_eq_true .. ▸ hrun).2
  refine ⟨fun hst hsafe harm hblock hal => ?_, fun h => ?_, fun hst => ⟨?_, ?_⟩, fun hst => ?_, fun h => ?_,
    fun hst h hal => ?_, fun h => ?_, fun hup hst hsafe => ?_, fun hup h => ?_, fun hup => ?_, fun hup ht => ⟨?_, ?_⟩⟩
  · exact .of_effect rfl rfl (ilkSample_enables hrun hst hsafe harm hblock hal)
  · exact .of_effect rfl rfl (ilkSample_unsafe hrun h)
  · refine .of_effect rfl rfl ((ilkState_ilkSample hrun (by omega)).trans ?_)
    rw [if_neg (by omega), if_pos rfl]
  · refine .of_effect rfl rfl ((ilkState_ilkSample hrun (by omega)).trans ?_)
    rw [if_neg (by omega), if_neg (by simp)]
  · have h3 : ilkState (ilkSample a b s.chip) = 3 := by rw [ilkState_ilkSample hrun (by omega), if_pos hst]
    exact .of_effect rfl rfl ⟨h3, lasen_ilkSample hrun (by omega)⟩
  · exact .of_effect rfl rfl (ilkUnsafe_drops hrun h chB)
  · obtain ⟨hstate, hoff, hsent, -⟩ := ilkFault_latches (s := s.chip)
    exact .of_effect rfl (ilkTimeout_faults hrun hst h) ⟨hstate, hoff, hsent hal⟩
  · exact .of_effect rfl (ilkTimeout_early h)
  · exact .of_effect rfl (whenSuper_supervisor hup hp _) (ilkClear_told (alive_of_up hup) hst hsafe)
  · exact .of_effect rfl (whenSuper_supervisor hup hp _) (ilkClear_refused (alive_of_up hup) h)
  · exact .of_effect rfl (whenSuper_supervisor hup hp _)
  · exact .of_effect rfl (whenSuper_refused hup hp ht _)
  · exact .of_effect rfl (whenSuper_refused hup hp ht _)

end Sys2Proof.Says
end

section
/-! Panel sense: a write of its control, what a scan leaves in each node, and where the words of a frame go. -/

namespace Sys2Proof.Machine

/-! ### The control (R475, R477, R503) -/

/-- A recapture asks for 32 baseline scans, and stores no other field of PSENSE (R477). -/
theorem recapture_spec (s : Chip) :
    (recapture s).ps.capture = 32 ∧ (recapture s).fld 0 Rf.PSENSE_STAT_CAPTURING = 1 ∧
      (recapture s).ps.rate = s.ps.rate ∧
      ∀ f, Rf.PSENSE_STAT_CAPTURING.Apart f → (recapture s).fld 0 f = s.fld 0 f := by
  have hset := Chip.fld_setFld_same s 0 Rf.PSENSE_STAT_CAPTURING 1 (by decide)
  have hf (f : Fld) (ha : Rf.PSENSE_STAT_CAPTURING.Apart f) :=
    Chip.fld_setFld_apart s (d := 0) (e := 0) 1 (by decide) ha
  have hps : (s.setFld 0 Rf.PSENSE_STAT_CAPTURING 1).ps = s.ps := Chip.ps_setFld ..
  unfold recapture
  generalize s.setFld 0 Rf.PSENSE_STAT_CAPTURING 1 = m at hset hf hps
  exact ⟨rfl, hset, rfl, hf⟩

section
variable (s : Chip) (v : Word)

/-- EN and RATE as a write of PSENSE.CTL stores them. -/
def psenseStored : Chip :=
  (s.setFld 0 Rf.PSENSE_CTL_EN (b2n (getBits v 0 1 == 1))).setFld 0 Rf.PSENSE_CTL_RATE (clampN 1 240 (getBits v 8 8))

theorem clampN_le {lo hi : Nat} (h : lo ≤ hi) (n : Nat) : clampN lo hi n ≤ hi := by unfold clampN; split_ifs <;> omega

theorem psenseStored_spec :
    (psenseStored s v).fld 0 Rf.PSENSE_CTL_EN = b2n (getBits v 0 1 == 1) ∧
      (psenseStored s v).fld 0 Rf.PSENSE_CTL_RATE = clampN 1 240 (getBits v 8 8) ∧ (psenseStored s v).ps = s.ps := by
  have hrate := clampN_le (show 1 ≤ 240 by decide) (getBits v 8 8)
  refine ⟨?_, ?_, ?_⟩ <;> rw [psenseStored]
  · rw [Chip.fld_setFld_apart _ _ (by decide) (by decide), Chip.fld_setFld_same _ _ _ _ (by decide)]
    exact Nat.mod_eq_of_lt (b2n_lt _)
  · rw [Chip.fld_setFld_same _ _ _ _ (by decide)]
    exact Nat.mod_eq_of_lt (show _ < 2 ^ 8 by omega)
  · rw [Chip.ps_setFld, Chip.ps_setFld]

end

section
variable {s : Chip} {v : Word}

/-- A write that enables panel sense takes the rate and begins with a recapture (R475, R477). -/
theorem psenseCtl_enables (hv : getBits v 0 1 = 1) (hoff : s.flag 0 Rf.PSENSE_CTL_EN = false) :
    (psenseCtl s v).fld 0 Rf.PSENSE_CTL_EN = 1 ∧
      (psenseCtl s v).fld 0 Rf.PSENSE_CTL_RATE = clampN 1 240 (getBits v 8 8) ∧
      (psenseCtl s v).ps.rate = clampN 1 240 (getBits v 8 8) ∧ (psenseCtl s v).ps.capture = 32 ∧
      (psenseCtl s v).fld 0 Rf.PSENSE_STAT_CAPTURING = 1 := by
  obtain ⟨hen, hrate, -⟩ := psenseStored_spec s v
  rw [hv] at hen
  have heq : psenseCtl s v = if getBits v 1 1 = 1 then recapture (recapture { psenseStored s v with ps :=
        { (psenseStored s v).ps with rate := clampN 1 240 (getBits v 8 8), frame := false, second := false } })
      else recapture { psenseStored s v with ps :=
        { (psenseStored s v).ps with rate := clampN 1 240 (getBits v 8 8), frame := false, second := false } } := by
    simp [psenseCtl, psenseStored, hv, hoff]
  generalize psenseStored s v = m at *
  obtain ⟨hcap, hcapt, hr, hf⟩ := recapture_spec { m with ps :=
    { m.ps with rate := clampN 1 240 (getBits v 8 8), frame := false, second := false } }
  have hen' := (hf Rf.PSENSE_CTL_EN (by decide)).trans hen
  have hrate' := (hf Rf.PSENSE_CTL_RATE (by decide)).trans hrate
  generalize recapture { m with ps :=
    { m.ps with rate := clampN 1 240 (getBits v 8 8), frame := false, second := false } } = x at *
  rw [heq]
  split
  · obtain ⟨hcap2, hcapt2, hr2, hf2⟩ := recapture_spec x
    exact ⟨(hf2 _ (by decide)).trans hen', (hf2 _ (by decide)).trans hrate', hr2.trans hr, hcap2, hcapt2⟩
  · exact ⟨hen', hrate', hr, hcap, hcapt⟩

/-- A write with RECAPTURE while enabled begins the 32 baseline scans again. -/
theorem psenseCtl_recaptures (hv : getBits v 0 1 = 1) (hr : getBits v 1 1 = 1) :
    ∃ m, psenseCtl s v = recapture m := by
  simp only [psenseCtl, hv, hr, beq_self_eq_true, Bool.and_self, if_true]
  exact ⟨_, rfl⟩

/-- A write without EN disables the scans and changes nothing of them. -/
theorem psenseCtl_disables (hv : getBits v 0 1 = 0) : psenseCtl s v = psenseStored s v := by
  simp [psenseCtl, psenseStored, hv]

end

/-! ### Nodes -/

theorem PsSt.node_setNode (p : PsSt) (n j : Nat) (x : PNode) :
    (p.setNode n x).node j = if j = n then x else p.node j := mapGet_mapPut ..

/-- A baseline scan gives each node its raw value, and keeps the others and the count of scans. -/
theorem captureNodes_spec (last : Bool) (raws : List Int) (s : Chip) (n : Nat) :
    (captureNodes last s n raws).ps.capture = s.ps.capture ∧
      (∀ j, j < n → (captureNodes last s n raws).ps.node j = s.ps.node j) ∧
      ∀ i (h : i < raws.length), (captureNodes last s n raws).ps.node (n + i) =
        captureNode last (s.ps.node (n + i)) raws[i] := by
  induction raws generalizing s n with
  | nil => exact ⟨rfl, fun _ _ => rfl, fun i h => absurd h (by simp)⟩
  | cons raw rest ih =>
    obtain ⟨m, hm⟩ : ∃ m : Chip, m = { s with ps := s.ps.setNode n (captureNode last (s.ps.node n) raw) } := ⟨_, rfl⟩
    have hnode' (j : Nat) : m.ps.node j = if j = n then captureNode last (s.ps.node n) raw else s.ps.node j := by
      rw [hm]
      exact PsSt.node_setNode ..
    obtain ⟨hcap, hlow, hnode⟩ := ih m (n + 1)
    rw [captureNodes, ← hm]
    refine ⟨hcap.trans (by rw [hm]; rfl), fun j hj => ?_, fun i h => ?_⟩
    · rw [hlow j (by omega), hnode', if_neg (by omega)]
    · cases i with
      | zero =>
        simp only [Nat.add_zero]
        rw [hlow n (by omega), hnode', if_pos rfl]
        rfl
      | succ i =>
        have hi : i < rest.length := by simpa using h
        rw [show n + (i + 1) = n + 1 + i by omega, hnode i hi, hnode', if_neg (by omega)]
        rfl

/-- A node after a raw value that its baseline `base` is compared with: its delta and its touch, for a threshold `thr`
(R476, R478). -/
def Scanned (thr : Nat) (base raw : Int) (y : PNode) : Prop :=
  y.delta = nodeDelta base raw ∧ (y.since.isSome = true ↔ (thr : Int) ≤ y.delta)

theorem isSome_touchTime (p : Prop) [Decidable p] (o : Option Time) (now : Time) :
    (if decide p = true then (if o.isSome then o else some now) else none).isSome = true ↔ p := by
  by_cases h : p
  · cases o <;> simp [h]
  · simp [h]

theorem scanned_scanNode (s : Chip) (now : Time) (x : PNode) (raw : Int) :
    Scanned (s.fld 0 Rf.PSENSE_THR_TOUCH) x.base raw (scanNode s now x raw).1 := by
  have hdelta : (scanNode s now x raw).1.delta = nodeDelta x.base raw := by
    unfold scanNode
    rw [apply_ite Prod.fst, apply_ite PNode.delta]
    exact ite_self _
  have hsince : (scanNode s now x raw).1.since =
      if decide ((s.fld 0 Rf.PSENSE_THR_TOUCH : Int) ≤ nodeDelta x.base raw) = true then
        (if x.since.isSome then x.since else some now) else none := by
    unfold scanNode
    rw [apply_ite Prod.fst, apply_ite PNode.since]
    exact ite_self _
  exact ⟨hdelta, by rw [hsince, hdelta]; exact isSome_touchTime ..⟩

/-- An ordinary scan compares each node's raw value with its baseline, and keeps the nodes before the scanned ones. -/
theorem scanned_scanNodes (now : Time) (raws : List Int) (s : Chip) (n : Nat) :
    (∀ j, j < n → (scanNodes now s n raws).1.ps.node j = s.ps.node j) ∧
      ∀ i (h : i < raws.length), Scanned (s.fld 0 Rf.PSENSE_THR_TOUCH) (s.ps.node (n + i)).base raws[i]
        ((scanNodes now s n raws).1.ps.node (n + i)) := by
  induction raws generalizing s n with
  | nil => exact ⟨fun _ _ => rfl, fun i h => absurd h (by simp)⟩
  | cons raw rest ih =>
    obtain ⟨x, hx⟩ : ∃ x, x = scanNode s now (s.ps.node n) raw := ⟨_, rfl⟩
    obtain ⟨m, hm⟩ : ∃ m : Chip, m = { s with ps := s.ps.setNode n x.1 } := ⟨_, rfl⟩
    obtain ⟨k, hk⟩ : ∃ k, k = if x.2.2 then raise m 0 0x020 K.PSHELD 0 n else m := ⟨_, rfl⟩
    have heq : (scanNodes now s n (raw :: rest)).1 = (scanNodes now k (n + 1) rest).1 := by
      rw [hk, hm, hx, scanNodes]
    have hps : k.ps = s.ps.setNode n x.1 := by
      have hr : (raise m 0 0x020 K.PSHELD 0 n).ps = m.ps := rfl
      rw [hk, apply_ite Chip.ps, hr, ite_self, hm]
    have hthr : k.fld 0 Rf.PSENSE_THR_TOUCH = s.fld 0 Rf.PSENSE_THR_TOUCH := by
      have hr := fld_raise m 0 0 0x020 K.PSHELD 0 n (f := Rf.PSENSE_THR_TOUCH) (by decide)
      rw [hk, apply_ite (Chip.fld · 0 Rf.PSENSE_THR_TOUCH), hr, ite_self, hm]
      exact Chip.fld_of_die rfl ..
    have hnode (j : Nat) : k.ps.node j = if j = n then x.1 else s.ps.node j := by rw [hps, PsSt.node_setNode]
    obtain ⟨hlow, hscan⟩ := ih k (n + 1)
    refine ⟨fun j hj => ?_, fun i h => ?_⟩ <;> rw [heq]
    · rw [hlow j (by omega), hnode, if_neg (by omega)]
    · cases i with
      | zero =>
        rw [Nat.add_zero, hlow n (by omega), hnode, if_pos rfl, hx]
        exact scanned_scanNode ..
      | succ i =>
        have hi := hscan i (by simpa using h)
        rw [hthr, hnode, if_neg (by omega)] at hi
        rw [show n + (i + 1) = n + 1 + i by omega]
        exact hi

/-- The drift of the nodes changes no delta and no touch (R481). -/
theorem driftNodes_keeps (ends : Bool) (ns : List Nat) (s : Chip) (j : Nat) :
    ((driftNodes s ends ns).ps.node j).delta = (s.ps.node j).delta ∧
      ((driftNodes s ends ns).ps.node j).since = (s.ps.node j).since := by
  have hone (m : Chip) (n : Nat) (x : PNode) :
      (driftNode m ends n x).delta = x.delta ∧ (driftNode m ends n x).since = x.since := by
    unfold driftNode
    dsimp only
    split
    · exact ⟨rfl, rfl⟩
    · exact ⟨rfl, rfl⟩
  induction ns generalizing s with
  | nil => exact ⟨rfl, rfl⟩
  | cons n ns ih =>
    obtain ⟨m, hm⟩ : ∃ m : Chip, m = { s with ps := s.ps.setNode n (driftNode s ends n (s.ps.node n)) } := ⟨_, rfl⟩
    have hnode : m.ps.node j = if j = n then driftNode s ends n (s.ps.node n) else s.ps.node j := by
      rw [hm]
      exact PsSt.node_setNode ..
    obtain ⟨hd, ht⟩ := ih m
    rw [driftNodes, ← hm, hd, ht, hnode]
    split
    · subst j
      exact hone ..
    · exact ⟨rfl, rfl⟩

/-! ### A scan (R475 to R478) -/

/-- What an ordinary scan does before the frame of it waits. -/
def ordinaryScan (raws : List Int) (s : Chip) : Chip :=
  let r := scanNodes (s.now 0) s 0 raws
  let m := if r.2 = 0 then r.1 else raise r.1 0 0x020 K.PSRECAP 0 r.2
  let x := driftNodes m (m.ps.window == 15) (range 0 960)
  { x with ps := { x.ps with window := if m.ps.window == 15 then 0 else x.ps.window + 1, retook := r.2 != 0 } }

/-- What a baseline scan does. -/
def baselineScan (raws : List Int) (s : Chip) : Chip :=
  let m := captureNodes (s.ps.capture == 1) s 0 raws
  { m with ps := { m.ps with capture := m.ps.capture - 1, retook := false } }

/-- The frame of a scan waits to be written. -/
def scanEnds (now : Time) (s : Chip) : Chip :=
  { s with ps := { s.ps with rate := s.fld 0 Rf.PSENSE_CTL_RATE, scanStart := now, frame := true } }

theorem node_scanEnds (now : Time) (s : Chip) (n : Nat) : (scanEnds now s).ps.node n = s.ps.node n := by
  simp only [scanEnds, PsSt.node]

/-- The conditions under which a scan starts (R475). -/
def PsenseScans (s : Chip) (raws : List Int) : Prop :=
  s.flag 0 Rf.PSENSE_CTL_EN = true ∧ s.flag 0 Rf.PWR_RAIL_VPS = true ∧ (s.now 0).toNat % (1000000000 / s.ps.rate) = 0 ∧
    raws.length = 960

section
variable {s : Chip} {raws : List Int} {t : Fin 256} (hw : Says.MayWrite s 0 0x0A t) (hs : PsenseScans s raws)
include hw hs

/-- Such a scan is not passed over. -/
theorem psenseScan_not_skipped : ¬ ((!present s 0 0x0A || !s.flag 0 Rf.PSENSE_CTL_EN || !s.flag 0 Rf.PWR_RAIL_VPS ||
    (s.now 0).toNat % scanPeriod s.ps.rate != 0 || raws.length != 960) = true) := by
  obtain ⟨hen, hvps, hnow, hlen⟩ := hs
  have hp : present s 0 0x0A = true := (Bool.and_eq_true .. ▸ hw.2).1
  simp [hp, hen, hvps, scanPeriod, hnow, hlen]

theorem psenseScan_eq : psenseScan raws s =
    scanEnds (s.now 0) (if s.ps.capture = 0 then ordinaryScan raws s else baselineScan raws s) := by
  rw [psenseScan, whenUp_of_up hw.1, if_neg (psenseScan_not_skipped hw hs)]
  simp only [scanEnds, ordinaryScan, baselineScan]

end

/-- A baseline scan takes the raw value of each node, and waits to be written as a frame (R477). -/
theorem baselineScan_spec (raws : List Int) (s : Chip) :
    (baselineScan raws s).ps.capture = s.ps.capture - 1 ∧ ∀ n (h : n < raws.length),
      (baselineScan raws s).ps.node n = captureNode (s.ps.capture == 1) (s.ps.node n) raws[n] := by
  obtain ⟨hcap, -, hnode⟩ := captureNodes_spec (s.ps.capture == 1) raws s 0
  refine ⟨congrArg (· - 1) hcap, fun n h => ?_⟩
  have hn := hnode n h
  rw [Nat.zero_add] at hn
  exact hn

/-- An ordinary scan gives each node its delta and its touch (R476, R478). -/
theorem ordinaryScan_spec (raws : List Int) (s : Chip) (n : Nat) (h : n < raws.length) :
    Scanned (s.fld 0 Rf.PSENSE_THR_TOUCH) (s.ps.node n).base raws[n] ((ordinaryScan raws s).ps.node n) := by
  obtain ⟨-, hnode⟩ := scanned_scanNodes (s.now 0) raws s 0
  have hn := hnode n h
  rw [Nat.zero_add] at hn
  obtain ⟨r, hr⟩ : ∃ r, r = scanNodes (s.now 0) s 0 raws := ⟨_, rfl⟩
  obtain ⟨m, hm⟩ : ∃ m, m = if r.2 = 0 then r.1 else raise r.1 0 0x020 K.PSRECAP 0 r.2 := ⟨_, rfl⟩
  have hps : m.ps = r.1.ps := by
    have hraise : (raise r.1 0 0x020 K.PSRECAP 0 r.2).ps = r.1.ps := rfl
    rw [hm, apply_ite Chip.ps, hraise, ite_self]
  obtain ⟨hd, ht⟩ := driftNodes_keeps (m.ps.window == 15) (range 0 960) m n
  obtain ⟨x, hx⟩ : ∃ x, x = driftNodes m (m.ps.window == 15) (range 0 960) := ⟨_, rfl⟩
  rw [← hr, Scanned, ← hps, ← hd, ← ht, ← hx] at hn
  simp only [ordinaryScan, ← hr, ← hm, ← hx]
  exact hn

/-! ### Words of the scratchpad that acquisition and panel sense write (R253) -/

/-- Four lanes over a word are the new word. -/
theorem overLanes_all (old new : Quadlane) : overLanes 15 old new = new := by
  have hn := new.isLt
  have hb : bit 15 0 = true ∧ bit 15 1 = true ∧ bit 15 2 = true ∧ bit 15 3 = true := by decide
  obtain ⟨h0, h1, h2, h3⟩ := hb
  apply BitVec.eq_of_toNat_eq
  simp only [overLanes, h0, h1, h2, h3, if_true, ofLanes, getLane, BitVec.toNat_ofNat]
  omega

theorem data_rawWord_all (m : Mem) (w : MWord) (q : Quadlane) : (rawWord m w 15 q).data = q := by
  unfold rawWord
  split
  · exact overLanes_all ..
  · exact overLanes_all ..

/-- From `s` to `k` no word of the scratchpad of die `d` has changed but the one at `i`, no register above the window of
SPAD, and nothing of panel sense. -/
structure WordStored (d : Fin 4) (i : Nat) (s k : Chip) : Prop where
  word : ∀ j, j ≠ i → k.word d .spad j = s.word d .spad j
  fld : ∀ e (f : Fld), 6 * 1048576 ≤ f.key → k.fld e f = s.fld e f
  ps : k.ps = s.ps

theorem Chip.fld_setWord (s : Chip) (d e : Fin 4) (m : Mem) (i : Nat) (w : MWord) (f : Fld) :
    (s.setWord d m i w).fld e f = s.fld e f := by rw [Chip.fld, Chip.reg_setWord, Chip.fld]

/-- A word stored in the scratchpad holds the data given, whether an armed injection turns bits of it or not (R378). -/
theorem storeWord_spad (s : Chip) (d : Fin 4) (i : Nat) (w : MWord) :
    ((storeWord s d .spad i w).word d .spad i).data = w.data ∧ WordStored d i s (storeWord s d .spad i w) := by
  obtain ⟨x, y, hinj, hdata, hword, hfld, hps⟩ : ∃ x y, injectInto s d .spad w = (x, y) ∧ y.data = w.data ∧
      (∀ j, x.word d .spad j = s.word d .spad j) ∧
      (∀ e (f : Fld), 6 * 1048576 ≤ f.key → x.fld e f = s.fld e f) ∧ x.ps = s.ps := by
    by_cases h : s.flag d Rf.SPAD_INJECT_ARM = true
    · refine ⟨_, _, if_pos h, rfl, fun _ => Chip.word_setFld .., fun e f hf => Chip.fld_setFld_ne s 0 (.inr ?_),
        Chip.ps_setFld ..⟩
      have : Rf.SPAD_INJECT_ARM.key < 6 * 1048576 := by decide
      omega
    · exact ⟨_, _, if_neg h, rfl, fun _ => rfl, fun _ _ _ => rfl, rfl⟩
  rw [storeWord, hinj]
  exact ⟨by rw [Chip.word_setWord_same, hdata],
    fun j hj => (Chip.word_setWord_ne x y (.inr (.inr hj))).trans (hword j),
    fun e f hf => (Chip.fld_setWord ..).trans (hfld e f hf), hps⟩

/-- A whole word written under no basis holds the word given. -/
theorem ingestWord_all (s : Chip) (d : Fin 4) (i : Nat) (q : Quadlane) (t : Fin 256) (basted : Bool) :
    ((ingestWord s d i 15 q t basted).word d .spad i).data = q ∧ WordStored d i s (ingestWord s d i 15 q t basted) := by
  obtain ⟨hdata, hkept⟩ := storeWord_spad s d i
    { rawWord .spad (if (s.word d .spad i).tag = .void then
        { s.word d .spad i with data := markWord, flips := 0, poison := 0, written := true } else s.word d .spad i) 15 q with
      tag := if basted then .ingest else .committed, ten := if basted then t else 0, shadow := none, overwritten := false }
  exact ⟨hdata.trans (data_rawWord_all ..), hkept⟩

/-! ### A frame (R482) -/

/-- Writing the words of a frame puts each word in its place and leaves the words before them. -/
theorem putFrame_spec (qs : List Quadlane) (s : Chip) (w : Nat) :
    (∀ j, j < w → (putFrame s w qs).word 0 .spad j = s.word 0 .spad j) ∧
      (∀ i (h : i < qs.length), ((putFrame s w qs).word 0 .spad (w + i)).data = qs[i]) ∧
      (∀ f : Fld, 6 * 1048576 ≤ f.key → (putFrame s w qs).fld 0 f = s.fld 0 f) ∧ (putFrame s w qs).ps = s.ps := by
  induction qs generalizing s w with
  | nil => exact ⟨fun _ _ => rfl, fun i h => absurd h (by simp), fun _ _ => rfl, rfl⟩
  | cons q qs ih =>
    have htouch (j : Nat) : (touchBank s 0 (bankOf w)).word 0 .spad j = s.word 0 .spad j := by
      rw [Chip.word, touchBank, Chip.d_upd_same, Chip.word]
      rfl
    have htouchf (f : Fld) : (touchBank s 0 (bankOf w)).fld 0 f = s.fld 0 f := Chip.fld_upd fun _ => rfl
    obtain ⟨hdata, hword, hfld, hps⟩ := ingestWord_all (touchBank s 0 (bankOf w)) 0 w q 0 false
    rw [putFrame]
    generalize ingestWord (touchBank s 0 (bankOf w)) 0 w 15 q 0 false = m at *
    obtain ⟨hlow, hin, hf, hp⟩ := ih m (w + 1)
    refine ⟨fun j hj => ?_, fun i h => ?_, fun f hk => ?_, hp.trans hps⟩
    · rw [hlow j (by omega), hword j (by omega), htouch]
    · cases i with
      | zero =>
        simp only [Nat.add_zero]
        rw [hlow w (by omega), hdata]
        rfl
      | succ i =>
        rw [show w + (i + 1) = w + 1 + i by omega]
        exact hin i (by simpa using h)
    · rw [hf f hk, hfld 0 f hk, htouchf]

theorem length_range (lo n : Nat) : (range lo n).length = n := by rw [range_eq_range', List.length_range']

theorem length_frameWords (s : Chip) : (frameWords s).length = 280 := by
  simp [frameWords, bitmapWords, length_range]

/-- The status of panel sense once a frame is written, and the frame to come. -/
def frameEnds (s : Chip) (touched held : Nat) : Chip :=
  let s := s.setFld 0 Rf.PSENSE_STAT_SCAN (s.fld 0 Rf.PSENSE_STAT_SCAN + 1)
  let s := s.setFld 0 Rf.PSENSE_STAT_CAPTURING (b2n (s.ps.capture != 0))
  let s := s.setFld 0 Rf.PSENSE_STAT_BUF (b2n s.ps.second)
  let s := (s.setFld 0 Rf.PSENSE_COUNTS_TOUCHED touched).setFld 0 Rf.PSENSE_COUNTS_HELDN held
  { s with ps := { s.ps with frame := false, second := !s.ps.second } }

theorem frameEnds_spec (s : Chip) (touched held : Nat) :
    (frameEnds s touched held).ps.frame = false ∧ (frameEnds s touched held).ps.second = !s.ps.second ∧
      (frameEnds s touched held).fld 0 Rf.PSENSE_STAT_SCAN = (s.fld 0 Rf.PSENSE_STAT_SCAN + 1) % 2 ^ 24 ∧
      ∀ m i, (frameEnds s touched held).word 0 m i = s.word 0 m i := by
  obtain ⟨k, hk⟩ : ∃ k, k = ((((s.setFld 0 Rf.PSENSE_STAT_SCAN (s.fld 0 Rf.PSENSE_STAT_SCAN + 1)).setFld 0
    Rf.PSENSE_STAT_CAPTURING (b2n (s.ps.capture != 0))).setFld 0 Rf.PSENSE_STAT_BUF (b2n s.ps.second)).setFld 0
    Rf.PSENSE_COUNTS_TOUCHED touched).setFld 0 Rf.PSENSE_COUNTS_HELDN held := ⟨_, rfl⟩
  have heq : frameEnds s touched held = { k with ps := { k.ps with frame := false, second := !k.ps.second } } := by
    simp only [frameEnds, hk, Chip.ps_setFld]
  have hps : k.ps = s.ps := by simp only [hk, Chip.ps_setFld]
  have hscan : k.fld 0 Rf.PSENSE_STAT_SCAN = (s.fld 0 Rf.PSENSE_STAT_SCAN + 1) % 2 ^ 24 := by
    rw [hk]
    iterate 4 rw [Chip.fld_setFld_apart _ _ (by decide) (by decide)]
    exact Chip.fld_setFld_same _ _ _ _ (by decide)
  have hword (m : Mem) (i : Nat) : k.word 0 m i = s.word 0 m i := by rw [hk]; iterate 5 rw [Chip.word_setFld]
  rw [heq]
  exact ⟨rfl, congrArg (fun p : PsSt => !p.second) hps, hscan, hword⟩

/-- The place of the frame to come (R482). -/
def frameOut (s : Chip) : Nat := s.fld 0 Rf.PSENSE_OUT_OUT + if s.ps.second then 280 else 0

/-- With every bank ON and its words in the scratchpad, a frame is written whole. -/
theorem psenseFrame_eq {s : Chip} (hup : up s 0 = true) (hframe : s.ps.frame = true)
    (hon : ∀ b < 32, bankOn s 0 b = true) (hfit : frameOut s + 280 ≤ 524288) :
    ∃ touched held, psenseFrame s = frameEnds (putFrame s (frameOut s) (frameWords s)) touched held := by
  have hws : (range (frameOut s) 280).filter (fun w => decide (w < 524288)) = range (frameOut s) 280 := by
    refine List.filter_eq_self.2 fun w hw => ?_
    have := mem_range.1 hw
    exact decide_eq_true (by omega)
  have hasleep : ((range (frameOut s) 280).filter fun w => !bankOn s 0 (bankOf w)) = [] := by
    refine List.filter_eq_nil_iff.2 fun w _ => ?_
    simp [hon (bankOf w) (Nat.mod_lt _ (by decide))]
  refine ⟨((range 0 960).filter (isTouched s)).length, ((range 0 960).filter (isHeld s)).length, ?_⟩
  rw [psenseFrame, whenUp_of_up hup, if_neg (by simp [hframe])]
  have htake : (frameWords s).take 280 = frameWords s := List.take_of_length_le (length_frameWords s).le
  rw [frameOut] at hws hasleep ⊢
  simp only [hws, hasleep, List.isEmpty_nil, Bool.not_true, Bool.false_eq_true, if_false, length_range, htake, frameEnds]

/-- A frame holds its words in turn at OUT or OUT + 280, and the next goes to the other (R482). -/
theorem psenseFrame_writes {s : Chip} (hup : up s 0 = true) (hframe : s.ps.frame = true)
    (hon : ∀ b < 32, bankOn s 0 b = true) (hfit : frameOut s + 280 ≤ 524288) :
    (psenseFrame s).ps.frame = false ∧ (psenseFrame s).ps.second = (!s.ps.second) ∧
      (psenseFrame s).fld 0 Rf.PSENSE_STAT_SCAN = (s.fld 0 Rf.PSENSE_STAT_SCAN + 1) % 2 ^ 24 ∧
      ∀ i < 280, ((psenseFrame s).word 0 .spad (frameOut s + i)).data = (frameWords s).getD i 0 := by
  obtain ⟨touched, held, heq⟩ := psenseFrame_eq hup hframe hon hfit
  obtain ⟨-, hin, hfld, hps⟩ := putFrame_spec (frameWords s) s (frameOut s)
  obtain ⟨hf, hsecond, hscan, hword⟩ := frameEnds_spec (putFrame s (frameOut s) (frameWords s)) touched held
  rw [heq]
  refine ⟨hf, by rw [hsecond, hps], by rw [hscan, hfld _ (by decide)], fun i hi => ?_⟩
  rw [hword, hin i (by rw [length_frameWords]; exact hi), List.getD_eq_getElem]

end Sys2Proof.Machine

namespace Sys2Proof.Says

open Sys2Proof.Machine

/-- Settles O40: a write of the control starts, restarts or ends the scans, a scan gives each node its value, and a
frame is written word by word. -/
theorem panelSenseScansAndWritesFrames : Obligations.PanelSenseScansAndWritesFrames := by
  unfold Obligations.PanelSenseScansAndWritesFrames
  intro t v raws s hw
  refine ⟨fun hv hoff => ?_, fun hv hr => ?_, fun hv => ?_, fun hs hc => ?_, fun hs hc => ?_, fun hs hc => ?_,
    fun hframe hon hfit => ?_⟩
  · exact .of_effect rfl (whenGranted_granted hw _) (psenseCtl_enables hv hoff)
  · obtain ⟨m, hm⟩ := psenseCtl_recaptures (s := s.chip) hv hr
    obtain ⟨hcap, hcapt, -⟩ := recapture_spec m
    exact .of_effect rfl ((whenGranted_granted hw _).trans hm) ⟨hcap, hcapt⟩
  · obtain ⟨hen, -, hps⟩ := psenseStored_spec s.chip v
    rw [hv] at hen
    exact .of_effect rfl ((whenGranted_granted hw _).trans (psenseCtl_disables hv)) ⟨hen, hps⟩
  · obtain ⟨hcap, -⟩ := baselineScan_spec raws s.chip
    exact .of_effect rfl ((psenseScan_eq hw hs).trans (congrArg (scanEnds _) (if_neg (by omega)))) ⟨hcap, rfl⟩
  · obtain ⟨hcap, hnode⟩ := baselineScan_spec raws s.chip
    refine .of_effect rfl ((psenseScan_eq hw hs).trans (congrArg (scanEnds _) (if_neg (by omega))))
      ⟨hcap.trans (by rw [hc]), fun n h => ?_⟩
    rw [node_scanEnds, hnode n h, hc]
    rfl
  · refine .of_effect rfl ((psenseScan_eq hw hs).trans (congrArg (scanEnds _) (if_pos hc))) ⟨rfl, fun n h => ?_⟩
    rw [node_scanEnds]
    exact ordinaryScan_spec raws s.chip n h
  · exact .of_effect rfl rfl (psenseFrame_writes hw.1 hframe hon hfit)

end Sys2Proof.Says
end

section
/-! Acquisition: the converters, the samples and the end of a capture, and the pulses of die 0. -/

namespace Sys2Proof.Machine

/-- The registers of ACQ lie in their own window of the map (R25). -/
abbrev Fld.InAcq (f : Fld) : Prop := 8 * 1048576 ≤ f.key ∧ f.key < 9 * 1048576

/-- From `s` to `k` no register of ACQ and no capture has changed. -/
structure AcqKept (s k : Chip) : Prop where
  fld : ∀ e (f : Fld), f.InAcq → k.fld e f = s.fld e f
  cap : ∀ e c, k.cap e c = s.cap e c

namespace AcqKept

variable {s m k : Chip}

theorem refl (s : Chip) : AcqKept s s := ⟨fun _ _ _ => rfl, fun _ _ => rfl⟩

theorem trans (h : AcqKept s m) (h' : AcqKept m k) : AcqKept s k :=
  ⟨fun e f hf => (h'.fld e f hf).trans (h.fld e f hf), fun e c => (h'.cap e c).trans (h.cap e c)⟩

/-- A change of a die beside its registers and captures. -/
theorem upd (s : Chip) (d : Fin 4) {f : DieSt → DieSt} (h : ∀ x, (f x).regs = x.regs ∧ (f x).caps = x.caps) :
    AcqKept s (s.upd d f) := by
  refine ⟨fun e g _ => Chip.fld_upd fun x => (h x).1, fun e c => ?_⟩
  rw [Chip.cap, Chip.cap, Chip.d_upd]
  split
  · subst e; rw [(h _).2]
  · rfl

theorem setFld (s : Chip) (d : Fin 4) {f : Fld} (v : Nat) (hf : f.key < 8 * 1048576 ∨ 9 * 1048576 ≤ f.key) :
    AcqKept s (s.setFld d f v) := by
  refine ⟨fun e g hg => Chip.fld_setFld_ne s v (.inr ?_), fun e c => ?_⟩
  · obtain ⟨hlo, hhi⟩ := hg
    omega
  · rw [Chip.cap, Chip.caps_of_setFld, Chip.cap]

theorem raise (s : Chip) (d : Fin 4) (src kind : Nat) (t : Fin 256) (pay : Nat) :
    AcqKept s (raise s d src kind t pay) := by
  obtain ⟨hd, -⟩ := Says.onlyRegs_sendRec s d (mkRec s d src kind t pay false false)
  refine ⟨fun e g hg => fld_raise s d e src kind t pay ?_, fun e c => ?_⟩
  · obtain ⟨hlo, hhi⟩ := hg
    simp only [Fld.key, Fld.at, Rf.EVT_KCOUNT_COUNT] at hhi ⊢
    omega
  · exact (congrArg (fun x : DieSt => mapGet (fun _ => none) x.caps c) (hd e) :)

theorem caplate (s : Chip) (d : Fin 4) (ch : Nat) (c : Capture) (abandoned : Bool) :
    AcqKept s (caplate s d ch c abandoned) := raise ..

theorem overAll {α : Type} {f : Chip → α → Chip} (l : List α) (hf : ∀ a ∈ l, ∀ s, AcqKept s (f s a)) (s : Chip) :
    AcqKept s (overAll f s l) := by
  induction l generalizing s with
  | nil => exact refl s
  | cons a l ih => exact (hf a (by simp) s).trans (ih (fun b hb => hf b (by simp [hb])) _)

theorem guarded {p : Prop} [Decidable p] (h : AcqKept s m) (h' : AcqKept s k) : AcqKept s (if p then m else k) := by
  split
  · exact h
  · exact h'

/-- A bank of the scratchpad moves by its own registers. -/
theorem moveBank (s : Chip) (d : Fin 4) {n : Nat} (hn : n < 32) (v : Nat) : AcqKept s (moveBank s d n v) := by
  have hto : AcqKept s (setBankTo s d n v) := upd s d fun _ => ⟨rfl, rfl⟩
  have hkey : (Rf.SPAD_BANK_STATE.at n).key < 8 * 1048576 ∧ (Rf.SPAD_BANK_HELD.at n).key < 8 * 1048576 := by
    constructor <;> simp only [Fld.key, Fld.at, Rf.SPAD_BANK_STATE, Rf.SPAD_BANK_HELD] <;> omega
  exact guarded (hto.trans (setFld _ d _ (.inl hkey.2))) <| guarded (hto.trans (setFld _ d _ (.inl hkey.2)))
    ((hto.trans (setFld _ d _ (.inl hkey.1))).trans (setFld _ d _ (.inl hkey.2)))

theorem releaseBanks (s : Chip) (d : Fin 4) : AcqKept s (releaseBanks s d) :=
  overAll _ (fun _ hn m => guarded (moveBank m d (by have := mem_range.1 hn; omega) _) (refl m)) s

/-- A register of an accumulation set lies in the window of Pleat. -/
theorem setSetFld (s : Chip) (d : Fin 4) (f : Fld) (n v : Nat) (hf : 9 * 1048576 ≤ f.key) :
    AcqKept s (s.setFld d (f.at n) v) := setFld s d v (.inr (by simp only [Fld.key, Fld.at] at hf ⊢; omega))

theorem onPleat (s : Chip) (d : Fin 4) (f : PleatSt → PleatSt) : AcqKept s (s.onPleat d f) := upd s d fun _ => ⟨rfl, rfl⟩

theorem setPset (s : Chip) (d : Fin 4) (n : Nat) (x : PSet) : AcqKept s (s.setPset d n x) :=
  (onPleat s d _).trans (setSetFld _ d _ n _ (by decide))

theorem discardSet (s : Chip) (d : Fin 4) (n : Nat) : AcqKept s (discardSet s d n) := setPset ..

theorem commitNow (s : Chip) (d : Fin 4) (n : Nat) : AcqKept s (commitNow s d n) := by
  have hcount (x : Chip) (v : Nat) : AcqKept x (x.setFld d (Rf.PLEAT_SET_STAT_RECORDS.at n) v) :=
    setSetFld x d _ n v (by decide)
  have hdone (x : Chip) : AcqKept x (x.setFld d (Rf.PLEAT_SET_STAT_COMPLETE.at n) 1) := setSetFld x d _ n 1 (by decide)
  unfold Machine.commitNow
  dsimp only
  refine guarded (((setPset ..).trans (hcount ..)).trans ((hdone _).trans (guarded (onPleat ..) (refl _)))) ?_
  exact (setPset ..).trans (hcount ..)

theorem commitSet (s : Chip) (d : Fin 4) (n : Nat) : AcqKept s (commitSet s d n) :=
  guarded (setPset ..) (commitNow ..)

theorem settleChan (s : Chip) (d : Fin 4) (ch : Nat) (commit : Bool) : AcqKept s (settleChan s d ch commit) :=
  overAll _ (fun _ _ m => guarded (commitSet m ..) (discardSet m ..)) s

theorem settlePlain (s : Chip) (d : Fin 4) (ch : Nat) (atA valid : Bool) : AcqKept s (settlePlain s d ch atA valid) :=
  guarded (refl s) <|
    overAll _ (fun _ _ m => guarded (guarded (commitSet m ..) (discardSet m ..)) (refl m)) s

end AcqKept

theorem Chip.cap_setCap_same (s : Chip) (d : Fin 4) (c : Nat) (x : Option Capture) : (s.setCap d c x).cap d c = x := by
  rw [cap, setCap, Chip.d_upd_same]
  exact mapGet_mapPut_same ..

/-! ### Converters (R449, R494) -/

/-- Abandoning a capture stores no register of ACQ. -/
theorem fld_abandon (s : Chip) (d : Fin 4) (ch : Nat) (c : Capture) (e : Fin 4) {f : Fld} (hf : f.InAcq) :
    (abandon s d ch c).fld e f = s.fld e f := by
  have hdrop (m : Chip) : (m.upd d fun x => { x with ingestQ := x.ingestQ.filter fun q => q.chan != ch }).fld e f =
      m.fld e f := Chip.fld_upd fun _ => rfl
  unfold abandon
  dsimp only
  rw [(AcqKept.settleChan ..).fld e f hf, (AcqKept.releaseBanks ..).fld e f hf, (AcqKept.caplate ..).fld e f hf, hdrop,
    Chip.fld_setCap]

/-- What a write of one enable bit leaves in the registers of ACQ: the bit, and its ready bit cleared where it is 0. -/
theorem fld_setEnable (s : Chip) (d : Fin 4) (i : Nat) (f : Fld) (v : Bool) {g : Fld} (hg : g.InAcq) :
    (setEnable s d i f v).fld d g =
      if v then (s.setFld d f (b2n v)).fld d g
      else ((s.setFld d f (b2n v)).setFld d Rf.ACQ_STAT_READY
        (clrBit ((s.setFld d f (b2n v)).fld d Rf.ACQ_STAT_READY) i)).fld d g := by
  unfold setEnable
  generalize s.setFld d f (b2n v) = m
  dsimp only
  split
  · rfl
  · generalize m.setFld d Rf.ACQ_STAT_READY (clrBit (m.fld d Rf.ACQ_STAT_READY) i) = x
    refine overAll_keeps (fun k => k.fld d g = x.fld d g) _ (fun k ch hk => ?_) _ _ rfl
    split
    · split
      · exact (fld_abandon k d ch _ d hg).trans hk
      · exact hk
    · exact hk

/-- Bits of the ready field stay clear, and the bit named is cleared. -/
theorem bit_clrBit_ready : ∀ n < 8, ∀ i < 3, ∀ b < 3, (b = i ∨ bit n b = false) → bit (clrBit n i % 8) b = false := by
  decide

section
variable (s : Chip) (d : Fin 4) {i : Nat} (hi : i < 3) {f : Fld} (hw : f.w = 1) (hlo : f.lo < 32)
  (hk : f.key = Rf.ACQ_CTL_RCVMARK.key) (v : Bool)
include hi hw hlo hk

/-- An enable bit holds what was written; the other fields of the control register stay; and the ready bits that were
clear stay so, with that of the enable bit where it was written 0. -/
theorem setEnable_spec :
    (setEnable s d i f v).fld d f = b2n v ∧
      (∀ g : Fld, g.key = Rf.ACQ_CTL_RCVMARK.key → f.Apart g → (setEnable s d i f v).fld d g = s.fld d g) ∧
      ∀ b < 3, ((b = i ∧ v = false) ∨ bit (s.fld d Rf.ACQ_STAT_READY) b = false) →
        bit ((setEnable s d i f v).fld d Rf.ACQ_STAT_READY) b = false := by
  have hacq {g : Fld} (hg : g.key = Rf.ACQ_CTL_RCVMARK.key) : g.InAcq ∧ g.key ≠ Rf.ACQ_STAT_READY.key := by
    rw [Fld.InAcq, hg]
    decide
  have hctl {g : Fld} (hg : g.key = Rf.ACQ_CTL_RCVMARK.key) :
      (setEnable s d i f v).fld d g = (s.setFld d f (b2n v)).fld d g := by
    rw [fld_setEnable s d i f v (hacq hg).1]
    split
    · rfl
    · exact Chip.fld_setFld_ne _ _ (.inr (hacq hg).2)
  have hready : (s.setFld d f (b2n v)).fld d Rf.ACQ_STAT_READY = s.fld d Rf.ACQ_STAT_READY :=
    Chip.fld_setFld_ne s _ (.inr (hacq hk).2.symm)
  refine ⟨?_, fun g hg ha => ?_, fun b hb h => ?_⟩
  · rw [hctl hk, Chip.fld_setFld_same _ _ _ _ (by omega), hw]
    exact Nat.mod_eq_of_lt (b2n_lt v)
  · rw [hctl hg, Chip.fld_setFld_apart _ _ (by omega) ha]
  · rw [fld_setEnable s d i f v (by decide), hready]
    cases v
    · rw [if_neg (by decide), Chip.fld_setFld_same _ _ _ _ (by decide)]
      exact bit_clrBit_ready _ (Chip.fld_lt s d Rf.ACQ_STAT_READY) i hi b hb (h.imp_left And.left)
    · rw [if_pos rfl]
      exact h.resolve_left fun hc => Bool.noConfusion hc.2

end

theorem getBits_one (v : Word) (lo : Nat) : b2n (getBits v lo 1 == 1) = getBits v lo 1 := by
  have := getBits_lt v lo 1
  rcases (by omega : getBits v lo 1 = 0 ∨ getBits v lo 1 = 1) with h | h <;> rw [h] <;> rfl

/-- A write of ACQ.CTL stores its four fields; a converter that it does not enable is not ready (R449). -/
theorem acqCtl_spec (s : Chip) (d : Fin 4) (v : Word) :
    (acqCtl s d v).fld d Rf.ACQ_CTL_FAST_EN_0 = getBits v 0 1 ∧
      (acqCtl s d v).fld d Rf.ACQ_CTL_FAST_EN_1 = getBits v 1 1 ∧
      (acqCtl s d v).fld d Rf.ACQ_CTL_SLOW_EN = getBits v 2 1 ∧
      (acqCtl s d v).fld d Rf.ACQ_CTL_RCVMARK = getBits v 3 1 ∧
      ∀ b < 3, getBits v b 1 = 0 → bit ((acqCtl s d v).fld d Rf.ACQ_STAT_READY) b = false := by
  obtain ⟨k0, hk0⟩ : ∃ k, k = setEnable s d 0 Rf.ACQ_CTL_FAST_EN_0 (getBits v 0 1 == 1) := ⟨_, rfl⟩
  obtain ⟨k1, hk1⟩ : ∃ k, k = setEnable k0 d 1 Rf.ACQ_CTL_FAST_EN_1 (getBits v 1 1 == 1) := ⟨_, rfl⟩
  obtain ⟨k2, hk2⟩ : ∃ k, k = setEnable k1 d 2 Rf.ACQ_CTL_SLOW_EN (getBits v 2 1 == 1) := ⟨_, rfl⟩
  have heq : acqCtl s d v = k2.setFld d Rf.ACQ_CTL_RCVMARK (getBits v 3 1) := by rw [hk2, hk1, hk0, acqCtl]
  obtain ⟨hf0, -, hr0⟩ := setEnable_spec s d (i := 0) (by decide) (f := Rf.ACQ_CTL_FAST_EN_0) rfl (by decide) rfl
    (getBits v 0 1 == 1)
  obtain ⟨hf1, hg1, hr1⟩ := setEnable_spec k0 d (i := 1) (by decide) (f := Rf.ACQ_CTL_FAST_EN_1) rfl (by decide) rfl
    (getBits v 1 1 == 1)
  obtain ⟨hf2, hg2, hr2⟩ := setEnable_spec k1 d (i := 2) (by decide) (f := Rf.ACQ_CTL_SLOW_EN) rfl (by decide) rfl
    (getBits v 2 1 == 1)
  rw [← hk0, getBits_one] at hf0
  rw [← hk1, getBits_one] at hf1
  rw [← hk2, getBits_one] at hf2
  rw [← hk0] at hr0
  rw [← hk1] at hg1 hr1
  rw [← hk2] at hg2 hr2
  have hlast {g : Fld} (ha : Rf.ACQ_CTL_RCVMARK.Apart g) : (acqCtl s d v).fld d g = k2.fld d g := by
    rw [heq]
    exact Chip.fld_setFld_apart k2 _ (by decide) ha
  refine ⟨?_, ?_, ?_, ?_, fun b hb hv => ?_⟩
  · rw [hlast (by decide), hg2 Rf.ACQ_CTL_FAST_EN_0 rfl (by decide), hg1 Rf.ACQ_CTL_FAST_EN_0 rfl (by decide), hf0]
  · rw [hlast (by decide), hg2 Rf.ACQ_CTL_FAST_EN_1 rfl (by decide), hf1]
  · rw [hlast (by decide), hf2]
  · rw [heq, Chip.fld_setFld_same _ _ _ _ (by decide)]
    exact Nat.mod_eq_of_lt (getBits_lt ..)
  · rw [hlast (by decide)]
    rcases (by omega : b = 0 ∨ b = 1 ∨ b = 2) with rfl | rfl | rfl
    · exact hr2 0 hb (.inr (hr1 0 hb (.inr (hr0 0 hb (.inl ⟨rfl, by rw [hv]; rfl⟩)))))
    · exact hr2 1 hb (.inr (hr1 1 hb (.inl ⟨rfl, by rw [hv]; rfl⟩)))
    · exact hr2 2 hb (.inl ⟨rfl, by rw [hv]; rfl⟩)

/-! ### Samples (R452, R453, R459) -/

/-- The end of a recovery interval changes nothing else of its capture. -/
theorem closeRecovery_capture (s : Chip) (d : Fin 4) (ch : Nat) (c : Capture) :
    (closeRecovery s d ch c).2 = { c with recv := none } := by
  unfold closeRecovery
  split
  · next h =>
    cases c
    simp only at h
    rw [h]
  · rfl

theorem recovery_closed (p : Prop) [Decidable p] (s : Chip) (d : Fin 4) (ch : Nat) (c : Capture) :
    ∃ rec, (if p then closeRecovery s d ch c else (s, c)).2 = { c with recv := rec } := by
  split
  · exact ⟨none, closeRecovery_capture ..⟩
  · exact ⟨c.recv, rfl⟩

section
variable {s : Chip} {d : Fin 4} {ch : Fin 10} {c : Capture}

/-- A capture that is open on its channel. -/
def Taking (s : Chip) (d : Fin 4) (ch : Fin 10) (c : Capture) : Prop :=
  s.cap d ch.val = some c ∧ c.isDone = false ∧ c.abandoned = false

theorem Taking.open_ (h : Taking s d ch c) : c.open_ = true := by
  obtain ⟨-, hdone, hab⟩ := h
  simp [Capture.open_, hdone, hab]

variable (hup : up s d = true) (h : Taking s d ch c)
include hup h

/-- Before the instant of its next sample a capture takes none. -/
theorem ingestWrite_early (hearly : offset25 s d c.tickStart < sampleAt ch.val c.start c.n) (x : Lane) (severe : Bool)
    (sumRead : Nat) : ingestWrite d ch x severe sumRead s = s := by
  rw [ingestWrite, whenUp_of_up hup]
  simp only [h.1]
  rw [if_pos (by simp [hearly])]

/-- From its instant on a sample of a capture is taken: the capture is what its channel's converter makes of it, with
the code delivered before the earlier ones. -/
theorem cap_ingestWrite (hn : c.n < c.len) (hdue : sampleAt ch.val c.start c.n ≤ offset25 s d c.tickStart) {x : Lane}
    {severe : Bool} (sumRead : Nat) {r : Chip × Capture × Lane}
    (hr : (if ch.val < 2 then fastSample s d ch.val c x severe else (s, slowSample c x, x)) = r) :
    ∃ q, (ingestWrite d ch x severe sumRead s).cap d ch.val = some q ∧ q.n = c.n + 1 ∧ q.got = r.2.2 :: c.got ∧
      q.under = r.2.1.under ∧ q.overCnt = r.2.1.overCnt ∧ q.rcv = r.2.1.rcv := by
  have hcond : ¬ ((!c.open_ || decide (c.len ≤ c.n) ||
      decide (offset25 s d c.tickStart < sampleAt ch.val c.start c.n)) = true) := by
    simp [h.open_, hn, hdue]
  obtain ⟨m, bad, rec, heq⟩ : ∃ (m : Chip) (bad : Bool) (rec : Option Recovery), ingestWrite d ch x severe sumRead s =
      m.setCap d ch.val (some { r.2.1 with n := c.n + 1, got := r.2.2 :: c.got, ilkBad := bad, recv := rec }) := by
    rw [ingestWrite, whenUp_of_up hup]
    simp only [h.1]
    rw [if_neg hcond, hr]
    generalize hbad : (c.ilkBad || (c.ilkReq && !r.1.flag 0 Rf.ILK_STAT_LASEN)) = bad
    generalize hy : ({ r.2.1 with n := c.n + 1, got := r.2.2 :: c.got, ilkBad := bad } : Capture) = y
    obtain ⟨rec, hrec⟩ := recovery_closed (c.n + 1 = r.2.1.len) r.1 d ch.val y
    rw [hrec]
    subst hy
    exact ⟨_, bad, rec, rfl⟩
  rw [heq]
  exact ⟨_, Chip.cap_setCap_same .., rfl, rfl, rfl, rfl, rfl⟩

end

/-- An unmarked sample outside overload and recovery is delivered as converted (R459). -/
theorem fastSample_plain (s : Chip) (d : Fin 4) (ch : Nat) {c : Capture} {x : Lane} (hrun : c.run = none)
    (hrecv : c.recv = none) (hx : isMark x = false) (severe : Bool) : fastSample s d ch c x severe = (s, c, x) := by
  have hm : ¬ ((x == 0x2000 || x == 0x1FFF) = true) := by simpa [isMark] using hx
  rw [fastSample, if_neg hm]
  simp only [hrun, hrecv]

/-! ### The end of a capture (R454, R455, R457) -/

section
variable {s : Chip} {d : Fin 4} {ch : Fin 10} {c : Capture} (hup : up s d = true) (h : Taking s d ch c)
include hup h

theorem captureDone_early (hn : c.n < c.len) : captureDone d ch s = s := by
  rw [captureDone, whenUp_of_up hup]
  simp only [h.1]
  rw [if_pos (by simp [hn])]

/-- A capture whose samples are all written is done once its header can be written. -/
theorem captureDone_ends (hn : c.len ≤ c.n) (hfill : fifoFill s d ch.val = 0)
    (hon : ∀ w ∈ headerPlace c, bankOn s d (bankOf w) = true) :
    ∃ q, (captureDone d ch s).cap d ch.val = some q ∧ q.isDone = true ∧ q.ilkOk = (!c.ilkReq || !c.ilkBad) ∧
      q.rangeOk = decide (c.under + c.overCnt + c.rcv ≤ c.tol) := by
  have hcond : ¬ ((!c.open_ || decide (c.n < c.len) || fifoFill s d ch.val != 0) = true) := by
    simp [h.open_, hn, hfill]
  have hbanks : ¬ (((headerPlace c).any fun w => !bankOn s d (bankOf w)) = true) := by
    simp only [List.any_eq_true, not_exists, not_and]
    exact fun w hw => by simp [hon w hw]
  rw [captureDone, whenUp_of_up hup]
  simp only [h.1]
  rw [if_neg hcond, if_neg hbanks]
  refine ⟨_, (((AcqKept.releaseBanks ..).trans (.settlePlain ..)).cap d ch.val).trans (Chip.cap_setCap_same ..), ?_⟩
  exact ⟨rfl, rfl, rfl⟩

end

/-! ### Pulses (R463 to R465, R498) -/

theorem Chip.pulsesOf_setPulses_same (s : Chip) (k : Nat) (ps : List Pulse) : (setPulses s k ps).pulsesOf k = ps :=
  mapGet_mapPut_same ..

theorem onFirst_head {p : Pulse → Bool} {f : Pulse → Pulse} {x : Pulse} (h : p x = true) (xs : List Pulse) :
    onFirst p f (x :: xs) = f x :: xs := if_pos h

section
variable {s : Chip} {k : Fin 4} {p : Pulse} {ps : List Pulse} (hup : up s 0 = true) (hp : s.pulsesOf k.val = p :: ps)
include hup hp

theorem pulseEdge_first (hrose : p.rose = false) (h : p.edge ≤ offset50 s p) :
    pulseEdge k s = setPulses s k.val ({ p with rose := true } :: ps) := by
  rw [pulseEdge, whenUp_of_up hup, hp, onFirst_head (by simp [hrose, h])]

theorem pulseEnd_first (hrose : p.rose = true) (hfell : p.fell = false) (h : p.edge + p.width ≤ offset50 s p) :
    pulseEnd k s = setPulses s k.val ({ p with fell := true } :: ps) := by
  rw [pulseEnd, whenUp_of_up hup, hp, onFirst_head (by simp [hrose, hfell, h])]

theorem pmonEdge_first {at50 : Nat} (hseen : p.seen = false) (hmissed : p.missed = false) (h : p.edge ≤ at50)
    (hwin : at50 ≤ p.edge + s.fld 0 (Rf.ACQ_PULSE_CTL_WIN.at k.val)) :
    pmonEdge k at50 s = setPulses s k.val ({ p with seen := true } :: ps) := by
  rw [pmonEdge, whenUp_of_up hup, hp]
  simp only []
  rw [onFirst_head (by simp [hseen, hmissed, h, hwin])]

theorem pmonWindowExpire_first (hseen : p.seen = false) (hmissed : p.missed = false)
    (h : p.edge + s.fld 0 (Rf.ACQ_PULSE_CTL_WIN.at k.val) < offset50 s p) :
    pmonWindowExpire k s = raise ((setPulses s k.val ({ p with missed := true } :: ps)).setFld 0
      (Rf.ACQ_PULSE_STAT_MISSED.at k.val) 1) 0 (0x01B + k.val) K.PMISS 0 p.edge := by
  have hlate : (!p.seen && !p.missed &&
      decide (p.edge + s.fld 0 (Rf.ACQ_PULSE_CTL_WIN.at k.val) < offset50 s p)) = true := by simp [hseen, hmissed, h]
  rw [pmonWindowExpire, whenUp_of_up hup, hp]
  simp only [List.find?_cons, hlate, onFirst_head]

end

/-- A window that passes without an edge is missed, and PMISS tells it. -/
theorem missed_spec (s : Chip) (k : Fin 4) (ps : List Pulse) (edge : Nat) :
    let x := raise ((setPulses s k.val ps).setFld 0 (Rf.ACQ_PULSE_STAT_MISSED.at k.val) 1) 0 (0x01B + k.val) K.PMISS 0 edge
    x.pulsesOf k.val = ps ∧ x.fld 0 (Rf.ACQ_PULSE_STAT_MISSED.at k.val) = 1 ∧ Says.Sent x 0 K.PMISS 0 := by
  have hkey : (Rf.ACQ_PULSE_STAT_MISSED.at k.val).key ≠ (Rf.EVT_KCOUNT_COUNT.at K.PMISS).key := by
    have := k.isLt
    simp only [Fld.key, Fld.at, Rf.ACQ_PULSE_STAT_MISSED, Rf.EVT_KCOUNT_COUNT]
    omega
  refine ⟨Chip.pulsesOf_setPulses_same .., ?_, Says.sent_raise ..⟩
  rw [fld_raise _ _ _ _ _ _ _ hkey]
  exact Chip.fld_setFld_same _ _ _ _ (by simp [Fld.at, Rf.ACQ_PULSE_STAT_MISSED])

end Sys2Proof.Machine

namespace Sys2Proof.Says

open Sys2Proof.Machine

/-- Settles O38: a sample is taken from its instant on and a capture ends after its last, whatever the ingest path and
the banks do besides; and the first pulse of an output that an event can be about takes it. -/
theorem capturesAndPulsesFollowTheirInstants : Obligations.CapturesAndPulsesFollowTheirInstants := by
  unfold Obligations.CapturesAndPulsesFollowTheirInstants
  refine ⟨fun t d i ch v x severe sumRead cap s hup => ?_, fun k at50 p ps s hup hp => ?_⟩
  · refine ⟨fun hg => ?_, ?_, fun h _ hearly => ?_, fun h hn hdue hch _ => ?_, fun h hn hdue hch _ hrun hrecv hx => ?_,
      fun h hn hfill hon => ?_, fun h hn => ?_⟩
    · exact .of_effect rfl (whenGranted_granted ⟨hup, hg⟩ _) (acqCtl_spec ..)
    · exact .of_effect rfl (whenUp_of_up hup _)
    · exact .of_effect rfl (ingestWrite_early hup h hearly ..)
    · obtain ⟨q, hcap, hq, hgot, hunder, hover, -⟩ := cap_ingestWrite hup h hn hdue (severe := severe) sumRead
        (if_neg (by omega))
      exact .of_effect rfl rfl ⟨q, hcap, hq, hgot, hunder, hover⟩
    · obtain ⟨q, hcap, hq, hgot, -, -, hrcv⟩ := cap_ingestWrite hup h hn hdue sumRead
        ((if_pos hch).trans (fastSample_plain s.chip d ch.val hrun hrecv hx severe))
      exact .of_effect rfl rfl ⟨q, hcap, hq, hgot, hrcv⟩
    · exact .of_effect rfl rfl (captureDone_ends hup h hn hfill hon)
    · exact .of_effect rfl (captureDone_early hup h hn)
  · refine ⟨fun hrose h => ?_, fun hrose hfell h => ?_, fun hseen hmissed h hwin => ?_, fun hseen hmissed h => ?_⟩
    · exact .of_effect rfl (pulseEdge_first hup hp hrose h)
    · exact .of_effect rfl (pulseEnd_first hup hp hrose hfell h)
    · exact .of_effect rfl (pmonEdge_first hup hp hseen hmissed h hwin)
    · exact .of_effect rfl (pmonWindowExpire_first hup hp hseen hmissed h) (missed_spec ..)

end Sys2Proof.Says
end

section
/-! The pins (R467, R832, R833, R871, R895 to R898, R937): which case of `pinDrive` a ball falls in. -/

namespace Sys2Proof.Machine

variable {s : Chip} {b : Ball}

theorem alive_iff : alive s = true ↔ s.stop.held = false ∧ fatalStopped s = false := by
  simp only [alive, fatalStopped, Bool.and_eq_true, Bool.not_eq_true', Bool.or_eq_false_iff]
  tauto

theorem driven_of_off (h : b.offUnconfigured = true ∨ b.offStopped = true) : b.driven = true := by
  rcases h with h | h <;> simp [Ball.driven, h]

/-- An off state goes before every level but WDOUT's in its pulse. -/
theorem pinDrive_of_off (hdriven : b.driven = true) (hb : b ≠ .wdout) (hoff : pinOff s b = true) :
    pinDrive s b = .highZ := by
  simp [pinDrive, hdriven, hb, hoff]

theorem pinOff_of_stopped (h : fatalStopped s = true ∨ s.stop.held = true)
    (hb : b.offUnconfigured = true ∨ b.offStopped = true) : pinOff s b = true := by
  have hstopped : pinStopped s b = true := by rcases h with h | h <;> simp [pinStopped, h]
  have hnamed : (b.offUnconfigured || b.offStopped) = true := by simpa using hb
  simp [pinOff, hstopped, hnamed]

theorem pinOff_of_unreleased (h : s.fld 0 Rf.CFG_STAT_STATE ≠ 2) (hb : b.offUnconfigured = true) :
    pinOff s b = true := by
  simp [pinOff, unreleased, h, hb]

/-- No boundary test reaches a ball of die 0 whose instruction is none of EXTEST, CLAMP and HIGHZ. -/
theorem pinDrive_untested (hdie : b.die = 0) (hdriven : b.driven = true) (hb : b ≠ .wdout)
    (hir : (s.d 0).tap.ir ∉ [0x000, 0x040, 0x080]) (hoff : pinOff s b = false) : pinDrive s b = pinNormal s b := by
  obtain ⟨h0, h40, h80⟩ : (s.d 0).tap.ir ≠ 0 ∧ (s.d 0).tap.ir ≠ 0x40 ∧ (s.d 0).tap.ir ≠ 0x80 := by simpa using hir
  have htest : pinTested s b = false := by simp [pinTested, hdie, h0, h80]
  have hir40 : ((s.d (Fin.ofNat 4 b.die)).tap.ir == 0x040) = false := by simp [hdie, h40]
  simp only [pinDrive, hdriven, hb, hoff, htest, hir40, Bool.and_false, Bool.not_true, false_and, if_false,
    Bool.false_eq_true]
  cases b <;> rfl

/-- The open-drain pins of the S9 are off only where their feature is absent. -/
theorem pinOff_openDrain (hfeat : feature s 0 6 = true) (hb : b = .alertN ∨ b = .cfgDone ∨ b = .cfgErr) :
    pinOff s b = false := by
  rcases hb with rfl | rfl | rfl <;> simp [pinOff, pinPresent, hfeat, Ball.offUnconfigured, Ball.offStopped]

theorem openDrain_low (v : Bool) : openDrain v = .low ↔ v = true := by cases v <;> simp [openDrain]

theorem openDrain_released (v : Bool) : openDrain v = .released ↔ v = false := by cases v <;> simp [openDrain]

theorem alertLow_iff (hvaon : s.vbat.vaonAbsent = false) :
    alertLow s = true ↔ fatalStopped s = true ∨ ∃ i < 8, s.fld 0 (Rf.EVT_ALARM_KINDS.at i) ≠ 0 := by
  simp [alertLow, vaonUp, hvaon, mem_range]

theorem cfgDoneLow_iff (hvaon : s.vbat.vaonAbsent = false) :
    cfgDoneLow s = false ↔ s.fld 0 Rf.CFG_STAT_STATE = 2 ∧ alive s = true := by
  simp [cfgDoneLow, vaonUp, hvaon, unreleased, alive_iff, and_assoc]

theorem cfgErrLow_iff (hvaon : s.vbat.vaonAbsent = false) :
    cfgErrLow s = true ↔ s.fld 0 Rf.CFG_STAT_STATE = 3 ∨ s.fld 0 Rf.CFG_STAT_STATE = 4 := by
  simp [cfgErrLow, vaonUp, hvaon]

/-- WDOUT carries its active level in the pulse. -/
theorem pinDrive_wdout_pulse (hfeat : feature s 0 6 = true) (h : s.wdout ≠ none) :
    pinDrive s .wdout = if (s.d 0).hem.control.testBit 14 then .high else .low := by
  have hpulse : s.wdout.isSome = true := Option.isSome_iff_ne_none.2 h
  have hdriven : Ball.wdout.driven = true := rfl
  have hpresent : pinPresent s .wdout = true := hfeat
  simp [pinDrive, hdriven, hpulse, hpresent, wdoutDrive, bit_eq_testBit]

/-- Outside its pulse WDOUT is high-impedance. -/
theorem pinDrive_wdout_idle (h : s.wdout = none) (hir : (s.d 0).tap.ir ∉ [0x000, 0x080]) :
    pinDrive s .wdout = .highZ := by
  obtain ⟨h0, h80⟩ : (s.d 0).tap.ir ≠ 0 ∧ (s.d 0).tap.ir ≠ 0x80 := by simpa using hir
  have hdriven : Ball.wdout.driven = true := rfl
  have htest : pinTested s .wdout = false := by simp [pinTested, Ball.die, h0, h80]
  simp [pinDrive, hdriven, h, htest, pinNormal, wdoutDrive]

/-- A pin that R895 switches off with the device and that is not off shows that the device runs. -/
theorem alive_of_pin_on (hb : b.offUnconfigured = true) (hne : b ≠ .wdout) (hon : pinDrive s b ≠ .highZ) :
    alive s = true := by
  by_contra h
  have hstop : fatalStopped s = true ∨ s.stop.held = true := by
    rw [alive_iff] at h
    simpa [or_comm, imp_iff_not_or] using h
  exact hon (pinDrive_of_off (driven_of_off (.inl hb)) hne (pinOff_of_stopped hstop (.inl hb)))

/-- A laser output takes its level from LASEN, or is off: it has no output cell that a boundary test could drive. -/
theorem pinDrive_laser : (pinDrive s .lasenA = .highZ ∨ pinDrive s .lasenA = lasenDrive s false) ∧
    (pinDrive s .lasenB = .highZ ∨ pinDrive s .lasenB = lasenDrive s true) := by
  have hA : Ball.lasenA.driven = true ∧ Cell.output ∉ Ball.lasenA.cells := ⟨rfl, by decide⟩
  have hB : Ball.lasenB.driven = true ∧ Cell.output ∉ Ball.lasenB.cells := ⟨rfl, by decide⟩
  constructor
  · by_cases hoff : pinOff s .lasenA = true <;> simp [pinDrive, hA, hoff, pinNormal]
  · by_cases hoff : pinOff s .lasenB = true <;> simp [pinDrive, hB, hoff, pinNormal]

/-- The enabled level of a laser output shows LASEN. -/
theorem lasen_of_lasenDrive {v : Bool} (h : lasenDrive s v = if v then .low else .high) :
    s.flag 0 Rf.ILK_STAT_LASEN = true := by
  cases v <;> simp_all [lasenDrive]

theorem laser_enabled (h : pinDrive s .lasenA = .high ∨ pinDrive s .lasenB = .low) :
    s.flag 0 Rf.ILK_STAT_LASEN = true ∧ alive s = true := by
  obtain ⟨hA, hB⟩ := pinDrive_laser (s := s)
  rcases h with h | h
  · rw [h] at hA
    exact ⟨lasen_of_lasenDrive (hA.resolve_left (by decide)).symm, alive_of_pin_on (b := .lasenA) rfl (by decide)
      (by rw [h]; decide)⟩
  · rw [h] at hB
    exact ⟨lasen_of_lasenDrive (hB.resolve_left (by decide)).symm, alive_of_pin_on (b := .lasenB) rfl (by decide)
      (by rw [h]; decide)⟩

/-- What the open-drain pins of the S9 show while no boundary test runs. -/
theorem openDrain_pins (hir : (s.d 0).tap.ir ∉ [0x000, 0x040, 0x080]) (hfeat : feature s 0 6 = true)
    (hvaon : s.vbat.vaonAbsent = false) :
    (pinDrive s .alertN = .low ↔ fatalStopped s = true ∨ ∃ i < 8, s.fld 0 (Rf.EVT_ALARM_KINDS.at i) ≠ 0) ∧
      (pinDrive s .cfgDone = .released ↔ s.fld 0 Rf.CFG_STAT_STATE = 2 ∧ alive s = true) ∧
      (pinDrive s .cfgErr = .low ↔ s.fld 0 Rf.CFG_STAT_STATE = 3 ∨ s.fld 0 Rf.CFG_STAT_STATE = 4) := by
  have hnormal (b : Ball) (hb : b = .alertN ∨ b = .cfgDone ∨ b = .cfgErr) : pinDrive s b = pinNormal s b := by
    refine pinDrive_untested ?_ ?_ ?_ hir (pinOff_openDrain hfeat hb) <;> rcases hb with rfl | rfl | rfl <;>
      simp [Ball.die, Ball.driven]
  rw [hnormal _ (.inl rfl), hnormal _ (.inr (.inl rfl)), hnormal _ (.inr (.inr rfl))]
  exact ⟨(openDrain_low _).trans (alertLow_iff hvaon), (openDrain_released _).trans (cfgDoneLow_iff hvaon),
    (openDrain_low _).trans (cfgErrLow_iff hvaon)⟩

end Sys2Proof.Machine
end

section
/-! What the release of PORN leaves (R903): beside its dies and the open choices a device keeps what a step of the dies
does not reach. -/

namespace Sys2Proof.Machine

/-- The device beside its dies and the count of open choices. -/
def Chip.besideDies (s : Chip) : Chip := { s with die := ⟨{}, {}, {}, {}⟩, free := 0 }

/-- From `s` to `k` only dies have changed, and open choices may have been taken. -/
def DieWork (s k : Chip) : Prop := k.besideDies = s.besideDies

namespace DieWork

variable {s m k : Chip}

theorem refl (s : Chip) : DieWork s s := rfl

theorem trans (h : DieWork s m) (h' : DieWork m k) : DieWork s k := Eq.trans h' h

theorem stop (h : DieWork s k) : k.stop = s.stop := (congrArg Chip.stop h :)

theorem g2pin (h : DieWork s k) : k.g2pin = s.g2pin := (congrArg Chip.g2pin h :)

theorem compat (h : DieWork s k) : k.compat = s.compat := (congrArg Chip.compat h :)

theorem wdout (h : DieWork s k) : k.wdout = s.wdout := (congrArg Chip.wdout h :)

theorem vbat (h : DieWork s k) : k.vbat = s.vbat := (congrArg Chip.vbat h :)

theorem upd (h : DieWork s m) (d : Fin 4) (f : DieSt → DieSt) : DieWork s (m.upd d f) := h.trans rfl

theorem setReg (h : DieWork s m) (d : Fin 4) (j : Nat) (v : Word) : DieWork s (m.setReg d j v) := h.upd ..

theorem setFld (h : DieWork s m) (d : Fin 4) (f : Fld) (v : Nat) : DieWork s (m.setFld d f v) := h.setReg ..

theorem addFld (h : DieWork s m) (d : Fin 4) (f : Fld) (n : Nat) : DieWork s (m.addFld d f n) := h.setFld ..

theorem took (h : DieWork s m) : DieWork s m.took := h.trans rfl

theorem raise (h : DieWork s m) (d : Fin 4) (src kind : Nat) (t : Fin 256) (pay : Nat) :
    DieWork s (raise m d src kind t pay) := (h.addFld ..).upd ..

theorem guarded {p : Prop} [Decidable p] (h : DieWork s m) (h' : DieWork s k) : DieWork s (if p then m else k) := by
  split
  · exact h
  · exact h'

theorem overAll {α : Type} {f : Chip → α → Chip} (l : List α) (h : DieWork s m)
    (hf : ∀ n a, DieWork s n → DieWork s (f n a)) : DieWork s (overAll f m l) := overAll_keeps (DieWork s) f hf m l h

theorem loadTrims (h : DieWork s m) (d : Fin 4) : DieWork s (loadTrims m d) :=
  (overAll _ h fun _ _ hn => hn.setFld ..).setFld ..

/-- The alarm of a sensing that found failed rows. -/
theorem hemAlarm (h : DieWork s m) (d : Fin 4) (failed : List Nat) : DieWork s (match failed with
    | [] => m
    | r :: _ => Machine.raise m d 0x240 K.HEMALARM 0
      (r + failKinds failed * 2 ^ 9 + min failed.length 255 * 2 ^ 16)) := by
  split
  · exact h
  · exact h.raise ..

theorem senseDie (h : DieWork s m) (found : List HemFinding) (d : Fin 4) : DieWork s (senseDie m found d) := by
  unfold Machine.senseDie
  extract_lets _ _ _ _ _ _ m1 _ m2 m3 m4 m5 m6 m7 m8 m9 m10 m11
  have h6 : DieWork s m6 := (((((h.upd ..).setFld ..).setFld ..).setFld ..).setFld ..).setFld ..
  have h11 : DieWork s m11 := ((((h6.setFld ..).setFld ..).setFld ..).setFld ..).setFld ..
  refine overAll _ ?_ fun _ _ hn => hn.raise ..
  refine hemAlarm (.guarded ?_ (h11.loadTrims ..)) ..
  exact (((h11.loadTrims ..).setFld ..).setFld ..).setFld ..

theorem senseAll (h : DieWork s m) (found : List HemFinding) : DieWork s (senseAll m found) :=
  overAll _ h fun _ _ hn => hn.senseDie ..

end DieWork

variable {s : Chip}

/-- What PORN leaves beside the dies (R427, R663, R851). -/
theorem pornAll_keeps (s : Chip) :
    (pornAll s).vbat = s.vbat ∧ (pornAll s).aol = s.aol ∧ (pornAll s).ilk = s.ilk ∧ (pornAll s).trace = s.trace ∧
      (pornAll s).free = s.free ∧ (pornAll s).wdout = s.wdout := by
  simp [pornAll]

/-- The device `k` that a release of PORN starts, beside its Hem: it runs, and shows the load source it has sampled. -/
structure Started (g2 : Bool) (bootsel : Fin 4) (w : Option Nat) (k : Chip) : Prop where
  stop : k.stop = {}
  g2pin : k.g2pin = g2
  compat : k.compat = if g2 then 63 else 0
  wdout : k.wdout = w
  boot : k.fld 0 Rf.CFG_STAT_BOOTSEL = bootsel.val
  state : k.fld 0 Rf.CFG_STAT_STATE = b2n (bootsel == 0)

namespace Started

variable {g2 : Bool} {bootsel : Fin 4} {w : Option Nat} {m k : Chip}

theorem alive (h : Started g2 bootsel w k) : alive k = true := by rw [Machine.alive, h.stop]; rfl

theorem raise (h : Started g2 bootsel w k) {kind : Nat} (src pay : Nat)
    (hk : Rf.CFG_STAT_BOOTSEL.key ≠ (Rf.EVT_KCOUNT_COUNT.at kind).key) :
    Started g2 bootsel w (raise k 0 src kind 0 pay) :=
  have hwork := (DieWork.refl k).raise 0 src kind 0 pay
  { stop := hwork.stop.trans h.stop
    g2pin := hwork.g2pin.trans h.g2pin
    compat := hwork.compat.trans h.compat
    wdout := hwork.wdout.trans h.wdout
    boot := (fld_raise _ _ _ _ _ _ _ hk).trans h.boot
    state := (fld_raise (f := Rf.CFG_STAT_STATE) _ _ _ _ _ _ _ hk).trans h.state }

theorem vbat (h : Started g2 bootsel w k) (v : VbatSt) : Started g2 bootsel w { k with vbat := v } :=
  ⟨h.stop, h.g2pin, h.compat, h.wdout, h.boot, h.state⟩

/-- The load source and the state of the load are stored. -/
theorem of_stored (hwork : DieWork m k) (hstop : m.stop = {}) (hg2 : m.g2pin = g2)
    (hcompat : m.compat = if g2 then 63 else 0) :
    Started g2 bootsel m.wdout
      ((k.setFld 0 Rf.CFG_STAT_BOOTSEL bootsel.val).setFld 0 Rf.CFG_STAT_STATE (b2n (bootsel == 0))) :=
  have hset := (hwork.setFld 0 Rf.CFG_STAT_BOOTSEL bootsel.val).setFld 0 Rf.CFG_STAT_STATE (b2n (bootsel == 0))
  { stop := hset.stop.trans hstop
    g2pin := hset.g2pin.trans hg2
    compat := hset.compat.trans hcompat
    wdout := hset.wdout
    boot := (Chip.fld_setFld_apart _ _ (by decide) (by decide)).trans
      ((Chip.fld_setFld_same k _ _ _ (by decide)).trans (Nat.mod_eq_of_lt bootsel.isLt))
    state := (Chip.fld_setFld_same _ _ _ _ (by decide)).trans (Nat.mod_eq_of_lt ((b2n_lt _).trans (by decide))) }

end Started

/-- PORN's release starts the device (R31, R903). -/
theorem started_pornStart (g2 : Bool) (bootsel : Fin 4) (found : List HemFinding) (s : Chip) :
    Started g2 bootsel s.wdout (pornStart g2 bootsel found s) := by
  unfold pornStart
  extract_lets _ m sensed k w2 v
  have hk : Started g2 bootsel m.wdout k := .of_stored ((DieWork.refl m).senseAll found) rfl rfl rfl
  obtain ⟨_, _, _, _, _, hwdout⟩ := pornAll_keeps s
  rw [show m.wdout = s.wdout from hwdout] at hk
  clear_value k
  split
  · exact (hk.vbat _).raise _ _ (by decide)
  · exact hk

end Sys2Proof.Machine
end

section
/-! Resets of maps and register files: what every entry satisfies goes through a reset of each entry. -/

namespace Sys2Proof.Machine

section Entries

variable {α : Type} [DecidableEq α] {dflt : Nat → α} {m : SMap α} {P : Nat × α → Prop}

theorem of_mem_mapEach {f : Nat → α → α} {e : Nat × α} (h : e ∈ mapEach dflt f m) :
    ∃ v, (e.1, v) ∈ m ∧ e.2 = f e.1 v := by
  induction m with
  | nil => cases h
  | cons x m ih =>
    obtain ⟨k, v⟩ := x
    have hrest (h' : e ∈ mapEach dflt f m) : ∃ v', (e.1, v') ∈ (k, v) :: m ∧ e.2 = f e.1 v' := by
      obtain ⟨v', hmem, heq⟩ := ih h'
      exact ⟨v', .tail _ hmem, heq⟩
    rw [mapEach] at h
    split at h
    · exact hrest h
    · rcases List.mem_cons.1 h with rfl | h'
      · exact ⟨v, .head _, rfl⟩
      · exact hrest h'

omit [DecidableEq α] in
theorem of_mem_mapErase {k : Nat} {e : Nat × α} (h : e ∈ mapErase m k) : e ∈ m := by
  induction m with
  | nil => cases h
  | cons x m ih =>
    obtain ⟨k', v⟩ := x
    rw [mapErase] at h
    split at h
    · exact .tail _ (ih h)
    · rcases List.mem_cons.1 h with rfl | h'
      · exact .head _
      · exact .tail _ (ih h')

omit [DecidableEq α] in
theorem of_mem_mapInsert {k : Nat} {v : α} {e : Nat × α} (h : e ∈ mapInsert m k v) : e = (k, v) ∨ e ∈ m := by
  induction m with
  | nil => exact .inl (List.mem_singleton.1 h)
  | cons x m ih =>
    obtain ⟨k', v'⟩ := x
    rw [mapInsert] at h
    split at h
    · exact List.mem_cons.1 h
    · rcases List.mem_cons.1 h with rfl | h'
      · exact .inr (.head _)
      · exact (ih h').imp_right (.tail _)

/-- After a write every entry of its key holds what was written. -/
theorem of_mem_mapPut {k : Nat} {v : α} {e : Nat × α} (h : e ∈ mapPut dflt m k v) : e = (k, v) ∨ e ∈ m ∧ e.1 ≠ k := by
  have herased (h' : e ∈ mapErase m k) : e ∈ m ∧ e.1 ≠ k := ⟨of_mem_mapErase h', mapErase_keys m k e h'⟩
  rw [mapPut] at h
  split at h
  · exact .inr (herased h)
  · exact (of_mem_mapInsert h).imp_right herased

omit [DecidableEq α] in
/-- What every entry satisfies, and the value of an unlisted key, a read satisfies. -/
theorem mapGet_of_entries {P : α → Prop} {k : Nat} (hd : P (dflt k)) (h : ∀ e ∈ m, e.1 = k → P e.2) :
    P (mapGet dflt m k) := by
  induction m with
  | nil => exact hd
  | cons e m ih =>
    rw [mapGet]
    split
    · exact h e (.head _) (by assumption)
    · exact ih fun e' he' => h e' (.tail _ he')

end Entries

/-- After a write every entry of its register holds what was written. -/
theorem entries_setReg (s : Chip) (d : Fin 4) (j : Nat) (v : Word) :
    ∀ e ∈ ((s.setReg d j v).d d).regs, e.1 = j → e.2 = v := by
  intro e he hk
  rw [Chip.setReg, Chip.d_upd_same] at he
  rcases of_mem_mapPut he with rfl | ⟨_, hne⟩
  · rfl
  · exact absurd hk hne

/-- A reset leaves the bits that no field it names holds. -/
theorem getBits_resetField {p : Rst → Bool} {fs : List FieldSpec} (w : Word) {lo n : Nat}
    (h : ∀ f ∈ fs, p f.rst = true → f.lo + f.w ≤ 32 ∧ (lo + n ≤ f.lo ∨ f.lo + f.w ≤ lo)) :
    getBits (resetField p fs w) lo n = getBits w lo n := by
  induction fs generalizing w with
  | nil => rfl
  | cons f fs ih =>
    rw [resetField, ih _ fun f' hf' => h f' (.tail _ hf')]
    split
    · obtain ⟨h32, hd⟩ := h f (.head _) (by assumption)
      exact getBits_putBits_ne _ _ h32 hd
    · rfl

/-- What holds at the start and survives `f` at every element holds after `f` has run over a list. -/
theorem overAll_keeps_mem {β : Type} (P : Chip → Prop) {f : Chip → β → Chip} {l : List β}
    (hf : ∀ s, ∀ a ∈ l, P s → P (f s a)) {s : Chip} (hs : P s) : P (overAll f s l) := by
  induction l generalizing s with
  | nil => exact hs
  | cons a l ih => exact ih (fun s b hb => hf s b (.tail _ hb)) (hf s a (.head _) hs)

/-! ### The laser enable through a reset (R467, R905) -/

/-- Every entry that the register file of die 0 has for ILK.STAT shows LASEN 0. -/
def Dark (s : Chip) : Prop := ∀ e ∈ (s.d 0).regs, e.1 = Rf.ILK_STAT_LASEN.key → getBits e.2 5 1 = 0

namespace Dark

variable {s : Chip}

theorem lasen (h : Dark s) : s.fld 0 Rf.ILK_STAT_LASEN = 0 :=
  mapGet_of_entries (P := fun w => getBits w 5 1 = 0) (by decide) h

theorem setReg_other (h : Dark s) (d : Fin 4) {j : Nat} (hj : j ≠ Rf.ILK_STAT_LASEN.key) (v : Word) :
    Dark (s.setReg d j v) := by
  intro e he hk
  rw [Chip.setReg, Chip.d_upd] at he
  split at he
  · subst d
    rcases of_mem_mapPut he with rfl | ⟨he', _⟩
    · exact absurd hk hj
    · exact h e he' hk
  · exact h e he hk

theorem setFld_other (h : Dark s) (d : Fin 4) (v : Nat) {f : Fld} (hf : f.key ≠ Rf.ILK_STAT_LASEN.key) :
    Dark (s.setFld d f v) := h.setReg_other d hf _

/-- A write of ILK.STAT that leaves LASEN 0. -/
theorem of_setReg {v : Word} (hv : getBits v 5 1 = 0) : Dark (s.setReg 0 Rf.ILK_STAT_LASEN.key v) := by
  intro e he hk
  rw [entries_setReg s 0 _ v e he hk]
  exact hv

theorem setCap (h : Dark s) (d : Fin 4) (ch : Nat) (c : Option Capture) : Dark (s.setCap d ch c) := by
  intro e he hk
  rw [Chip.setCap, Chip.d_upd] at he
  split at he
  · subst d; exact h e he hk
  · exact h e he hk

/-- A reset of registers leaves LASEN, which no reset but PORN's own rule names. -/
theorem resetRegs {x : DieSt} {keep : Nat → Bool} {p : Rst → Bool} (hp : p .none = false)
    (h : ∀ e ∈ x.regs, e.1 = Rf.ILK_STAT_LASEN.key → getBits e.2 5 1 = 0) :
    ∀ e ∈ resetRegs keep p x.regs, e.1 = Rf.ILK_STAT_LASEN.key → getBits e.2 5 1 = 0 := by
  intro e he hk
  obtain ⟨v, hmem, hv⟩ := of_mem_mapEach he
  have hold := h _ hmem hk
  rw [hv, hk]
  split
  · exact hold
  · have hreg : regAt Rf.ILK_STAT_LASEN.key = some regsILK[3] := by decide
    have hnone : ∀ f ∈ regsILK[3].fields, f.rst ≠ .none → f.lo + f.w ≤ 32 ∧ (5 + 1 ≤ f.lo ∨ f.lo + f.w ≤ 5) := by decide
    simp only [resetWord, hreg]
    rw [getBits_resetField _ fun f hf hpf => hnone f hf fun hrst => by simp [hrst, hp] at hpf]
    exact hold

theorem disarmLaser (s : Chip) : Dark (disarmLaser s) := by
  unfold Machine.disarmLaser laserOff
  split
  · refine overAll_keeps Dark _ (fun m ch hm => ?_) _ _ (of_setReg (getBits_putBits_same _ _ _ _ (by decide)))
    split
    · split
      · exact hm.setCap 0 ch _
      · exact hm
    · exact hm
  · have hoff := Chip.fld_of_not_flag rfl ‹_›
    refine of_setReg (.trans ?_ hoff)
    exact congrArg (getBits · 5 1) (Chip.reg_setReg_same ..).symm

end Dark

/-! ### What SRST leaves (R277, R427, R905) -/

/-- No tick, program or basted word is left on a die. -/
structure Quiet (x : DieSt) : Prop where
  phase : x.tick.phase = .idle
  yoke : x.yoke.run = false
  mem : ∀ m, ∀ e ∈ x.mem m, e.2.tag = .committed
  clusters : ∀ e ∈ x.clusters, e.2.st = .idle

theorem tag_untag (keep : Bool) (w : MWord) : (untag keep w).tag = .committed := by
  unfold untag
  cases w.tag <;> cases w.shadow <;> cases keep <;> rfl

namespace Quiet

variable {x : DieSt}

theorem srstDie (keep : Bool) (x : DieSt) : Quiet (srstDie keep x) where
  phase := rfl
  yoke := rfl
  mem m e he := by
    have huntag (l : SMap MWord) (h : e ∈ mapEach word0 (fun _ w => untag keep w) l) : e.2.tag = .committed := by
      obtain ⟨v, _, hv⟩ := of_mem_mapEach h
      rw [hv]
      exact tag_untag keep v
    cases m <;> exact huntag _ he
  clusters e he := by
    obtain ⟨v, _, hv⟩ := of_mem_mapEach he
    rw [hv]
    rfl

theorem clearDie (h : Quiet x) : Quiet (clearDie x) where
  phase := h.phase
  yoke := h.yoke
  mem m e he := by
    cases m with
    | spad =>
      obtain ⟨v, hmem, hv⟩ := of_mem_mapEach he
      rw [hv]
      exact h.mem .spad _ hmem
    | lining => exact h.mem .lining e he
    | cst | bmem => cases he
  clusters := h.clusters

/-- The key words leave the Lining. -/
theorem filterLining (h : Quiet x) (p : Nat × MWord → Bool) : Quiet { x with lining := x.lining.filter p } where
  phase := h.phase
  yoke := h.yoke
  mem m e he := by
    cases m with
    | spad => exact h.mem .spad e he
    | cst => exact h.mem .cst e he
    | bmem => exact h.mem .bmem e he
    | lining => exact h.mem .lining e (List.mem_of_mem_filter he)
  clusters := h.clusters

theorem regs (h : Quiet x) (r : SMap Word) : Quiet { x with regs := r } where
  phase := h.phase
  yoke := h.yoke
  mem m := by
    rw [show DieSt.mem { x with regs := r } m = x.mem m by cases m <;> rfl]
    exact h.mem m
  clusters := h.clusters

end Quiet

/-- The device `s` as SRST leaves it, stopped for the causes `st`. -/
structure SrstHeld (st : StopSt) (s : Chip) : Prop where
  stop : s.stop = st
  hosts : s.hosts = []
  remotes : s.remotes = []
  quiet : ∀ d, Quiet (s.d d)
  dark : Dark s

namespace SrstHeld

variable {st : StopSt} {s : Chip}

theorem setFld (h : SrstHeld st s) (d : Fin 4) (v : Nat) {f : Fld} (hf : f.key ≠ Rf.ILK_STAT_LASEN.key) :
    SrstHeld st (s.setFld d f v) where
  stop := (Chip.stop_setFld ..).trans h.stop
  hosts := (Chip.hosts_setFld ..).trans h.hosts
  remotes := (Chip.remotes_setFld ..).trans h.remotes
  quiet e := by
    rw [Chip.setFld, Chip.d_setReg]
    exact (h.quiet e).regs _
  dark := h.dark.setFld_other d v hf

theorem loadTrims (h : SrstHeld st s) (d : Fin 4) : SrstHeld st (loadTrims s d) := by
  unfold Machine.loadTrims
  extract_lets hem m
  refine setFld (overAll_keeps_mem (SrstHeld st) (fun n k hk hn => ?_) h) d _ (by decide)
  refine hn.setFld d _ ?_
  have hlt := (mem_range.1 hk).2
  simp only [Fld.key, Fld.at, Rf.LEDGER_CAL_FACTOR, Rf.ILK_STAT_LASEN]
  omega

theorem cfgClear (h : SrstHeld st s) : SrstHeld st (cfgClear s) := by
  unfold Machine.cfgClear
  extract_lets m
  have hm : SrstHeld st m :=
    { stop := h.stop
      hosts := h.hosts
      remotes := h.remotes
      quiet := fun d => by
        rw [Chip.d, Quad.get_map]
        exact (h.quiet d).clearDie
      dark := by
        rw [Dark, Chip.d, Quad.get_map]
        exact Dark.resetRegs rfl h.dark }
  exact overAll_keeps (SrstHeld st) _ (fun _ d hn => hn.loadTrims d) _ _ hm

theorem zeroKey (h : SrstHeld st s) : SrstHeld st (zeroKey s) where
  stop := h.stop
  hosts := h.hosts
  remotes := h.remotes
  quiet e := by
    rw [Machine.zeroKey, Chip.d_upd]
    split
    · exact (h.quiet 0).filterLining _
    · exact h.quiet e
  dark := by
    rw [Dark, Machine.zeroKey, Chip.d_upd_same]
    exact h.dark

theorem setCfg (h : SrstHeld st s) (c : CfgLoad) : SrstHeld st { s with cfg := c } :=
  ⟨h.stop, h.hosts, h.remotes, h.quiet, h.dark⟩

/-- The registers of the load are reset. -/
theorem resetLoad (h : SrstHeld st s) (keep : Nat → Bool) :
    SrstHeld st (s.upd 0 fun x => { x with regs := resetRegs keep (fun r => r == .porn) x.regs }) where
  stop := h.stop
  hosts := h.hosts
  remotes := h.remotes
  quiet e := by
    rw [Chip.d_upd]
    split
    · exact (h.quiet 0).regs _
    · exact h.quiet e
  dark := by
    rw [Dark, Chip.d_upd_same]
    exact Dark.resetRegs rfl h.dark

theorem srstLoad (h : SrstHeld st s) : SrstHeld st (srstLoad s) := by
  unfold Machine.srstLoad
  split
  · extract_lets boot checked m1 m2 m3 m4
    have h1 : SrstHeld st m1 := by
      unfold m1
      split
      · exact h
      · exact h.zeroKey
    have h4 : SrstHeld st m4 := (h1.cfgClear.setCfg _).resetLoad _
    exact (h4.setFld 0 _ (by decide)).setFld 0 _ (by decide)
  · exact h

end SrstHeld

namespace DieWork

variable {s m k : Chip}

theorem dramEvent (h : DieWork s m) (d : Fin 4) (kind chip syms src off : Nat) :
    DieWork s (dramEvent m d kind chip syms src off) :=
  ((((h.setFld ..).setFld ..).setFld ..).setFld ..).raise ..

theorem uncorrectable (h : DieWork s m) (d : Fin 4) (g src off : Nat) : DieWork s (uncorrectable m d g src off) :=
  ((h.upd ..).addFld ..).dramEvent ..

/-- A granule read without wrong symbols. -/
theorem decodeGran (h : DieWork s m) (d : Fin 4) (g src off : Nat) : DieWork s (decodeGran m d g src off []).1 := by
  have hclean (n : Chip) : decodeErrs n d [] = .clean := rfl
  unfold Machine.decodeGran
  split
  · exact h
  split
  · split
    · exact h
    · exact (h.addFld ..).dramEvent ..
  split
  · exact h.took.uncorrectable ..
  simp only [hclean]
  exact .guarded h.took h

theorem flushEntry (h : DieWork s m) (d : Fin 4) (e : MergeEnt) : DieWork s (flushEntry m d [] e) := by
  unfold Machine.flushEntry
  simp only [errsOf_nil]
  exact .guarded (.guarded (((h.upd ..).decodeGran ..).upd ..) ((h.upd ..).decodeGran ..)) ((h.upd ..).upd ..)

theorem fenceFlush (h : DieWork s m) (d : Fin 4) : DieWork s (fenceFlush m d) :=
  overAll _ h fun _ _ hn => .guarded (overAll _ hn fun _ _ hq => hq.flushEntry ..) hn

theorem reloadsStop (h : DieWork s m) (d : Fin 4) : DieWork s (reloadsStop m d) :=
  overAll _ (h.upd ..) fun _ _ hn => hn.setFld ..

theorem passAbandon (h : DieWork s m) (d : Fin 4) : DieWork s (passAbandon m d) := h.upd ..

theorem laserOff (h : DieWork s m) : DieWork s (laserOff m) := by
  unfold Machine.laserOff
  split
  · refine overAll _ (h.setFld ..) fun n ch hn => ?_
    split
    · exact .guarded (hn.upd ..) hn
    · exact hn
  · exact h

theorem disarmLaser (h : DieWork s m) : DieWork s (disarmLaser m) := laserOff (h.setFld ..)

theorem passIdle (h : DieWork s m) (d : Fin 4) : DieWork s (passIdle m d) :=
  .guarded h (.guarded h (((h.upd ..).setFld ..).setFld ..))

end DieWork

/-- SRST ends what the device does, and holds it beside the stops in force. -/
theorem srstHeld_srstBegin (s : Chip) : SrstHeld { s.stop with srst := true } (srstBegin s) := by
  unfold srstBegin
  extract_lets _ m1 m2 keep m3 m4 _ m5
  have hm3 : DieWork s m3 :=
    (DieWork.overAll dies (DieWork.overAll dies (DieWork.refl s) fun _ _ hn => hn.fenceFlush _) fun _ _ hn =>
      (hn.reloadsStop _).passAbandon _).took.disarmLaser
  have hdark : Dark m3 := .disarmLaser _
  have hm5 : SrstHeld { s.stop with srst := true } m5 :=
    { stop := by rw [← hm3.stop]
      hosts := rfl
      remotes := rfl
      quiet := fun d => by
        rw [Chip.d, Quad.get_map]
        exact .srstDie ..
      dark := by
        rw [Dark, Chip.d, Quad.get_map]
        exact Dark.resetRegs rfl hdark }
  clear_value m5
  exact ((hm5.setFld 0 _ (by decide)).setFld 0 _ (by decide)).srstLoad

end Sys2Proof.Machine
end

section
/-! PORN, SRST, PERST_N, the PCI Express link and DBG_PORN (R172, R852, R903 to R907): what each leaves of the
device. -/

namespace Sys2Proof.Machine

variable {s : Chip}

/-! ### PORN -/

/-- Where a step at an element makes that element's property, and no later step ends it, every element has it. -/
theorem overAll_makes {β : Type} {P : β → Chip → Prop} {f : Chip → β → Chip} {l : List β}
    (hmade : ∀ s, ∀ a ∈ l, P a (f s a)) (hkept : ∀ s, ∀ a ∈ l, ∀ b ∈ l, P b s → P b (f s a)) (s : Chip) :
    ∀ b ∈ l, P b (overAll f s l) := by
  have hlist (l' : List β) (hsub : l' ⊆ l) (s : Chip) (b : β) (hb : b ∈ l) (h : b ∈ l' ∨ P b s) :
      P b (overAll f s l') := by
    induction l' generalizing s with
    | nil => exact h.resolve_left List.not_mem_nil
    | cons a l' ih =>
      obtain ⟨ha, hsub'⟩ := List.cons_subset.1 hsub
      refine ih hsub' _ ?_
      rcases h with h | h
      · rcases List.mem_cons.1 h with rfl | h'
        · exact .inr (hmade _ _ ha)
        · exact .inl h'
      · exact .inr (hkept _ _ ha _ hb h)
  exact fun b hb => hlist l (List.Subset.refl l) s b hb (.inl hb)

theorem mem_dies (d : Fin 4) : d ∈ dies := by fin_cases d <;> decide

/-- A die that PORN has reset, beside its registers. -/
theorem die_pornAll (s : Chip) (d : Fin 4) :
    (pornAll s).d d = { pornDie (s.d d) with regs := ((pornAll s).d d).regs } := by
  unfold pornAll
  extract_lets m
  have hm : m.d d = pornDie (s.d d) := Quad.get_map ..
  rw [Chip.setFld, Chip.d_setReg, hm]

theorem lasen_pornAll (s : Chip) : (pornAll s).fld 0 Rf.ILK_STAT_LASEN = 0 := Chip.fld_setFld_same _ _ _ _ (by decide)

theorem work_pornAll (s : Chip) : (pornAll s).hosts = [] ∧ (pornAll s).remotes = [] := by simp [pornAll]

/-- PORN holds the device, and leaves the interlock, the VBAT domain, the always-on log and trace (R427, R903). -/
theorem holdReset_spec (s : Chip) (d : Fin 4) :
    (alive (holdReset s) = false ∧ (holdReset s).stop.held = true ∧ (holdReset s).fld 0 Rf.ILK_STAT_LASEN = 0 ∧
      (holdReset s).hosts = [] ∧ (holdReset s).remotes = []) ∧
    (holdReset s).d d = { pornDie (s.d d) with regs := ((holdReset s).d d).regs } ∧
    (holdReset s).vbat = s.vbat ∧ (holdReset s).aol = s.aol ∧ (holdReset s).ilk = s.ilk ∧
      (holdReset s).trace = s.trace ∧ (holdReset s).free = s.free := by
  unfold holdReset
  extract_lets m
  obtain ⟨hvbat, haol, hilk, htrace, hfree, _⟩ := pornAll_keeps s
  obtain ⟨hhosts, hremotes⟩ := work_pornAll s
  exact ⟨⟨rfl, rfl, lasen_pornAll s, hhosts, hremotes⟩, die_pornAll s d, hvbat, haol, hilk, htrace, hfree⟩

theorem pornFall_long {ns : Nat} (h : 10000 ≤ ns) (s : Chip) : pornFall ns s = holdReset s := by
  have hopen : ¬ (1000 < ns ∧ ns < 10000) := by omega
  simp [pornFall, h, hopen]

theorem pornFall_short {ns : Nat} (h : ns ≤ 1000) (s : Chip) : pornFall ns s = s := by
  have hopen : ¬ (1000 < ns ∧ ns < 10000) := by omega
  have hacts : ¬ 10000 ≤ ns := by omega
  simp [pornFall, hacts, hopen]

/-! ### SRST -/

theorem srstNFall_long {ns : Nat} (hal : alive s = true) (h : 1000 ≤ ns) : srstNFall ns s = srstBegin s := by
  have hopen : ¬ (100 < ns ∧ ns < 1000) := by omega
  simp [srstNFall, hal, h, hopen]

theorem srstNFall_none {ns : Nat} (h : alive s = false ∨ ns ≤ 100) : srstNFall ns s = s := by
  by_cases hal : alive s = true
  · have hns : ns ≤ 100 := h.resolve_left (by simp [hal])
    have hopen : ¬ (100 < ns ∧ ns < 1000) := by omega
    have hacts : ¬ 1000 ≤ ns := by omega
    simp [srstNFall, hacts, hopen]
  · simp [srstNFall, hal]

namespace SrstHeld

variable {st : StopSt}

theorem word (h : SrstHeld st s) (d : Fin 4) (m : Mem) (i : Nat) : (s.word d m i).tag = .committed :=
  mapGet_of_entries (P := fun w : MWord => w.tag = .committed) rfl fun e he _ => (h.quiet d).mem m e he

theorem cluster (h : SrstHeld st s) (d : Fin 4) (i : Nat) : (s.cluster d i).st = .idle :=
  mapGet_of_entries (P := fun x : Cluster => x.st = .idle) rfl fun e he _ => (h.quiet d).clusters e he

end SrstHeld

theorem srstEnd_spec (h : s.stop.srst = true) : (srstEnd s).stop.srst = false ∧ (srstEnd s).vbat = s.vbat := by
  have hwork : DieWork { s with stop := { s.stop with srst := false } } (srstEnd s) := by
    rw [srstEnd, if_pos h]
    exact .overAll _ (.refl _) fun _ _ hn => hn.passIdle _
  exact ⟨congrArg StopSt.srst hwork.stop, hwork.vbat⟩

/-! ### PERST_N and the link -/

theorem fld_linkDown (s : Chip) : (linkDown s).fld 0 Rf.HOST_LINK_UP = 0 := by
  rw [linkDown, Chip.fld, Chip.reg_setReg_same]
  rfl

theorem pcieLinkUp_eq {width : BitVec 3} {speed : BitVec 2} (hperst : s.perst = false) (hal : alive s = true)
    (hrail : s.fld 0 Rf.PWR_RAIL_VHOST = 1) (hw : width.toNat ∈ [1, 2, 4]) (hspeed : speed ≠ 0) :
    pcieLinkUp width speed s =
      ((s.setFld 0 Rf.HOST_LINK_WIDTH width.toNat).setFld 0 Rf.HOST_LINK_SPEED speed.toNat).setFld 0 Rf.HOST_LINK_UP
        1 := by
  have hflag : s.flag 0 Rf.PWR_RAIL_VHOST = true := by simp [Chip.flag, hrail]
  have hspeed' : speed.toNat ≠ 0 := fun h => hspeed (BitVec.eq_of_toNat_eq h)
  have hwidth : (width.toNat != 1 && width.toNat != 2 && width.toNat != 4) = false := by
    simp only [List.mem_cons, List.not_mem_nil, or_false] at hw
    rcases hw with hw | hw | hw <;> simp [hw]
  simp only [pcieLinkUp, hal, hperst, hflag, hwidth, Bool.not_true, Bool.false_or, beq_eq_false_iff_ne.2 hspeed']
  rfl

/-! ### DBG_PORN -/

/-- No halt is left on a die. -/
structure HaltsEnded (x : DieSt) : Prop where
  yoke : x.yoke.halted = false
  clusters : ∀ e ∈ x.clusters, e.2.st ≠ .halted

theorem haltsEnded_endHalts (s : Chip) (d : Fin 4) : HaltsEnded ((endHalts s d).d d) := by
  rw [endHalts, Chip.d_upd_same]
  refine ⟨rfl, fun e he => ?_⟩
  obtain ⟨v, _, hv⟩ := of_mem_mapEach he
  rw [hv]
  split
  · simp
  · assumption

theorem haltsEnded_all (s : Chip) (d : Fin 4) : HaltsEnded ((overAll endHalts s dies).d d) := by
  refine overAll_makes (P := fun d s => HaltsEnded (s.d d)) (fun s d _ => haltsEnded_endHalts s d)
    (fun s d _ e _ h => ?_) s d (mem_dies d)
  by_cases he : e = d
  · subst e
    exact haltsEnded_endHalts s d
  · rw [endHalts, Chip.d_upd_ne _ _ he]
    exact h

/-- A die whose debug domain is reset once its halts have ended. -/
def debugDie (x : DieSt) : DieSt :=
  { x with regs := resetRegs (fun k => k / 1048576 != 0x16) (fun r => r == Rst.none) x.regs, dbg := none, tap := {} }

/-- The device whose debug domains are reset, beside trace and the authentication in progress. -/
def authCleared (s : Chip) : Chip :=
  let s := { overAll endHalts s dies with die := (overAll endHalts s dies).die.map debugDie }
  ((s.setFld 0 Rf.PLACKET_AUTH_STAT_AUTHED 0).setFld 0 Rf.PLACKET_AUTH_STAT_CHALVALID 0).setFld 0 Rf.PLACKET_AUTH_STAT_BUSY
    0

theorem debugReset_eq (s : Chip) : debugReset s = { authCleared s with trace := {}, auth := none } := rfl

theorem die_debugReset (s : Chip) : (debugReset s).die = (authCleared s).die := by rw [debugReset_eq]

theorem die_authCleared (s : Chip) (d : Fin 4) :
    (authCleared s).d d = { debugDie ((overAll endHalts s dies).d d) with regs := ((authCleared s).d d).regs } := by
  unfold authCleared
  extract_lets _ m
  have hm : m.d d = debugDie ((overAll endHalts s dies).d d) := Quad.get_map ..
  clear_value m
  simp only [Chip.setFld]
  rw [Chip.d_setReg, Chip.d_setReg, Chip.d_setReg, hm]

theorem authed_authCleared (s : Chip) : (authCleared s).fld 0 Rf.PLACKET_AUTH_STAT_AUTHED = 0 := by
  unfold authCleared
  extract_lets _ m
  clear_value m
  rw [Chip.fld_setFld_apart _ _ (by decide) (by decide), Chip.fld_setFld_apart _ _ (by decide) (by decide)]
  exact Chip.fld_setFld_same _ _ _ _ (by decide)

/-- DBG_PORN leaves no authentication, no trace and no halt (R852). -/
theorem debugReset_spec (s : Chip) (d : Fin 4) (i : Nat) :
    authed (debugReset s) = false ∧ (debugReset s).trace = {} ∧ ((debugReset s).d d).yoke.halted = false ∧
      ((debugReset s).d d).dbg = none ∧ ((debugReset s).d d).tap = {} ∧ ((debugReset s).cluster d i).st ≠ .halted := by
  have hdie : (debugReset s).d d = (authCleared s).d d := congrArg (·.get d) (die_debugReset s)
  have hfld : (debugReset s).fld 0 Rf.PLACKET_AUTH_STAT_AUTHED = 0 :=
    (Chip.fld_of_die (die_debugReset s) 0 _).trans (authed_authCleared s)
  obtain ⟨hyoke, hclusters⟩ := haltsEnded_all s d
  rw [Chip.cluster, hdie, die_authCleared]
  exact ⟨by simp [authed, Chip.flag, hfld], rfl, hyoke, rfl, rfl,
    mapGet_of_entries (P := fun x : Cluster => x.st ≠ .halted)
      (show CState.idle ≠ .halted by decide) fun e he _ => hclusters e he⟩

end Sys2Proof.Machine

namespace Sys2Proof.Says

open Sys2Proof.Machine

variable {s : State}

theorem reaches_pornFall {ns : Nat} (h : 10000 ≤ ns) (d : Fin 4) :
    Reaches (.pornFall ns) s fun k =>
      alive k = false ∧ k.stop.held = true ∧ k.fld 0 Rf.ILK_STAT_LASEN = 0 ∧ k.hosts = [] ∧ k.remotes = [] ∧
        (k.d d).yoke = {} ∧ (k.d d).clusters = [] ∧ (k.d d).tick.phase = .idle ∧ (k.d d).hem = (s.chip.d d).hem ∧
        (k.d d).dram.cells = [] ∧ k.vbat = s.chip.vbat ∧ k.aol = s.chip.aol ∧ k.ilk = s.chip.ilk ∧
        k.trace = s.chip.trace ∧ k.free = s.chip.free := by
  obtain ⟨⟨hal, hheld, hlasen, hhosts, hremotes⟩, hdie, hkept⟩ := holdReset_spec s.chip d
  refine .of_effect rfl (pornFall_long h _) ⟨hal, hheld, hlasen, hhosts, hremotes, ?_⟩
  rw [hdie]
  exact ⟨rfl, rfl, rfl, rfl, rfl, hkept⟩

theorem reaches_srst {ns : Nat} (hal : alive s.chip = true) (h : 1000 ≤ ns) (d : Fin 4) (m : Mem) (i : Nat) :
    Reaches (.srstNFall ns) s fun k =>
      k.stop.srst = true ∧ alive k = true ∧ (k.d d).tick.phase = .idle ∧ (k.d d).yoke.run = false ∧ k.hosts = [] ∧
        k.remotes = [] ∧ (k.word d m i).tag = .committed ∧ (k.cluster d i).st = .idle ∧
        k.fld 0 Rf.ILK_STAT_LASEN = 0 := by
  have hk := srstHeld_srstBegin s.chip
  have halive : alive (srstBegin s.chip) = true := by rw [alive, hk.stop]; exact hal
  exact .of_effect rfl (srstNFall_long hal h) ⟨by rw [hk.stop], halive, (hk.quiet d).phase, (hk.quiet d).yoke, hk.hosts,
    hk.remotes, hk.word d m i, hk.cluster d i, hk.dark.lasen⟩

theorem reaches_perstNAssert :
    Reaches .perstNAssert s fun k =>
      k.perst = true ∧ k.fld 0 Rf.HOST_LINK_UP = 0 ∧ k.msix = [] ∧ k.hosts = s.chip.hosts ∧ StoresKept s.chip k := by
  have hdie : (perstNAssert s.chip).die = (linkDown s.chip).die := rfl
  have hhosts : (perstNAssert s.chip).hosts = s.chip.hosts := by simp [perstNAssert, linkDown]
  have hstores : StoresKept s.chip (perstNAssert s.chip) := by
    have hlink : StoresKept s.chip (linkDown s.chip) := (onlyRegs_setReg ..).storesKept
    intro e
    rw [Chip.d, hdie]
    exact hlink e
  exact .of_effect rfl rfl ⟨rfl, (Chip.fld_of_die hdie 0 _).trans (fld_linkDown _), rfl, hhosts, hstores⟩

theorem reaches_pcieLinkUp {width : BitVec 3} {speed : BitVec 2} (hperst : s.chip.perst = false)
    (hal : alive s.chip = true) (hrail : s.chip.fld 0 Rf.PWR_RAIL_VHOST = 1) (hw : width.toNat ∈ [1, 2, 4])
    (hspeed : speed ≠ 0) :
    Reaches (.pcieLinkUp width speed) s fun k =>
      k.fld 0 Rf.HOST_LINK_UP = 1 ∧ k.fld 0 Rf.HOST_LINK_WIDTH = width.toNat ∧
        k.fld 0 Rf.HOST_LINK_SPEED = speed.toNat := by
  refine .of_effect rfl (pcieLinkUp_eq hperst hal hrail hw hspeed) ⟨?_, ?_, ?_⟩
  · exact Chip.fld_setFld_same _ _ _ _ (by decide)
  · rw [Chip.fld_setFld_apart _ _ (by decide) (by decide), Chip.fld_setFld_apart _ _ (by decide) (by decide),
      Chip.fld_setFld_same _ _ _ _ (by decide)]
    exact Nat.mod_eq_of_lt width.isLt
  · rw [Chip.fld_setFld_apart _ _ (by decide) (by decide), Chip.fld_setFld_same _ _ _ _ (by decide)]
    exact Nat.mod_eq_of_lt speed.isLt

/-- Settles O55: resets leave what `pornDie`, `srstDie` and `debugDie` leave of each die, and a pin that is not off
and not under a boundary test follows its cause. -/
theorem resetsReleaseTheDeviceAndItsPins : Obligations.ResetsReleaseTheDeviceAndItsPins := by
  unfold Obligations.ResetsReleaseTheDeviceAndItsPins
  refine ⟨fun ns g2 bootsel d found width speed m i s => ?_, fun b s => ?_⟩
  · extract_lets c kept
    refine ⟨fun h => reaches_pornFall h d, fun h => .of_effect rfl (pornFall_short h _), fun hheld hrails => ?_,
      fun h => ?_, fun hal h => reaches_srst hal h d m i, fun h => .of_effect rfl (srstNFall_none h),
      fun h => .of_effect rfl rfl (srstEnd_spec h), fun h => .of_effect rfl (if_neg (by simp [c, h])), ?_, ?_,
      fun h => ?_, fun hperst hal hrail hw hspeed => reaches_pcieLinkUp hperst hal hrail hw hspeed,
      .of_effect rfl rfl (debugReset_spec c d i)⟩
    · have hk := started_pornStart g2 bootsel found c
      exact .of_effect rfl (if_pos (Bool.and_eq_true_iff.2 ⟨hheld, hrails⟩))
        ⟨hk.alive, hk.g2pin, hk.compat, hk.boot, hk.state⟩
    · refine .of_effect rfl (if_neg fun hc => ?_)
      obtain ⟨hheld, hrails⟩ := Bool.and_eq_true_iff.1 hc
      rcases h with h | h
      · exact Bool.false_ne_true (h.symm.trans hheld)
      · exact Bool.false_ne_true (h.symm.trans hrails)
    · exact reaches_perstNAssert
    · exact .of_effect rfl rfl
    · exact .of_effect rfl (if_pos (by rw [h]; simp))
  · extract_lets c plain
    exact ⟨fun hstop hb hne => pinDrive_of_off (driven_of_off hb) hne (pinOff_of_stopped hstop hb),
      fun hstate hb hne => pinDrive_of_off (driven_of_off (.inl hb)) hne (pinOff_of_unreleased hstate hb),
      pinDrive_wdout_pulse, pinDrive_wdout_idle, fun ⟨hir, hfeat, hvaon⟩ => openDrain_pins hir hfeat hvaon,
        laser_enabled⟩

end Sys2Proof.Says
end

section
/-! What the lanes of a die lose with a lane rail (R907): the registers that a transition of a lane changes. -/

namespace Sys2Proof.Machine

/-- Register `j` lies in the window of lane `n`. -/
abbrev InLane (n j : Nat) : Prop := 12 * 1048576 + 4096 + 256 * n ≤ j ∧ j < 12 * 1048576 + 4096 + 256 * (n + 1)

/-- Register `j` is one of CLK or of EVT. -/
abbrev InClkEvt (j : Nat) : Prop := 4 * 1048576 ≤ j ∧ j < 5 * 1048576 ∨ 24 * 1048576 ≤ j ∧ j < 25 * 1048576

/-- From `s` to `k` no register has changed but those of lane `n`, of CLK and of EVT, and no stop has begun or ended. -/
structure LaneWork (n : Nat) (s k : Chip) : Prop where
  stop : k.stop = s.stop
  reg : ∀ e j, ¬ InLane n j → ¬ InClkEvt j → k.reg e j = s.reg e j

namespace LaneWork

variable {n : Nat} {s m k : Chip}

theorem refl (s : Chip) : LaneWork n s s := ⟨rfl, fun _ _ _ _ => rfl⟩

theorem trans (h : LaneWork n s m) (h' : LaneWork n m k) : LaneWork n s k :=
  ⟨h'.stop.trans h.stop, fun e j hl hc => (h'.reg e j hl hc).trans (h.reg e j hl hc)⟩

theorem upd (h : LaneWork n s m) (d : Fin 4) {f : DieSt → DieSt} (hf : ∀ x, (f x).regs = x.regs) :
    LaneWork n s (m.upd d f) := h.trans ⟨rfl, fun e j _ _ => Chip.reg_upd m d e j f hf⟩

theorem setLane (h : LaneWork n s m) (d : Fin 4) (i : Nat) (x : LaneSt) : LaneWork n s (m.setLane d i x) :=
  h.upd d fun _ => rfl

theorem setFld (h : LaneWork n s m) (d : Fin 4) (v : Nat) {f : Fld} (hf : InLane n f.key ∨ InClkEvt f.key) :
    LaneWork n s (m.setFld d f v) := by
  refine h.trans ⟨Chip.stop_setFld .., fun e j hl hc => Chip.reg_setFld_ne m f v (.inr ?_)⟩
  rintro rfl
  exact hf.elim hl hc

/-- A store of a field of the lane: `f` is the field of lane 0. -/
theorem setAt (h : LaneWork n s m) (d : Fin 4) (v : Nat) {f : Fld} (hf : InLane 0 f.key ∧ f.stride = 256) :
    LaneWork n s (m.setFld d (f.at n) v) := by
  refine h.setFld d v (.inl ?_)
  obtain ⟨hk, hs⟩ := hf
  simp only [InLane, Fld.key, Fld.at, hs] at hk ⊢
  omega

theorem raise (h : LaneWork n s m) (d : Fin 4) (src pay : Nat) {kind : Nat} (t : Fin 256)
    (hk : InClkEvt (Rf.EVT_KCOUNT_COUNT.at kind).key) : LaneWork n s (raise m d src kind t pay) := by
  refine h.trans ⟨((DieWork.refl m).raise ..).stop, fun e j _ hc => reg_raise m d e src kind t pay (.inr ?_)⟩
  rintro rfl
  exact hc hk

theorem guarded {p : Prop} [Decidable p] (h : LaneWork n s m) (h' : LaneWork n s k) :
    LaneWork n s (if p then m else k) := by
  split
  · exact h
  · exact h'

theorem overAll {β : Type} {f : Chip → β → Chip} {l : List β} (h : LaneWork n s m)
    (hf : ∀ k, ∀ a ∈ l, LaneWork n s k → LaneWork n s (f k a)) : LaneWork n s (overAll f m l) :=
  overAll_keeps_mem (LaneWork n s) hf h

theorem clearTaps (h : LaneWork n s m) (d : Fin 4) : LaneWork n s (clearTaps m d n) := by
  refine h.overAll fun k t ht hk => hk.setFld d _ (.inl ?_)
  have ht' := mem_range.1 ht
  simp only [InLane, Fld.key, tapF, Fld.at, Rf.LANE_DFE1_TAP]
  omega

theorem setNet (h : LaneWork n s m) (d : Fin 4) (g : Nat) (x : NetSt) : LaneWork n s (m.setNet d g x) :=
  h.upd d fun _ => rfl

theorem inClkEvt_gsel {f : Fld} (hf : f.unit = 4 ∧ f.off = 0x300 ∧ f.stride = 4) {g : Nat} (hg : g < 16) :
    InClkEvt (f.at g).key := by
  obtain ⟨hu, ho, hs⟩ := hf
  simp only [InClkEvt, Fld.key, Fld.at, hu, ho, hs]
  omega

theorem netLost (h : LaneWork n s m) (d : Fin 4) {g : Nat} (hg : g < 16) : LaneWork n s (netLost m d g) := by
  have hback := h.setFld d 1 (.inr (inClkEvt_gsel (f := Rf.CLK_GSEL_ON_BACKUP) ⟨rfl, rfl, rfl⟩ hg))
  have hstop := h.setFld d 1 (.inr (inClkEvt_gsel (f := Rf.CLK_GSEL_STOPPED) ⟨rfl, rfl, rfl⟩ hg))
  unfold Machine.netLost
  extract_lets back m'
  have hnet : LaneWork n s (m'.setNet d g { m'.net d g with sw := true, force := true }) := LaneWork.setNet hback ..
  exact .guarded (hnet.raise (kind := K.CKSWITCH) d _ _ 0 (by decide)) (hstop.raise (kind := K.CKSTOP) d _ _ 0
    (by decide))

theorem sourcesLost (h : LaneWork n s m) (d : Fin 4) (p : Nat → Bool) : LaneWork n s (sourcesLost m d p) := by
  refine h.overAll fun k g hg hk => hk.netLost d ?_
  have := mem_range.1 (List.mem_of_mem_filter hg)
  omega

theorem laneDark (h : LaneWork n s m) (d : Fin 4) : LaneWork n s (laneDark m d n) := by
  unfold Machine.laneDark
  extract_lets ran m1 m2 m3
  have h1 : LaneWork n s m1 := .guarded ((h.setAt d _ (by decide)).setAt d _ (by decide)) h
  have h3 : LaneWork n s m3 :=
    (((h1.setAt d _ (by decide)).setAt d _ (by decide)).setAt d _ (by decide)).setAt d _ (by decide)
  exact .guarded (h3.sourcesLost d _) h3

theorem laneGo (h : LaneWork n s m) (d : Fin 4) (v : Nat) : LaneWork n s (laneGo m d n v) := by
  have hdark := (h.laneDark d).setAt (f := Rf.LANE_STAT_PLLLOCK) d 0 (by decide)
  unfold Machine.laneGo
  dsimp only
  refine .guarded h <| .guarded ?_ <| .guarded ?_ <| .guarded ?_ <| .guarded ?_ ?_ <;>
    refine setAt ?_ d _ (by decide)
  · exact ((hdark.setAt d _ (by decide)).setAt d _ (by decide)).setLane ..
  · exact (hdark.setAt d _ (by decide)).setLane ..
  · exact h.setLane ..
  · exact h.setLane ..
  · exact .guarded (h.setLane ..) ((h.setLane ..).clearTaps d)

theorem laneAsk (h : LaneWork n s m) (d : Fin 4) (v : Nat) : LaneWork n s (laneAsk m d n v) :=
  .guarded (h.setLane ..) (h.laneGo ..)

end LaneWork

/-- A lane without its rail goes to OFF, with nothing saved. -/
def laneOff (d : Fin 4) (s : Chip) (n : Nat) : Chip :=
  ((laneGo s d n 3).setFld d (Rf.LANE_STAT_STATE.at n) 3).setLane d n
    { s.lane d n with toSt := 3, pend := none, full := false, saved := none, snap := [] }

theorem lanesOff_eq (s : Chip) (d : Fin 4) : lanesOff s d = overAll (laneOff d) s (range 0 8) := rfl

theorem laneWork_laneOff (d : Fin 4) (s : Chip) (n : Nat) : LaneWork n s (laneOff d s n) :=
  (((LaneWork.refl s).laneGo d 3).setAt d 3 (by decide)).setLane ..

theorem laneState_laneOff_same (d : Fin 4) (s : Chip) (n : Nat) : laneState (laneOff d s n) d n = 3 := by
  have hset (m : Chip) : (m.setFld d (Rf.LANE_STAT_STATE.at n) 3).fld d (Rf.LANE_STAT_STATE.at n) = 3 :=
    Chip.fld_setFld_same m d _ 3 (by simp [Fld.at, Rf.LANE_STAT_STATE])
  have hlane (m : Chip) (x : LaneSt) : laneState (m.setLane d n x) d n = laneState m d n := Chip.fld_upd fun _ => rfl
  rw [laneOff, hlane]
  exact hset _

theorem laneState_laneOff_ne (d : Fin 4) (s : Chip) {n i : Nat} (hi : i < 8) (hne : i ≠ n) :
    laneState (laneOff d s n) d i = laneState s d i := by
  have hkey : ¬ InLane n (Rf.LANE_STAT_STATE.at i).key ∧ ¬ InClkEvt (Rf.LANE_STAT_STATE.at i).key := by
    simp only [InLane, InClkEvt, Fld.key, Fld.at, Rf.LANE_STAT_STATE]
    omega
  rw [laneState, Chip.fld, (laneWork_laneOff d s n).reg d _ hkey.1 hkey.2, laneState, Chip.fld]

/-- Without a lane rail every lane of the die reads OFF. -/
theorem laneState_lanesOff (s : Chip) (d : Fin 4) : ∀ i < 8, laneState (lanesOff s d) d i = 3 := by
  intro i hi
  rw [lanesOff_eq]
  refine overAll_makes (P := fun i m => laneState m d i = 3) (fun m n _ => laneState_laneOff_same d m n)
    (fun m n _ i hi hst => ?_) s i (mem_range.2 ⟨i.zero_le, by omega⟩)
  by_cases hne : i = n
  · rw [hne]
    exact laneState_laneOff_same d m n
  · rw [laneState_laneOff_ne d m (by have := mem_range.1 hi; omega) hne]
    exact hst

end Sys2Proof.Machine
end

section
/-! The rails of PWR.RAIL (R903, R907, R928, R930): what a change of one shows,
  and what a rail that leaves its range takes
down. -/

namespace Sys2Proof.Machine

/-- From `s` to `k` PWR.RAIL shows the same on every die, and no stop has begun or ended. -/
structure RailsKept (s k : Chip) : Prop where
  stop : k.stop = s.stop
  rails : ∀ e, k.reg e Rf.PWR_RAIL_VCORE.key = s.reg e Rf.PWR_RAIL_VCORE.key

namespace RailsKept

variable {s m k : Chip}

theorem refl (s : Chip) : RailsKept s s := ⟨rfl, fun _ => rfl⟩

theorem trans (h : RailsKept s m) (h' : RailsKept m k) : RailsKept s k :=
  ⟨h'.stop.trans h.stop, fun e => (h'.rails e).trans (h.rails e)⟩

theorem upd (h : RailsKept s m) (d : Fin 4) {f : DieSt → DieSt} (hf : ∀ x, (f x).regs = x.regs) :
    RailsKept s (m.upd d f) :=
  h.trans ⟨rfl, fun e => Chip.reg_upd m d e _ f hf⟩

theorem setReg (h : RailsKept s m) (d : Fin 4) {j : Nat} (hj : Rf.PWR_RAIL_VCORE.key ≠ j) (v : Word) :
    RailsKept s (m.setReg d j v) := h.trans ⟨Chip.stop_setReg .., fun _ => Chip.reg_setReg_ne m v (.inr hj)⟩

theorem setFld (h : RailsKept s m) (d : Fin 4) (v : Nat) {f : Fld} (hf : Rf.PWR_RAIL_VCORE.key ≠ f.key) :
    RailsKept s (m.setFld d f v) := h.setReg d hf _

theorem guarded {p : Prop} [Decidable p] (h : RailsKept s m) (h' : RailsKept s k) :
    RailsKept s (if p then m else k) := by
  split
  · exact h
  · exact h'

theorem overLanes {f : Chip → Nat → Chip} (h : RailsKept s m) (hf : ∀ k n, LaneWork n k (f k n)) :
    RailsKept s (overAll f m (range 0 8)) := by
  refine overAll_keeps_mem (RailsKept s) (fun k n hn hk => hk.trans ⟨(hf k n).stop, fun e =>
    (hf k n).reg e _ ?_ (by decide)⟩) h
  have := mem_range.1 hn
  simp only [InLane, Fld.key, Rf.PWR_RAIL_VCORE]
  omega

theorem lanesOff (h : RailsKept s m) (d : Fin 4) : RailsKept s (lanesOff m d) :=
  h.overLanes (laneWork_laneOff d)

theorem lanesBack (h : RailsKept s m) (d : Fin 4) : RailsKept s (lanesBack m d) :=
  h.overLanes fun _ _ => (LaneWork.refl _).laneAsk ..

theorem dramLose (h : RailsKept s m) (d : Fin 4) : RailsKept s (dramLose m d) := by
  unfold Machine.dramLose Chip.onDram
  exact h.upd d fun _ => rfl

/-- The effects of a rail of a function, which is none of the core rails. -/
theorem railLost (h : RailsKept s m) (d : Fin 4) {b : Nat} (hb : 3 < b) : RailsKept s (railLost m d b) := by
  rw [Machine.railLost, if_neg (by omega), if_neg (by omega)]
  refine .guarded (.guarded ?_ h) (.guarded (h.lanesOff d) (.guarded (h.setReg 0 (by decide) _) h))
  exact (((h.dramLose d).setFld d _ (by decide)).setFld d _ (by decide)).setFld d _ (by decide)

theorem railBack (h : RailsKept s m) (d : Fin 4) (b : Nat) : RailsKept s (railBack m d b) := .guarded (h.lanesBack d) h

theorem railBit (h : RailsKept s k) (d : Fin 4) (b : Nat) : railBit k d b = railBit s d b := by
  rw [Machine.railBit, Machine.railBit, h.rails]

end RailsKept

variable {s : Chip} {d : Fin 4} {b : Nat}

/-! ### The bits of PWR.RAIL -/

theorem railBit_eq (s : Chip) (d : Fin 4) (b : Nat) :
    railBit s d b = (getBits (s.reg d Rf.PWR_RAIL_VCORE.key) b 1 == 1) := rfl

theorem railBit_setRail_same (hb : b < 32) (s : Chip) (d : Fin 4) (ok : Bool) : railBit
    (setRail s d b ok) d b = ok := by
  rw [railBit_eq, setRail, Chip.reg_setReg_same, getBits_putBits_same _ _ _ _ (by omega)]
  cases ok <;> rfl

theorem railBit_setRail_ne {e : Fin 4} (h : e ≠ d) (i : Nat) (ok : Bool) : railBit
    (setRail s d b ok) e i = railBit s e i := by
  rw [railBit_eq, setRail, Chip.reg_setReg_ne _ _ (.inl h), railBit_eq]

/-- The core rails of every die (R903). -/
theorem railBit_of_coreRails (h : coreRails s = true) (d : Fin 4) : ∀ b < 3, railBit s d b = true := by
  have hd := List.all_eq_true.1 h d (mem_dies d)
  simp only [Bool.and_eq_true] at hd
  obtain ⟨⟨hcore, haux⟩, haon⟩ := hd
  intro b hb
  interval_cases b
  · exact hcore
  · exact haux
  · exact haon

/-! ### A change -/

/-- PWR.RAIL once rail `b` has changed: VAUX and VAON are rails of every die. -/
def railSet (d : Fin 4) (b : Nat) (ok : Bool) (s : Chip) : Chip :=
  if b = 1 ∨ b = 2 then overAll (fun s e => setRail s e b ok) s dies else setRail s d b ok

/-- The time of the change, and what has been told of the rail. -/
def railTimed (b : Nat) (ok : Bool) (x : DieSt) : DieSt :=
  { x with
    railAt := mapPut (fun _ => 0) x.railAt b x.tb.now
    railTold := mapPut (fun _ => 0) x.railTold b (if ok then mapGet (fun _ => 0) x.railTold b
      else clrBit (mapGet (fun _ => 0) x.railTold b) 1) }

/-- The device that shows the change. -/
def railShown (d : Fin 4) (b : Nat) (ok : Bool) (s : Chip) : Chip := (railSet d b ok s).upd d (railTimed b ok)

theorem railChange_eq {ok : Bool} (hhas : hasRail d b = true) (hne : railBit s d b ≠ ok) :
    railChange d b ok s = if ok then railBack (railShown d b ok s) d b else railLost (railShown d b ok s) d b :=
  if_neg (by simp [hhas, hne])

theorem railChange_none {ok : Bool} (h : hasRail d b = false ∨ railBit s d b = ok) : railChange d b ok s = s :=
  if_pos (by rcases h with h | h <;> simp [h])

theorem railBit_railSet (hb : b < 32) (d : Fin 4) (ok : Bool) (s : Chip) : railBit (railSet d b ok s) d b = ok := by
  unfold railSet
  split
  · refine overAll_makes (P := fun e m => railBit m e b = ok) (fun m e _ => railBit_setRail_same hb m e ok)
      (fun m e _ i _ hi => ?_) s d (mem_dies d)
    by_cases he : i = e
    · rw [he]
      exact railBit_setRail_same hb m e ok
    · rw [railBit_setRail_ne he]
      exact hi
  · exact railBit_setRail_same hb s d ok

/-- The change shows in PWR.RAIL. -/
theorem railBit_railShown (hb : b < 32) (d : Fin 4) (ok : Bool) (s : Chip) : railBit (railShown d b ok s) d b = ok := by
  rw [railBit_eq, railShown, Chip.reg_upd _ _ _ _ (railTimed b ok) fun _ => rfl, ← railBit_eq]
  exact railBit_railSet hb d ok s

theorem dieWork_railShown (d : Fin 4) (b : Nat) (ok : Bool) (s : Chip) : DieWork s (railShown d b ok s) := by
  refine .upd ?_ ..
  exact .guarded (.overAll _ (.refl s) fun _ _ hn => hn.setReg ..) (.setReg (.refl s) ..)

/-- The loss of a DRAM rail ends the use of the DRAM (R663, R907). -/
theorem railLost_dram (s : Chip) (d : Fin 4) (h : b = 4 ∨ b = 5) :
    (railLost s d b).fld d Rf.DRAM_STAT_READY = 0 ∧ (railLost s d b).fld d Rf.DRAM_CTL_EN = 0 := by
  rw [railLost, if_neg (by omega), if_neg (by omega), if_pos h]
  split
  · refine ⟨?_, ?_⟩
    · rw [Chip.fld_setFld_apart _ _ (by decide) (by decide)]
      exact Chip.fld_setFld_same _ _ _ _ (by decide)
    · rw [Chip.fld_setFld_apart _ _ (by decide) (by decide), Chip.fld_setFld_apart _ _ (by decide) (by decide)]
      exact Chip.fld_setFld_same _ _ _ _ (by decide)
  · next hoff =>
    obtain ⟨hready, hen⟩ := not_or.1 (mt (Bool.or_eq_true ..).mpr hoff)
    exact ⟨Chip.fld_of_not_flag rfl hready, Chip.fld_of_not_flag rfl hen⟩

theorem railLost_host (s : Chip) (d : Fin 4) : (railLost s d 11).fld 0 Rf.HOST_LINK_UP = 0 := fld_linkDown s

theorem railLost_lanes (s : Chip) (d : Fin 4) (h : b = 6 ∨ b = 7) : ∀ i < 8, laneState (railLost s d b) d i = 3 := by
  rw [railLost, if_neg (by omega), if_neg (by omega), if_neg (by omega), if_pos h]
  exact laneState_lanesOff s d

/-! ### The reports of a rail (R928) -/

theorem railLowTimeout_early (h : railAge s d b < 10000) : railLowTimeout d b s = s := by
  unfold railLowTimeout whenUp
  split
  · exact if_pos (by simp [h])
  · rfl

theorem railOkTimeout_early (h : railAge s d b < 1000000) : railOkTimeout d b s = s := by
  unfold railOkTimeout whenUp
  split
  · exact if_pos (by simp [h])
  · rfl

theorem railLowTimeout_eq (hup : up s d = true) (h4 : 4 ≤ b) (hhas : hasRail d b = true) (hlow : railBit s d b = false)
    (htold : bit (railFlags s d b) 1 = false) (hage : 10000 ≤ railAge s d b) :
    railLowTimeout d b s =
      raise ((setRailFlags s d b 3).setFld d Rf.PWR_RAILLOW_LOW
        (setBit ((setRailFlags s d b 3).fld d Rf.PWR_RAILLOW_LOW) (b - 4))) d 0x005 K.RAILLOW 0 b :=
  (whenUp_of_up hup _).trans (if_neg (by simp [hhas, hlow, htold]; omega))

theorem railOkTimeout_eq (hup : up s d = true) (h4 : 4 ≤ b) (hhas : hasRail d b = true) (hok : railBit s d b = true)
    (htold : bit (railFlags s d b) 0 = true) (hage : 1000000 ≤ railAge s d b) :
    railOkTimeout d b s = raise (setRailFlags s d b 0) d 0x005 K.RAILOK 0 b :=
  (whenUp_of_up hup _).trans (if_neg (by simp [hhas, hok, htold]; omega))

/-- RAILLOW sets the bit of its rail. -/
theorem bit_raillow (m : Chip) (d : Fin 4) (hb : b < 16) (h4 : 4 ≤ b) :
    bit ((raise (m.setFld d Rf.PWR_RAILLOW_LOW (setBit (m.fld d Rf.PWR_RAILLOW_LOW)
      (b - 4))) d 0x005 K.RAILLOW 0 b).fld d
      Rf.PWR_RAILLOW_LOW) (b - 4) = true := by
  rw [fld_raise _ _ _ _ _ _ _ (by decide), Chip.fld_setFld_same _ _ _ _ (by decide),
    bit_mod_two_pow (by simp only [Rf.PWR_RAILLOW_LOW]; omega)]
  exact bit_setBit ..

end Sys2Proof.Machine
end

section
/-! The always-on domain (R474, R825, R896, R930), brown-out (R908 to R910, R922) and the end of the WDOUT pulse (R833,
R924). -/

namespace Sys2Proof.Machine

variable {s : Chip}

/-! ### VAON is lost -/

theorem DieWork.aol {s k : Chip} (h : DieWork s k) : k.aol = s.aol := (congrArg Chip.aol h :)

/-- The device is held, and of the always-on domain only the VBAT domain keeps what `v` says. -/
structure VaonLost (v : VbatSt) (k : Chip) : Prop where
  vbat : k.vbat = v
  aol : k.aol = []
  held : k.stop.held = true
  wdout : k.wdout = none

namespace VaonLost

variable {v : VbatSt} {m k : Chip}

theorem work (h : VaonLost v m) (hk : DieWork m k) : VaonLost v k :=
  ⟨hk.vbat.trans h.vbat, hk.aol.trans h.aol, (congrArg StopSt.held hk.stop).trans h.held, hk.wdout.trans h.wdout⟩

theorem setIlk (h : VaonLost v m) (x : IlkSt) : VaonLost v { m with ilk := x } := ⟨h.vbat, h.aol, h.held, h.wdout⟩

theorem upd (h : VaonLost v m) (d : Fin 4) (f : DieSt → DieSt) : VaonLost v (m.upd d f) := h.work (.upd (.refl m) ..)

theorem setReg (h : VaonLost v m) (d : Fin 4) (j : Nat) (w : Word) : VaonLost v (m.setReg d j w) := h.upd ..

theorem setFld (h : VaonLost v m) (d : Fin 4) (f : Fld) (n : Nat) : VaonLost v (m.setFld d f n) := h.setReg ..

theorem overDies {f : Chip → Fin 4 → Chip} (h : VaonLost v m) (hf : ∀ k d, VaonLost v k → VaonLost v (f k d)) :
    VaonLost v (overAll f m dies) := overAll_keeps (VaonLost v) f hf m dies h

theorem tamperLost (h : VaonLost v m) (d : Fin 4) : VaonLost v (tamperLost m d) :=
  ((((h.setFld ..).setFld ..).setFld ..).setFld ..).setFld ..

theorem vbatLost (h : VaonLost v m) : VaonLost { vaonAbsent := v.vaonAbsent } (vbatLost m) := by
  have hset : VaonLost { vaonAbsent := v.vaonAbsent } { m with vbat := { vaonAbsent := m.vbat.vaonAbsent } } :=
    ⟨by rw [h.vbat], h.aol, h.held, h.wdout⟩
  exact hset.upd ..

theorem empty (hheld : m.stop.held = true) :
    VaonLost { m.vbat with vaonAbsent := true }
      (aolEmpty { m with wdout := none, vbat := { m.vbat with vaonAbsent := true } }) :=
  ⟨rfl, rfl, hheld, rfl⟩

end VaonLost

theorem DieWork.setDies {s m : Chip} (h : DieWork s m) (q : Quad DieSt) : DieWork s { m with die := q } := h.trans rfl

theorem debugReset_keeps (s : Chip) : (debugReset s).vbat = s.vbat ∧ (debugReset s).stop = s.stop := by
  have hhalts : DieWork s (overAll endHalts s dies) := .overAll dies (.refl s) fun n d hn => by
    unfold endHalts
    exact hn.upd ..
  have hwork : DieWork s (authCleared s) := (((hhalts.setDies _).setFld ..).setFld ..).setFld ..
  rw [debugReset_eq]
  generalize authCleared s = k at hwork ⊢
  exact ⟨hwork.vbat, hwork.stop⟩

/-- The loss of VAON empties its domain; VBAT's keeps its contents as long as VBAT is there (R825, R930). -/
theorem vaonLost_vaonLoss (vbat : Bool) (s : Chip) :
    VaonLost (if vbat then { s.vbat with vaonAbsent := true } else { vaonAbsent := true }) (vaonLoss vbat s) := by
  obtain ⟨hvbat, hstop⟩ := debugReset_keeps (holdReset s)
  obtain ⟨⟨_, hheld, _⟩, _, hvbat', _⟩ := holdReset_spec s 0
  unfold vaonLoss
  have hv : (debugReset (holdReset s)).vbat = s.vbat := hvbat.trans hvbat'
  have hh : (debugReset (holdReset s)).stop.held = true := by rw [hstop, hheld]
  generalize debugReset (holdReset s) = m at hv hh
  rw [← hv]
  have h1 := VaonLost.empty hh
  extract_lets _ _ _ m1 m2 m3 m4 m5
  have h2 : VaonLost { m.vbat with vaonAbsent := true } m2 := (h1.setFld ..).upd ..
  have h5 : VaonLost { m.vbat with vaonAbsent := true } m5 :=
    (((h2.setIlk {}).overDies fun _ _ hk => hk.tamperLost _).overDies fun _ _ hk => hk.setReg ..).setReg ..
  clear_value m5
  cases vbat
  · exact h5.vbatLost
  · exact h5

/-! ### VAON returns -/

theorem vbat_setSafe (s : Chip) (a b : Bool) : (setSafe s a b).vbat = s.vbat := by
  unfold setSafe
  split <;> simp

theorem vbat_ilkMove (s : Chip) (a b : Bool) : (ilkMove s a b).vbat = s.vbat := by
  unfold ilkMove
  split
  · simp
  · split <;> simp

/-- The interlock takes its state from its two channels as VAON returns (R468, R474). -/
theorem vaonPowerUp_spec (h : s.vbat.vaonAbsent = true) (a b : Bool) :
    (vaonPowerUp a b s).vbat.vaonAbsent = false ∧ ilkState (vaonPowerUp a b s) = (if a = b then b2n a else 2) ∧
      (vaonPowerUp a b s).fld 0 Rf.ILK_STAT_A_SAFE = b2n a ∧ (vaonPowerUp a b s).fld 0 Rf.ILK_STAT_B_SAFE = b2n b := by
  unfold vaonPowerUp
  rw [if_neg (by simp [h])]
  extract_lets _ m
  have hm : m.vbat.vaonAbsent = false :=
    congrArg VbatSt.vaonAbsent (DieWork.overAll dies (.refl _) fun _ _ hn => hn.setReg ..).vbat
  clear_value m
  obtain ⟨hA, hB, _⟩ := setSafe_spec m a b
  obtain ⟨_, _, _, hkept⟩ := ilkMove_keeps (setSafe m a b) a b
  exact ⟨by rw [vbat_ilkMove, vbat_setSafe, hm], ilkState_ilkMove _ a b, (hkept _ (by decide)).trans hA,
    (hkept _ (by decide)).trans hB⟩

/-! ### Brown-out -/

/-- The effects of a dip that stops the S9 (R908, R909). -/
def browned (d : Fin 4) (aux : Bool) (s : Chip) : Chip :=
  ((s.addFld 0 Rf.PWR_BOSTAT_COUNT 1).setFld 0 Rf.PWR_BOSTAT_DIE d.val).setFld 0 Rf.PWR_BOSTAT_RAIL (b2n aux)

theorem brownoutDip_eq {d : Fin 4} {aux : Bool} {ns mv : Nat} (hheld : s.stop.held = false) (hbrown :
    s.stop.brownout = false)
    (hns : 200 < ns) (hmv : mv < 605) :
    brownoutDip d aux ns mv s =
      overAll dramLose (fatalStop (browned d aux s) d 0x005 K.BROWNOUT
        (d.val + b2n aux * 4 + (browned d aux s).fld 0 Rf.PWR_BOSTAT_COUNT * 2 ^ 16)
        fun x => { x with brownout := true }) dies := by
  have hdeep : mv < if aux then 1550 else 605 := by split <;> omega
  unfold brownoutDip
  simp only [hheld, hbrown, hns, hdeep]
  rfl

theorem brownoutDip_none {d : Fin 4} {aux : Bool} {ns mv : Nat} (h : ns ≤ 120 ∨ 1600 < mv) :
    brownoutDip d aux ns mv s = s := by
  have halways : ¬ (200 < ns ∧ mv < if aux then 1550 else 605) := by split <;> omega
  have hnever : ns ≤ 120 ∨ (if aux then 1600 else 635) < mv := by split <;> omega
  unfold brownoutDip
  split
  · rfl
  · simp [halways, hnever]

/-- The record of the dip (R910). -/
theorem browned_spec (d : Fin 4) (aux : Bool) (s : Chip) :
    (browned d aux s).fld 0 Rf.PWR_BOSTAT_DIE = d.val ∧ (browned d aux s).fld 0 Rf.PWR_BOSTAT_RAIL = b2n aux ∧
      (browned d aux s).fld 0 Rf.PWR_BOSTAT_COUNT = min (s.fld 0 Rf.PWR_BOSTAT_COUNT + 1) 65535 := by
  refine ⟨?_, ?_, ?_⟩
  · rw [browned, Chip.fld_setFld_apart _ _ (by decide) (by decide), Chip.fld_setFld_same _ _ _ _ (by decide)]
    exact Nat.mod_eq_of_lt d.isLt
  · rw [browned, Chip.fld_setFld_same _ _ _ _ (by decide)]
    exact Nat.mod_eq_of_lt (b2n_lt aux)
  · rw [browned, Chip.fld_setFld_apart _ _ (by decide) (by decide), Chip.fld_setFld_apart _ _ (by decide) (by decide)]
    exact Chip.fld_addFld_same _ _ _ _ (by decide)

theorem fld_raiseFatal (s : Chip) (d : Fin 4) (src pay : Nat) {kind : Nat} {g : Fld}
    (hk : g.key ≠ (Rf.EVT_KCOUNT_COUNT.at kind).key) (hovf : g.key ≠ Rf.EVT_AOL_STAT_OVF.key) :
    (raiseFatal s d src kind pay).fld 0 g = s.fld 0 g := by
  have hcount : (countKind s kind).fld 0 g = s.fld 0 g := Chip.fld_setFld_ne _ _ (.inr hk)
  unfold raiseFatal logRecord
  split
  · exact hcount
  · have hovfl (m : Chip) : (m.addFld 0 Rf.EVT_AOL_STAT_OVF 1).fld 0 g = m.fld 0 g := Chip.fld_setFld_ne _ _ (.inr hovf)
    exact (Chip.fld_of_die rfl 0 g).trans ((hovfl _).trans hcount)

/-- A class F stop begins for its cause. -/
theorem stop_fatalStop (s : Chip) (d : Fin 4) (src kind pay : Nat) (f : StopSt → StopSt) :
    (fatalStop s d src kind pay f).stop = f s.stop := by
  have hlog (r : Rec) : (logRecord (countKind s kind) r).stop = s.stop := by
    unfold logRecord countKind
    split <;> simp [Chip.addFld]
  simp [fatalStop, raiseFatal, hlog]

/-- Its registers are those of the store of LASEN that begins it. -/
theorem fld_fatalStop (s : Chip) (d : Fin 4) (src kind pay : Nat) (f : StopSt → StopSt) (g : Fld) :
    (fatalStop s d src kind pay f).fld 0 g = ((raiseFatal s d src kind pay).setFld 0 Rf.ILK_STAT_LASEN 0).fld 0 g := by
  unfold fatalStop
  generalize (raiseFatal s d src kind pay).setFld 0 Rf.ILK_STAT_LASEN 0 = m
  rw [Chip.fld, Chip.reg, Chip.d, Quad.get_map, Chip.fld, Chip.reg, Chip.d]

/-- The drop of LASEN, and the registers that a class F stop leaves (R248, R909). -/
theorem fatalStop_spec (s : Chip) (d : Fin 4) (src pay : Nat) {kind : Nat} (f : StopSt → StopSt) :
    (fatalStop s d src kind pay f).fld 0 Rf.ILK_STAT_LASEN = 0 ∧
      ∀ g : Fld, g.key ≠ (Rf.EVT_KCOUNT_COUNT.at kind).key → g.key ≠ Rf.EVT_AOL_STAT_OVF.key →
        Rf.ILK_STAT_LASEN.Apart g →
        (fatalStop s d src kind pay f).fld 0 g = s.fld 0 g :=
  ⟨(fld_fatalStop ..).trans (Chip.fld_setFld_same _ _ _ _ (by decide)), fun _ hk hovf ha =>
    (fld_fatalStop ..).trans ((Chip.fld_setFld_apart _ _ (by decide) ha).trans (fld_raiseFatal _ _ _ _ hk hovf))⟩

theorem cells_dramLose (s : Chip) (d : Fin 4) : ((dramLose s d).d d).dram.cells = [] := by
  rw [dramLose, Chip.onDram, Chip.d_upd_same]

theorem cells_dramLose_kept {s : Chip} {e : Fin 4} (d : Fin 4) (h : (s.d e).dram.cells = []) :
    ((dramLose s d).d e).dram.cells = [] := by
  by_cases he : e = d
  · rw [he]
    exact cells_dramLose s d
  · rw [dramLose, Chip.onDram, Chip.d_upd_ne _ _ he]
    exact h

/-- A dip that stops the S9: it is recorded, the outputs are off, and the DRAM loses its contents (R663,
  R908 to R910). -/
theorem brownoutDip_spec {d : Fin 4} {aux : Bool} {ns mv : Nat} (hheld : s.stop.held = false)
    (hbrown : s.stop.brownout = false) (hns : 200 < ns) (hmv : mv < 605) :
    let k := brownoutDip d aux ns mv s
    k.stop.brownout = true ∧ k.fld 0 Rf.PWR_BOSTAT_DIE = d.val ∧ k.fld 0 Rf.PWR_BOSTAT_RAIL = b2n aux ∧
      (k.d d).dram.cells = [] ∧ k.fld 0 Rf.ILK_STAT_LASEN = 0 ∧
      k.fld 0 Rf.PWR_BOSTAT_COUNT = min (s.fld 0 Rf.PWR_BOSTAT_COUNT + 1) 65535 := by
  intro k
  obtain ⟨hdie, hrail, hcount⟩ := browned_spec d aux s
  have hk : k = _ := brownoutDip_eq hheld hbrown hns hmv
  generalize browned d aux s = b at *
  obtain ⟨hlasen, hkept⟩ := fatalStop_spec b d 0x005 (d.val + b2n aux * 4 + b.fld 0 Rf.PWR_BOSTAT_COUNT * 2 ^ 16)
    (kind := K.BROWNOUT) fun x => { x with brownout := true }
  have hstop := stop_fatalStop b d 0x005 K.BROWNOUT (d.val + b2n aux * 4 + b.fld 0 Rf.PWR_BOSTAT_COUNT * 2 ^ 16)
    fun x => { x with brownout := true }
  generalize fatalStop b d 0x005 K.BROWNOUT _ _ = m at *
  have hfld (g : Fld) : (overAll dramLose m dies).fld 0 g = m.fld 0 g :=
    overAll_keeps (fun n => n.fld 0 g = m.fld 0 g) _ (fun n e hn => (congrArg (getBits · _ _)
      (Chip.reg_onDram ..)).trans hn) _ _ rfl
  have hwork : DieWork m (overAll dramLose m dies) := .overAll dies (.refl m) fun n e hn => by
    unfold dramLose Chip.onDram
    exact hn.upd ..
  have hcells : ((overAll dramLose m dies).d d).dram.cells = [] :=
    overAll_makes (P := fun e n => (n.d e).dram.cells = []) (fun n e _ => cells_dramLose n e)
      (fun n e _ i _ h => cells_dramLose_kept e h) m d (mem_dies d)
  rw [hk]
  exact ⟨by rw [hwork.stop, hstop], by rw [hfld, hkept _ (by decide) (by decide) (by decide), hdie],
    by rw [hfld, hkept _ (by decide) (by decide) (by decide), hrail], hcells, by rw [hfld, hlasen],
    by rw [hfld, hkept _ (by decide) (by decide) (by decide), hcount]⟩

theorem alive_of_brownout (h : s.stop.brownout = true) : alive s = false := by simp [alive, h]

theorem brownoutRestart_eq (hbrown : s.stop.brownout = true) (hheld : s.stop.held = false) (hthermal :
    s.stop.thermal = false)
    (hrails : coreRails s = true) (g2 : Bool) (bootsel : Fin 4) (found : List HemFinding) :
    brownoutRestart g2 bootsel found s = pornStart g2 bootsel found s := if_pos (by simp [hbrown, hheld, hthermal,
      hrails])

theorem brownoutRestart_none (hbrown : s.stop.brownout = false) (g2 : Bool) (bootsel : Fin 4) (found :
    List HemFinding) :
    brownoutRestart g2 bootsel found s = s := if_neg (by simp [hbrown])

/-! ### The end of the WDOUT pulse -/

/-- The watchdog alone has stopped the S9: it starts again (R833). -/
theorem wdoutPulseEnd_restarts (hw : s.wdout = some 0) (hwdog : s.stop.wdog = true)
    (hother : ¬ (s.stop.held = true ∨ s.stop.thermal = true ∨ s.stop.brownout = true)) (found : List HemFinding) (g2
      : Bool)
    (bootsel : Fin 4) : wdoutPulseEnd found g2 bootsel s = pornStart g2 bootsel found { s with wdout := none } := by
  obtain ⟨hheld, hthermal, hbrown⟩ : s.stop.held = false ∧ s.stop.thermal = false ∧ s.stop.brownout = false := by
    simpa using hother
  simp [wdoutPulseEnd, hw, hwdog, hheld, hthermal, hbrown]

/-- No watchdog has stopped the S9: the pulse ends. -/
theorem wdoutPulseEnd_ends (hw : s.wdout = some 0) (hwdog : s.stop.wdog = false) (found : List HemFinding) (g2 : Bool)
    (bootsel : Fin 4) : wdoutPulseEnd found g2 bootsel s = { s with wdout := none } := by
  simp [wdoutPulseEnd, hw, hwdog]

end Sys2Proof.Machine
end

section
/-! Rails, brown-out and the WDOUT pulse: what each command reaches. -/

namespace Sys2Proof.Says

open Sys2Proof.Machine

variable {s : State} {d : Fin 4} {b : Fin 16}

theorem reaches_vaonLoss (vbat : Bool) (s : State) :
    Reaches (.vaonLoss vbat) s fun k =>
      k.vbat.vaonAbsent = true ∧ k.aol = [] ∧ k.stop.held = true ∧ k.wdout = none ∧
        (vbat = true → k.vbat.key = s.chip.vbat.key ∧ k.vbat.log = s.chip.vbat.log ∧
          k.vbat.seconds = s.chip.vbat.seconds) ∧
        (vbat = false → k.vbat.key = 0 ∧ k.vbat.log = []) := by
  obtain ⟨hvbat, haol, hheld, hwdout⟩ := vaonLost_vaonLoss vbat s.chip
  refine .of_effect rfl rfl ⟨?_, haol, hheld, hwdout, ?_⟩
  · rw [hvbat]
    cases vbat <;> rfl
  · rw [hvbat]
    cases vbat <;> simp

/-- A rail of a function changes: what it feeds goes down with it (R907). -/
theorem reaches_railChange {ok : Bool} (hhas : hasRail d b.val = true) (hne : railBit s.chip d b.val ≠ ok) (hb :
    3 < b.val) :
    Reaches (.railChange d b ok) s fun k =>
      railBit k d b.val = ok ∧ k.stop = s.chip.stop ∧
        (ok = false → (b = 4 ∨ b = 5) → k.fld d Rf.DRAM_STAT_READY = 0 ∧ k.fld d Rf.DRAM_CTL_EN = 0) ∧
        (ok = false → b = 11 → k.fld 0 Rf.HOST_LINK_UP = 0) ∧
        (ok = false → (b = 6 ∨ b = 7) → ∀ i < 8, laneState k d i = 3) := by
  have hshown := railBit_railShown (by omega) d ok s.chip (b := b.val)
  have hstop := (dieWork_railShown d b.val ok s.chip).stop
  refine .of_effect rfl (railChange_eq hhas hne) ?_
  generalize railShown d b.val ok s.chip = m at hshown hstop
  cases ok
  · have hkept := (RailsKept.refl m).railLost d hb
    refine ⟨(hkept.railBit d b.val).trans hshown, hkept.stop.trans hstop, fun _ h => ?_, fun _ h => ?_, fun _ h => ?_⟩
    · exact railLost_dram m d (by omega)
    · subst h
      exact railLost_host m d
    · exact railLost_lanes m d (by omega)
  · have hkept := (RailsKept.refl m).railBack d b.val
    exact ⟨(hkept.railBit d b.val).trans hshown, hkept.stop.trans hstop, by simp, by simp, by simp⟩

/-- VAON out of range holds the S9 (R903). -/
theorem reaches_railChange_vaon (h : railBit s.chip d 2 = true) :
    Reaches (.railChange d 2 false) s fun k => alive k = false ∧ k.stop.held = true := by
  refine .of_effect rfl (railChange_eq (d := d) (b := 2) (by simp [hasRail]) (by simp [h])) ?_
  obtain ⟨⟨hal, hheld, _⟩, _⟩ := holdReset_spec (railShown d 2 false s.chip) 0
  exact ⟨hal, hheld⟩

/-- VCORE or VAUX out of range shows in PWR.RAIL alone (log 20). -/
theorem reaches_railChange_core (h : railBit s.chip d b.val = true) (hb : b.val < 2) :
    Reaches (.railChange d b false) s fun k => k.stop = s.chip.stop ∧ coreRails k = false := by
  have hhas : hasRail d b.val = true := by
    rw [hasRail, if_neg (by omega), if_neg (by omega)]
    simp
  have hshown := railBit_railShown (by omega) d false s.chip (b := b.val)
  have hlost (m : Chip) : railLost m d b.val = m := by
    rw [railLost, if_neg (by omega), if_neg (by omega), if_neg (by omega), if_neg (by omega), if_neg (by omega)]
  refine .of_effect rfl ((railChange_eq hhas (by simp [h])).trans (hlost _)) ⟨(dieWork_railShown ..).stop, ?_⟩
  by_contra hcore
  have := railBit_of_coreRails (by simpa using hcore) d b.val (by omega)
  simp [hshown] at this

/-- Settles O56: a stop resets through `holdReset`, `fatalStop` or `pornStart`, and a rail of a function takes down
what it feeds while it leaves PWR.RAIL and the stops. -/
theorem railsAndBrownoutStopTheDevice : Obligations.RailsAndBrownoutStopTheDevice := by
  unfold Obligations.RailsAndBrownoutStopTheDevice
  intro d b ok aux vbat aSafe bSafe g2 ns mv bootsel found s
  extract_lets c x f other
  refine ⟨reaches_vaonLoss vbat s, fun h => .of_effect rfl (if_pos (by simp [c, h])), fun h => .of_effect rfl rfl
    (vaonPowerUp_spec h aSafe bSafe), fun hheld hbrown hns hmv => ?_, fun h => .of_effect rfl (brownoutDip_none h),
    ?_, ?_, ?_, ?_, ?_, fun h => .of_effect rfl (railChange_none h), fun hhas hne hb => reaches_railChange hhas hne hb, ?_,
    fun h hb => reaches_railChange_core h hb, fun hup h4 hhas hlow htold hage => ?_,
    fun h => .of_effect rfl (railLowTimeout_early h), fun hup h4 hhas hok htold hage => ?_,
    fun h => .of_effect rfl (railOkTimeout_early h)⟩
  · obtain ⟨hstop, hrest⟩ := brownoutDip_spec (d := d) (aux := aux) hheld hbrown hns hmv
    exact .of_effect rfl rfl ⟨alive_of_brownout hstop, hstop, hrest⟩
  · intro hbrown hheld hthermal hrails
    have hk := started_pornStart g2 bootsel found c
    exact .of_effect rfl (brownoutRestart_eq hbrown hheld hthermal hrails ..) ⟨hk.alive, hk.boot⟩
  · exact fun hbrown => .of_effect rfl (brownoutRestart_none hbrown ..)
  · exact fun hw => .of_effect rfl (if_pos hw)
  · intro hw hwdog hother
    have hk := started_pornStart g2 bootsel found { c with wdout := none }
    exact .of_effect rfl (wdoutPulseEnd_restarts hw hwdog hother ..) ⟨hk.alive, hk.wdout⟩
  · exact fun hw hwdog => .of_effect rfl (wdoutPulseEnd_ends hw hwdog ..)
  · rintro h rfl
    exact reaches_railChange_vaon h
  · exact .of_effect rfl (railLowTimeout_eq hup h4 hhas hlow htold hage) ⟨bit_raillow _ d b.isLt h4, sent_raise ..⟩
  · exact .of_effect rfl (railOkTimeout_eq hup h4 hhas hok htold hage) (sent_raise ..)

end Sys2Proof.Says
end
